-- ==== Sys2Proof/Word.lean ====
section
/-! DEFINITION. Words and bytes. -/

namespace Sys2Proof

/-- A word of the interconnect (32 bits). -/
abbrev Word := BitVec 32

/-- A byte. -/
abbrev Byte := BitVec 8

end Sys2Proof
end

