-- ==== Sys2Proof/Syntax.lean ====
section
/-! DEFINITION. The commands: one constructor per row of the spec's table of operations and events. The first operand
`t` of every command is the timebase count (R5, R353) at which it happens; the other operands are what the
command's row and its rules leave to the sender: the master (R72), the unit, the value written, the level or the
reading of the analogue world, the words of a frame. -/

namespace Sys2Proof

/-- A master ID (R72). -/
abbrev Master := Fin 16
/-- A register page number (R66). -/
abbrev Page := Fin 256
/-- A functional domain (R10): 0 ANGLE, 1 CHANNEL, 2 MEASURE, 3 SYSTEM. -/
abbrev Domain := Fin 4
/-- A Gelad engine, or a PIO engine. -/
abbrev Engine := Fin 4
/-- A host port: 0 HA, 1 HB (R87). -/
abbrev Port := Fin 2
/-- A position port (R120). -/
abbrev PosPort := Fin 8
/-- An event-table entry (R190). -/
abbrev Entry := Fin 4096
/-- A channel, physical or logical as the command's rule says (R13). -/
abbrev Channel := Fin 216
/-- A current bank (R272). -/
abbrev Bank := Fin 24
/-- A slot of a current bank (R272). -/
abbrev Slot := Fin 2
/-- A converter (R287). -/
abbrev Conv := Fin 32
/-- A comparator (R313). -/
abbrev Comp := Fin 48
/-- A cylinder context (R327). -/
abbrev Cyl := Fin 24
/-- A general timer (R358). -/
abbrev Gpt := Fin 16
/-- An event-router source (R368). -/
abbrev Source := Fin 256
/-- An event-router destination (R369). -/
abbrev Dest := Fin 64
/-- A DMA channel (R375). -/
abbrev DmaCh := Fin 32
/-- A slot of a PIO engine (R393). -/
abbrev PioSlot := Fin 8
/-- A Crexa link (R410). -/
abbrev Link := Fin 4
/-- A physical channel tile (R13). -/
abbrev Tile := Fin 9

/-- A frame as received on a host port (R91, R93, R94): its 64-bit header, its payload words, its CRC-16 trailer and
the number of bits received in the select period. -/
structure Frame where
  hdr : BitVec 64
  payload : List Word
  trailer : BitVec 16
  bits : Nat
  deriving DecidableEq, Repr

/-- The header words of a link frame (R411): the first header word and the second. -/
structure LinkHdr where
  h0 : Word
  h1 : Word
  deriving DecidableEq, Repr

/-- What a sender reports of a position input's change (R122 to R127): for how many ticks the pin has held its new level, and for a
variable-reluctance port the input in mV and the largest excursion of the half-wave just ended. -/
structure PinMove where
  held : Nat
  mv : Int
  peak : Nat
  deriving DecidableEq, Repr

/-- What wakes the device (R152): the source, for how many ticks a position input has held its level, and that input in mV. -/
structure WakeIn where
  src : Fin 4
  held : Nat
  mv : Nat
  deriving DecidableEq, Repr

/-- A capture event (R232): the code of its source, and the pin of a TI edge. -/
structure CapEvent where
  src : Fin 9
  ti : Fin 32
  deriving DecidableEq, Repr

/-- What ends a DMA beat badly (R387). -/
inductive BeatError where
  | ecc | bus
  deriving DecidableEq, Repr

/-- A memory bank as maintenance names it (R464): its segment and its number in the segment. -/
structure MemBank where
  qseg : Fin 256
  bank : Fin 16
  deriving DecidableEq, Repr

/-- What a scrub finds in a word (R464). -/
inductive ScrubFind where
  | clean | soft | hard | uncorrectable
  deriving DecidableEq, Repr

/-- The commands. -/
inductive Instr where
  /-- REGISTER_WRITE (R74): A write to a register field that has no behaviour of its own is checked under the access rules and stores its value by field type. -/
  | regWrite (t : Nat) (m : Master) (addr : Word) (v : Word)
  /-- FREEZE_WRITE (R70): A write of PG_CTRL.FREEZE holds or releases a page's readable status, counter and result registers. -/
  | freezeWrite (t : Nat) (m : Master) (page : Page) (on : Bool)
  /-- PG_FAULT_CLEAR (R71): A write of 1 to PG_FAULT.VALID clears VALID, OVF and CAUSE, and a live fault captures CAUSE again in the next cycle. -/
  | pgFaultClear (t : Nat) (m : Master) (page : Page)
  /-- PAGE_LOCK (R78): A master holding RW+ACL sets PG_ACLK.LOCK, after which the access table and RWL fields of the page refuse writes. -/
  | pageLock (t : Nat) (m : Master) (page : Page)
  /-- ACCESS_TABLE_WRITE (R79): A write to an access table takes effect for every later grant, including later words of a frame already executing. -/
  | accessTableWrite (t : Nat) (m : Master) (addr : Word) (v : Word)
  /-- WIDE_LOW_READ (R82): A read of the low half of a wide value latches its high half for that master and page. -/
  | wideLowRead (t : Nat) (m : Master) (addr : Word)
  /-- WIDE_HIGH_WRITE (R84): A write of the high half of a wide RW value is held for that master until its low-half write. -/
  | wideHighWrite (t : Nat) (m : Master) (addr : Word) (v : Word)
  /-- WIDE_LOW_WRITE (R84): A write of the low half of a wide RW value commits both halves in one CORE cycle. -/
  | wideLowWrite (t : Nat) (m : Master) (addr : Word) (v : Word)
  /-- SOFT_RST (R85): A keyed write of PG_CTRL.SOFT_RST starts a unit reset, forcing the unit's pins safe and discarding its commands in flight, or is refused under R86. -/
  | softRst (t : Nat) (m : Master) (page : Page) (v : Word)
  /-- UNIT_RESET_COMPLETE (R85): Within 2 µs of the SOFT_RST, the unit's registers take reset values, its fault state ends and RST_BUSY falls. -/
  | unitResetComplete (t : Nat) (page : Page)
  /-- PAGE_DISABLE (R67): A write of PG_CTRL.EN = 0 stops a unit that can be disabled, with the stopping actions of its block's chapter. -/
  | pageDisable (t : Nat) (m : Master) (page : Page)
  /-- DOMAIN_DROOP (R12): A domain's core supply droops below 0.82 V for more than 200 ns, which holds the domain in reset and sends a domain-droop message. -/
  | domainDroop (t : Nat) (d : Domain)
  /-- DOMAIN_DROOP_RELEASE (R12): The drooped domain's supply has stood above 0.85 V for 10 µs, and the domain leaves reset. -/
  | domainDroopRelease (t : Nat) (d : Domain)
  /-- DEVICE_RESET (R495): RESET_N is held low or a rail stays below its threshold, and the device enters reset. -/
  | deviceReset (t : Nat)
  /-- RESET_RELEASE (R471): Reset is released, the straps are sampled and the boot sequence runs through PLL lock, fuse load, LBIST and memory BIST. -/
  | resetRelease (t : Nat) (cascId : Fin 4) (men : Bool)
  /-- SELFTEST_DONE (R474): The boot self-tests end, and the device enables its host ports in WAIT_IMAGE or in a FAIL state. -/
  | selftestDone (t : Nat) (lbistOk : Bool) (mbistOk : Bool) (otpOk : Bool)
  /-- TREF_FAIL (R38): The TREF monitor declares TREF failed, and the TB domain switches glitch-free to PLL_SYS with an AMBER fault. -/
  | trefFail (t : Nat) (criterion : Fin 5)
  /-- DL_CAL_DONE (R39): Recalibration of the edge-placement delay line completes, and DL_CAL reads 1. -/
  | dlCalDone (t : Nat)
  /-- TB_RESTORE (R40): A write of CLK_CTRL.TB_RESTORE requests the return of the TB domain to PLL_TB, which is accepted only after 10 ms of good TREF. -/
  | tbRestore (t : Nat) (m : Master)
  /-- TB_RESTORE_SWITCH (R40): At the frame boundary after an accepted request, the TB domain returns to PLL_TB. -/
  | tbRestoreSwitch (t : Nat)
  /-- XIN_LOSS (R41): The XIN monitor declares loss of XIN, which ends the outputs as package CRIMSON without the CORE domain. -/
  | xinLoss (t : Nat)
  /-- LF_LOSS (R41): The LF clock is lost, which is a GREY fault, and requests for sleep or device debug halt are refused. -/
  | lfLoss (t : Nat)
  /-- SLEEP_REQUEST (R47): A keyed PWR_CTRL write with SLEEP = 1 is checked, and it trips OUT and stops the pipeline or is refused with a REFUSE code. -/
  | sleepRequest (t : Nat) (m : Master) (v : Word)
  /-- DHALT_ENTER (R49): A request with DHALT = 1 from MAINT or TCK puts the device into debug halt with PLL_TB stopped and all engines HALTED. -/
  | dhaltEnter (t : Nat) (m : Master) (tck : Bool) (v : Word)
  /-- DHALT_EXIT (R49): A request with DHALT = 0 ends device debug halt, restarts PLL_TB and resumes the blocks. -/
  | dhaltExit (t : Nat) (m : Master) (tck : Bool) (v : Word)
  /-- LF_MODE_ENTRY (R45): At an LF edge, the timebase starts counting from the LF clock with its fraction at 0. -/
  | lfModeEntry (t : Nat)
  /-- LF_MODE_EXIT (R45): At the first LF edge after PLL_TB has locked, the timebase returns to 400 MHz counting. -/
  | lfModeExit (t : Nat)
  /-- LF_STEP (R44): In LF mode each LF tick adds 12,207.03125 TB ticks and advances frame counts, timers and alarms as if the crossed boundaries had occurred. -/
  | lfStep (t : Nat)
  /-- WAKE (R48): A port wake or a fall of Hx_CS_N in sleep restarts PLL_SYS and PLL_TB. -/
  | wake (t : Nat) (w : WakeIn)
  /-- WAKE_COMPLETE (R48): The PLLs have locked after a wake, and the waking port enters RESP_READY with BUSY. -/
  | wakeComplete (t : Nat)
  /-- FRAME_BOUNDARY (R50): The timebase reaches a multiple of 8,000, which starts a new budget frame and restarts budget use from zero. -/
  | frameBoundary (t : Nat)
  /-- COMMIT (R55): A write of BUDG_CTRL.COMMIT checks the shadow budget settings and makes them pending or refuses them with REF_IDX. -/
  | commit (t : Nat) (m : Master)
  /-- CMD_QUEUE_ARRIVAL (R32): A command from a Gelad engine's CORE→TB queue reaches its channel, where a match is armed or taken as passed. -/
  | cmdQueueArrival (t : Nat) (g : Engine)
  /-- HOST_CS_FALL (R105): Hx_CS_N falls, which starts a request phase in IDLE, starts a response phase in RESP_READY or counts a protocol error in EXEC. -/
  | hostCsFall (t : Nat) (x : Port)
  /-- LANE_BREAK (R90): Hx_CS_N held low for at least 10 µs without a clock ends with a rise, which returns the port to single-lane version 1.0. -/
  | laneBreak (t : Nat) (x : Port)
  /-- HELLO (R102): A HELLO frame negotiates the protocol version and the lane mode. -/
  | hello (t : Nat) (x : Port) (f : Frame)
  /-- READ (R96): A READ frame reads LEN words after the frame checks. -/
  | hostRead (t : Nat) (x : Port) (f : Frame)
  /-- WRITE (R96): A WRITE frame writes LEN words after the frame checks. -/
  | hostWrite (t : Nat) (x : Port) (f : Frame)
  /-- MASKWRITE (R96): A MASKWRITE frame applies an indivisible mask-and-value update to each word. -/
  | hostMaskWrite (t : Nat) (x : Port) (f : Frame)
  /-- STREAM (R116): A STREAM frame returns words from a mailbox queue and releases earlier words, or with REPEAT = 1 returns them again. -/
  | hostStream (t : Nat) (x : Port) (f : Frame)
  /-- SNAP64 (R97): A SNAP64 frame reads both halves of each 64-bit value in one CORE cycle without touching latches. -/
  | hostSnap64 (t : Nat) (x : Port) (f : Frame)
  /-- ATTEST (R484): An ATTEST frame requests a signed attestation report over the host nonce. -/
  | hostAttest (t : Nat) (x : Port) (f : Frame)
  /-- UNKNOWN_OPCODE (R95): A frame with an opcode that is unknown or not in the agreed version is answered VERSION. -/
  | hostUnknown (t : Nat) (x : Port) (f : Frame)
  /-- RESPONSE_READY (R105): A frame's execution ends and its response is built, so the port enters RESP_READY with Hx_RDY high, or discards the response after a lane break. -/
  | responseReady (t : Nat) (x : Port)
  /-- RESPONSE_SEND_END (R105): Hx_CS_N rises in SEND, which completes the response phase or keeps the response whole after a short one. -/
  | responseSendEnd (t : Nat) (x : Port) (complete : Bool)
  /-- ATTN_PULSE (R106): An attention pulse of 500 ns is given on Hx_RDY in IDLE while a source is pending, every ATTN_PERIOD. -/
  | attnPulse (t : Nat) (x : Port)
  /-- HOST_SILENCE (R118): HWD ms pass without a request with a valid HDR_CRC8, and the device raises an AMBER host-silence record. -/
  | hostSilence (t : Nat) (x : Port)
  /-- IPEND_CLEAR (R111): A write of 1 clears an IPEND bit, which is set again in the next cycle if its level source is still active. -/
  | ipendClear (t : Nat) (m : Master) (x : Port) (k : Fin 8) (v : Word)
  /-- RELEASE (R116): A write of 1 to MBQn_CTRL.RELEASE advances HEAD past every delivered word. -/
  | mbqRelease (t : Nat) (m : Master) (x : Port) (n : Fin 8)
  /-- MBQ_CONFIGURE (R119): A write that sets MBQn_CFG.EN or changes LOG2 or BASE empties the queue. -/
  | mbqConfigure (t : Nat) (m : Master) (x : Port) (n : Fin 8) (v : Word)
  /-- POS_ENABLE (R131): A write of POS PG_CTRL.EN = 1 starts the port, or refuses when SOFT_MIN exceeds SOFT_MAX. -/
  | posEnable (t : Nat) (m : Master) (p : PosPort)
  /-- POS_EDGE (R124): A filtered change on a port pin is accepted as an edge with its timestamp, or is rejected by the edge-rate check. -/
  | posEdge (t : Nat) (p : PosPort) (pin : Fin 3) (lvl : Bool) (mv : PinMove)
  /-- POS_DEFERRED_EDGE (R124): MIN_EDGE expires with the filtered input still changed, and the port accepts the edge at that moment. -/
  | posDeferredEdge (t : Nat) (p : PosPort) (pin : Fin 3)
  /-- POS_INDEX (R135): A rising conditioned Z edge is an index, at which the COUNT change is checked and COUNT is optionally zeroed. -/
  | posIndex (t : Nat) (p : PosPort)
  /-- LOAD (R133): A write of CTRL.LOAD loads PRESET into COUNT and resets the direction state. -/
  | posLoad (t : Nat) (m : Master) (p : PosPort)
  /-- VR_ARM_HALVE (R127): The VR port has not armed within the time limit, and ARM halves down towards ARM_MIN. -/
  | vrArmHalve (t : Nat) (p : PosPort)
  /-- SPEED_FALLBACK_WINDOW (R139): A fixed fall-back window of FB_WIN µs completes, and SPEED is set from the steps counted in it. -/
  | speedFallbackWindow (t : Nat) (p : PosPort)
  /-- STUCK (R140): No active edge arrives for STUCK_T ms, so SPEED becomes 0 and STUCK is set with one GREY record. -/
  | posStuck (t : Nat) (p : PosPort)
  /-- SSI_TRIG (R141): A write of CTRL.SSI_TRIG starts one SSI read. -/
  | ssiTrig (t : Nat) (m : Master) (p : PosPort) (aHigh : Bool)
  /-- SSI_PERIOD_START (R141): The SSI read period elapses, or the router trigger arrives, and an SSI read starts. -/
  | ssiPeriodStart (t : Nat) (p : PosPort) (router : Bool) (aHigh : Bool)
  /-- SSI_WORD (R143): An SSI frame completes and is accepted into SSI_DATA and COUNT, or is discarded by the checks of R142. -/
  | ssiWord (t : Nat) (p : PosPort) (bits : List Bool)
  /-- SSI_TIMEOUT (R142): POSx_A is not high within TIMEOUT µs after the last clock edge, and the frame is discarded. -/
  | ssiTimeout (t : Nat) (p : PosPort)
  /-- SENT_FRAME (R149): A SENT frame completes and is checked, then written to SENT_FAST or discarded. -/
  | sentFrame (t : Nat) (p : PosPort) (sync : Nat) (nibbles : List Nat) (pause : Option Nat) (extra : Bool)
  /-- TRK_ENABLE (R159): A write of TRK PG_CTRL.EN = 1 runs the configuration check and starts the tracker in NOSYNC, or refuses with a code. -/
  | trkEnable (t : Nat) (m : Master)
  /-- TRK_CRANK_EDGE (R166): The tracker decides on a delivered crank edge as noise, candidate, tooth or gap, including the search states. -/
  | trkCrankEdge (t : Nat) (b : Bool)
  /-- TRK_CAM_EDGE (R164): A cam edge receives its crank angle and resolves the phase, or is judged against the cam windows. -/
  | trkCamEdge (t : Nat) (pos3 : Bool)
  /-- CAM_WINDOW_CLOSE (R165): A cam window closes without a matching edge, which is a cam error. -/
  | camWindowClose (t : Nat) (j : Fin 24)
  /-- CANDIDATE_CONFIRM (R167): No edge arrives by MERGE_HI, and the held candidate is confirmed as the tooth. -/
  | candidateConfirm (t : Nat) (laneS : Bool)
  /-- HALTED (R172): The angle has held at the halt point for more than T_pred/64, and the tracker enters HALTED. -/
  | trkHalted (t : Nat)
  /-- HALT_LIMIT (R169): HALT_LIMIT passes without a tooth, which sets a virtual tooth or sends the tracker to LOST. -/
  | haltLimit (t : Nat) (laneS : Bool)
  /-- STALL (R182): No crank edge is accepted for the stall time, and the tracker goes to NOSYNC. -/
  | trkStall (t : Nat)
  /-- MICRO_TICK (R172): A 10 ns micro-tick advances each lane's angle and closes catch-up deficits. -/
  | microTick (t : Nat)
  /-- SEL_REQ (R179): A write of LANE_CTRL.SEL_REQ requests a switch to the named lane at its next tooth. -/
  | selReq (t : Nat) (m : Master) (laneS : Bool)
  /-- TBL_DATA_ACCESS (R184): An access to TBL_DATA reads the entry in force or writes the shadow entry, and increments IDX. -/
  | tblDataAccess (t : Nat) (m : Master) (w : Option Word)
  /-- TBL_COMMIT (R184): A write of TBL_CTRL.COMMIT checks the shadow tooth table and makes it pending or refuses it. -/
  | tblCommit (t : Nat) (m : Master)
  /-- LEARN_REQ (R185): A write of LEARN_CTRL.REQ requests the tooth-table relearn maintenance activity. -/
  | learnReq (t : Nat) (m : Master)
  /-- LEARN_ABORT (R185): A write of LEARN_CTRL.ABORT aborts the relearn with RESULT 6. -/
  | learnAbort (t : Nat) (m : Master)
  /-- LEARN_DONE (R186): After LEARN_CYC cycles the tracker applies or rejects the learnt correction table. -/
  | learnDone (t : Nat)
  /-- EVT_WORD_STAGE (R190): A write to word 0, 1 or 2 of an event-table entry is staged for the writing master. -/
  | evtWordStage (t : Nat) (m : Master) (i : Entry) (w : Fin 3) (v : Word)
  /-- EVT_COMMIT (R192): A write to word 3 commits the staged words of the entry after checks, immediately or as a pending cycle commit. -/
  | evtCommit (t : Nat) (m : Master) (i : Entry) (v : Word)
  /-- EVT_COMMIT_EFFECT (R214): An immediate commit takes effect in the pipeline for the due cycle decided at t_e. -/
  | evtCommitEffect (t : Nat) (i : Entry)
  /-- OCCURRENCE_SLOT_ARRIVAL (R204): A pulled occurrence reaches its TB-domain slot, and as the channel's head it is loaded into the match registers. -/
  | occurrenceSlotArrival (t : Nat) (i : Entry)
  /-- PIN_SET (R198): A PIN_SET occurrence fires and sets its channel's pin active, or is cancelled as late. -/
  | evtPinSet (t : Nat) (i : Entry)
  /-- PIN_CLR (R198): A PIN_CLR occurrence fires and sets its channel's pin inactive, or is cancelled as late. -/
  | evtPinClr (t : Nat) (i : Entry)
  /-- PULSE_T (R210): A PULSE_T occurrence fires and starts a pulse of DURATION ticks. -/
  | evtPulseT (t : Nat) (i : Entry)
  /-- PULSE_T_END (R210): DURATION ticks after its start, a PULSE_T returns its pin to inactive. -/
  | evtPulseTEnd (t : Nat) (ch : Channel)
  /-- PULSE_A (R211): A PULSE_A occurrence fires and starts a pulse that ends at its linked end angle. -/
  | evtPulseA (t : Nat) (i : Entry)
  /-- PULSE_A_END (R211): A PULSE_A reaches its end angle or its time backstop and returns its pin to inactive. -/
  | evtPulseAEnd (t : Nat) (ch : Channel)
  /-- DWELL (R212): The fixed dwell start of a DWELL occurrence comes, or has passed, and the dwell starts. -/
  | evtDwell (t : Nat) (i : Entry)
  /-- DWELL_SPARK (R212): The spark of a DWELL fires at its angle and ends the dwell, or is cancelled and ends it by SOFT_OFF. -/
  | evtDwellSpark (t : Nat) (i : Entry)
  /-- DWELL_MAX_END (R212): The maximum dwell runs out before the spark, and the dwell ends by a spark or by SOFT_OFF. -/
  | evtDwellMaxEnd (t : Nat) (ch : Channel)
  /-- SRQ (R234): An SRQ occurrence fires, which counts an SRQ event and queues its time and PARAM, and applies the armed SRQ action. -/
  | evtSrq (t : Nat) (i : Entry)
  /-- CONV_START (R292): A CONV_START occurrence fires and starts a named converter entry. -/
  | evtConvStart (t : Nat) (i : Entry)
  /-- CONV_WIN (R200): A boundary of a CONV_WIN occurrence fires towards its converter. -/
  | evtConvWin (t : Nat) (i : Entry)
  /-- CMU_MARK (R332): A CMU_MARK occurrence fires towards a cylinder context. -/
  | evtCmuMark (t : Nat) (i : Entry)
  /-- EVT_OUT (R198): An EVT_OUT occurrence fires and pulses router source EVT_OUTn. -/
  | evtOut (t : Nat) (i : Entry)
  /-- LINK_BCAST (R439): A LINK_BCAST occurrence fires and sends an EVENT frame of KIND 2 to the cascade. -/
  | evtLinkBcast (t : Nat) (i : Entry)
  /-- RUN (R218): A write of EVT CTRL.RUN = 1 moves the pipeline to WAIT_SYNC. -/
  | evtRun (t : Nat) (m : Master)
  /-- EVT_STOP (R218): A write of RUN = 0 stops the pipeline, withdraws all slots and safe-ends actions in progress. -/
  | evtStop (t : Nat) (m : Master)
  /-- HSRQ (R234): A write of CH_CTRL.HSRQ raises a host SRQ with HPARAM. -/
  | hostSrq (t : Nat) (m : Master) (p : Channel) (param : BitVec 16)
  /-- CHANNEL_ENABLE (R236): A write of CH_CTRL.EN = 1 starts the channel if its function is found, adding an RST event. -/
  | channelEnable (t : Nat) (m : Master) (p : Channel)
  /-- CHANNEL_DISABLE (R236): A write of CH_CTRL.EN = 0 safe-ends the channel, withdraws its thread and resets its counts. -/
  | channelDisable (t : Nat) (m : Master) (p : Channel)
  /-- SOFT_OFF_END (R266): SOFT_T µs after the latest soft-off start, the group's SOFT pins fall. -/
  | softOffEnd (t : Nat) (g : Fin 16)
  /-- CHANNEL_CAPTURE (R232): A selected capture event stores time and angle in a capture register and posts a CAP event. -/
  | channelCapture (t : Nat) (p : Channel) (k : Fin 2) (ev : CapEvent)
  /-- TIME_MATCH_FIRE (R33): A microcode time match reaches its value and fires its pin action and MT event. -/
  | timeMatchFire (t : Nat) (p : Channel)
  /-- ANGLE_MATCH_FIRE (R226): The output angle reaches a microcode angle match, which fires its action and MA event. -/
  | angleMatchFire (t : Nat) (p : Channel)
  /-- COUPLED_MATCH_FIRE (R226): A coupled match fires at its fixed time or angle under R206. -/
  | coupledMatchFire (t : Nat) (p : Channel)
  /-- THREAD_GRANT (R239): The scheduler grants a requesting channel from the class wheel, and a service thread starts with its snapshot. -/
  | threadGrant (t : Nat) (g : Engine)
  /-- THREAD_TMAX (R241): A thread exceeds TMAX or its WCET and ends as a thread fault with a safe end of its channel. -/
  | threadTmax (t : Nat) (g : Engine)
  /-- ADD (R243): Gelad ADD. -/
  | gelAdd (t : Nat) (g : Engine)
  /-- SUB (R243): Gelad SUB. -/
  | gelSub (t : Nat) (g : Engine)
  /-- AND (R243): Gelad AND. -/
  | gelAnd (t : Nat) (g : Engine)
  /-- OR (R243): Gelad OR. -/
  | gelOr (t : Nat) (g : Engine)
  /-- XOR (R243): Gelad XOR. -/
  | gelXor (t : Nat) (g : Engine)
  /-- SHL (R243): Gelad logical left shift. -/
  | gelShl (t : Nat) (g : Engine)
  /-- SHR (R243): Gelad logical right shift. -/
  | gelShr (t : Nat) (g : Engine)
  /-- SAR (R243): Gelad arithmetic right shift. -/
  | gelSar (t : Nat) (g : Engine)
  /-- MUL (R243): Gelad multiply, low 32 bits. -/
  | gelMul (t : Nat) (g : Engine)
  /-- MULQ (R243): Gelad signed multiply, product bits 47:16. -/
  | gelMulq (t : Nat) (g : Engine)
  /-- MIN (R243): Gelad signed minimum. -/
  | gelMin (t : Nat) (g : Engine)
  /-- MAX (R243): Gelad signed maximum. -/
  | gelMax (t : Nat) (g : Engine)
  /-- CMP (R243): Gelad compare, which sets flags. -/
  | gelCmp (t : Nat) (g : Engine)
  /-- MOV (R243): Gelad move of a register or immediate. -/
  | gelMov (t : Nat) (g : Engine)
  /-- ADDA (R243): Gelad angle addition modulo 2^24. -/
  | gelAdda (t : Nat) (g : Engine)
  /-- LDH (R243): Gelad load of the high half of a register. -/
  | gelLdh (t : Nat) (g : Engine)
  /-- LDP (R243): Gelad load of a parameter word. -/
  | gelLdp (t : Nat) (g : Engine)
  /-- STP (R243): Gelad store of a parameter word. -/
  | gelStp (t : Nat) (g : Engine)
  /-- LDM (R248): Gelad interconnect load under the engine's master ID, which stalls the thread. -/
  | gelLdm (t : Nat) (g : Engine)
  /-- STM (R248): Gelad interconnect store under the engine's master ID, which stalls the thread. -/
  | gelStm (t : Nat) (g : Engine)
  /-- GEL_MEM_COMPLETE (R248): An LDM or STM access completes or fails, and the stalled thread continues with E set on failure. -/
  | gelMemComplete (t : Nat) (g : Engine)
  /-- A2T (R245): Gelad conversion of an angle to a time from the record in force. -/
  | gelA2t (t : Nat) (g : Engine)
  /-- A2D (R245): Gelad conversion of an angle span to ticks. -/
  | gelA2d (t : Nat) (g : Engine)
  /-- QPUT (R248): Gelad append of a word to an outlet record, which with E = 1 posts the record to a mailbox queue. -/
  | gelQput (t : Nat) (g : Engine)
  /-- LNK (R243): Gelad raise of the LINK event of another logical channel. -/
  | gelLnk (t : Nat) (g : Engine)
  /-- SMT (R225): Gelad arm of the time match, which sets MHOLD. -/
  | gelSmt (t : Nat) (g : Engine)
  /-- SMA (R226): Gelad arm of the angle match, which sets MHOLD. -/
  | gelSma (t : Nat) (g : Engine)
  /-- SMC (R226): Gelad arm of a coupled match, which sets MHOLD. -/
  | gelSmc (t : Nat) (g : Engine)
  /-- PIN (R243): Gelad immediate pin action on the carrier or channel level. -/
  | gelPin (t : Nat) (g : Engine)
  /-- RDC_CAP0_TIME (R247): Gelad read of capture 0 time bits 31:0. -/
  | gelRdcCap0Time (t : Nat) (g : Engine)
  /-- RDC_CAP0_ANGLE (R247): Gelad read of the capture 0 angle. -/
  | gelRdcCap0Angle (t : Nat) (g : Engine)
  /-- RDC_CAP1_TIME (R247): Gelad read of capture 1 time bits 31:0. -/
  | gelRdcCap1Time (t : Nat) (g : Engine)
  /-- RDC_CAP1_ANGLE (R247): Gelad read of the capture 1 angle. -/
  | gelRdcCap1Angle (t : Nat) (g : Engine)
  /-- RDS_TBV_LO (R247): Gelad read of TBV bits 31:0, which latches the high half for the thread. -/
  | gelRdsTbvLo (t : Nat) (g : Engine)
  /-- RDS_TBV_HI (R247): Gelad read of TBV bits 63:32, latched or live. -/
  | gelRdsTbvHi (t : Nat) (g : Engine)
  /-- RDS_ANGLE (R247): Gelad read of the output angle, its validity and the tracker state. -/
  | gelRdsAngle (t : Nat) (g : Engine)
  /-- RDS_SNAPSHOT (R247): Gelad read of the event flags, which also become the new snapshot. -/
  | gelRdsSnapshot (t : Nat) (g : Engine)
  /-- RDS_CH_STAT (R247): Gelad read of CH_STAT bits 31:16. -/
  | gelRdsChStat (t : Nat) (g : Engine)
  /-- RDS_SRQ_TIME (R247): Gelad read of the time of the oldest queued SRQ. -/
  | gelRdsSrqTime (t : Nat) (g : Engine)
  /-- RDS_SRQ_PARAM (R247): Gelad read of the PARAM of the oldest queued SRQ. -/
  | gelRdsSrqParam (t : Nat) (g : Engine)
  /-- RDS_CYC_CNT (R247): Gelad read of EVT.CYC_CNT. -/
  | gelRdsCycCnt (t : Nat) (g : Engine)
  /-- CHC_REL (R227): Gelad CHC REL clears MHOLD and disarms microcode matches, letting a held pipeline head load. -/
  | gelChcRel (t : Nat) (g : Engine)
  /-- CHC_DISARM_TIME (R247): Gelad CHC disarm of the time match. -/
  | gelChcDisarmTime (t : Nat) (g : Engine)
  /-- CHC_DISARM_ANGLE (R247): Gelad CHC disarm of the angle match. -/
  | gelChcDisarmAngle (t : Nat) (g : Engine)
  /-- CHC_ARM_SRQ_ACTION (R247): Gelad CHC arm of the SRQ action with SACT. -/
  | gelChcArmSrqAction (t : Nat) (g : Engine)
  /-- ADJ (R247): Gelad shift of the unfixed angle of the channel's pipeline head, spark or end angle. -/
  | gelAdj (t : Nat) (g : Engine)
  /-- BR (R244): Gelad conditional branch on COND. -/
  | gelBr (t : Nat) (g : Engine)
  /-- BF (R243): Gelad branch on the flag snapshot. -/
  | gelBf (t : Nat) (g : Engine)
  /-- CALL (R243): Gelad call with a return-address push. -/
  | gelCall (t : Nat) (g : Engine)
  /-- RET (R243): Gelad return by a pop of the return address. -/
  | gelRet (t : Nat) (g : Engine)
  /-- BRK (R243): Gelad breakpoint, which halts the engine when BRK_EN = 1. -/
  | gelBrk (t : Nat) (g : Engine)
  /-- YIELD (R240): Gelad end of a thread that saves a yield context and requests service again. -/
  | gelYield (t : Nat) (g : Engine)
  /-- END (R240): Gelad end of a thread that lowers the counts of the masked kinds set in the snapshot. -/
  | gelEnd (t : Nat) (g : Engine)
  /-- GEL_ILLEGAL_INSTRUCTION (R249): An unassigned opcode, a set must-be-zero bit, a return-stack fault or a TARGET below 0x040 is a thread fault. -/
  | gelIllegal (t : Nat) (g : Engine)
  /-- GEL_STORE_ERROR (R255): An uncorrectable microcode store error on fetch puts the engine into FAULT and safe-ends its channels. -/
  | gelStoreError (t : Nat) (g : Engine)
  /-- GEL_ENABLE (R255): A write of GEL PG_CTRL.EN = 1 moves a loaded engine to IDLE, or refuses. -/
  | gelEnable (t : Nat) (m : Master) (g : Engine)
  /-- HALT (R255): A write of GEL_CTRL.HALT = 1, or an enabled breakpoint, halts the engine before its next instruction. -/
  | gelHalt (t : Nat) (g : Engine) (m : Option Master)
  /-- STEP (R255): A write of GEL_CTRL.STEP executes one instruction while the engine is HALTED. -/
  | gelStep (t : Nat) (m : Master) (g : Engine)
  /-- GEL_RESUME (R256): A write of HALT = 0 resumes the engine, safe-ending its channels when DEBUG_SAFE = 1. -/
  | gelResume (t : Nat) (m : Master) (g : Engine)
  /-- ARM (R268): A keyed ARM_CTRL write with ARM = 1 runs the arm checks and makes arming pending or refuses it. -/
  | outArm (t : Nat) (m : Master) (key : BitVec 8)
  /-- DISARM (R267): A write of ARM_CTRL.DISARM forces all pins safe, quenches bank slots and stops DPERMIT. -/
  | outDisarm (t : Nat) (m : Master) (key : BitVec 8)
  /-- DPERMIT_A_TOGGLE (R269): At a timebase multiple of 2,000, DPERMIT_A changes if DPERMIT_B changed within 15 µs. -/
  | dpermitAToggle (t : Nat)
  /-- DPERMIT_B_TOGGLE (R269): Every 2,000 CORE cycles, DPERMIT_B changes if DPERMIT_A changed within 15 µs. -/
  | dpermitBToggle (t : Nat)
  /-- BANK_ENABLE (R281): A write of BANK PG_CTRL.EN = 1 runs the bank configuration check and takes ownership of its comparators, or refuses. -/
  | bankEnable (t : Nat) (m : Master) (k : Bank)
  /-- SLOT_COMMAND_RISE (R274): A slot's channel command rises and the slot enters BOOST, PEAK or HOLD, or the rise is refused by lock, collision or window. -/
  | slotCommandRise (t : Nat) (k : Bank) (sl : Slot)
  /-- SLOT_COMMAND_FALL (R274): A slot's command falls and the slot enters QUENCH. -/
  | slotCommandFall (t : Nat) (k : Bank) (sl : Slot)
  /-- BANK_CMP_A_RISE (R275): Comparator A rises, which ends BOOST or switches HSS off after blanking, or locks the slot when it comes before T_BOOST_MIN. -/
  | bankCmpARise (t : Nat) (k : Bank)
  /-- BANK_CMP_B_FALL (R275): Comparator B falls, which switches HSS on after TPER_MIN, starts HOLD chopping or ends QUENCH. -/
  | bankCmpBFall (t : Nat) (k : Bank)
  /-- SLOT_T_PEAK (R274): T_PEAK after entry into PEAK, the slot enters HOLD. -/
  | slotTPeak (t : Nat) (k : Bank) (sl : Slot)
  /-- SLOT_T_BOOST_MAX (R276): BOOST runs for T_BOOST_MAX without comparator A, and the slot quenches with an open-load record. -/
  | slotTBoostMax (t : Nat) (k : Bank) (sl : Slot)
  /-- SLOT_T_QMAX (R276): QUENCH reaches T_QMAX and ends in OFF with a quench record. -/
  | slotTQmax (t : Nat) (k : Bank) (sl : Slot)
  /-- SLOT_TPER_MIN (R275): TPER_MIN expires for a delayed HSS switch-on, which then switches on. -/
  | slotTperMin (t : Nat) (k : Bank)
  /-- SLOT_LOCK_CLEAR (R276): A write of 1 to SLOT_STAT.LOCK clears the slot's over-current lock. -/
  | slotLockClear (t : Nat) (m : Master) (k : Bank) (sl : Slot)
  /-- CBC_ENABLE (R309): A write of CBC PG_CTRL.EN = 1 runs the converter check and enters IDLE or LOOP, or refuses. -/
  | cbcEnable (t : Nat) (m : Master) (x : Conv)
  /-- CONV_CTRL_START (R292): A write of CONV_CTRL.START starts the named entry or holds it pending. -/
  | convCtrlStart (t : Nat) (m : Master) (x : Conv) (e : Fin 16)
  /-- URG (R293): A write of CONV_CTRL.URG runs one urgent window in IDLE, or is dropped. -/
  | convUrgent (t : Nat) (m : Master) (x : Conv) (e : Fin 16)
  /-- CONV_STOP (R291): A write of CONV_CTRL.STOP closes the open window with cause ABORT. -/
  | convStop (t : Nat) (m : Master) (x : Conv)
  /-- CONV_ROUTER_START (R292): The converter's router start destination fires and starts RTR_ENTRY. -/
  | convRouterStart (t : Nat) (x : Conv)
  /-- CONV_ROUTER_URGENT (R293): The converter's router urgent destination fires an urgent request. -/
  | convRouterUrgent (t : Nat) (x : Conv)
  /-- CONV_BOUNDARY (R297): A window boundary reaches the converter 4 CONV cycles after its TB time and closes, opens or starts windows, or is stray. -/
  | convBoundary (t : Nat) (x : Conv)
  /-- CONV_WINDOW_TIME_END (R296): A TIME, MAINS or time-bounded BAND window reaches its length and closes. -/
  | convWindowTimeEnd (t : Nat) (x : Conv)
  /-- CONV_WINDOW_LONG (R298): A boundary-bounded window reaches ANG_LIM.MAX and closes not VALID. -/
  | convWindowLong (t : Nat) (x : Conv)
  /-- CONV_RESULT (R306): After decimation a window result is written with its validity, filtered and compared, and sent to the CMU. -/
  | convResult (t : Nat) (x : Conv) (raw : Int) (ovr : Bool)
  /-- RESULT_READ (R305): A read of a RESULT word clears its NEWER for the master and latches its RES_INFO. -/
  | resultRead (t : Nat) (m : Master) (x : Conv) (e : Fin 16)
  /-- VREF_ENABLE (R289): A write of VREF_CTRL.EN powers or unpowers the VREF buffer. -/
  | vrefEnable (t : Nat) (m : Master) (on : Bool)
  /-- VREF_WARM (R289): 2 ms after VREF EN became 1, WARM becomes 1. -/
  | vrefWarm (t : Nat)
  /-- VREF_OK_CHANGE (R318): VREF_STAT.OK falls, with an AMBER record and comparators held, or returns, restarting them. -/
  | vrefOkChange (t : Nat) (ok : Bool)
  /-- MAINS_EDGE (R290): A rising MAINS_REF edge is timed and updates PRESENT and PERIOD. -/
  | mainsEdge (t : Nat)
  /-- MAINS_TIMEOUT (R290): No mains edge arrives for 50 ms, and PRESENT falls to the nominal period. -/
  | mainsTimeout (t : Nat)
  /-- CAL_REQ (R308): A write of CAL_CTRL.REQ requests the converter self-calibration activity. -/
  | calReq (t : Nat) (m : Master) (x : Conv) (preempt : Bool)
  /-- CAL_START (R308): With the token held and the converter IDLE, or with PREEMPT, calibration starts. -/
  | calStart (t : Nat) (x : Conv)
  /-- CAL_END (R308): Calibration completes and applies or rejects the new trims. -/
  | calEnd (t : Nat) (x : Conv) (raws : List (Int × Int))
  /-- CAL_ABORT (R308): A write of CAL_CTRL.ABORT ends calibration with RESULT 5. -/
  | calAbort (t : Nat) (m : Master) (x : Conv)
  /-- CMP_ENABLE (R317): A write of CMP_CFG.EN = 1 preloads the filter inactive and starts the comparator. -/
  | cmpEnable (t : Nat) (m : Master) (n : Comp) (v : Word) (inBand : Bool)
  /-- CMP_REF_WRITE (R315): A write of CMP_REF changes the threshold at once and holds LVL for 250 ns. -/
  | cmpRefWrite (t : Nat) (m : Master) (n : Comp) (v : Word)
  /-- CMP_LEVEL_CHANGE (R314): The majority filter changes LVL after a crossing and sets the latch on activation. -/
  | cmpLevelChange (t : Nat) (n : Comp) (lvl : Bool)
  /-- CMP_SAMPLE_WINDOW_END (R320): The 2 µs sampling window ends, LVL takes the filtered value and the comparator unpowers. -/
  | cmpSampleWindowEnd (t : Nat) (n : Comp) (lvl : Bool)
  /-- ST_REQ (R322): A write of ST_CTRL.REQ requests the comparator threshold self-test activity. -/
  | cmpStReq (t : Nat) (m : Master)
  /-- CMP_SELFTEST_STEP (R322): A 1 µs step of a comparator self-test ends and its check is judged. -/
  | cmpSelftestStep (t : Nat) (raw : Bool)
  /-- ST_ABORT (R324): A write of ST_CTRL.ABORT ends the self-test with RESULT 5. -/
  | cmpStAbort (t : Nat) (m : Master)
  /-- CYL_ENABLE (R348): A write of CYL PG_CTRL.EN = 1 runs the context check and enables the context, or refuses. -/
  | cylEnable (t : Nat) (m : Master) (k : Cyl)
  /-- CMU_SAMPLE (R328): A converter result is taken by its context as sample q and streamed into the record. -/
  | cmuSample (t : Nat) (k : Cyl)
  /-- PEG_OPEN (R335): A PEG_OPEN mark opens the context's pegging window. -/
  | pegOpen (t : Nat) (k : Cyl)
  /-- PEG_CLOSE (R335): A PEG_CLOSE mark closes the pegging window and computes, holds or fails the pegging offset. -/
  | pegClose (t : Nat) (k : Cyl)
  /-- CLOSE (R332): A CLOSE mark closes the context's open record. -/
  | cmuClose (t : Nat) (k : Cyl)
  /-- CMU_RECORD_READY (R340): The close computation completes, and metrics, status and loop terms are written in one cycle. -/
  | cmuRecordReady (t : Nat) (k : Cyl)
  /-- CMU_TRIM_WRITE (R346): At its scheduled instant a trim is written by compare-and-write, or discarded when the word changed. -/
  | cmuTrimWrite (t : Nat) (k : Cyl) (timing : Bool)
  /-- CMU_RECORD_POST (R342): Once RESULT_LATE is known, the ready record is appended to its mailbox queue. -/
  | cmuRecordPost (t : Nat) (k : Cyl)
  /-- VOL_DATA_ACCESS (R334): An access to VOL_DATA reads the entry in force or writes the shadow, and increments IDX. -/
  | volDataAccess (t : Nat) (m : Master) (w : Option Word)
  /-- VOL_COMMIT (R334): A write of VOL_CTRL.COMMIT checks the shadow volume table and makes it pending or refuses it. -/
  | volCommit (t : Nat) (m : Master)
  /-- VOL_TABLE_READY (R334): The resampled tables are prepared and the new volume table takes effect. -/
  | volTableReady (t : Nat)
  /-- RC_REQ (R347): A write of RC_CTRL.REQ requests a recompute of a context's last record. -/
  | rcReq (t : Nat) (m : Master) (k : Fin 32)
  /-- RECOMPUTE_DONE (R347): The recompute ends, posting its result or ending as an overrun. -/
  | recomputeDone (t : Nat)
  /-- LOOP_ENABLE (R345): A write of LOOP_EN enables or vetoes loops and re-bases I, OUT and LAST. -/
  | loopEnable (t : Nat) (m : Master) (k : Cyl) (v : Word)
  /-- SBUF_READ (R349): A read of SBUF_DATA returns a buffer sample and increments IDX. -/
  | sbufRead (t : Nat) (m : Master)
  /-- CYL_STATUS_READ (R341): A read of CYL.STATUS latches the record registers for that master. -/
  | cylStatusRead (t : Nat) (m : Master) (k : Cyl)
  /-- ALARM_WRITE (R355): A write of ALM_LO commits and arms the timebase alarm. -/
  | alarmWrite (t : Nat) (m : Master) (v : Word)
  /-- ALARM (R355): The timebase reaches the alarm value, which sets the ALARM flag and disarms it. -/
  | alarmFire (t : Nat)
  /-- GPT_ENABLE (R358): A write of GPT_CFG.EN starts or stops a general timer. -/
  | gptEnable (t : Nat) (m : Master) (n : Gpt) (v : Word)
  /-- GPT_WRAP (R358): A timer's count passes TOP and wraps to 0 with an overflow event. -/
  | gptWrap (t : Nat) (n : Gpt)
  /-- GPT_MATCH (R360): A count update makes COUNT equal the compare, and the match fires. -/
  | gptMatch (t : Nat) (n : Gpt)
  /-- GPT_TRIGGER_RESET (R359): A trigger event resets COUNT in reset mode. -/
  | gptTriggerReset (t : Nat) (n : Gpt)
  /-- GPT_CMP_WRITE (R360): A write of CMP takes effect and is judged as ahead, passed or forced. -/
  | gptCmpWrite (t : Nat) (m : Master) (n : Gpt) (v : Word)
  /-- GPT_CAPTURE (R363): A capture event appends the count to the timer's queue, or is discarded when the queue is full. -/
  | gptCapture (t : Nat) (n : Gpt) (ti : Option Bool)
  /-- CAPQ_READ (R363): A read of CAPQ removes and returns the oldest capture. -/
  | capqRead (t : Nat) (m : Master) (n : Gpt)
  /-- SNAP (R365): A write to SNAP copies the selected counts and optionally the timebase into shadows. -/
  | gptSnap (t : Nat) (m : Master) (v : Word)
  /-- ROUTER_EVENT (R372): A source becomes active or pulses and passes to the destinations that select it. -/
  | routerEvent (t : Nat) (src : Source)
  /-- DST_CFG_WRITE (R372): A write of DST_CFG reconfigures a destination and restarts its divider. -/
  | dstCfgWrite (t : Nat) (m : Master) (d : Dest) (v : Word)
  /-- SW_TRIG (R369): A write to SW_TRIG pulses software sources SW0–SW3. -/
  | swTrig (t : Nat) (m : Master) (v : Word)
  /-- DMA_CH_CFG_WRITE (R391): A write to CH_CFG sets the channel OWNER, even when refused. -/
  | dmaChCfgWrite (t : Nat) (m : Master) (c : DmaCh) (v : Word)
  /-- DMA_START (R383): A write of CH_CTRL.START checks and starts or resumes a channel. -/
  | dmaStart (t : Nat) (m : Master) (c : DmaCh)
  /-- DMA_STOP (R383): A write of CH_CTRL.STOP halts the channel after the burst in progress. -/
  | dmaStop (t : Nat) (m : Master) (c : DmaCh)
  /-- DMA_TRIGGER (R381): A trigger event or peripheral request releases work, or is held or lost. -/
  | dmaTrigger (t : Nat) (c : DmaCh)
  /-- DMA_BURST_GRANT (R384): The engine grants the next burst to the highest-priority channel that its budgets allow. -/
  | dmaBurstGrant (t : Nat)
  /-- DMA_BURST_WRITTEN (R383): A burst's last beat is written, moving the channel to WAIT, DESC or DONE. -/
  | dmaBurstWritten (t : Nat)
  /-- DMA_COMPLETE (R385): A channel reaches its completion point, pulsing DDONE and chaining. -/
  | dmaComplete (t : Nat) (c : DmaCh)
  /-- DMA_DESC_LOAD (R389): A descriptor fetch completes and loads, or halts the channel on error or LOOP. -/
  | dmaDescLoad (t : Nat) (c : DmaCh)
  /-- DMA_BEAT_ERROR (R387): A data beat fails, which retries or halts the channel with its cause. -/
  | dmaBeatError (t : Nat) (kind : BeatError)
  /-- DMA_PFB_ERROR (R388): An uncorrectable error in the prefetch line buffer halts every active channel. -/
  | dmaPfbError (t : Nat)
  /-- FENCE (R386): A write of FENCE.GO starts a fence on a channel's writes. -/
  | dmaFence (t : Nat) (m : Master) (c : DmaCh)
  /-- FENCE_DONE (R386): All fenced writes are acknowledged and FENCE.BUSY falls. -/
  | dmaFenceDone (t : Nat)
  /-- PIO_ENGINE_ENABLE (R404): A write of PIO PG_CTRL.EN = 1 starts the engine and its enabled slots, or refuses. -/
  | pioEngineEnable (t : Nat) (m : Master) (x : Engine)
  /-- PIO_ENGINE_STOP (R404): A write of PIO PG_CTRL.EN = 0 stops every running slot. -/
  | pioEngineStop (t : Nat) (m : Master) (x : Engine)
  /-- PIO_SLOT_ENABLE (R405): A write of SLOT_CFG.EN = 1 starts the slot from START. -/
  | pioSlotEnable (t : Nat) (m : Master) (x : Engine) (sl : PioSlot)
  /-- PIO_SLOT_STOP (R406): A write of SLOT_CFG.EN = 0 stops the slot and discards the bits of SR. -/
  | pioSlotStop (t : Nat) (m : Master) (x : Engine) (sl : PioSlot)
  /-- DRV (R396): PIO drive of the selected output latches. -/
  | pioDrv (t : Nat) (x : Engine) (sl : PioSlot)
  /-- DIR (R396): PIO set of the selected pin directions. -/
  | pioDir (t : Nat) (x : Engine) (sl : PioSlot)
  /-- SHO (R397): PIO shift out of one SR bit on a pin. -/
  | pioSho (t : Nat) (x : Engine) (sl : PioSlot)
  /-- SHI (R397): PIO shift in of one pin bit into SR. -/
  | pioShi (t : Nat) (x : Engine) (sl : PioSlot) (pins : BitVec 2)
  /-- TAKE (R396): PIO load of SR from the TX queue, stalling while the queue is empty. -/
  | pioTake (t : Nat) (x : Engine) (sl : PioSlot)
  /-- TAKE_NB (R401): PIO non-blocking TAKE, which reuses the last word on an empty queue. -/
  | pioTakeNb (t : Nat) (x : Engine) (sl : PioSlot)
  /-- PUT (R396): PIO append of SR to the RX queue, stalling while the queue is full. -/
  | pioPut (t : Nat) (x : Engine) (sl : PioSlot)
  /-- PUT_NB (R401): PIO non-blocking PUT, which drops the word on a full queue. -/
  | pioPutNb (t : Nat) (x : Engine) (sl : PioSlot)
  /-- SETK (R396): PIO load of a loop counter. -/
  | pioSetk (t : Nat) (x : Engine) (sl : PioSlot)
  /-- LOOP (R396): PIO decrement of a loop counter and jump while it is not zero. -/
  | pioLoop (t : Nat) (x : Engine) (sl : PioSlot)
  /-- PIO_BR (R396): PIO conditional branch. -/
  | pioBr (t : Nat) (x : Engine) (sl : PioSlot) (pins : BitVec 2)
  /-- WAITE (R396): PIO wait for a pin level or edge, optionally bounded by K1. -/
  | pioWaite (t : Nat) (x : Engine) (sl : PioSlot) (pins : BitVec 2)
  /-- WAITF (R396): PIO wait for the trigger flag or an engine flag. -/
  | pioWaitf (t : Nat) (x : Engine) (sl : PioSlot)
  /-- SIG_SET (R396): PIO set of an engine flag. -/
  | pioSigSet (t : Nat) (x : Engine) (sl : PioSlot)
  /-- SIG_CLEAR (R396): PIO clear of an engine flag. -/
  | pioSigClear (t : Nat) (x : Engine) (sl : PioSlot)
  /-- SIG_INVERT (R396): PIO inversion of an engine flag. -/
  | pioSigInvert (t : Nat) (x : Engine) (sl : PioSlot)
  /-- SIG_IRQ (R396): PIO set of a PG_IFLAG bit. -/
  | pioSigIrq (t : Nat) (x : Engine) (sl : PioSlot)
  /-- MOVS (R396): PIO move between slot state items. -/
  | pioMovs (t : Nat) (x : Engine) (sl : PioSlot) (pins : BitVec 2)
  /-- PIO_HOLD_TICK (R396): A slot tick is spent on the HOLD ticks of the completed instruction. -/
  | pioHoldTick (t : Nat) (x : Engine) (sl : PioSlot)
  /-- PIO_SLOT_FAULT (R398): An illegal PIO instruction stops the slot in FAULT with a GREY record. -/
  | pioSlotFault (t : Nat) (x : Engine) (sl : PioSlot)
  /-- PIO_FETCH_ERROR (R404): An uncorrectable program fetch error puts the engine into FAULT. -/
  | pioFetchError (t : Nat) (x : Engine) (addr : BitVec 8)
  /-- TXQ_WRITE (R400): A write to TXQ appends a word, or is dropped when the queue is full. -/
  | txqWrite (t : Nat) (m : Master) (x : Engine) (sl : PioSlot) (v : Word)
  /-- RXQ_READ (R400): A read of RXQ removes the oldest word, or counts an underflow. -/
  | rxqRead (t : Nat) (m : Master) (x : Engine) (sl : PioSlot)
  /-- PTRIG (R403): An event of PTRIG sets the trigger flags of the selected slots. -/
  | pioPtrig (t : Nat) (x : Engine)
  /-- PIO_PROG_WRITE (R407): A write of program memory, START or queue sizes is stored while STOPPED, or refused with PROG_BUSY. -/
  | pioProgWrite (t : Nat) (m : Master) (x : Engine) (off : BitVec 12) (v : Word)
  /-- LINK_ENABLE (R417): A write of LINK PG_CTRL.EN = 1 starts training in ALIGN. -/
  | linkEnable (t : Nat) (m : Master) (x : Link)
  /-- LINK_ALIGNED (R417): The receiver locks with 64 aligned code groups, and the link enters EXCHANGE. -/
  | linkAligned (t : Nat) (x : Link)
  /-- TRAIN (R419): A TRAIN frame is received and advances exchange, measurement or failure. -/
  | linkTrain (t : Nat) (x : Link) (w0 : Word) (w1 : Word) (roundTrip : Nat)
  /-- LINK_TRAIN_TIMEOUT (R417): 1 ms passes without progress in training, and the link returns to ALIGN. -/
  | linkTrainTimeout (t : Nat) (x : Link)
  /-- LINK_DOWN (R417): An UP link loses lock, sees code violations or 30 µs without a valid frame, and falls to ALIGN. -/
  | linkDown (t : Nat) (x : Link) (cause : Fin 4)
  /-- BEACON_SEND (R420): A master sends a beacon every 1 µs and after each prediction record. -/
  | beaconSend (t : Nat)
  /-- BEACON (R422): A valid beacon is received, translated, forwarded and followed or checked. -/
  | linkBeacon (t : Nat) (x : Link) (h : LinkHdr) (ws : List Word)
  /-- STATUS (R424): A STATUS frame is received and updates eligibility and standby knowledge. -/
  | linkStatus (t : Nat) (x : Link) (h : LinkHdr) (w : Word)
  /-- STATUS_SEND (R424): A non-master sends STATUS every 10 µs, or every 1 µs with DUP_EN. -/
  | statusSend (t : Nat)
  /-- EVENT (R438): An EVENT frame is received and pulses REVT or carries out a broadcast action. -/
  | linkEvent (t : Nat) (x : Link) (h : LinkHdr) (w : Word)
  /-- CLAIM (R427): A CLAIM frame is received, which can make the active relinquish. -/
  | linkClaim (t : Nat) (x : Link) (h : LinkHdr) (w : Word)
  /-- RREQ (R437): An RREQ frame is executed under master ID 10 and answered by RRSP. -/
  | linkRreq (t : Nat) (x : Link) (h : LinkHdr) (w0 : Word) (w1 : Word)
  /-- RRSP (R437): An RRSP frame ends the local remote-window access. -/
  | linkRrsp (t : Nat) (x : Link) (h : LinkHdr) (w0 : Word) (w1 : Word)
  /-- REMOTE_ACCESS (R437): A remote-window access is sent as an RREQ once the master has none outstanding. -/
  | remoteAccess (t : Nat) (m : Master) (write : Bool) (addr : Word) (v : Word)
  /-- REMOTE_TIMEOUT (R65): A remote access receives no answer within 2 µs and ends as a bus error. -/
  | remoteTimeout (t : Nat) (m : Master)
  /-- CASC_ENABLE (R425): A write of CASC PG_CTRL.EN = 1 moves the role to LISTEN. -/
  | cascEnable (t : Nat) (m : Master)
  /-- MASTER_ELECTION (R425): An eligible listener with no beacon for 10 µs and no lower eligible ID becomes MASTER. -/
  | masterElection (t : Nat)
  /-- BEACON_LOSS (R425): No valid beacon arrives for 3 µs, and the follower promotes or listens with its output LOST. -/
  | beaconLoss (t : Nat)
  /-- CLAIM_WAIT_END (R427): CLAIM_WAIT ends, and the promoting device becomes MASTER and switches its output. -/
  | claimWaitEnd (t : Nat)
  /-- FAULT_MESSAGE (R445): A block raises a fault message, which is sent or waits or merges in its source's sender slot. -/
  | faultMessage (t : Nat) (msg : BitVec 64)
  /-- FAULT_SLOT_SEND (R445): The microsecond ends, and the waiting message is sent with its repeat count. -/
  | faultSlotSend (t : Nat) (src : BitVec 12)
  /-- FAULT_MESSAGE_ARRIVAL (R453): The collector takes a message, merges or queues it, counts it and takes its reaction. -/
  | faultMessageArrival (t : Nat)
  /-- COALESCE_CLOSE (R451): A record's coalescing window closes, and it is posted and sent on the MUART. -/
  | coalesceClose (t : Nat) (cause : BitVec 12) (kind : BitVec 8)
  /-- PROMO_WINDOW_END (R452): A count window of WIN frames ends, and the key's count returns to 0. -/
  | promoWindowEnd (t : Nat) (cause : BitVec 12) (kind : BitVec 8)
  /-- Q_POP (R448): A write of Q_POP removes the oldest record of the queue. -/
  | fltQPop (t : Nat) (m : Master)
  /-- FE_CLEAR (R449): A write of 1 to FE_VALID clears the first-error capture. -/
  | fltFeClear (t : Nat) (m : Master)
  /-- INJ_CTRL (R469): A write of INJ_CTRL.GO sends an injected message, or a configuration record for an unlisted KIND. -/
  | fltInjCtrl (t : Nat) (m : Master) (v : Word)
  /-- KCFG_WRITE (R456): A write of KCFG changes a kind's severity and reactions unless it is fixed. -/
  | fltKcfgWrite (t : Nat) (m : Master) (v : Word)
  /-- MIGRATION (R460): The tokens for a tile migration are held, and SLATE is loaded from the checkpoint and log with the map moved. -/
  | migration (t : Nat) (tile : Tile)
  /-- MIGRATION_RESUME (R461): At T_r the migrated channels resume, drop or safe-end, and a maintenance record is sent. -/
  | migrationResume (t : Nat)
  /-- ACT_REQ (R465): A write of ACT_CTRL.REQ requests a scrub, repair, BIST or migration, running or deferred. -/
  | actReq (t : Nat) (m : Master) (act : Fin 16) (target : BitVec 12)
  /-- ACT_ABORT (R470): A write of ACT_CTRL.ABORT aborts an activity on its target. -/
  | actAbort (t : Nat) (m : Master) (act : Fin 16) (target : BitVec 12)
  /-- TOKEN_GRANT (R465): Tokens free up, and a deferred activity starts in request order. -/
  | tokenGrant (t : Nat)
  /-- TILE_BIST_END (R26): A tile BIST ends, and on a pass the tile becomes the new SLATE. -/
  | tileBistEnd (t : Nat) (tile : Tile) (pass : Bool)
  /-- SCRUB_WORD (R464): The background scrub reads a word and corrects it or finds an error. -/
  | scrubWord (t : Nat) (bank : MemBank) (addr : Nat) (found : ScrubFind)
  /-- ROW_REPAIR (R464): At a frame boundary the collar copies a row into a spare row, or reports repair exhausted. -/
  | rowRepair (t : Nat) (bank : MemBank) (row : BitVec 16)
  /-- MUART_FRAME_SEND (R467): The MUART transmits the next queued record frame. -/
  | muartFrameSend (t : Nat)
  /-- MUART_READ_REQUEST (R468): An 8-byte MUART read request is received and answered with a status and data frame. -/
  | muartReadRequest (t : Nat) (bytes : List (BitVec 8))
  /-- MUART_RX_TIMEOUT (R468): A gap of more than 1 ms inside a request, or a framing error, discards the request. -/
  | muartRxTimeout (t : Nat)
  /-- BLOCK (R478): A BX_CMD BLOCK command delivers image words to BOOT, which checks them and responds. -/
  | imgBlock (t : Nat)
  /-- BX_END (R481): A BX_CMD END command starts verification of the received image. -/
  | imgEnd (t : Nat)
  /-- ABORT (R478): A BX_CMD ABORT command rejects the image and starts clearing. -/
  | imgAbort (t : Nat)
  /-- IMAGE_TIMEOUT (R474): 1 s passes without a new command in RECEIVING, and the image is rejected. -/
  | imgTimeout (t : Nat)
  /-- IMAGE_VERIFIED (R481): Verification, OTP update and register application complete, giving READY, CLEARING or a FAIL state. -/
  | imgVerified (t : Nat) (otpOk : Bool)
  /-- CLEARING_DONE (R474): Clearing of a rejected image completes, and the device returns to WAIT_IMAGE. -/
  | imgClearingDone (t : Nat)
  /-- SLOT_BLANK_END (R275): BLANK expires after HSS last switched on while comparator A is already high, and HSS switches off. -/
  | slotBlankEnd (t : Nat) (k : Bank)
  /-- BANK_THRESHOLD_SETTLED (R273): The 250 ns during which the bank ignores a comparator after a threshold move end, and the bank acts on the comparator's present level. -/
  | bankThresholdSettled (t : Nat) (k : Bank) (compB : Bool)
  /-- CLEAN_CROSSING (R317): A comparator input leaves the hysteresis band on the inactive side, which clears UNRESOLVED without changing LVL. -/
  | cleanCrossing (t : Nat) (n : Comp) (active : Bool)
  /-- LINK_FRAME_DISCARD (R414): A received link frame with a code violation, CRC failure, wrong length, unknown TYPE or TYPE outside the agreed version is discarded, counted and reported. -/
  | linkFrameDiscard (t : Nat) (x : Link) (cause : Fin 6)
  /-- TREF_OK_RISE (R40): TREF returns within the limits of R37 and TREF_OK becomes 1, which starts the 10 ms count that TB_RESTORE requires. -/
  | trefOkRise (t : Nat)
  /-- LF_OK_RISE (R41): The LF oscillator runs again and CLK_STAT.LF_OK becomes 1, so sleep and device debug halt requests no longer fail check 2. -/
  | lfOkRise (t : Nat)
  deriving DecidableEq, Repr

end Sys2Proof
end

