-- ==== Sys2Proof/Decode.lean ====
section
/-! DEFINITION. The decoder over the rows that give bits: the spec's table of operations and events gives none of them
a word, so no word spells a command. -/

namespace Sys2Proof

/-- The command a word spells by the table's bits: the table gives no row any bits. -/
def decodeTableWord (_nbits _w : Nat) : Option Instr := none

end Sys2Proof
end

