-- ==== Sys2Proof/Config.lean ====
section
/-! DEFINITION. What an implementation fixes or the spec leaves open: opaque constants without a body. -/

namespace Sys2Proof

/-- The free values: a number for each use, about which nothing is known. The state's counter `nonce` numbers the uses
(assumption log 3). -/
opaque Config.free : Nat → Nat

/-- The private identity key of the part, as a number (R483). Fused, never readable (assumption log 8). -/
opaque Config.identityKey : Nat

/-- The Nareipex root key in the boot ROM, X then Y, by word (R479; assumption log 8). -/
opaque Config.rootKey : Nat → BitVec 32

/-- The level that reads on a pin which nothing the model knows of drives, by pin number (assumption log 23). -/
opaque Config.undriven : Nat → Bool

/-- What a window register shows while its selector names nothing, by register address and selector (assumption log 24). -/
opaque Config.openRead : Nat → Nat → Nat

/-- The hysteresis that current bank `k` sets for its comparators, as CMP_CFG.HYST codes it (R273, R321; assumption log 87). -/
opaque Config.bankHyst : Nat → BitVec 2

/-- CLK.TREF_DEV.PPM as measured over each millisecond (R42), by the number of the millisecond (assumption log 25). -/
opaque Config.trefDev : Nat → Nat

/-- The physical channel whose checkpoint or log word `a` of bank `b` of Sepia segment `q` holds (R459, R461; assumption log 93). -/
opaque Config.sepiaChan : Nat → Nat → Nat → Nat

end Sys2Proof
end

