-- ==== Sys2Proof/Machine/Bits.lean ====
section
/-! DEFINITION. Bit fields, signed readings, saturation, rounding, and the CRCs of R93. -/

namespace Sys2Proof.Machine

/-- Bits `lo + w - 1` to `lo` of `v`. -/
def bits (v lo w : Nat) : Nat := v / 2 ^ lo % 2 ^ w

/-- Bit `i` of `v`, as a number. -/
def bitN (v i : Nat) : Nat := v / 2 ^ i % 2

/-- Bit `i` of `v`. -/
def bit (v i : Nat) : Bool := v / 2 ^ i % 2 == 1

/-- A truth value as a bit. -/
def b2n (b : Bool) : Nat := if b then 1 else 0

/-- `v` with bit `i` set to `b`. -/
def putBit (v i : Nat) (b : Bool) : Nat := v - bitN v i * 2 ^ i + b2n b * 2 ^ i

/-- `v` with the `w` bits from `lo` set to `x`. -/
def putBits (v lo w x : Nat) : Nat := v - bits v lo w * 2 ^ lo + x % 2 ^ w * 2 ^ lo

/-- The two's complement reading of the low `w` bits of `v`. -/
def toS (w v : Nat) : Int := if 2 ^ (w - 1) ≤ v % 2 ^ w then (v % 2 ^ w : Nat) - (2 ^ w : Nat) else (v % 2 ^ w : Nat)

/-- The low `w` bits of an integer in two's complement. -/
def ofS (w : Nat) (i : Int) : Nat := (i % (2 ^ w : Nat)).toNat

/-- An integer limited to the signed range of `w` bits. -/
def clampS (w : Nat) (i : Int) : Int := max (-(2 ^ (w - 1) : Nat)) (min i ((2 ^ (w - 1) : Nat) - 1))

/-- An integer limited to `lo` to `hi`. -/
def clampI (lo hi i : Int) : Int := max lo (min i hi)

/-- A count limited to `w` bits. -/
def satN (w n : Nat) : Nat := min n (2 ^ w - 1)

/-- `a / b` rounded to the nearest, halves up; 0 when `b` is 0. -/
def divNear (a : Int) (b : Nat) : Int := if b = 0 then 0 else (2 * a + b) / (2 * b)

/-- `a / b` rounded up. -/
def divUp (a b : Nat) : Nat := if b = 0 then 0 else (a + b - 1) / b

/-- `a - b` modulo `m`. -/
def subMod (m a b : Nat) : Nat := (a % m + m - b % m) % m

/-- The integer square root of `n`, by bits from `2^k` down. -/
def isqrtAux : Nat → Nat → Nat → Nat
  | 0, _, r => r
  | k + 1, n, r => if (r + 2 ^ k) * (r + 2 ^ k) ≤ n then isqrtAux k n (r + 2 ^ k) else isqrtAux k n r

/-- One byte through a CRC of width `w` (8 or more) and polynomial `poly`, most significant bit first. -/
def crcByte (w poly crc byte : Nat) : Nat :=
  (List.range 8).foldl
    (fun c i =>
      let top := bitN c (w - 1)
      let d := bitN byte (7 - i)
      let sh := c * 2 % 2 ^ w
      if top != d then Nat.xor sh poly else sh)
    crc

/-- A CRC over bytes, most significant bit first, no reflection, no final XOR (R93). -/
def crcBytes (w poly init : Nat) (bs : List Nat) : Nat := bs.foldl (crcByte w poly) init

/-- The `n` bytes of `v`, most significant first. -/
def bytesBE (n v : Nat) : List Nat := (List.range n).map fun i => v / 2 ^ (8 * (n - 1 - i)) % 256

/-- The `n` bytes of `v`, least significant first. -/
def bytesLE (n v : Nat) : List Nat := (List.range n).map fun i => v / 2 ^ (8 * i) % 256

/-- HDR_CRC8 of a header whose bits 63:8 are those of `h` (R93). -/
def hdrCrc8 (h : Nat) : Nat := crcBytes 8 0x07 0xFF ((bytesBE 8 h).take 7)

/-- CRC-16/CCITT over bytes (R93). -/
def crc16 (bs : List Nat) : Nat := crcBytes 16 0x1021 0xFFFF bs

/-- The IEEE 802.3 CRC-32 of bytes (R412): reflected, initial value and final XOR of ones. -/
def crc32 (bs : List Nat) : Nat :=
  let step (c : Nat) (_ : Nat) : Nat := if c % 2 = 1 then Nat.xor (c / 2) 0xEDB88320 else c / 2
  Nat.xor (bs.foldl (fun c b => (List.range 8).foldl step (Nat.xor c b)) 0xFFFFFFFF) 0xFFFFFFFF

/-- The trailer of a payload of words (R93). -/
def trailerCrc (ws : List Nat) : Nat := crc16 (ws.flatMap (bytesBE 4))

/-- The word a masked write leaves in a register that is written whole. -/
def mergeWord (cur v mk : Nat) : Nat := cur - Nat.land cur mk + Nat.land v mk

end Sys2Proof.Machine
end

