-- ==== Sys2Proof/Machine/RegMap.lean ====
section
/-! DEFINITION. The register map: one `Field` per register field of the spec's register tables
(R42, R60, R67, R81, R119, R153, R188, R222, R257 to R259, R271, R285, R310, R311, R325, R349, R351, R357, R367,
R374, R391, R408, R441, R442, R469, R470, R488), with its page, offset, bits, type (R7) and reset value (R8),
and, page by page, which fields stand in the word at an offset. -/

namespace Sys2Proof.Machine

/-- The field types of R7. -/
inductive RType where
  | rw | ro | w1c | w1s | rc | wo | rwl | rws
  deriving DecidableEq, Repr

/-- One register field: page number, offset in the page, lowest bit, width, type, reset value. -/
structure Field where
  page : Nat
  off : Nat
  lo : Nat
  w : Nat
  ty : RType
  rst : Nat
  deriving DecidableEq, Repr

/-- The place of a field in the field store. -/
def Field.key (f : Field) : Nat := (f.page * 4096 + f.off) * 32 + f.lo

/-- One register, or `n` like registers `stride` bytes apart: its fields by index. -/
structure RegRow where
  base : Nat
  n : Nat
  stride : Nat
  fields : Nat → List Field

namespace Reg

/-- PG_CTRL.EN at reset: 1 on the pages that cannot be disabled (their chapters). -/
def enReset (p : Nat) : Nat :=
  if p ≤ 6 ∨ p = 8 ∨ p = 9 ∨ (0x20 ≤ p ∧ p ≤ 0x28) ∨ p = 0x38 ∨ p = 0x80 ∨ p = 0x88 ∨ p = 0xB0 ∨ p = 0xB1 ∨ p = 0xB8
  then 1 else 0

/-- PG_ACL at reset (R76). -/
def aclReset (p : Nat) : Nat :=
  if (0x20 ≤ p ∧ p ≤ 0x28) ∨ (0x30 ≤ p ∧ p ≤ 0x33) then 0x0000AAEF
  else if p = 0x88 ∨ (0x90 ≤ p ∧ p ≤ 0xA7) then 0x000255EF
  else if 0xC0 ≤ p ∧ p ≤ 0xC3 then 0x000855EF
  else if p = 0x03 then 0x00000045
  else if p = 0x05 then 0x000055FF
  else 0x000055EF

def PG_ID_TYPE (p : Nat) : Field := ⟨p, 0x0, 16, 16, .ro, 0x0⟩
def PG_ID_INST (p : Nat) : Field := ⟨p, 0x0, 8, 8, .ro, 0x0⟩
def PG_ID_VER (p : Nat) : Field := ⟨p, 0x0, 0, 8, .ro, 0x1⟩
def PG_CAP_CAP_RST (p : Nat) : Field := ⟨p, 0x4, 31, 1, .ro, 0x0⟩
def PG_CAP_CAP_FRZ (p : Nat) : Field := ⟨p, 0x4, 30, 1, .ro, 0x0⟩
def PG_CAP_CAP_PINS (p : Nat) : Field := ⟨p, 0x4, 29, 1, .ro, 0x0⟩
def PG_CAP_CAP_WIDE (p : Nat) : Field := ⟨p, 0x4, 28, 1, .ro, 0x0⟩
def PG_CAP_CAP_SNAP (p : Nat) : Field := ⟨p, 0x4, 27, 1, .ro, 0x0⟩
def PG_CAP_BLK (p : Nat) : Field := ⟨p, 0x4, 0, 24, .ro, 0x0⟩
def PG_CTRL_KEY (p : Nat) : Field := ⟨p, 0x8, 24, 8, .wo, 0x0⟩
def PG_CTRL_SOFT_RST (p : Nat) : Field := ⟨p, 0x8, 8, 1, .wo, 0x0⟩
def PG_CTRL_DEBUG_SAFE (p : Nat) : Field := ⟨p, 0x8, 3, 1, .rw, 0x1⟩
def PG_CTRL_FREEZE (p : Nat) : Field := ⟨p, 0x8, 2, 1, .rw, 0x0⟩
def PG_CTRL_EN (p : Nat) : Field := ⟨p, 0x8, 0, 1, .rw, (enReset p)⟩
def PG_STAT_RST_BUSY (p : Nat) : Field := ⟨p, 0xc, 31, 1, .ro, 0x0⟩
def PG_STAT_CRIMSON (p : Nat) : Field := ⟨p, 0xc, 30, 1, .ro, 0x0⟩
def PG_STAT_AMBER (p : Nat) : Field := ⟨p, 0xc, 29, 1, .ro, 0x0⟩
def PG_STAT_RUNNING (p : Nat) : Field := ⟨p, 0xc, 28, 1, .ro, 0x0⟩
def PG_STAT_FROZEN (p : Nat) : Field := ⟨p, 0xc, 27, 1, .ro, 0x0⟩
def PG_STAT_BLK (p : Nat) : Field := ⟨p, 0xc, 0, 24, .ro, 0x0⟩
def PG_IFLAG_FLAG (p : Nat) : Field := ⟨p, 0x10, 0, 32, .w1c, 0x0⟩
def PG_IEN_A_EN_A (p : Nat) : Field := ⟨p, 0x14, 0, 32, .rw, 0x0⟩
def PG_IEN_B_EN_B (p : Nat) : Field := ⟨p, 0x18, 0, 32, .rw, 0x0⟩
def PG_FAULT_LIVE (p : Nat) : Field := ⟨p, 0x1c, 31, 1, .ro, 0x0⟩
def PG_FAULT_VALID (p : Nat) : Field := ⟨p, 0x1c, 30, 1, .w1c, 0x0⟩
def PG_FAULT_SEV (p : Nat) : Field := ⟨p, 0x1c, 28, 2, .ro, 0x0⟩
def PG_FAULT_KIND (p : Nat) : Field := ⟨p, 0x1c, 20, 8, .ro, 0x0⟩
def PG_FAULT_OVF (p : Nat) : Field := ⟨p, 0x1c, 19, 1, .ro, 0x0⟩
def PG_FAULT_DETAIL (p : Nat) : Field := ⟨p, 0x1c, 0, 19, .ro, 0x0⟩
def PG_FCNT_TOTAL (p : Nat) : Field := ⟨p, 0x20, 16, 16, .ro, 0x0⟩
def PG_FCNT_IN_WIN (p : Nat) : Field := ⟨p, 0x20, 8, 8, .ro, 0x0⟩
def PG_FCNT_PROMOTED (p : Nat) : Field := ⟨p, 0x20, 7, 1, .ro, 0x0⟩
def PG_BUDGET_OVER (p : Nat) : Field := ⟨p, 0x24, 31, 1, .ro, 0x0⟩
def PG_BUDGET_HELD (p : Nat) : Field := ⟨p, 0x24, 16, 13, .ro, 0x0⟩
def PG_BUDGET_USED (p : Nat) : Field := ⟨p, 0x24, 0, 13, .ro, 0x0⟩
def PG_ACL_ACL (p : Nat) : Field := ⟨p, 0x28, 0, 32, .rwl, (aclReset p)⟩
def PG_ACLK_BY (p : Nat) : Field := ⟨p, 0x2c, 8, 4, .ro, 0x0⟩
def PG_ACLK_LOCK (p : Nat) : Field := ⟨p, 0x2c, 0, 1, .w1s, 0x0⟩

/-- The registers of the common page header (R67). -/
def hdrRows (p : Nat) : List RegRow := [
  ⟨0x0, 1, 4, fun _ => [PG_ID_TYPE p, PG_ID_INST p, PG_ID_VER p]⟩,
  ⟨0x4, 1, 4, fun _ => [PG_CAP_CAP_RST p, PG_CAP_CAP_FRZ p, PG_CAP_CAP_PINS p, PG_CAP_CAP_WIDE p, PG_CAP_CAP_SNAP p, PG_CAP_BLK p]⟩,
  ⟨0x8, 1, 4, fun _ => [PG_CTRL_KEY p, PG_CTRL_SOFT_RST p, PG_CTRL_DEBUG_SAFE p, PG_CTRL_FREEZE p, PG_CTRL_EN p]⟩,
  ⟨0xc, 1, 4, fun _ => [PG_STAT_RST_BUSY p, PG_STAT_CRIMSON p, PG_STAT_AMBER p, PG_STAT_RUNNING p, PG_STAT_FROZEN p, PG_STAT_BLK p]⟩,
  ⟨0x10, 1, 4, fun _ => [PG_IFLAG_FLAG p]⟩,
  ⟨0x14, 1, 4, fun _ => [PG_IEN_A_EN_A p]⟩,
  ⟨0x18, 1, 4, fun _ => [PG_IEN_B_EN_B p]⟩,
  ⟨0x1c, 1, 4, fun _ => [PG_FAULT_LIVE p, PG_FAULT_VALID p, PG_FAULT_SEV p, PG_FAULT_KIND p, PG_FAULT_OVF p, PG_FAULT_DETAIL p]⟩,
  ⟨0x20, 1, 4, fun _ => [PG_FCNT_TOTAL p, PG_FCNT_IN_WIN p, PG_FCNT_PROMOTED p]⟩,
  ⟨0x24, 1, 4, fun _ => [PG_BUDGET_OVER p, PG_BUDGET_HELD p, PG_BUDGET_USED p]⟩,
  ⟨0x28, 1, 4, fun _ => [PG_ACL_ACL p]⟩,
  ⟨0x2c, 1, 4, fun _ => [PG_ACLK_BY p, PG_ACLK_LOCK p]⟩]

def SYS_DEV_ID_PART : Field := ⟨0x0, 0x40, 16, 16, .ro, 0x2408⟩
def SYS_DEV_ID_REV : Field := ⟨0x0, 0x40, 8, 8, .ro, 0x0⟩
def SYS_DEV_ID_VAR : Field := ⟨0x0, 0x40, 0, 8, .ro, 0x0⟩
def SYS_ACC_ERR_VALID : Field := ⟨0x0, 0x44, 31, 1, .w1c, 0x0⟩
def SYS_ACC_ERR_MORE : Field := ⟨0x0, 0x44, 30, 1, .ro, 0x0⟩
def SYS_ACC_ERR_WRITE : Field := ⟨0x0, 0x44, 29, 1, .ro, 0x0⟩
def SYS_ACC_ERR_MASTER : Field := ⟨0x0, 0x44, 24, 4, .ro, 0x0⟩
def SYS_ACC_ERR_CODE : Field := ⟨0x0, 0x44, 0, 8, .ro, 0x0⟩
def SYS_ACC_ERR_ADDR_ADDR : Field := ⟨0x0, 0x48, 0, 32, .ro, 0x0⟩
def SYS_DOM_STAT_DROOP : Field := ⟨0x0, 0x4c, 4, 4, .w1c, 0x0⟩
def SYS_DOM_STAT_RST : Field := ⟨0x0, 0x4c, 0, 4, .ro, 0x0⟩
def SYS_MBX_ACL_ACL (i : Nat) : Field := ⟨0x0, (0x80 + 0x4 * i), 0, 32, .rwl, 0xaaaef⟩
def SYS_EVT_ACL_ACL : Field := ⟨0x0, 0xc0, 0, 32, .rwl, 0xaaef⟩
def SYS_UCODE_ACL_ACL : Field := ⟨0x0, 0xc4, 0, 32, .rwl, 0x55ef⟩
def SYS_REM_ACL_ACL : Field := ⟨0x0, 0xc8, 0, 32, .rwl, 0xef⟩

/-- The registers of a SYS page. -/
def sysRows : List RegRow := [
  ⟨0x40, 1, 4, fun _ => [SYS_DEV_ID_PART, SYS_DEV_ID_REV, SYS_DEV_ID_VAR]⟩,
  ⟨0x44, 1, 4, fun _ => [SYS_ACC_ERR_VALID, SYS_ACC_ERR_MORE, SYS_ACC_ERR_WRITE, SYS_ACC_ERR_MASTER, SYS_ACC_ERR_CODE]⟩,
  ⟨0x48, 1, 4, fun _ => [SYS_ACC_ERR_ADDR_ADDR]⟩,
  ⟨0x4c, 1, 4, fun _ => [SYS_DOM_STAT_DROOP, SYS_DOM_STAT_RST]⟩,
  ⟨0x80, 16, 0x4, fun i => [SYS_MBX_ACL_ACL i]⟩,
  ⟨0xc0, 1, 4, fun _ => [SYS_EVT_ACL_ACL]⟩,
  ⟨0xc4, 1, 4, fun _ => [SYS_UCODE_ACL_ACL]⟩,
  ⟨0xc8, 1, 4, fun _ => [SYS_REM_ACL_ACL]⟩]

def CLK_CLK_CTRL_LF_EN : Field := ⟨0x1, 0x40, 1, 1, .rw, 0x1⟩
def CLK_CLK_CTRL_TB_RESTORE : Field := ⟨0x1, 0x40, 0, 1, .wo, 0x0⟩
def CLK_CLK_STAT_TB_SRC : Field := ⟨0x1, 0x44, 6, 2, .ro, 0x0⟩
def CLK_CLK_STAT_DL_CAL : Field := ⟨0x1, 0x44, 5, 1, .ro, 0x0⟩
def CLK_CLK_STAT_LF_OK : Field := ⟨0x1, 0x44, 4, 1, .ro, 0x0⟩
def CLK_CLK_STAT_XIN_OK : Field := ⟨0x1, 0x44, 3, 1, .ro, 0x0⟩
def CLK_CLK_STAT_TREF_OK : Field := ⟨0x1, 0x44, 2, 1, .ro, 0x0⟩
def CLK_CLK_STAT_PLL_TB_LOCK : Field := ⟨0x1, 0x44, 1, 1, .ro, 0x0⟩
def CLK_CLK_STAT_PLL_SYS_LOCK : Field := ⟨0x1, 0x44, 0, 1, .ro, 0x0⟩
def CLK_TREF_DEV_PPM : Field := ⟨0x1, 0x48, 0, 16, .ro, 0x0⟩
def CLK_TB_SWITCH_COUNT : Field := ⟨0x1, 0x4c, 16, 16, .ro, 0x0⟩
def CLK_TB_SWITCH_SKIP : Field := ⟨0x1, 0x4c, 0, 2, .ro, 0x0⟩
def CLK_PWR_CTRL_KEY : Field := ⟨0x1, 0x50, 24, 8, .wo, 0x0⟩
def CLK_PWR_CTRL_FORCE : Field := ⟨0x1, 0x50, 2, 1, .wo, 0x0⟩
def CLK_PWR_CTRL_DHALT : Field := ⟨0x1, 0x50, 1, 1, .rw, 0x0⟩
def CLK_PWR_CTRL_SLEEP : Field := ⟨0x1, 0x50, 0, 1, .wo, 0x0⟩
def CLK_PWR_STAT_WAKE_SRC : Field := ⟨0x1, 0x54, 12, 4, .ro, 0x0⟩
def CLK_PWR_STAT_REFUSE : Field := ⟨0x1, 0x54, 8, 4, .ro, 0x0⟩
def CLK_PWR_STAT_STATE : Field := ⟨0x1, 0x54, 0, 2, .ro, 0x0⟩

/-- The registers of a CLK page. -/
def clkRows : List RegRow := [
  ⟨0x40, 1, 4, fun _ => [CLK_CLK_CTRL_LF_EN, CLK_CLK_CTRL_TB_RESTORE]⟩,
  ⟨0x44, 1, 4, fun _ => [CLK_CLK_STAT_TB_SRC, CLK_CLK_STAT_DL_CAL, CLK_CLK_STAT_LF_OK, CLK_CLK_STAT_XIN_OK, CLK_CLK_STAT_TREF_OK, CLK_CLK_STAT_PLL_TB_LOCK, CLK_CLK_STAT_PLL_SYS_LOCK]⟩,
  ⟨0x48, 1, 4, fun _ => [CLK_TREF_DEV_PPM]⟩,
  ⟨0x4c, 1, 4, fun _ => [CLK_TB_SWITCH_COUNT, CLK_TB_SWITCH_SKIP]⟩,
  ⟨0x50, 1, 4, fun _ => [CLK_PWR_CTRL_KEY, CLK_PWR_CTRL_FORCE, CLK_PWR_CTRL_DHALT, CLK_PWR_CTRL_SLEEP]⟩,
  ⟨0x54, 1, 4, fun _ => [CLK_PWR_STAT_WAKE_SRC, CLK_PWR_STAT_REFUSE, CLK_PWR_STAT_STATE]⟩]

def BUDG_BUDG_CTRL_COMMIT : Field := ⟨0x2, 0x40, 0, 1, .wo, 0x0⟩
def BUDG_BUDG_STAT_REF_IDX : Field := ⟨0x2, 0x44, 8, 8, .ro, 0x0⟩
def BUDG_BUDG_STAT_REFUSED : Field := ⟨0x2, 0x44, 1, 1, .w1c, 0x0⟩
def BUDG_BUDG_STAT_PENDING : Field := ⟨0x2, 0x44, 0, 1, .ro, 0x0⟩
def BUDG_FRAME_CNT_N : Field := ⟨0x2, 0x48, 0, 32, .ro, 0x0⟩
def BUDG_FRAME_POS_POS : Field := ⟨0x2, 0x4c, 0, 13, .ro, 0x0⟩
def BUDG_BCFG_SLACK (i : Nat) : Field := ⟨0x2, (0x100 + 0x8 * i), 31, 1, .rwl, 0x1⟩
def BUDG_BCFG_CEIL (i : Nat) : Field := ⟨0x2, (0x100 + 0x8 * i), 16, 13, .rwl, 0x1f40⟩
def BUDG_BCFG_FLOOR (i : Nat) : Field := ⟨0x2, (0x100 + 0x8 * i), 0, 13, .rwl, 0x0⟩
def BUDG_BUSE_OVER (i : Nat) : Field := ⟨0x2, (0x104 + 0x8 * i), 31, 1, .ro, 0x0⟩
def BUDG_BUSE_HELD (i : Nat) : Field := ⟨0x2, (0x104 + 0x8 * i), 16, 13, .ro, 0x0⟩
def BUDG_BUSE_USED (i : Nat) : Field := ⟨0x2, (0x104 + 0x8 * i), 0, 13, .ro, 0x0⟩

/-- The registers of a BUDG page. -/
def budgRows : List RegRow := [
  ⟨0x40, 1, 4, fun _ => [BUDG_BUDG_CTRL_COMMIT]⟩,
  ⟨0x44, 1, 4, fun _ => [BUDG_BUDG_STAT_REF_IDX, BUDG_BUDG_STAT_REFUSED, BUDG_BUDG_STAT_PENDING]⟩,
  ⟨0x48, 1, 4, fun _ => [BUDG_FRAME_CNT_N]⟩,
  ⟨0x4c, 1, 4, fun _ => [BUDG_FRAME_POS_POS]⟩,
  ⟨0x100, 63, 0x8, fun i => [BUDG_BCFG_SLACK i, BUDG_BCFG_CEIL i, BUDG_BCFG_FLOOR i]⟩,
  ⟨0x104, 63, 0x8, fun i => [BUDG_BUSE_OVER i, BUDG_BUSE_HELD i, BUDG_BUSE_USED i]⟩]

def SEC_IMG_STAT_REASON : Field := ⟨0x3, 0x40, 24, 8, .ro, 0x0⟩
def SEC_IMG_STAT_REJ_CNT : Field := ⟨0x3, 0x40, 16, 8, .ro, 0x0⟩
def SEC_IMG_STAT_SEQ : Field := ⟨0x3, 0x40, 8, 8, .ro, 0x0⟩
def SEC_IMG_STAT_SIGNER : Field := ⟨0x3, 0x40, 0, 4, .ro, 0xf⟩
def SEC_IMG_INFO_ROLLBACK : Field := ⟨0x3, 0x44, 24, 8, .ro, 0x0⟩
def SEC_IMG_INFO_SEG_N : Field := ⟨0x3, 0x44, 8, 8, .ro, 0x0⟩
def SEC_IMG_VER_VER : Field := ⟨0x3, 0x48, 0, 32, .ro, 0x0⟩
def SEC_IMG_WORDS_WORDS : Field := ⟨0x3, 0x4c, 0, 17, .ro, 0x0⟩
def SEC_OTP_STAT_RB_CNT : Field := ⟨0x3, 0x50, 24, 8, .ro, 0x0⟩
def SEC_OTP_STAT_REVOKED : Field := ⟨0x3, 0x50, 20, 4, .ro, 0x0⟩
def SEC_OTP_STAT_PROG : Field := ⟨0x3, 0x50, 16, 4, .ro, 0x0⟩
def SEC_OTP_STAT_BOOT_CNT : Field := ⟨0x3, 0x50, 0, 16, .ro, 0x0⟩
def SEC_LIFE_FIELD : Field := ⟨0x3, 0x54, 0, 1, .ro, 0x0⟩
def SEC_UID_LO_UID : Field := ⟨0x3, 0x58, 0, 32, .ro, 0x0⟩
def SEC_UID_HI_UID : Field := ⟨0x3, 0x5c, 0, 32, .ro, 0x0⟩
def SEC_ATT_CNT_COUNT : Field := ⟨0x3, 0x60, 0, 16, .ro, 0x0⟩
def SEC_CERT_LEN_BYTES : Field := ⟨0x3, 0x64, 0, 11, .ro, 0x0⟩
def SEC_IMG_HASH_HASH (i : Nat) : Field := ⟨0x3, (0x100 + 0x4 * i), 0, 32, .ro, 0x0⟩
def SEC_ID_PUB_KEY (i : Nat) : Field := ⟨0x3, (0x140 + 0x4 * i), 0, 32, .ro, 0x0⟩
def SEC_SLOT_HASH_HASH (i : Nat) : Field := ⟨0x3, (0x200 + 0x40 * (i / 12) + 4 * (i % 12)), 0, 32, .ro, 0x0⟩
def SEC_ROOT_HASH_HASH (i : Nat) : Field := ⟨0x3, (0x300 + 0x4 * i), 0, 32, .ro, 0x0⟩
def SEC_CERT_DATA (i : Nat) : Field := ⟨0x3, (0x400 + 0x4 * i), 0, 32, .ro, 0x0⟩

/-- The registers of a SEC page. -/
def secRows : List RegRow := [
  ⟨0x40, 1, 4, fun _ => [SEC_IMG_STAT_REASON, SEC_IMG_STAT_REJ_CNT, SEC_IMG_STAT_SEQ, SEC_IMG_STAT_SIGNER]⟩,
  ⟨0x44, 1, 4, fun _ => [SEC_IMG_INFO_ROLLBACK, SEC_IMG_INFO_SEG_N]⟩,
  ⟨0x48, 1, 4, fun _ => [SEC_IMG_VER_VER]⟩,
  ⟨0x4c, 1, 4, fun _ => [SEC_IMG_WORDS_WORDS]⟩,
  ⟨0x50, 1, 4, fun _ => [SEC_OTP_STAT_RB_CNT, SEC_OTP_STAT_REVOKED, SEC_OTP_STAT_PROG, SEC_OTP_STAT_BOOT_CNT]⟩,
  ⟨0x54, 1, 4, fun _ => [SEC_LIFE_FIELD]⟩,
  ⟨0x58, 1, 4, fun _ => [SEC_UID_LO_UID]⟩,
  ⟨0x5c, 1, 4, fun _ => [SEC_UID_HI_UID]⟩,
  ⟨0x60, 1, 4, fun _ => [SEC_ATT_CNT_COUNT]⟩,
  ⟨0x64, 1, 4, fun _ => [SEC_CERT_LEN_BYTES]⟩,
  ⟨0x100, 12, 0x4, fun i => [SEC_IMG_HASH_HASH i]⟩,
  ⟨0x140, 24, 0x4, fun i => [SEC_ID_PUB_KEY i]⟩,
  ⟨0x200, 12, 4, fun i => [SEC_SLOT_HASH_HASH (0 + i)]⟩,
  ⟨0x240, 12, 4, fun i => [SEC_SLOT_HASH_HASH (12 + i)]⟩,
  ⟨0x280, 12, 4, fun i => [SEC_SLOT_HASH_HASH (24 + i)]⟩,
  ⟨0x2c0, 12, 4, fun i => [SEC_SLOT_HASH_HASH (36 + i)]⟩,
  ⟨0x300, 12, 0x4, fun i => [SEC_ROOT_HASH_HASH i]⟩,
  ⟨0x400, 256, 0x4, fun i => [SEC_CERT_DATA i]⟩]

def FLT_FLT_CFG_COALESCE_WIN : Field := ⟨0x4, 0x40, 16, 16, .rwl, 0x64⟩
def FLT_FLT_CFG_WIN : Field := ⟨0x4, 0x40, 0, 16, .rwl, 0xc350⟩
def FLT_FLT_STAT_FE_VALID : Field := ⟨0x4, 0x44, 31, 1, .w1c, 0x0⟩
def FLT_FLT_STAT_PKG_CRIMSON : Field := ⟨0x4, 0x44, 30, 1, .ro, 0x0⟩
def FLT_FLT_STAT_EVICT : Field := ⟨0x4, 0x44, 8, 8, .rc, 0x0⟩
def FLT_FLT_STAT_Q_LVL : Field := ⟨0x4, 0x44, 0, 7, .ro, 0x0⟩
def FLT_Q_MSG_LO_MSG : Field := ⟨0x4, 0x48, 0, 32, .ro, 0x0⟩
def FLT_Q_MSG_HI_MSG : Field := ⟨0x4, 0x4c, 0, 32, .ro, 0x0⟩
def FLT_Q_INFO_INFO : Field := ⟨0x4, 0x50, 0, 32, .ro, 0x0⟩
def FLT_Q_TIME_LO_T : Field := ⟨0x4, 0x54, 0, 32, .ro, 0x0⟩
def FLT_Q_TIME_HI_T : Field := ⟨0x4, 0x58, 0, 32, .ro, 0x0⟩
def FLT_Q_POP_POP : Field := ⟨0x4, 0x5c, 0, 1, .wo, 0x0⟩
def FLT_FE_MSG_LO_MSG : Field := ⟨0x4, 0x60, 0, 32, .ro, 0x0⟩
def FLT_FE_MSG_HI_MSG : Field := ⟨0x4, 0x64, 0, 32, .ro, 0x0⟩
def FLT_FE_INFO_INFO : Field := ⟨0x4, 0x68, 0, 32, .ro, 0x0⟩
def FLT_FE_TIME_LO_T : Field := ⟨0x4, 0x6c, 0, 32, .ro, 0x0⟩
def FLT_FE_TIME_HI_T : Field := ⟨0x4, 0x70, 0, 32, .ro, 0x0⟩
def FLT_HIST_SEL_IDX : Field := ⟨0x4, 0x78, 0, 5, .rw, 0x0⟩
def FLT_H_MSG_LO_MSG : Field := ⟨0x4, 0x7c, 0, 32, .ro, 0x0⟩
def FLT_H_MSG_HI_MSG : Field := ⟨0x4, 0x80, 0, 32, .ro, 0x0⟩
def FLT_H_INFO_INFO : Field := ⟨0x4, 0x84, 0, 32, .ro, 0x0⟩
def FLT_H_TIME_LO_T : Field := ⟨0x4, 0x88, 0, 32, .ro, 0x0⟩
def FLT_H_TIME_HI_T : Field := ⟨0x4, 0x8c, 0, 32, .ro, 0x0⟩
def FLT_DROP_CNT : Field := ⟨0x4, 0x90, 0, 32, .rc, 0x0⟩
def FLT_RL_DROP_CNT : Field := ⟨0x4, 0x94, 0, 32, .rc, 0x0⟩
def FLT_KCFG_SEL_KIND : Field := ⟨0x4, 0x98, 0, 8, .rw, 0x0⟩
def FLT_KCFG_SEV : Field := ⟨0x4, 0x9c, 28, 2, .rwl, 0x0⟩
def FLT_KCFG_REACT : Field := ⟨0x4, 0x9c, 24, 3, .rwl, 0x0⟩
def FLT_KCFG_PREACT : Field := ⟨0x4, 0x9c, 20, 3, .rwl, 0x0⟩
def FLT_KCFG_PROMO_N : Field := ⟨0x4, 0x9c, 8, 8, .rwl, 0x0⟩
def FLT_FLT_POST_EN : Field := ⟨0x4, 0xa0, 31, 1, .rwl, 0x0⟩
def FLT_FLT_POST_MIN_SEV : Field := ⟨0x4, 0xa0, 4, 2, .rwl, 0x1⟩
def FLT_FLT_POST_PORT : Field := ⟨0x4, 0xa0, 3, 1, .rwl, 0x0⟩
def FLT_FLT_POST_QUEUE : Field := ⟨0x4, 0xa0, 0, 3, .rwl, 0x0⟩
def FLT_INJ_CTRL_GO : Field := ⟨0x4, 0xa4, 31, 1, .wo, 0x0⟩
def FLT_INJ_CTRL_SEV : Field := ⟨0x4, 0xa4, 28, 2, .wo, 0x0⟩
def FLT_INJ_CTRL_KIND : Field := ⟨0x4, 0xa4, 20, 8, .wo, 0x0⟩
def FLT_INJ_CTRL_SRC_ID : Field := ⟨0x4, 0xa4, 0, 12, .wo, 0x0⟩

/-- The registers of a FLT page. -/
def fltRows : List RegRow := [
  ⟨0x40, 1, 4, fun _ => [FLT_FLT_CFG_COALESCE_WIN, FLT_FLT_CFG_WIN]⟩,
  ⟨0x44, 1, 4, fun _ => [FLT_FLT_STAT_FE_VALID, FLT_FLT_STAT_PKG_CRIMSON, FLT_FLT_STAT_EVICT, FLT_FLT_STAT_Q_LVL]⟩,
  ⟨0x48, 1, 4, fun _ => [FLT_Q_MSG_LO_MSG]⟩,
  ⟨0x4c, 1, 4, fun _ => [FLT_Q_MSG_HI_MSG]⟩,
  ⟨0x50, 1, 4, fun _ => [FLT_Q_INFO_INFO]⟩,
  ⟨0x54, 1, 4, fun _ => [FLT_Q_TIME_LO_T]⟩,
  ⟨0x58, 1, 4, fun _ => [FLT_Q_TIME_HI_T]⟩,
  ⟨0x5c, 1, 4, fun _ => [FLT_Q_POP_POP]⟩,
  ⟨0x60, 1, 4, fun _ => [FLT_FE_MSG_LO_MSG]⟩,
  ⟨0x64, 1, 4, fun _ => [FLT_FE_MSG_HI_MSG]⟩,
  ⟨0x68, 1, 4, fun _ => [FLT_FE_INFO_INFO]⟩,
  ⟨0x6c, 1, 4, fun _ => [FLT_FE_TIME_LO_T]⟩,
  ⟨0x70, 1, 4, fun _ => [FLT_FE_TIME_HI_T]⟩,
  ⟨0x78, 1, 4, fun _ => [FLT_HIST_SEL_IDX]⟩,
  ⟨0x7c, 1, 4, fun _ => [FLT_H_MSG_LO_MSG]⟩,
  ⟨0x80, 1, 4, fun _ => [FLT_H_MSG_HI_MSG]⟩,
  ⟨0x84, 1, 4, fun _ => [FLT_H_INFO_INFO]⟩,
  ⟨0x88, 1, 4, fun _ => [FLT_H_TIME_LO_T]⟩,
  ⟨0x8c, 1, 4, fun _ => [FLT_H_TIME_HI_T]⟩,
  ⟨0x90, 1, 4, fun _ => [FLT_DROP_CNT]⟩,
  ⟨0x94, 1, 4, fun _ => [FLT_RL_DROP_CNT]⟩,
  ⟨0x98, 1, 4, fun _ => [FLT_KCFG_SEL_KIND]⟩,
  ⟨0x9c, 1, 4, fun _ => [FLT_KCFG_SEV, FLT_KCFG_REACT, FLT_KCFG_PREACT, FLT_KCFG_PROMO_N]⟩,
  ⟨0xa0, 1, 4, fun _ => [FLT_FLT_POST_EN, FLT_FLT_POST_MIN_SEV, FLT_FLT_POST_PORT, FLT_FLT_POST_QUEUE]⟩,
  ⟨0xa4, 1, 4, fun _ => [FLT_INJ_CTRL_GO, FLT_INJ_CTRL_SEV, FLT_INJ_CTRL_KIND, FLT_INJ_CTRL_SRC_ID]⟩]

def MAINT_TOKEN_STAT_W : Field := ⟨0x5, 0x40, 0, 32, .ro, 0x0⟩
def MAINT_ACT_CTRL_REQ : Field := ⟨0x5, 0x44, 31, 1, .wo, 0x0⟩
def MAINT_ACT_CTRL_ABORT : Field := ⟨0x5, 0x44, 30, 1, .wo, 0x0⟩
def MAINT_ACT_CTRL_ACT : Field := ⟨0x5, 0x44, 24, 4, .wo, 0x0⟩
def MAINT_ACT_CTRL_TARGET : Field := ⟨0x5, 0x44, 0, 12, .wo, 0x0⟩
def MAINT_LMAP0_MAP : Field := ⟨0x5, 0x48, 0, 32, .ro, 0x76543210⟩
def MAINT_LMAP1_SLATE : Field := ⟨0x5, 0x4c, 0, 4, .ro, 0x8⟩
def MAINT_MIG_CFG_AUTO : Field := ⟨0x5, 0x50, 0, 1, .rwl, 0x1⟩
def MAINT_MIG_STAT_FROM : Field := ⟨0x5, 0x54, 28, 4, .ro, 0xf⟩
def MAINT_MIG_STAT_TO : Field := ⟨0x5, 0x54, 24, 4, .ro, 0xf⟩
def MAINT_MIG_STAT_RESUMED : Field := ⟨0x5, 0x54, 16, 8, .ro, 0x0⟩
def MAINT_MIG_STAT_DROPPED : Field := ⟨0x5, 0x54, 8, 8, .ro, 0x0⟩
def MAINT_MIG_STAT_LOSTST : Field := ⟨0x5, 0x54, 0, 8, .ro, 0x0⟩
def MAINT_MIG_TIME_COUNT : Field := ⟨0x5, 0x58, 16, 16, .ro, 0x0⟩
def MAINT_MIG_TIME_T : Field := ⟨0x5, 0x58, 0, 16, .ro, 0x0⟩
def MAINT_SCRUB_CFG_AUTO : Field := ⟨0x5, 0x60, 31, 1, .rw, 0x1⟩
def MAINT_SCRUB_CFG_PASS_S : Field := ⟨0x5, 0x60, 0, 16, .rw, 0x3c⟩
def MAINT_SCRUB_STAT_PASSES : Field := ⟨0x5, 0x64, 16, 16, .ro, 0x0⟩
def MAINT_SCRUB_STAT_CORR : Field := ⟨0x5, 0x64, 0, 16, .rc, 0x0⟩
def MAINT_REP_SEL_QSEG : Field := ⟨0x5, 0x68, 4, 8, .rw, 0x0⟩
def MAINT_REP_SEL_BANK : Field := ⟨0x5, 0x68, 0, 4, .rw, 0x0⟩
def MAINT_REP_INFO_ROW : Field := ⟨0x5, 0x6c, 16, 16, .ro, 0x0⟩
def MAINT_REP_INFO_EXHAUSTED : Field := ⟨0x5, 0x6c, 2, 1, .ro, 0x0⟩
def MAINT_REP_INFO_USED : Field := ⟨0x5, 0x6c, 0, 2, .ro, 0x0⟩
def MAINT_REP_CNT_EXH : Field := ⟨0x5, 0x70, 16, 8, .ro, 0x0⟩
def MAINT_REP_CNT_ROWS : Field := ⟨0x5, 0x70, 0, 16, .ro, 0x0⟩
def MAINT_ACT_STAT_RESULT (i : Nat) : Field := ⟨0x5, (0x80 + 0x4 * i), 28, 4, .ro, 0x0⟩
def MAINT_ACT_STAT_TARGET (i : Nat) : Field := ⟨0x5, (0x80 + 0x4 * i), 12, 12, .ro, 0x0⟩
def MAINT_ACT_STAT_COUNT (i : Nat) : Field := ⟨0x5, (0x80 + 0x4 * i), 0, 12, .ro, 0x0⟩
def MAINT_MUART_CFG_EN : Field := ⟨0x5, 0xa0, 31, 1, .rw, 0x0⟩
def MAINT_MUART_CFG_MIN_SEV : Field := ⟨0x5, 0xa0, 4, 2, .rw, 0x2⟩
def MAINT_MUART_CFG_BAUD : Field := ⟨0x5, 0xa0, 0, 1, .rw, 0x0⟩
def MAINT_MUART_STAT_DROP : Field := ⟨0x5, 0xa4, 16, 16, .rc, 0x0⟩
def MAINT_MUART_STAT_RX_ERR : Field := ⟨0x5, 0xa4, 8, 8, .rc, 0x0⟩
def MAINT_MUART_STAT_LEVEL : Field := ⟨0x5, 0xa4, 0, 5, .ro, 0x0⟩

/-- The registers of a MAINT page. -/
def maintRows : List RegRow := [
  ⟨0x40, 1, 4, fun _ => [MAINT_TOKEN_STAT_W]⟩,
  ⟨0x44, 1, 4, fun _ => [MAINT_ACT_CTRL_REQ, MAINT_ACT_CTRL_ABORT, MAINT_ACT_CTRL_ACT, MAINT_ACT_CTRL_TARGET]⟩,
  ⟨0x48, 1, 4, fun _ => [MAINT_LMAP0_MAP]⟩,
  ⟨0x4c, 1, 4, fun _ => [MAINT_LMAP1_SLATE]⟩,
  ⟨0x50, 1, 4, fun _ => [MAINT_MIG_CFG_AUTO]⟩,
  ⟨0x54, 1, 4, fun _ => [MAINT_MIG_STAT_FROM, MAINT_MIG_STAT_TO, MAINT_MIG_STAT_RESUMED, MAINT_MIG_STAT_DROPPED, MAINT_MIG_STAT_LOSTST]⟩,
  ⟨0x58, 1, 4, fun _ => [MAINT_MIG_TIME_COUNT, MAINT_MIG_TIME_T]⟩,
  ⟨0x60, 1, 4, fun _ => [MAINT_SCRUB_CFG_AUTO, MAINT_SCRUB_CFG_PASS_S]⟩,
  ⟨0x64, 1, 4, fun _ => [MAINT_SCRUB_STAT_PASSES, MAINT_SCRUB_STAT_CORR]⟩,
  ⟨0x68, 1, 4, fun _ => [MAINT_REP_SEL_QSEG, MAINT_REP_SEL_BANK]⟩,
  ⟨0x6c, 1, 4, fun _ => [MAINT_REP_INFO_ROW, MAINT_REP_INFO_EXHAUSTED, MAINT_REP_INFO_USED]⟩,
  ⟨0x70, 1, 4, fun _ => [MAINT_REP_CNT_EXH, MAINT_REP_CNT_ROWS]⟩,
  ⟨0x80, 7, 0x4, fun i => [MAINT_ACT_STAT_RESULT i, MAINT_ACT_STAT_TARGET i, MAINT_ACT_STAT_COUNT i]⟩,
  ⟨0xa0, 1, 4, fun _ => [MAINT_MUART_CFG_EN, MAINT_MUART_CFG_MIN_SEV, MAINT_MUART_CFG_BAUD]⟩,
  ⟨0xa4, 1, 4, fun _ => [MAINT_MUART_STAT_DROP, MAINT_MUART_STAT_RX_ERR, MAINT_MUART_STAT_LEVEL]⟩]

def ROUTER_SRC_SEEN_SEEN (i : Nat) : Field := ⟨0x6, (0x40 + 0x4 * i), 0, 32, .w1c, 0x0⟩
def ROUTER_SW_TRIG_SW : Field := ⟨0x6, 0x70, 0, 4, .wo, 0x0⟩
def ROUTER_MERGE_COUNT : Field := ⟨0x6, 0x74, 0, 16, .rc, 0x0⟩
def ROUTER_DST_LVL_LVL (i : Nat) : Field := ⟨0x6, (0x80 + 0x4 * i), 0, 32, .ro, 0x0⟩
def ROUTER_DST_CFG_EN (i : Nat) : Field := ⟨0x6, (0x100 + 0x4 * i), 31, 1, .rw, 0x0⟩
def ROUTER_DST_CFG_INV (i : Nat) : Field := ⟨0x6, (0x100 + 0x4 * i), 30, 1, .rw, 0x0⟩
def ROUTER_DST_CFG_MODE (i : Nat) : Field := ⟨0x6, (0x100 + 0x4 * i), 28, 2, .rw, 0x0⟩
def ROUTER_DST_CFG_DIV (i : Nat) : Field := ⟨0x6, (0x100 + 0x4 * i), 16, 8, .rw, 0x0⟩
def ROUTER_DST_CFG_SEL (i : Nat) : Field := ⟨0x6, (0x100 + 0x4 * i), 0, 8, .rw, 0x0⟩
def ROUTER_CHEV_SEL_EN (i : Nat) : Field := ⟨0x6, (0x200 + 0x4 * i), 31, 1, .rw, 0x0⟩
def ROUTER_CHEV_SEL_EVENT (i : Nat) : Field := ⟨0x6, (0x200 + 0x4 * i), 8, 4, .rw, 0x0⟩
def ROUTER_CHEV_SEL_CH (i : Nat) : Field := ⟨0x6, (0x200 + 0x4 * i), 0, 8, .rw, 0x0⟩
def ROUTER_DDONE_SEL_EN (i : Nat) : Field := ⟨0x6, (0x240 + 0x4 * i), 31, 1, .rw, 0x0⟩
def ROUTER_DDONE_SEL_CH (i : Nat) : Field := ⟨0x6, (0x240 + 0x4 * i), 0, 5, .rw, 0x0⟩

/-- The registers of a ROUTER page. -/
def routerRows : List RegRow := [
  ⟨0x40, 8, 0x4, fun i => [ROUTER_SRC_SEEN_SEEN i]⟩,
  ⟨0x70, 1, 4, fun _ => [ROUTER_SW_TRIG_SW]⟩,
  ⟨0x74, 1, 4, fun _ => [ROUTER_MERGE_COUNT]⟩,
  ⟨0x80, 2, 0x4, fun i => [ROUTER_DST_LVL_LVL i]⟩,
  ⟨0x100, 64, 0x4, fun i => [ROUTER_DST_CFG_EN i, ROUTER_DST_CFG_INV i, ROUTER_DST_CFG_MODE i, ROUTER_DST_CFG_DIV i, ROUTER_DST_CFG_SEL i]⟩,
  ⟨0x200, 16, 0x4, fun i => [ROUTER_CHEV_SEL_EN i, ROUTER_CHEV_SEL_EVENT i, ROUTER_CHEV_SEL_CH i]⟩,
  ⟨0x240, 16, 0x4, fun i => [ROUTER_DDONE_SEL_EN i, ROUTER_DDONE_SEL_CH i]⟩]

def HOST_PORT_CFG_HWD (p : Nat) : Field := ⟨(0x8 + p), 0x40, 16, 16, .rw, 0x0⟩
def HOST_PORT_CFG_ATTN_EN (p : Nat) : Field := ⟨(0x8 + p), 0x40, 15, 1, .rw, 0x1⟩
def HOST_PORT_CFG_ATTN_PERIOD (p : Nat) : Field := ⟨(0x8 + p), 0x40, 0, 9, .rw, 0x64⟩
def HOST_PORT_STAT_VER (p : Nat) : Field := ⟨(0x8 + p), 0x44, 8, 8, .ro, 0x10⟩
def HOST_PORT_STAT_QUAD (p : Nat) : Field := ⟨(0x8 + p), 0x44, 3, 1, .ro, 0x0⟩
def HOST_PORT_STAT_STATE (p : Nat) : Field := ⟨(0x8 + p), 0x44, 0, 3, .ro, 0x0⟩
def HOST_ERR_CNT_PROTO (p : Nat) : Field := ⟨(0x8 + p), 0x48, 24, 8, .rc, 0x0⟩
def HOST_ERR_CNT_LEN_ERR (p : Nat) : Field := ⟨(0x8 + p), 0x48, 16, 8, .rc, 0x0⟩
def HOST_ERR_CNT_PAY_CRC (p : Nat) : Field := ⟨(0x8 + p), 0x48, 8, 8, .rc, 0x0⟩
def HOST_ERR_CNT_HDR_CRC (p : Nat) : Field := ⟨(0x8 + p), 0x48, 0, 8, .rc, 0x0⟩
def HOST_RESP_CNT_SHORT (p : Nat) : Field := ⟨(0x8 + p), 0x4c, 16, 16, .rc, 0x0⟩
def HOST_RESP_CNT_BUSY_CNT (p : Nat) : Field := ⟨(0x8 + p), 0x4c, 0, 16, .rc, 0x0⟩
def HOST_VEC_VALID (p : Nat) : Field := ⟨(0x8 + p), 0x50, 31, 1, .ro, 0x0⟩
def HOST_VEC_SRC (p : Nat) : Field := ⟨(0x8 + p), 0x50, 0, 8, .ro, 0x0⟩
def HOST_BOOT_STAT_STATE (p : Nat) : Field := ⟨(0x8 + p), 0x54, 0, 8, .ro, 0x0⟩
def HOST_IMASK_MASK (p i : Nat) : Field := ⟨(0x8 + p), (0x60 + 0x4 * i), 0, 32, .rw, 0x0⟩
def HOST_IPEND_PEND (p i : Nat) : Field := ⟨(0x8 + p), (0x80 + 0x4 * i), 0, 32, .w1c, 0x0⟩
def HOST_MBQ_CFG_EN (p i : Nat) : Field := ⟨(0x8 + p), (0x100 + 0x10 * i), 31, 1, .rwl, 0x0⟩
def HOST_MBQ_CFG_LOG2 (p i : Nat) : Field := ⟨(0x8 + p), (0x100 + 0x10 * i), 18, 4, .rwl, 0x0⟩
def HOST_MBQ_CFG_BASE (p i : Nat) : Field := ⟨(0x8 + p), (0x100 + 0x10 * i), 0, 18, .rwl, 0x0⟩
def HOST_MBQ_PTR_TAIL (p i : Nat) : Field := ⟨(0x8 + p), (0x104 + 0x10 * i), 16, 16, .ro, 0x0⟩
def HOST_MBQ_PTR_HEAD (p i : Nat) : Field := ⟨(0x8 + p), (0x104 + 0x10 * i), 0, 16, .ro, 0x0⟩
def HOST_MBQ_STAT_DROP (p i : Nat) : Field := ⟨(0x8 + p), (0x108 + 0x10 * i), 16, 16, .rc, 0x0⟩
def HOST_MBQ_STAT_RSVD_W (p i : Nat) : Field := ⟨(0x8 + p), (0x108 + 0x10 * i), 0, 16, .ro, 0x0⟩
def HOST_MBQ_CTRL_RELEASE (p i : Nat) : Field := ⟨(0x8 + p), (0x10c + 0x10 * i), 0, 1, .wo, 0x0⟩

/-- The registers of a HOST page. -/
def hostRows (p : Nat) : List RegRow := [
  ⟨0x40, 1, 4, fun _ => [HOST_PORT_CFG_HWD p, HOST_PORT_CFG_ATTN_EN p, HOST_PORT_CFG_ATTN_PERIOD p]⟩,
  ⟨0x44, 1, 4, fun _ => [HOST_PORT_STAT_VER p, HOST_PORT_STAT_QUAD p, HOST_PORT_STAT_STATE p]⟩,
  ⟨0x48, 1, 4, fun _ => [HOST_ERR_CNT_PROTO p, HOST_ERR_CNT_LEN_ERR p, HOST_ERR_CNT_PAY_CRC p, HOST_ERR_CNT_HDR_CRC p]⟩,
  ⟨0x4c, 1, 4, fun _ => [HOST_RESP_CNT_SHORT p, HOST_RESP_CNT_BUSY_CNT p]⟩,
  ⟨0x50, 1, 4, fun _ => [HOST_VEC_VALID p, HOST_VEC_SRC p]⟩,
  ⟨0x54, 1, 4, fun _ => [HOST_BOOT_STAT_STATE p]⟩,
  ⟨0x60, 8, 0x4, fun i => [HOST_IMASK_MASK p i]⟩,
  ⟨0x80, 8, 0x4, fun i => [HOST_IPEND_PEND p i]⟩,
  ⟨0x100, 8, 0x10, fun i => [HOST_MBQ_CFG_EN p i, HOST_MBQ_CFG_LOG2 p i, HOST_MBQ_CFG_BASE p i]⟩,
  ⟨0x104, 8, 0x10, fun i => [HOST_MBQ_PTR_TAIL p i, HOST_MBQ_PTR_HEAD p i]⟩,
  ⟨0x108, 8, 0x10, fun i => [HOST_MBQ_STAT_DROP p i, HOST_MBQ_STAT_RSVD_W p i]⟩,
  ⟨0x10c, 8, 0x10, fun i => [HOST_MBQ_CTRL_RELEASE p i]⟩]

def POS_CFG_FILT (p : Nat) : Field := ⟨(0x10 + p), 0x40, 24, 8, .rws, 0x0⟩
def POS_CFG_Z_INV (p : Nat) : Field := ⟨(0x10 + p), 0x40, 18, 1, .rws, 0x0⟩
def POS_CFG_B_INV (p : Nat) : Field := ⟨(0x10 + p), 0x40, 17, 1, .rws, 0x0⟩
def POS_CFG_A_INV (p : Nat) : Field := ⟨(0x10 + p), 0x40, 16, 1, .rws, 0x0⟩
def POS_CFG_WAKE_EN (p : Nat) : Field := ⟨(0x10 + p), 0x40, 15, 1, .rws, 0x0⟩
def POS_CFG_PT_SEL (p : Nat) : Field := ⟨(0x10 + p), 0x40, 14, 1, .rws, 0x0⟩
def POS_CFG_PT_EN (p : Nat) : Field := ⟨(0x10 + p), 0x40, 13, 1, .rws, 0x0⟩
def POS_CFG_TRK (p : Nat) : Field := ⟨(0x10 + p), 0x40, 12, 1, .rws, 0x0⟩
def POS_CFG_IDX_ZERO (p : Nat) : Field := ⟨(0x10 + p), 0x40, 11, 1, .rws, 0x0⟩
def POS_CFG_Z_EN (p : Nat) : Field := ⟨(0x10 + p), 0x40, 10, 1, .rws, 0x0⟩
def POS_CFG_B_DIR (p : Nat) : Field := ⟨(0x10 + p), 0x40, 9, 1, .rws, 0x0⟩
def POS_CFG_DIR_INV (p : Nat) : Field := ⟨(0x10 + p), 0x40, 8, 1, .rws, 0x0⟩
def POS_CFG_QX (p : Nat) : Field := ⟨(0x10 + p), 0x40, 6, 2, .rws, 0x0⟩
def POS_CFG_ACT_EDGE (p : Nat) : Field := ⟨(0x10 + p), 0x40, 4, 2, .rws, 0x0⟩
def POS_CFG_MODE (p : Nat) : Field := ⟨(0x10 + p), 0x40, 0, 4, .rws, 0x0⟩
def POS_MIN_EDGE_MIN (p : Nat) : Field := ⟨(0x10 + p), 0x44, 0, 20, .rws, 0xc8⟩
def POS_CTRL_SSI_TRIG (p : Nat) : Field := ⟨(0x10 + p), 0x48, 1, 1, .wo, 0x0⟩
def POS_CTRL_LOAD (p : Nat) : Field := ⟨(0x10 + p), 0x48, 0, 1, .wo, 0x0⟩
def POS_PRESET_VALUE (p : Nat) : Field := ⟨(0x10 + p), 0x4c, 0, 32, .rw, 0x0⟩
def POS_COUNT_VALUE (p : Nat) : Field := ⟨(0x10 + p), 0x50, 0, 32, .ro, 0x0⟩
def POS_SOFT_MIN_VALUE (p : Nat) : Field := ⟨(0x10 + p), 0x54, 0, 32, .rws, 0x80000000⟩
def POS_SOFT_MAX_VALUE (p : Nat) : Field := ⟨(0x10 + p), 0x58, 0, 32, .rws, 0x7fffffff⟩
def POS_STAT_T_NEWER (p : Nat) : Field := ⟨(0x10 + p), 0x5c, 31, 1, .ro, 0x0⟩
def POS_STAT_WAKE (p : Nat) : Field := ⟨(0x10 + p), 0x5c, 10, 1, .w1c, 0x0⟩
def POS_STAT_SSI_BUSY (p : Nat) : Field := ⟨(0x10 + p), 0x5c, 8, 1, .ro, 0x0⟩
def POS_STAT_STUCK (p : Nat) : Field := ⟨(0x10 + p), 0x5c, 7, 1, .ro, 0x0⟩
def POS_STAT_LIMIT_LO (p : Nat) : Field := ⟨(0x10 + p), 0x5c, 6, 1, .ro, 0x0⟩
def POS_STAT_LIMIT_HI (p : Nat) : Field := ⟨(0x10 + p), 0x5c, 5, 1, .ro, 0x0⟩
def POS_STAT_DIR (p : Nat) : Field := ⟨(0x10 + p), 0x5c, 4, 1, .ro, 0x0⟩
def POS_STAT_LVL (p : Nat) : Field := ⟨(0x10 + p), 0x5c, 0, 3, .ro, 0x0⟩
def POS_LAST_T_LO_T (p : Nat) : Field := ⟨(0x10 + p), 0x60, 0, 32, .ro, 0x0⟩
def POS_LAST_T_HI_T (p : Nat) : Field := ⟨(0x10 + p), 0x64, 0, 32, .ro, 0x0⟩
def POS_EDGE_ERR_PHASE (p : Nat) : Field := ⟨(0x10 + p), 0x68, 16, 16, .rc, 0x0⟩
def POS_EDGE_ERR_FAST (p : Nat) : Field := ⟨(0x10 + p), 0x68, 0, 16, .rc, 0x0⟩
def POS_LIM_LOST_STEPS (p : Nat) : Field := ⟨(0x10 + p), 0x6c, 0, 16, .rc, 0x0⟩
def POS_IDX_CFG_TOL (p : Nat) : Field := ⟨(0x10 + p), 0x70, 24, 8, .rws, 0x0⟩
def POS_IDX_CFG_NOMINAL (p : Nat) : Field := ⟨(0x10 + p), 0x70, 0, 24, .rws, 0x0⟩
def POS_IDX_STAT_ERR (p : Nat) : Field := ⟨(0x10 + p), 0x74, 24, 8, .rc, 0x0⟩
def POS_IDX_STAT_LAST (p : Nat) : Field := ⟨(0x10 + p), 0x74, 0, 24, .ro, 0x0⟩
def POS_SPD_CFG_XOVER (p : Nat) : Field := ⟨(0x10 + p), 0x78, 16, 16, .rws, 0x3e8⟩
def POS_SPD_CFG_PER_N (p : Nat) : Field := ⟨(0x10 + p), 0x78, 12, 4, .rws, 0x0⟩
def POS_SPD_CFG_HYST (p : Nat) : Field := ⟨(0x10 + p), 0x78, 10, 2, .rws, 0x2⟩
def POS_SPD_WIN_FB_WIN (p : Nat) : Field := ⟨(0x10 + p), 0x7c, 16, 16, .rws, 0x2710⟩
def POS_SPD_WIN_MT_WIN (p : Nat) : Field := ⟨(0x10 + p), 0x7c, 0, 16, .rws, 0x3e8⟩
def POS_STUCK_CFG_STUCK_T (p : Nat) : Field := ⟨(0x10 + p), 0x80, 0, 16, .rws, 0x3e8⟩
def POS_SPEED_VALUE (p : Nat) : Field := ⟨(0x10 + p), 0x84, 0, 32, .ro, 0x0⟩
def POS_SPD_STAT_AGE (p : Nat) : Field := ⟨(0x10 + p), 0x88, 16, 16, .ro, 0x0⟩
def POS_SPD_STAT_VALID (p : Nat) : Field := ⟨(0x10 + p), 0x88, 2, 1, .ro, 0x0⟩
def POS_SPD_STAT_PATH (p : Nat) : Field := ⟨(0x10 + p), 0x88, 0, 2, .ro, 0x0⟩
def POS_VR_CFG_ARM_MIN (p : Nat) : Field := ⟨(0x10 + p), 0x8c, 8, 8, .rws, 0x19⟩
def POS_VR_CFG_ADAPT (p : Nat) : Field := ⟨(0x10 + p), 0x8c, 4, 1, .rws, 0x1⟩
def POS_VR_CFG_ZC_HYST (p : Nat) : Field := ⟨(0x10 + p), 0x8c, 2, 2, .rws, 0x1⟩
def POS_VR_CFG_ARM_FRAC (p : Nat) : Field := ⟨(0x10 + p), 0x8c, 0, 2, .rws, 0x1⟩
def POS_VR_STAT_ARM (p : Nat) : Field := ⟨(0x10 + p), 0x90, 16, 12, .ro, 0x0⟩
def POS_VR_STAT_PEAK (p : Nat) : Field := ⟨(0x10 + p), 0x90, 0, 12, .ro, 0x0⟩
def POS_SSI_CFG_DIV (p : Nat) : Field := ⟨(0x10 + p), 0x94, 16, 16, .rws, 0xc7⟩
def POS_SSI_CFG_CRC_SEL (p : Nat) : Field := ⟨(0x10 + p), 0x94, 10, 2, .rws, 0x0⟩
def POS_SSI_CFG_GRAY (p : Nat) : Field := ⟨(0x10 + p), 0x94, 9, 1, .rws, 0x0⟩
def POS_SSI_CFG_ERR_LVL (p : Nat) : Field := ⟨(0x10 + p), 0x94, 8, 1, .rws, 0x0⟩
def POS_SSI_CFG_ERR_BITS (p : Nat) : Field := ⟨(0x10 + p), 0x94, 6, 2, .rws, 0x0⟩
def POS_SSI_CFG_DATA_LEN (p : Nat) : Field := ⟨(0x10 + p), 0x94, 0, 6, .rws, 0x20⟩
def POS_SSI_TIM_TIMEOUT (p : Nat) : Field := ⟨(0x10 + p), 0x98, 16, 8, .rws, 0x14⟩
def POS_SSI_TIM_PERIOD (p : Nat) : Field := ⟨(0x10 + p), 0x98, 0, 16, .rws, 0x0⟩
def POS_SSI_CRC_INV (p : Nat) : Field := ⟨(0x10 + p), 0x9c, 16, 1, .rws, 0x0⟩
def POS_SSI_CRC_INIT (p : Nat) : Field := ⟨(0x10 + p), 0x9c, 8, 8, .rws, 0x0⟩
def POS_SSI_CRC_POLY (p : Nat) : Field := ⟨(0x10 + p), 0x9c, 0, 8, .rws, 0x0⟩
def POS_SSI_DATA_WORD (p : Nat) : Field := ⟨(0x10 + p), 0xa0, 0, 32, .ro, 0x0⟩
def POS_SSI_ERR_TIMEOUT (p : Nat) : Field := ⟨(0x10 + p), 0xa4, 16, 8, .rc, 0x0⟩
def POS_SSI_ERR_ERR_BIT (p : Nat) : Field := ⟨(0x10 + p), 0xa4, 8, 8, .rc, 0x0⟩
def POS_SSI_ERR_CRC (p : Nat) : Field := ⟨(0x10 + p), 0xa4, 0, 8, .rc, 0x0⟩
def POS_SENT_CFG_TICK (p : Nat) : Field := ⟨(0x10 + p), 0xa8, 8, 10, .rws, 0x1e⟩
def POS_SENT_CFG_TICK_TOL (p : Nat) : Field := ⟨(0x10 + p), 0xa8, 6, 2, .rws, 0x2⟩
def POS_SENT_CFG_SER_EN (p : Nat) : Field := ⟨(0x10 + p), 0xa8, 5, 1, .rws, 0x0⟩
def POS_SENT_CFG_CRC_LEGACY (p : Nat) : Field := ⟨(0x10 + p), 0xa8, 4, 1, .rws, 0x0⟩
def POS_SENT_CFG_PAUSE (p : Nat) : Field := ⟨(0x10 + p), 0xa8, 3, 1, .rws, 0x0⟩
def POS_SENT_CFG_NIBBLES (p : Nat) : Field := ⟨(0x10 + p), 0xa8, 0, 3, .rws, 0x6⟩
def POS_SENT_FAST_NEW (p : Nat) : Field := ⟨(0x10 + p), 0xac, 31, 1, .rc, 0x0⟩
def POS_SENT_FAST_STATUS (p : Nat) : Field := ⟨(0x10 + p), 0xac, 24, 4, .ro, 0x0⟩
def POS_SENT_FAST_DATA (p : Nat) : Field := ⟨(0x10 + p), 0xac, 0, 24, .ro, 0x0⟩
def POS_SENT_SER_NEW (p : Nat) : Field := ⟨(0x10 + p), 0xb0, 31, 1, .rc, 0x0⟩
def POS_SENT_SER_CFG16 (p : Nat) : Field := ⟨(0x10 + p), 0xb0, 28, 1, .ro, 0x0⟩
def POS_SENT_SER_ID (p : Nat) : Field := ⟨(0x10 + p), 0xb0, 20, 8, .ro, 0x0⟩
def POS_SENT_SER_DATA (p : Nat) : Field := ⟨(0x10 + p), 0xb0, 0, 16, .ro, 0x0⟩
def POS_SENT_ERR_SER_CRC (p : Nat) : Field := ⟨(0x10 + p), 0xb4, 24, 8, .rc, 0x0⟩
def POS_SENT_ERR_CRC (p : Nat) : Field := ⟨(0x10 + p), 0xb4, 16, 8, .rc, 0x0⟩
def POS_SENT_ERR_NIBBLE (p : Nat) : Field := ⟨(0x10 + p), 0xb4, 8, 8, .rc, 0x0⟩
def POS_SENT_ERR_SYNC (p : Nat) : Field := ⟨(0x10 + p), 0xb4, 0, 8, .rc, 0x0⟩

/-- The registers of a POS page. -/
def posRows (p : Nat) : List RegRow := [
  ⟨0x40, 1, 4, fun _ => [POS_CFG_FILT p, POS_CFG_Z_INV p, POS_CFG_B_INV p, POS_CFG_A_INV p, POS_CFG_WAKE_EN p, POS_CFG_PT_SEL p, POS_CFG_PT_EN p, POS_CFG_TRK p, POS_CFG_IDX_ZERO p, POS_CFG_Z_EN p, POS_CFG_B_DIR p, POS_CFG_DIR_INV p, POS_CFG_QX p, POS_CFG_ACT_EDGE p, POS_CFG_MODE p]⟩,
  ⟨0x44, 1, 4, fun _ => [POS_MIN_EDGE_MIN p]⟩,
  ⟨0x48, 1, 4, fun _ => [POS_CTRL_SSI_TRIG p, POS_CTRL_LOAD p]⟩,
  ⟨0x4c, 1, 4, fun _ => [POS_PRESET_VALUE p]⟩,
  ⟨0x50, 1, 4, fun _ => [POS_COUNT_VALUE p]⟩,
  ⟨0x54, 1, 4, fun _ => [POS_SOFT_MIN_VALUE p]⟩,
  ⟨0x58, 1, 4, fun _ => [POS_SOFT_MAX_VALUE p]⟩,
  ⟨0x5c, 1, 4, fun _ => [POS_STAT_T_NEWER p, POS_STAT_WAKE p, POS_STAT_SSI_BUSY p, POS_STAT_STUCK p, POS_STAT_LIMIT_LO p, POS_STAT_LIMIT_HI p, POS_STAT_DIR p, POS_STAT_LVL p]⟩,
  ⟨0x60, 1, 4, fun _ => [POS_LAST_T_LO_T p]⟩,
  ⟨0x64, 1, 4, fun _ => [POS_LAST_T_HI_T p]⟩,
  ⟨0x68, 1, 4, fun _ => [POS_EDGE_ERR_PHASE p, POS_EDGE_ERR_FAST p]⟩,
  ⟨0x6c, 1, 4, fun _ => [POS_LIM_LOST_STEPS p]⟩,
  ⟨0x70, 1, 4, fun _ => [POS_IDX_CFG_TOL p, POS_IDX_CFG_NOMINAL p]⟩,
  ⟨0x74, 1, 4, fun _ => [POS_IDX_STAT_ERR p, POS_IDX_STAT_LAST p]⟩,
  ⟨0x78, 1, 4, fun _ => [POS_SPD_CFG_XOVER p, POS_SPD_CFG_PER_N p, POS_SPD_CFG_HYST p]⟩,
  ⟨0x7c, 1, 4, fun _ => [POS_SPD_WIN_FB_WIN p, POS_SPD_WIN_MT_WIN p]⟩,
  ⟨0x80, 1, 4, fun _ => [POS_STUCK_CFG_STUCK_T p]⟩,
  ⟨0x84, 1, 4, fun _ => [POS_SPEED_VALUE p]⟩,
  ⟨0x88, 1, 4, fun _ => [POS_SPD_STAT_AGE p, POS_SPD_STAT_VALID p, POS_SPD_STAT_PATH p]⟩,
  ⟨0x8c, 1, 4, fun _ => [POS_VR_CFG_ARM_MIN p, POS_VR_CFG_ADAPT p, POS_VR_CFG_ZC_HYST p, POS_VR_CFG_ARM_FRAC p]⟩,
  ⟨0x90, 1, 4, fun _ => [POS_VR_STAT_ARM p, POS_VR_STAT_PEAK p]⟩,
  ⟨0x94, 1, 4, fun _ => [POS_SSI_CFG_DIV p, POS_SSI_CFG_CRC_SEL p, POS_SSI_CFG_GRAY p, POS_SSI_CFG_ERR_LVL p, POS_SSI_CFG_ERR_BITS p, POS_SSI_CFG_DATA_LEN p]⟩,
  ⟨0x98, 1, 4, fun _ => [POS_SSI_TIM_TIMEOUT p, POS_SSI_TIM_PERIOD p]⟩,
  ⟨0x9c, 1, 4, fun _ => [POS_SSI_CRC_INV p, POS_SSI_CRC_INIT p, POS_SSI_CRC_POLY p]⟩,
  ⟨0xa0, 1, 4, fun _ => [POS_SSI_DATA_WORD p]⟩,
  ⟨0xa4, 1, 4, fun _ => [POS_SSI_ERR_TIMEOUT p, POS_SSI_ERR_ERR_BIT p, POS_SSI_ERR_CRC p]⟩,
  ⟨0xa8, 1, 4, fun _ => [POS_SENT_CFG_TICK p, POS_SENT_CFG_TICK_TOL p, POS_SENT_CFG_SER_EN p, POS_SENT_CFG_CRC_LEGACY p, POS_SENT_CFG_PAUSE p, POS_SENT_CFG_NIBBLES p]⟩,
  ⟨0xac, 1, 4, fun _ => [POS_SENT_FAST_NEW p, POS_SENT_FAST_STATUS p, POS_SENT_FAST_DATA p]⟩,
  ⟨0xb0, 1, 4, fun _ => [POS_SENT_SER_NEW p, POS_SENT_SER_CFG16 p, POS_SENT_SER_ID p, POS_SENT_SER_DATA p]⟩,
  ⟨0xb4, 1, 4, fun _ => [POS_SENT_ERR_SER_CRC p, POS_SENT_ERR_CRC p, POS_SENT_ERR_NIBBLE p, POS_SENT_ERR_SYNC p]⟩]

def TRK_SYNC_STAT_B23_UNDET : Field := ⟨0x18, 0x40, 31, 1, .ro, 0x1⟩
def TRK_SYNC_STAT_TT_NEWER : Field := ⟨0x18, 0x40, 30, 1, .ro, 0x0⟩
def TRK_SYNC_STAT_LOST_CAUSE : Field := ⟨0x18, 0x40, 24, 3, .ro, 0x0⟩
def TRK_SYNC_STAT_CAM_FAIL : Field := ⟨0x18, 0x40, 11, 1, .ro, 0x0⟩
def TRK_SYNC_STAT_CAM_ALT : Field := ⟨0x18, 0x40, 10, 1, .ro, 0x0⟩
def TRK_SYNC_STAT_ACT_LANE : Field := ⟨0x18, 0x40, 8, 2, .ro, 0x0⟩
def TRK_SYNC_STAT_LEVEL : Field := ⟨0x18, 0x40, 4, 3, .ro, 0x0⟩
def TRK_SYNC_STAT_STATE : Field := ⟨0x18, 0x40, 0, 3, .ro, 0x0⟩
def TRK_ANGLE_VALID : Field := ⟨0x18, 0x44, 24, 1, .ro, 0x0⟩
def TRK_ANGLE_ANGLE : Field := ⟨0x18, 0x44, 0, 24, .ro, 0x0⟩
def TRK_TOOTH_REV_CNT : Field := ⟨0x18, 0x48, 16, 16, .ro, 0x0⟩
def TRK_TOOTH_POS : Field := ⟨0x18, 0x48, 0, 10, .ro, 0x0⟩
def TRK_TT_LO_T : Field := ⟨0x18, 0x4c, 0, 32, .ro, 0x0⟩
def TRK_TT_HI_T : Field := ⟨0x18, 0x50, 0, 32, .ro, 0x0⟩
def TRK_PRED_T_PRED : Field := ⟨0x18, 0x54, 0, 32, .ro, 0x0⟩
def TRK_SPEED_T_RPM : Field := ⟨0x18, 0x58, 0, 20, .ro, 0x0⟩
def TRK_SPEED_R_RPM : Field := ⟨0x18, 0x5c, 0, 20, .ro, 0x0⟩
def TRK_DIVERGE_D : Field := ⟨0x18, 0x60, 0, 32, .ro, 0x0⟩
def TRK_LANE_STAT_S_SRC : Field := ⟨0x18, 0x64, 7, 1, .ro, 0x0⟩
def TRK_LANE_STAT_S_STATE : Field := ⟨0x18, 0x64, 4, 3, .ro, 0x0⟩
def TRK_LANE_STAT_P_STATE : Field := ⟨0x18, 0x64, 0, 3, .ro, 0x0⟩
def TRK_ERR_CNT0_NOISE : Field := ⟨0x18, 0x68, 16, 16, .rc, 0x0⟩
def TRK_ERR_CNT0_HALT : Field := ⟨0x18, 0x68, 0, 16, .rc, 0x0⟩
def TRK_ERR_CNT1_MISS : Field := ⟨0x18, 0x6c, 24, 8, .rc, 0x0⟩
def TRK_ERR_CNT1_LOST : Field := ⟨0x18, 0x6c, 16, 8, .rc, 0x0⟩
def TRK_ERR_CNT1_CAM_ERR : Field := ⟨0x18, 0x6c, 8, 8, .rc, 0x0⟩
def TRK_ERR_CNT1_LANE_SW : Field := ⟨0x18, 0x6c, 0, 8, .rc, 0x0⟩
def TRK_JUMP_CATCHUP : Field := ⟨0x18, 0x70, 31, 1, .ro, 0x0⟩
def TRK_JUMP_SIZE : Field := ⟨0x18, 0x70, 0, 24, .ro, 0x0⟩
def TRK_CRANK_CFG_B_EN : Field := ⟨0x18, 0x80, 31, 1, .rws, 0x0⟩
def TRK_CRANK_CFG_CYC360 : Field := ⟨0x18, 0x80, 30, 1, .rws, 0x0⟩
def TRK_CRANK_CFG_GAP_TYPE : Field := ⟨0x18, 0x80, 29, 1, .rws, 0x0⟩
def TRK_CRANK_CFG_GAP_N : Field := ⟨0x18, 0x80, 27, 2, .rws, 0x0⟩
def TRK_CRANK_CFG_EXTRA_FRAC : Field := ⟨0x18, 0x80, 15, 6, .rws, 0x0⟩
def TRK_CRANK_CFG_N_POS : Field := ⟨0x18, 0x80, 0, 9, .rws, 0x0⟩
def TRK_CRANK_OFS_OFFSET : Field := ⟨0x18, 0x84, 0, 24, .rws, 0x0⟩
def TRK_CRANK_B_OFS_B_OFS : Field := ⟨0x18, 0x88, 0, 24, .rws, 0x0⟩
def TRK_CAM_CFG_CAM_EN : Field := ⟨0x18, 0x8c, 31, 1, .rws, 0x0⟩
def TRK_CAM_CFG_CAM_SRC : Field := ⟨0x18, 0x8c, 29, 2, .rws, 0x0⟩
def TRK_CAM_CFG_CAM_LEARN : Field := ⟨0x18, 0x8c, 28, 1, .rws, 0x0⟩
def TRK_CAM_CFG_CAM_BAND : Field := ⟨0x18, 0x8c, 24, 4, .rws, 0x0⟩
def TRK_CAM_CFG_CAM_WIN : Field := ⟨0x18, 0x8c, 16, 8, .rws, 0x64⟩
def TRK_CAM_CFG_CAM_ERR_LIM : Field := ⟨0x18, 0x8c, 12, 4, .rws, 0x3⟩
def TRK_CAM_CFG_PHASE_LIM : Field := ⟨0x18, 0x8c, 8, 4, .rws, 0x2⟩
def TRK_CAM_CFG_N_TEETH : Field := ⟨0x18, 0x8c, 0, 5, .rws, 0x0⟩
def TRK_WIN_WIN_HI : Field := ⟨0x18, 0x90, 24, 8, .rws, 0x60⟩
def TRK_WIN_WIN_LO : Field := ⟨0x18, 0x90, 16, 8, .rws, 0x20⟩
def TRK_WIN_GAP_HI : Field := ⟨0x18, 0x90, 8, 8, .rws, 0x50⟩
def TRK_WIN_GAP_LO : Field := ⟨0x18, 0x90, 0, 8, .rws, 0x30⟩
def TRK_CWIN_CWIN_HI : Field := ⟨0x18, 0x94, 24, 8, .rws, 0x7a⟩
def TRK_CWIN_CWIN_LO : Field := ⟨0x18, 0x94, 16, 8, .rws, 0x16⟩
def TRK_CWIN_CRANK_RPM : Field := ⟨0x18, 0x94, 0, 16, .rws, 0x12c0⟩
def TRK_CONF_CONF_LO : Field := ⟨0x18, 0x98, 24, 8, .rws, 0x30⟩
def TRK_CONF_MERGE_LO : Field := ⟨0x18, 0x98, 16, 8, .rws, 0x38⟩
def TRK_CONF_MERGE_HI : Field := ⟨0x18, 0x98, 8, 8, .rws, 0x48⟩
def TRK_SEEK_CFG_GR_HI : Field := ⟨0x18, 0x9c, 24, 8, .rws, 0x70⟩
def TRK_SEEK_CFG_GR_LO : Field := ⟨0x18, 0x9c, 16, 8, .rws, 0x28⟩
def TRK_SEEK_CFG_SEEK_TEETH : Field := ⟨0x18, 0x9c, 0, 4, .rws, 0x4⟩
def TRK_PRED_CFG_CATCHUP : Field := ⟨0x18, 0xa0, 28, 2, .rws, 0x0⟩
def TRK_PRED_CFG_MODE : Field := ⟨0x18, 0xa0, 27, 1, .rws, 0x0⟩
def TRK_PRED_CFG_ACC_GAIN : Field := ⟨0x18, 0xa0, 22, 2, .rws, 0x0⟩
def TRK_PRED_CFG_MISS_TOL : Field := ⟨0x18, 0xa0, 20, 2, .rws, 0x0⟩
def TRK_PRED_CFG_STALL_RPM : Field := ⟨0x18, 0xa0, 0, 16, .rws, 0x80⟩
def TRK_LANE_CFG_S_EN : Field := ⟨0x18, 0xa4, 31, 1, .rws, 0x1⟩
def TRK_LANE_CFG_DIV_TEETH : Field := ⟨0x18, 0xa4, 24, 4, .rws, 0x4⟩
def TRK_LANE_CFG_ANG_DIV_LIM : Field := ⟨0x18, 0xa4, 0, 24, .rws, 0x91a⟩
def TRK_LANE_CTRL_SEL_REQ : Field := ⟨0x18, 0xa8, 1, 1, .wo, 0x0⟩
def TRK_LANE_CTRL_SEL_LANE : Field := ⟨0x18, 0xa8, 0, 1, .rw, 0x0⟩
def TRK_LEARN_CTRL_REQ : Field := ⟨0x18, 0xb0, 31, 1, .wo, 0x0⟩
def TRK_LEARN_CTRL_ABORT : Field := ⟨0x18, 0xb0, 30, 1, .wo, 0x0⟩
def TRK_LEARN_CTRL_FUELCUT : Field := ⟨0x18, 0xb0, 29, 1, .rw, 0x0⟩
def TRK_LEARN_CTRL_LEARN_CYC : Field := ⟨0x18, 0xb0, 16, 7, .rw, 0x10⟩
def TRK_LEARN_CTRL_LEARN_TOL : Field := ⟨0x18, 0xb0, 0, 16, .rw, 0x1d2⟩
def TRK_LEARN_SPD_LRN_MAX : Field := ⟨0x18, 0xb4, 16, 16, .rw, 0x7080⟩
def TRK_LEARN_SPD_LRN_MIN : Field := ⟨0x18, 0xb4, 0, 16, .rw, 0x12c0⟩
def TRK_LEARN_STAT_RESULT : Field := ⟨0x18, 0xb8, 28, 4, .ro, 0x0⟩
def TRK_LEARN_STAT_CYC_DONE : Field := ⟨0x18, 0xb8, 16, 7, .ro, 0x0⟩
def TRK_LEARN_STAT_WORST_POS : Field := ⟨0x18, 0xb8, 0, 10, .ro, 0x0⟩
def TRK_TBL_CTRL_COMMIT : Field := ⟨0x18, 0xc0, 31, 1, .wo, 0x0⟩
def TRK_TBL_CTRL_SEL : Field := ⟨0x18, 0xc0, 30, 1, .rw, 0x0⟩
def TRK_TBL_CTRL_IDX : Field := ⟨0x18, 0xc0, 0, 10, .rw, 0x0⟩
def TRK_TBL_DATA_VALUE : Field := ⟨0x18, 0xc4, 0, 16, .rw, 0x0⟩
def TRK_TBL_STAT_PENDING : Field := ⟨0x18, 0xc8, 31, 1, .ro, 0x0⟩
def TRK_TBL_STAT_REFUSED : Field := ⟨0x18, 0xc8, 30, 1, .w1c, 0x0⟩
def TRK_TBL_STAT_REF_IDX : Field := ⟨0x18, 0xc8, 0, 10, .ro, 0x0⟩
def TRK_CAM_TOOTH_ANGLE (i : Nat) : Field := ⟨0x18, (0x100 + 0x4 * i), 0, 24, .rws, 0x0⟩

/-- The registers of a TRK page. -/
def trkRows : List RegRow := [
  ⟨0x40, 1, 4, fun _ => [TRK_SYNC_STAT_B23_UNDET, TRK_SYNC_STAT_TT_NEWER, TRK_SYNC_STAT_LOST_CAUSE, TRK_SYNC_STAT_CAM_FAIL, TRK_SYNC_STAT_CAM_ALT, TRK_SYNC_STAT_ACT_LANE, TRK_SYNC_STAT_LEVEL, TRK_SYNC_STAT_STATE]⟩,
  ⟨0x44, 1, 4, fun _ => [TRK_ANGLE_VALID, TRK_ANGLE_ANGLE]⟩,
  ⟨0x48, 1, 4, fun _ => [TRK_TOOTH_REV_CNT, TRK_TOOTH_POS]⟩,
  ⟨0x4c, 1, 4, fun _ => [TRK_TT_LO_T]⟩,
  ⟨0x50, 1, 4, fun _ => [TRK_TT_HI_T]⟩,
  ⟨0x54, 1, 4, fun _ => [TRK_PRED_T_PRED]⟩,
  ⟨0x58, 1, 4, fun _ => [TRK_SPEED_T_RPM]⟩,
  ⟨0x5c, 1, 4, fun _ => [TRK_SPEED_R_RPM]⟩,
  ⟨0x60, 1, 4, fun _ => [TRK_DIVERGE_D]⟩,
  ⟨0x64, 1, 4, fun _ => [TRK_LANE_STAT_S_SRC, TRK_LANE_STAT_S_STATE, TRK_LANE_STAT_P_STATE]⟩,
  ⟨0x68, 1, 4, fun _ => [TRK_ERR_CNT0_NOISE, TRK_ERR_CNT0_HALT]⟩,
  ⟨0x6c, 1, 4, fun _ => [TRK_ERR_CNT1_MISS, TRK_ERR_CNT1_LOST, TRK_ERR_CNT1_CAM_ERR, TRK_ERR_CNT1_LANE_SW]⟩,
  ⟨0x70, 1, 4, fun _ => [TRK_JUMP_CATCHUP, TRK_JUMP_SIZE]⟩,
  ⟨0x80, 1, 4, fun _ => [TRK_CRANK_CFG_B_EN, TRK_CRANK_CFG_CYC360, TRK_CRANK_CFG_GAP_TYPE, TRK_CRANK_CFG_GAP_N, TRK_CRANK_CFG_EXTRA_FRAC, TRK_CRANK_CFG_N_POS]⟩,
  ⟨0x84, 1, 4, fun _ => [TRK_CRANK_OFS_OFFSET]⟩,
  ⟨0x88, 1, 4, fun _ => [TRK_CRANK_B_OFS_B_OFS]⟩,
  ⟨0x8c, 1, 4, fun _ => [TRK_CAM_CFG_CAM_EN, TRK_CAM_CFG_CAM_SRC, TRK_CAM_CFG_CAM_LEARN, TRK_CAM_CFG_CAM_BAND, TRK_CAM_CFG_CAM_WIN, TRK_CAM_CFG_CAM_ERR_LIM, TRK_CAM_CFG_PHASE_LIM, TRK_CAM_CFG_N_TEETH]⟩,
  ⟨0x90, 1, 4, fun _ => [TRK_WIN_WIN_HI, TRK_WIN_WIN_LO, TRK_WIN_GAP_HI, TRK_WIN_GAP_LO]⟩,
  ⟨0x94, 1, 4, fun _ => [TRK_CWIN_CWIN_HI, TRK_CWIN_CWIN_LO, TRK_CWIN_CRANK_RPM]⟩,
  ⟨0x98, 1, 4, fun _ => [TRK_CONF_CONF_LO, TRK_CONF_MERGE_LO, TRK_CONF_MERGE_HI]⟩,
  ⟨0x9c, 1, 4, fun _ => [TRK_SEEK_CFG_GR_HI, TRK_SEEK_CFG_GR_LO, TRK_SEEK_CFG_SEEK_TEETH]⟩,
  ⟨0xa0, 1, 4, fun _ => [TRK_PRED_CFG_CATCHUP, TRK_PRED_CFG_MODE, TRK_PRED_CFG_ACC_GAIN, TRK_PRED_CFG_MISS_TOL, TRK_PRED_CFG_STALL_RPM]⟩,
  ⟨0xa4, 1, 4, fun _ => [TRK_LANE_CFG_S_EN, TRK_LANE_CFG_DIV_TEETH, TRK_LANE_CFG_ANG_DIV_LIM]⟩,
  ⟨0xa8, 1, 4, fun _ => [TRK_LANE_CTRL_SEL_REQ, TRK_LANE_CTRL_SEL_LANE]⟩,
  ⟨0xb0, 1, 4, fun _ => [TRK_LEARN_CTRL_REQ, TRK_LEARN_CTRL_ABORT, TRK_LEARN_CTRL_FUELCUT, TRK_LEARN_CTRL_LEARN_CYC, TRK_LEARN_CTRL_LEARN_TOL]⟩,
  ⟨0xb4, 1, 4, fun _ => [TRK_LEARN_SPD_LRN_MAX, TRK_LEARN_SPD_LRN_MIN]⟩,
  ⟨0xb8, 1, 4, fun _ => [TRK_LEARN_STAT_RESULT, TRK_LEARN_STAT_CYC_DONE, TRK_LEARN_STAT_WORST_POS]⟩,
  ⟨0xc0, 1, 4, fun _ => [TRK_TBL_CTRL_COMMIT, TRK_TBL_CTRL_SEL, TRK_TBL_CTRL_IDX]⟩,
  ⟨0xc4, 1, 4, fun _ => [TRK_TBL_DATA_VALUE]⟩,
  ⟨0xc8, 1, 4, fun _ => [TRK_TBL_STAT_PENDING, TRK_TBL_STAT_REFUSED, TRK_TBL_STAT_REF_IDX]⟩,
  ⟨0x100, 24, 0x4, fun i => [TRK_CAM_TOOTH_ANGLE i]⟩]

def EVT_CFG_DWELL_LA : Field := ⟨0x19, 0x40, 16, 10, .rws, 0x1c2⟩
def EVT_CFG_AUTO_RESUME : Field := ⟨0x19, 0x40, 6, 1, .rws, 0x0⟩
def EVT_CFG_CS_MODE : Field := ⟨0x19, 0x40, 5, 1, .rws, 0x0⟩
def EVT_CFG_LOOKAHEAD : Field := ⟨0x19, 0x40, 0, 4, .rws, 0x2⟩
def EVT_CTRL_RUN : Field := ⟨0x19, 0x44, 0, 1, .rw, 0x0⟩
def EVT_STAT_SLOTS : Field := ⟨0x19, 0x48, 22, 10, .ro, 0x0⟩
def EVT_STAT_PEND : Field := ⟨0x19, 0x48, 12, 10, .ro, 0x0⟩
def EVT_STAT_STATE : Field := ⟨0x19, 0x48, 0, 3, .ro, 0x0⟩
def EVT_CYC_CNT_COUNT : Field := ⟨0x19, 0x4c, 0, 19, .rw, 0x0⟩
def EVT_FIRE_CNT_COUNT : Field := ⟨0x19, 0x50, 0, 32, .rc, 0x0⟩
def EVT_LATE_CNT_CANCEL : Field := ⟨0x19, 0x54, 16, 16, .rc, 0x0⟩
def EVT_LATE_CNT_LATE : Field := ⟨0x19, 0x54, 0, 16, .rc, 0x0⟩
def EVT_ABORT_CNT_SKIP : Field := ⟨0x19, 0x58, 16, 16, .rc, 0x0⟩
def EVT_ABORT_CNT_ABORT : Field := ⟨0x19, 0x58, 0, 16, .rc, 0x0⟩
def EVT_ERR_CNT_LINK_ERR : Field := ⟨0x19, 0x5c, 24, 8, .rc, 0x0⟩
def EVT_ERR_CNT_ECC : Field := ⟨0x19, 0x5c, 16, 8, .rc, 0x0⟩
def EVT_ERR_CNT_DWELL_SHORT : Field := ⟨0x19, 0x5c, 8, 8, .rc, 0x0⟩
def EVT_CMT_ERR_VALID : Field := ⟨0x19, 0x60, 31, 1, .w1c, 0x0⟩
def EVT_CMT_ERR_MORE : Field := ⟨0x19, 0x60, 30, 1, .ro, 0x0⟩
def EVT_CMT_ERR_MASTER : Field := ⟨0x19, 0x60, 24, 4, .ro, 0x0⟩
def EVT_CMT_ERR_CODE : Field := ⟨0x19, 0x60, 20, 4, .ro, 0x0⟩
def EVT_CMT_ERR_IDX : Field := ⟨0x19, 0x60, 0, 12, .ro, 0x0⟩
def EVT_LATE_REC_CANCEL : Field := ⟨0x19, 0x64, 31, 1, .ro, 0x0⟩
def EVT_LATE_REC_IDX : Field := ⟨0x19, 0x64, 16, 12, .ro, 0x0⟩
def EVT_LATE_REC_LAMBDA : Field := ⟨0x19, 0x64, 0, 12, .ro, 0x0⟩
def EVT_CH_SEL_CH : Field := ⟨0x19, 0x68, 0, 8, .rw, 0x0⟩
def EVT_CH_STAT_OWNED : Field := ⟨0x19, 0x6c, 8, 8, .ro, 0x0⟩
def EVT_CH_STAT_PULLED : Field := ⟨0x19, 0x6c, 0, 3, .ro, 0x0⟩
def EVT_BANK_STAT_VALID_N (i : Nat) : Field := ⟨0x19, (0x80 + 0x4 * i), 16, 10, .ro, 0x0⟩
def EVT_BANK_STAT_MAX_DELAY (i : Nat) : Field := ⟨0x19, (0x80 + 0x4 * i), 0, 8, .ro, 0x0⟩

/-- The registers of a EVT page. -/
def evtRows : List RegRow := [
  ⟨0x40, 1, 4, fun _ => [EVT_CFG_DWELL_LA, EVT_CFG_AUTO_RESUME, EVT_CFG_CS_MODE, EVT_CFG_LOOKAHEAD]⟩,
  ⟨0x44, 1, 4, fun _ => [EVT_CTRL_RUN]⟩,
  ⟨0x48, 1, 4, fun _ => [EVT_STAT_SLOTS, EVT_STAT_PEND, EVT_STAT_STATE]⟩,
  ⟨0x4c, 1, 4, fun _ => [EVT_CYC_CNT_COUNT]⟩,
  ⟨0x50, 1, 4, fun _ => [EVT_FIRE_CNT_COUNT]⟩,
  ⟨0x54, 1, 4, fun _ => [EVT_LATE_CNT_CANCEL, EVT_LATE_CNT_LATE]⟩,
  ⟨0x58, 1, 4, fun _ => [EVT_ABORT_CNT_SKIP, EVT_ABORT_CNT_ABORT]⟩,
  ⟨0x5c, 1, 4, fun _ => [EVT_ERR_CNT_LINK_ERR, EVT_ERR_CNT_ECC, EVT_ERR_CNT_DWELL_SHORT]⟩,
  ⟨0x60, 1, 4, fun _ => [EVT_CMT_ERR_VALID, EVT_CMT_ERR_MORE, EVT_CMT_ERR_MASTER, EVT_CMT_ERR_CODE, EVT_CMT_ERR_IDX]⟩,
  ⟨0x64, 1, 4, fun _ => [EVT_LATE_REC_CANCEL, EVT_LATE_REC_IDX, EVT_LATE_REC_LAMBDA]⟩,
  ⟨0x68, 1, 4, fun _ => [EVT_CH_SEL_CH]⟩,
  ⟨0x6c, 1, 4, fun _ => [EVT_CH_STAT_OWNED, EVT_CH_STAT_PULLED]⟩,
  ⟨0x80, 8, 0x4, fun i => [EVT_BANK_STAT_VALID_N i, EVT_BANK_STAT_MAX_DELAY i]⟩]

def TILE_TILE_STAT_LTILE (p : Nat) : Field := ⟨(0x20 + p), 0x40, 16, 5, .ro, 0x0⟩
def TILE_TILE_STAT_RSTD (p : Nat) : Field := ⟨(0x20 + p), 0x40, 9, 1, .ro, 0x0⟩
def TILE_TILE_STAT_SLATE (p : Nat) : Field := ⟨(0x20 + p), 0x40, 8, 1, .ro, 0x0⟩
def TILE_TILE_STAT_ENGQ (p : Nat) : Field := ⟨(0x20 + p), 0x40, 0, 8, .ro, 0x0⟩
def TILE_WSEL_CH (p : Nat) : Field := ⟨(0x20 + p), 0x44, 0, 5, .rw, 0x0⟩
def TILE_W_MT_LO_T (p : Nat) : Field := ⟨(0x20 + p), 0x48, 0, 32, .ro, 0x0⟩
def TILE_W_MT_HI_T (p : Nat) : Field := ⟨(0x20 + p), 0x4c, 0, 32, .ro, 0x0⟩
def TILE_W_MA_COUPLED (p : Nat) : Field := ⟨(0x20 + p), 0x50, 25, 1, .ro, 0x0⟩
def TILE_W_MA_ARMED (p : Nat) : Field := ⟨(0x20 + p), 0x50, 24, 1, .ro, 0x0⟩
def TILE_W_MA_ANGLE (p : Nat) : Field := ⟨(0x20 + p), 0x50, 0, 24, .ro, 0x0⟩
def TILE_W_CAP0_LO_T (p : Nat) : Field := ⟨(0x20 + p), 0x54, 0, 32, .ro, 0x0⟩
def TILE_W_CAP0_HI_T (p : Nat) : Field := ⟨(0x20 + p), 0x58, 0, 32, .ro, 0x0⟩
def TILE_W_CAP0_A_VALID (p : Nat) : Field := ⟨(0x20 + p), 0x5c, 24, 1, .ro, 0x0⟩
def TILE_W_CAP0_A_ANGLE (p : Nat) : Field := ⟨(0x20 + p), 0x5c, 0, 24, .ro, 0x0⟩
def TILE_W_CAP1_LO_T (p : Nat) : Field := ⟨(0x20 + p), 0x60, 0, 32, .ro, 0x0⟩
def TILE_W_CAP1_HI_T (p : Nat) : Field := ⟨(0x20 + p), 0x64, 0, 32, .ro, 0x0⟩
def TILE_W_CAP1_A_VALID (p : Nat) : Field := ⟨(0x20 + p), 0x68, 24, 1, .ro, 0x0⟩
def TILE_W_CAP1_A_ANGLE (p : Nat) : Field := ⟨(0x20 + p), 0x68, 0, 24, .ro, 0x0⟩
def TILE_W_SRQ_LO_T (p : Nat) : Field := ⟨(0x20 + p), 0x6c, 0, 32, .ro, 0x0⟩
def TILE_W_SRQ_HI_T (p : Nat) : Field := ⟨(0x20 + p), 0x70, 0, 32, .ro, 0x0⟩
def TILE_W_NEWER_NEWER (p : Nat) : Field := ⟨(0x20 + p), 0x74, 0, 3, .ro, 0x0⟩
def TILE_CH_CFG_FMASK (p i : Nat) : Field := ⟨(0x20 + p), (0x100 + 0x20 * i), 16, 10, .rws, 0x0⟩
def TILE_CH_CFG_SYNC_END (p i : Nat) : Field := ⟨(0x20 + p), (0x100 + 0x20 * i), 11, 1, .rws, 0x1⟩
def TILE_CH_CFG_ENV (p i : Nat) : Field := ⟨(0x20 + p), (0x100 + 0x20 * i), 10, 1, .rws, 0x0⟩
def TILE_CH_CFG_PRIO (p i : Nat) : Field := ⟨(0x20 + p), (0x100 + 0x20 * i), 8, 2, .rws, 0x2⟩
def TILE_CH_CFG_FUNC (p i : Nat) : Field := ⟨(0x20 + p), (0x100 + 0x20 * i), 0, 7, .rws, 0x0⟩
def TILE_CH_CTRL_HPARAM (p i : Nat) : Field := ⟨(0x20 + p), (0x104 + 0x20 * i), 16, 16, .wo, 0x0⟩
def TILE_CH_CTRL_HSRQ (p i : Nat) : Field := ⟨(0x20 + p), (0x104 + 0x20 * i), 1, 1, .wo, 0x0⟩
def TILE_CH_CTRL_EN (p i : Nat) : Field := ⟨(0x20 + p), (0x104 + 0x20 * i), 0, 1, .rw, 0x0⟩
def TILE_CH_STAT_RUNNING (p i : Nat) : Field := ⟨(0x20 + p), (0x108 + 0x20 * i), 31, 1, .ro, 0x0⟩
def TILE_CH_STAT_YIELDED (p i : Nat) : Field := ⟨(0x20 + p), (0x108 + 0x20 * i), 30, 1, .ro, 0x0⟩
def TILE_CH_STAT_MHOLD (p i : Nat) : Field := ⟨(0x20 + p), (0x108 + 0x20 * i), 29, 1, .ro, 0x0⟩
def TILE_CH_STAT_SACT_ARM (p i : Nat) : Field := ⟨(0x20 + p), (0x108 + 0x20 * i), 28, 1, .ro, 0x0⟩
def TILE_CH_STAT_SACT (p i : Nat) : Field := ⟨(0x20 + p), (0x108 + 0x20 * i), 26, 2, .ro, 0x0⟩
def TILE_CH_STAT_MT_ARM (p i : Nat) : Field := ⟨(0x20 + p), (0x108 + 0x20 * i), 25, 1, .ro, 0x0⟩
def TILE_CH_STAT_MA_ARM (p i : Nat) : Field := ⟨(0x20 + p), (0x108 + 0x20 * i), 24, 1, .ro, 0x0⟩
def TILE_CH_STAT_PIPE (p i : Nat) : Field := ⟨(0x20 + p), (0x108 + 0x20 * i), 23, 1, .ro, 0x0⟩
def TILE_CH_STAT_SAFE (p i : Nat) : Field := ⟨(0x20 + p), (0x108 + 0x20 * i), 22, 1, .ro, 0x0⟩
def TILE_CH_STAT_ENV_L (p i : Nat) : Field := ⟨(0x20 + p), (0x108 + 0x20 * i), 21, 1, .ro, 0x0⟩
def TILE_CH_STAT_CAR_L (p i : Nat) : Field := ⟨(0x20 + p), (0x108 + 0x20 * i), 20, 1, .ro, 0x0⟩
def TILE_CH_STAT_PIN_L (p i : Nat) : Field := ⟨(0x20 + p), (0x108 + 0x20 * i), 19, 1, .ro, 0x0⟩
def TILE_CH_FLAGS_PARAM (p i : Nat) : Field := ⟨(0x20 + p), (0x10c + 0x20 * i), 16, 16, .ro, 0x0⟩
def TILE_CH_FLAGS_FLAGS (p i : Nat) : Field := ⟨(0x20 + p), (0x10c + 0x20 * i), 0, 10, .ro, 0x0⟩
def TILE_CH_CAPCFG_CAP1_TI (p i : Nat) : Field := ⟨(0x20 + p), (0x110 + 0x20 * i), 24, 5, .rws, 0x0⟩
def TILE_CH_CAPCFG_CAP0_TI (p i : Nat) : Field := ⟨(0x20 + p), (0x110 + 0x20 * i), 16, 5, .rws, 0x0⟩
def TILE_CH_CAPCFG_CAP1_SRC (p i : Nat) : Field := ⟨(0x20 + p), (0x110 + 0x20 * i), 8, 4, .rws, 0x0⟩
def TILE_CH_CAPCFG_CAP0_SRC (p i : Nat) : Field := ⟨(0x20 + p), (0x110 + 0x20 * i), 0, 4, .rws, 0x0⟩
def TILE_CH_ERR_ABORT (p i : Nat) : Field := ⟨(0x20 + p), (0x114 + 0x20 * i), 24, 8, .rc, 0x0⟩
def TILE_CH_ERR_PASSED (p i : Nat) : Field := ⟨(0x20 + p), (0x114 + 0x20 * i), 16, 8, .rc, 0x0⟩
def TILE_CH_ERR_CAP_OVR (p i : Nat) : Field := ⟨(0x20 + p), (0x114 + 0x20 * i), 8, 8, .rc, 0x0⟩
def TILE_CH_ERR_SRQ_OVR (p i : Nat) : Field := ⟨(0x20 + p), (0x114 + 0x20 * i), 0, 8, .rc, 0x0⟩
def TILE_CH_EVCNT_OVR (p i : Nat) : Field := ⟨(0x20 + p), (0x118 + 0x20 * i), 24, 8, .rc, 0x0⟩
def TILE_CH_EVCNT_COUNT (p i : Nat) : Field := ⟨(0x20 + p), (0x118 + 0x20 * i), 0, 20, .ro, 0x0⟩

/-- The registers of a TILE page. -/
def tileRows (p : Nat) : List RegRow := [
  ⟨0x40, 1, 4, fun _ => [TILE_TILE_STAT_LTILE p, TILE_TILE_STAT_RSTD p, TILE_TILE_STAT_SLATE p, TILE_TILE_STAT_ENGQ p]⟩,
  ⟨0x44, 1, 4, fun _ => [TILE_WSEL_CH p]⟩,
  ⟨0x48, 1, 4, fun _ => [TILE_W_MT_LO_T p]⟩,
  ⟨0x4c, 1, 4, fun _ => [TILE_W_MT_HI_T p]⟩,
  ⟨0x50, 1, 4, fun _ => [TILE_W_MA_COUPLED p, TILE_W_MA_ARMED p, TILE_W_MA_ANGLE p]⟩,
  ⟨0x54, 1, 4, fun _ => [TILE_W_CAP0_LO_T p]⟩,
  ⟨0x58, 1, 4, fun _ => [TILE_W_CAP0_HI_T p]⟩,
  ⟨0x5c, 1, 4, fun _ => [TILE_W_CAP0_A_VALID p, TILE_W_CAP0_A_ANGLE p]⟩,
  ⟨0x60, 1, 4, fun _ => [TILE_W_CAP1_LO_T p]⟩,
  ⟨0x64, 1, 4, fun _ => [TILE_W_CAP1_HI_T p]⟩,
  ⟨0x68, 1, 4, fun _ => [TILE_W_CAP1_A_VALID p, TILE_W_CAP1_A_ANGLE p]⟩,
  ⟨0x6c, 1, 4, fun _ => [TILE_W_SRQ_LO_T p]⟩,
  ⟨0x70, 1, 4, fun _ => [TILE_W_SRQ_HI_T p]⟩,
  ⟨0x74, 1, 4, fun _ => [TILE_W_NEWER_NEWER p]⟩,
  ⟨0x100, 24, 0x20, fun i => [TILE_CH_CFG_FMASK p i, TILE_CH_CFG_SYNC_END p i, TILE_CH_CFG_ENV p i, TILE_CH_CFG_PRIO p i, TILE_CH_CFG_FUNC p i]⟩,
  ⟨0x104, 24, 0x20, fun i => [TILE_CH_CTRL_HPARAM p i, TILE_CH_CTRL_HSRQ p i, TILE_CH_CTRL_EN p i]⟩,
  ⟨0x108, 24, 0x20, fun i => [TILE_CH_STAT_RUNNING p i, TILE_CH_STAT_YIELDED p i, TILE_CH_STAT_MHOLD p i, TILE_CH_STAT_SACT_ARM p i, TILE_CH_STAT_SACT p i, TILE_CH_STAT_MT_ARM p i, TILE_CH_STAT_MA_ARM p i, TILE_CH_STAT_PIPE p i, TILE_CH_STAT_SAFE p i, TILE_CH_STAT_ENV_L p i, TILE_CH_STAT_CAR_L p i, TILE_CH_STAT_PIN_L p i]⟩,
  ⟨0x10c, 24, 0x20, fun i => [TILE_CH_FLAGS_PARAM p i, TILE_CH_FLAGS_FLAGS p i]⟩,
  ⟨0x110, 24, 0x20, fun i => [TILE_CH_CAPCFG_CAP1_TI p i, TILE_CH_CAPCFG_CAP0_TI p i, TILE_CH_CAPCFG_CAP1_SRC p i, TILE_CH_CAPCFG_CAP0_SRC p i]⟩,
  ⟨0x114, 24, 0x20, fun i => [TILE_CH_ERR_ABORT p i, TILE_CH_ERR_PASSED p i, TILE_CH_ERR_CAP_OVR p i, TILE_CH_ERR_SRQ_OVR p i]⟩,
  ⟨0x118, 24, 0x20, fun i => [TILE_CH_EVCNT_OVR p i, TILE_CH_EVCNT_COUNT p i]⟩]

def GEL_GEL_CTRL_BRK_EN (p : Nat) : Field := ⟨(0x30 + p), 0x40, 2, 1, .rw, 0x0⟩
def GEL_GEL_CTRL_STEP (p : Nat) : Field := ⟨(0x30 + p), 0x40, 1, 1, .wo, 0x0⟩
def GEL_GEL_CTRL_HALT (p : Nat) : Field := ⟨(0x30 + p), 0x40, 0, 1, .rw, 0x0⟩
def GEL_GEL_STAT_PC (p : Nat) : Field := ⟨(0x30 + p), 0x44, 16, 13, .ro, 0x0⟩
def GEL_GEL_STAT_CH (p : Nat) : Field := ⟨(0x30 + p), 0x44, 8, 8, .ro, 0x0⟩
def GEL_GEL_STAT_STATE (p : Nat) : Field := ⟨(0x30 + p), 0x44, 0, 3, .ro, 0x0⟩
def GEL_TMAX_CYC (p : Nat) : Field := ⟨(0x30 + p), 0x48, 0, 10, .rws, 0x80⟩
def GEL_UCODE_VER_VER (p : Nat) : Field := ⟨(0x30 + p), 0x4c, 0, 32, .ro, 0x0⟩
def GEL_THR_CNT_COUNT (p : Nat) : Field := ⟨(0x30 + p), 0x50, 0, 32, .rc, 0x0⟩
def GEL_FLT_CNT_OVERRUN (p : Nat) : Field := ⟨(0x30 + p), 0x54, 24, 8, .rc, 0x0⟩
def GEL_FLT_CNT_ILLEGAL (p : Nat) : Field := ⟨(0x30 + p), 0x54, 16, 8, .rc, 0x0⟩
def GEL_FLT_CNT_STACK (p : Nat) : Field := ⟨(0x30 + p), 0x54, 8, 8, .rc, 0x0⟩
def GEL_FLT_CNT_ECC (p : Nat) : Field := ⟨(0x30 + p), 0x54, 0, 8, .rc, 0x0⟩
def GEL_MAX_THR_CYC (p : Nat) : Field := ⟨(0x30 + p), 0x58, 0, 10, .rc, 0x0⟩
def GEL_CQ_STAT_STALL (p : Nat) : Field := ⟨(0x30 + p), 0x5c, 16, 16, .rc, 0x0⟩
def GEL_CQ_STAT_LEVEL (p : Nat) : Field := ⟨(0x30 + p), 0x5c, 0, 5, .ro, 0x0⟩
def GEL_LAT_MAX_CYC (p i : Nat) : Field := ⟨(0x30 + p), (0x60 + 0x4 * i), 0, 16, .rc, 0x0⟩
def GEL_QOUT_EN (p i : Nat) : Field := ⟨(0x30 + p), (0x70 + 0x4 * i), 8, 1, .rws, 0x0⟩
def GEL_QOUT_PORT (p i : Nat) : Field := ⟨(0x30 + p), (0x70 + 0x4 * i), 4, 1, .rws, 0x0⟩
def GEL_QOUT_QUEUE (p i : Nat) : Field := ⟨(0x30 + p), (0x70 + 0x4 * i), 0, 3, .rws, 0x0⟩
def GEL_BKPT0_EN (p : Nat) : Field := ⟨(0x30 + p), 0x80, 31, 1, .rw, 0x0⟩
def GEL_BKPT0_ADDR (p : Nat) : Field := ⟨(0x30 + p), 0x80, 0, 13, .rw, 0x0⟩
def GEL_BKPT1_EN (p : Nat) : Field := ⟨(0x30 + p), 0x84, 31, 1, .rw, 0x0⟩
def GEL_BKPT1_ADDR (p : Nat) : Field := ⟨(0x30 + p), 0x84, 0, 13, .rw, 0x0⟩
def GEL_DBG_SEL_IDX (p : Nat) : Field := ⟨(0x30 + p), 0x88, 0, 4, .rw, 0x0⟩
def GEL_DBG_DATA_VALUE (p : Nat) : Field := ⟨(0x30 + p), 0x8c, 0, 32, .rw, 0x0⟩
def GEL_WHEEL0_ENT (p : Nat) : Field := ⟨(0x30 + p), 0x90, 0, 16, .rws, 0x4810⟩
def GEL_WHEEL1_ENT (p : Nat) : Field := ⟨(0x30 + p), 0x94, 0, 16, .rws, 0x4810⟩

/-- The registers of a GEL page. -/
def gelRows (p : Nat) : List RegRow := [
  ⟨0x40, 1, 4, fun _ => [GEL_GEL_CTRL_BRK_EN p, GEL_GEL_CTRL_STEP p, GEL_GEL_CTRL_HALT p]⟩,
  ⟨0x44, 1, 4, fun _ => [GEL_GEL_STAT_PC p, GEL_GEL_STAT_CH p, GEL_GEL_STAT_STATE p]⟩,
  ⟨0x48, 1, 4, fun _ => [GEL_TMAX_CYC p]⟩,
  ⟨0x4c, 1, 4, fun _ => [GEL_UCODE_VER_VER p]⟩,
  ⟨0x50, 1, 4, fun _ => [GEL_THR_CNT_COUNT p]⟩,
  ⟨0x54, 1, 4, fun _ => [GEL_FLT_CNT_OVERRUN p, GEL_FLT_CNT_ILLEGAL p, GEL_FLT_CNT_STACK p, GEL_FLT_CNT_ECC p]⟩,
  ⟨0x58, 1, 4, fun _ => [GEL_MAX_THR_CYC p]⟩,
  ⟨0x5c, 1, 4, fun _ => [GEL_CQ_STAT_STALL p, GEL_CQ_STAT_LEVEL p]⟩,
  ⟨0x60, 3, 0x4, fun i => [GEL_LAT_MAX_CYC p i]⟩,
  ⟨0x70, 4, 0x4, fun i => [GEL_QOUT_EN p i, GEL_QOUT_PORT p i, GEL_QOUT_QUEUE p i]⟩,
  ⟨0x80, 1, 4, fun _ => [GEL_BKPT0_EN p, GEL_BKPT0_ADDR p]⟩,
  ⟨0x84, 1, 4, fun _ => [GEL_BKPT1_EN p, GEL_BKPT1_ADDR p]⟩,
  ⟨0x88, 1, 4, fun _ => [GEL_DBG_SEL_IDX p]⟩,
  ⟨0x8c, 1, 4, fun _ => [GEL_DBG_DATA_VALUE p]⟩,
  ⟨0x90, 1, 4, fun _ => [GEL_WHEEL0_ENT p]⟩,
  ⟨0x94, 1, 4, fun _ => [GEL_WHEEL1_ENT p]⟩]

def OUT_ARM_CTRL_KEY : Field := ⟨0x38, 0x40, 24, 8, .wo, 0x0⟩
def OUT_ARM_CTRL_DISARM : Field := ⟨0x38, 0x40, 1, 1, .wo, 0x0⟩
def OUT_ARM_CTRL_ARM : Field := ⟨0x38, 0x40, 0, 1, .wo, 0x0⟩
def OUT_ARM_STAT_REFUSE : Field := ⟨0x38, 0x44, 20, 4, .ro, 0x0⟩
def OUT_ARM_STAT_TRIP_CAUSE : Field := ⟨0x38, 0x44, 16, 4, .ro, 0x0⟩
def OUT_ARM_STAT_DETAIL : Field := ⟨0x38, 0x44, 8, 8, .ro, 0x0⟩
def OUT_ARM_STAT_PENDING : Field := ⟨0x38, 0x44, 4, 1, .ro, 0x0⟩
def OUT_ARM_STAT_DPB_ACT : Field := ⟨0x38, 0x44, 3, 1, .ro, 0x0⟩
def OUT_ARM_STAT_DPA_ACT : Field := ⟨0x38, 0x44, 2, 1, .ro, 0x0⟩
def OUT_ARM_STAT_STATE : Field := ⟨0x38, 0x44, 0, 2, .ro, 0x0⟩
def OUT_OUT_CFG_COMP : Field := ⟨0x38, 0x48, 16, 1, .rws, 0x1⟩
def OUT_OUT_CFG_SOFT_T : Field := ⟨0x38, 0x48, 0, 16, .rws, 0x7d0⟩
def OUT_PIN_LVL_LVL (i : Nat) : Field := ⟨0x38, (0x50 + 0x4 * i), 0, 32, .ro, 0x0⟩
def OUT_SAFE_SAFE (i : Nat) : Field := ⟨0x38, (0x60 + 0x4 * i), 0, 32, .rws, 0x0⟩
def OUT_SOFT_STAT_ACT : Field := ⟨0x38, 0x70, 1, 15, .ro, 0x0⟩
def OUT_SOFT_CNT_COUNT : Field := ⟨0x38, 0x74, 0, 16, .rc, 0x0⟩
def OUT_PIN_CFG_HIZ (i : Nat) : Field := ⟨0x38, (0x200 + 0x4 * i), 31, 1, .rws, 0x0⟩
def OUT_PIN_CFG_INV (i : Nat) : Field := ⟨0x38, (0x200 + 0x4 * i), 30, 1, .rws, 0x0⟩
def OUT_PIN_CFG_KIND (i : Nat) : Field := ⟨0x38, (0x200 + 0x4 * i), 24, 3, .rws, 0x0⟩
def OUT_PIN_CFG_BANK (i : Nat) : Field := ⟨0x38, (0x200 + 0x4 * i), 8, 5, .rws, 0x0⟩
def OUT_PIN_CFG_SRC (i : Nat) : Field := ⟨0x38, (0x200 + 0x4 * i), 0, 8, .rws, 0x0⟩
def OUT_SOFT_MAP_GRP (i : Nat) : Field := ⟨0x38, (0x600 + 0x4 * i), 0, 32, .rws, 0x0⟩

/-- The registers of a OUT page. -/
def outRows : List RegRow := [
  ⟨0x40, 1, 4, fun _ => [OUT_ARM_CTRL_KEY, OUT_ARM_CTRL_DISARM, OUT_ARM_CTRL_ARM]⟩,
  ⟨0x44, 1, 4, fun _ => [OUT_ARM_STAT_REFUSE, OUT_ARM_STAT_TRIP_CAUSE, OUT_ARM_STAT_DETAIL, OUT_ARM_STAT_PENDING, OUT_ARM_STAT_DPB_ACT, OUT_ARM_STAT_DPA_ACT, OUT_ARM_STAT_STATE]⟩,
  ⟨0x48, 1, 4, fun _ => [OUT_OUT_CFG_COMP, OUT_OUT_CFG_SOFT_T]⟩,
  ⟨0x50, 4, 0x4, fun i => [OUT_PIN_LVL_LVL i]⟩,
  ⟨0x60, 4, 0x4, fun i => [OUT_SAFE_SAFE i]⟩,
  ⟨0x70, 1, 4, fun _ => [OUT_SOFT_STAT_ACT]⟩,
  ⟨0x74, 1, 4, fun _ => [OUT_SOFT_CNT_COUNT]⟩,
  ⟨0x200, 128, 0x4, fun i => [OUT_PIN_CFG_HIZ i, OUT_PIN_CFG_INV i, OUT_PIN_CFG_KIND i, OUT_PIN_CFG_BANK i, OUT_PIN_CFG_SRC i]⟩,
  ⟨0x600, 27, 0x4, fun i => [OUT_SOFT_MAP_GRP i]⟩]

def BANK_BANK_CFG_BLANK (p : Nat) : Field := ⟨(0x40 + p), 0x40, 24, 8, .rws, 0x64⟩
def BANK_BANK_CFG_TPER_MIN (p : Nat) : Field := ⟨(0x40 + p), 0x40, 12, 12, .rws, 0x3e8⟩
def BANK_BANK_CFG_CMP_F (p : Nat) : Field := ⟨(0x40 + p), 0x40, 6, 2, .rws, 0x1⟩
def BANK_BANK_CFG_WIN_EN (p : Nat) : Field := ⟨(0x40 + p), 0x40, 5, 1, .rws, 0x1⟩
def BANK_BANK_CFG_SLOT_EN (p : Nat) : Field := ⟨(0x40 + p), 0x40, 0, 2, .rws, 0x0⟩
def BANK_ATTACH_CH1 (p : Nat) : Field := ⟨(0x40 + p), 0x44, 8, 8, .rws, 0xff⟩
def BANK_ATTACH_CH0 (p : Nat) : Field := ⟨(0x40 + p), 0x44, 0, 8, .rws, 0xff⟩
def BANK_QGUARD_GUARD (p : Nat) : Field := ⟨(0x40 + p), 0x48, 0, 24, .rws, 0x5b06⟩
def BANK_CHK_REC_CODE (p : Nat) : Field := ⟨(0x40 + p), 0x4c, 28, 4, .ro, 0x0⟩
def BANK_CHK_REC_IDX (p : Nat) : Field := ⟨(0x40 + p), 0x4c, 16, 12, .ro, 0xfff⟩
def BANK_CHK_REC_CH_A (p : Nat) : Field := ⟨(0x40 + p), 0x4c, 8, 8, .ro, 0xff⟩
def BANK_CHK_REC_CH_B (p : Nat) : Field := ⟨(0x40 + p), 0x4c, 0, 8, .ro, 0xff⟩
def BANK_ERR_CNT0_SHORT (p : Nat) : Field := ⟨(0x40 + p), 0x50, 24, 8, .rc, 0x0⟩
def BANK_ERR_CNT0_OPEN (p : Nat) : Field := ⟨(0x40 + p), 0x50, 16, 8, .rc, 0x0⟩
def BANK_ERR_CNT0_COLLIDE (p : Nat) : Field := ⟨(0x40 + p), 0x50, 8, 8, .rc, 0x0⟩
def BANK_ERR_CNT0_WIN (p : Nat) : Field := ⟨(0x40 + p), 0x50, 0, 8, .rc, 0x0⟩
def BANK_ERR_CNT1_WIN_END (p : Nat) : Field := ⟨(0x40 + p), 0x54, 24, 8, .rc, 0x0⟩
def BANK_ERR_CNT1_QTO (p : Nat) : Field := ⟨(0x40 + p), 0x54, 16, 8, .rc, 0x0⟩
def BANK_ERR_CNT1_CHOP_DLY (p : Nat) : Field := ⟨(0x40 + p), 0x54, 8, 8, .rc, 0x0⟩
def BANK_PULSE_CNT_SLOT1 (p : Nat) : Field := ⟨(0x40 + p), 0x58, 16, 16, .rc, 0x0⟩
def BANK_PULSE_CNT_SLOT0 (p : Nat) : Field := ⟨(0x40 + p), 0x58, 0, 16, .rc, 0x0⟩
def BANK_CHOP_STAT_MIN_PER (p : Nat) : Field := ⟨(0x40 + p), 0x5c, 16, 16, .rc, 0xffff⟩
def BANK_CHOP_STAT_LAST_PER (p : Nat) : Field := ⟨(0x40 + p), 0x5c, 0, 16, .ro, 0x0⟩
def BANK_THR_PK_PK_HI (p i : Nat) : Field := ⟨(0x40 + p), (0x80 + 0x20 * i), 16, 10, .rws, 0x0⟩
def BANK_THR_PK_PK_LO (p i : Nat) : Field := ⟨(0x40 + p), (0x80 + 0x20 * i), 0, 10, .rws, 0x0⟩
def BANK_THR_H_H_HI (p i : Nat) : Field := ⟨(0x40 + p), (0x84 + 0x20 * i), 16, 10, .rws, 0x0⟩
def BANK_THR_H_H_LO (p i : Nat) : Field := ⟨(0x40 + p), (0x84 + 0x20 * i), 0, 10, .rws, 0x0⟩
def BANK_THR_Q_BOOST_EN (p i : Nat) : Field := ⟨(0x40 + p), (0x88 + 0x20 * i), 31, 1, .rws, 0x1⟩
def BANK_THR_Q_HQ (p i : Nat) : Field := ⟨(0x40 + p), (0x88 + 0x20 * i), 30, 1, .rws, 0x0⟩
def BANK_THR_Q_Q_END (p i : Nat) : Field := ⟨(0x40 + p), (0x88 + 0x20 * i), 0, 10, .rws, 0x0⟩
def BANK_T_BOOST_T_BOOST_MIN (p i : Nat) : Field := ⟨(0x40 + p), (0x8c + 0x20 * i), 16, 16, .rws, 0x0⟩
def BANK_T_BOOST_T_BOOST_MAX (p i : Nat) : Field := ⟨(0x40 + p), (0x8c + 0x20 * i), 0, 16, .rws, 0x5dc⟩
def BANK_T_PHASE_T_PEAK (p i : Nat) : Field := ⟨(0x40 + p), (0x90 + 0x20 * i), 16, 16, .rws, 0x0⟩
def BANK_T_PHASE_T_QMAX (p i : Nat) : Field := ⟨(0x40 + p), (0x90 + 0x20 * i), 0, 16, .rws, 0x7d0⟩
def BANK_WIN_START_START (p i : Nat) : Field := ⟨(0x40 + p), (0x94 + 0x20 * i), 0, 24, .rws, 0x0⟩
def BANK_WIN_SPAN_SPAN (p i : Nat) : Field := ⟨(0x40 + p), (0x98 + 0x20 * i), 0, 24, .rws, 0x0⟩
def BANK_SLOT_STAT_T_BOOST_LAST (p i : Nat) : Field := ⟨(0x40 + p), (0x9c + 0x20 * i), 16, 16, .ro, 0x0⟩
def BANK_SLOT_STAT_LOCK (p i : Nat) : Field := ⟨(0x40 + p), (0x9c + 0x20 * i), 8, 1, .w1c, 0x0⟩
def BANK_SLOT_STAT_PHASE (p i : Nat) : Field := ⟨(0x40 + p), (0x9c + 0x20 * i), 0, 3, .ro, 0x0⟩

/-- The registers of a BANK page. -/
def bankRows (p : Nat) : List RegRow := [
  ⟨0x40, 1, 4, fun _ => [BANK_BANK_CFG_BLANK p, BANK_BANK_CFG_TPER_MIN p, BANK_BANK_CFG_CMP_F p, BANK_BANK_CFG_WIN_EN p, BANK_BANK_CFG_SLOT_EN p]⟩,
  ⟨0x44, 1, 4, fun _ => [BANK_ATTACH_CH1 p, BANK_ATTACH_CH0 p]⟩,
  ⟨0x48, 1, 4, fun _ => [BANK_QGUARD_GUARD p]⟩,
  ⟨0x4c, 1, 4, fun _ => [BANK_CHK_REC_CODE p, BANK_CHK_REC_IDX p, BANK_CHK_REC_CH_A p, BANK_CHK_REC_CH_B p]⟩,
  ⟨0x50, 1, 4, fun _ => [BANK_ERR_CNT0_SHORT p, BANK_ERR_CNT0_OPEN p, BANK_ERR_CNT0_COLLIDE p, BANK_ERR_CNT0_WIN p]⟩,
  ⟨0x54, 1, 4, fun _ => [BANK_ERR_CNT1_WIN_END p, BANK_ERR_CNT1_QTO p, BANK_ERR_CNT1_CHOP_DLY p]⟩,
  ⟨0x58, 1, 4, fun _ => [BANK_PULSE_CNT_SLOT1 p, BANK_PULSE_CNT_SLOT0 p]⟩,
  ⟨0x5c, 1, 4, fun _ => [BANK_CHOP_STAT_MIN_PER p, BANK_CHOP_STAT_LAST_PER p]⟩,
  ⟨0x80, 2, 0x20, fun i => [BANK_THR_PK_PK_HI p i, BANK_THR_PK_PK_LO p i]⟩,
  ⟨0x84, 2, 0x20, fun i => [BANK_THR_H_H_HI p i, BANK_THR_H_H_LO p i]⟩,
  ⟨0x88, 2, 0x20, fun i => [BANK_THR_Q_BOOST_EN p i, BANK_THR_Q_HQ p i, BANK_THR_Q_Q_END p i]⟩,
  ⟨0x8c, 2, 0x20, fun i => [BANK_T_BOOST_T_BOOST_MIN p i, BANK_T_BOOST_T_BOOST_MAX p i]⟩,
  ⟨0x90, 2, 0x20, fun i => [BANK_T_PHASE_T_PEAK p i, BANK_T_PHASE_T_QMAX p i]⟩,
  ⟨0x94, 2, 0x20, fun i => [BANK_WIN_START_START p i]⟩,
  ⟨0x98, 2, 0x20, fun i => [BANK_WIN_SPAN_SPAN p i]⟩,
  ⟨0x9c, 2, 0x20, fun i => [BANK_SLOT_STAT_T_BOOST_LAST p i, BANK_SLOT_STAT_LOCK p i, BANK_SLOT_STAT_PHASE p i]⟩]

def CBC_CONV_CFG_MODE (p : Nat) : Field := ⟨(0x60 + p), 0x40, 31, 1, .rws, 0x0⟩
def CBC_CONV_CFG_RTR_ENTRY (p : Nat) : Field := ⟨(0x60 + p), 0x40, 8, 4, .rws, 0x0⟩
def CBC_CONV_CFG_WIN_ENTRY (p : Nat) : Field := ⟨(0x60 + p), 0x40, 4, 4, .rws, 0x0⟩
def CBC_CONV_CFG_LAST (p : Nat) : Field := ⟨(0x60 + p), 0x40, 0, 4, .rws, 0x0⟩
def CBC_CONV_CTRL_ENTRY (p : Nat) : Field := ⟨(0x60 + p), 0x44, 4, 4, .rw, 0x0⟩
def CBC_CONV_CTRL_STOP (p : Nat) : Field := ⟨(0x60 + p), 0x44, 2, 1, .wo, 0x0⟩
def CBC_CONV_CTRL_URG (p : Nat) : Field := ⟨(0x60 + p), 0x44, 1, 1, .wo, 0x0⟩
def CBC_CONV_CTRL_START (p : Nat) : Field := ⟨(0x60 + p), 0x44, 0, 1, .wo, 0x0⟩
def CBC_CONV_STAT_PEND (p : Nat) : Field := ⟨(0x60 + p), 0x48, 31, 1, .ro, 0x0⟩
def CBC_CONV_STAT_PEND_ENTRY (p : Nat) : Field := ⟨(0x60 + p), 0x48, 24, 4, .ro, 0x0⟩
def CBC_CONV_STAT_SETTLE_LEFT (p : Nat) : Field := ⟨(0x60 + p), 0x48, 12, 3, .ro, 0x0⟩
def CBC_CONV_STAT_ENTRY (p : Nat) : Field := ⟨(0x60 + p), 0x48, 8, 4, .ro, 0x0⟩
def CBC_CONV_STAT_STATE (p : Nat) : Field := ⟨(0x60 + p), 0x48, 0, 3, .ro, 0x0⟩
def CBC_ANG_LIM_MAX (p : Nat) : Field := ⟨(0x60 + p), 0x4c, 16, 16, .rws, 0xffff⟩
def CBC_ANG_LIM_MIN (p : Nat) : Field := ⟨(0x60 + p), 0x4c, 0, 16, .rws, 0x0⟩
def CBC_BAND_TAP_EN (p : Nat) : Field := ⟨(0x60 + p), 0x50, 31, 1, .rws, 0x0⟩
def CBC_BAND_TAP_ENTRY (p : Nat) : Field := ⟨(0x60 + p), 0x50, 24, 4, .rws, 0x0⟩
def CBC_BAND_TAP_FIRST (p : Nat) : Field := ⟨(0x60 + p), 0x50, 12, 12, .rws, 0x0⟩
def CBC_BAND_TAP_LAST (p : Nat) : Field := ⟨(0x60 + p), 0x50, 0, 12, .rws, 0x0⟩
def CBC_CNT0_URG_DROP (p : Nat) : Field := ⟨(0x60 + p), 0x54, 24, 8, .rc, 0x0⟩
def CBC_CNT0_START_DROP (p : Nat) : Field := ⟨(0x60 + p), 0x54, 16, 8, .rc, 0x0⟩
def CBC_CNT0_START_CXL (p : Nat) : Field := ⟨(0x60 + p), 0x54, 8, 8, .rc, 0x0⟩
def CBC_CNT0_STRAY (p : Nat) : Field := ⟨(0x60 + p), 0x54, 0, 8, .rc, 0x0⟩
def CBC_CNT1_INVALID (p : Nat) : Field := ⟨(0x60 + p), 0x58, 16, 16, .rc, 0x0⟩
def CBC_CNT1_OVR (p : Nat) : Field := ⟨(0x60 + p), 0x58, 8, 8, .rc, 0x0⟩
def CBC_CNT1_WC_OUT (p : Nat) : Field := ⟨(0x60 + p), 0x58, 0, 8, .rc, 0x0⟩
def CBC_WC_STAT_HIGH (p : Nat) : Field := ⟨(0x60 + p), 0x5c, 16, 16, .ro, 0x0⟩
def CBC_WC_STAT_OUT (p : Nat) : Field := ⟨(0x60 + p), 0x5c, 0, 16, .ro, 0x0⟩
def CBC_CAL_CTRL_REQ (p : Nat) : Field := ⟨(0x60 + p), 0x60, 31, 1, .wo, 0x0⟩
def CBC_CAL_CTRL_ABORT (p : Nat) : Field := ⟨(0x60 + p), 0x60, 30, 1, .wo, 0x0⟩
def CBC_CAL_CTRL_PREEMPT (p : Nat) : Field := ⟨(0x60 + p), 0x60, 8, 1, .rw, 0x0⟩
def CBC_CAL_CTRL_SEL (p : Nat) : Field := ⟨(0x60 + p), 0x60, 0, 3, .rw, 0x0⟩
def CBC_CAL_STAT_RESULT (p : Nat) : Field := ⟨(0x60 + p), 0x64, 28, 4, .ro, 0x0⟩
def CBC_CAL_STAT_COUNT (p : Nat) : Field := ⟨(0x60 + p), 0x64, 0, 8, .ro, 0x0⟩
def CBC_CAL_TRIM_GAIN (p : Nat) : Field := ⟨(0x60 + p), 0x68, 16, 16, .ro, 0x0⟩
def CBC_CAL_TRIM_OFS (p : Nat) : Field := ⟨(0x60 + p), 0x68, 0, 16, .ro, 0x0⟩
def CBC_CAL_TOL_TOL_GAIN (p : Nat) : Field := ⟨(0x60 + p), 0x6c, 16, 16, .rw, 0x100⟩
def CBC_CAL_TOL_TOL_OFS (p : Nat) : Field := ⟨(0x60 + p), 0x6c, 0, 16, .rw, 0x800⟩
def CBC_ENT_CFG_KIND (p i : Nat) : Field := ⟨(0x60 + p), (0x100 + 0x10 * i), 30, 2, .rw, 0x0⟩
def CBC_ENT_CFG_FILT (p i : Nat) : Field := ⟨(0x60 + p), (0x100 + 0x10 * i), 28, 2, .rw, 0x0⟩
def CBC_ENT_CFG_CMU (p i : Nat) : Field := ⟨(0x60 + p), (0x100 + 0x10 * i), 27, 1, .rw, 0x0⟩
def CBC_ENT_CFG_IRQ (p i : Nat) : Field := ⟨(0x60 + p), (0x100 + 0x10 * i), 26, 1, .rw, 0x0⟩
def CBC_ENT_CFG_CMP_EN (p i : Nat) : Field := ⟨(0x60 + p), (0x100 + 0x10 * i), 25, 1, .rw, 0x0⟩
def CBC_ENT_CFG_RPT (p i : Nat) : Field := ⟨(0x60 + p), (0x100 + 0x10 * i), 16, 8, .rw, 0x1⟩
def CBC_ENT_CFG_LEN (p i : Nat) : Field := ⟨(0x60 + p), (0x100 + 0x10 * i), 0, 16, .rw, 0x0⟩
def CBC_ENT_SRC_GAIN (p i : Nat) : Field := ⟨(0x60 + p), (0x104 + 0x10 * i), 3, 3, .rw, 0x0⟩
def CBC_ENT_SRC_MUX (p i : Nat) : Field := ⟨(0x60 + p), (0x104 + 0x10 * i), 0, 3, .rw, 0x0⟩
def CBC_ENT_WC_HI (p i : Nat) : Field := ⟨(0x60 + p), (0x108 + 0x10 * i), 16, 16, .rw, 0x7fff⟩
def CBC_ENT_WC_LO (p i : Nat) : Field := ⟨(0x60 + p), (0x108 + 0x10 * i), 0, 16, .rw, 0x8000⟩
def CBC_RESULT_W (p i : Nat) : Field := ⟨(0x60 + p), (0x200 + 0x4 * i), 0, 32, .ro, 0x0⟩
def CBC_RES_INFO_W (p i : Nat) : Field := ⟨(0x60 + p), (0x240 + 0x4 * i), 0, 32, .ro, 0xfff0000⟩
def CBC_VREF_CTRL_EN (p : Nat) : Field := ⟨(0x60 + p), 0xf0, 0, 1, .rw, 0x0⟩
def CBC_VREF_STAT_OK (p : Nat) : Field := ⟨(0x60 + p), 0xf4, 2, 1, .ro, 0x0⟩
def CBC_VREF_STAT_WARM (p : Nat) : Field := ⟨(0x60 + p), 0xf4, 1, 1, .ro, 0x0⟩
def CBC_VREF_STAT_ON (p : Nat) : Field := ⟨(0x60 + p), 0xf4, 0, 1, .ro, 0x0⟩
def CBC_MAINS_CFG_NOM (p : Nat) : Field := ⟨(0x60 + p), 0xf8, 1, 1, .rw, 0x0⟩
def CBC_MAINS_CFG_EN (p : Nat) : Field := ⟨(0x60 + p), 0xf8, 0, 1, .rw, 0x0⟩
def CBC_MAINS_STAT_PRESENT (p : Nat) : Field := ⟨(0x60 + p), 0xfc, 31, 1, .ro, 0x0⟩
def CBC_MAINS_STAT_PERIOD (p : Nat) : Field := ⟨(0x60 + p), 0xfc, 0, 24, .ro, 0x186a00⟩

/-- The registers of a CBC page. -/
def cbcRows (p : Nat) : List RegRow := [
  ⟨0x40, 1, 4, fun _ => [CBC_CONV_CFG_MODE p, CBC_CONV_CFG_RTR_ENTRY p, CBC_CONV_CFG_WIN_ENTRY p, CBC_CONV_CFG_LAST p]⟩,
  ⟨0x44, 1, 4, fun _ => [CBC_CONV_CTRL_ENTRY p, CBC_CONV_CTRL_STOP p, CBC_CONV_CTRL_URG p, CBC_CONV_CTRL_START p]⟩,
  ⟨0x48, 1, 4, fun _ => [CBC_CONV_STAT_PEND p, CBC_CONV_STAT_PEND_ENTRY p, CBC_CONV_STAT_SETTLE_LEFT p, CBC_CONV_STAT_ENTRY p, CBC_CONV_STAT_STATE p]⟩,
  ⟨0x4c, 1, 4, fun _ => [CBC_ANG_LIM_MAX p, CBC_ANG_LIM_MIN p]⟩,
  ⟨0x50, 1, 4, fun _ => [CBC_BAND_TAP_EN p, CBC_BAND_TAP_ENTRY p, CBC_BAND_TAP_FIRST p, CBC_BAND_TAP_LAST p]⟩,
  ⟨0x54, 1, 4, fun _ => [CBC_CNT0_URG_DROP p, CBC_CNT0_START_DROP p, CBC_CNT0_START_CXL p, CBC_CNT0_STRAY p]⟩,
  ⟨0x58, 1, 4, fun _ => [CBC_CNT1_INVALID p, CBC_CNT1_OVR p, CBC_CNT1_WC_OUT p]⟩,
  ⟨0x5c, 1, 4, fun _ => [CBC_WC_STAT_HIGH p, CBC_WC_STAT_OUT p]⟩,
  ⟨0x60, 1, 4, fun _ => [CBC_CAL_CTRL_REQ p, CBC_CAL_CTRL_ABORT p, CBC_CAL_CTRL_PREEMPT p, CBC_CAL_CTRL_SEL p]⟩,
  ⟨0x64, 1, 4, fun _ => [CBC_CAL_STAT_RESULT p, CBC_CAL_STAT_COUNT p]⟩,
  ⟨0x68, 1, 4, fun _ => [CBC_CAL_TRIM_GAIN p, CBC_CAL_TRIM_OFS p]⟩,
  ⟨0x6c, 1, 4, fun _ => [CBC_CAL_TOL_TOL_GAIN p, CBC_CAL_TOL_TOL_OFS p]⟩,
  ⟨0x100, 16, 0x10, fun i => [CBC_ENT_CFG_KIND p i, CBC_ENT_CFG_FILT p i, CBC_ENT_CFG_CMU p i, CBC_ENT_CFG_IRQ p i, CBC_ENT_CFG_CMP_EN p i, CBC_ENT_CFG_RPT p i, CBC_ENT_CFG_LEN p i]⟩,
  ⟨0x104, 16, 0x10, fun i => [CBC_ENT_SRC_GAIN p i, CBC_ENT_SRC_MUX p i]⟩,
  ⟨0x108, 16, 0x10, fun i => [CBC_ENT_WC_HI p i, CBC_ENT_WC_LO p i]⟩,
  ⟨0x200, 16, 0x4, fun i => [CBC_RESULT_W p i]⟩,
  ⟨0x240, 16, 0x4, fun i => [CBC_RES_INFO_W p i]⟩,
  ⟨0xf0, if p = 0 then 1 else 0, 4, fun _ => [CBC_VREF_CTRL_EN p]⟩,
  ⟨0xf4, if p = 0 then 1 else 0, 4, fun _ => [CBC_VREF_STAT_OK p, CBC_VREF_STAT_WARM p, CBC_VREF_STAT_ON p]⟩,
  ⟨0xf8, if p = 0 then 1 else 0, 4, fun _ => [CBC_MAINS_CFG_NOM p, CBC_MAINS_CFG_EN p]⟩,
  ⟨0xfc, if p = 0 then 1 else 0, 4, fun _ => [CBC_MAINS_STAT_PRESENT p, CBC_MAINS_STAT_PERIOD p]⟩]

def CMP_LATCH0_LATCH : Field := ⟨0x80, 0x40, 0, 32, .w1c, 0x0⟩
def CMP_LATCH1_LATCH : Field := ⟨0x80, 0x44, 0, 16, .w1c, 0x0⟩
def CMP_LVL0_LVL : Field := ⟨0x80, 0x48, 0, 32, .ro, 0x0⟩
def CMP_LVL1_LVL : Field := ⟨0x80, 0x4c, 0, 16, .ro, 0x0⟩
def CMP_ST_CTRL_REQ : Field := ⟨0x80, 0x50, 31, 1, .wo, 0x0⟩
def CMP_ST_CTRL_ABORT : Field := ⟨0x80, 0x50, 30, 1, .wo, 0x0⟩
def CMP_ST_CTRL_MARGIN : Field := ⟨0x80, 0x50, 0, 8, .rw, 0x4⟩
def CMP_ST_STAT_RESULT : Field := ⟨0x80, 0x54, 28, 4, .ro, 0x0⟩
def CMP_ST_STAT_PREEMPT : Field := ⟨0x80, 0x54, 16, 8, .rc, 0x0⟩
def CMP_ST_STAT_LAST_FAIL : Field := ⟨0x80, 0x54, 0, 6, .ro, 0x3f⟩
def CMP_ST_SEL0_SEL : Field := ⟨0x80, 0x58, 0, 32, .rw, 0xffffffff⟩
def CMP_ST_SEL1_SEL : Field := ⟨0x80, 0x5c, 0, 16, .rw, 0xffff⟩
def CMP_FAIL0_FAIL : Field := ⟨0x80, 0x60, 0, 32, .ro, 0x0⟩
def CMP_FAIL1_FAIL : Field := ⟨0x80, 0x64, 0, 16, .ro, 0x0⟩
def CMP_CMP_CFG_EN (i : Nat) : Field := ⟨0x80, (0x100 + 0x10 * i), 31, 1, .rw, 0x0⟩
def CMP_CMP_CFG_POL (i : Nat) : Field := ⟨0x80, (0x100 + 0x10 * i), 30, 1, .rws, 0x0⟩
def CMP_CMP_CFG_MODE (i : Nat) : Field := ⟨0x80, (0x100 + 0x10 * i), 29, 1, .rws, 0x0⟩
def CMP_CMP_CFG_OSEL (i : Nat) : Field := ⟨0x80, (0x100 + 0x10 * i), 28, 1, .rws, 0x0⟩
def CMP_CMP_CFG_LATCH_MODE (i : Nat) : Field := ⟨0x80, (0x100 + 0x10 * i), 26, 2, .rws, 0x0⟩
def CMP_CMP_CFG_SAMP_SRC (i : Nat) : Field := ⟨0x80, (0x100 + 0x10 * i), 20, 4, .rws, 0x0⟩
def CMP_CMP_CFG_FDIV (i : Nat) : Field := ⟨0x80, (0x100 + 0x10 * i), 12, 8, .rws, 0x0⟩
def CMP_CMP_CFG_HYST (i : Nat) : Field := ⟨0x80, (0x100 + 0x10 * i), 8, 2, .rws, 0x0⟩
def CMP_CMP_CFG_FILT (i : Nat) : Field := ⟨0x80, (0x100 + 0x10 * i), 6, 2, .rws, 0x0⟩
def CMP_CMP_REF_REF (i : Nat) : Field := ⟨0x80, (0x104 + 0x10 * i), 0, 10, .rw, 0x0⟩
def CMP_CMP_STAT_FAILED (i : Nat) : Field := ⟨0x80, (0x108 + 0x10 * i), 7, 1, .ro, 0x0⟩
def CMP_CMP_STAT_OWNED (i : Nat) : Field := ⟨0x80, (0x108 + 0x10 * i), 6, 1, .ro, 0x0⟩
def CMP_CMP_STAT_SAMPLING (i : Nat) : Field := ⟨0x80, (0x108 + 0x10 * i), 5, 1, .ro, 0x0⟩
def CMP_CMP_STAT_UNRESOLVED (i : Nat) : Field := ⟨0x80, (0x108 + 0x10 * i), 4, 1, .ro, 0x0⟩
def CMP_CMP_STAT_LATCH (i : Nat) : Field := ⟨0x80, (0x108 + 0x10 * i), 3, 1, .ro, 0x0⟩
def CMP_CMP_STAT_LVL (i : Nat) : Field := ⟨0x80, (0x108 + 0x10 * i), 2, 1, .ro, 0x0⟩
def CMP_CMP_STAT_RAW (i : Nat) : Field := ⟨0x80, (0x108 + 0x10 * i), 1, 1, .ro, 0x0⟩
def CMP_CMP_STAT_ON (i : Nat) : Field := ⟨0x80, (0x108 + 0x10 * i), 0, 1, .ro, 0x0⟩
def CMP_CMP_AUX_SETS (i : Nat) : Field := ⟨0x80, (0x10c + 0x10 * i), 16, 16, .rc, 0x0⟩
def CMP_CMP_AUX_CH (i : Nat) : Field := ⟨0x80, (0x10c + 0x10 * i), 0, 8, .rws, 0xff⟩

/-- The registers of a CMP page. -/
def cmpRows : List RegRow := [
  ⟨0x40, 1, 4, fun _ => [CMP_LATCH0_LATCH]⟩,
  ⟨0x44, 1, 4, fun _ => [CMP_LATCH1_LATCH]⟩,
  ⟨0x48, 1, 4, fun _ => [CMP_LVL0_LVL]⟩,
  ⟨0x4c, 1, 4, fun _ => [CMP_LVL1_LVL]⟩,
  ⟨0x50, 1, 4, fun _ => [CMP_ST_CTRL_REQ, CMP_ST_CTRL_ABORT, CMP_ST_CTRL_MARGIN]⟩,
  ⟨0x54, 1, 4, fun _ => [CMP_ST_STAT_RESULT, CMP_ST_STAT_PREEMPT, CMP_ST_STAT_LAST_FAIL]⟩,
  ⟨0x58, 1, 4, fun _ => [CMP_ST_SEL0_SEL]⟩,
  ⟨0x5c, 1, 4, fun _ => [CMP_ST_SEL1_SEL]⟩,
  ⟨0x60, 1, 4, fun _ => [CMP_FAIL0_FAIL]⟩,
  ⟨0x64, 1, 4, fun _ => [CMP_FAIL1_FAIL]⟩,
  ⟨0x100, 48, 0x10, fun i => [CMP_CMP_CFG_EN i, CMP_CMP_CFG_POL i, CMP_CMP_CFG_MODE i, CMP_CMP_CFG_OSEL i, CMP_CMP_CFG_LATCH_MODE i, CMP_CMP_CFG_SAMP_SRC i, CMP_CMP_CFG_FDIV i, CMP_CMP_CFG_HYST i, CMP_CMP_CFG_FILT i]⟩,
  ⟨0x104, 48, 0x10, fun i => [CMP_CMP_REF_REF i]⟩,
  ⟨0x108, 48, 0x10, fun i => [CMP_CMP_STAT_FAILED i, CMP_CMP_STAT_OWNED i, CMP_CMP_STAT_SAMPLING i, CMP_CMP_STAT_UNRESOLVED i, CMP_CMP_STAT_LATCH i, CMP_CMP_STAT_LVL i, CMP_CMP_STAT_RAW i, CMP_CMP_STAT_ON i]⟩,
  ⟨0x10c, 48, 0x10, fun i => [CMP_CMP_AUX_SETS i, CMP_CMP_AUX_CH i]⟩]

def CMU_CMU_CFG_REC_EN : Field := ⟨0x88, 0x40, 31, 1, .rw, 0x0⟩
def CMU_CMU_CFG_PORT : Field := ⟨0x88, 0x40, 28, 1, .rw, 0x0⟩
def CMU_CMU_CFG_QUEUE : Field := ⟨0x88, 0x40, 24, 3, .rw, 0x0⟩
def CMU_CMU_CFG_MIN_MEMB : Field := ⟨0x88, 0x40, 8, 5, .rw, 0x2⟩
def CMU_CMU_CFG_BAL_SRC : Field := ⟨0x88, 0x40, 1, 1, .rw, 0x0⟩
def CMU_CMU_CFG_BAL_MODE : Field := ⟨0x88, 0x40, 0, 1, .rw, 0x0⟩
def CMU_CMU_STAT_CLOSE_Q : Field := ⟨0x88, 0x44, 16, 8, .ro, 0x0⟩
def CMU_CMU_STAT_ACTIVE : Field := ⟨0x88, 0x44, 8, 8, .ro, 0x0⟩
def CMU_IMEP_TGT_TGT : Field := ⟨0x88, 0x48, 0, 32, .rw, 0x0⟩
def CMU_GROUP_MEAN_MEAN : Field := ⟨0x88, 0x4c, 0, 32, .ro, 0x0⟩
def CMU_LOOP_CTRL_FRZ_A : Field := ⟨0x88, 0x50, 1, 1, .rw, 0x0⟩
def CMU_LOOP_CTRL_FRZ_Q : Field := ⟨0x88, 0x50, 0, 1, .rw, 0x0⟩
def CMU_MAP_SRC_EN : Field := ⟨0x88, 0x54, 31, 1, .rwl, 0x0⟩
def CMU_MAP_SRC_ENT : Field := ⟨0x88, 0x54, 12, 4, .rwl, 0x0⟩
def CMU_MAP_SRC_CBC : Field := ⟨0x88, 0x54, 0, 5, .rwl, 0x0⟩
def CMU_MAP_ZERO_ZERO : Field := ⟨0x88, 0x58, 0, 24, .rwl, 0x0⟩
def CMU_MAP_SCALE_SCALE : Field := ⟨0x88, 0x5c, 0, 32, .rwl, 0x0⟩
def CMU_VD_VD : Field := ⟨0x88, 0x60, 0, 32, .rwl, 0x0⟩
def CMU_VOL_CTRL_COMMIT : Field := ⟨0x88, 0x64, 31, 1, .wo, 0x0⟩
def CMU_VOL_CTRL_IDX : Field := ⟨0x88, 0x64, 0, 11, .rw, 0x0⟩
def CMU_VOL_DATA_VOL : Field := ⟨0x88, 0x68, 0, 32, .rw, 0x0⟩
def CMU_VOL_STAT_VALID : Field := ⟨0x88, 0x6c, 31, 1, .ro, 0x0⟩
def CMU_VOL_STAT_PENDING : Field := ⟨0x88, 0x6c, 30, 1, .ro, 0x0⟩
def CMU_VOL_STAT_REFUSED : Field := ⟨0x88, 0x6c, 29, 1, .w1c, 0x0⟩
def CMU_VOL_STAT_REF_IDX : Field := ⟨0x88, 0x6c, 0, 11, .ro, 0x0⟩
def CMU_SBUF_SEL_CYL : Field := ⟨0x88, 0x70, 24, 5, .rw, 0x0⟩
def CMU_SBUF_SEL_IDX : Field := ⟨0x88, 0x70, 0, 11, .rw, 0x0⟩
def CMU_SBUF_DATA_CAUSE : Field := ⟨0x88, 0x74, 28, 4, .ro, 0x0⟩
def CMU_SBUF_DATA_RCVD : Field := ⟨0x88, 0x74, 27, 1, .ro, 0x0⟩
def CMU_SBUF_DATA_SETTLE : Field := ⟨0x88, 0x74, 25, 2, .ro, 0x0⟩
def CMU_SBUF_DATA_VALID : Field := ⟨0x88, 0x74, 24, 1, .ro, 0x0⟩
def CMU_SBUF_DATA_VALUE : Field := ⟨0x88, 0x74, 0, 24, .ro, 0x0⟩
def CMU_RC_CTRL_REQ : Field := ⟨0x88, 0x78, 31, 1, .wo, 0x0⟩
def CMU_RC_CTRL_CYL : Field := ⟨0x88, 0x78, 0, 5, .rw, 0x0⟩
def CMU_RC_STAT_RESULT : Field := ⟨0x88, 0x7c, 28, 4, .ro, 0x0⟩
def CMU_CNT_STRAY : Field := ⟨0x88, 0x80, 24, 8, .rc, 0x0⟩
def CMU_CNT_MARK_ERR : Field := ⟨0x88, 0x80, 16, 8, .rc, 0x0⟩
def CMU_CNT_RDY_LATE : Field := ⟨0x88, 0x80, 8, 8, .rc, 0x0⟩
def CMU_RDY_MAX_US : Field := ⟨0x88, 0x84, 0, 16, .rc, 0x0⟩

/-- The registers of a CMU page. -/
def cmuRows : List RegRow := [
  ⟨0x40, 1, 4, fun _ => [CMU_CMU_CFG_REC_EN, CMU_CMU_CFG_PORT, CMU_CMU_CFG_QUEUE, CMU_CMU_CFG_MIN_MEMB, CMU_CMU_CFG_BAL_SRC, CMU_CMU_CFG_BAL_MODE]⟩,
  ⟨0x44, 1, 4, fun _ => [CMU_CMU_STAT_CLOSE_Q, CMU_CMU_STAT_ACTIVE]⟩,
  ⟨0x48, 1, 4, fun _ => [CMU_IMEP_TGT_TGT]⟩,
  ⟨0x4c, 1, 4, fun _ => [CMU_GROUP_MEAN_MEAN]⟩,
  ⟨0x50, 1, 4, fun _ => [CMU_LOOP_CTRL_FRZ_A, CMU_LOOP_CTRL_FRZ_Q]⟩,
  ⟨0x54, 1, 4, fun _ => [CMU_MAP_SRC_EN, CMU_MAP_SRC_ENT, CMU_MAP_SRC_CBC]⟩,
  ⟨0x58, 1, 4, fun _ => [CMU_MAP_ZERO_ZERO]⟩,
  ⟨0x5c, 1, 4, fun _ => [CMU_MAP_SCALE_SCALE]⟩,
  ⟨0x60, 1, 4, fun _ => [CMU_VD_VD]⟩,
  ⟨0x64, 1, 4, fun _ => [CMU_VOL_CTRL_COMMIT, CMU_VOL_CTRL_IDX]⟩,
  ⟨0x68, 1, 4, fun _ => [CMU_VOL_DATA_VOL]⟩,
  ⟨0x6c, 1, 4, fun _ => [CMU_VOL_STAT_VALID, CMU_VOL_STAT_PENDING, CMU_VOL_STAT_REFUSED, CMU_VOL_STAT_REF_IDX]⟩,
  ⟨0x70, 1, 4, fun _ => [CMU_SBUF_SEL_CYL, CMU_SBUF_SEL_IDX]⟩,
  ⟨0x74, 1, 4, fun _ => [CMU_SBUF_DATA_CAUSE, CMU_SBUF_DATA_RCVD, CMU_SBUF_DATA_SETTLE, CMU_SBUF_DATA_VALID, CMU_SBUF_DATA_VALUE]⟩,
  ⟨0x78, 1, 4, fun _ => [CMU_RC_CTRL_REQ, CMU_RC_CTRL_CYL]⟩,
  ⟨0x7c, 1, 4, fun _ => [CMU_RC_STAT_RESULT]⟩,
  ⟨0x80, 1, 4, fun _ => [CMU_CNT_STRAY, CMU_CNT_MARK_ERR, CMU_CNT_RDY_LATE]⟩,
  ⟨0x84, 1, 4, fun _ => [CMU_RDY_MAX_US]⟩]

def CYL_CFG_KNK_EN (p : Nat) : Field := ⟨(0x90 + p), 0x40, 31, 1, .rws, 0x0⟩
def CYL_CFG_KNK_ENT (p : Nat) : Field := ⟨(0x90 + p), 0x40, 24, 4, .rws, 0x0⟩
def CYL_CFG_INV_MAX (p : Nat) : Field := ⟨(0x90 + p), 0x40, 20, 3, .rws, 0x0⟩
def CYL_CFG_PEG_HOLD (p : Nat) : Field := ⟨(0x90 + p), 0x40, 16, 4, .rws, 0x0⟩
def CYL_CFG_ENT (p : Nat) : Field := ⟨(0x90 + p), 0x40, 12, 4, .rws, 0x0⟩
def CYL_CFG_GRID (p : Nat) : Field := ⟨(0x90 + p), 0x40, 8, 3, .rws, 0x2⟩
def CYL_CFG_CBC (p : Nat) : Field := ⟨(0x90 + p), 0x40, 0, 5, .rws, 0x0⟩
def CYL_TDC_A_ANGLE (p : Nat) : Field := ⟨(0x90 + p), 0x44, 0, 24, .rws, 0x0⟩
def CYL_WIN_B0 (p : Nat) : Field := ⟨(0x90 + p), 0x48, 16, 16, .rws, 0x0⟩
def CYL_WIN_ANA_LO (p : Nat) : Field := ⟨(0x90 + p), 0x48, 0, 16, .rws, 0x0⟩
def CYL_HRW_HR_HI (p : Nat) : Field := ⟨(0x90 + p), 0x4c, 16, 16, .rws, 0x0⟩
def CYL_HRW_HR_LO (p : Nat) : Field := ⟨(0x90 + p), 0x4c, 0, 16, .rws, 0x0⟩
def CYL_GAMMA_GAMMA (p : Nat) : Field := ⟨(0x90 + p), 0x50, 0, 16, .rw, 0x547b⟩
def CYL_HR_MIN_MIN (p : Nat) : Field := ⟨(0x90 + p), 0x54, 0, 32, .rw, 0x0⟩
def CYL_SCALE_SCALE (p : Nat) : Field := ⟨(0x90 + p), 0x58, 0, 32, .rw, 0x0⟩
def CYL_KNK_LIM_LIM (p : Nat) : Field := ⟨(0x90 + p), 0x5c, 0, 24, .rw, 0xffffff⟩
def CYL_SOI_A_ANGLE (p : Nat) : Field := ⟨(0x90 + p), 0x60, 0, 24, .rw, 0x0⟩
def CYL_EOI_A_ANGLE (p : Nat) : Field := ⟨(0x90 + p), 0x64, 0, 24, .rw, 0x0⟩
def CYL_DST_A_CH (p : Nat) : Field := ⟨(0x90 + p), 0x68, 24, 8, .rws, 0xff⟩
def CYL_DST_A_WORD (p : Nat) : Field := ⟨(0x90 + p), 0x68, 16, 5, .rws, 0x0⟩
def CYL_DST_Q_CH (p : Nat) : Field := ⟨(0x90 + p), 0x68, 8, 8, .rws, 0xff⟩
def CYL_DST_Q_WORD (p : Nat) : Field := ⟨(0x90 + p), 0x68, 0, 5, .rws, 0x0⟩
def CYL_LOOP_EN_VETO (p : Nat) : Field := ⟨(0x90 + p), 0x6c, 2, 1, .rw, 0x0⟩
def CYL_LOOP_EN_EN_A (p : Nat) : Field := ⟨(0x90 + p), 0x6c, 1, 1, .rw, 0x0⟩
def CYL_LOOP_EN_EN_Q (p : Nat) : Field := ⟨(0x90 + p), 0x6c, 0, 1, .rw, 0x0⟩
def CYL_Q_GAIN_KP (p : Nat) : Field := ⟨(0x90 + p), 0x70, 16, 16, .rw, 0x0⟩
def CYL_Q_GAIN_KI (p : Nat) : Field := ⟨(0x90 + p), 0x70, 0, 16, .rw, 0x0⟩
def CYL_Q_LIM_STEP (p : Nat) : Field := ⟨(0x90 + p), 0x74, 16, 16, .rw, 0x400⟩
def CYL_Q_LIM_LIM (p : Nat) : Field := ⟨(0x90 + p), 0x74, 0, 16, .rw, 0x2000⟩
def CYL_A_GAIN_KP (p : Nat) : Field := ⟨(0x90 + p), 0x78, 16, 16, .rw, 0x0⟩
def CYL_A_GAIN_KI (p : Nat) : Field := ⟨(0x90 + p), 0x78, 0, 16, .rw, 0x0⟩
def CYL_A_LIM_LIM (p : Nat) : Field := ⟨(0x90 + p), 0x7c, 0, 24, .rw, 0x16c17⟩
def CYL_A_STEP_STEP (p : Nat) : Field := ⟨(0x90 + p), 0x80, 0, 24, .rw, 0x2d83⟩
def CYL_MFB_TGT_TGT (p : Nat) : Field := ⟨(0x90 + p), 0x84, 0, 24, .rw, 0x2d82e⟩
def CYL_STATUS_CYC (p : Nat) : Field := ⟨(0x90 + p), 0x100, 16, 16, .ro, 0x0⟩
def CYL_STATUS_RESULT_LATE (p : Nat) : Field := ⟨(0x90 + p), 0x100, 15, 1, .ro, 0x0⟩
def CYL_STATUS_REBASE_A (p : Nat) : Field := ⟨(0x90 + p), 0x100, 14, 1, .ro, 0x0⟩
def CYL_STATUS_REBASE_Q (p : Nat) : Field := ⟨(0x90 + p), 0x100, 13, 1, .ro, 0x0⟩
def CYL_STATUS_PEG_OLD (p : Nat) : Field := ⟨(0x90 + p), 0x100, 12, 1, .ro, 0x0⟩
def CYL_STATUS_MISFIRE (p : Nat) : Field := ⟨(0x90 + p), 0x100, 11, 1, .ro, 0x0⟩
def CYL_STATUS_INCOMPLETE (p : Nat) : Field := ⟨(0x90 + p), 0x100, 10, 1, .ro, 0x0⟩
def CYL_STATUS_KNK_OVER (p : Nat) : Field := ⟨(0x90 + p), 0x100, 9, 1, .ro, 0x0⟩
def CYL_STATUS_VALID (p : Nat) : Field := ⟨(0x90 + p), 0x100, 0, 8, .ro, 0x0⟩
def CYL_IMEP_N_W (p : Nat) : Field := ⟨(0x90 + p), 0x104, 0, 32, .ro, 0x0⟩
def CYL_IMEP_G_W (p : Nat) : Field := ⟨(0x90 + p), 0x108, 0, 32, .ro, 0x0⟩
def CYL_PMAX_W (p : Nat) : Field := ⟨(0x90 + p), 0x10c, 0, 32, .ro, 0x0⟩
def CYL_PMAX_A_W (p : Nat) : Field := ⟨(0x90 + p), 0x110, 0, 32, .ro, 0x0⟩
def CYL_MFB10_W (p : Nat) : Field := ⟨(0x90 + p), 0x114, 0, 32, .ro, 0x0⟩
def CYL_MFB50_W (p : Nat) : Field := ⟨(0x90 + p), 0x118, 0, 32, .ro, 0x0⟩
def CYL_MFB90_W (p : Nat) : Field := ⟨(0x90 + p), 0x11c, 0, 32, .ro, 0x0⟩
def CYL_DPMAX_W (p : Nat) : Field := ⟨(0x90 + p), 0x120, 0, 32, .ro, 0x0⟩
def CYL_KNOCK_W (p : Nat) : Field := ⟨(0x90 + p), 0x124, 0, 32, .ro, 0x0⟩
def CYL_HR_TOT_W (p : Nat) : Field := ⟨(0x90 + p), 0x128, 0, 32, .ro, 0x0⟩
def CYL_PEG_OFS_W (p : Nat) : Field := ⟨(0x90 + p), 0x12c, 0, 32, .ro, 0x0⟩
def CYL_REC_INFO_READY_T (p : Nat) : Field := ⟨(0x90 + p), 0x130, 16, 16, .ro, 0x0⟩
def CYL_REC_INFO_PEG_N (p : Nat) : Field := ⟨(0x90 + p), 0x130, 8, 8, .ro, 0x0⟩
def CYL_REC_INFO_INV_CNT (p : Nat) : Field := ⟨(0x90 + p), 0x130, 0, 8, .ro, 0x0⟩
def CYL_Q_ERR_W (p : Nat) : Field := ⟨(0x90 + p), 0x140, 0, 32, .ro, 0x0⟩
def CYL_Q_P_W (p : Nat) : Field := ⟨(0x90 + p), 0x144, 0, 32, .ro, 0x0⟩
def CYL_Q_I_W (p : Nat) : Field := ⟨(0x90 + p), 0x148, 0, 32, .ro, 0x0⟩
def CYL_Q_OUT_W (p : Nat) : Field := ⟨(0x90 + p), 0x14c, 0, 32, .ro, 0x0⟩
def CYL_Q_LAST_W (p : Nat) : Field := ⟨(0x90 + p), 0x150, 0, 32, .ro, 0x0⟩
def CYL_A_ERR_W (p : Nat) : Field := ⟨(0x90 + p), 0x154, 0, 32, .ro, 0x0⟩
def CYL_A_P_W (p : Nat) : Field := ⟨(0x90 + p), 0x158, 0, 32, .ro, 0x0⟩
def CYL_A_I_W (p : Nat) : Field := ⟨(0x90 + p), 0x15c, 0, 32, .ro, 0x0⟩
def CYL_A_OUT_W (p : Nat) : Field := ⟨(0x90 + p), 0x160, 0, 32, .ro, 0x0⟩
def CYL_A_LAST_W (p : Nat) : Field := ⟨(0x90 + p), 0x164, 0, 32, .ro, 0x0⟩
def CYL_LOOP_CNT_REBASE (p : Nat) : Field := ⟨(0x90 + p), 0x168, 24, 8, .rc, 0x0⟩
def CYL_LOOP_CNT_LATE (p : Nat) : Field := ⟨(0x90 + p), 0x168, 16, 8, .rc, 0x0⟩
def CYL_LOOP_CNT_CLAMP (p : Nat) : Field := ⟨(0x90 + p), 0x168, 8, 8, .rc, 0x0⟩
def CYL_LOOP_CNT_DROP (p : Nat) : Field := ⟨(0x90 + p), 0x168, 0, 8, .rc, 0x0⟩

/-- The registers of a CYL page. -/
def cylRows (p : Nat) : List RegRow := [
  ⟨0x40, 1, 4, fun _ => [CYL_CFG_KNK_EN p, CYL_CFG_KNK_ENT p, CYL_CFG_INV_MAX p, CYL_CFG_PEG_HOLD p, CYL_CFG_ENT p, CYL_CFG_GRID p, CYL_CFG_CBC p]⟩,
  ⟨0x44, 1, 4, fun _ => [CYL_TDC_A_ANGLE p]⟩,
  ⟨0x48, 1, 4, fun _ => [CYL_WIN_B0 p, CYL_WIN_ANA_LO p]⟩,
  ⟨0x4c, 1, 4, fun _ => [CYL_HRW_HR_HI p, CYL_HRW_HR_LO p]⟩,
  ⟨0x50, 1, 4, fun _ => [CYL_GAMMA_GAMMA p]⟩,
  ⟨0x54, 1, 4, fun _ => [CYL_HR_MIN_MIN p]⟩,
  ⟨0x58, 1, 4, fun _ => [CYL_SCALE_SCALE p]⟩,
  ⟨0x5c, 1, 4, fun _ => [CYL_KNK_LIM_LIM p]⟩,
  ⟨0x60, 1, 4, fun _ => [CYL_SOI_A_ANGLE p]⟩,
  ⟨0x64, 1, 4, fun _ => [CYL_EOI_A_ANGLE p]⟩,
  ⟨0x68, 1, 4, fun _ => [CYL_DST_A_CH p, CYL_DST_A_WORD p, CYL_DST_Q_CH p, CYL_DST_Q_WORD p]⟩,
  ⟨0x6c, 1, 4, fun _ => [CYL_LOOP_EN_VETO p, CYL_LOOP_EN_EN_A p, CYL_LOOP_EN_EN_Q p]⟩,
  ⟨0x70, 1, 4, fun _ => [CYL_Q_GAIN_KP p, CYL_Q_GAIN_KI p]⟩,
  ⟨0x74, 1, 4, fun _ => [CYL_Q_LIM_STEP p, CYL_Q_LIM_LIM p]⟩,
  ⟨0x78, 1, 4, fun _ => [CYL_A_GAIN_KP p, CYL_A_GAIN_KI p]⟩,
  ⟨0x7c, 1, 4, fun _ => [CYL_A_LIM_LIM p]⟩,
  ⟨0x80, 1, 4, fun _ => [CYL_A_STEP_STEP p]⟩,
  ⟨0x84, 1, 4, fun _ => [CYL_MFB_TGT_TGT p]⟩,
  ⟨0x100, 1, 4, fun _ => [CYL_STATUS_CYC p, CYL_STATUS_RESULT_LATE p, CYL_STATUS_REBASE_A p, CYL_STATUS_REBASE_Q p, CYL_STATUS_PEG_OLD p, CYL_STATUS_MISFIRE p, CYL_STATUS_INCOMPLETE p, CYL_STATUS_KNK_OVER p, CYL_STATUS_VALID p]⟩,
  ⟨0x104, 1, 4, fun _ => [CYL_IMEP_N_W p]⟩,
  ⟨0x108, 1, 4, fun _ => [CYL_IMEP_G_W p]⟩,
  ⟨0x10c, 1, 4, fun _ => [CYL_PMAX_W p]⟩,
  ⟨0x110, 1, 4, fun _ => [CYL_PMAX_A_W p]⟩,
  ⟨0x114, 1, 4, fun _ => [CYL_MFB10_W p]⟩,
  ⟨0x118, 1, 4, fun _ => [CYL_MFB50_W p]⟩,
  ⟨0x11c, 1, 4, fun _ => [CYL_MFB90_W p]⟩,
  ⟨0x120, 1, 4, fun _ => [CYL_DPMAX_W p]⟩,
  ⟨0x124, 1, 4, fun _ => [CYL_KNOCK_W p]⟩,
  ⟨0x128, 1, 4, fun _ => [CYL_HR_TOT_W p]⟩,
  ⟨0x12c, 1, 4, fun _ => [CYL_PEG_OFS_W p]⟩,
  ⟨0x130, 1, 4, fun _ => [CYL_REC_INFO_READY_T p, CYL_REC_INFO_PEG_N p, CYL_REC_INFO_INV_CNT p]⟩,
  ⟨0x140, 1, 4, fun _ => [CYL_Q_ERR_W p]⟩,
  ⟨0x144, 1, 4, fun _ => [CYL_Q_P_W p]⟩,
  ⟨0x148, 1, 4, fun _ => [CYL_Q_I_W p]⟩,
  ⟨0x14c, 1, 4, fun _ => [CYL_Q_OUT_W p]⟩,
  ⟨0x150, 1, 4, fun _ => [CYL_Q_LAST_W p]⟩,
  ⟨0x154, 1, 4, fun _ => [CYL_A_ERR_W p]⟩,
  ⟨0x158, 1, 4, fun _ => [CYL_A_P_W p]⟩,
  ⟨0x15c, 1, 4, fun _ => [CYL_A_I_W p]⟩,
  ⟨0x160, 1, 4, fun _ => [CYL_A_OUT_W p]⟩,
  ⟨0x164, 1, 4, fun _ => [CYL_A_LAST_W p]⟩,
  ⟨0x168, 1, 4, fun _ => [CYL_LOOP_CNT_REBASE p, CYL_LOOP_CNT_LATE p, CYL_LOOP_CNT_CLAMP p, CYL_LOOP_CNT_DROP p]⟩]

def TB_TB_LO_T : Field := ⟨0xb0, 0x40, 0, 32, .ro, 0x0⟩
def TB_TB_HI_T : Field := ⟨0xb0, 0x44, 0, 32, .ro, 0x0⟩
def TB_TB_STAT_ALM_ARMED : Field := ⟨0xb0, 0x48, 1, 1, .ro, 0x0⟩
def TB_TB_STAT_LFMODE : Field := ⟨0xb0, 0x48, 0, 1, .ro, 0x0⟩
def TB_ALM_LO_T : Field := ⟨0xb0, 0x4c, 0, 32, .rw, 0x0⟩
def TB_ALM_HI_T : Field := ⟨0xb0, 0x50, 0, 32, .rw, 0x0⟩
def TB_LF_CNT_COUNT : Field := ⟨0xb0, 0x54, 0, 32, .ro, 0x0⟩

/-- The registers of a TB page. -/
def tbRows : List RegRow := [
  ⟨0x40, 1, 4, fun _ => [TB_TB_LO_T]⟩,
  ⟨0x44, 1, 4, fun _ => [TB_TB_HI_T]⟩,
  ⟨0x48, 1, 4, fun _ => [TB_TB_STAT_ALM_ARMED, TB_TB_STAT_LFMODE]⟩,
  ⟨0x4c, 1, 4, fun _ => [TB_ALM_LO_T]⟩,
  ⟨0x50, 1, 4, fun _ => [TB_ALM_HI_T]⟩,
  ⟨0x54, 1, 4, fun _ => [TB_LF_CNT_COUNT]⟩]

def GPT_CHAIN_PAIR : Field := ⟨0xb1, 0x40, 0, 8, .rws, 0x0⟩
def GPT_SNAP_TB : Field := ⟨0xb1, 0x44, 16, 1, .wo, 0x0⟩
def GPT_SNAP_SEL : Field := ⟨0xb1, 0x44, 0, 16, .wo, 0x0⟩
def GPT_SNAP_TB_LO_T : Field := ⟨0xb1, 0x48, 0, 32, .ro, 0x0⟩
def GPT_SNAP_TB_HI_T : Field := ⟨0xb1, 0x4c, 0, 32, .ro, 0x0⟩
def GPT_PAIR_CNT_LO_COUNT (i : Nat) : Field := ⟨0xb1, (0x80 + 0x8 * i), 0, 32, .ro, 0x0⟩
def GPT_PAIR_CNT_HI_COUNT (i : Nat) : Field := ⟨0xb1, (0x84 + 0x8 * i), 0, 32, .ro, 0x0⟩
def GPT_SNAP_CNT_COUNT (i : Nat) : Field := ⟨0xb1, (0xc0 + 0x4 * i), 0, 32, .ro, 0x0⟩
def GPT_PAIR_CMP_LO_CMP (i : Nat) : Field := ⟨0xb1, (0x300 + 0x8 * i), 0, 32, .rw, 0x0⟩
def GPT_PAIR_CMP_HI_CMP (i : Nat) : Field := ⟨0xb1, (0x304 + 0x8 * i), 0, 32, .rw, 0x0⟩
def GPT_GPT_CFG_EN (i : Nat) : Field := ⟨0xb1, (0x100 + 0x20 * i), 31, 1, .rw, 0x0⟩
def GPT_GPT_CFG_LF_RUN (i : Nat) : Field := ⟨0xb1, (0x100 + 0x20 * i), 30, 1, .rws, 0x0⟩
def GPT_GPT_CFG_SMODE (i : Nat) : Field := ⟨0xb1, (0x100 + 0x20 * i), 28, 2, .rws, 0x0⟩
def GPT_GPT_CFG_TSRC (i : Nat) : Field := ⟨0xb1, (0x100 + 0x20 * i), 27, 1, .rws, 0x0⟩
def GPT_GPT_CFG_MSTR (i : Nat) : Field := ⟨0xb1, (0x100 + 0x20 * i), 23, 4, .rws, 0x0⟩
def GPT_GPT_CFG_CAP_SRC (i : Nat) : Field := ⟨0xb1, (0x100 + 0x20 * i), 20, 3, .rws, 0x0⟩
def GPT_GPT_CFG_CAP_TI (i : Nat) : Field := ⟨0xb1, (0x100 + 0x20 * i), 15, 5, .rws, 0x0⟩
def GPT_GPT_CFG_RSRC (i : Nat) : Field := ⟨0xb1, (0x100 + 0x20 * i), 10, 2, .rw, 0x0⟩
def GPT_GPT_CFG_IRQ (i : Nat) : Field := ⟨0xb1, (0x100 + 0x20 * i), 4, 4, .rw, 0x0⟩
def GPT_PRE_PRE (i : Nat) : Field := ⟨0xb1, (0x104 + 0x20 * i), 0, 16, .rws, 0x0⟩
def GPT_TOP_TOP (i : Nat) : Field := ⟨0xb1, (0x108 + 0x20 * i), 0, 32, .rws, 0xffffffff⟩
def GPT_COUNT_COUNT (i : Nat) : Field := ⟨0xb1, (0x10c + 0x20 * i), 0, 32, .rws, 0x0⟩
def GPT_CMP_CMP (i : Nat) : Field := ⟨0xb1, (0x110 + 0x20 * i), 0, 32, .rw, 0x0⟩
def GPT_CMP_MODE_FORCE_IF_PASSED (i : Nat) : Field := ⟨0xb1, (0x114 + 0x20 * i), 31, 1, .rw, 0x0⟩
def GPT_CMP_MODE_ONESHOT (i : Nat) : Field := ⟨0xb1, (0x114 + 0x20 * i), 30, 1, .rw, 0x0⟩
def GPT_CMP_MODE_ARMED (i : Nat) : Field := ⟨0xb1, (0x114 + 0x20 * i), 0, 1, .ro, 0x0⟩
def GPT_STAT_QOVF (i : Nat) : Field := ⟨0xb1, (0x118 + 0x20 * i), 16, 8, .rc, 0x0⟩
def GPT_STAT_OUTL (i : Nat) : Field := ⟨0xb1, (0x118 + 0x20 * i), 7, 1, .ro, 0x0⟩
def GPT_STAT_QLVL (i : Nat) : Field := ⟨0xb1, (0x118 + 0x20 * i), 4, 3, .ro, 0x0⟩
def GPT_STAT_CAPOVF (i : Nat) : Field := ⟨0xb1, (0x118 + 0x20 * i), 3, 1, .w1c, 0x0⟩
def GPT_STAT_CAP (i : Nat) : Field := ⟨0xb1, (0x118 + 0x20 * i), 2, 1, .ro, 0x0⟩
def GPT_STAT_OVF (i : Nat) : Field := ⟨0xb1, (0x118 + 0x20 * i), 1, 1, .w1c, 0x0⟩
def GPT_STAT_MATCH (i : Nat) : Field := ⟨0xb1, (0x118 + 0x20 * i), 0, 1, .w1c, 0x0⟩
def GPT_CAPQ_COUNT (i : Nat) : Field := ⟨0xb1, (0x11c + 0x20 * i), 0, 32, .rc, 0x0⟩

/-- The registers of a GPT page. -/
def gptRows : List RegRow := [
  ⟨0x40, 1, 4, fun _ => [GPT_CHAIN_PAIR]⟩,
  ⟨0x44, 1, 4, fun _ => [GPT_SNAP_TB, GPT_SNAP_SEL]⟩,
  ⟨0x48, 1, 4, fun _ => [GPT_SNAP_TB_LO_T]⟩,
  ⟨0x4c, 1, 4, fun _ => [GPT_SNAP_TB_HI_T]⟩,
  ⟨0x80, 8, 0x8, fun i => [GPT_PAIR_CNT_LO_COUNT i]⟩,
  ⟨0x84, 8, 0x8, fun i => [GPT_PAIR_CNT_HI_COUNT i]⟩,
  ⟨0xc0, 16, 0x4, fun i => [GPT_SNAP_CNT_COUNT i]⟩,
  ⟨0x300, 8, 0x8, fun i => [GPT_PAIR_CMP_LO_CMP i]⟩,
  ⟨0x304, 8, 0x8, fun i => [GPT_PAIR_CMP_HI_CMP i]⟩,
  ⟨0x100, 16, 0x20, fun i => [GPT_GPT_CFG_EN i, GPT_GPT_CFG_LF_RUN i, GPT_GPT_CFG_SMODE i, GPT_GPT_CFG_TSRC i, GPT_GPT_CFG_MSTR i, GPT_GPT_CFG_CAP_SRC i, GPT_GPT_CFG_CAP_TI i, GPT_GPT_CFG_RSRC i, GPT_GPT_CFG_IRQ i]⟩,
  ⟨0x104, 16, 0x20, fun i => [GPT_PRE_PRE i]⟩,
  ⟨0x108, 16, 0x20, fun i => [GPT_TOP_TOP i]⟩,
  ⟨0x10c, 16, 0x20, fun i => [GPT_COUNT_COUNT i]⟩,
  ⟨0x110, 16, 0x20, fun i => [GPT_CMP_CMP i]⟩,
  ⟨0x114, 16, 0x20, fun i => [GPT_CMP_MODE_FORCE_IF_PASSED i, GPT_CMP_MODE_ONESHOT i, GPT_CMP_MODE_ARMED i]⟩,
  ⟨0x118, 16, 0x20, fun i => [GPT_STAT_QOVF i, GPT_STAT_OUTL i, GPT_STAT_QLVL i, GPT_STAT_CAPOVF i, GPT_STAT_CAP i, GPT_STAT_OVF i, GPT_STAT_MATCH i]⟩,
  ⟨0x11c, 16, 0x20, fun i => [GPT_CAPQ_COUNT i]⟩]

def DMA_DMA_CFG_RETRY_MAX : Field := ⟨0xb8, 0x40, 0, 4, .rw, 0x3⟩
def DMA_DMA_STAT_PFB_ERR : Field := ⟨0xb8, 0x44, 31, 1, .w1c, 0x0⟩
def DMA_DMA_STAT_BUSY_N : Field := ⟨0xb8, 0x44, 0, 6, .ro, 0x0⟩
def DMA_FENCE_BUSY : Field := ⟨0xb8, 0x48, 31, 1, .ro, 0x0⟩
def DMA_FENCE_GO : Field := ⟨0xb8, 0x48, 8, 1, .wo, 0x0⟩
def DMA_FENCE_CH : Field := ⟨0xb8, 0x48, 0, 5, .rw, 0x0⟩
def DMA_CNT_OVERSHOOT : Field := ⟨0xb8, 0x4c, 16, 16, .rc, 0x0⟩
def DMA_CNT_RETRY : Field := ⟨0xb8, 0x4c, 0, 16, .rc, 0x0⟩
def DMA_CH_CFG_PRIO (i : Nat) : Field := ⟨0xb8, (0x100 + 0x20 * i), 30, 2, .rws, 0x0⟩
def DMA_CH_CFG_BURST (i : Nat) : Field := ⟨0xb8, (0x100 + 0x20 * i), 26, 4, .rws, 0x0⟩
def DMA_CH_CFG_SRC_INC (i : Nat) : Field := ⟨0xb8, (0x100 + 0x20 * i), 25, 1, .rws, 0x1⟩
def DMA_CH_CFG_DST_INC (i : Nat) : Field := ⟨0xb8, (0x100 + 0x20 * i), 24, 1, .rws, 0x1⟩
def DMA_CH_CFG_SWAP (i : Nat) : Field := ⟨0xb8, (0x100 + 0x20 * i), 22, 2, .rws, 0x0⟩
def DMA_CH_CFG_ACK_DONE (i : Nat) : Field := ⟨0xb8, (0x100 + 0x20 * i), 21, 1, .rws, 0x0⟩
def DMA_CH_CFG_IRQ_DONE (i : Nat) : Field := ⟨0xb8, (0x100 + 0x20 * i), 20, 1, .rws, 0x0⟩
def DMA_CH_CFG_IRQ_ERR (i : Nat) : Field := ⟨0xb8, (0x100 + 0x20 * i), 19, 1, .rws, 0x0⟩
def DMA_CH_CFG_IRQ_DESC (i : Nat) : Field := ⟨0xb8, (0x100 + 0x20 * i), 18, 1, .rws, 0x0⟩
def DMA_CH_CFG_HOP_LIM (i : Nat) : Field := ⟨0xb8, (0x100 + 0x20 * i), 8, 8, .rws, 0x10⟩
def DMA_CH_TRIG_KIND (i : Nat) : Field := ⟨0xb8, (0x104 + 0x20 * i), 30, 2, .rws, 0x0⟩
def DMA_CH_TRIG_XFER (i : Nat) : Field := ⟨0xb8, (0x104 + 0x20 * i), 29, 1, .rws, 0x0⟩
def DMA_CH_TRIG_SEL (i : Nat) : Field := ⟨0xb8, (0x104 + 0x20 * i), 0, 7, .rws, 0x0⟩
def DMA_CH_SRC_ADDR (i : Nat) : Field := ⟨0xb8, (0x108 + 0x20 * i), 0, 32, .rws, 0x0⟩
def DMA_CH_DST_ADDR (i : Nat) : Field := ⟨0xb8, (0x10c + 0x20 * i), 0, 32, .rws, 0x0⟩
def DMA_CH_COUNT_BYTES (i : Nat) : Field := ⟨0xb8, (0x110 + 0x20 * i), 0, 18, .rws, 0x0⟩
def DMA_CH_DESC_ADDR (i : Nat) : Field := ⟨0xb8, (0x114 + 0x20 * i), 4, 28, .rws, 0x0⟩
def DMA_CH_CTRL_STOP (i : Nat) : Field := ⟨0xb8, (0x118 + 0x20 * i), 1, 1, .wo, 0x0⟩
def DMA_CH_CTRL_START (i : Nat) : Field := ⟨0xb8, (0x118 + 0x20 * i), 0, 1, .wo, 0x0⟩
def DMA_CH_STAT_STATE (i : Nat) : Field := ⟨0xb8, (0x11c + 0x20 * i), 28, 4, .ro, 0x0⟩
def DMA_CH_STAT_OWNER (i : Nat) : Field := ⟨0xb8, (0x11c + 0x20 * i), 24, 4, .ro, 0x0⟩
def DMA_CH_STAT_CAUSE (i : Nat) : Field := ⟨0xb8, (0x11c + 0x20 * i), 20, 4, .ro, 0x0⟩
def DMA_CH_STAT_CODE (i : Nat) : Field := ⟨0xb8, (0x11c + 0x20 * i), 16, 4, .ro, 0x0⟩
def DMA_CH_STAT_HOPS (i : Nat) : Field := ⟨0xb8, (0x11c + 0x20 * i), 8, 8, .ro, 0x0⟩
def DMA_CH_STAT_OVERSHOOT (i : Nat) : Field := ⟨0xb8, (0x11c + 0x20 * i), 7, 1, .w1c, 0x0⟩
def DMA_CH_STAT_TRIG_OVR (i : Nat) : Field := ⟨0xb8, (0x11c + 0x20 * i), 6, 1, .w1c, 0x0⟩
def DMA_CH_STAT_DESC_END (i : Nat) : Field := ⟨0xb8, (0x11c + 0x20 * i), 5, 1, .w1c, 0x0⟩
def DMA_CH_STAT_DONE (i : Nat) : Field := ⟨0xb8, (0x11c + 0x20 * i), 4, 1, .w1c, 0x0⟩
def DMA_CH_STAT_LOST (i : Nat) : Field := ⟨0xb8, (0x11c + 0x20 * i), 0, 4, .ro, 0x0⟩

/-- The registers of a DMA page. -/
def dmaRows : List RegRow := [
  ⟨0x40, 1, 4, fun _ => [DMA_DMA_CFG_RETRY_MAX]⟩,
  ⟨0x44, 1, 4, fun _ => [DMA_DMA_STAT_PFB_ERR, DMA_DMA_STAT_BUSY_N]⟩,
  ⟨0x48, 1, 4, fun _ => [DMA_FENCE_BUSY, DMA_FENCE_GO, DMA_FENCE_CH]⟩,
  ⟨0x4c, 1, 4, fun _ => [DMA_CNT_OVERSHOOT, DMA_CNT_RETRY]⟩,
  ⟨0x100, 32, 0x20, fun i => [DMA_CH_CFG_PRIO i, DMA_CH_CFG_BURST i, DMA_CH_CFG_SRC_INC i, DMA_CH_CFG_DST_INC i, DMA_CH_CFG_SWAP i, DMA_CH_CFG_ACK_DONE i, DMA_CH_CFG_IRQ_DONE i, DMA_CH_CFG_IRQ_ERR i, DMA_CH_CFG_IRQ_DESC i, DMA_CH_CFG_HOP_LIM i]⟩,
  ⟨0x104, 32, 0x20, fun i => [DMA_CH_TRIG_KIND i, DMA_CH_TRIG_XFER i, DMA_CH_TRIG_SEL i]⟩,
  ⟨0x108, 32, 0x20, fun i => [DMA_CH_SRC_ADDR i]⟩,
  ⟨0x10c, 32, 0x20, fun i => [DMA_CH_DST_ADDR i]⟩,
  ⟨0x110, 32, 0x20, fun i => [DMA_CH_COUNT_BYTES i]⟩,
  ⟨0x114, 32, 0x20, fun i => [DMA_CH_DESC_ADDR i]⟩,
  ⟨0x118, 32, 0x20, fun i => [DMA_CH_CTRL_STOP i, DMA_CH_CTRL_START i]⟩,
  ⟨0x11c, 32, 0x20, fun i => [DMA_CH_STAT_STATE i, DMA_CH_STAT_OWNER i, DMA_CH_STAT_CAUSE i, DMA_CH_STAT_CODE i, DMA_CH_STAT_HOPS i, DMA_CH_STAT_OVERSHOOT i, DMA_CH_STAT_TRIG_OVR i, DMA_CH_STAT_DESC_END i, DMA_CH_STAT_DONE i, DMA_CH_STAT_LOST i]⟩]

def PIO_ENG_CFG_TRIG_SLOTS (p : Nat) : Field := ⟨(0xc0 + p), 0x40, 0, 8, .rw, 0x0⟩
def PIO_ENG_STAT_PROG_REF (p : Nat) : Field := ⟨(0xc0 + p), 0x44, 16, 16, .rc, 0x0⟩
def PIO_ENG_STAT_IRQF (p : Nat) : Field := ⟨(0xc0 + p), 0x44, 8, 8, .ro, 0x0⟩
def PIO_ENG_STAT_PROG_BUSY (p : Nat) : Field := ⟨(0xc0 + p), 0x44, 2, 1, .w1c, 0x0⟩
def PIO_ENG_STAT_STATE (p : Nat) : Field := ⟨(0xc0 + p), 0x44, 0, 2, .ro, 0x0⟩
def PIO_ENG_CNT_POST_DROP (p : Nat) : Field := ⟨(0xc0 + p), 0x48, 8, 8, .rc, 0x0⟩
def PIO_ENG_CNT_ECC (p : Nat) : Field := ⟨(0xc0 + p), 0x48, 0, 8, .rc, 0x0⟩
def PIO_PIN_LVL_LVL (p : Nat) : Field := ⟨(0xc0 + p), 0x4c, 0, 16, .ro, 0x0⟩
def PIO_SLOT_CFG_EN (p i : Nat) : Field := ⟨(0xc0 + p), (0x100 + 0x20 * i), 31, 1, .rw, 0x0⟩
def PIO_SLOT_CFG_OUT_MSB (p i : Nat) : Field := ⟨(0xc0 + p), (0x100 + 0x20 * i), 27, 1, .rws, 0x0⟩
def PIO_SLOT_CFG_IN_MSB (p i : Nat) : Field := ⟨(0xc0 + p), (0x100 + 0x20 * i), 26, 1, .rws, 0x0⟩
def PIO_SLOT_CFG_DIR (p i : Nat) : Field := ⟨(0xc0 + p), (0x100 + 0x20 * i), 24, 2, .rws, 0x0⟩
def PIO_SLOT_CFG_IDLE (p i : Nat) : Field := ⟨(0xc0 + p), (0x100 + 0x20 * i), 22, 2, .rws, 0x0⟩
def PIO_SLOT_CFG_TX_SZ (p i : Nat) : Field := ⟨(0xc0 + p), (0x100 + 0x20 * i), 16, 5, .rw, 0x4⟩
def PIO_SLOT_CFG_RX_SZ (p i : Nat) : Field := ⟨(0xc0 + p), (0x100 + 0x20 * i), 8, 5, .rw, 0x4⟩
def PIO_SLOT_CFG_START (p i : Nat) : Field := ⟨(0xc0 + p), (0x100 + 0x20 * i), 0, 8, .rw, 0x0⟩
def PIO_SLOT_RATE_MODE (p i : Nat) : Field := ⟨(0xc0 + p), (0x104 + 0x20 * i), 31, 1, .rws, 0x0⟩
def PIO_SLOT_RATE_VALUE (p i : Nat) : Field := ⟨(0xc0 + p), (0x104 + 0x20 * i), 0, 24, .rws, 0x0⟩
def PIO_SLOT_STAT_PC (p i : Nat) : Field := ⟨(0xc0 + p), (0x108 + 0x20 * i), 24, 8, .ro, 0x0⟩
def PIO_SLOT_STAT_TX_LVL (p i : Nat) : Field := ⟨(0xc0 + p), (0x108 + 0x20 * i), 19, 5, .ro, 0x0⟩
def PIO_SLOT_STAT_RX_LVL (p i : Nat) : Field := ⟨(0xc0 + p), (0x108 + 0x20 * i), 14, 5, .ro, 0x0⟩
def PIO_SLOT_STAT_BC (p i : Nat) : Field := ⟨(0xc0 + p), (0x108 + 0x20 * i), 8, 6, .ro, 0x0⟩
def PIO_SLOT_STAT_DIR (p i : Nat) : Field := ⟨(0xc0 + p), (0x108 + 0x20 * i), 6, 2, .ro, 0x0⟩
def PIO_SLOT_STAT_CF (p i : Nat) : Field := ⟨(0xc0 + p), (0x108 + 0x20 * i), 4, 1, .ro, 0x0⟩
def PIO_SLOT_STAT_TRIG (p i : Nat) : Field := ⟨(0xc0 + p), (0x108 + 0x20 * i), 3, 1, .ro, 0x0⟩
def PIO_SLOT_STAT_STATE (p i : Nat) : Field := ⟨(0xc0 + p), (0x108 + 0x20 * i), 0, 3, .ro, 0x0⟩
def PIO_SLOT_CNT0_STALE (p i : Nat) : Field := ⟨(0xc0 + p), (0x10c + 0x20 * i), 16, 16, .rc, 0x0⟩
def PIO_SLOT_CNT0_DROP (p i : Nat) : Field := ⟨(0xc0 + p), (0x10c + 0x20 * i), 0, 16, .rc, 0x0⟩
def PIO_SLOT_CNT1_DISC_BITS (p i : Nat) : Field := ⟨(0xc0 + p), (0x110 + 0x20 * i), 16, 16, .rc, 0x0⟩
def PIO_SLOT_CNT1_TX_OVF (p i : Nat) : Field := ⟨(0xc0 + p), (0x110 + 0x20 * i), 8, 8, .rc, 0x0⟩
def PIO_SLOT_CNT1_RX_UNF (p i : Nat) : Field := ⟨(0xc0 + p), (0x110 + 0x20 * i), 0, 8, .rc, 0x0⟩
def PIO_TXQ_WORD (p i : Nat) : Field := ⟨(0xc0 + p), (0x114 + 0x20 * i), 0, 32, .wo, 0x0⟩
def PIO_RXQ_WORD (p i : Nat) : Field := ⟨(0xc0 + p), (0x118 + 0x20 * i), 0, 32, .rc, 0x0⟩
def PIO_SLOT_POST_EN (p i : Nat) : Field := ⟨(0xc0 + p), (0x11c + 0x20 * i), 31, 1, .rws, 0x0⟩
def PIO_SLOT_POST_LEN (p i : Nat) : Field := ⟨(0xc0 + p), (0x11c + 0x20 * i), 8, 4, .rws, 0x1⟩
def PIO_SLOT_POST_PORT (p i : Nat) : Field := ⟨(0xc0 + p), (0x11c + 0x20 * i), 4, 1, .rws, 0x0⟩
def PIO_SLOT_POST_QUEUE (p i : Nat) : Field := ⟨(0xc0 + p), (0x11c + 0x20 * i), 0, 3, .rws, 0x0⟩
def PIO_PROG_INSTR (p i : Nat) : Field := ⟨(0xc0 + p), (0x400 + 0x4 * i), 0, 16, .rw, 0x0⟩

/-- The registers of a PIO page. -/
def pioRows (p : Nat) : List RegRow := [
  ⟨0x40, 1, 4, fun _ => [PIO_ENG_CFG_TRIG_SLOTS p]⟩,
  ⟨0x44, 1, 4, fun _ => [PIO_ENG_STAT_PROG_REF p, PIO_ENG_STAT_IRQF p, PIO_ENG_STAT_PROG_BUSY p, PIO_ENG_STAT_STATE p]⟩,
  ⟨0x48, 1, 4, fun _ => [PIO_ENG_CNT_POST_DROP p, PIO_ENG_CNT_ECC p]⟩,
  ⟨0x4c, 1, 4, fun _ => [PIO_PIN_LVL_LVL p]⟩,
  ⟨0x100, 8, 0x20, fun i => [PIO_SLOT_CFG_EN p i, PIO_SLOT_CFG_OUT_MSB p i, PIO_SLOT_CFG_IN_MSB p i, PIO_SLOT_CFG_DIR p i, PIO_SLOT_CFG_IDLE p i, PIO_SLOT_CFG_TX_SZ p i, PIO_SLOT_CFG_RX_SZ p i, PIO_SLOT_CFG_START p i]⟩,
  ⟨0x104, 8, 0x20, fun i => [PIO_SLOT_RATE_MODE p i, PIO_SLOT_RATE_VALUE p i]⟩,
  ⟨0x108, 8, 0x20, fun i => [PIO_SLOT_STAT_PC p i, PIO_SLOT_STAT_TX_LVL p i, PIO_SLOT_STAT_RX_LVL p i, PIO_SLOT_STAT_BC p i, PIO_SLOT_STAT_DIR p i, PIO_SLOT_STAT_CF p i, PIO_SLOT_STAT_TRIG p i, PIO_SLOT_STAT_STATE p i]⟩,
  ⟨0x10c, 8, 0x20, fun i => [PIO_SLOT_CNT0_STALE p i, PIO_SLOT_CNT0_DROP p i]⟩,
  ⟨0x110, 8, 0x20, fun i => [PIO_SLOT_CNT1_DISC_BITS p i, PIO_SLOT_CNT1_TX_OVF p i, PIO_SLOT_CNT1_RX_UNF p i]⟩,
  ⟨0x114, 8, 0x20, fun i => [PIO_TXQ_WORD p i]⟩,
  ⟨0x118, 8, 0x20, fun i => [PIO_RXQ_WORD p i]⟩,
  ⟨0x11c, 8, 0x20, fun i => [PIO_SLOT_POST_EN p i, PIO_SLOT_POST_LEN p i, PIO_SLOT_POST_PORT p i, PIO_SLOT_POST_QUEUE p i]⟩,
  ⟨0x400, 256, 0x4, fun i => [PIO_PROG_INSTR p i]⟩]

def LINK_LINK_CFG_VER_MAX (p : Nat) : Field := ⟨(0xc8 + p), 0x40, 8, 8, .rws, 0x20⟩
def LINK_LINK_CFG_CAP (p : Nat) : Field := ⟨(0xc8 + p), 0x40, 0, 3, .rws, 0x7⟩
def LINK_LINK_STAT_PEER_ID (p : Nat) : Field := ⟨(0xc8 + p), 0x44, 30, 2, .ro, 0x0⟩
def LINK_LINK_STAT_PEER_MEN (p : Nat) : Field := ⟨(0xc8 + p), 0x44, 29, 1, .ro, 0x0⟩
def LINK_LINK_STAT_VER (p : Nat) : Field := ⟨(0xc8 + p), 0x44, 16, 8, .ro, 0x0⟩
def LINK_LINK_STAT_CAP (p : Nat) : Field := ⟨(0xc8 + p), 0x44, 8, 3, .ro, 0x0⟩
def LINK_LINK_STAT_FAIL_CODE (p : Nat) : Field := ⟨(0xc8 + p), 0x44, 4, 4, .ro, 0x0⟩
def LINK_LINK_STAT_LOCK (p : Nat) : Field := ⟨(0xc8 + p), 0x44, 3, 1, .ro, 0x0⟩
def LINK_LINK_STAT_STATE (p : Nat) : Field := ⟨(0xc8 + p), 0x44, 0, 3, .ro, 0x0⟩
def LINK_DELAY_SPREAD (p : Nat) : Field := ⟨(0xc8 + p), 0x48, 24, 8, .ro, 0x0⟩
def LINK_DELAY_DELAY (p : Nat) : Field := ⟨(0xc8 + p), 0x48, 0, 16, .ro, 0x0⟩
def LINK_ERR_CNT_CV (p : Nat) : Field := ⟨(0xc8 + p), 0x4c, 24, 8, .rc, 0x0⟩
def LINK_ERR_CNT_CRC (p : Nat) : Field := ⟨(0xc8 + p), 0x4c, 16, 8, .rc, 0x0⟩
def LINK_ERR_CNT_FORMAT (p : Nat) : Field := ⟨(0xc8 + p), 0x4c, 8, 8, .rc, 0x0⟩
def LINK_ERR_CNT_DOWN (p : Nat) : Field := ⟨(0xc8 + p), 0x4c, 0, 8, .rc, 0x0⟩
def LINK_TRAIN_CNT_RETRY (p : Nat) : Field := ⟨(0xc8 + p), 0x50, 0, 16, .rc, 0x0⟩
def LINK_FRM_CNT_RX (p : Nat) : Field := ⟨(0xc8 + p), 0x54, 16, 16, .rc, 0x0⟩
def LINK_FRM_CNT_TX (p : Nat) : Field := ⟨(0xc8 + p), 0x54, 0, 16, .rc, 0x0⟩

/-- The registers of a LINK page. -/
def linkRows (p : Nat) : List RegRow := [
  ⟨0x40, 1, 4, fun _ => [LINK_LINK_CFG_VER_MAX p, LINK_LINK_CFG_CAP p]⟩,
  ⟨0x44, 1, 4, fun _ => [LINK_LINK_STAT_PEER_ID p, LINK_LINK_STAT_PEER_MEN p, LINK_LINK_STAT_VER p, LINK_LINK_STAT_CAP p, LINK_LINK_STAT_FAIL_CODE p, LINK_LINK_STAT_LOCK p, LINK_LINK_STAT_STATE p]⟩,
  ⟨0x48, 1, 4, fun _ => [LINK_DELAY_SPREAD p, LINK_DELAY_DELAY p]⟩,
  ⟨0x4c, 1, 4, fun _ => [LINK_ERR_CNT_CV p, LINK_ERR_CNT_CRC p, LINK_ERR_CNT_FORMAT p, LINK_ERR_CNT_DOWN p]⟩,
  ⟨0x50, 1, 4, fun _ => [LINK_TRAIN_CNT_RETRY p]⟩,
  ⟨0x54, 1, 4, fun _ => [LINK_FRM_CNT_RX p, LINK_FRM_CNT_TX p]⟩]

def CASC_CASC_CFG_DIV_N : Field := ⟨0xcc, 0x40, 16, 4, .rws, 0x4⟩
def CASC_CASC_CFG_DUP_LINKS : Field := ⟨0xcc, 0x40, 12, 4, .rws, 0x3⟩
def CASC_CASC_CFG_DUP_EN : Field := ⟨0xcc, 0x40, 9, 1, .rws, 0x0⟩
def CASC_CASC_CFG_FMODE : Field := ⟨0xcc, 0x40, 8, 1, .rws, 0x0⟩
def CASC_DIV_LIM_LIM : Field := ⟨0xcc, 0x44, 0, 24, .rws, 0x91a⟩
def CASC_CASC_STAT_ID : Field := ⟨0xcc, 0x48, 30, 2, .ro, 0⟩
def CASC_CASC_STAT_MEN : Field := ⟨0xcc, 0x48, 29, 1, .ro, 0⟩
def CASC_CASC_STAT_ELIG : Field := ⟨0xcc, 0x48, 28, 1, .ro, 0x0⟩
def CASC_CASC_STAT_MASTER_V : Field := ⟨0xcc, 0x48, 27, 1, .ro, 0x0⟩
def CASC_CASC_STAT_MASTER : Field := ⟨0xcc, 0x48, 25, 2, .ro, 0x0⟩
def CASC_CASC_STAT_SUCC_V : Field := ⟨0xcc, 0x48, 24, 1, .ro, 0x0⟩
def CASC_CASC_STAT_SUCC : Field := ⟨0xcc, 0x48, 22, 2, .ro, 0x0⟩
def CASC_CASC_STAT_EPOCH : Field := ⟨0xcc, 0x48, 8, 8, .ro, 0x0⟩
def CASC_CASC_STAT_ROLE : Field := ⟨0xcc, 0x48, 0, 3, .ro, 0x0⟩
def CASC_F_STAT_SRC : Field := ⟨0xcc, 0x4c, 31, 1, .ro, 0x0⟩
def CASC_F_STAT_STATE : Field := ⟨0xcc, 0x4c, 24, 3, .ro, 0x0⟩
def CASC_F_STAT_ANGLE : Field := ⟨0xcc, 0x4c, 0, 24, .ro, 0x0⟩
def CASC_F_OFS_LO_OFS : Field := ⟨0xcc, 0x50, 0, 32, .ro, 0x0⟩
def CASC_F_OFS_HI_OFS : Field := ⟨0xcc, 0x54, 0, 32, .ro, 0x0⟩
def CASC_F_DIV_D : Field := ⟨0xcc, 0x58, 0, 32, .ro, 0x0⟩
def CASC_BCN_AGE_AGE : Field := ⟨0xcc, 0x5c, 0, 16, .ro, 0xffff⟩
def CASC_CNT0_BLOST : Field := ⟨0xcc, 0x60, 24, 8, .rc, 0x0⟩
def CASC_CNT0_DIVERGE : Field := ⟨0xcc, 0x60, 16, 8, .rc, 0x0⟩
def CASC_CNT0_CLAIM : Field := ⟨0xcc, 0x60, 8, 8, .rc, 0x0⟩
def CASC_CNT0_CYC_FIX : Field := ⟨0xcc, 0x60, 0, 8, .rc, 0x0⟩
def CASC_CNT1_MERGE : Field := ⟨0xcc, 0x64, 16, 16, .rc, 0x0⟩
def CASC_CNT1_BCAST : Field := ⟨0xcc, 0x64, 0, 16, .rc, 0x0⟩
def CASC_DUP_STAT_READY : Field := ⟨0xcc, 0x68, 31, 1, .ro, 0x0⟩
def CASC_DUP_STAT_BLOST : Field := ⟨0xcc, 0x68, 30, 1, .ro, 0x0⟩
def CASC_DUP_STAT_LAST_TO : Field := ⟨0xcc, 0x68, 0, 16, .ro, 0x0⟩
def CASC_BQ_VALID : Field := ⟨0xcc, 0x70, 31, 1, .rc, 0x0⟩
def CASC_BQ_ORIG : Field := ⟨0xcc, 0x70, 29, 2, .rc, 0x0⟩
def CASC_BQ_PARAM : Field := ⟨0xcc, 0x70, 0, 16, .rc, 0x0⟩
def CASC_BQ_STAT_OVF : Field := ⟨0xcc, 0x74, 8, 8, .rc, 0x0⟩
def CASC_BQ_STAT_LEVEL : Field := ⟨0xcc, 0x74, 0, 4, .ro, 0x0⟩

/-- The registers of a CASC page. -/
def cascRows : List RegRow := [
  ⟨0x40, 1, 4, fun _ => [CASC_CASC_CFG_DIV_N, CASC_CASC_CFG_DUP_LINKS, CASC_CASC_CFG_DUP_EN, CASC_CASC_CFG_FMODE]⟩,
  ⟨0x44, 1, 4, fun _ => [CASC_DIV_LIM_LIM]⟩,
  ⟨0x48, 1, 4, fun _ => [CASC_CASC_STAT_ID, CASC_CASC_STAT_MEN, CASC_CASC_STAT_ELIG, CASC_CASC_STAT_MASTER_V, CASC_CASC_STAT_MASTER, CASC_CASC_STAT_SUCC_V, CASC_CASC_STAT_SUCC, CASC_CASC_STAT_EPOCH, CASC_CASC_STAT_ROLE]⟩,
  ⟨0x4c, 1, 4, fun _ => [CASC_F_STAT_SRC, CASC_F_STAT_STATE, CASC_F_STAT_ANGLE]⟩,
  ⟨0x50, 1, 4, fun _ => [CASC_F_OFS_LO_OFS]⟩,
  ⟨0x54, 1, 4, fun _ => [CASC_F_OFS_HI_OFS]⟩,
  ⟨0x58, 1, 4, fun _ => [CASC_F_DIV_D]⟩,
  ⟨0x5c, 1, 4, fun _ => [CASC_BCN_AGE_AGE]⟩,
  ⟨0x60, 1, 4, fun _ => [CASC_CNT0_BLOST, CASC_CNT0_DIVERGE, CASC_CNT0_CLAIM, CASC_CNT0_CYC_FIX]⟩,
  ⟨0x64, 1, 4, fun _ => [CASC_CNT1_MERGE, CASC_CNT1_BCAST]⟩,
  ⟨0x68, 1, 4, fun _ => [CASC_DUP_STAT_READY, CASC_DUP_STAT_BLOST, CASC_DUP_STAT_LAST_TO]⟩,
  ⟨0x70, 1, 4, fun _ => [CASC_BQ_VALID, CASC_BQ_ORIG, CASC_BQ_PARAM]⟩,
  ⟨0x74, 1, 4, fun _ => [CASC_BQ_STAT_OVF, CASC_BQ_STAT_LEVEL]⟩]

end Reg

/-- The block kinds of R66. -/
inductive PageKind where
  | sys | clk | budg | sec | flt | maint | router | host | pos | trk | evt | tile | gel | out | bank | cbc | cmp | cmu | cyl | tb | gpt | dma | pio | link | casc
  deriving DecidableEq, Repr

/-- The page groups of R66: kind, first page, number of pages. -/
def pageGroups : List (PageKind × Nat × Nat) := [
  (.sys, 0x0, 1),
  (.clk, 0x1, 1),
  (.budg, 0x2, 1),
  (.sec, 0x3, 1),
  (.flt, 0x4, 1),
  (.maint, 0x5, 1),
  (.router, 0x6, 1),
  (.host, 0x8, 2),
  (.pos, 0x10, 8),
  (.trk, 0x18, 1),
  (.evt, 0x19, 1),
  (.tile, 0x20, 9),
  (.gel, 0x30, 4),
  (.out, 0x38, 1),
  (.bank, 0x40, 24),
  (.cbc, 0x60, 32),
  (.cmp, 0x80, 1),
  (.cmu, 0x88, 1),
  (.cyl, 0x90, 24),
  (.tb, 0xb0, 1),
  (.gpt, 0xb1, 1),
  (.dma, 0xb8, 1),
  (.pio, 0xc0, 4),
  (.link, 0xc8, 4),
  (.casc, 0xcc, 1)]

/-- The block of register page `p`, and its number within the page group (R66, R68). -/
def pageKind (p : Nat) : Option (PageKind × Nat) :=
  (pageGroups.find? fun g => g.2.1 ≤ p ∧ p < g.2.1 + g.2.2).map fun g => (g.1, p - g.2.1)

/-- PG_ID.TYPE: the lowest page number of the page's group (R68). -/
def pageType (p : Nat) : Nat :=
  match pageKind p with
  | some (_, i) => p - i
  | none => 0

/-- The block-specific registers of the pages of a kind. -/
def blockRows (k : PageKind) (i : Nat) : List RegRow :=
  match k with
  | .sys => Reg.sysRows
  | .clk => Reg.clkRows
  | .budg => Reg.budgRows
  | .sec => Reg.secRows
  | .flt => Reg.fltRows
  | .maint => Reg.maintRows
  | .router => Reg.routerRows
  | .host => Reg.hostRows i
  | .pos => Reg.posRows i
  | .trk => Reg.trkRows
  | .evt => Reg.evtRows
  | .tile => Reg.tileRows i
  | .gel => Reg.gelRows i
  | .out => Reg.outRows
  | .bank => Reg.bankRows i
  | .cbc => Reg.cbcRows i
  | .cmp => Reg.cmpRows
  | .cmu => Reg.cmuRows
  | .cyl => Reg.cylRows i
  | .tb => Reg.tbRows
  | .gpt => Reg.gptRows
  | .dma => Reg.dmaRows
  | .pio => Reg.pioRows i
  | .link => Reg.linkRows i
  | .casc => Reg.cascRows

/-- The row that holds offset `o`, with the index of the register in it. -/
def findRow (rows : List RegRow) (o : Nat) : Option (RegRow × Nat) :=
  match rows with
  | [] => none
  | r :: rest =>
    if r.base ≤ o ∧ (o - r.base) % r.stride = 0 ∧ (o - r.base) / r.stride < r.n then some (r, (o - r.base) / r.stride)
    else findRow rest o

/-- Offsets at which the spec has a word that reads 0 and holds no field (R258 offset 0x1C, chapter 10 offset 0x10C,
R67 offsets 030 to 03F). -/
def zeroWord (k : PageKind) (o : Nat) : Bool :=
  (0x30 ≤ o && o < 0x40) ||
  match k with
  | .tile => 0x100 ≤ o && o < 0x400 && o % 0x20 == 0x1C
  | .cbc => (0x100 ≤ o && o < 0x200 && o % 0x10 == 0xC) || (0xF0 ≤ o && o < 0x100)
  | _ => false

/-- Offsets that hold memory rather than fields: the channels' parameter words on a TILE page (R258). -/
def paramWord (k : PageKind) (o : Nat) : Bool :=
  k == .tile && 0x400 ≤ o && o < 0x1000

/-- The fields in the word at offset `o` of page `p`; `none` where no register occupies the offset (R62). -/
def fieldsAt (p o : Nat) : Option (List Field) :=
  match pageKind p with
  | none => none
  | some (k, i) =>
    if o % 4 ≠ 0 then none
    else if o < 0x40 then
      match findRow (Reg.hdrRows p) o with
      | some (r, j) => some (r.fields j)
      | none => some []
    else
      match findRow (blockRows k i) o with
      | some (r, j) => some (r.fields j)
      | none => if zeroWord k o || paramWord k o then some [] else none

/-- The offsets of the low halves of the values wider than 32 bits on the pages of a kind (R82). -/
def wideLows (k : PageKind) : List Nat :=
  match k with
  | .pos => [0x60]
  | .trk => [0x4c]
  | .tile => [0x48, 0x54, 0x60, 0x6c]
  | .tb => [0x40, 0x4c]
  | .gpt => [0x80, 0x88, 0x90, 0x98, 0xa0, 0xa8, 0xb0, 0xb8, 0x300, 0x308, 0x310, 0x318, 0x320, 0x328, 0x330, 0x338]
  | .casc => [0x50]
  | .flt => [0x48, 0x54, 0x60, 0x6c, 0x7c, 0x88]
  | _ => []

end Sys2Proof.Machine
end

