-- ==== Sys2Proof/Machine/Tab.lean ====
section
/-! DEFINITION. Sparse tables: a list of (key, value) pairs with keys strictly rising, in which no value equals what an
unlisted key reads as, so that equal tables are equal lists. Registers, memory bytes, channels, engines, ports and
banks are all held in this one form. -/

namespace Sys2Proof.Machine

/-- A sparse table keyed by numbers. -/
abbrev Tab (α : Type) := List (Nat × α)

variable {α : Type}

/-- The value at key `n`, `d` where the key is not listed. -/
def tget (d : α) : Tab α → Nat → α
  | [], _ => d
  | (k, v) :: r, n => if k = n then v else tget d r n

/-- The table without key `n`. -/
def tdrop : Tab α → Nat → Tab α
  | [], _ => []
  | (k, v) :: r, n => if k = n then tdrop r n else (k, v) :: tdrop r n

/-- The table with `v` at key `n`, in key order. -/
def tins : Tab α → Nat → α → Tab α
  | [], n, a => [(n, a)]
  | (k, v) :: r, n, a =>
    if n < k then (n, a) :: (k, v) :: r else if k = n then (n, a) :: r else (k, v) :: tins r n a

/-- The table with `v` at key `n`; writing what an unlisted key reads as removes the entry. -/
def tput [DecidableEq α] (d : α) (t : Tab α) (n : Nat) (v : α) : Tab α :=
  if v = d then tdrop t n else tins t n v

/-- The canonical form: keys strictly rising and no value equal to `d`. -/
def twf [DecidableEq α] (d : α) : Tab α → Bool
  | [] => true
  | [(_, v)] => decide (v ≠ d)
  | (k, v) :: (k', v') :: r => decide (v ≠ d) && decide (k < k') && twf d ((k', v') :: r)

/-- Keys strictly rising, whatever the values. -/
def trising : Tab α → Bool
  | [] => true
  | [_] => true
  | (k, _) :: (k', v') :: r => decide (k < k') && trising ((k', v') :: r)

end Sys2Proof.Machine
end

