-- ==== Sys2Proof/Machine/State.lean ====
section
/-! DEFINITION. The state of the machine, as plain data. Register fields stand in one field store `regs` (RegMap.lean
gives each field's place and reset value); what no register shows stands in the records below. -/

namespace Sys2Proof.Machine

/-- No step of this machine ends in a fault: what the spec calls faults are messages to the collector (R444), which
are effects on the state. So the type has no constructor; nothing raises one, which is safe. -/
inductive Fault where
  deriving DecidableEq, Repr

/-- Why a step is refused. -/
inductive Refusal where
  /-- Answered by an arm of `exec` whose command has no meaning yet (safe: nothing runs). -/
  | notModelled (mnemonic : String)
  deriving DecidableEq, Repr

/-- A fault message (R444). -/
structure Msg where
  src : Nat := 0
  qseg : Nat := 0
  kind : Nat := 0
  sev : Nat := 0
  cause : Nat := 0
  detail : Nat := 0
  deriving DecidableEq, Repr

/-- A message on its way to the collector: with its own repeat count (R445), whether it was injected (R469) and the
timebase count at which it reaches the collector. -/
structure Arrival where
  msg : Msg
  rep : Nat := 0
  inj : Bool := false
  time : Nat := 0
  deriving DecidableEq, Repr

/-- The single sender slot of an SRC_ID (R445). -/
structure SendSlot where
  last : Option Nat := none
  wait : Option (Msg × Bool) := none
  rep : Nat := 0
  deriving DecidableEq, Repr

/-- A record of the collector: the message with its INFO word (R448) and the time of its first message. `id` tells
records apart; `first` is the time of the record's first message in ticks. -/
structure Rec where
  id : Nat := 0
  msg : Msg := {}
  rep : Nat := 0
  same : Bool := false
  coll : Bool := false
  promo : Bool := false
  inj : Bool := false
  prior : Bool := false
  react : Nat := 0
  span : Nat := 0
  time : Nat := 0
  deriving DecidableEq, Repr

/-- A window counter of R452: its key, its window's start (a frame number), PROMO_N and PREACT as the window opened (R456), its
count, whether it is promoted, and whether to AMBER (R454). -/
structure WinCnt where
  cause : Nat := 0
  kind : Nat := 0
  start : Nat := 0
  n : Nat := 0
  preact : Nat := 0
  count : Nat := 0
  promoted : Bool := false
  amber : Bool := false
  deriving DecidableEq, Repr

/-- The settings of a KIND (R455, R456). -/
structure KindCfg where
  sev : Nat := 0
  react : Nat := 0
  n : Nat := 0
  preact : Nat := 0
  deriving DecidableEq, Repr

/-- The fault collector (R444 to R456). `open_` holds the records whose coalescing windows are open (R451). -/
structure Flt where
  slots : Tab SendSlot := []
  arriving : List Arrival := []
  lastArrival : Option Nat := none
  nextId : Nat := 0
  queue : List Rec := []
  open_ : List Rec := []
  fe : Rec := {}
  hist : List Rec := []
  counters : List WinCnt := []
  kcfg : Tab (Option KindCfg) := []
  dropFrame : Option Nat := none
  /-- Elements in their CRIMSON state, by SRC_ID (R454). -/
  crim : List Nat := []
  /-- Pages whose block's own AMBER reaction is in force (R454). -/
  amber : List Nat := []
  /-- The fault condition present now on a page, which PG_FAULT.LIVE shows (R67, R71). -/
  live : Tab (Option Msg) := []
  /-- The record in the always-on LF domain (R12, R41, R454). -/
  lfRec : Option Rec := none
  /-- H_MSG_HI, H_INFO and H_TIME latched for a master (R450). -/
  hLatch : Tab (Option (List Nat)) := []
  deriving DecidableEq, Repr

/-- Where the device stands in sleep (R47, R48). -/
inductive Sleep where
  | awake | entering | asleep | waking (src : Nat)
  deriving DecidableEq, Repr

/-- Power, reset and clock control: what CLK's registers do not show. -/
structure Pwr where
  /-- The device is held in reset (R495). -/
  held : Bool := true
  /-- XIN is lost (R41). -/
  xinLost : Bool := false
  sleep : Sleep := .awake
  /-- LF mode was asked to end and PLL_TB is restarting: after a wake's lock, or after debug halt's end (R45, R48, R49). -/
  lfEnding : Bool := false
  /-- The TB source before LF mode (R38, R40). -/
  tbFrom : Nat := 0
  /-- Gelad engines that device debug halt halted (R49). -/
  dhalted : List Nat := []
  /-- The instant TREF_OK last became 1 (R40). -/
  trefSince : Nat := 0
  /-- The frame in which a TB_RESTORE was accepted that waits for the frame boundary (R40). -/
  restore : Option Nat := none
  /-- The number of the frame whose start was handled last (R50). -/
  frame : Nat := 0
  /-- The LF clock is lost (R41). -/
  lfLost : Bool := false
  /-- The LF accumulator's fraction, in 32nds of a tick (R44). -/
  lfFrac : Nat := 0
  /-- The instant VREF_CTRL.EN became 1 (R289). -/
  vrefSince : Nat := 0
  deriving DecidableEq, Repr

/-- A budget setting (R53). -/
structure BSet where
  floor : Nat := 0
  ceil : Nat := 8000
  slack : Bool := true
  deriving DecidableEq, Repr

/-- Budgets: settings in force and pending, use and held requests of the current frame, the indexes whose request is held until
the frame boundary (R53 to R55), and the beats and held accesses of each page in the current frame (PG_BUDGET, R67). -/
structure Budg where
  force : Tab BSet := []
  pending : Option (Tab BSet) := none
  use : Tab Nat := []
  held : Tab Nat := []
  wait : List Nat := []
  pageUse : Tab Nat := []
  pageHeld : Tab Nat := []
  deriving DecidableEq, Repr

/-- The latch of a low-half read (R82): the low half's offset and the high word latched. -/
structure WideLatch where
  off : Nat
  hi : Nat
  deriving DecidableEq, Repr

/-- The interconnect's own state: latches and held high halves by master and page (key 16·page + master; R82, R84),
frozen copies of pages (R70), pages in unit reset (R85). -/
structure Acc where
  latch : Tab (Option WideLatch) := []
  heldHi : Tab (Option WideLatch) := []
  frozen : Tab (List (Nat × Nat)) := []
  rstBusy : List Nat := []
  deriving DecidableEq, Repr

/-- The setting of a router destination (R372, R374). -/
structure DstSet where
  en : Bool
  inv : Bool
  mode : Nat
  div : Nat
  sel : Nat
  deriving DecidableEq, Repr

/-- The event router (R368 to R374): pulses not yet passed with their times, levels last seen (sources, and 256 and 512 on the
page sources as hosts A and B see them, R110), destination events not yet taken by their consumers, each destination's divider
count and output level. -/
structure Rtr where
  pulses : List (Nat × Nat) := []
  active : List Nat := []
  destPending : List Nat := []
  div : Tab Nat := []
  level : List Nat := []
  /-- The time of the last pulse passed per source (R373). -/
  lastPulse : Tab (Option Nat) := []
  /-- Per destination: the instant of its last DST_CFG write with the setting and divider count it replaced, which hold for the
  events of that TB cycle (R372), and the instant of its last event (DST_LVL, R374). -/
  old : Tab (Option (Nat × DstSet × Nat)) := []
  lit : Tab (Option Nat) := []
  deriving DecidableEq, Repr

/-- An SSI read in progress (R141): when it started. -/
structure SsiRead where
  start : Nat
  deriving DecidableEq, Repr

/-- What an index undid or may have to redo when a step of its own TB cycle follows (R134): its instant, and before it COUNT, the
index count, the skip mark and IDX_STAT.ERR; and whether it raised its record. -/
structure IxUndo where
  at_ : Nat
  count : Int
  idx : Option Int
  skip : Bool
  err : Nat
  hit : Bool
  deriving DecidableEq, Repr

/-- A LOAD, which acts in the TB cycle after its write (R133): the instant of the write, and before it COUNT, the direction state
and the skip mark. -/
structure LoadUndo where
  at_ : Nat
  count : Int
  dir : Option Bool
  skip : Bool
  deriving DecidableEq, Repr

/-- What a position port holds beside its registers (R122 to R150). -/
structure PosS where
  /-- Levels of the pins A, B, Z past the glitch filter as bits 0, 1, 2, without the inversion (R122, R123). -/
  filt : Nat := 0
  /-- Timestamps of the last accepted edges of A and B (R124, R125). -/
  lastA : Option Nat := none
  lastB : Option Nat := none
  /-- VR: armed since the last active edge (R126), halvings done (R127). -/
  armed : Bool := false
  halved : Nat := 0
  /-- VR: the largest excursion of the half-wave just armed, in mV (R127). -/
  peak : Nat := 0
  /-- Active edges, newest first: timestamp and the 64ths of a pitch from the edge before (R136). -/
  edges : List (Nat × Nat) := []
  /-- Clean active edges since the start or the last invalidation (R139). -/
  clean : Nat := 0
  /-- When the port started or was last counted live (R140). -/
  since : Nat := 0
  /-- Direction of the last step, none after LOAD or the start (R130, R133): true is reverse. -/
  dir : Option Bool := none
  /-- COUNT at the last index, and whether the next comparison is skipped (R135). -/
  idx : Option Int := none
  idxSkip : Bool := false
  /-- What acted last in one TB cycle (R133, R134): the index, the instant of a LOAD, and the limit status and flag before the
  changes of COUNT at an instant. -/
  ixUndo : Option IxUndo := none
  loadAt : Option LoadUndo := none
  lim : Option (Nat × Bool × Bool × Bool) := none
  /-- M/T window: opening time, 64ths of pitches so far, length of its first interval (R137). -/
  mt : Option (Nat × Nat × Nat) := none
  /-- The last measurement in force: 64ths of pitches, ticks, oldest interval (R136, R137). -/
  meas : Option (Nat × Nat × Nat) := none
  /-- Fall-back window: its start and the signed steps in it (R139). -/
  fb : Nat × Int := (0, 0)
  /-- When SPEED was last set (SPD_STAT.AGE). -/
  spdAt : Nat := 0
  ssi : Option SsiRead := none
  /-- The last start of a read period (R141). -/
  ssiAt : Nat := 0
  /-- Length of the last sync pulse (R146). -/
  sync : Option Nat := none
  /-- Status bits (3, 2) of consecutive valid SENT frames, oldest first (R148). -/
  ser : List (Bool × Bool) := []
  /-- Masters that have read LAST_T_LO, and those for which a newer time has come since (R150). -/
  tRead : List Nat := []
  tNewer : List Nat := []
  deriving DecidableEq, Repr

/-- What a comparator holds beside its registers (R313 to R324). -/
structure CmpS where
  lvl : Bool := false
  raw : Bool := false
  unres : Bool := false
  /-- LVL holds and samples are not taken until this instant (R315). -/
  settle : Nat := 0
  /-- When the sampling window opened (R320). -/
  win : Option Nat := none
  /-- The count of the output's latest rise, plus one (R232). -/
  riseAt : Nat := 0
  deriving DecidableEq, Repr

/-- A threshold self-test that has its token (R322): comparators still to test, the one under test with its step and the
instant of its step's start, whether a check failed on it and on any. -/
structure CmpTest where
  queue : List Nat := []
  cur : Option Nat := none
  step : Nat := 0
  since : Nat := 0
  bad : Bool := false
  anyBad : Bool := false
  deriving DecidableEq, Repr

/-- The output stage beside its registers (R261 to R270): pins that hold their safe level until their source's next
change, pins of the current soft-offs, and the two drive permits. -/
structure OutS where
  held : List Nat := []
  /-- Soft-offs running: group, physical channel, start (R266). -/
  soft : List (Nat × Nat × Nat) := []
  /-- DIRECT pins that a soft-off still drives active, and the count at which each falls (R266). -/
  tail : List (Nat × Nat) := []
  dpA : Bool := false
  dpB : Bool := false
  /-- The instants of the last changes of DPERMIT_A and DPERMIT_B, counted from arming. -/
  dpAAt : Nat := 0
  dpBAt : Nat := 0
  deriving DecidableEq, Repr

/-- A slot of a current bank (R274 to R279): when its phase began, whether and since when HSS is on, whether HOLD waits for
B to fall, whether a switch-on waits for TPER_MIN, whether the BOOST came from OFF, when the QUENCH that began from HOLD
began, and the command level last taken. -/
structure SlotS where
  since : Nat := 0
  hss : Bool := false
  onAt : Option Nat := none
  waitB : Bool := false
  delayed : Bool := false
  fromOff : Bool := false
  qHold : Option Nat := none
  cmd : Bool := false
  /-- HSS has switched on since the command rose, so that the next switch-on ends a chop period (R275). -/
  chop : Bool := false
  deriving DecidableEq, Repr

/-- A held write of a parameter word (R235): the word, the value, the bits written and the count of its arrival; by the CMU for a
context's timing or quantity loop (R346). -/
structure HeldW where
  word : Nat
  v : Nat
  mask : Nat := 0xFFFFFFFF
  cmu : Option (Nat × Bool) := none
  at_ : Nat := 0
  deriving DecidableEq, Repr

/-- Which masters have latched a value, and those for which a newer one has come since (R83). -/
structure Newer where
  read : List Nat := []
  newer : List Nat := []
  deriving DecidableEq, Repr

/-- A capture register (R232). -/
structure Cap where
  t : Nat := 0
  a : Nat := 0
  valid : Bool := false
  deriving DecidableEq, Repr

/-- A function directory entry kept with an enabled channel (R251). -/
structure DirEnt where
  entry : Nat
  kmask : Nat
  wcet : Nat
  deriving DecidableEq, Repr

/-- An action of R210 to R212 in progress on a channel: the entry, its start and its end by time in 16ths of a tick; a pulse that ends at a
position of the pipeline's continuous angle scale (R214), or a dwell. -/
inductive Act where
  | pulse (idx stop : Nat)
  | pulseA (idx stop ang : Nat)
  | dwell (idx start stop : Nat)
  deriving DecidableEq, Repr

/-- A physical channel beside its registers (R224 to R236). -/
structure Chan where
  /-- Time match: the register, armed, its pin action. -/
  mtT : Nat := 0
  mtArm : Bool := false
  mtAct : Nat := 0
  /-- Angle match: the register, armed, coupled, its pin action. -/
  maA : Nat := 0
  maArm : Bool := false
  maCpl : Bool := false
  maAct : Nat := 0
  /-- Matches that counted as passed when they arrived and fire on arrival (R35). -/
  mtPassed : Bool := false
  maPassed : Bool := false
  /-- The count from which each microcode match is armed: the cycle after a firing of the old value (R36, R228). -/
  mtFrom : Nat := 0
  maFrom : Nat := 0
  /-- CHC disarmed the match of a pipeline occurrence or action that holds the registers (R247). -/
  mtOff : Bool := false
  maOff : Bool := false
  /-- The entry whose occurrence the match registers hold (R204). -/
  pipe : Option Nat := none
  act : Option Act := none
  mhold : Bool := false
  sact : Nat := 0
  sactArm : Bool := false
  env : Bool := false
  car : Bool := false
  safe : Bool := false
  cap0 : Cap := {}
  cap1 : Cap := {}
  nw0 : Newer := {}
  nw1 : Newer := {}
  nwS : Newer := {}
  /-- Queued SRQs, oldest first: time and PARAM; the one removed last (R234). -/
  srq : List (Nat × Nat) := []
  srqLast : Nat × Nat := (0, 0)
  dir : Option DirEnt := none
  /-- Yield context: address and G0 to G3 (R240). -/
  yield : Option (Nat × List Nat) := none
  /-- Writes to its parameter words held while its thread runs (R235), oldest first. -/
  held : List HeldW := []
  /-- The counts, plus one, of the latest change of the pin level, of the latest pipeline action, of the latest occurrence that fired, and
  of the latest firing of a time and of an angle match of microcode (R36, R206, R228, R232). -/
  pinAt : Nat := 0
  pipeAt : Nat := 0
  occAt : Nat := 0
  mtAt : Nat := 0
  maAt : Nat := 0
  /-- A function that a pipeline SRQ started, since the channel's last safe end (R220). -/
  srqFn : Bool := false
  /-- Parameter words that the interconnect wrote at the latest such count, with what stood there before (R235). -/
  icAt : Nat := 0
  icOld : List (Nat × Nat) := []
  deriving DecidableEq, Repr

/-- A command on its way from a Gelad engine to a channel (R32), stamped with TBV. -/
inductive CqOp where
  | smt (v act : Nat) | sma (a act : Nat) | smc (a act : Nat) | pin (act : Nat) | chc (ops sact : Nat) | lnk
  deriving DecidableEq, Repr

structure CqCmd where
  ch : Nat
  op : CqOp
  stamp : Nat
  deriving DecidableEq, Repr

/-- A memory access of a thread in progress (R248): destination register (none for a store), address, value, when it was
issued. -/
structure GelMem where
  dst : Option Nat
  addr : Nat
  val : Nat
  since : Nat
  deriving DecidableEq, Repr

/-- A Gelad engine beside its registers (R237 to R256). -/
structure GelS where
  /-- The store holds an image (R255). -/
  image : Bool := false
  /-- Thread in progress or halted: its general registers, condition flags (bits Z N C V E F P U from 0), return
  addresses, snapshot, cycles with and without stalls, the TBV latch, and when it started. -/
  thread : Bool := false
  g : List Nat := []
  cc : Nat := 0
  stack : List Nat := []
  snap : Nat := 0
  cyc : Nat := 0
  cycNs : Nat := 0
  tbvHi : Option Nat := none
  mem : Option GelMem := none
  /-- When the issuing instruction began to stall on a full command queue (R32). -/
  stall : Option Nat := none
  /-- The breakpoint address at which the engine halted; the instruction there executes on resume or step. -/
  skipBk : Bool := false
  /-- Outlet record buffers (R248). -/
  outlet : Tab (List Nat) := []
  /-- Requests by class, in the order in which they arose: logical channel, time (R238). -/
  reqs : Tab (List (Nat × Nat)) := []
  wheel : Nat := 0
  cq : List CqCmd := []
  deriving DecidableEq, Repr

/-- The four words of an event-table entry (R193). -/
structure Entry4 where
  w0 : Nat := 0
  w1 : Nat := 0
  w2 : Nat := 0
  w3 : Nat := 0
  deriving DecidableEq, Repr

/-- A pulled occurrence in its slot (R201 to R206): the entry and the contents it was pulled with, the cycle it lies in (in
cycles since the pipeline entered RUNNING), its start angle, how far forward of it a PULSE_A ends, the fixed start of a DWELL in
16ths of a tick, the boundary of a train that fires next, and whether it has reached the TB domain. -/
structure Occ where
  idx : Nat
  e : Entry4
  cyc : Nat
  ang : Nat
  stop : Option Nat := none
  dwFix : Option Nat := none
  short : Bool := false
  started : Bool := false
  bnd : Nat := 0
  here : Bool := false
  deriving DecidableEq, Repr

/-- Words staged by a master for one entry (R190). -/
structure Stage where
  idx : Nat
  w0 : Option Nat := none
  w1 : Option Nat := none
  w2 : Option Nat := none
  deriving DecidableEq, Repr

/-- A word of an SRAM bank with a hard error (R464): its segment, the bank, the word's address in it, and whether its error cannot be
corrected. -/
structure BadWord where
  q : Nat
  b : Nat
  a : Nat
  unc : Bool
  deriving DecidableEq, Repr

/-- The event pipeline beside its registers (R190 to R221). -/
structure EvtS where
  stage : Tab (Option Stage) := []
  /-- Pending cycle commits (R215). -/
  pend : List (Nat × Entry4) := []
  /-- Immediate commits whose decision of R214 is still to come, oldest first. -/
  imm : List (Nat × Entry4) := []
  /-- Contents that take effect from the given cycle on (R214). -/
  later : List (Nat × Nat × Entry4) := []
  /-- Cycles since the pipeline entered RUNNING, and the position at which it did. -/
  ncyc : Nat := 0
  from_ : Nat := 0
  /-- The last cycle, plus one, in which each entry was pulled or skipped, and in which its occurrence ended. -/
  pulled : Tab Nat := []
  ended : Tab Nat := []
  slots : List Occ := []
  /-- 1 for an entry whose key was reached in the cycle before and that is not pulled yet, and 1 more for each micro-tick in which it
  was passed over (R202). -/
  wait : Tab Nat := []
  /-- Contents of the cycle before for occurrences of it that still wait for their pull, and for their links. -/
  kept : List (Nat × Nat × Entry4) := []
  /-- Worst lag of each bank in this cycle, in micro-ticks (R202). -/
  lag : Tab Nat := []
  deriving DecidableEq, Repr

/-- A positive number `num / den` of 40 significant bits (R171). -/
structure Tau where
  num : Nat := 0
  den : Nat := 1
  deriving DecidableEq, Repr

/-- A prediction record (R174): position, whether it is the half after an extra tooth, angle, time, width, prediction. -/
structure PRec where
  pos : Nat := 0
  half : Bool := false
  a : Nat := 0
  t : Nat := 0
  w : Nat := 0
  tp : Nat := 0
  deriving DecidableEq, Repr

/-- An angle generator (R172): its record, INC and d with 24 fraction bits, and the instant of its last micro-tick. -/
structure AGen where
  r : PRec := {}
  inc : Nat := 0
  d : Nat := 0
  at_ : Nat := 0
  /-- The instant at which the halt point was reached. -/
  haltAt : Option Nat := none
  deriving DecidableEq, Repr

/-- An output angle (R158, R160, R172, R173): state, the state HALTED interrupted, B23_UNDET, the angle, its generator and
whether a record is in force, the deficit with 24 fraction bits, whether it closes as a catch-up, and the size of the
angle by which the output stands ahead of the lane it switched to (R178). -/
structure AngOut where
  st : Nat := 0
  level : Nat := 0
  b23u : Bool := true
  ang : Nat := 0
  g : AGen := {}
  hasRec : Bool := false
  e : Nat := 0
  ahead : Nat := 0
  /-- When the deficit was closed last, when the record was accepted, and the one that it replaces in the next micro-tick (R172 to
  R174). -/
  eAt : Nat := 0
  pubAt : Nat := 0
  oldRec : Option PRec := none
  deriving DecidableEq, Repr

/-- A tracker lane (R162 to R172): its state and the state HALTED interrupted, the times of its accepted edges newest first,
the search for the gap, and the prediction. -/
structure Lane where
  st : Nat := 0
  level : Nat := 0
  hist : List Nat := []
  clean : Nat := 0
  cleanAll : Nat := 0
  mismatch : Bool := false
  /-- The interval taken as G and the one before it (R162). -/
  gap : Option (Nat × Nat) := none
  g : AGen := {}
  tauPrev : Option Tau := none
  tauHist : Tab (Option Tau) := []
  miss : Nat := 0
  cand : Option Nat := none
  cause : Nat := 0
  deriving DecidableEq, Repr

/-- A cam edge: its time, its port, and once its crank angle is known, where the output's odometer stood at it. -/
structure CamEdge where
  t : Nat
  pos3 : Bool := false
  odo : Option Nat := none
  deriving DecidableEq, Repr

/-- The relearn activity (R185, R186): cycles completed as lists of position and time, ending with the next position 0, and
the cycle in progress. -/
structure LearnS where
  cycles : List (List (Nat × Nat)) := []
  cur : List (Nat × Nat) := []
  begun : Bool := false
  deriving DecidableEq, Repr

/-- The tracker beside its registers (R155 to R187). -/
structure TrkS where
  p : Lane := {}
  s : Lane := {}
  /-- The output. -/
  out : AngOut := {}
  /-- The active lane has failed and the output runs on its last prediction (R178); its cause. -/
  failed : Option Nat := none
  req : Option Bool := none
  cams : List CamEdge := []
  /-- Windows (cam teeth) that have met a matching edge since they last closed, and whether every window that closed since
  the last wrap had met one (R165). -/
  met : List Nat := []
  cycClean : Bool := false
  /-- Odometer readings at which each window last closed, and at which the phase was resolved (R164). -/
  closed : Tab Nat := []
  camFrom : Nat := 0
  errRun : Nat := 0
  phaseRun : Nat := 0
  /-- Teeth beyond the divergence limit in a row (R177). -/
  divRun : Nat := 0
  /-- How far the output angle has moved since it became valid, in AU; an odd number of revolutions in CRANK_SYNC of a cycle of two
  (REV_CNT, R188). -/
  odo : Nat := 0
  halfRev : Bool := false
  /-- The last accepted crank edge (R182). -/
  lastAcc : Option Nat := none
  /-- The record before the one in force (R164). -/
  prevRec : Option PRec := none
  /-- Times of the last crank A and B edges (R180), and the classes of past intervals, newest first: true is reverse. -/
  aEdge : Option Nat := none
  bEdge : Option Nat := none
  classes : List Bool := []
  /-- Times of the last TT and TT readers (R83). -/
  tt : Newer := {}
  /-- Tooth tables in force and shadows (R183, R184). -/
  ctab : Tab Int := []
  cshadow : Tab Int := []
  camtab : Tab Int := []
  camshadow : Tab Int := []
  /-- Shadows that passed a commit and wait (R184). -/
  pendCrank : Option (Tab Int) := none
  pendCam : Option (Tab Int) := none
  learn : Option LearnS := none
  learnNew : Option (Tab Int) := none
  deriving DecidableEq, Repr

/-- A maintenance activity and its target (R465); a row repair also names the row, as its word address (R464). -/
structure Task where
  act : Nat
  target : Nat
  row : Nat := 0
  deriving DecidableEq, Repr

/-- A migration (R458 to R461): the tile left, the SLATE tile, when the tile was forced safe, and whether the map has moved. -/
structure Mig where
  src : Nat
  dst : Nat
  tf : Nat
  moved : Bool := false
  deriving DecidableEq, Repr

/-- A memory bank's spare rows in use, whether none is left, and the row repaired last (R464). -/
structure RepB where
  used : Nat := 0
  exhausted : Bool := false
  row : Nat := 0
  deriving DecidableEq, Repr

/-- MAINT beside its registers: activities that run and that wait for tokens, in request order (R465), the migration in
progress, the Sepia change log's entries per tile in this frame and the channels marked LOST_STATE (R459), the repair map
(R464), frames that wait on the MUART with its answers ahead of them, the frames sent by the latest command, and when the last of them
is out (R467, R468); and the start of the background scrub's pass (R464). -/
structure MaintS where
  run : List Task := []
  wait : List Task := []
  mig : Option Mig := none
  log : Tab Nat := []
  lost : List Nat := []
  rep : Tab RepB := []
  mu : List (List Nat) := []
  muAns : List (List Nat) := []
  muTx : List (List Nat) := []
  muFree : Nat := 0
  passAt : Nat := 0
  deriving DecidableEq, Repr

/-- A boundary on its way to a converter (R30, R297): its TB time, the train index (0xFFF none), STOP, whether it fired late,
and the entry a CONV_START names. -/
structure Bnd where
  t : Nat
  idx : Nat := 0xFFF
  stop : Bool := false
  late : Bool := false
  start : Option Nat := none
  /-- The report of a boundary that was cancelled (R298). -/
  cxl : Bool := false
  deriving DecidableEq, Repr

/-- The start that ran from IDLE in a CONV cycle (R292, R293): the cycle, its place in R292's list (5: an urgent request), its
entry, the boundary it was, and what the opening of its window replaced. -/
structure RunO where
  cyc : Nat
  rank : Nat
  e : Nat
  bnd : Option Bnd := none
  chLeft : Nat := 0
  gLeft : Nat := 0
  lastMux : Option Nat := none
  lastGain : Option Nat := none
  chgAt : Nat := 0
  more : Nat := 0
  deriving DecidableEq, Repr

/-- An open window (R296 to R303): entry, opening, length of a window bounded by time, input and filter, marks, and its
settling class. -/
structure WinO where
  e : Nat
  t0 : Nat
  len : Option Nat := none
  mux : Nat := 0
  gain : Nat := 0
  filt : Nat := 0
  late : Bool := false
  merged : Bool := false
  long : Bool := false
  bad : Bool := false
  settle : Nat := 0
  deriving DecidableEq, Repr

/-- A closed window whose result is still to come (R304, R306): band energy, tap, boundary index, length in ticks, cause,
delivery to the CMU and interrupt as at the entry's start. -/
structure WinC where
  e : Nat
  band : Bool := false
  tap : Bool := false
  bidx : Nat := 0xFFF
  t1 : Nat := 0
  len : Nat := 0
  cause : Nat := 0
  settle : Nat := 0
  mux : Nat := 0
  gain : Nat := 0
  filt : Nat := 0
  cmu : Bool := false
  irq : Bool := false
  deriving DecidableEq, Repr

/-- A window value kept for the filter (R302). -/
structure XVal where
  v : Int := 0
  settle : Nat := 0
  cause : Nat := 0
  deriving DecidableEq, Repr

/-- A result for the CMU (R306): converter, entry, boundary index, VALID, SETTLE, CAUSE, WLEN, VALUE, the time of its close. -/
structure CmuIn where
  x : Nat
  e : Nat
  bidx : Nat
  valid : Bool
  settle : Nat
  cause : Nat
  wlen : Nat
  v : Int
  t : Nat
  deriving DecidableEq, Repr

/-- A converter beside its registers (R287 to R308). -/
structure ConvS where
  bnds : List Bnd := []
  win : Option WinO := none
  /-- KIND, LEN, windows left, CMU and IRQ of the entry in force, as at its start; no count for an entry without a bound. -/
  kind : Nat := 0
  wlen : Nat := 0
  left : Option Nat := none
  cmu : Bool := false
  irq : Bool := false
  urgent : Bool := false
  /-- Settling windows still to come after a channel change and a gain change (R303), the last MUX and GAIN, and when either
  last changed. -/
  chLeft : Nat := 0
  gLeft : Nat := 0
  lastMux : Option Nat := none
  lastGain : Option Nat := none
  chgAt : Nat := 0
  /-- The band tap in progress: its start and its cause so far (R300). -/
  tap : Option (Nat × Nat) := none
  closed : List WinC := []
  /-- Per entry: MUX, GAIN and FILT of its history, and the history, newest first. -/
  hist : Tab (Nat × Nat × Nat × List XVal) := []
  /-- Entries that hold a result, and the masters that have read it (key 16·entry + master: 1). -/
  got : List Nat := []
  seen : Tab Nat := []
  /-- RES_INFO latched for a master (key 16·entry + master; R305). -/
  info : Tab (Option Nat) := []
  /-- OFS and GAIN in force per gain where they differ from the fused values (R308). -/
  trim : Tab (Option (Int × Nat)) := []
  calFrom : Option Nat := none
  /-- The start that ran last, and the CONV cycle and place in R292's list of the start that became the pending one. -/
  ran : Option RunO := none
  pendAt : Nat × Nat := (0, 0)
  deriving DecidableEq, Repr

/-- The mains detector (R290): the last edge and the periods in ticks, newest first. -/
structure MainsS where
  last : Option Nat := none
  per : List Nat := []
  deriving DecidableEq, Repr

/-- A sample in a record (R328): its place in the record's order, VALUE, VALID, SETTLE, CAUSE, the time of its close. -/
structure Smp where
  o : Nat
  v : Int
  valid : Bool
  settle : Nat := 0
  cause : Nat := 0
  t : Nat := 0
  deriving DecidableEq, Repr

/-- How a record's pegging stands (R335). -/
inductive PegR where
  | none_ | ok | old | failed
  deriving DecidableEq, Repr

/-- A record of a context (R329): its number, the place of its first sample, whether it started after a loss, the settings that
hold for it, its samples newest first, its knock result, its pegging; and from its close on the last place, GAMMA, CYC_CNT and
the time. -/
structure CylRec where
  n : Nat
  first : Nat
  inc : Bool
  scale : Nat
  hrMin : Nat
  knkLim : Nat
  smps : List Smp := []
  knk : Option (Nat × Bool) := none
  peg : PegR := .none_
  pegN : Nat := 0
  ofs : Int := 0
  /-- The close of the context before this record's. -/
  prev : Option Nat := none
  last : Nat := 0
  gamma : Nat := 0
  cyc : Nat := 0
  t : Nat := 0
  deriving DecidableEq, Repr

/-- Where a scheduled trim write stands (R346): written at once, undecided until EOI_A, written when the position is reached,
held by the channel's thread. -/
inductive TrimAt where
  | now | wait | late (pos : Nat) | held
  deriving DecidableEq, Repr

/-- A scheduled trim write, with I and OUT before its update. -/
structure Trim where
  at_ : TrimAt
  i0 : Nat
  out0 : Nat
  deriving DecidableEq, Repr

/-- A cylinder context beside its registers (R328 to R347). -/
structure CylS where
  /-- Records opened so far, the open one, and the place at which the next one starts; none after a loss (R331). -/
  recs : Nat := 0
  open_ : Option CylRec := none
  next : Option Nat := none
  /-- The last closed record. -/
  last : Option CylRec := none
  /-- The marks on their way: code, instant, cancelled (R332). -/
  marks : List (Nat × Nat × Bool) := []
  /-- The pegging window's opening, whether its mark was cancelled, the scaled VALID samples since, and PEG_AGE (R335). -/
  pegOpen : Option Nat := none
  pegBad : Bool := false
  pegS : List (Nat × Int) := []
  pegAge : Nat := 0
  /-- The sample buffer: the number of the record a word belongs to, and the word (R349). -/
  buf : Tab (Nat × Nat) := []
  /-- The last close, and the close and value of the last VALID IMEP_N and IMEP_G (R344). -/
  lastClose : Option Nat := none
  imepN : Option (Nat × Int) := none
  imepG : Option (Nat × Int) := none
  trimQ : Option Trim := none
  trimA : Option Trim := none
  /-- The record to post: when it was ready, and its words (R342). -/
  post : Option (Nat × List Nat) := none
  /-- The registers 0x104 to 0x168 latched for a master (R341). -/
  latch : Tab (Option (List Nat)) := []
  deriving DecidableEq, Repr

/-- The combustion metrics unit beside its registers. -/
structure CmuS where
  /-- VALID manifold results since the earliest pegging window in progress: time and VALUE (R335). -/
  map : List (Nat × Int) := []
  /-- The volume table in force, its shadow, and the one that waits (R334). -/
  vol : Tab Nat := []
  shadow : Tab Nat := []
  pend : Option (Tab Nat) := none
  /-- Closes waiting for computation, in order: context and record (R340). -/
  closeQ : List (Nat × CylRec) := []
  /-- The record a recompute works on (R347). -/
  rc : Option (Nat × CylRec) := none
  /-- MAC pipeline cycles still to do: of each close that waits, of the volume table, of the recompute; and the instant up to
  which the pipeline's cycles are dealt out (R52, R340). -/
  left : List Nat := []
  volLeft : Nat := 0
  rcLeft : Nat := 0
  macAt : Nat := 0
  deriving DecidableEq, Repr

/-- A general timer beside its registers (R358 to R363): the count updates so far (for a running pair, of both halves) as of a
tick, the ticks into its prescaler, and the laps whose wrap has been handled; whether the compare is armed, the update at which
it matches next, and a forced match; trigger and capture events to take; captures, oldest first. -/
structure GptS where
  at_ : Nat := 0
  pos : Nat := 0
  frac : Nat := 0
  laps : Nat := 0
  arm : Bool := false
  tgt : Option Nat := none
  forced : Bool := false
  trigs : Nat := 0
  caps : Nat := 0
  queue : List Nat := []
  deriving DecidableEq, Repr

/-- A PIO slot beside its registers (R395 to R406): SR, the loop counters, the hold ticks left, the last word taken since its
start, the level WAITE saw at its tick before, the turn of its last tick (or its last turn before the start) with the phase, the output latches
(bit 0 pin A, bit 1 pin B), the input levels last seen, and its queues, oldest first. -/
structure PioS where
  sr : Nat := 0
  k0 : Nat := 0
  k1 : Nat := 0
  hold : Nat := 0
  lastTx : Nat := 0
  prev : Option Bool := none
  tickAt : Nat := 0
  /-- The last instant at which the interconnect wrote the TX queue, or read the RX queue, and how many words (R400). -/
  txNew : Nat × Nat := (0, 0)
  rxGone : Nat × Nat := (0, 0)
  phi : Nat := 0
  latch : Nat := 0
  ext : Option Nat := none
  txq : List Nat := []
  rxq : List Nat := []
  deriving DecidableEq, Repr

/-- A link frame (R412): TYPE, HOPS, ORIG, SEQ, and its payload words. -/
structure Frm where
  typ : Nat
  hops : Nat := 0
  orig : Nat := 0
  seq : Nat := 0
  pay : List Nat := []
  deriving DecidableEq, Repr

/-- A frame that waits on a link: since when; for an own beacon the output as of then (R421); for a PONG the receipt of its
PING (R419). -/
structure WaitF where
  f : Frm
  due : Nat
  ang : Option AngOut := none
  ping : Option Nat := none
  deriving DecidableEq, Repr

/-- A frame whose transmission started: its link, the instant of its K27.7 in ticks, and the frame. -/
structure SentF where
  link : Nat
  t : Nat
  f : Frm
  /-- Its bytes between K27.7 and K29.7 (R412). -/
  wire : List Nat := []
  deriving DecidableEq, Repr

/-- A link beside its registers (R410 to R419): a valid TRAIN has arrived, ten times the delays of the pairs, when its state
began, the last valid frame, the frames that wait, and when the transmitter is free in fifths of a tick. -/
structure LinkS where
  ack : Bool := false
  pairs : List Int := []
  since : Nat := 0
  lastValid : Nat := 0
  wait : List WaitF := []
  free_ : Nat := 0
  /-- In EXCHANGE: when the next TRAIN is due (R417). -/
  trainAt : Nat := 0
  deriving DecidableEq, Repr

/-- What the last STATUS of a device says: eligible, when (R425, R426). -/
structure PeerS where
  elig : Bool
  t : Nat
  deriving DecidableEq, Repr

/-- A remote access (R437): master, direction, address, value; once sent, when, and the device it goes to. -/
structure RemReq where
  m : Nat
  write : Bool
  addr : Nat
  v : Nat
  sent : Option Nat := none
  deriving DecidableEq, Repr

/-- A remote access that has ended: STATUS of R413 (0 OK, 1 DENIED, 2 BAD_ADDR, 3 BUSY), or 4 with no answer; the data, and the
retry hint. -/
structure RemEnd where
  m : Nat
  write : Bool
  addr : Nat
  status : Nat
  data : Nat := 0
  hint : Nat := 0
  deriving DecidableEq, Repr

/-- The cascade beside its registers (R412 to R440). -/
structure CascS where
  links : Tab LinkS := []
  /-- Frames whose transmission started since the last link or cascade command began. -/
  sent : List SentF := []
  seq : Nat := 0
  frameCnt : Nat := 0
  /-- (ORIG, SEQ) of frames seen, and when (R416). -/
  seen : List (Nat × Nat × Nat) := []
  /-- Hops to a device over a link; key 4·link + device (R416). -/
  hops : Tab Nat := []
  peers : Tab (Option PeerS) := []
  epochMax : Nat := 0
  /-- The last valid beacon: when, and its FRAME_CNT. -/
  lastBcn : Option Nat := none
  bcnFc : Nat := 0
  /-- The last valid beacon of the master, and the last STATUS sent. -/
  mstBcn : Nat := 0
  statAt : Option Nat := none
  /-- When LISTEN began. -/
  listen : Nat := 0
  /-- A promotion: when CLAIM_WAIT ends (R427). -/
  claim : Option Nat := none
  /-- The last beacon sent: when, and the record in it. -/
  bcnAt : Option Nat := none
  lastRec : Option PRec := none
  /-- Beacons beyond and within DIV_LIM in a row, and whether the reaction of R430 is in force. -/
  divRun : Nat := 0
  inRun : Nat := 0
  divOn : Bool := false
  /-- The output has wrapped since CYC was last compared (R429). -/
  cycCheck : Bool := false
  /-- The broadcast queue: origin and PARAM, oldest first (R439). -/
  bq : List (Nat × Nat) := []
  rem : List RemReq := []
  remDone : List RemEnd := []
  deriving DecidableEq, Repr

/-- A DMA channel beside its registers (R375 to R390): events that have arrived and the one held (R381), STOP asked for, the IRQ
bit of its descriptor, its count is done (R385), words read but not yet written and failed attempts at the beat (R387), and
whether its request counts as held in this frame (R54). -/
structure DmaC where
  evs : Nat := 0
  held : Bool := false
  stop : Bool := false
  irqEnd : Bool := false
  fin : Bool := false
  part : Option (List Nat) := none
  tries : Nat := 0
  retry : Bool := false
  wait : Bool := false
  /-- The instant of the last event ignored in IDLE, DONE or HALTED, which a START of its cycle still takes (R381). -/
  missed : Option Nat := none
  deriving DecidableEq, Repr

/-- The burst in progress: its channel, its beats, the words read so far in order, and whether it has sent its remote reads and
its remote writes. -/
structure Burst where
  c : Nat
  n : Nat
  /-- The instant of the grant. -/
  at_ : Nat := 0
  data : List Nat := []
  asked : Bool := false
  sentW : Nat := 0
  deriving DecidableEq, Repr

/-- The DMA engine: the burst, the channel last granted at each priority (R384), the channel fenced (R386). -/
structure DmaS where
  ch : Tab DmaC := []
  burst : Option Burst := none
  last : Tab (Option Nat) := []
  deriving DecidableEq, Repr

/-- A host frame in execution (R94 to R101): its fields, its payload, the words done, the words read in order, the status it
ends with (with INFO, PARTIAL), the words of each target still to be granted where it runs across frames (R57), and whether it
is done. -/
structure HFrame where
  op : Nat
  len : Nat
  addr : Nat
  tag : Nat := 0
  fixed : Bool := false
  pay : List Nat := []
  idx : Nat := 0
  data : List Nat := []
  status : Nat := 0
  info : Nat := 0
  part : Bool := false
  more : Bool := false
  across : Bool := false
  fin : Bool := false
  /-- When it arrived (R486). -/
  at_ : Nat := 0
  deriving DecidableEq, Repr

/-- A response frame (R92): header, payload, trailer where there is a payload. -/
structure HResp where
  hdr : Nat
  pay : List Nat := []
  trailer : Option Nat := none
  deriving DecidableEq, Repr

/-- A host port beside its registers (R87 to R118): boot has enabled it, the frame in EXEC, the response, the version and
lane mode that a HELLO response brings (R103), a lane break has ended during EXEC, the reference instant of R118, the entry
into IDLE, whether the first attention pulse of a sequence is to come, and the last pulse since IDLE was entered (R106). -/
structure HostS where
  enabled : Bool := false
  frame : Option HFrame := none
  resp : Option HResp := none
  hello : Option (Nat × Bool) := none
  brk : Bool := false
  heard : Nat := 0
  idleAt : Nat := 0
  seq : Bool := true
  pulse : Option Nat := none
  deriving DecidableEq, Repr

/-- BOOT beside its registers (R474 to R482): the image words taken, the last SEQ of this stream, and the instant of the last
command. -/
structure BootS where
  img : List Nat := []
  seq : Nat := 0
  lastCmd : Nat := 0
  deriving DecidableEq, Repr

/-- The machine. -/
structure State where
  /-- The commands that wait, first in, first out. -/
  pending : List Instr := []
  /-- The timebase (R353). -/
  tb : Nat := 0
  /-- The model's counter of free values used (assumption log 3). -/
  nonce : Nat := 0
  /-- The register fields that differ from their reset values, by `Field.key`. -/
  regs : Tab Nat := []
  /-- The bits of W1C fields that the hardware set at the present count, and the RW fields that a register write set at it, by
  `Field.key` (R71). -/
  hot : Tab Nat := []
  wrote : List Nat := []
  /-- The latest count `t` that a command carried while the timebase stood or counted from the LF clock (assumption log 73). -/
  fine : Nat := 0
  /-- Words of SRAM whose bits stay wrong until their row is repaired (R464). -/
  bad : List BadWord := []
  /-- Mailbox SRAM, event table and microcode stores, by address (R61). -/
  mem : List Host.Cell := []
  pwr : Pwr := {}
  flt : Flt := {}
  budg : Budg := {}
  acc : Acc := {}
  rtr : Rtr := {}
  /-- Position ports 0 to 7. -/
  pos : Tab PosS := []
  /-- Accepted active edges on their way to the tracker (R132): port and timestamp, oldest first. -/
  trkIn : List (Nat × Nat) := []
  /-- Comparators 0 to 47, and the self-test. -/
  cmps : Tab CmpS := []
  cmpTest : Option CmpTest := none
  out : OutS := {}
  /-- Bank slots, by 2·bank + slot. -/
  slots : Tab SlotS := []
  /-- Physical channels 0 to 215. -/
  chans : Tab Chan := []
  gel : Tab GelS := []
  evt : EvtS := {}
  trk : TrkS := {}
  /-- The output a follower takes from its master's beacons (R428). -/
  follow : Option AngOut := none
  maint : MaintS := {}
  conv : Tab ConvS := []
  mains : MainsS := {}
  /-- Results on their way to the CMU, oldest first. -/
  cmuIn : List CmuIn := []
  cmu : CmuS := {}
  cyls : Tab CylS := []
  gpt : Tab GptS := []
  /-- PIO slots; key 8·engine + slot. -/
  pio : Tab PioS := []
  casc : CascS := {}
  dma : DmaS := {}
  /-- Host ports A and B. -/
  host : Tab HostS := []
  boot : BootS := {}
  /-- Fuses and OTP, by the key of the register field they are loaded into (R471); it outlasts every reset. -/
  otp : Tab Nat := []
  deriving DecidableEq, Repr

/-- The device held in reset, nothing placed: every register at its reset value, every memory empty. -/
def State.reset : State := {}

end Sys2Proof.Machine
end

