-- ==== Sys2Proof/Machine/Ops.lean ====
section
/-! DEFINITION. The operations every meaning is written over: register fields, time and clocks, raising a fault
message, router pulses, memory, mailbox queues. -/

namespace Sys2Proof.Machine

open Reg

/-! ### Register fields -/

/-- The value of a field. -/
def State.rd (s : State) (f : Field) : Nat := tget f.rst s.regs f.key % 2 ^ f.w

/-- The state with a field set; the value wraps to the field's width. -/
def State.wr (s : State) (f : Field) (v : Nat) : State :=
  { s with regs := tput (f.rst % 2 ^ f.w) s.regs f.key (v % 2 ^ f.w) }

/-- A one-bit field, or whether a field is not 0. -/
def State.on (s : State) (f : Field) : Bool := s.rd f != 0

/-- Add to a counter field, saturating. -/
def State.bump (s : State) (f : Field) (n : Nat) : State := s.wr f (satN f.w (s.rd f + n))

/-- Count one in a counter field, saturating. -/
def State.inc (s : State) (f : Field) : State := s.bump f 1

/-- The hardware sets the bits `b` of a W1C field: they outlast a clear at the same count (R71). -/
def State.setBits (s : State) (f : Field) (b : Nat) : State :=
  let s := s.wr f (Nat.lor (s.rd f) b)
  { s with hot := tput 0 s.hot f.key (Nat.lor (tget 0 s.hot f.key) b) }

/-- The bits `b` of a W1C field that a write at the present count clears (R71). -/
def State.clearable (s : State) (f : Field) (b : Nat) : Nat :=
  let c := Nat.land (s.rd f) b
  c - Nat.land c (tget 0 s.hot f.key)

/-- A write of ones to the bits `b` of a W1C field (R7, R71). -/
def State.clearBits (s : State) (f : Field) (b : Nat) : State := s.wr f (s.rd f - s.clearable f b)

/-- The hardware updates an RW field; a register write at the same count wins (R71). -/
def State.hwPut (s : State) (f : Field) (v : Nat) : State := if s.wrote.contains f.key then s else s.wr f v

/-- A register write sets an RW field (R71). -/
def State.swPut (s : State) (f : Field) (v : Nat) : State :=
  let s := s.wr f v
  { s with wrote := if s.wrote.contains f.key then s.wrote else s.wrote ++ [f.key] }

/-- Set interrupt flag `i` of page `p` (PG_IFLAG, R67). -/
def State.iflag (s : State) (p i : Nat) : State := s.setBits (PG_IFLAG_FLAG p) (2 ^ i)

/-- Every field of a page back to its reset value, but for the fields `keep` holds. -/
def State.resetPage (s : State) (p : Nat) (keep : Nat → Bool) : State :=
  { s with regs := s.regs.filter fun e => e.1 / 131072 != p || keep (e.1 / 32 % 4096) }

/-! ### Time and clocks -/

/-- Time passes to the count `t`: the timebase never runs back (R353), and it stands still while the device is held in
reset, while it counts from the LF clock (R44), and where PLL_SYS drove it when XIN was lost (R41). Two commands meet in one
cycle (R71) where the count is the same; where the timebase does not count every tick no two do (assumption log 64). -/
def State.advance (s : State) (t : Nat) : State :=
  if s.pwr.held || s.on TB_TB_STAT_LFMODE || (s.pwr.xinLost && s.rd CLK_CLK_STAT_TB_SRC == 1) then
    { s with hot := [], wrote := [], fine := max s.fine (t % 2 ^ 64) }
  else if s.tb < t % 2 ^ 64 then { s with tb := t % 2 ^ 64, hot := [], wrote := [] }
  else s

/-- The present instant in ticks for what PLL_SYS times: the timebase, and where it stands or counts from the LF clock the finer
count of the commands (R49, R106; assumption log 73). -/
def State.now (s : State) : Nat := if s.on TB_TB_STAT_LFMODE then max s.tb s.fine else s.tb

/-- PLL_SYS runs, so the CORE and CONV domains have a clock (R27, R41, R48). -/
def State.coreOn (s : State) : Bool :=
  !s.pwr.held && !s.pwr.xinLost &&
  match s.pwr.sleep with
  | .awake | .entering => true
  | _ => false

/-- The TB domain has its 400 MHz clock (R27, R38, R41, R44, R48). -/
def State.tbOn (s : State) : Bool :=
  !s.pwr.held && !s.on TB_TB_STAT_LFMODE && !(s.pwr.xinLost && s.rd CLK_CLK_STAT_TB_SRC == 1)

/-- Domain `d` (R10) is not held in reset (R11, R12). -/
def State.domOn (s : State) (d : Nat) : Bool := !bit (s.rd SYS_DOM_STAT_RST) d

/-- The domain of a page (R10). -/
def domOf (p : Nat) : Nat :=
  if 0x10 ≤ p ∧ p ≤ 0x19 then 0 else if 0x20 ≤ p ∧ p ≤ 0x57 then 1 else if 0x60 ≤ p ∧ p ≤ 0xA7 then 2 else 3

/-- Blocks that device debug halt stops: DMA, PIO, converters and the CMU (R49). -/
def State.notHalted (s : State) : Bool := s.rd CLK_PWR_STAT_STATE != 2

/-- A CORE-clock block of domain `d` acts. -/
def State.core (d : Nat) (s : State) : Bool := s.coreOn && s.domOn d

/-- A TB-clock block of domain `d` acts. -/
def State.tbd (d : Nat) (s : State) : Bool := s.tbOn && s.domOn d

/-- A CORE-clock block of domain `d` that debug halt stops (R49) acts. -/
def State.corn (d : Nat) (s : State) : Bool := s.coreOn && s.domOn d && s.notHalted

/-- The outcome of a step. -/
abbrev Out := Host.Outcome State Fault Refusal

/-- A command at the count `t`: time passes, and the command acts where its clock runs and its block is not held. Only
`advance` and the commands of the timebase itself move the timebase, and no command touches the queue. -/
def State.act (s : State) (t : Nat) (ok : State → Bool) (f : State → State) : Out :=
  let a := s.advance t
  .next (if ok a then { f a with tb := a.tb, pending := a.pending } else a)

/-- A command that may set the timebase (R40, R44, R353). -/
def State.actTb (s : State) (t : Nat) (ok : State → Bool) (f : State → State) : Out :=
  let a := s.advance t
  .next (if ok a then { f a with pending := a.pending } else a)

/-- A free value: the next unnamed number, and the counter one up. -/
def State.free (s : State) : Nat × State := (Config.free s.nonce, { s with nonce := s.nonce + 1 })

/-! ### Names of elements -/

/-- An SRC_ID (R19). -/
def srcId (dom unit sub : Nat) : Nat := dom * 1024 + unit * 16 + sub

/-- The SRC_ID of physical channel `p` (R21). -/
def srcChannel (p : Nat) : Nat := srcId 1 (4 * (p / 24) + p % 24 / 6) (p % 24 % 6)

/-- The segment that holds the element an SRC_ID names (R22); 0xFF where no one segment does. -/
def qsegOf (src : Nat) : Nat :=
  let u := src / 16 % 64
  let sub := src % 16
  match src / 1024 with
  | 0 =>
    if u ≤ 7 then 0x41 else if u ≤ 0x0A then 0x42 else if u ≤ 0x0C then 0x43
    else if 0x10 ≤ u ∧ u ≤ 0x13 then 0x44 else if 0x14 ≤ u ∧ u ≤ 0x17 then 0x45
    else if u = 0x18 then 0x46 else 0xFF
  | 1 =>
    if u ≤ 0x0B then 0x01 + u / 4
    else if u ≤ 0x0D then 0x04 else if u ≤ 0x0F then 0x81
    else if u ≤ 0x23 then 0x82 + (u / 4 - 4)
    else if u = 0x24 then 0x05 else if u = 0x25 then 0x06
    else if u = 0x26 then 0x87 else if u = 0x27 then 0x88
    else if u = 0x28 then (if sub < 8 then 0x07 else 0x89)
    else if u = 0x29 then (if sub ≤ 4 then 0x09 else 0x8B)
    else if 0x30 ≤ u ∧ u ≤ 0x35 then 0x08 else if 0x36 ≤ u ∧ u ≤ 0x3B then 0x8A else 0xFF
  | 2 =>
    if u ≤ 0x1F then 0xC1 + u / 8
    else if u ≤ 0x22 then (if 16 * (u - 0x20) + sub ≤ 23 then 0xC5 else 0xC6)
    else if u = 0x28 then 0x47 else if u = 0x29 then 0x48
    else if u = 0x30 ∨ u = 0x31 then 0xC9
    else if u = 0x32 ∨ u = 0x33 then (if 16 * (u - 0x32) + sub ≤ 11 then 0x49 else 0xC8)
    else if u = 0x3C then 0xC7 else 0xFF
  | _ =>
    if u ≤ 1 then 0x0A else if u ≤ 3 then 0x0D else if u = 4 then 0x4A
    else if u ≤ 7 then 0x8D else if u ≤ 0x0B then 0xCA
    else if u ≤ 0x0D then 0x0B else if u ≤ 0x10 then 0x8C else if u = 0x11 then 0x4B
    else if u = 0x12 then (if sub = 1 then 0x00 else if sub = 2 then 0x40 else if sub = 3 then 0x80
      else if sub = 4 then 0xC0 else 0xFF)
    else if u = 0x13 ∨ u = 0x14 then 0x4C
    else if u = 0x18 then (if sub < 8 then 0x4D else 0xCB)
    else if u = 0x20 then (if sub = 4 then 0xCD else 0x0C)
    else if u = 0x21 ∨ u = 0x22 then 0xCC else if u = 0x23 ∨ u = 0x24 then 0xCD else 0xFF

/-- An SRC_ID that R19 and R20 list; the others never appear in a record. -/
def srcListed (src : Nat) : Bool :=
  let u := src / 16 % 64
  let sub := src % 16
  let upTo (n : Nat) : Bool := decide (sub ≤ n) || sub == 0xF
  if 4096 ≤ src then false
  else if src = 0xFFF then true
  else if u = 0x3F then sub == 0xE
  else
    match src / 1024 with
    | 0 =>
      if u ≤ 3 then upTo 4 else if u ≤ 7 then upTo 3 else if u ≤ 0x0A then upTo 2 else if u ≤ 0x0C then upTo 1
      else if 0x10 ≤ u ∧ u ≤ 0x17 then true else if u = 0x18 then upTo 9 else if u = 0x3E then decide (sub ≤ 2) else false
    | 1 =>
      if u ≤ 0x23 then upTo 5 || sub == 0xE else if u ≤ 0x27 then upTo 3 else if u = 0x28 then true
      else if u = 0x29 then upTo 8
      else if 0x30 ≤ u ∧ u ≤ 0x3B then sub == 0xF || decide (sub % 8 ≤ 3)
      else if u = 0x3E then decide (sub ≤ 8) else false
    | 2 =>
      if u ≤ 0x1F then upTo 4 else if u ≤ 0x22 then true else if u = 0x28 then upTo 1 else if u = 0x29 then true
      else if u = 0x30 ∨ u = 0x32 then true else if u = 0x31 ∨ u = 0x33 then upTo 7
      else if u = 0x3C then upTo 2 else if u = 0x3E then decide (sub ≤ 5) else false
    | _ =>
      if u ≤ 1 then upTo 3 else if u = 2 then upTo 1 else if u = 3 then true else if u = 4 then upTo 1
      else if u = 5 then upTo 2 else if u ≤ 7 then true else if u ≤ 0x0B then upTo 9 else if u ≤ 0x0F then upTo 4
      else if u ≤ 0x11 then upTo 1 else if u = 0x12 then upTo 4 else if u ≤ 0x14 then upTo 2 else if u = 0x18 then true
      else if u = 0x20 then upTo 5 else if u = 0x21 then upTo 2 else if u = 0x22 then true
      else if u = 0x23 ∨ u = 0x24 then upTo 0 else if u = 0x3E then decide (sub ≤ 4) else false

/-- A segment of R22. -/
def segOk (q : Nat) : Bool := decide (q < 256) && decide (q % 64 ≤ 0x0E)

/-- The pages that show the state of the element an SRC_ID names (R10, R19). -/
def pagesOf (src : Nat) : List Nat :=
  let u := src / 16 % 64
  let sub := src % 16
  match src / 1024 with
  | 0 => if u ≤ 7 then [0x10 + u] else if u ≤ 0x0C then [0x18] else if u ≤ 0x18 then [0x19] else []
  | 1 =>
    if u ≤ 0x23 then [0x20 + u / 4] else if u ≤ 0x27 then [0x30 + (u - 0x24)] else if u = 0x28 then [0x38]
    else if 0x30 ≤ u ∧ u ≤ 0x3B then
      (if sub = 15 then [0x40 + 2 * (u - 0x30), 0x41 + 2 * (u - 0x30)]
       else [0x40 + 2 * (u - 0x30) + (if sub < 8 then 0 else 1)])
    else if u = 0x3E ∧ sub ≤ 8 then [0x20 + sub] else []
  | 2 =>
    if u ≤ 0x1F then [0x60 + u] else if u ≤ 0x22 then [0x80] else if u = 0x28 ∨ u = 0x29 then [0x88]
    else if u = 0x30 ∨ u = 0x31 then [0x90 + 16 * (u - 0x30) + sub]
    else if u = 0x32 ∨ u = 0x33 then [0x90 + 16 * (u - 0x32) + sub]
    else if u = 0x3C then [0x60] else []
  | _ =>
    if u ≤ 1 then [8 + u] else if u = 2 then [0xB0] else if u = 3 then [0xB1] else if u = 4 then [6]
    else if u ≤ 7 then [0xB8] else if u ≤ 0x0B then [0xC0 + (u - 8)] else if u ≤ 0x0F then [0xC8 + (u - 0xC)]
    else if u = 0x10 then [0xCC] else if u = 0x11 then [4] else if u = 0x12 then [5] else if u = 0x13 then [3]
    else if u = 0x20 then [1] else if u = 0x21 then [2] else if u = 0x22 then [0] else if u = 0x23 then [5] else []

/-! ### Fault messages -/

/-- The settings of the KINDs at reset (R455): KIND, SEV, REACT, N, PREACT. -/
def kindTable : List (Nat × Nat × Nat × Nat × Nat) := [
  (0x01, 1, 0, 0, 0), (0x02, 1, 0, 16, 0), (0x03, 1, 2, 4, 2), (0x04, 2, 2, 2, 1), (0x05, 2, 0, 0, 0),
  (0x06, 0, 0, 0, 0), (0x07, 1, 0, 0, 0), (0x08, 3, 4, 0, 0), (0x10, 1, 0, 64, 0), (0x11, 1, 0, 64, 0),
  (0x12, 1, 0, 8, 0), (0x13, 1, 0, 0, 0), (0x14, 1, 0, 16, 0), (0x15, 1, 0, 16, 0), (0x17, 2, 0, 0, 0),
  (0x18, 2, 0, 0, 0), (0x19, 1, 0, 0, 0), (0x1A, 2, 0, 0, 0), (0x1B, 1, 0, 8, 0), (0x1C, 1, 0, 64, 0),
  (0x1D, 1, 0, 8, 0), (0x1E, 2, 0, 0, 0), (0x1F, 2, 0, 0, 0), (0x20, 1, 0, 0, 0), (0x21, 1, 0, 16, 0),
  (0x22, 2, 2, 0, 0), (0x30, 2, 0, 0, 0), (0x31, 1, 0, 64, 0), (0x32, 3, 1, 0, 0), (0x33, 3, 1, 0, 0),
  (0x34, 2, 0, 2, 0), (0x35, 2, 3, 0, 0), (0x38, 2, 0, 3, 1), (0x39, 1, 0, 8, 0), (0x3A, 1, 0, 8, 0),
  (0x3B, 2, 0, 0, 0), (0x3C, 1, 0, 16, 0), (0x40, 1, 0, 64, 0), (0x41, 2, 0, 0, 0), (0x42, 1, 0, 2, 0),
  (0x43, 2, 0, 0, 0), (0x50, 2, 0, 0, 0), (0x51, 1, 0, 8, 0), (0x52, 2, 0, 0, 0), (0x53, 1, 0, 0, 0),
  (0x54, 1, 0, 0, 0), (0x55, 2, 0, 0, 0), (0x56, 1, 0, 64, 0), (0x57, 2, 0, 0, 0), (0x58, 1, 0, 8, 0),
  (0x59, 2, 0, 0, 0), (0x5A, 2, 0, 0, 0), (0x5B, 2, 0, 0, 0), (0x5C, 3, 4, 0, 0), (0x5D, 1, 0, 0, 0)]

/-- The reset settings of a KIND; `none` for a code R455 does not list. -/
def kindReset (k : Nat) : Option KindCfg :=
  (kindTable.find? fun e => e.1 == k).map fun e => ⟨e.2.1, e.2.2.1, e.2.2.2.1, e.2.2.2.2⟩

/-- The settings of a KIND in force (FLT.KCFG, R456). -/
def State.kcfg (s : State) (k : Nat) : KindCfg :=
  match tget none s.flt.kcfg k with
  | some c => c
  | none => (kindReset k).getD {}

/-- Count lost messages in a field of four 8-bit counters, one per domain (DROP, RL_DROP; R469). -/
def State.bumpDomain (s : State) (f : Field) (dom n : Nat) : State :=
  s.wr f (putBits (s.rd f) (8 * (dom % 4)) 8 (satN 8 (bits (s.rd f) (8 * (dom % 4)) 8 + n)))

/-- The collector can take messages: its clock runs and its domain is not held (R41, R12). -/
def State.fltOn (s : State) : Bool := s.coreOn && s.domOn 3

/-- A message goes to the collector at `t`. -/
def State.sendAt (s : State) (m : Msg) (rep : Nat) (inj : Bool) (t : Nat) : State :=
  if s.fltOn then { s with flt := { s.flt with arriving := s.flt.arriving ++ [⟨m, rep, inj, t⟩] } } else s

/-- A message goes to the collector now. -/
def State.sendMsg (s : State) (m : Msg) (rep : Nat) (inj : Bool) : State := s.sendAt m rep inj s.tb

/-- The microsecond of a source is over: its waiting message was sent at its end, with its repeat count (R445). -/
def State.slotDue (s : State) (src : Nat) : State :=
  let sl := tget {} s.flt.slots src
  match sl.wait, sl.last with
  | some (m, inj), some l =>
    if s.tb < l + 400 then s
    else ({ s with flt := { s.flt with slots := tput {} s.flt.slots src { last := some (l + 400) } } } : State).sendAt m sl.rep inj (l + 400)
  | _, _ => s

/-- The sender side of R445: one message per source and microsecond (400 ticks), one waiting message, repeats counted,
a higher severity replaces the waiting one, anything else is dropped. -/
def State.raiseMsg (s : State) (m : Msg) (inj : Bool) : State :=
  let s := s.slotDue m.src
  let sl := tget {} s.flt.slots m.src
  let set (s : State) (sl : SendSlot) : State := { s with flt := { s.flt with slots := tput {} s.flt.slots m.src sl } }
  match sl.wait with
  | some (w, _) =>
    if m.sev > w.sev then
      (set s { sl with wait := some (m, inj), rep := 0 }).bumpDomain FLT_RL_DROP_CNT (w.src / 1024) (1 + sl.rep)
    else if w.cause = m.cause ∧ w.kind = m.kind then set s { sl with rep := sl.rep + 1 }
    else s.bumpDomain FLT_RL_DROP_CNT (m.src / 1024) 1
  | none =>
    match sl.last with
    | some l =>
      if s.tb < l + 400 then set s { sl with wait := some (m, inj), rep := 0 }
      else (set s { sl with last := some s.tb }).sendMsg m 0 inj
    | none => (set s { sl with last := some s.tb }).sendMsg m 0 inj

/-- PG_FAULT of a page takes a fault (R67): the first one after VALID was cleared, OVF for another KIND. -/
def State.pgFault (s : State) (p : Nat) (m : Msg) : State :=
  if s.on (PG_FAULT_VALID p) then
    if s.rd (PG_FAULT_KIND p) = m.kind then s else s.wr (PG_FAULT_OVF p) 1
  else
    ((((s.setBits (PG_FAULT_VALID p) 1).wr (PG_FAULT_SEV p) m.sev).wr (PG_FAULT_KIND p) m.kind).wr
      (PG_FAULT_DETAIL p) m.detail).wr (PG_FAULT_OVF p) 0

/-- A block raises a message of a KIND at its severity in force, blaming itself, with its segment (R23, R444, R506). -/
def State.raise (s : State) (src kind detail : Nat) : State :=
  let m : Msg := { src, qseg := qsegOf src, kind, sev := (s.kcfg kind).sev, cause := src, detail := detail % 2 ^ 22 }
  ((pagesOf src).foldl (fun s p => s.pgFault p m) s).raiseMsg m false

/-- A fault whose condition stays: PG_FAULT.LIVE reads 1 until `clearLive` (R67, R71). -/
def State.raiseLive (s : State) (src kind detail : Nat) : State :=
  let m : Msg := { src, qseg := qsegOf src, kind, sev := (s.kcfg kind).sev, cause := src, detail := detail % 2 ^ 22 }
  let s := { s with flt := { s.flt with live := (pagesOf src).foldl (fun l p => tput none l p (some m)) s.flt.live } }
  s.raise src kind detail

/-- The fault condition of a page has ended. -/
def State.clearLive (s : State) (p : Nat) : State :=
  { s with flt := { s.flt with live := tput none s.flt.live p none } }

/-- A page's own AMBER reaction is in force, or ends (R454). -/
def State.setAmber (s : State) (p : Nat) (on : Bool) : State :=
  { s with flt := { s.flt with amber := (s.flt.amber.filter (· != p)) ++ (if on then [p] else []) } }

/-- The L5 group `sub` of domain `dom` holds unit `u` (R20). -/
def groupHas (dom sub u : Nat) : Bool :=
  match dom, sub with
  | 0, 0 => decide (u ≤ 3) || (decide (8 ≤ u) && decide (u ≤ 0x0C))
  | 0, 1 => decide (4 ≤ u) && decide (u ≤ 7)
  | 0, 2 => decide (0x10 ≤ u) && decide (u ≤ 0x18)
  | 1, t => decide (u ≤ 0x23) && decide (u / 4 = t)
  | 2, 4 => decide (0x20 ≤ u) && decide (u ≤ 0x22)
  | 2, 5 => u == 0x28 || u == 0x29 || (decide (0x30 ≤ u) && decide (u ≤ 0x33))
  | 2, g => decide (u ≤ 0x1F) && decide (u / 8 = g)
  | 3, 0 => decide (u ≤ 1)
  | 3, 1 => u == 0x0C || u == 0x0D
  | 3, 2 => u == 0x0E || u == 0x0F
  | 3, 3 => decide (5 ≤ u) && decide (u ≤ 7)
  | 3, 4 => decide (8 ≤ u) && decide (u ≤ 0x0B)
  | _, _ => false

/-- Element `c` is or contains element `e` (R19, R20). -/
def covers (c e : Nat) : Bool :=
  c == e || c == 0xFFF ||
  (c / 1024 == e / 1024 &&
    ((c / 16 % 64 == 0x3F && c % 16 == 0xE) ||
     (c / 16 % 64 == 0x3E && groupHas (c / 1024) (c % 16) (e / 16 % 64)) ||
     (c / 16 % 64 == e / 16 % 64 && c % 16 == 0xF)))

/-- The element is in its CRIMSON state, itself or within a larger one (R454). -/
def State.crimson (s : State) (src : Nat) : Bool := s.flt.crim.any (covers · src)

/-- PG_STAT.CRIMSON of a page (R67). -/
def State.pageCrimson (s : State) (p : Nat) : Bool := s.flt.crim.any fun c => (pagesOf c).contains p

/-- The comparators give outputs: neither their domain is held nor their unit in CRIMSON (R11, R454). -/
def State.cmpUp (s : State) : Bool := s.domOn 2 && !s.pageCrimson 0x80

/-- Package CRIMSON (R454). -/
def State.pkgCrimson (s : State) : Bool := s.on FLT_FLT_STAT_PKG_CRIMSON

/-! ### Words with hard errors (R464) -/

/-- The units (64·domain + unit) that a segment holds a part of. -/
def segUnits (q : Nat) : List Nat :=
  (List.range 256).filter fun u => (List.range 16).any fun sub => qsegOf (16 * u + sub) == q

/-- The lowest element that contains every one of these units (R17, R23). -/
def lowestElem (us : List Nat) : Nat :=
  match us with
  | [] => 0xFFF
  | [u] => 16 * u + 0xF
  | u :: _ =>
    let d := u / 64
    if us.all fun v => v / 64 == d then
      match (List.range 16).find? fun g => us.all fun v => groupHas d g (v % 64) with
      | some g => srcId d 0x3E g
      | none => srcId d 0x3F 0xE
    else 0xFFF

/-- The tile and quarter whose parameter memory bank `b` of segment `q` is (R22; assumption log 86). -/
def tileBank (q b : Nat) : Option (Nat × Nat) :=
  if 1 ≤ q ∧ q ≤ 3 ∧ b < 4 then some (q - 1, b)
  else if q = 4 ∧ b < 2 then some (3, b)
  else if q = 0x81 ∧ b < 2 then some (3, 2 + b)
  else if 0x82 ≤ q ∧ q ≤ 0x86 ∧ b < 4 then some (q - 0x82 + 4, b)
  else none

/-- The element of a memory bank's words: for a tile's parameter memory the quarter, for the event table the bank, whose collar shows which; else what contains every unit of
the segment (R23). -/
def bankElem (q b : Nat) : Nat :=
  match tileBank q b with
  | some (t, u) => srcId 1 (4 * t + u) 0xF
  | none =>
  if q = 0x44 then srcId 0 (0x10 + b % 4) 0xF
  else if q = 0x45 then srcId 0 (0x14 + b % 4) 0xF
  else lowestElem (segUnits q)

/-- A memory's SECDED reports a word (R23). -/
def State.ramRecord (s : State) (kind q b a : Nat) : State :=
  let e := bankElem q b
  let m : Msg := { src := e, qseg := q, kind, sev := (s.kcfg kind).sev, cause := e, detail := a % 2 ^ 18 }
  ((pagesOf e).foldl (fun s p => s.pgFault p m) s).raiseMsg m false

/-- The hard error that a read of word `a` of bank `b` finds: false where SECDED corrects it, true where it cannot. A word with an
error that cannot be corrected was written as 0 with valid check bits (R464), so it shows again only where no spare row was left
for it. -/
def State.badAt (s : State) (q b a : Nat) : Option Bool :=
  match s.bad.find? fun w => w.q == q && w.b == b && w.a == a with
  | some w => if w.unc && !(tget {} s.maint.rep (16 * q + b)).exhausted then none else some w.unc
  | none => none

/-- A GREY record of the configuration kind (KIND 0x01, R506): the code, and the index or 0xFFF for none. -/
def State.cfgRec (s : State) (src code idx : Nat) : State := s.raise src 0x01 (code % 256 + idx % 4096 * 256)

/-! ### Router pulses -/

/-- Source `n` pulses (R369). -/
def State.pulse (s : State) (n : Nat) : State := { s with rtr := { s.rtr with pulses := s.rtr.pulses ++ [(n, s.tb)] } }

/-! ### Memory -/

/-- One byte; a byte nothing has written reads 0 (assumption log 6). -/
def rdByte (m : List Host.Cell) (a : Nat) : BitVec 8 := tget 0 m a

/-- One byte written; the list keeps its canonical form. -/
def wrByte (m : List Host.Cell) (a : Nat) (v : BitVec 8) : List Host.Cell := tput 0 m a v

/-- The word at `a`, byte lane 0 at the lowest address (R376). -/
def rdWord (m : List Host.Cell) (a : Nat) : Nat :=
  (rdByte m a).toNat + 256 * (rdByte m (a + 1)).toNat + 65536 * (rdByte m (a + 2)).toNat +
    16777216 * (rdByte m (a + 3)).toNat

/-- The word at `a` written, lanes as `be` enables them. -/
def wrWordBe (m : List Host.Cell) (a v be : Nat) : List Host.Cell :=
  (List.range 4).foldl (fun m i => if bit be i then wrByte m (a + i) (BitVec.ofNat 8 (v / 256 ^ i)) else m) m

/-- The word at `a` written. -/
def wrWord (m : List Host.Cell) (a v : Nat) : List Host.Cell := wrWordBe m a v 15

/-- Base of mailbox SRAM (R61). -/
def mbxBase : Nat := 0x10000000
/-- Base of the event table (R61, R64). -/
def evtBase : Nat := 0x20000000
/-- Base of the microcode stores (R61, R63). -/
def ucodeBase : Nat := 0x30000000

/-! ### Mailbox queues (R115 to R117) -/

/-- Queue `n` of port `x` is usable (R115). -/
def State.mbqUsable (s : State) (x n : Nat) : Bool :=
  s.on (HOST_MBQ_CFG_EN x n) && decide (4 ≤ s.rd (HOST_MBQ_CFG_LOG2 x n)) && decide (s.rd (HOST_MBQ_CFG_LOG2 x n) ≤ 13) &&
  decide (s.rd (HOST_MBQ_CFG_BASE x n) / 4 * 4 + 4 * 2 ^ s.rd (HOST_MBQ_CFG_LOG2 x n) ≤ 0x40000)

/-- Words from HEAD to TAIL; the indices run modulo 2^16 (assumption log 9). -/
def State.mbqLevel (s : State) (x n : Nat) : Nat :=
  subMod 65536 (s.rd (HOST_MBQ_PTR_TAIL x n)) (s.rd (HOST_MBQ_PTR_HEAD x n))

/-- The address of word index `i` of the queue. -/
def State.mbqAddr (s : State) (x n i : Nat) : Nat :=
  mbxBase + s.rd (HOST_MBQ_CFG_BASE x n) / 4 * 4 + 4 * (i % 2 ^ s.rd (HOST_MBQ_CFG_LOG2 x n))

/-- A record of words fits (R117). -/
def State.mbqFits (s : State) (x n len : Nat) : Bool :=
  s.mbqUsable x n && decide (s.mbqLevel x n + len ≤ 2 ^ s.rd (HOST_MBQ_CFG_LOG2 x n))

/-- The words stored from the tail on. -/
def State.mbqStore (s : State) (x n : Nat) : List Nat → State
  | [] => s
  | w :: ws =>
    let i := s.rd (HOST_MBQ_PTR_TAIL x n)
    (({ s with mem := wrWord s.mem (s.mbqAddr x n i) w } : State).wr (HOST_MBQ_PTR_TAIL x n) (i + 1)).mbqStore x n ws

/-- Append a producer's record, or drop it whole (R117). -/
def State.mbqAppend (s : State) (x n : Nat) (ws : List Nat) : State :=
  if s.mbqFits x n ws.length then s.mbqStore x n ws
  else (s.inc (HOST_MBQ_STAT_DROP x n)).iflag (8 + x) 3

/-- Release every delivered word (R116). -/
def State.mbqRelease (s : State) (x n : Nat) : State :=
  (s.wr (HOST_MBQ_PTR_HEAD x n) (s.rd (HOST_MBQ_PTR_HEAD x n) + s.rd (HOST_MBQ_STAT_RSVD_W x n))).wr
    (HOST_MBQ_STAT_RSVD_W x n) 0

end Sys2Proof.Machine
end

