-- ==== Sys2Proof/Machine/Budg.lean ====
section
/-! DEFINITION. The budget frame (R50 to R57): grants, held requests, and the check of a commit. -/

namespace Sys2Proof.Machine

open Reg

/-- The budget indexes of the point that index `n` belongs to (R52). -/
def pointOf (n : Nat) : List Nat :=
  if n < 48 then (List.range 16).map (16 * (n / 16) + ·)
  else if n < 60 then (List.range 3).map (48 + 3 * ((n - 48) / 3) + ·)
  else [60, 61, 62]

/-- All points of R52, as lists of their indexes. -/
def budgetPoints : List (List Nat) := [0, 16, 32, 48, 51, 54, 57, 60].map pointOf

/-- The setting in force of index `n` (R55). -/
def State.bset (s : State) (n : Nat) : BSet := tget {} s.budg.force n

/-- Use and held requests of index `n` in this frame. -/
def State.buse (s : State) (n : Nat) : Nat := tget 0 s.budg.use n

/-- Held requests of index `n` in this frame. -/
def State.bheld (s : State) (n : Nat) : Nat := tget 0 s.budg.held n

/-- Cycles left in the frame (R53). DESIGN CHOICE: of the 7,999 to 8,001 CORE cycles that R51 allows a frame from PLL_TB the model
takes 8,000, one for each TB tick (assumption log 69). -/
def State.cyclesLeft (s : State) : Nat := 8000 - s.tb % 8000

/-- The interconnect target an address belongs to (R52): 0 mailbox SRAM, 1 register pages, 2 event-table ports; other
regions are no target of R52. -/
def targetOf (a : Nat) : Option Nat :=
  if 0x10000000 ≤ a ∧ a < 0x10040000 then some 0
  else if 0x40000000 ≤ a ∧ a < 0x40100000 then some 1
  else if 0x20000000 ≤ a ∧ a < 0x20010000 then some 2
  else none

/-- A DMA channel that is BUSY for a master has beats to make at a target. -/
def State.dmaPends (s : State) (t m c : Nat) : Bool :=
  s.rd (DMA_CH_STAT_STATE c) == 2 && s.rd (DMA_CH_STAT_OWNER c) == m &&
  (targetOf (s.rd (DMA_CH_SRC_ADDR c)) == some t || targetOf (s.rd (DMA_CH_DST_ADDR c)) == some t)

/-- A host frame that runs across budget frames has words left at a target (R57). -/
def State.hostPends (s : State) (t m : Nat) : Bool :=
  match (tget {} s.host m).frame with
  | some f => f.across && !f.fin && targetOf (if f.op = 0x20 then f.pay.headD 0 else f.addr) == some t
  | none => false

/-- MAC pipeline cycles that the CMU's class of index `n` still has to do (R52, R340). -/
def State.macWork (s : State) (n : Nat) : Nat :=
  if n = 60 then s.cmu.left.sum else if n = 61 then s.cmu.volLeft else s.cmu.rcLeft

/-- The consumer of index `n` has a request pending (R53): one that waits for the boundary, a DMA channel or a host frame with
beats left, service requests of an engine's class, work of the CMU's class. -/
def State.budgetPends (s : State) (n : Nat) : Bool :=
  s.budg.wait.contains n ||
  (if n < 48 then s.hostPends (n / 16) (n % 16) || (List.range 32).any (s.dmaPends (n / 16) (n % 16))
   else if n < 60 then
     let x := tget {} s.gel ((n - 48) / 3)
     tget [] x.reqs ((n - 48) % 3) != []
   else decide (0 < s.macWork n))

/-- Unmet floors of the other consumers of the point that have requests pending (R53; assumption log 10). -/
def State.unmetFloors (s : State) (n : Nat) : Nat :=
  (((pointOf n).filter fun i => i != n && s.budgetPends i).map fun i => (s.bset i).floor - s.buse i).sum

/-- R53 grants `k` further cycles to index `n` now, in the frame that runs. A consumer whose request is held waits for the frame's
boundary (R54). While the timebase counts from the LF clock, budgets do not bind (R46). -/
def State.grantable (s : State) (n k : Nat) : Bool :=
  let b := s.bset n
  let u := s.buse n
  k == 0 || s.on TB_TB_STAT_LFMODE ||
  (!s.budg.wait.contains n &&
   ((decide (u + k ≤ b.floor) && decide (k ≤ s.cyclesLeft)) ||
    (b.slack && decide (u + k ≤ b.ceil) && decide (s.unmetFloors n + k ≤ s.cyclesLeft))))

/-- Count `k` granted cycles. -/
def State.useBudget (s : State) (n k : Nat) : State :=
  { s with budg := { s.budg with use := tput 0 s.budg.use n (s.buse n + k) } }

/-- Count a held request. -/
def State.holdBudget (s : State) (n : Nat) : State :=
  { s with budg := { s.budg with held := tput 0 s.budg.held n (s.bheld n + 1) } }

/-- The request of index `n` waits for the frame boundary; it counts as held once (R54). -/
def State.waitBudget (s : State) (n : Nat) : State :=
  if s.budg.wait.contains n then s
  else
    let s := s.holdBudget n
    { s with budg := { s.budg with wait := s.budg.wait ++ [n] } }

/-- An access of master `m` at target `t` is refused: a host is answered BUSY and asks again (R57), another master waits (R54). -/
def State.refuseBudget (s : State) (t m : Nat) : State :=
  if m < 2 then s.holdBudget (16 * t + m) else s.waitBudget (16 * t + m)

/-! ### The CMU MAC pipeline (R52, R340) -/

/-- `k` cycles spent on work done in its order. -/
def spendOn : Nat → List Nat → List Nat
  | _, [] => []
  | k, w :: r => (w - k) :: spendOn (k - w) r

/-- `k` cycles of the pipeline go to the class of index `n`. -/
def State.macGive (s : State) (n k : Nat) : State :=
  let c := s.cmu
  let s := s.useBudget n k
  if n = 60 then { s with cmu := { c with left := spendOn k c.left } }
  else if n = 61 then { s with cmu := { c with volLeft := c.volLeft - k } }
  else { s with cmu := { c with rcLeft := c.rcLeft - k } }

/-- Of `e` cycles, those that the class of index `n` takes below its FLOOR, or between its FLOOR and CEIL as slack (R53). -/
def State.macShare (s : State) (n e : Nat) (slack : Bool) : Nat :=
  let b := s.bset n
  let top := if slack then (if b.slack then b.ceil else 0) else b.floor
  min (min e (s.macWork n)) (top - s.buse n)

/-- The cycles of the MAC pipeline since it was last looked at are dealt out: floors before slack, classes in order (R53; assumption
log 88). A class that is refused a cycle waits for the boundary (R54). While the timebase counts from the LF clock, budgets do not
bind (R46). -/
def State.macSettle (s : State) : State :=
  if s.macWork 60 + s.macWork 61 + s.macWork 62 = 0 then s
  else
    let e := s.now - s.cmu.macAt
    let s : State := { s with cmu := { s.cmu with macAt := max s.cmu.macAt s.now } }
    let deal (lf slack : Bool) (a : State × Nat) (n : Nat) : State × Nat :=
      let k := if lf then min a.2 (a.1.macWork n) else a.1.macShare n a.2 slack
      (a.1.macGive n k, a.2 - k)
    if s.on TB_TB_STAT_LFMODE then ([60, 61, 62].foldl (deal true false) (s, e)).1
    else
      let r := [60, 61, 62].foldl (deal false true) ([60, 61, 62].foldl (deal false false) (s, e))
      [60, 61, 62].foldl (fun s n => if 0 < r.2 ∧ 0 < s.macWork n then s.waitBudget n else s) r.1

/-- The pipeline spends `k` cycles from now on. -/
def State.macBusy (s : State) (k : Nat) : State := { s with cmu := { s.cmu with macAt := max s.cmu.macAt s.now + k } }

/-- New work starts no earlier than now. -/
def State.macStart (s : State) : State :=
  if s.macWork 60 + s.macWork 61 + s.macWork 62 = 0 then { s with cmu := { s.cmu with macAt := max s.cmu.macAt s.now } }
  else s.macSettle

/-- Count beats granted on a page, and held accesses (PG_BUDGET, R67). -/
def State.usePage (s : State) (p k : Nat) : State :=
  { s with budg := { s.budg with pageUse := tput 0 s.budg.pageUse p (tget 0 s.budg.pageUse p + k) } }

/-- Count an access held on a page. -/
def State.holdPage (s : State) (p : Nat) : State :=
  { s with budg := { s.budg with pageHeld := tput 0 s.budg.pageHeld p (tget 0 s.budg.pageHeld p + 1) } }

/-- The shadow settings as written in BCFG (R55). -/
def State.shadowSet (s : State) (n : Nat) : BSet :=
  { floor := s.rd (BUDG_BCFG_FLOOR n), ceil := s.rd (BUDG_BCFG_CEIL n), slack := s.on (BUDG_BCFG_SLACK n) }

/-- The index at which the running sum of the floors of a point first exceeds 7,600 (R55). -/
def overSum (fl : Nat → Nat) : List Nat → Nat → Option Nat
  | [], _ => none
  | n :: r, sum => if 7600 < sum + fl n then some n else overSum fl r (sum + fl n)

/-- Indexes that offend (R55). -/
def State.offenders (s : State) : List Nat :=
  ((List.range 63).filter fun n => decide ((s.shadowSet n).ceil < (s.shadowSet n).floor)) ++
  budgetPoints.filterMap fun p => overSum (fun n => (s.shadowSet n).floor) p 0

/-- The lowest of a list of numbers. -/
def lowest : List Nat → Option Nat
  | [] => none
  | n :: r => match lowest r with
    | none => some n
    | some k => some (min n k)

/-- The block's part of a write of BUDG_CTRL.COMMIT = 1 (R55). -/
def State.budgetCommit (s : State) : State :=
  match lowest s.offenders with
  | some n => ((s.setBits BUDG_BUDG_STAT_REFUSED 1).wr BUDG_BUDG_STAT_REF_IDX n).cfgRec (srcId 3 0x21 0xF) 0 n
  | none =>
    let sets : Tab BSet := (List.range 63).foldl (fun t n => tput {} t n (s.shadowSet n)) []
    ({ s with budg := { s.budg with pending := some sets } } : State).wr BUDG_BUDG_STAT_PENDING 1

/-- The budget part of a frame boundary: a pending commit takes effect, BUSE and PG_BUDGET take the frame's figures, and
use restarts from zero (R54, R55, R67). -/
def State.budgetFrame (s : State) : State :=
  let s := s.macSettle
  let b := s.budg
  let s := (List.range 63).foldl
    (fun s n =>
      ((s.wr (BUDG_BUSE_USED n) (satN 13 (tget 0 b.use n))).wr (BUDG_BUSE_HELD n) (satN 13 (tget 0 b.held n))).wr
        (BUDG_BUSE_OVER n) (b2n (decide (0 < tget 0 b.held n)))) s
  let pages := (List.range 0xCD).filter fun p => (pageKind p).isSome
  let s := pages.foldl
    (fun s p =>
      ((s.wr (PG_BUDGET_USED p) (satN 13 (tget 0 b.pageUse p))).wr (PG_BUDGET_HELD p) (satN 13 (tget 0 b.pageHeld p))).wr
        (PG_BUDGET_OVER p) (b2n (decide (0 < tget 0 b.pageHeld p)))) s
  let s := { s with dma := { s.dma with
    ch := (List.range 32).foldl
      (fun (l : Tab DmaC) c =>
        let x : DmaC := tget {} l c
        tput {} l c { x with wait := false }) s.dma.ch } }
  match b.pending with
  | some sets =>
    ({ s with budg := { force := sets } } : State).wr BUDG_BUDG_STAT_PENDING 0
  | none => { s with budg := { force := b.force } }

end Sys2Proof.Machine
end

