-- ==== Sys2Proof/Machine/Access.lean ====
section
/-! DEFINITION. The access rules of the interconnect: the address map (R61 to R66), the decision of R74, the capture of
R75 and R81, what a unit's being stopped means for RWS fields, and a plain write by field type (R7). -/

namespace Sys2Proof.Machine

open Reg

/-- Where an address leads (R61). -/
inductive Region where
  | rom
  | mbx (bank : Nat)
  | evt (entry word : Nat)
  | ucode (g i half : Nat)
  | page (p o : Nat)
  | remote (n o : Nat)
  | bad
  deriving DecidableEq, Repr

/-- The region of a word address (R61 to R66); an address that is not decoded, an unassigned page and an offset no
register occupies are `bad` (R62). -/
def regionOf (a : Nat) : Region :=
  if a % 4 ≠ 0 then .bad
  else if a < 0x10000 then .rom
  else if 0x10000000 ≤ a ∧ a < 0x10040000 then .mbx ((a - 0x10000000) / 0x4000)
  else if 0x20000000 ≤ a ∧ a < 0x20010000 then .evt ((a - 0x20000000) / 16) ((a - 0x20000000) / 4 % 4)
  else if 0x30000000 ≤ a ∧ a < 0x30040000 then
    .ucode ((a - 0x30000000) / 0x10000) ((a - 0x30000000) % 0x10000 / 8) (a / 4 % 2)
  else if 0x40000000 ≤ a ∧ a < 0x40100000 then
    match fieldsAt ((a - 0x40000000) / 0x1000) (a % 0x1000) with
    | some _ => .page ((a - 0x40000000) / 0x1000) (a % 0x1000)
    | none => .bad
  else if 0x50000000 ≤ a ∧ a < 0x54000000 then .remote ((a - 0x50000000) / 0x1000000) (a % 0x1000000)
  else .bad

/-- The 2-bit field of master `m` in an access table (R73). -/
def aclOf (acl m : Nat) : Nat := bits acl (2 * m) 2

/-- A host before READY, whose rights no access table sets (R473). -/
def State.preBoot (s : State) (m : Nat) : Bool := decide (m < 2) && s.rd (HOST_BOOT_STAT_STATE 0) != 0x20

/-- The rights of a host before READY (R473). -/
def bootRight (r : Region) : Nat :=
  match r with
  | .mbx 0 => 2
  | .page p _ => if p = 8 ∨ p = 9 then 2 else if p = 0 ∨ p = 1 ∨ p = 3 ∨ p = 4 ∨ p = 0xB0 then 1 else 0
  | _ => 0

/-- What the access tables grant master `m` in a region (R61, R63, R73, R79); in a microcode store they grant reads, and BOOT's
writes stand in `writeCode`. -/
def State.tableRight (s : State) (r : Region) (m : Nat) : Nat :=
  match r with
  | .rom => 0
  | .mbx b => aclOf (s.rd (SYS_MBX_ACL_ACL b)) m
  | .evt _ _ => aclOf (s.rd SYS_EVT_ACL_ACL) m
  | .ucode _ _ _ => min 1 (aclOf (s.rd SYS_UCODE_ACL_ACL) m)
  | .page p _ => aclOf (s.rd (PG_ACL_ACL p)) m
  | .remote _ _ => aclOf (s.rd SYS_REM_ACL_ACL) m
  | .bad => 0

/-- What master `m` may do in a region: 0 NONE, 1 RO, 2 RW, 3 RW+ACL. -/
def State.rightIn (s : State) (r : Region) (m : Nat) : Nat := if s.preBoot m then bootRight r else s.tableRight r m

/-- An address of an access table or of PG_ACLK (R74). -/
def isAclReg (p o : Nat) : Bool :=
  o == 0x28 || o == 0x2C || (p == 0 && 0x80 ≤ o && o < 0xCC)

/-- The unit of the RWS fields at an offset is stopped: the page's unit while PG_CTRL.EN is 0, or the unit the block's
chapter names (R7, R74; R256 for GEL, R258, R264, R325, R358, R362, R383, R405). -/
def State.unitStopped (s : State) (p o : Nat) : Bool :=
  match pageKind p with
  | some (.tile, t) => !s.on (TILE_CH_CTRL_EN t ((o - 0x100) / 0x20))
  | some (.gel, g) =>
    if o = 0x90 ∨ o = 0x94 then s.rd (GEL_GEL_STAT_STATE g) == 0 else !s.on (PG_CTRL_EN p)
  | some (.out, _) => s.rd OUT_ARM_STAT_STATE != 1
  | some (.cmp, _) => !s.on (CMP_CMP_CFG_EN ((o - 0x100) / 0x10))
  | some (.gpt, _) =>
    if o = 0x40 then true else !s.on (GPT_GPT_CFG_EN ((o - 0x100) / 0x20))
  | some (.dma, _) =>
    let st := s.rd (DMA_CH_STAT_STATE ((o - 0x100) / 0x20))
    st == 0 || st == 4 || st == 5
  | some (.pio, x) => !s.on (PIO_SLOT_CFG_EN x ((o - 0x100) / 0x20))
  | _ => !s.on (PG_CTRL_EN p)

/-- The bits of CHAIN whose pairs have a member enabled (R362). -/
def State.chainLocked (s : State) : Nat :=
  ((List.range 8).map fun i =>
    if s.on (GPT_GPT_CFG_EN (2 * i)) || s.on (GPT_GPT_CFG_EN (2 * i + 1)) then 2 ^ i else 0).sum

/-! ### The counts of general timers (R358, R359, R362) -/

/-- Timer `n` beside its registers. -/
def State.gp (s : State) (n : Nat) : GptS := tget {} s.gpt n

/-- Timer `n` changed. -/
def State.modGp (s : State) (n : Nat) (f : GptS → GptS) : State := { s with gpt := tput {} s.gpt n (f (s.gp n)) }

/-- Timer `n` is a member of a pair (R362). -/
def State.gpPair (s : State) (n : Nat) : Bool := bit (s.rd GPT_CHAIN_PAIR) (n / 2)

/-- The timer whose configuration governs timer `n` (R362). -/
def State.gpGov (s : State) (n : Nat) : Nat := if s.gpPair n then 2 * (n / 2) else n

/-- The counts of a lap: TOP + 1, a TOP of 0 acting as 1; 2^32 for the members of a pair (R358, R362). -/
def State.gpLap (s : State) (n : Nat) : Nat := if s.gpPair n then 2 ^ 32 else max 1 (s.rd (GPT_TOP_TOP n)) + 1

/-- The counts after which the compare repeats: of the timer, or of the pair. -/
def State.gpCmpLap (s : State) (n : Nat) : Nat := if s.gpPair n then 2 ^ 64 else s.gpLap n

/-- The compare value of a timer, or of its pair. -/
def State.gpCmp (s : State) (n : Nat) : Nat :=
  if s.gpPair n then s.rd (GPT_PAIR_CMP_LO_CMP (n / 2)) + 2 ^ 32 * s.rd (GPT_PAIR_CMP_HI_CMP (n / 2)) else s.rd (GPT_CMP_CMP n)

/-- SMODE in effect: a timer that names itself as master acts as free (R359). -/
def State.gpMode (s : State) (n : Nat) : Nat :=
  if s.on (GPT_GPT_CFG_TSRC n) && s.rd (GPT_GPT_CFG_MSTR n) == n then 0 else s.rd (GPT_GPT_CFG_SMODE n)

/-- The gate of mode 1 is open (R359). -/
def State.gpGate (s : State) (n : Nat) : Bool :=
  if s.on (GPT_GPT_CFG_TSRC n) then s.on (GPT_STAT_OUTL (s.rd (GPT_GPT_CFG_MSTR n))) else s.rtr.level.contains (16 + n)

/-- Prescaled ticks count now (R359, R366). -/
def State.gpCounts (s : State) (n : Nat) : Bool :=
  s.on (GPT_GPT_CFG_EN n) &&
  match s.gpMode n with
  | 0 => !s.on TB_TB_STAT_LFMODE || s.on (GPT_GPT_CFG_LF_RUN n)
  | 1 => s.gpGate n && (!s.on TB_TB_STAT_LFMODE || s.on (GPT_GPT_CFG_LF_RUN n))
  | 2 => !s.on TB_TB_STAT_LFMODE
  | _ => false

/-- The count of a governing timer brought up to tick `T` (R358). -/
def State.gpSync (s : State) (n T : Nat) : State :=
  let x := s.gp n
  if T ≤ x.at_ then s
  else if s.gpCounts n then
    let f := x.frac + (T - x.at_)
    let d := s.rd (GPT_PRE_PRE n) + 1
    s.modGp n fun x => { x with at_ := T, pos := x.pos + f / d, frac := f % d }
  else s.modGp n fun x => { x with at_ := T }

/-- Every count brought up to now. -/
def State.gpSyncAll (s : State) : State := (List.range 16).foldl (fun s n => s.gpSync n s.tb) s

/-- COUNT of timer `n` (R358, R362); a stopped timer's is as written. DESIGN CHOICE: a timer that starts with COUNT above TOP starts at
COUNT modulo TOP + 1 (assumption log 89). -/
def State.gpCount (s : State) (n : Nat) : Nat :=
  let g := s.gpGov n
  let p := ((s.gpSync g s.tb).gp g).pos
  if s.gpPair n then
    if s.on (GPT_GPT_CFG_EN g) then (if n = g then p % 2 ^ 32 else p / 2 ^ 32 % 2 ^ 32) else (s.gp n).pos % 2 ^ 32
  else if s.on (GPT_GPT_CFG_EN n) then p % s.gpLap n
  else p % 2 ^ 32

/-! ### Fields as the access rules see them -/

/-- The current value of a field: COUNT of a general timer runs (R358, R367). -/
def State.rdNow (s : State) (f : Field) : Nat :=
  if f.page = 0xB1 ∧ 0x100 ≤ f.off ∧ (f.off - 0x100) % 0x20 = 0x0C then s.gpCount ((f.off - 0x100) / 0x20) else s.rd f

/-- The bits of a register that a page's capability leaves out: they read 0 and ignore writes (R153). -/
def capMask (p o : Nat) : Nat :=
  if 0x10 ≤ p ∧ p ≤ 0x17 then
    if o = 0x40 then (if 0x14 ≤ p then 0xF000 else if p = 0x11 ∨ p = 0x13 then 0x8000 else 0)
    else if o = 0x8C ∧ 0x14 ≤ p then 0xFFFFFFFF else 0
  else 0

/-- The bits of a write that a register of the page takes. -/
def capable (p o mk : Nat) : Nat := mk - Nat.land mk (capMask p o)

/-- A write of `v` through the mask `mk` to the bits of `f` would change it. -/
def State.changes (s : State) (f : Field) (v mk : Nat) : Bool :=
  let cur := s.rdNow f
  let m := bits mk f.lo f.w
  Nat.land (Nat.xor cur (bits v f.lo f.w)) m != 0

/-- A write would change an RWS field of a unit that is not stopped (R74). -/
def State.rwsDenied (s : State) (p o v mk : Nat) : Bool :=
  match fieldsAt p o with
  | none => false
  | some fs => fs.any fun f =>
      f.ty == .rws && s.changes f v (capable p o mk) &&
      (if p = 0xB1 ∧ o = 0x40 then s.changes f v (Nat.land mk s.chainLocked) else !s.unitStopped p o)

/-- A write reaches an RWL field of a locked page (R78). The tables of SYS lock with the SYS page. -/
def State.rwlDenied (s : State) (p o mk : Nat) : Bool :=
  s.on (PG_ACLK_LOCK p) &&
  (o == 0x2C ||
   match fieldsAt p o with
   | none => false
   | some fs => fs.any fun f => f.ty == .rwl && bits mk f.lo f.w != 0)

/-- PG_ID, PG_CAP and PG_STAT, which a NONE master reads as zero without a denial (R74). -/
def isOpenRead (o : Nat) : Bool := o == 0 || o == 4 || o == 0xC

/-- The decision of R74 on a write: 0 when it proceeds, else the code of SYS.ACC_ERR (R81). -/
def State.writeCode (s : State) (m a v mk : Nat) : Nat :=
  let r := regionOf a
  match r with
  | .bad => 2
  | .page p o =>
    if s.rightIn r m < 2 then 1
    else if isAclReg p o && s.rightIn r m != 3 then 6
    else if s.rwlDenied p o mk then 3
    else if s.rwsDenied p o v mk then 4
    else 0
  | .ucode _ _ _ => if m = 3 then 0 else 1
  | _ => if s.rightIn r m < 2 then 1 else 0

/-- The decision of R74 on a read. -/
def State.readCode (s : State) (m a : Nat) : Nat :=
  let r := regionOf a
  match r with
  | .bad => 2
  | .rom => if m = 3 then 0 else 1
  | .page _ o => if s.rightIn r m = 0 ∧ (!isOpenRead o || s.preBoot m) then 1 else 0
  | _ => if s.rightIn r m = 0 then 1 else 0

/-- A refused access is captured in SYS.ACC_ERR and raises a GREY record (R75, R81, R506). -/
def State.refuse (s : State) (m a : Nat) (wr : Bool) (code : Nat) : State :=
  let s :=
    if s.on SYS_ACC_ERR_VALID then s.wr SYS_ACC_ERR_MORE 1
    else
      ((((s.setBits SYS_ACC_ERR_VALID 1).wr SYS_ACC_ERR_WRITE (b2n wr)).wr SYS_ACC_ERR_MASTER m).wr SYS_ACC_ERR_CODE code).wr
        SYS_ACC_ERR_ADDR_ADDR a
  s.raise (srcId 3 0x22 (m % 16)) 0x02 (bits a 2 19 + code % 8 * 2 ^ 19)

/-- A page whose unit reset is in progress answers only reads of PG_ID, PG_CAP, PG_STAT and PG_FAULT (R85). -/
def State.rstBusy (s : State) (p : Nat) : Bool := s.acc.rstBusy.contains p

/-- The address of offset `o` of page `p` (R66). -/
def pageAddr (p o : Nat) : Nat := 0x40000000 + p * 0x1000 + o

/-- A write to a block-specific register or parameter word of a tile page other than WSEL ends the tile's reset state (R463). -/
def State.touch (s : State) (a : Nat) : State :=
  match regionOf a with
  | .page p o => if 0x20 ≤ p ∧ p ≤ 0x28 ∧ 0x40 ≤ o ∧ o ≠ 0x44 then s.wr (TILE_TILE_STAT_RSTD (p - 0x20)) 0 else s
  | _ => s

/-- A register command of master `m` that writes `v` at `a`: refused under R75, held under R54, or counted, and then
what it does. While the page's unit reset runs, it waits for the reset's end (R85): it does nothing now. -/
def State.guardedTo (s : State) (m a v mk : Nat) (f : State → State) : State :=
  let c := s.writeCode m a v mk
  if c ≠ 0 then s.refuse m a true c
  else
    match regionOf a, targetOf a with
    | .page p _, some t =>
      if s.rstBusy p then s
      else if s.grantable (16 * t + m) 1 then f (((s.useBudget (16 * t + m) 1).usePage p 1).touch a)
      else (s.refuseBudget t m).holdPage p
    | _, some t => if s.grantable (16 * t + m) 1 then f (s.useBudget (16 * t + m) 1) else s.refuseBudget t m
    | _, none => f s

/-- A register command that writes the word `v` at offset `o` of page `p`. -/
def State.guarded (s : State) (m p o v : Nat) (f : State → State) : State :=
  s.guardedTo m (pageAddr p o) v 0xFFFFFFFF f

/-- A register command that writes bits under a mask, as a MASKWRITE of those bits does (R96). -/
def State.guardedMask (s : State) (m p o v mk : Nat) (f : State → State) : State :=
  s.guardedTo m (pageAddr p o) v mk f

/-- A register command that reads at `a`. -/
def State.guardedRead (s : State) (m a : Nat) (f : State → State) : State :=
  let c := s.readCode m a
  if c ≠ 0 then s.refuse m a false c
  else
    match regionOf a, targetOf a with
    | .page p _, some t =>
      if s.rstBusy p then s
      else if s.grantable (16 * t + m) 1 then f ((s.useBudget (16 * t + m) 1).usePage p 1)
      else (s.refuseBudget t m).holdPage p
    | _, some t => if s.grantable (16 * t + m) 1 then f (s.useBudget (16 * t + m) 1) else s.refuseBudget t m
    | _, none => f s

/-- One field under a write of `v` through the mask `mk`, by its type (R7); bits outside the mask act as 0 for W1C and
W1S (R96). -/
def State.writeField (s : State) (f : Field) (v mk : Nat) : State :=
  let x := bits v f.lo f.w
  let k := bits mk f.lo f.w
  let cur := s.rd f
  match f.ty with
  | .rw | .rwl | .rws => if k = 0 then s else s.swPut f (Nat.lor (cur - Nat.land cur k) (Nat.land x k))
  | .w1c => s.clearBits f (Nat.land x k)
  | .w1s => s.wr f (Nat.lor cur (Nat.land x k))
  | .ro | .rc | .wo => s

/-- A plain write of the word at an offset, each field by its type. -/
def State.plainWrite (s : State) (p o v mk : Nat) : State :=
  match fieldsAt p o with
  | none => s
  | some fs => fs.foldl (fun s f => s.writeField f v mk) s

/-! ### Values wider than 32 bits (R82 to R84) -/

/-- The key of a master's latch on a page. -/
def latchKey (m p : Nat) : Nat := 16 * p + m % 16

/-- The low-half offset of the wide value that holds offset `o`, if any. -/
def wideOf (p o : Nat) : Option Nat :=
  match pageKind p with
  | none => none
  | some (k, _) => (wideLows k).find? fun l => l == o || l + 4 == o

/-- A read of a low half latches the high half for the master on the page (R82). -/
def State.latchHi (s : State) (m p lo hi : Nat) : State :=
  { s with acc := { s.acc with latch := tput none s.acc.latch (latchKey m p) (some ⟨lo, hi⟩) } }

/-- The latched high half that a high-half read takes, and the release of the latch; `none` with no matching latch. -/
def State.takeLatch (s : State) (m p lo : Nat) : Option Nat × State :=
  match tget none s.acc.latch (latchKey m p) with
  | some l =>
    if l.off = lo then
      (some l.hi, { s with acc := { s.acc with latch := tput none s.acc.latch (latchKey m p) none } })
    else (none, s)
  | none => (none, s)

/-- A write of a high half is held for the master (R84). -/
def State.holdHi (s : State) (m p lo v : Nat) : State :=
  { s with acc := { s.acc with heldHi := tput none s.acc.heldHi (latchKey m p) (some ⟨lo, v⟩) } }

/-- The held high half of a value, if any, and the state without it (R84). -/
def State.takeHi (s : State) (m p lo : Nat) : Option Nat × State :=
  match tget none s.acc.heldHi (latchKey m p) with
  | some l =>
    if l.off = lo then
      (some l.hi, { s with acc := { s.acc with heldHi := tput none s.acc.heldHi (latchKey m p) none } })
    else (none, s)
  | none => (none, s)

end Sys2Proof.Machine
end

