-- ==== Sys2Proof/Machine/Pos.lean ====
section
/-! DEFINITION. Position ports (chapter 05): edges, counts, speed, SSI, SENT. -/

namespace Sys2Proof.Machine

open Reg

/-- A unit's page is enabled, not in unit reset and not in CRIMSON (R67, R85, R454). -/
def State.running (s : State) (p : Nat) : Bool := s.on (PG_CTRL_EN p) && !s.rstBusy p && !s.pageCrimson p

/-- What port `p` holds. -/
def State.port (s : State) (p : Nat) : PosS := tget {} s.pos p

/-- Change what port `p` holds. -/
def State.setPort (s : State) (p : Nat) (x : PosS) : State := { s with pos := tput {} s.pos p x }

/-- The mode in force (R120, R121): an unsupported mode acts as OFF. -/
def State.posMode (s : State) (p : Nat) : Nat :=
  let m := s.rd (POS_CFG_MODE p)
  if m ≤ 6 ∧ ¬(m = 3 ∧ 4 ≤ p) then m else 0

/-- Edges go to the tracker (R132). -/
def State.posTrk (s : State) (p : Nat) : Bool :=
  s.on (POS_CFG_TRK p) && decide (p ≤ 3) && (s.posMode p == 2 || s.posMode p == 3)

/-- ACT_EDGE in effect: 0 rising, 1 falling, 2 both (R126, R129). -/
def State.posActEdge (s : State) (p : Nat) : Nat :=
  let e := s.rd (POS_CFG_ACT_EDGE p)
  if s.posMode p = 3 then (if e = 1 then 1 else 0) else if e = 3 then 0 else e

/-- The pin has a meaning as an input in the mode in force (R120); the levels of the other pins read 0 (assumption log 79). -/
def State.usesPin (s : State) (p i : Nat) : Bool :=
  match s.posMode p with
  | 1 | 2 | 4 => decide (i ≤ 2)
  | 3 | 5 | 6 => i == 0
  | _ => false

/-- The pin is inverted (R122). The differential input of VR mode is not: ACT_EDGE gives its polarity (R126; DEDUCED,
assumption log 79). -/
def State.posInv (s : State) (p i : Nat) : Bool :=
  s.posMode p != 3 &&
  (if i = 0 then s.on (POS_CFG_A_INV p) else if i = 1 then s.on (POS_CFG_B_INV p) else s.on (POS_CFG_Z_INV p))

/-- The input level of pin `i` past inversion and filter (R122, R123). -/
def State.posIn (s : State) (p i : Nat) : Bool := bit (s.port p).filt i != s.posInv p i

/-- Conditioned level of pin `i` (0 A, 1 B, 2 Z). -/
def State.posLvl (s : State) (p i : Nat) : Bool := bit (s.rd (POS_STAT_LVL p)) i

/-- Set a conditioned level. -/
def State.setPosLvl (s : State) (p i : Nat) (b : Bool) : State :=
  s.wr (POS_STAT_LVL p) (putBit (s.rd (POS_STAT_LVL p)) i b)

/-- COUNT and its limits as signed numbers. -/
def State.posCount (s : State) (p : Nat) : Int := toS 32 (s.rd (POS_COUNT_VALUE p))
def State.posMin (s : State) (p : Nat) : Int := toS 32 (s.rd (POS_SOFT_MIN_VALUE p))
def State.posMax (s : State) (p : Nat) : Int := toS 32 (s.rd (POS_SOFT_MAX_VALUE p))

/-- The limit status and the LIMIT flag, from what they were before the changes of COUNT at the present instant: evaluated last in
a TB cycle (R131, R134). -/
def State.limitEval (s : State) (p : Nat) : State :=
  let x := s.port p
  let flag := bit (s.rd (PG_IFLAG_FLAG (0x10 + p))) 2
  let cur := (s.tb, s.on (POS_STAT_LIMIT_LO p), s.on (POS_STAT_LIMIT_HI p), flag)
  let l := match x.lim with
    | some l => if l.1 = s.tb then l else cur
    | none => cur
  let lo := !s.posTrk p && decide (s.posCount p = s.posMin p)
  let hi := !s.posTrk p && decide (s.posCount p = s.posMax p)
  let s := s.setPort p { x with lim := some l }
  let s := (s.wr (POS_STAT_LIMIT_LO p) (b2n lo)).wr (POS_STAT_LIMIT_HI p) (b2n hi)
  if (lo && !l.2.1) || (hi && !l.2.2.1) then (if flag then s else s.iflag (0x10 + p) 2)
  else if flag && !l.2.2.2 then s.wr (PG_IFLAG_FLAG (0x10 + p)) (putBit (s.rd (PG_IFLAG_FLAG (0x10 + p))) 2 false)
  else s

/-- COUNT takes a value in range; the limit status follows, and the LIMIT flag is set on arrival at a limit (R131). -/
def State.putCount (s : State) (p : Nat) (v : Int) : State := (s.wr (POS_COUNT_VALUE p) (ofS 32 v)).limitEval p

/-- MIN_EDGE in effect (R125). -/
def State.posMinEdge (s : State) (p : Nat) : Nat := max 200 (s.rd (POS_MIN_EDGE_MIN p))

/-- Timestamp LAST_T and its NEWER tracking (R150). -/
def State.stampLastT (s : State) (p t : Nat) : State :=
  let x := s.port p
  ((s.setPort p { x with tNewer := x.tRead }).wr (POS_LAST_T_LO_T p) t).wr (POS_LAST_T_HI_T p) (t / 2 ^ 32)

/-- A read of LAST_T_LO by a master (R150). -/
def State.readLastT (s : State) (p m : Nat) : State :=
  let x := s.port p
  s.setPort p { x with tRead := m :: x.tRead.filter (· != m), tNewer := x.tNewer.filter (· != m) }

/-- A speed in Hz × 256 from 64ths of pitches over ticks (SPEED, R136): the whole part (assumption log 11). -/
def hz256 (m64 ticks : Nat) : Nat := if ticks = 0 then 0 else m64 * (400000000 * 4) / ticks

/-- SPEED takes a magnitude with the sign of the last step's direction. -/
def State.putSpeed (s : State) (p mag : Nat) : State :=
  let v : Int := if s.on (POS_STAT_DIR p) then -(mag : Int) else mag
  let x := s.port p
  (s.setPort p { x with spdAt := s.tb }).wr (POS_SPEED_VALUE p) (ofS 32 v)

/-- N of the period path (R136). -/
def State.spdN (s : State) (p : Nat) : Nat := s.rd (POS_SPD_CFG_PER_N p) + 1

/-- A speed (Hz × 256) exceeds XOVER × (1 + h) (R138). -/
def State.aboveXover (s : State) (p v : Nat) : Bool :=
  let h := 2 ^ (6 - s.rd (POS_SPD_CFG_HYST p))
  decide (s.rd (POS_SPD_CFG_XOVER p) * 256 * (h + 1) < v * h)

/-- A speed falls below XOVER × (1 − h) (R138). -/
def State.belowXover (s : State) (p v : Nat) : Bool :=
  let h := 2 ^ (6 - s.rd (POS_SPD_CFG_HYST p))
  decide (v * h < s.rd (POS_SPD_CFG_XOVER p) * 256 * (h - 1))

/-- The measurement is invalid: the port falls back, and fixed windows count from its entry on (R139). -/
def State.fallBack (s : State) (p : Nat) : State :=
  let x := s.port p
  let s := s.setPort p { x with clean := 0, mt := none, meas := none }
  if s.rd (POS_SPD_STAT_PATH p) = 2 then s
  else (((s.setPort p { s.port p with fb := (s.tb, 0) }).wr (POS_SPD_STAT_PATH p) 2).wr (POS_SPD_STAT_VALID p) 0).iflag (0x10 + p) 5

/-- A rejected edge, a phase error or a direction change spoils the measurement (R139). -/
def State.spoil (s : State) (p : Nat) : State :=
  let s := s.fallBack p
  s.setPort p { s.port p with idxSkip := true }

/-- A rejected edge spoils the speed, not the index check (R135, R139). -/
def State.spoilSpeed (s : State) (p : Nat) : State :=
  let k := (s.port p).idxSkip
  let s := s.fallBack p
  s.setPort p { s.port p with idxSkip := k }

/-- The 64ths of a pitch that the interval now ending spans (chapter 05 Speed): a gap counts its pitches, the parts on
either side of an extra tooth count theirs. -/
def State.pitch64 (s : State) (p : Nat) : Nat :=
  let st := s.trk.out.st
  let n := s.rd TRK_CRANK_CFG_N_POS
  if s.posTrk p && decide (p ≤ 1) && (st == 2 || st == 3 || st == 4) && decide (0 < n) &&
      !s.on TRK_CRANK_CFG_GAP_TYPE && s.rd TRK_TOOTH_POS % n + s.rd TRK_CRANK_CFG_GAP_N + 1 == n
  then 64 * (s.rd TRK_CRANK_CFG_GAP_N + 1) else 64

/-- Speed at an active edge accepted at `t` (R136 to R139). -/
def State.speedEdge (s : State) (p t : Nat) : State :=
  let x := s.port p
  let w := s.pitch64 p
  let edges := ((t, w) :: x.edges).take 17
  let n := s.spdN p
  let x := { x with edges := edges, clean := x.clean + 1, fb := (x.fb.1, x.fb.2 + (if s.on (POS_STAT_DIR p) then -1 else 1)) }
  let s := s.setPort p x
  if x.clean < n + 1 then s
  else
    match edges[n]?, edges[n - 1]? with
    | some (t0, _), some (t1, _) =>
      let m := ((edges.take n).map (·.2)).sum
      let per := hz256 m (t - t0)
      let path := s.rd (POS_SPD_STAT_PATH p)
      let fbv := s.rd (POS_SPEED_VALUE p)
      let fbMag := (toS 32 fbv).natAbs
      let toMt := (path == 0 && s.aboveXover p per) || (2 ≤ path && s.aboveXover p fbMag)
      let valid (s : State) : State := s.wr (POS_SPD_STAT_VALID p) 1
      if path = 1 then
        match x.mt with
        | some (o, m0, first) =>
          let m1 := m0 + w
          let first := if m0 = 0 then t - ((edges[1]?).getD (t, 0)).1 else first
          if o + 400 * max 1 (s.rd (POS_SPD_WIN_MT_WIN p)) ≤ t then
            let v := hz256 m1 (t - o)
            let s := valid ((s.setPort p { x with mt := some (t, 0, 0), meas := some (m1, t - o, first) }).putSpeed p v)
            if s.belowXover p v then
              let s := s.setPort p { s.port p with mt := none, meas := some (m, t - t0, t1 - t0) }
              (s.wr (POS_SPD_STAT_PATH p) 0).putSpeed p per
            else s
          else s.setPort p { x with mt := some (o, m1, first) }
        | none => s.setPort p { x with mt := some (t, 0, 0) }
      else if toMt then
        valid (((s.setPort p { x with mt := some (t, 0, 0), meas := some (m, t - t0, t1 - t0) }).wr
          (POS_SPD_STAT_PATH p) 1).putSpeed p per)
      else
        valid (((s.setPort p { x with meas := some (m, t - t0, t1 - t0) }).wr (POS_SPD_STAT_PATH p) 0).putSpeed p per)
    | _, _ => s

/-- SPEED as read: between edges the reported speed falls while the shaft slows (R136, R137). -/
def State.speedView (s : State) (p : Nat) : Nat :=
  let x := s.port p
  if s.posMode p == 5 || s.posMode p == 6 then 0
  else if 2 ≤ s.rd (POS_SPD_STAT_PATH p) then s.rd (POS_SPEED_VALUE p)
  else
    match x.meas, x.edges.head? with
    | some (m, ticks, oldest), some (t, _) =>
      let te := s.tb - t
      if ticks * 64 < te * m then
        let v := hz256 m (ticks - oldest + te)
        ofS 32 (if s.on (POS_STAT_DIR p) then -(v : Int) else v)
      else s.rd (POS_SPEED_VALUE p)
    | _, _ => s.rd (POS_SPEED_VALUE p)

/-- SPD_STAT.AGE as read. -/
def State.speedAge (s : State) (p : Nat) : Nat := satN 16 ((s.tb - (s.port p).spdAt) / 400)

/-- One counted step (R130, R131): direction first, then COUNT within its limits. -/
def State.countStep (s : State) (p : Nat) (rev : Bool) : State :=
  let x := s.port p
  let turned := match x.dir with
    | some d => d != rev
    | none => false
  let s := s.wr (POS_STAT_DIR p) (b2n rev)
  let s := if turned then s.spoil p else s
  let s := s.setPort p { s.port p with dir := some rev }
  if s.posTrk p || turned then s
  else
    let v := s.posCount p + (if rev then -1 else 1)
    if v < s.posMin p ∨ s.posMax p < v then
      let s := (s.inc (POS_LIM_LOST_STEPS p)).limitEval p
      s.setPort p { s.port p with idxSkip := true }
    else s.putCount p v

/-- An active edge or step: count, speed, LAST_T, router pulse, delivery to the tracker; STUCK ends (R128 to R140,
R150, R369). -/
def State.activeEdge (s : State) (p t : Nat) (rev : Bool) : State :=
  let s := if s.on (POS_STAT_STUCK p) then (s.wr (POS_STAT_STUCK p) 0).fallBack p else s
  let s := s.countStep p (rev != s.on (POS_CFG_DIR_INV p))
  let s := s.speedEdge p t
  let s := (s.stampLastT p t).setPort p { (s.stampLastT p t).port p with since := t, halved := 0 }
  let s := if s.crimson (srcId 0 p 0) then s else s.pulse (32 + p)
  if s.posTrk p && s.running 0x18 then { s with trkIn := s.trkIn ++ [(p, t)] } else s

/-- VR threshold after an active edge with the half-wave's peak (R127). -/
def State.vrPeak (s : State) (p peak : Nat) : State :=
  let s := s.wr (POS_VR_STAT_PEAK p) (satN 12 peak)
  let amin := 4 * s.rd (POS_VR_CFG_ARM_MIN p)
  let arm := if s.on (POS_VR_CFG_ADAPT p) then max amin ((2 + s.rd (POS_VR_CFG_ARM_FRAC p)) * peak / 8) else amin
  s.wr (POS_VR_STAT_ARM p) (satN 12 arm)

/-- An accepted edge of A or B at timestamp `t` (R124 to R129). DESIGN CHOICE (assumption log 80): the record of a phase error has
SUB 1, the counter; R125 does not name its SUB. -/
def State.acceptEdge (s : State) (p i : Nat) (lvl : Bool) (t peak : Nat) : State :=
  let x := s.port p
  let other := if i = 0 then x.lastB else x.lastA
  let s := s.setPosLvl p i lvl
  let s := s.setPort p (if i = 0 then { x with lastA := some t } else { x with lastB := some t })
  let a := s.posLvl p 0
  let b := s.posLvl p 1
  match s.posMode p with
  | 1 =>
    let phase := match other with
      | some o => decide (t < o + 200)
      | none => false
    if phase then
      (((s.inc (POS_EDGE_ERR_PHASE p)).iflag (0x10 + p) 1).raise (srcId 0 p 1) 0x11 0).spoil p
    else
      let qx := s.rd (POS_CFG_QX p)
      let counts := if qx = 1 then i == 0 else if qx = 2 then i == 0 && lvl else true
      let fwd := if i = 0 then a != b else a == b
      if counts then s.activeEdge p t (!fwd) else s
  | 2 | 4 =>
    let e := s.posActEdge p
    if i = 0 && (e == 2 || (e == 0 && lvl) || (e == 1 && !lvl)) then
      s.activeEdge p t (b && (s.posMode p == 4 || s.on (POS_CFG_B_DIR p)))
    else s
  | 3 =>
    let armEdge := if s.posActEdge p = 1 then !lvl else lvl
    if i = 0 && !armEdge then
      let s := s.vrPeak p peak
      let s := s.setPort p { s.port p with armed := false }
      s.activeEdge p t false
    else s
  | _ => s

/-- The index check and zeroing (R135); `hit` when the record of this index has been raised. -/
def State.indexCheck (s : State) (p : Nat) (hit : Bool) : State :=
  if !(s.on (POS_CFG_Z_EN p) && s.usesPin p 2) then s
  else
    let x := s.port p
    let c := s.posCount p
    let u : IxUndo := { at_ := s.tb, count := c, idx := x.idx, skip := x.idxSkip, err := s.rd (POS_IDX_STAT_ERR p), hit }
    let s := match x.idx with
      | some c0 =>
        let d := c - c0
        let nom : Int := s.rd (POS_IDX_CFG_NOMINAL p)
        let want := if s.on (POS_STAT_DIR p) then -nom else nom
        let s := s.wr (POS_IDX_STAT_LAST p) (ofS 24 d)
        if !x.idxSkip && decide ((s.rd (POS_IDX_CFG_TOL p) : Int) < (d - want).natAbs) then
          let s := ((s.inc (POS_IDX_STAT_ERR p)).iflag (0x10 + p) 3).setPort p { x with ixUndo := some { u with hit := true } }
          if hit then s else s.raise (srcId 0 p 1) 0x12 (ofS 22 (clampI (-(2 ^ 21 - 1)) (2 ^ 21 - 1) d))
        else s.setPort p { x with ixUndo := some u }
      | none => s.setPort p { x with ixUndo := some u }
    let s := if s.on (POS_CFG_IDX_ZERO p) && !s.posTrk p then s.putCount p 0 else s
    s.setPort p { s.port p with idx := some (s.posCount p), idxSkip := false }

/-- The block's part of CTRL.LOAD (R133). -/
def State.posLoad (s : State) (p : Nat) : State :=
  if s.posTrk p then s
  else
    let x := s.port p
    let l : LoadUndo := { at_ := s.tb, count := s.posCount p, dir := x.dir, skip := x.idxSkip }
    let v := clampI (s.posMin p) (s.posMax p) (toS 32 (s.rd (POS_PRESET_VALUE p)))
    let s := s.putCount p v
    s.setPort p { s.port p with dir := none, idxSkip := true, loadAt := some l }

/-- A LOAD written in the present TB cycle acts in the next one (R133), so after what `f` does in this one. -/
def State.beforeLoad (s : State) (p : Nat) (f : State → State) : State :=
  match (s.port p).loadAt with
  | some l =>
    if l.at_ = s.tb then
      let s := s.wr (POS_COUNT_VALUE p) (ofS 32 l.count)
      (f (s.setPort p { s.port p with dir := l.dir, idxSkip := l.skip })).posLoad p
    else f s
  | none => f s

/-- A step comes before the index of its TB cycle (R134). -/
def State.beforeIndex (s : State) (p : Nat) (f : State → State) : State :=
  match (s.port p).ixUndo with
  | some u =>
    if u.at_ = s.tb then
      let s := (s.wr (POS_COUNT_VALUE p) (ofS 32 u.count)).wr (POS_IDX_STAT_ERR p) u.err
      (f (s.setPort p { s.port p with idx := u.idx, idxSkip := u.skip })).indexCheck p u.hit
    else f s
  | none => f s

/-- The rising Z edge is an index (R134, R135). -/
def State.indexEdge (s : State) (p : Nat) : State := s.beforeLoad p fun s => s.indexCheck p false

/-- An accepted edge in its place among what falls in the TB cycle (R134). -/
def State.edgeIn (s : State) (p i : Nat) (lvl : Bool) (t peak : Nat) : State :=
  s.beforeLoad p fun s => s.beforeIndex p fun s => s.acceptEdge p i lvl t peak

/-- The comparator of VR mode switches to `lvl` with the input at `mv` millivolts: past the arming threshold, or past the edge of
the zero-crossing band (R126). -/
def State.vrMoves (s : State) (p : Nat) (lvl : Bool) (mv : Int) : Bool :=
  let arm : Int := s.rd (POS_VR_STAT_ARM p)
  let zc : Int := [0, 10, 20, 40].getD (s.rd (POS_VR_CFG_ZC_HYST p)) 0
  if s.posActEdge p = 1 then (if lvl then decide (zc < 2 * mv) else decide (mv < -arm))
  else if lvl then decide (arm < mv) else decide (2 * mv < -zc)

/-- Pins whose changes are edges under R124; the others are sampled as levels (R125). -/
def State.edgePin (s : State) (p i : Nat) : Bool :=
  match s.posMode p with
  | 1 => decide (i ≤ 1)
  | 2 | 3 | 4 => i == 0
  | _ => false

/-- A filtered change on a pin, whose level is now `pin` (R122 to R126): accepted, or rejected by the edge-rate check. In VR mode
`peak` is the largest excursion of the half-wave that ends. -/
def State.posChange (s : State) (p i : Nat) (pin : Bool) (t peak : Nat) : State :=
  let x := s.port p
  let s := s.setPort p { x with filt := putBit x.filt i pin }
  let lvl := s.posIn p i
  if !(s.running (0x10 + p) && s.usesPin p i) then s
  else if !s.edgePin p i then
    let rose := lvl && !s.posLvl p i
    let s := s.setPosLvl p i lvl
    if i = 2 ∧ rose then s.indexEdge p else s
  else
    let armEdge := s.posMode p == 3 && (if s.posActEdge p = 1 then !lvl else lvl)
    let unarmed := s.posMode p == 3 && !armEdge && !x.armed
    let s := if armEdge then s.setPort p { s.port p with armed := true }
      else if s.posMode p = 3 then s.setPort p { s.port p with peak } else s
    if s.posLvl p i == lvl then s
    else if unarmed then s.setPort p { s.port p with filt := putBit x.filt i (s.posLvl p i) }
    else
      let last := if i = 0 then x.lastA else x.lastB
      let early := match last with
        | some l => decide (t < l + s.posMinEdge p)
        | none => false
      if early then
        (((s.inc (POS_EDGE_ERR_FAST p)).iflag (0x10 + p) 0).raise (srcId 0 p 0) 0x10 i).spoilSpeed p
      else s.edgeIn p i lvl t peak

/-- MIN_EDGE expires with the input still changed: the edge is accepted at that moment (R124). -/
def State.posDeferred (s : State) (p i : Nat) : State :=
  let x := s.port p
  let last := if i = 0 then x.lastA else x.lastB
  let lvl := s.posIn p i
  match last with
  | some l =>
    if s.running (0x10 + p) && s.edgePin p i && s.posLvl p i != lvl && decide (l + s.posMinEdge p ≤ s.tb) then
      s.edgeIn p i lvl s.tb x.peak
    else s
  | none => s

/-- The port starts (R122, R131), or refuses. DESIGN CHOICE (assumption log 81): a COUNT outside new limits stays, and steps that
leave it outside are discarded; no LIMIT flag is set by the start. -/
def State.posEnable (s : State) (p : Nat) : State :=
  if s.on (PG_CTRL_EN (0x10 + p)) then s
  else if s.posMax p < s.posMin p then s.cfgRec (srcId 0 p 0xF) 0 0xFFF
  else
    let x := s.port p
    let s := s.setPort p { filt := x.filt, since := s.tb, ssiAt := s.tb, spdAt := s.tb, fb := (s.tb, 0), tRead := x.tRead, tNewer := x.tNewer }
    let s := s.wr (PG_CTRL_EN (0x10 + p)) 1
    let s := s.wr (POS_STAT_LVL p) (((List.range 3).map fun i =>
      if s.usesPin p i && s.posMode p != 3 && s.posIn p i then 2 ^ i else 0).sum)
    let s := (s.wr (POS_STAT_LIMIT_LO p) (b2n (!s.posTrk p && decide (s.posCount p = s.posMin p)))).wr
      (POS_STAT_LIMIT_HI p) (b2n (!s.posTrk p && decide (s.posCount p = s.posMax p)))
    let s := (s.wr (POS_STAT_STUCK p) 0).wr (POS_STAT_SSI_BUSY p) 0
    let s := if s.posMode p = 3 then s.wr (POS_VR_STAT_ARM p) (satN 12 (4 * s.rd (POS_VR_CFG_ARM_MIN p))) else s
    if 1 ≤ s.posMode p ∧ s.posMode p ≤ 4 then s.fallBack p else s

/-- ARM halves towards ARM_MIN while the port does not arm (R127). -/
def State.vrHalve (s : State) (p : Nat) : State :=
  let x := s.port p
  match x.edges with
  | (t1, _) :: (t0, _) :: _ =>
    if s.running (0x10 + p) && s.posMode p == 3 && s.on (POS_VR_CFG_ADAPT p) && !x.armed &&
        decide (t1 + (3 + x.halved) * (t1 - t0) ≤ s.tb) then
      (s.setPort p { x with halved := x.halved + 1 }).wr (POS_VR_STAT_ARM p)
        (max (4 * s.rd (POS_VR_CFG_ARM_MIN p)) (s.rd (POS_VR_STAT_ARM p) / 2))
    else s
  | _ => s

/-- A fall-back window completes (R139). The quotient is cut to its whole part, also where it is negative (assumption log 11). -/
def State.fbWindow (s : State) (p : Nat) : State :=
  let x := s.port p
  let win := max 1 (s.rd (POS_SPD_WIN_FB_WIN p))
  if s.running (0x10 + p) && s.rd (POS_SPD_STAT_PATH p) == 2 && decide (x.fb.1 + 400 * win ≤ s.tb) then
    let v : Int := (x.fb.2 * 256000000).tdiv win
    (s.setPort p { x with fb := (s.tb, 0), spdAt := s.tb }).wr (POS_SPEED_VALUE p) (ofS 32 v)
  else s

/-- No active edge for STUCK_T ms (R140). -/
def State.posStuck (s : State) (p : Nat) : State :=
  let x := s.port p
  let st := s.rd (POS_STUCK_CFG_STUCK_T p)
  if s.running (0x10 + p) && decide (1 ≤ s.posMode p) && decide (s.posMode p ≤ 4) && decide (0 < st) &&
      !s.on (POS_STAT_STUCK p) && decide (x.since + 400000 * st ≤ s.tb) then
    let s := (((s.wr (POS_SPEED_VALUE p) 0).wr (POS_SPD_STAT_PATH p) 3).wr (POS_SPD_STAT_VALID p) 0).wr (POS_STAT_STUCK p) 1
    let s := s.setPort p { s.port p with clean := 0, mt := none, meas := none, spdAt := s.tb }
    (s.iflag (0x10 + p) 4).raiseLive (srcId 0 p 2) 0x13 0
  else s

/-! ### Serial words (R141 to R144) -/

/-- A failed SSI read: its count, flag and record (R142, R506). -/
def State.ssiFail (s : State) (p cause : Nat) : State :=
  let s := match cause with
    | 1 | 2 => s.inc (POS_SSI_ERR_TIMEOUT p)
    | 3 => s.inc (POS_SSI_ERR_ERR_BIT p)
    | _ => s.inc (POS_SSI_ERR_CRC p)
  ((s.iflag (0x10 + p) 6).raise (srcId 0 p 3) 0x14 cause)

/-- An SSI read starts, unless one is in progress or the data input is low (R141, R142, R144). -/
def State.ssiStart (s : State) (p : Nat) (aHigh : Bool) : State :=
  if !(s.running (0x10 + p) && s.posMode p == 5) || s.on (POS_STAT_SSI_BUSY p) || s.on TB_TB_STAT_LFMODE then s
  else if !aHigh then s.ssiFail p 1
  else (s.setPort p { s.port p with ssi := some ⟨s.tb⟩ }).wr (POS_STAT_SSI_BUSY p) 1

/-- The read ends. -/
def State.ssiEnd (s : State) (p : Nat) : State :=
  (s.setPort p { s.port p with ssi := none }).wr (POS_STAT_SSI_BUSY p) 0

/-- DATA_LEN, ERR_BITS and the number of CRC bits in effect. -/
def State.ssiData (s : State) (p : Nat) : Nat :=
  let d := s.rd (POS_SSI_CFG_DATA_LEN p)
  if 1 ≤ d ∧ d ≤ 32 then d else 32
def State.ssiErrBits (s : State) (p : Nat) : Nat := min 2 (s.rd (POS_SSI_CFG_ERR_BITS p))
def State.ssiCrcBits (s : State) (p : Nat) : Nat :=
  match s.rd (POS_SSI_CFG_CRC_SEL p) with
  | 1 => 6
  | 2 => 8
  | _ => 0

/-- Bits as a number, first bit most significant. -/
def ofBits (bs : List Bool) : Nat := bs.foldl (fun a b => 2 * a + b2n b) 0

/-- A CRC over single bits. -/
def crcBits (w poly init : Nat) (bs : List Bool) : Nat :=
  bs.foldl
    (fun c b =>
      let sh := c * 2 % 2 ^ w
      if (bitN c (w - 1) == 1) != b then Nat.xor sh (poly % 2 ^ w) else sh)
    (init % 2 ^ w)

/-- Gray code to binary: each bit is the parity of the bits from the top to it. -/
def grayToBin : Nat → Nat → Nat
  | 0, v => v
  | k + 1, v => grayToBin k (Nat.xor v (v / 2 ^ (2 ^ k)))

/-- Half a period of the serial clock in ticks (R141). -/
def State.ssiHalf (s : State) (p : Nat) : Nat := max 19 (s.rd (POS_SSI_CFG_DIV p)) + 1

/-- The bits of a frame (R141). -/
def State.ssiLen (s : State) (p : Nat) : Nat := s.ssiData p + s.ssiErrBits p + s.ssiCrcBits p

/-- The last clock edge of a read: the rise in its period L + 1, the clock then staying high (R141; DEDUCED, assumption log 83). -/
def State.ssiLast (s : State) (p : Nat) (r : SsiRead) : Nat := r.start + (2 * s.ssiLen p + 1) * s.ssiHalf p

/-- The instant at which bit `k` of the frame is sampled: falling edge k + 2, the first one starting the read (R141). -/
def State.ssiSample (s : State) (p k : Nat) (r : SsiRead) : Nat := r.start + (k + 1) * (2 * s.ssiHalf p)

/-- POSx_Z where it is an output: the serial clock, which idles high (R120, R141). -/
def State.posZOut (s : State) (p : Nat) : Option Bool :=
  if s.running (0x10 + p) && s.posMode p == 5 then
    match (s.port p).ssi with
    | some r => some (decide (s.ssiLast p r ≤ s.tb) || (s.tb - r.start) / s.ssiHalf p % 2 == 1)
    | none => some true
  else none

/-- The end of the wait for the data input to be high (R142): TIMEOUT microseconds, 0 acting as 1, after the last clock edge. -/
def State.ssiUntil (s : State) (p : Nat) (r : SsiRead) : Nat := s.ssiLast p r + 400 * max 1 (s.rd (POS_SSI_TIM_TIMEOUT p))

/-- A frame of the read in progress has arrived whole, the data input high again in time (R142, R143). Before the last clock edge,
after the timeout, or with a list of another length, there is no frame. A frame that fails both checks is counted under each and
raises one record, which names the error bit (assumption log 82). -/
def State.ssiFrame (s : State) (p : Nat) (bs : List Bool) : State :=
  match (s.port p).ssi with
  | none => s
  | some r =>
    let n := s.ssiData p
    let e := s.ssiErrBits p
    let c := s.ssiCrcBits p
    if bs.length ≠ n + e + c ∨ s.tb < s.ssiLast p r ∨ s.ssiUntil p r < s.tb then s
    else
      let s := s.ssiEnd p
      let errBits := (bs.drop n).take e
      let crcGot := ofBits (bs.drop (n + e))
      let crc := crcBits c (s.rd (POS_SSI_CRC_POLY p)) (s.rd (POS_SSI_CRC_INIT p)) (bs.take (n + e))
      let crc := if s.on (POS_SSI_CRC_INV p) then 2 ^ c - 1 - crc else crc
      let crcBad := decide (c ≠ 0 ∧ crcGot ≠ crc)
      if errBits.any (· == s.on (POS_SSI_CFG_ERR_LVL p)) then (if crcBad then s.inc (POS_SSI_ERR_CRC p) else s).ssiFail p 3
      else if crcBad then s.ssiFail p 4
      else
        let raw := ofBits (bs.take n)
        let w := if s.on (POS_SSI_CFG_GRAY p) then grayToBin 5 raw else raw
        let s := s.wr (POS_SSI_DATA_WORD p) w
        let s := s.putCount p (clampI (s.posMin p) (s.posMax p) (toS 32 w))
        let s := s.stampLastT p r.start
        (s.iflag (0x10 + p) 7).pulse (32 + p)

/-- The data input is not high in time after the last clock (R142). -/
def State.ssiTimeout (s : State) (p : Nat) : State :=
  match (s.port p).ssi with
  | none => s
  | some r => if s.tb < s.ssiUntil p r then s else (s.ssiEnd p).ssiFail p 2

/-! ### SENT (R145 to R149) -/

/-- A discarded frame: its count, flag and record; the serial message in progress is aborted (R146, R148, R506). -/
def State.sentFail (s : State) (p cause : Nat) : State :=
  let s := match cause with
    | 1 => s.inc (POS_SENT_ERR_SYNC p)
    | 4 => s.inc (POS_SENT_ERR_CRC p)
    | _ => s.inc (POS_SENT_ERR_NIBBLE p)
  ((s.setPort p { s.port p with ser := [] }).iflag (0x10 + p) 8).raise (srcId 0 p 3) 0x15 cause

/-- The value of a nibble pulse against its frame's sync pulse of 56 ticks. -/
def nibbleOf (sync pulse : Nat) : Nat := min 15 ((2 * 56 * pulse + sync) / (2 * sync) - 12)

/-- A pulse lies outside 11.5 to 27.5 measured ticks (R146). -/
def nibbleBad (sync pulse : Nat) : Bool := decide (2 * 56 * pulse < 23 * sync) || decide (55 * sync < 2 * 56 * pulse)

/-- One nibble through the fast-channel CRC x^4 + x^3 + x^2 + 1 (R147). -/
def sentCrcNib (c n : Nat) : Nat := Nat.xor (crcBits 4 0xD c [false, false, false, false]) n

/-- The fast-channel CRC over the data nibbles; the recommended form appends a zero nibble (R147). -/
def sentCrc (legacy : Bool) (ns : List Nat) : Nat :=
  (if legacy then ns else ns ++ [0]).foldl sentCrcNib 5

/-- The enhanced serial message in 18 frames' status bits (3, 2): configuration bit, ID, data, and whether its 6-bit CRC
passes (R148; the format and the CRC x^6 + x^4 + x^3 + 1, seed 010101 and six appended zeros, are SAE J2716's, PRESUMED,
assumption log 12). The zeros before the body stand for the appended ones: they move the seed as far. -/
def serialMsg (fs : List (Bool × Bool)) : Option (Bool × Nat × Nat × Bool) :=
  if fs.length ≠ 18 then none
  else
    let b3 := fs.map (·.1)
    let b2 := fs.map (·.2)
    let at3 (i : Nat) : Bool := b3.getD (i - 1) false
    if (b3.take 6).all id && !at3 7 && !at3 13 && !at3 18 then
      let crcGot := ofBits (b2.take 6)
      let body := ((fs.drop 6).map fun f => [f.2, f.1]).flatten
      let crc := crcBits 6 0x19 0x15 (List.replicate 6 false ++ body)
      let c16 := at3 8
      let hi := ofBits ((b3.drop 8).take 4)
      let lo := ofBits ((b3.drop 13).take 4)
      let data := ofBits (b2.drop 6)
      let id := if c16 then hi else hi * 16 + lo
      let dat := if c16 then lo * 4096 + data else data
      some (c16, id, dat, decide (crc = crcGot))
    else none

/-- The status bits of a valid frame join the serial message (R148). -/
def State.sentSerial (s : State) (p status : Nat) : State :=
  if !s.on (POS_SENT_CFG_SER_EN p) then s
  else
    let x := s.port p
    let ser := (x.ser ++ [(bit status 3, bit status 2)])
    let ser := ser.drop (ser.length - 18)
    match serialMsg ser with
    | none => s.setPort p { x with ser := ser }
    | some (c16, id, dat, ok) =>
      let s := s.setPort p { x with ser := [] }
      if ok then
        ((((s.wr (POS_SENT_SER_NEW p) 1).wr (POS_SENT_SER_CFG16 p) (b2n c16)).wr (POS_SENT_SER_ID p) id).wr
          (POS_SENT_SER_DATA p) dat).iflag (0x10 + p) 10
      else s.inc (POS_SENT_ERR_SER_CRC p)

/-- A SENT frame as measured: the sync pulse, the nibble pulses, the pause pulse and whether a further falling edge came
before the next sync pulse (R146 to R149). -/
def State.sentFrame (s : State) (p sync : Nat) (nibs : List Nat) (pause : Option Nat) (extra : Bool) : State :=
  if !(s.running (0x10 + p) && s.posMode p == 6) then s
  else
    let nominal := 56 * 40 * s.rd (POS_SENT_CFG_TICK p)
    let tol := 10 + 5 * s.rd (POS_SENT_CFG_TICK_TOL p)
    let dist (a b : Nat) : Nat := (a - b) + (b - a)
    let x := s.port p
    if nominal * tol < dist sync nominal * 100 then s.sentFail p 1
    else
      let s := s.setPort p { x with sync := some sync }
      let jumped := match x.sync with
        | some pr => decide (pr < dist sync pr * 64)
        | none => false
      let want := (fun n => if n = 0 then 1 else min 6 n) (s.rd (POS_SENT_CFG_NIBBLES p))
      let pz := s.on (POS_SENT_CFG_PAUSE p)
      let pauseBad := match pause with
        | some q => pz && (decide (56 * q < 12 * sync) || decide (768 * sync < 56 * q))
        | none => pz
      if jumped then s.sentFail p 1
      else if nibs.length ≠ want + 2 ∨ nibs.any (nibbleBad sync) then s.sentFail p 2
      else if (!pz && (extra || pause.isSome)) || pauseBad then s.sentFail p 3
      else
        let vs := nibs.map (nibbleOf sync)
        let status := vs.headD 0
        let data := (vs.drop 1).take want
        if vs.getLastD 0 ≠ sentCrc (s.on (POS_SENT_CFG_CRC_LEGACY p)) data then s.sentFail p 4
        else
          let word := (data ++ List.replicate (6 - want) 0).foldl (fun a n => 16 * a + n) 0
          let start := s.tb - (sync + nibs.sum + pause.getD 0)
          let s := ((s.wr (POS_SENT_FAST_NEW p) 1).wr (POS_SENT_FAST_STATUS p) status).wr (POS_SENT_FAST_DATA p) word
          let s := ((s.stampLastT p start).iflag (0x10 + p) 9).pulse (32 + p)
          s.sentSerial p status

/-- The level of pass-through pin PTp (R151). -/
def State.ptLevel (s : State) (p : Nat) : Bool :=
  decide (p ≤ 3) && s.running (0x10 + p) && s.on (POS_CFG_PT_EN p) &&
  s.posLvl p (if s.on (POS_CFG_PT_SEL p) then 1 else 0)

/-! ### The commands -/

/-- POS_ENABLE (R131): the write of PG_CTRL.EN = 1. -/
def execPosEnable (t : Nat) (m : Master) (p : PosPort) (s : State) : Out :=
  s.act t (State.core 0) fun s => s.guardedMask m (0x10 + p) 8 1 1 (State.posEnable · p)

/-- POS_EDGE (R122 to R124): a pin has held the level `lvl` for `m.held` ticks, for FILT of them at least, and its timestamp is the
instant of its change. In VR mode the pin is the comparator, with the input at `m.mv` millivolts and `m.peak` the largest excursion
of the half-wave that ends with an active edge (R126, R127). -/
def execPosEdge (t : Nat) (p : PosPort) (pin : Fin 3) (lvl : Bool) (m : PinMove) (s : State) : Out :=
  s.act t (State.tbd 0) fun s =>
    if m.held < s.rd (POS_CFG_FILT p) || (s.posMode p == 3 && pin.val == 0 && !s.vrMoves p lvl m.mv) then s
    else s.posChange p pin lvl (s.tb - m.held) m.peak

/-- POS_DEFERRED_EDGE (R124). -/
def execPosDeferredEdge (t : Nat) (p : PosPort) (pin : Fin 3) (s : State) : Out :=
  s.act t (State.tbd 0) fun s => s.posDeferred p pin

/-- POS_INDEX (R135): the conditioned Z level rises. -/
def execPosIndex (t : Nat) (p : PosPort) (s : State) : Out :=
  s.act t (State.tbd 0) fun s =>
    if s.running (0x10 + p) && s.usesPin p 2 && !s.posLvl p 2 then
      ((s.setPort p { s.port p with filt := putBit (s.port p).filt 2 (!s.posInv p 2) }).setPosLvl p 2 true).indexEdge p
    else s

/-- LOAD (R133): the write of CTRL.LOAD = 1. -/
def execPosLoad (t : Nat) (m : Master) (p : PosPort) (s : State) : Out :=
  s.act t (State.core 0) fun s =>
    s.guardedMask m (0x10 + p) (POS_CTRL_LOAD p).off (2 ^ (POS_CTRL_LOAD p).lo) (2 ^ (POS_CTRL_LOAD p).lo) (State.posLoad · p)

/-- VR_ARM_HALVE (R127). -/
def execVrArmHalve (t : Nat) (p : PosPort) (s : State) : Out :=
  s.act t (State.tbd 0) fun s => s.vrHalve p

/-- SPEED_FALLBACK_WINDOW (R139). -/
def execSpeedFallbackWindow (t : Nat) (p : PosPort) (s : State) : Out :=
  s.act t (State.tbd 0) fun s => s.fbWindow p

/-- SSI_TRIG (R141): the write of CTRL.SSI_TRIG = 1. -/
def execSsiTrig (t : Nat) (m : Master) (p : PosPort) (aHigh : Bool) (s : State) : Out :=
  s.act t (State.core 0) fun s =>
    s.guardedMask m (0x10 + p) (POS_CTRL_SSI_TRIG p).off (2 ^ (POS_CTRL_SSI_TRIG p).lo) (2 ^ (POS_CTRL_SSI_TRIG p).lo)
      (State.ssiStart · p aHigh)

/-- SSI_WORD (R143). -/
def execSsiWord (t : Nat) (p : PosPort) (bs : List Bool) (s : State) : Out :=
  s.act t (State.tbd 0) fun s => s.ssiFrame p bs

/-- SSI_TIMEOUT (R142). -/
def execSsiTimeout (t : Nat) (p : PosPort) (s : State) : Out :=
  s.act t (State.tbd 0) fun s => s.ssiTimeout p

/-- SENT_FRAME (R149). -/
def execSentFrame (t : Nat) (p : PosPort) (sync : Nat) (nibs : List Nat) (pause : Option Nat) (extra : Bool) (s : State) :
    Out :=
  s.act t (State.tbd 0) fun s => s.sentFrame p sync nibs pause extra

end Sys2Proof.Machine
end

