-- ==== Sys2Proof/Machine/Cmp.lean ====
section
/-! DEFINITION. Threshold comparators (chapter 11): levels, latches, start-up, sampled windows. The threshold self-test
stands in CmpTest.lean. -/

namespace Sys2Proof.Machine

open Reg

/-- What comparator `n` holds. -/
def State.cmp (s : State) (n : Nat) : CmpS := tget {} s.cmps n

/-- Change what comparator `n` holds. -/
def State.setCmp (s : State) (n : Nat) (x : CmpS) : State := { s with cmps := tput {} s.cmps n x }

/-- Comparator `n` belongs to an enabled bank (R321). -/
def State.cmpOwned (s : State) (n : Nat) : Bool := s.on (PG_CTRL_EN (0x40 + n / 2))

/-- Comparator `n` runs: enabled by firmware or owned. -/
def State.cmpRuns (s : State) (n : Nat) : Bool := s.cmpOwned n || s.on (CMP_CMP_CFG_EN n)

/-- MODE in force (R321). -/
def State.cmpSampled (s : State) (n : Nat) : Bool := !s.cmpOwned n && s.on (CMP_CMP_CFG_MODE n)

/-- A failed free comparator holds its level, latch and source inactive (R324). -/
def State.cmpFailed (s : State) (n : Nat) : Bool :=
  bit (if n < 32 then s.rd CMP_FAIL0_FAIL else s.rd CMP_FAIL1_FAIL) (n % 32)

/-- Comparator `n` is under test (R322). -/
def State.cmpTesting (s : State) (n : Nat) : Bool :=
  match s.cmpTest with
  | some x => x.cur == some n
  | none => false

/-- The latch field that holds comparator `n`'s bit. -/
def latchField (n : Nat) : Field := if n < 32 then CMP_LATCH0_LATCH else CMP_LATCH1_LATCH

/-- The latch of comparator `n`. -/
def State.cmpLatch (s : State) (n : Nat) : Bool := bit (s.rd (latchField n)) (n % 32)

/-- The latch set or cleared. -/
def State.putLatch (s : State) (n : Nat) (b : Bool) : State :=
  s.wr (latchField n) (putBit (s.rd (latchField n)) (n % 32) b)

/-- LVL takes a level; on activation the latch is set (R319). -/
def State.putCmpLvl (s : State) (n : Nat) (b : Bool) : State :=
  let x := s.cmp n
  let s := s.setCmp n { x with lvl := b, riseAt := if b && !x.lvl then s.tb + 1 else x.riseAt }
  if b && !x.lvl then ((s.setBits (latchField n) (2 ^ (n % 32))).inc (CMP_CMP_AUX_SETS n)).iflag 0x80 0 else s

/-- A comparator starts, or starts again (R317): samples and level inactive; inside the band it is unresolved. -/
def State.cmpStart (s : State) (n : Nat) (inBand : Bool) : State :=
  s.setCmp n { s.cmp n with lvl := false, raw := false, unres := inBand, win := none }

/-- The level of a running comparator may change now: VREF is good, the reference has settled, no test runs on it and it
has not failed (R315, R318, R322, R324). -/
def State.cmpLive (s : State) (n : Nat) : Bool :=
  s.cmpRuns n && s.on (CBC_VREF_STAT_OK 0) && decide ((s.cmp n).settle ≤ s.tb) && !s.cmpTesting n &&
  (s.cmpOwned n || !s.cmpFailed n)

/-- The majority filter changes LVL after a crossing (R314, R317): a crossing leaves the band. -/
def State.cmpLevel (s : State) (n : Nat) (b : Bool) : State :=
  if s.cmpLive n && !s.cmpSampled n then
    (s.setCmp n { s.cmp n with raw := b, unres := false }).putCmpLvl n b
  else s

/-- A clean crossing of an unresolved input (R317): UNRESOLVED clears; LVL follows only under R314. -/
def State.cmpClean (s : State) (n : Nat) (active : Bool) : State :=
  let x := s.cmp n
  if s.cmpRuns n && s.on (CBC_VREF_STAT_OK 0) && x.unres then s.setCmp n { x with unres := false, raw := active } else s

/-- A period start clears the latches it selects (R319). -/
def State.latchPeriod (s : State) (sel : State → Nat → Bool) : State :=
  (List.range 48).foldl (fun s n => if sel s n then s.putLatch n false else s) s

/-- The frame boundary is a period start (R319). -/
def State.latchFrame (s : State) : State := s.latchPeriod fun s n => s.rd (CMP_CMP_CFG_LATCH_MODE n) == 1

/-- The rise of logical channel `ch` is a period start (R319). -/
def State.latchRise (s : State) (ch : Nat) : State :=
  s.latchPeriod fun s n => s.rd (CMP_CMP_CFG_LATCH_MODE n) == 2 && s.rd (CMP_CMP_AUX_CH n) == ch

/-- A match of general timer `g` opens the windows of the comparators that select it (R320). -/
def State.cmpWindowOpen (s : State) (g : Nat) : State :=
  (List.range 48).foldl
    (fun s n =>
      if s.cmpRuns n && s.cmpSampled n && s.rd (CMP_CMP_CFG_SAMP_SRC n) == g && !s.cmpTesting n then
        match (s.cmp n).win with
        | some _ => s.iflag 0x80 3
        | none => s.setCmp n { s.cmp n with win := some s.tb }
      else s) s

/-- The window ends: LVL takes the filtered value and the comparator unpowers (R320). -/
def State.cmpWindowEnd (s : State) (n : Nat) (b : Bool) : State :=
  match (s.cmp n).win with
  | some o =>
    if o + 800 ≤ s.tb then
      let s := s.setCmp n { s.cmp n with win := none }
      if s.cmpLive n then (s.setCmp n { s.cmp n with raw := b, unres := false }).putCmpLvl n b else s
    else s
  | none => s

/-- CMP_STAT.ON (R320). -/
def State.cmpOn (s : State) (n : Nat) : Bool :=
  s.cmpRuns n && (!s.cmpSampled n || (s.cmp n).win.isSome || s.cmpTesting n)

/-- CMP_STAT as read: the level fields of a comparator without a good VREF (R318). -/
def State.cmpLvlView (s : State) (n : Nat) : Bool := s.cmpUp && s.on (CBC_VREF_STAT_OK 0) && (s.cmp n).lvl

/-- CMP_STAT.UNRESOLVED as read. -/
def State.cmpUnresView (s : State) (n : Nat) : Bool := !s.on (CBC_VREF_STAT_OK 0) || (s.cmp n).unres

/-- The router source level of comparator `n` (R316); inactive while its domain is held (R11). -/
def State.cmpSource (s : State) (n : Nat) : Bool :=
  s.cmpUp && (s.cmpOwned n || !s.cmpFailed n) && (if s.on (CMP_CMP_CFG_OSEL n) then s.cmpLatch n else s.cmpLvlView n)

/-- VREF_STAT.OK changes (R318): lost, every comparator goes inactive; back, each starts again, with its band unknown until
its first crossing (assumption log 13). -/
def State.cmpVref (s : State) : State := (List.range 48).foldl (fun s n => s.cmpStart n true) s

/-- The block's part of a write of CMP_CFG (R7, R317, R321): the fields of an owned comparator but OSEL and LATCH_MODE keep
their values; EN rising starts a free comparator. -/
def State.cmpCfgWrite (s : State) (n v mk : Nat) (inBand : Bool) : State :=
  let was := s.on (CMP_CMP_CFG_EN n)
  let s' := s.plainWrite 0x80 (0x100 + 0x10 * n) v (if s.cmpOwned n then Nat.land mk 0x1C000000 else mk)
  if !s.cmpOwned n && s'.on (CMP_CMP_CFG_EN n) && !was then s'.cmpStart n inBand
  else if !s.cmpOwned n && !s'.on (CMP_CMP_CFG_EN n) && was then
    s'.setCmp n { s'.cmp n with lvl := false, raw := false, unres := false, win := none }
  else s'

/-- The block's part of a write of CMP_REF (R315): the threshold moves and LVL holds for 250 ns. -/
def State.cmpRefPut (s : State) (n v mk : Nat) : State :=
  if s.cmpOwned n then s
  else
    let s := s.plainWrite 0x80 (0x104 + 0x10 * n) v mk
    s.setCmp n { s.cmp n with settle := s.tb + 100 }

/-- A command of the bank rises while its comparator is under test (R323): that test ends and is made again later. -/
def State.cmpPreempt (s : State) (k : Nat) : State :=
  match s.cmpTest with
  | some x =>
    match x.cur with
    | some n =>
      if n / 2 = k ∧ s.cmpOwned n then
        let s := { s with cmpTest := some { x with cur := none, queue := x.queue ++ [n], bad := false } }
        (s.inc CMP_ST_STAT_PREEMPT).setCmp n { s.cmp n with settle := s.tb + 100 }
      else s
    | none => s
  | none => s

/-! ### The commands -/

/-- CMP_ENABLE (R317): the write of CMP_CFG with EN = 1. -/
def execCmpEnable (t : Nat) (m : Master) (n : Comp) (v : Word) (inBand : Bool) (s : State) : Out :=
  s.act t (State.core 2) fun s =>
    s.guarded m 0x80 (0x100 + 0x10 * n) v.toNat fun s => s.cmpCfgWrite n v.toNat 0xFFFFFFFF inBand

/-- CMP_REF_WRITE (R315). -/
def execCmpRefWrite (t : Nat) (m : Master) (n : Comp) (v : Word) (s : State) : Out :=
  s.act t (State.core 2) fun s =>
    s.guarded m 0x80 (0x104 + 0x10 * n) v.toNat fun s => s.cmpRefPut n v.toNat 0xFFFFFFFF

/-- CMP_LEVEL_CHANGE (R314). -/
def execCmpLevelChange (t : Nat) (n : Comp) (lvl : Bool) (s : State) : Out :=
  s.act t (State.tbd 2) fun s => s.cmpLevel n lvl

/-- CMP_SAMPLE_WINDOW_END (R320). -/
def execCmpSampleWindowEnd (t : Nat) (n : Comp) (lvl : Bool) (s : State) : Out :=
  s.act t (State.tbd 2) fun s => s.cmpWindowEnd n lvl

/-- CLEAN_CROSSING (R317). -/
def execCleanCrossing (t : Nat) (n : Comp) (active : Bool) (s : State) : Out :=
  s.act t (State.tbd 2) fun s => s.cmpClean n active

end Sys2Proof.Machine
end

