-- ==== Sys2Proof/Machine/Out.lean ====
section
/-! DEFINITION. The output angle, the tile map, channel levels, and the pins that follow them (R13, R158, R229, R261 to
R266). -/

namespace Sys2Proof.Machine

open Reg

/-! ### The output angle -/

/-- The output angle and state that every rule uses: the local tracker's, or the beacons' for a follower (R428); none while the ANGLE domain is
held (R11). -/
def State.ang (s : State) : AngOut :=
  if !s.domOn 0 then {}
  else
    match s.follow with
    | some f => f
    | none => s.trk.out

/-- VALID (R158). -/
def AngOut.valid (o : AngOut) : Bool := o.st == 2 || o.st == 3 || o.st == 4

/-- The state with HALTED counting as the state it interrupted (R160). -/
def AngOut.base (o : AngOut) : Nat := if o.st = 4 then o.level else o.st

/-- 360 °CA crank-only mode. -/
def State.cyc360 (s : State) : Bool := s.on TRK_CRANK_CFG_CYC360

/-- M of R157. -/
def State.cycM (s : State) : Nat := if s.cyc360 then 2 ^ 23 else 2 ^ 24

/-- P of R157. -/
def State.cycP (s : State) : Nat :=
  if s.cyc360 then s.rd TRK_CRANK_CFG_N_POS else 2 * s.rd TRK_CRANK_CFG_N_POS

/-- The modulus at which bank windows are compared (R278). -/
def State.winM (s : State) : Nat := if s.ang.b23u then 2 ^ 23 else 2 ^ 24

/-- An angle lies in the window that starts at `a` and spans `w`, modulo `M`. -/
def inSpan (M a w x : Nat) : Bool := decide (subMod M x a < w)

/-! ### The tile map -/

/-- The physical tile of a logical tile; none for logical tile 8 while no tile is SLATE (R13, R14). -/
def State.tileOf (s : State) (lt : Nat) : Option Nat :=
  if lt < 8 then some (bits (s.rd MAINT_LMAP0_MAP) (4 * lt) 4)
  else if s.rd MAINT_LMAP1_SLATE ≤ 8 then some (s.rd MAINT_LMAP1_SLATE) else none

/-- The physical channel of a logical channel (R13). -/
def State.physOf (s : State) (n : Nat) : Option Nat :=
  if n < 216 then (s.tileOf (n / 24)).map fun t => 24 * t + n % 24 else none

/-- The logical tile of a physical tile, if one maps to it. -/
def State.ltileOf (s : State) (t : Nat) : Option Nat := (List.range 9).find? fun lt => s.tileOf lt == some t

/-- The logical channel of a physical channel. -/
def State.logOf (s : State) (p : Nat) : Option Nat := (s.ltileOf (p / 24)).map fun lt => 24 * lt + p % 24

/-- The engine that serves a physical channel (R237): that of its logical channel; GEL3 where none maps to it. -/
def State.engineOf (s : State) (p : Nat) : Nat :=
  match s.logOf p with
  | some n => if 192 ≤ n then 3 else n / 54
  | none => 3

/-! ### Channel levels -/

/-- What physical channel `p` holds. -/
def State.chan (s : State) (p : Nat) : Chan := tget {} s.chans p

/-- The channel has an envelope and a carrier (R229). -/
def State.envOn (s : State) (p : Nat) : Bool := s.on (TILE_CH_CFG_ENV (p / 24) (p % 24))

/-- The pin level (R229): envelope AND carrier; without ENV the envelope is the one channel level (assumption log 43). -/
def Chan.pin (x : Chan) (envOn : Bool) : Bool := x.env && (x.car || !envOn)

/-- How many of the items that the Sepia store follows differ (R459). -/
def Chan.items (e : Bool) (a b : Chan) : Nat :=
  b2n (decide (a.mtT ≠ b.mtT ∨ a.mtArm ≠ b.mtArm ∨ a.mtAct ≠ b.mtAct ∨ a.mtPassed ≠ b.mtPassed ∨ a.mtOff ≠ b.mtOff)) +
  b2n (decide (a.maA ≠ b.maA ∨ a.maArm ≠ b.maArm ∨ a.maCpl ≠ b.maCpl ∨ a.maAct ≠ b.maAct ∨ a.maPassed ≠ b.maPassed ∨ a.maOff ≠ b.maOff)) +
  b2n (a.mhold != b.mhold) + b2n (decide (a.sact ≠ b.sact ∨ a.sactArm ≠ b.sactArm)) + b2n (a.env != b.env) +
  b2n (a.car != b.car) + b2n (a.pin e != b.pin e) + b2n (decide (a.cap0 ≠ b.cap0)) +
  b2n (decide (a.cap1 ≠ b.cap1)) + b2n (decide (a.srq ≠ b.srq)) + b2n (decide (a.yield ≠ b.yield)) + b2n (decide (a.act ≠ b.act))

/-- A channel's tile is in CRIMSON, or its channels move or wait for their takeover (R457, R460): the channel acts no more,
and its log is closed. -/
def State.dead (s : State) (p : Nat) : Bool :=
  s.pageCrimson (0x20 + p / 24) ||
  (match s.maint.mig with
   | some g => p / 24 == g.dst || p / 24 == g.src
   | none => false)

/-- `n` items of a channel change: the tile's log takes 128 entries in a frame, and marks what comes after (R459). -/
def State.sepia (s : State) (p n : Nat) : State :=
  let m := s.maint
  let c := tget 0 m.log (p / 24) + n
  if n = 0 ∨ s.dead p then s
  else { s with maint := { m with
    log := tput 0 m.log (p / 24) c, lost := if 128 < c ∧ !m.lost.contains p then m.lost ++ [p] else m.lost } }

/-- Change what physical channel `p` holds. -/
def State.setChan (s : State) (p : Nat) (x : Chan) : State :=
  let s := s.sepia p ((s.chan p).items (s.envOn p) x)
  { s with chans := tput {} s.chans p x }

/-- The pin level of a physical channel (R229). -/
def State.chPin (s : State) (p : Nat) : Bool := (s.chan p).pin (s.envOn p)

/-- The pin level of a logical channel. -/
def State.logPin (s : State) (n : Nat) : Bool :=
  match s.physOf n with
  | some p => s.chPin p
  | none => false

/-! ### Gates -/

/-- What slot `i` of bank `k` holds. -/
def State.slot (s : State) (k i : Nat) : SlotS := tget {} s.slots (2 * k + i)

/-- Change what slot `i` of bank `k` holds. -/
def State.setSlot (s : State) (k i : Nat) (x : SlotS) : State := { s with slots := tput {} s.slots (2 * k + i) x }

/-- SLOT_STAT.PHASE (R274): 0 OFF, 1 BOOST, 2 PEAK, 3 HOLD, 4 QUENCH. -/
def State.phase (s : State) (k i : Nat) : Nat := s.rd (BANK_SLOT_STAT_PHASE k i)

/-- The slot is in BOOST, PEAK or HOLD. -/
def State.slotRuns (s : State) (k i : Nat) : Bool := decide (1 ≤ s.phase k i) && decide (s.phase k i ≤ 3)

/-- A gate command of bank `k` (R274): 0 HSB, 1 HSS, 2 LS0, 3 LS1. -/
def State.gate (s : State) (k g : Nat) : Bool :=
  match g with
  | 0 => s.phase k 0 == 1 || s.phase k 1 == 1
  | 1 => ((s.phase k 0 == 2 || s.phase k 0 == 3) && (s.slot k 0).hss) ||
         ((s.phase k 1 == 2 || s.phase k 1 == 3) && (s.slot k 1).hss)
  | g =>
    let i := g - 2
    s.slotRuns k i && !(s.phase k i == 3 && (s.slot k i).waitB && s.on (BANK_THR_Q_HQ k i))

/-! ### Pins -/

/-- OUT is ARMED (R267). -/
def State.armed (s : State) : Bool := s.rd OUT_ARM_STAT_STATE == 1

/-- BOOT has applied the safety configuration (R262): BOOT_STAT reads READY. -/
def State.bootReady (s : State) : Bool := s.rd (HOST_BOOT_STAT_STATE 0) == 0x20

/-- A soft-off of group `g` runs (R266). -/
def State.softRuns (s : State) (g : Nat) : Bool := s.out.soft.any fun e => e.1 == g

/-- The source of pin `n` is active (R261). -/
def State.pinSource (s : State) (n : Nat) : Bool :=
  match s.rd (OUT_PIN_CFG_KIND n) with
  | 1 => s.logPin (s.rd (OUT_PIN_CFG_SRC n))
  | 2 => s.gate (s.rd (OUT_PIN_CFG_BANK n)) (s.rd (OUT_PIN_CFG_SRC n) % 4)
  | 3 => s.softRuns (s.rd (OUT_PIN_CFG_SRC n) % 16)
  | _ => false

/-- The safe level of pin `n` (R265). -/
def State.pinSafe (s : State) (n : Nat) : Bool := bit (s.rd (OUT_SAFE_SAFE (n / 32))) (n % 32)

/-- Engine `g` is HALTED with DEBUG_SAFE = 1 (R43, R256). DESIGN CHOICE (assumption log 70): the bit of the engine's own page, GELx,
decides; the bit of another page is stored only. -/
def State.haltSafe (s : State) (g : Nat) : Bool :=
  s.rd (GEL_GEL_STAT_STATE g) == 3 && s.on (PG_CTRL_DEBUG_SAFE (0x30 + g))

/-- A channel's DIRECT pins are forced safe (R14, R231, R256, R265). -/
def State.chForced (s : State) (n : Nat) : Bool :=
  match s.physOf n with
  | none => true
  | some p => (s.chan p).safe || s.dead p || s.haltSafe (s.engineOf p) || !s.domOn 1

/-- Pin `n` is forced safe (R265). -/
def State.pinForced (s : State) (n : Nat) : Bool :=
  s.out.held.contains n || s.pageCrimson 0x38 || s.pkgCrimson || !s.domOn 1 ||
  (s.rd (OUT_PIN_CFG_KIND n) == 1 && s.chForced (s.rd (OUT_PIN_CFG_SRC n)))

/-- A device of a duplex pair that is not the active leaves its shared pins (R433). -/
def State.dupOff (s : State) : Bool := s.on CASC_CASC_CFG_DUP_EN && s.rd CASC_CASC_STAT_ROLE != 2

/-- The driven level of pin `n`; none while it is high impedance (R262, R266). For 40 ns of a soft-off a pin of the coil stays active. -/
def State.pinLevel (s : State) (n : Nat) : Option Bool :=
  let kind := s.rd (OUT_PIN_CFG_KIND n)
  let inv := s.on (OUT_PIN_CFG_INV n)
  if !s.bootReady || (s.dupOff && s.on (OUT_PIN_CFG_HIZ n)) then none
  else if s.out.tail.any fun e => e.1 == n && decide (s.tb < e.2) then some (true != inv)
  else if kind == 3 && s.pinSource n then some (true != inv)
  else if !s.armed then (if s.on (OUT_PIN_CFG_HIZ n) then none else some (s.pinSafe n))
  else if s.pinForced n then some (s.pinSafe n)
  else if kind = 0 ∨ 4 ≤ kind then some (s.pinSafe n)
  else some (s.pinSource n != inv)

/-- Held pins follow their sources from each source's next change (R265, R267): those whose source differs from what it was
in `s0` are held no more. -/
def State.follow_ (s s0 : State) : State :=
  if s.out.held = [] then s
  else { s with out := { s.out with held := s.out.held.filter fun n => s.pinSource n == s0.pinSource n } }

/-- Pins begin to hold their safe levels until their sources' next changes (R265). -/
def State.holdPins (s : State) (sel : Nat → Bool) : State :=
  { s with out := { s.out with held := (List.range 128).filter fun n => sel n || s.out.held.contains n } }

/-- DIRECT pins of the logical channels `sel` names. -/
def State.directOf (s : State) (sel : Nat → Bool) (n : Nat) : Bool :=
  s.rd (OUT_PIN_CFG_KIND n) == 1 && sel (s.rd (OUT_PIN_CFG_SRC n))

/-! ### Soft-off (R266) -/

/-- The soft group of a logical channel. -/
def State.softGroup (s : State) (n : Nat) : Nat := bits (s.rd (OUT_SOFT_MAP_GRP (n / 8))) (4 * (n % 8)) 4

/-- A soft-off of physical channel `p` starts, if its channel has a soft group: the channel's DIRECT pins that were driven active in
`s0` fall 40 ns after it. An earlier soft-off of the channel runs on. -/
def State.softOff (s s0 : State) (p : Nat) : State :=
  match s.logOf p with
  | none => s
  | some n =>
    let g := s.softGroup n
    if g = 0 then s
    else
      let pins := (List.range 128).filter fun m =>
        s.rd (OUT_PIN_CFG_KIND m) == 1 && s.rd (OUT_PIN_CFG_SRC m) == n && s0.pinLevel m == some (true != s.on (OUT_PIN_CFG_INV m))
      let tail := (s.out.tail.filter fun (e : Nat × Nat) => decide (s.tb < e.2)) ++ pins.map fun m => (m, s.tb + 16)
      let s := { s with out := { s.out with soft := s.out.soft ++ [(g, p, s.tb)], tail := tail } }
      (s.inc OUT_SOFT_CNT_COUNT).iflag 0x38 4

/-- A rise within 25 µs of the start of the channel's soft-off ends it. -/
def State.softRise (s : State) (p : Nat) : State :=
  { s with out := { s.out with soft := s.out.soft.filter fun e => !(e.2.1 == p && decide (s.tb < e.2.2 + 10000)) } }

/-- SOFT_T in ticks. -/
def State.softT (s : State) : Nat := 400 * max 1 (s.rd OUT_OUT_CFG_SOFT_T)

/-- SOFT_T after the latest soft-off start of the group, its SOFT pins fall. -/
def State.softEnd (s : State) (g : Nat) : State :=
  let es : List (Nat × Nat × Nat) := s.out.soft.filter fun e => e.1 == g
  if !es.isEmpty && (es.all fun e => decide (e.2.2 + s.softT ≤ s.tb)) then
    ({ s with out := { s.out with soft := s.out.soft.filter fun e => e.1 != g } } : State).follow_ s
  else s

/-- Every coil channel with an active level starts a soft-off: its pins, driven as in `s0` until now, are forced safe (R266). -/
def State.softAll (s s0 : State) (sel : Nat → Bool) : State :=
  (List.range 216).foldl (fun s p => if sel p && s.chPin p then s.softOff s0 p else s) s

/-- The DIRECT pins of a channel hold their safe levels until its level changes: the event that forced them safe has ended (R265). -/
def State.holdChan (s : State) (p : Nat) : State :=
  match s.logOf p with
  | some n => s.holdPins (s.directOf (· == n))
  | none => s

/-- SOFT_OFF_END (R266). -/
def execSoftOffEnd (t : Nat) (g : Fin 16) (s : State) : Out :=
  s.act t (State.tbd 1) fun s => s.softEnd g

end Sys2Proof.Machine
end

