-- ==== Sys2Proof/Machine/Bank.lean ====
section
/-! DEFINITION. Current banks (R272 to R281), and arming (R267 to R270). -/

namespace Sys2Proof.Machine

open Reg

/-! ### Bank slots -/

/-- The SRC_ID of bank `k`'s phase sequencer (R280). -/
def srcBank (k : Nat) : Nat := srcId 1 (0x30 + k / 2) (8 * (k % 2) + 3)

/-- Bank `k` is enabled. -/
def State.bankOn (s : State) (k : Nat) : Bool := s.on (PG_CTRL_EN (0x40 + k))

/-- The logical channel attached to slot `i`. -/
def State.attach (s : State) (k i : Nat) : Nat := if i = 0 then s.rd (BANK_ATTACH_CH0 k) else s.rd (BANK_ATTACH_CH1 k)

/-- Slot `i` is enabled. -/
def State.slotEn (s : State) (k i : Nat) : Bool := bit (s.rd (BANK_BANK_CFG_SLOT_EN k)) i

/-- The slot whose phase sets the thresholds: the running one, else the one in QUENCH that entered it last (R274, R277;
assumption log 14). -/
def State.bankOwner (s : State) (k : Nat) : Option Nat :=
  if s.slotRuns k 0 then some 0
  else if s.slotRuns k 1 then some 1
  else
    match s.phase k 0 == 4, s.phase k 1 == 4 with
    | true, true => if (s.slot k 0).since < (s.slot k 1).since then some 1 else some 0
    | true, false => some 0
    | false, true => some 1
    | false, false => none

/-- The thresholds A and B of a slot's phase (R274). -/
def State.slotRefs (s : State) (k i : Nat) : Nat × Nat :=
  match s.phase k i with
  | 1 | 2 => (s.rd (BANK_THR_PK_PK_HI k i), s.rd (BANK_THR_PK_PK_LO k i))
  | 3 => (s.rd (BANK_THR_H_H_HI k i), s.rd (BANK_THR_H_H_LO k i))
  | _ => (s.rd (BANK_THR_H_H_HI k i), s.rd (BANK_THR_Q_Q_END k i))

/-- The references the bank sets: its owner slot's. -/
def State.bankRefs (s : State) (k : Nat) : Option (Nat × Nat) := (s.bankOwner k).map (s.slotRefs k)

/-- After a phase change from the references `old`, a comparator whose reference moved is ignored for 250 ns (R273). -/
def State.retarget (s : State) (k : Nat) (old : Option (Nat × Nat)) : State :=
  match s.bankRefs k with
  | none => s
  | some (a, b) =>
    let moved (f : Nat × Nat → Nat) (v : Nat) : Bool :=
      match old with
      | some r => f r != v
      | none => true
    let s := if moved (·.1) a then s.setCmp (2 * k) { s.cmp (2 * k) with settle := s.tb + 100 } else s
    if moved (·.2) b then s.setCmp (2 * k + 1) { s.cmp (2 * k + 1) with settle := s.tb + 100 } else s

/-- A slot enters a phase: references and pins follow. -/
def State.enter (s : State) (k i ph : Nat) (x : SlotS) : State :=
  let old := s.bankRefs k
  let t := (s.setSlot k i { x with since := s.tb }).wr (BANK_SLOT_STAT_PHASE k i) ph
  (t.retarget k old).follow_ s

/-- The slot enters QUENCH from BOOST, PEAK or HOLD (R274, R279). -/
def State.quench (s : State) (k i : Nat) : State :=
  if s.slotRuns k i then
    let x := s.slot k i
    s.enter k i 4 { x with hss := false, waitB := false, delayed := false, fromOff := false, chop := false,
                           qHold := if s.phase k i = 3 then some s.tb else none }
  else s

/-- Both slots of a bank quench. -/
def State.quenchBank (s : State) (k : Nat) : State := (s.quench k 0).quench k 1

/-- Every slot of every bank quenches (R267, R279). -/
def State.quenchAll (s : State) : State := (List.range 24).foldl State.quenchBank s

/-- The slots attached to logical channel `n` of enabled banks quench (R279). -/
def State.quenchChannel (s : State) (n : Nat) : State :=
  (List.range 48).foldl
    (fun s j => if s.bankOn (j / 2) && s.slotEn (j / 2) (j % 2) && s.attach (j / 2) (j % 2) == n then s.quench (j / 2) (j % 2)
      else s) s

/-- QUENCH ends in OFF. -/
def State.slotOff (s : State) (k i : Nat) : State :=
  if s.phase k i = 4 then s.enter k i 0 { s.slot k i with qHold := none } else s

/-- When HSS of bank `k`, which its slots share, last switched on. -/
def State.hssAt (s : State) (k : Nat) : Option Nat :=
  match (s.slot k 0).onAt, (s.slot k 1).onAt with
  | some a, some b => some (max a b)
  | some a, none => some a
  | none, b => b

/-- HSS switches on, now or once TPER_MIN has passed since it last did, in whatever phase that was (R275). A chop period lies between
two switch-ons of one command. -/
def State.hssOn (s : State) (k i : Nat) : State :=
  let x := s.slot k i
  let per := 4 * max 1000 (s.rd (BANK_BANK_CFG_TPER_MIN k))
  let on := { x with hss := true, onAt := some s.tb, delayed := false, chop := true }
  match s.hssAt k with
  | some o =>
    if s.tb < o + per then
      if x.delayed then s else (s.setSlot k i { x with delayed := true }).inc (BANK_ERR_CNT1_CHOP_DLY k)
    else if x.chop then
      let p := satN 16 ((s.tb - o) / 4)
      let t := s.setSlot k i on
      let t := (t.wr (BANK_CHOP_STAT_LAST_PER k) p).wr (BANK_CHOP_STAT_MIN_PER k) (min p (s.rd (BANK_CHOP_STAT_MIN_PER k)))
      t.follow_ s
    else (s.setSlot k i on).follow_ s
  | none => (s.setSlot k i on).follow_ s

/-- HSS switches off. -/
def State.hssOff (s : State) (k i : Nat) : State := (s.setSlot k i { s.slot k i with hss := false }).follow_ s

/-- PEAK begins: HSS off after a BOOST, on without one (R274). -/
def State.toPeak (s : State) (k i : Nat) (x : SlotS) (hss : Bool) : State :=
  s.enter k i 2 { x with hss := hss, onAt := if hss then some s.tb else x.onAt, chop := hss, waitB := false, delayed := false }

/-- HOLD begins: HSS off until B falls (R274). -/
def State.toHold (s : State) (k i : Nat) (x : SlotS) : State :=
  s.enter k i 3 { x with hss := false, waitB := true, delayed := false }

/-- Comparator A of bank `k` is high (R275, R276). -/
def State.bankA (s : State) (k : Nat) : State :=
  match s.bankOwner k with
  | none => s
  | some i =>
    let x := s.slot k i
    match s.phase k i with
    | 1 =>
      let len := s.tb - x.since
      if x.fromOff ∧ len < 40 * s.rd (BANK_T_BOOST_T_BOOST_MIN k i) then
        let s := ((s.quench k i).inc (BANK_ERR_CNT0_SHORT k)).setBits (BANK_SLOT_STAT_LOCK k i) 1
        let s := s.wr (BANK_SLOT_STAT_T_BOOST_LAST k i) (satN 16 (len / 40))
        (s.iflag (0x40 + k) 1).raise (srcBank k) 0x38 i
      else
        (s.toPeak k i { x with fromOff := false } false).wr (BANK_SLOT_STAT_T_BOOST_LAST k i) (satN 16 (len / 40))
    | 2 | 3 =>
      match s.hssAt k with
      | some o => if x.hss && decide (o + 4 * s.rd (BANK_BANK_CFG_BLANK k) ≤ s.tb) then s.hssOff k i else s
      | none => s
    | _ => s

/-- Comparator B of bank `k` is low (R274, R275). -/
def State.bankB (s : State) (k : Nat) : State :=
  match s.bankOwner k with
  | none => s
  | some i =>
    let x := s.slot k i
    match s.phase k i with
    | 2 => if x.hss then s else s.hssOn k i
    | 3 =>
      if x.waitB then
        let t := s.setSlot k i { x with waitB := false }
        (t.follow_ s).hssOn k i
      else if x.hss then s
      else s.hssOn k i
    | 4 => s.slotOff k i
    | _ => s

/-- The bank sees a comparator: it is past its settling time (R273). -/
def State.bankSees (s : State) (k : Nat) (b : Bool) : Bool :=
  s.cmpUp && decide ((s.cmp (2 * k + b2n b)).settle ≤ s.tb) && !s.cmpTesting (2 * k + b2n b)

/-- T_PEAK after entry into PEAK, the slot enters HOLD. -/
def State.peakEnd (s : State) (k i : Nat) : State :=
  let x := s.slot k i
  if s.phase k i == 2 && decide (x.since + 40 * s.rd (BANK_T_PHASE_T_PEAK k i) ≤ s.tb) then s.toHold k i x else s

/-- BOOST reaches T_BOOST_MAX (R276). -/
def State.boostMax (s : State) (k i : Nat) : State :=
  if s.phase k i == 1 && decide ((s.slot k i).since + 40 * s.rd (BANK_T_BOOST_T_BOOST_MAX k i) ≤ s.tb) then
    (((s.quench k i).inc (BANK_ERR_CNT0_OPEN k)).iflag (0x40 + k) 2).raise (srcBank k) 0x39 i
  else s

/-- QUENCH reaches T_QMAX (R276). -/
def State.quenchMax (s : State) (k i : Nat) : State :=
  if s.phase k i == 4 && decide ((s.slot k i).since + 40 * s.rd (BANK_T_PHASE_T_QMAX k i) ≤ s.tb) then
    (((s.slotOff k i).inc (BANK_ERR_CNT1_QTO k)).iflag (0x40 + k) 6).raise (srcBank k) 0x3A i
  else s

/-- Comparator B of bank `k` is low, as far as the bank sees it. -/
def State.bankBLow (s : State) (k : Nat) : Bool := s.bankSees k true && !(s.cmp (2 * k + 1)).lvl

/-- TPER_MIN expires for a delayed switch-on (R275): HSS switches on if comparator B is still low; else its next fall does it. -/
def State.tperEnd (s : State) (k : Nat) : State :=
  match s.bankOwner k with
  | none => s
  | some i =>
    if !(s.slot k i).delayed then s
    else if s.bankBLow k then s.hssOn k i
    else
      match s.hssAt k with
      | some o =>
        if o + 4 * max 1000 (s.rd (BANK_BANK_CFG_TPER_MIN k)) ≤ s.tb then s.setSlot k i { s.slot k i with delayed := false } else s
      | none => s

/-- BLANK expires with comparator A already high (R275). -/
def State.blankEnd (s : State) (k : Nat) : State :=
  if (s.cmp (2 * k)).lvl && s.bankSees k false then
    match s.bankOwner k with
    | none => s
    | some i => if 2 ≤ s.phase k i ∧ s.phase k i ≤ 3 then s.bankA k else s
  else s

/-- The output angle lies in slot `i`'s window (R278). -/
def State.inWindow (s : State) (k i : Nat) : Bool :=
  s.ang.valid && inSpan s.winM (s.rd (BANK_WIN_START_START k i)) (s.rd (BANK_WIN_SPAN_SPAN k i)) s.ang.ang

/-- The command of a slot (R274): the level of its logical channel. While the channel's tile is in CRIMSON, or its channels wait for
their takeover, there is none; a command that resumes rises again (R25, R282). -/
def State.command (s : State) (n : Nat) : Bool :=
  match s.physOf n with
  | some p => s.chPin p && !s.dead p
  | none => false

/-- A rise of slot `i`'s command: accepted, or refused by CRIMSON, lock, collision or window (R274 to R278). -/
def State.slotRise (s : State) (k i : Nat) : State :=
  let x := s.slot k i
  let o := 1 - i
  if !(s.bankOn k && s.slotEn k i) || x.cmd || !s.command (s.attach k i) then s
  else
    let s := (s.setSlot k i { x with cmd := true }).cmpPreempt k
    let x := s.slot k i
    let first := i == 1 && s.slotEn k 0 && !(s.slot k 0).cmd && s.command (s.attach k 0)
    if s.pageCrimson (0x40 + k) || s.on (BANK_SLOT_STAT_LOCK k i) then s
    else if s.slotRuns k o || first then
      ((s.inc (BANK_ERR_CNT0_COLLIDE k)).iflag (0x40 + k) 3).raise (srcBank k) 0x3B i
    else if s.on (BANK_BANK_CFG_WIN_EN k) && !s.inWindow k i then
      ((s.inc (BANK_ERR_CNT0_WIN k)).iflag (0x40 + k) 4).raise (srcBank k) 0x3C i
    else
      let s := s.inc (if i = 0 then BANK_PULSE_CNT_SLOT0 k else BANK_PULSE_CNT_SLOT1 k)
      let held := match x.qHold with
        | some q => s.phase k i == 4 && decide (s.tb < q + 10000)
        | none => false
      let fromOff := s.phase k i == 0
      let x := { x with qHold := none, chop := false }
      if held then s.toHold k i x
      else if s.on (BANK_THR_Q_BOOST_EN k i) then s.enter k i 1 { x with fromOff := fromOff, hss := false, waitB := false, delayed := false }
      else s.toPeak k i x true

/-- A fall of slot `i`'s command leads to QUENCH (R274). -/
def State.slotFall (s : State) (k i : Nat) : State :=
  let x := s.slot k i
  if x.cmd && !s.command (s.attach k i) then
    let s := s.setSlot k i { x with cmd := false }
    s.quench k i
  else s

/-- The output angle leaves a running slot's window (R278). -/
def State.slotWindows (s : State) : State :=
  (List.range 48).foldl
    (fun s j =>
      let k := j / 2
      let i := j % 2
      if s.slotRuns k i && s.on (BANK_BANK_CFG_WIN_EN k) && s.ang.valid && !s.inWindow k i then
        (((s.quench k i).inc (BANK_ERR_CNT1_WIN_END k)).iflag (0x40 + k) 5).raise (srcBank k) 0x3C i
      else s) s

/-! ### The configuration check (R281) -/

/-- A failed check: code, entry, first and second channel. -/
structure BankFail where
  code : Nat
  idx : Nat := 0xFFF
  a : Nat := 0xFF
  b : Nat := 0xFF
  deriving DecidableEq, Repr

/-- Mw of R281. -/
def State.bankM (s : State) : Nat := if s.on EVT_CFG_CS_MODE || s.cyc360 then 2 ^ 23 else 2 ^ 24

/-- The words of event-table entry `i` in force. -/
def State.entry (s : State) (i : Nat) : Entry4 :=
  let a := evtBase + 16 * i
  ⟨rdWord s.mem a, rdWord s.mem (a + 4), rdWord s.mem (a + 8), rdWord s.mem (a + 12)⟩

/-- Entry fields (R193, R195). -/
def Entry4.typ (e : Entry4) : Nat := bits e.w0 28 4
def Entry4.cycSel (e : Entry4) : Nat := bits e.w0 24 4
def Entry4.angle (e : Entry4) : Nat := bits e.w0 0 24
def Entry4.param (e : Entry4) : Nat := bits e.w1 16 16
def Entry4.op (e : Entry4) : Nat := bits e.w1 8 8
def Entry4.ch (e : Entry4) : Nat := bits e.w1 0 8
def Entry4.next (e : Entry4) : Nat := bits e.w3 12 12
def Entry4.lateLim (e : Entry4) : Nat := bits e.w3 0 12
def Entry4.valid (e : Entry4) : Bool := bit e.w3 24

/-- Indexes of entries that hold anything, in rising order: those with a listed byte. -/
def State.entryIdx (s : State) : List Nat :=
  ((s.mem.filter fun c => decide (evtBase ≤ c.1) && decide (c.1 < evtBase + 0x10000)).map fun c => (c.1 - evtBase) / 16).dedup

/-- The slots enabled on bank `k`. -/
def State.enSlots (s : State) (k : Nat) : List Nat := [0, 1].filter (s.slotEn k)

/-- The first failing check of R281, code 7's scan over the entries apart. -/
def State.bankEntries (s : State) (k : Nat) : Option BankFail :=
  let M := s.bankM
  s.entryIdx.findSome? fun j =>
    let e := s.entry j
    if !(e.valid && e.typ == 0 && [1, 3, 4, 5, 8].contains e.op) then none
    else
      (s.enSlots k).findSome? fun i =>
        if s.attach k i ≠ e.ch then none
        else
          let inW (a : Nat) : Bool := inSpan M (s.rd (BANK_WIN_START_START k i)) (s.rd (BANK_WIN_SPAN_SPAN k i)) a
          let n := s.entry e.next
          let endOk := e.op != 4 || !(n.valid && n.typ == 1 && n.ch == e.ch) || inW n.angle
          if inW e.angle && endOk then none else some { code := 7, idx := j, a := e.ch }

/-- The first failing check of R281. Two slots that name no channel name no common one. -/
def State.bankCheck (s : State) (k : Nat) : Option BankFail :=
  let en := s.enSlots k
  let c0 := s.attach k 0
  let c1 := s.attach k 1
  let both := en == [0, 1]
  let M := s.bankM
  match en.filter fun i => decide (191 < s.attach k i) with
  | [i] => some { code := 1, a := s.attach k i }
  | _ :: _ => some { code := 1, a := c0, b := c1 }
  | [] =>
    if c0 == c1 && decide (c0 ≤ 215) then some { code := 1, a := c0, b := c1 }
    else
      let other (c : Nat) : Bool := (List.range 24).any fun k' =>
        k' != k && s.bankOn k' && (s.enSlots k').any fun i => s.attach k' i == c
      match en.find? fun i => other (s.attach k i) with
      | some i => some { code := 2, a := s.attach k i }
      | none =>
        let bad (i : Nat) : Bool :=
          let pl := s.rd (BANK_THR_PK_PK_LO k i)
          let ph := s.rd (BANK_THR_PK_PK_HI k i)
          let hl := s.rd (BANK_THR_H_H_LO k i)
          let hh := s.rd (BANK_THR_H_H_HI k i)
          let q := s.rd (BANK_THR_Q_Q_END k i)
          !(decide (pl < ph) && decide (hl < hh) && decide (hh ≤ ph) && decide (q < hl) && s.on (BANK_T_PHASE_T_QMAX k i) &&
            (!s.on (BANK_THR_Q_BOOST_EN k i) ||
              decide (s.rd (BANK_T_BOOST_T_BOOST_MIN k i) < s.rd (BANK_T_BOOST_T_BOOST_MAX k i))))
        match en.find? bad with
        | some i => some { code := 3, a := s.attach k i }
        | none =>
          let win := s.on (BANK_BANK_CFG_WIN_EN k)
          if both && !win then some { code := 4, a := c0, b := c1 }
          else
            let span (i : Nat) : Nat := s.rd (BANK_WIN_SPAN_SPAN k i)
            match en.find? fun i => win && !(decide (1 ≤ span i) && decide (span i ≤ M / 2)) with
            | some i => some { code := 5, a := s.attach k i }
            | none =>
              let st (i : Nat) : Nat := s.rd (BANK_WIN_START_START k i) % M
              let g01 := subMod M (st 1) (st 0 + span 0)
              let g10 := subMod M (st 0) (st 1 + span 1)
              let gd := s.rd (BANK_QGUARD_GUARD k)
              if both && !(g01 + g10 + span 0 + span 1 == M && decide (gd ≤ g01) && decide (gd ≤ g10)) then
                some { code := 6, a := c0, b := c1 }
              else if win then s.bankEntries k
              else none

/-- A bank is enabled: the check, then ownership of its comparators, or a refusal (R272, R281). -/
def State.bankEnable (s : State) (k : Nat) : State :=
  if s.bankOn k then s
  else
    match s.bankCheck k with
    | some f =>
      let s := (s.wr (PG_STAT_BLK (0x40 + k)) f.code).wr (BANK_CHK_REC_CODE k) f.code
      let s := ((s.wr (BANK_CHK_REC_IDX k) f.idx).wr (BANK_CHK_REC_CH_A k) f.a).wr (BANK_CHK_REC_CH_B k) f.b
      (s.iflag (0x40 + k) 0).cfgRec (srcBank k) f.code (if f.code = 7 then f.idx else f.a)
    | none =>
      let s := (s.wr (PG_STAT_BLK (0x40 + k)) 0).wr (PG_CTRL_EN (0x40 + k)) 1
      let s := (s.setSlot k 0 { s.slot k 0 with cmd := false }).setSlot k 1 { s.slot k 1 with cmd := false }
      (s.cmpStart (2 * k) true).cmpStart (2 * k + 1) true

/-- A bank stops: its slots quench and its comparators go back to firmware and start again (R279, R321). -/
def State.bankDisable (s : State) (k : Nat) : State :=
  if !s.bankOn k then s
  else
    let s := (s.quenchBank k).wr (PG_CTRL_EN (0x40 + k)) 0
    (s.cmpStart (2 * k) true).cmpStart (2 * k + 1) true

/-! ### Arming (R267 to R270) -/

/-- OUT leaves ARMED, with its pins driven as in `s0` until now: pins of all sources hold their safe levels; coil channels with an active level soft-off; slots quench; the permit
stops at its generators' next instants. -/
def State.disarmActs (s s0 : State) : State :=
  let s := s.softAll s0 fun _ => true
  (s.quenchAll).wr OUT_ARM_STAT_PENDING 0

/-- OUT leaves ARMED with a trip cause (R267). -/
def State.outTripFrom (s s0 : State) (cause : Nat) : State :=
  if s.armed then
    let s := ((s.wr OUT_ARM_STAT_STATE 2).wr OUT_ARM_STAT_TRIP_CAUSE cause).iflag 0x38 2
    ((s.wr OUT_ARM_STAT_DPA_ACT 0).wr OUT_ARM_STAT_DPB_ACT 0).disarmActs s0
  else s.wr OUT_ARM_STAT_PENDING 0
def State.outTrip (s : State) (cause : Nat) : State := s.outTripFrom s cause

/-- Cause 1 is present: package CRIMSON (R267). -/
def State.tripCause (s : State) : Nat := if s.pkgCrimson then 1 else 0

/-- A trip cause present for the check of R268: package CRIMSON, the cause of a trip not yet disarmed, or sleep or device
debug halt in progress. -/
def State.tripPresent (s : State) : Nat :=
  if s.pkgCrimson then 1
  else if s.rd OUT_ARM_STAT_STATE = 2 then s.rd OUT_ARM_STAT_TRIP_CAUSE
  else if s.rd CLK_PWR_STAT_STATE ≠ 0 ∨ s.pwr.sleep ≠ .awake then 3 else 0

/-- PIN_CFG of pin `n` is valid (R268). -/
def State.pinValid (s : State) (n : Nat) : Bool :=
  let src := s.rd (OUT_PIN_CFG_SRC n)
  match s.rd (OUT_PIN_CFG_KIND n) with
  | 1 => decide (src ≤ 215)
  | 2 => decide (s.rd (OUT_PIN_CFG_BANK n) ≤ 23)
  | 3 => src % 16 != 0
  | _ => true

/-- A gate pin, or a DIRECT pin of a channel in a soft group, whose safe level is not its inactive level (R268). -/
def State.pinUnsafe (s : State) (n : Nat) : Bool :=
  let k := s.rd (OUT_PIN_CFG_KIND n)
  (k == 2 || (k == 1 && s.softGroup (s.rd (OUT_PIN_CFG_SRC n)) != 0)) && s.pinSafe n != s.on (OUT_PIN_CFG_INV n)

/-- The first failing arm check: REFUSE and DETAIL (R268). -/
def State.armCheck (s : State) (key : Nat) : Option (Nat × Nat) :=
  if !s.bootReady then some (1, 0)
  else if key ≠ 0xC3 then some (2, 0)
  else if s.tripPresent ≠ 0 ∨ s.on TB_TB_STAT_LFMODE then some (3, s.tripPresent)
  else
    match (List.range 128).find? fun n => !s.pinValid n with
    | some n => some (4, n)
    | none =>
      match (List.range 128).find? s.pinUnsafe with
      | some n => some (5, n)
      | none =>
        match (List.range 24).find? fun k => s.bankOn k && (s.bankCheck k).isSome with
        | some k => some (6, k)
        | none => none

/-- An arm request (R267, R268). -/
def State.armReq (s : State) (key : Nat) : State :=
  if s.rd OUT_ARM_STAT_STATE = 1 ∨ s.on OUT_ARM_STAT_PENDING then s
  else
    match s.armCheck key with
    | some (r, d) =>
      let s := (s.wr OUT_ARM_STAT_REFUSE r).wr OUT_ARM_STAT_DETAIL d
      (s.iflag 0x38 3).cfgRec (srcId 1 0x28 0xF) r (if r = 4 ∨ r = 5 ∨ r = 6 then d else 0xFFF)
    | none => s.wr OUT_ARM_STAT_PENDING 1

/-- A disarm (R267). -/
def State.disarm (s : State) : State :=
  match s.rd OUT_ARM_STAT_STATE with
  | 1 =>
    let s0 := s
    let s := (s.wr OUT_ARM_STAT_STATE 0).iflag 0x38 1
    ((s.wr OUT_ARM_STAT_DPA_ACT 0).wr OUT_ARM_STAT_DPB_ACT 0).disarmActs s0
  | 2 => if s.pkgCrimson then s else (s.wr OUT_ARM_STAT_STATE 0).iflag 0x38 1
  | _ => s.wr OUT_ARM_STAT_PENDING 0

/-- A pending arm takes effect at the frame boundary (R267): every pin waits for its source's next change. -/
def State.armFrame (s : State) : State :=
  if s.on OUT_ARM_STAT_PENDING ∧ s.rd OUT_ARM_STAT_STATE = 0 then
    let s := (((s.wr OUT_ARM_STAT_PENDING 0).wr OUT_ARM_STAT_STATE 1).wr OUT_ARM_STAT_TRIP_CAUSE 0).iflag 0x38 0
    let s := (s.wr OUT_ARM_STAT_DPA_ACT 1).wr OUT_ARM_STAT_DPB_ACT 1
    let s := s.holdPins fun _ => true
    { s with out := { s.out with dpAAt := s.tb, dpBAt := s.tb } }
  else s

/-- DPERMIT_A's instant (R269, R270): while ARMED it changes if DPERMIT_B changed within the last 15 µs; otherwise it goes
low. -/
def State.dpA (s : State) : State :=
  if s.tb % 2000 ≠ 0 then s
  else if s.armed && decide (s.tb ≤ s.out.dpBAt + 6000) then
    ({ s with out := { s.out with dpA := !s.out.dpA, dpAAt := s.tb } } : State).wr OUT_ARM_STAT_DPA_ACT 1
  else ({ s with out := { s.out with dpA := false } } : State).wr OUT_ARM_STAT_DPA_ACT 0

/-- DPERMIT_B's instant (R269, R270). -/
def State.dpB (s : State) : State :=
  if s.armed && decide (s.tb ≤ s.out.dpAAt + 6000) then
    ({ s with out := { s.out with dpB := !s.out.dpB, dpBAt := s.tb } } : State).wr OUT_ARM_STAT_DPB_ACT 1
  else ({ s with out := { s.out with dpB := false } } : State).wr OUT_ARM_STAT_DPB_ACT 0

/-! ### The commands -/

/-- ARM (R268): the write of ARM_CTRL with ARM = 1 and `key`. -/
def execOutArm (t : Nat) (m : Master) (key : BitVec 8) (s : State) : Out :=
  s.act t (State.core 1) fun s => s.guarded m 0x38 0x40 (key.toNat * 2 ^ 24 + 1) (State.armReq · key.toNat)

/-- DISARM (R267): the write of ARM_CTRL with DISARM = 1, any `key`. -/
def execOutDisarm (t : Nat) (m : Master) (key : BitVec 8) (s : State) : Out :=
  s.act t (State.core 1) fun s => s.guarded m 0x38 0x40 (key.toNat * 2 ^ 24 + 2) State.disarm

/-- DPERMIT_A_TOGGLE (R269). -/
def execDpermitAToggle (t : Nat) (s : State) : Out := s.act t (State.tbd 1) State.dpA

/-- DPERMIT_B_TOGGLE (R269): every 2,000 CORE cycles. -/
def execDpermitBToggle (t : Nat) (s : State) : Out := s.act t (State.core 1) State.dpB

/-- BANK_ENABLE (R281). -/
def execBankEnable (t : Nat) (m : Master) (k : Bank) (s : State) : Out :=
  s.act t (State.core 1) fun s => s.guardedMask m (0x40 + k) 8 1 1 (State.bankEnable · k)

/-- SLOT_COMMAND_RISE (R274). -/
def execSlotCommandRise (t : Nat) (k : Bank) (sl : Slot) (s : State) : Out :=
  s.act t (State.tbd 1) fun s => s.slotRise k sl

/-- SLOT_COMMAND_FALL (R274). -/
def execSlotCommandFall (t : Nat) (k : Bank) (sl : Slot) (s : State) : Out :=
  s.act t (State.tbd 1) fun s => s.slotFall k sl

/-- BANK_CMP_A_RISE (R275): the filtered output of comparator A rises. -/
def execBankCmpARise (t : Nat) (k : Bank) (s : State) : Out :=
  s.act t (State.tbd 1) fun s =>
    let s := if s.domOn 2 then s.cmpLevel (2 * k) true else s
    if (s.cmp (2 * k)).lvl && s.bankSees k false then s.bankA k else s

/-- BANK_CMP_B_FALL (R275): the filtered output of comparator B falls. -/
def execBankCmpBFall (t : Nat) (k : Bank) (s : State) : Out :=
  s.act t (State.tbd 1) fun s =>
    let s := if s.domOn 2 then s.cmpLevel (2 * k + 1) false else s
    if !(s.cmp (2 * k + 1)).lvl && s.bankSees k true then s.bankB k else s

/-- SLOT_T_PEAK (R274). -/
def execSlotTPeak (t : Nat) (k : Bank) (sl : Slot) (s : State) : Out := s.act t (State.tbd 1) fun s => s.peakEnd k sl

/-- SLOT_T_BOOST_MAX (R276). -/
def execSlotTBoostMax (t : Nat) (k : Bank) (sl : Slot) (s : State) : Out := s.act t (State.tbd 1) fun s => s.boostMax k sl

/-- SLOT_T_QMAX (R276). -/
def execSlotTQmax (t : Nat) (k : Bank) (sl : Slot) (s : State) : Out := s.act t (State.tbd 1) fun s => s.quenchMax k sl

/-- SLOT_TPER_MIN (R275). -/
def execSlotTperMin (t : Nat) (k : Bank) (s : State) : Out := s.act t (State.tbd 1) fun s => s.tperEnd k

/-- SLOT_LOCK_CLEAR (R276): a write of 1 to SLOT_STAT.LOCK. -/
def execSlotLockClear (t : Nat) (m : Master) (k : Bank) (sl : Slot) (s : State) : Out :=
  s.act t (State.core 1) fun s =>
    s.guardedMask m (0x40 + k) (BANK_SLOT_STAT_LOCK k sl).off 0x100 0x100 fun s => s.clearBits (BANK_SLOT_STAT_LOCK k sl) 1

/-- SLOT_BLANK_END (R275). -/
def execSlotBlankEnd (t : Nat) (k : Bank) (s : State) : Out := s.act t (State.tbd 1) fun s => s.blankEnd k

/-- BANK_THRESHOLD_SETTLED (R273): the bank acts on the comparator's present level. -/
def execBankThresholdSettled (t : Nat) (k : Bank) (compB : Bool) (s : State) : Out :=
  s.act t (State.tbd 1) fun s =>
    if !s.bankSees k compB then s
    else if compB then (if (s.cmp (2 * k + 1)).lvl then s else s.bankB k)
    else if (s.cmp (2 * k)).lvl then s.bankA k
    else s

end Sys2Proof.Machine
end

