-- ==== Sys2Proof/Machine/Cyl.lean ====
section
/-! DEFINITION. Cylinder contexts, as far as channels and the event pipeline act on them: parameter words, scheduled trim
writes, and records that end without a result (R331, R346). -/

namespace Sys2Proof.Machine

open Reg

/-- The field of parameter word `n` of a channel (R258). -/
def paramField (p n : Nat) : Field := ⟨0x20 + p / 24, 0x400 + 0x80 * (p % 24) + 4 * (n % 32), 0, 32, .rw, 0⟩

/-- Context `k`. -/
def State.cyl (s : State) (k : Nat) : CylS := tget {} s.cyls k

/-- Context `k` changed. -/
def State.modCyl (s : State) (k : Nat) (f : CylS → CylS) : State := { s with cyls := tput {} s.cyls k (f (s.cyl k)) }

/-- The page of context `k`. -/
def cylPage (k : Nat) : Nat := 0x90 + k

/-- I of a loop: the timing loop, or the quantity loop (R345). -/
def loopI (tm : Bool) (k : Nat) : Field := if tm then CYL_A_I_W k else CYL_Q_I_W k
/-- OUT of a loop. -/
def loopOut (tm : Bool) (k : Nat) : Field := if tm then CYL_A_OUT_W k else CYL_Q_OUT_W k
/-- LAST of a loop. -/
def loopLast (tm : Bool) (k : Nat) : Field := if tm then CYL_A_LAST_W k else CYL_Q_LAST_W k

/-- The scheduled write of a loop. -/
def CylS.trim (x : CylS) (tm : Bool) : Option Trim := if tm then x.trimA else x.trimQ

/-- The scheduled write of a loop replaced. -/
def CylS.setTrim (x : CylS) (tm : Bool) (q : Option Trim) : CylS :=
  if tm then { x with trimA := q } else { x with trimQ := q }

/-- The physical channel and word a loop writes, if it names one (R13, R348). -/
def State.loopDst (s : State) (tm : Bool) (k : Nat) : Option (Nat × Nat) :=
  let ch := s.rd (if tm then CYL_DST_A_CH k else CYL_DST_Q_CH k)
  let w := s.rd (if tm then CYL_DST_A_WORD k else CYL_DST_Q_WORD k)
  if 0xC0 ≤ ch then none else (s.physOf ch).map fun p => (p, w)

/-- A trim is written by compare-and-write (R346). -/
def State.trimPut (s : State) (k : Nat) (tm : Bool) (p n v : Nat) : State :=
  let s := s.modCyl k fun x => x.setTrim tm none
  if s.rd (paramField p n) = s.rd (loopLast tm k) then ((s.sepia p 1).wr (paramField p n) v).wr (loopLast tm k) v
  else s.inc (CYL_LOOP_CNT_DROP k)

/-- A scheduled write is taken back, wherever it stands, and counted. -/
def State.trimDrop (s : State) (k : Nat) (tm : Bool) : State :=
  match (s.cyl k).trim tm with
  | none => s
  | some _ =>
    let s := match s.loopDst tm k with
      | some (p, _) =>
        let c : Chan := tget {} s.chans p
        let c := { c with held := c.held.filter fun h => h.cmu != some (k, tm) }
        { s with chans := tput {} s.chans p c }
      | none => s
    (s.modCyl k fun x => x.setTrim tm none).inc (CYL_LOOP_CNT_DROP k)

/-- A scheduled write is discarded and I and OUT return to their values before the update (R346). -/
def State.trimUndo (s : State) (k : Nat) (tm : Bool) : State :=
  match (s.cyl k).trim tm with
  | none => s
  | some q => ((s.trimDrop k tm).wr (loopI tm k) q.i0).wr (loopOut tm k) q.out0

/-- The open record ends without a result, and the next one is incomplete (R331). -/
def State.recordDrop (s : State) (k : Nat) : State := s.modCyl k fun x => { x with open_ := none, next := none }

/-- The pipeline leaves RUNNING (R331, R346). -/
def State.cmuLeave (s : State) : State :=
  (List.range 24).foldl (fun s k => ((s.recordDrop k).trimUndo k false).trimUndo k true) s

/-- Positions of late trim writes on a new scale of positions (R219). -/
def State.cmuRebase (s : State) (move : Nat → Nat) : State :=
  let mv (q : Option Trim) : Option Trim := q.map fun q =>
    match q.at_ with
    | .late p => { q with at_ := .late (move p) }
    | _ => q
  (List.range 24).foldl (fun s k => s.modCyl k fun x => { x with trimQ := mv x.trimQ, trimA := mv x.trimA }) s

end Sys2Proof.Machine
end

