-- ==== Sys2Proof/Machine/Slot.lean ====
section
/-! DEFINITION. Angle to time, entries of the event table, and the match registers that pulled occurrences hold (R174, R195, R203 to
R206, R212, R236). -/

namespace Sys2Proof.Machine

open Reg

/-! ### Angle to time (R174, R205) -/

/-- The prediction record in force: a new one replaces the old in the micro-tick after the acceptance (R174). -/
def State.recNow (s : State) : PRec :=
  let o := s.ang
  if s.tb < o.pubAt + 4 then o.oldRec.getD o.g.r else o.g.r

/-- The signed distance of an angle from a record's, modulo M (R205). -/
def State.offAngle (s : State) (r : PRec) (a : Nat) : Int :=
  let M := s.cycM
  let d := subMod M a r.a
  if d < M / 2 then d else (d : Int) - M

/-- t(a) of R205 in 16ths of a tick. -/
def State.timeOf16 (s : State) (r : PRec) (a : Nat) : Int := (16 * r.t : Int) + divNear (s.offAngle r a * (16 * r.tp)) r.w

/-- The angle lies in the record's interval or behind its tooth: its time is fixed (R205). -/
def State.fixedIn (s : State) (r : PRec) (a : Nat) : Bool := decide (s.offAngle r a < r.w)

/-- A placed time: 156.25 ps steps, or the nearest tick, halves later, while the delay line is not calibrated (R39, R205). -/
def State.place (s : State) (t16 : Int) : Nat :=
  if s.on CLK_CLK_STAT_DL_CAL then t16.toNat else (16 * ((t16 + 8) / 16)).toNat

/-- The fixed time of an angle from the record in force, if it is fixed: re-timing at every record gives every pulled
occurrence and every coupled match this time (R205, R226). -/
def State.fixTime (s : State) (a : Nat) : Option Nat :=
  if s.ang.hasRec && s.fixedIn s.recNow a then some (s.place (s.timeOf16 s.recNow a)) else none

/-! ### Positions and cycles -/

/-- Bit 23 plays no part: 720 °CA mode without CYCLE_SYNC (R158, R219). -/
def State.evtHalf (s : State) : Bool := !s.cyc360 && s.ang.base != 3

/-- The angles after which the pipeline's cycles repeat. -/
def State.evtM (s : State) : Nat := if s.cyc360 || s.evtHalf then 2 ^ 23 else 2 ^ 24

/-- G of R214, counted from the cycle in which the pipeline entered RUNNING. -/
def State.evtG (s : State) : Nat := s.evt.ncyc * s.evtM + s.ang.ang % s.evtM

/-- The signed distance of a position from the angle of a record. -/
def State.offPos (s : State) (r : PRec) (pos : Nat) : Int := (pos : Int) - s.evtG + s.offAngle r s.ang.ang

/-- t(a) of a position from a record, in 16ths of a tick (R205). -/
def State.posTimeOf (s : State) (r : PRec) (pos : Nat) : Int := (16 * r.t : Int) + divNear (s.offPos r pos * (16 * r.tp)) r.w

/-- t(a) of a position from the record in force. -/
def State.posTime (s : State) (pos : Nat) : Int := s.posTimeOf s.recNow pos

/-- The fixed time of a position, if it is fixed (R205). -/
def State.posFix (s : State) (pos : Nat) : Option Nat :=
  if s.ang.hasRec && decide (s.offPos s.recNow pos < s.recNow.w) then some (s.place (s.posTime pos)) else none

/-! ### Table entries -/

/-- The contents of entry `i` in force, its status bits kept (R195). -/
def State.putEntry (s : State) (i : Nat) (e : Entry4) : State :=
  let a := evtBase + 16 * i
  let st := bits (s.entry i).w3 28 3
  let mem := wrWord (wrWord (wrWord s.mem a e.w0) (a + 4) e.w1) (a + 8) e.w2
  { s with mem := wrWord mem (a + 12) (e.w3 % 2 ^ 28 + st * 2 ^ 28) }

/-- The word 3 of entry `i` changed. -/
def State.entry3 (s : State) (i : Nat) (f : Nat → Nat) : State :=
  { s with mem := wrWord s.mem (evtBase + 16 * i + 12) (f (s.entry i).w3) }

/-- A status bit of entry `i` set (R195): 28 CANCELLED, 29 FIRED, 30 LATE. -/
def State.entryFlag (s : State) (i b : Nat) : State := s.entry3 i fun w => putBit w b true

/-- The same contents, status bits apart. -/
def Entry4.sameAs (a b : Entry4) : Bool :=
  a.w0 == b.w0 && a.w1 == b.w1 && a.w2 == b.w2 && a.w3 % 2 ^ 28 == b.w3 % 2 ^ 28

/-- The segment and bank of entry `i`'s words, and the address of its word 0 in the bank. -/
def evtWordAt (i : Nat) : Nat × Nat × Nat := (0x44 + i / 2048, i / 512 % 4, 4 * (i % 512))

/-- What a read of entry `i` finds among its four words: the address of a word with an error, and whether one of them cannot be
corrected (R221). -/
def State.evtBad (s : State) (i : Nat) : Option (Nat × Bool) :=
  let (q, b, a) := evtWordAt i
  let hits := (List.range 4).filterMap fun w => (s.badAt q b (a + w)).map fun u => (a + w, u)
  match hits.find? fun (x : Nat × Bool) => x.2 with
  | some x => some x
  | none => hits.head?

/-! ### Slots and registers (R203, R204) -/

/-- The slots with one occurrence, the first of an entry and cycle, changed or removed. -/
def updOcc (i n : Nat) (f : Occ → Option Occ) : List Occ → List Occ
  | [] => []
  | o :: r => if o.idx = i ∧ o.cyc = n then (match f o with | some x => x :: r | none => r) else o :: updOcc i n f r

/-- An occurrence changes in its slot. -/
def State.setOcc (s : State) (o : Occ) : State :=
  { s with evt := { s.evt with slots := updOcc o.idx o.cyc (fun _ => some o) s.evt.slots } }

/-- A slot becomes free. -/
def State.dropOcc (s : State) (o : Occ) : State :=
  { s with evt := { s.evt with slots := updOcc o.idx o.cyc (fun _ => none) s.evt.slots } }

/-- The position of an occurrence's angle. -/
def State.occPos (s : State) (o : Occ) : Nat := o.cyc * s.evtM + o.ang

/-- The fixed start of a DWELL from a record, once its predicted start lies before the end of the record's interval (R212). -/
def State.dwellFix (s : State) (r : PRec) (o : Occ) : Occ :=
  if o.e.op ≠ 5 ∨ o.started ∨ o.dwFix.isSome ∨ !s.ang.hasRec then o
  else
    let ts := s.posTimeOf r (s.occPos o) - 16 * o.e.w2
    if ts < (16 * (r.t + r.tp) : Nat) then
      { o with dwFix := some (s.place ts), short := decide (ts < (16 * s.tb : Nat)) }
    else o

/-- The entry's occurrence of a cycle is over (R214, R195): its slot is free; ONESHOT clears VALID after it fired or was
cancelled. -/
def State.occEnd (s : State) (o : Occ) (done : Bool) : State :=
  let s := s.dropOcc o
  let s := { s with evt := { s.evt with ended := tput 0 s.evt.ended o.idx (max (tget 0 s.evt.ended o.idx) (o.cyc + 1)) } }
  if done && bit o.e.w3 25 && (s.entry o.idx).sameAs o.e then s.entry3 o.idx fun w => putBit w 24 false else s

/-- The time match of a channel as its registers show it, and whether it is armed (R204, R224): of an occurrence the fixed time once it
exists, of a DWELL its fixed start, of an action in progress its end; a match that microcode has armed, in any case. -/
def State.mtShown (s : State) (p : Nat) : Nat × Bool :=
  let x := s.chan p
  let fixed (t : Option Nat) : Nat × Bool :=
    match t with
    | some f => (f / 16, !x.mtOff)
    | none => (x.mtT, false)
  if x.mtArm then (x.mtT, true)
  else
  match x.act, x.pipe with
  | some (.pulse _ stop), _ => (stop / 16, !x.mtOff)
  | some (.pulseA _ stop pos), _ => fixed (some (min stop ((s.posFix pos).getD stop)))
  | some (.dwell i _ _), _ =>
    match s.evt.slots.find? fun o => o.idx == i && o.started && o.e.op == 5 with
    | some o => fixed (s.posFix (s.occPos o))
    | none => fixed none
  | none, some i =>
    match s.evt.slots.find? fun o => o.idx == i && o.here with
    | some o => fixed (if o.e.op = 5 ∧ !o.started then o.dwFix else s.posFix (s.occPos o))
    | none => fixed none
  | none, none => (x.mtT, x.mtArm)

/-- The angle match of a channel as its registers show it, and whether it is armed (R204, R224). -/
def State.maShown (s : State) (p : Nat) : Nat × Bool :=
  let x := s.chan p
  let held (i : Nat) : Nat × Bool :=
    match s.evt.slots.find? fun o => o.idx == i && o.here with
    | some o => (s.occPos o % s.evtM, !x.maOff)
    | none => (x.maA, false)
  if x.maArm then (x.maA, true)
  else
  match x.act, x.pipe with
  | some (.pulse _ _), _ => (x.maA, false)
  | some (.pulseA _ _ pos), _ => (pos % s.evtM, !x.maOff)
  | some (.dwell i _ _), _ => held i
  | none, some i => held i
  | none, none => (x.maA, x.maArm)

/-- An occurrence or an action leaves a channel's registers, which keep what they last held (R204). -/
def State.release (s : State) (p : Nat) : State :=
  let x := s.chan p
  if x.pipe.isNone && x.act.isNone then s
  else s.setChan p { x with mtT := (s.mtShown p).1, maA := (s.maShown p).1, pipe := none, act := none, mtOff := false, maOff := false }

/-- An occurrence leaves the registers of its channel, if they hold it. -/
def State.unload (s : State) (o : Occ) : State :=
  match s.physOf o.e.ch with
  | some p => if (s.chan p).pipe = some o.idx then s.release p else s
  | none => s

/-- An occurrence is withdrawn (R218, R236). -/
def State.withdraw (s : State) (o : Occ) : State :=
  let s := s.unload o
  (((s.occEnd o false).entryFlag o.idx 28).inc EVT_ABORT_CNT_ABORT).iflag 0x19 3

/-- The head of a channel is loaded into its match registers where they are free (R204, R227); a disabled channel's
occurrences are withdrawn (R236). -/
def State.evtLoadN : Nat → State → Nat → State
  | 0, s, _ => s
  | k + 1, s, p =>
    let x := s.chan p
    if x.act.isSome || x.mhold || x.pipe.isSome then s
    else
      match s.logOf p with
      | none => s
      | some n =>
        match s.evt.slots.find? fun o => o.e.ch == n && o.here with
        | none => s
        | some o =>
          if !s.on (TILE_CH_CTRL_EN (p / 24) (p % 24)) then (s.withdraw o).evtLoadN k p
          else
            let s := s.setChan p { x with pipe := some o.idx, mtOff := false, maOff := false, maA := s.occPos o % s.evtM }
            match o.dwFix with
            | some f => if !o.started && decide (f < 16 * s.tb) then s.setOcc { o with short := true } else s
            | none => s

/-- A channel has four slots, so at most four occurrences are withdrawn before one is loaded. -/
def State.evtLoad (s : State) (p : Nat) : State := s.evtLoadN 5 p

end Sys2Proof.Machine
end

