-- ==== Sys2Proof/Machine/Chan.lean ====
section
/-! DEFINITION. Channel hardware (R224 to R236): levels, matches, captures, service events, parameter words. -/

namespace Sys2Proof.Machine

open Reg

/-! ### Levels -/

/-- A pin action on a level (R229): 0 none, 1 active, 2 inactive, 3 toggle. -/
def actOn (a : Nat) (b : Bool) : Bool :=
  match a with
  | 1 => true
  | 2 => false
  | 3 => !b
  | _ => b

/-- CHEV sources that select event `e` of logical channel `n` pulse (R370). -/
def State.chev (s : State) (n e : Nat) : State :=
  (List.range 16).foldl
    (fun s j =>
      if s.on (ROUTER_CHEV_SEL_EN j) && s.rd (ROUTER_CHEV_SEL_CH j) == n && s.rd (ROUTER_CHEV_SEL_EVENT j) == e then
        s.pulse (78 + j) else s) s

/-- The levels of a channel change (R229): latches and router follow the pin level, a rise ends a young soft-off, a fall with
a soft cause starts one (R266), held pins follow. -/
def State.chSet (s : State) (p : Nat) (env car soft : Bool) : State :=
  let s0 := s
  let b := s.chPin p
  let s := s.setChan p { s.chan p with env := env, car := car }
  let a := s.chPin p
  let s := if a != b then s.setChan p { s.chan p with pinAt := s.tb + 1 } else s
  let ev (s : State) (e : Nat) : State :=
    match s.logOf p with
    | some n => s.chev n e
    | none => s
  let s :=
    if a && !b then
      let s := (ev s 10).softRise p
      match s.logOf p with
      | some n => s.latchRise n
      | none => s
    else if b && !a then
      let s := ev s 11
      if soft then s.softOff s0 p else s
    else s
  s.follow_ s0

/-- An action releases the forced-safe state of a channel (R231); its DIRECT pins follow it from the next change of its level (R265). -/
def State.unsafe_ (s : State) (p a : Nat) : State :=
  if a = 0 ∨ !(s.chan p).safe then s else (s.setChan p { s.chan p with safe := false }).holdChan p

/-- A pipeline action or the SRQ action: on the envelope, which without ENV is the one channel level (R229). -/
def State.pipeAct (s : State) (p a : Nat) (soft : Bool) : State :=
  let s := s.unsafe_ p a
  let x := s.chan p
  s.chSet p (actOn a x.env) x.car soft

/-- A microcode match action: on the carrier with ENV, else on the one channel level (R229). -/
def State.microAct (s : State) (p a : Nat) : State :=
  let s := s.unsafe_ p a
  let x := s.chan p
  if s.envOn p then s.chSet p x.env (actOn a x.car) false else s.chSet p (actOn a x.env) x.car false

/-- A PIN command (R230); while a safe end holds the levels inactive, it changes nothing (R231). -/
def State.pinAct (s : State) (p a : Nat) : State := if (s.chan p).safe then s else s.microAct p a

/-! ### Service events (R233, R234) -/

/-- The count of event kind `k`. -/
def State.evCount (s : State) (p k : Nat) : Nat := bits (s.rd (TILE_CH_EVCNT_COUNT (p / 24) (p % 24))) (2 * k) 2

/-- The event summary (CH_FLAGS.FLAGS). -/
def State.chFlags (s : State) (p : Nat) : Nat :=
  ((List.range 10).map fun k => if s.evCount p k = 0 then 0 else 2 ^ k).sum

/-- Set the count of a kind. -/
def State.putCount_ (s : State) (p k n : Nat) : State :=
  (s.sepia p 1).wr (TILE_CH_EVCNT_COUNT (p / 24) (p % 24)) (putBits (s.rd (TILE_CH_EVCNT_COUNT (p / 24) (p % 24))) (2 * k) 2 n)

/-- What engine `g` holds. -/
def State.eng (s : State) (g : Nat) : GelS := tget {} s.gel g

/-- Change what engine `g` holds. -/
def State.setEng (s : State) (g : Nat) (x : GelS) : State := { s with gel := tput {} s.gel g x }

/-- The engine runs, or holds halted, a thread of logical channel `n`. -/
def State.threadOn (s : State) (g n : Nat) : Bool := (s.eng g).thread && s.rd (GEL_GEL_STAT_CH g) == n

/-- The priority class of a channel: 0 H, 1 M, 2 L (R238). -/
def State.chPrio (s : State) (p : Nat) : Nat := min 2 (s.rd (TILE_CH_CFG_PRIO (p / 24) (p % 24)))

/-- The channel requests service (R234, R236, R240). -/
def State.wants (s : State) (p : Nat) : Bool :=
  match s.logOf p with
  | none => false
  | some n =>
    s.on (TILE_CH_CTRL_EN (p / 24) (p % 24)) && (s.chan p).dir.isSome && !s.dead p &&
    !s.threadOn (s.engineOf p) n &&
    ((s.chan p).yield.isSome || Nat.land (s.chFlags p) (s.rd (TILE_CH_CFG_FMASK (p / 24) (p % 24))) != 0)

/-- The channel takes its place at the back of its class's queue, or gives it up (R56). -/
def State.svc (s : State) (p : Nat) : State :=
  match s.logOf p with
  | none => s
  | some n =>
    let g := s.engineOf p
    let x := s.eng g
    let c := s.chPrio p
    let q : List (Nat × Nat) := tget [] x.reqs c
    if s.wants p then
      if q.any (fun e => e.1 == n) then s
      else s.setEng g { x with reqs := tput [] x.reqs c (q ++ [(n, s.tb)]) }
    else s.setEng g { x with reqs := tput [] x.reqs c (q.filter fun e => e.1 != n) }

/-- A CH_ERR counter of a channel counts (PG_IFLAG bit c of its tile). -/
def State.chErr (s : State) (p : Nat) (f : Field) : State := (s.inc f).iflag (0x20 + p / 24) (p % 24)

/-- An event of kind `k` on a channel (R233). -/
def State.chEvent (s : State) (p k : Nat) : State :=
  let n := s.evCount p k
  if s.dead p then s
  else if n < 3 then
    let s := s.putCount_ p k (n + 1)
    let s := match s.logOf p with
      | some l => s.chev l k
      | none => s
    s.svc p
  else if k = 0 then
    (s.chErr p (TILE_CH_ERR_SRQ_OVR (p / 24) (p % 24))).raise (srcChannel p) 0x31 ((s.logOf p).getD 0)
  else if bit (s.rd (TILE_CH_CFG_FMASK (p / 24) (p % 24))) k then s.inc (TILE_CH_EVCNT_OVR (p / 24) (p % 24))
  else s

/-- A master has latched a value, or a newer one has come (R83). -/
def Newer.latch (x : Newer) (m : Nat) : Newer :=
  { read := m :: x.read.filter (· != m), newer := x.newer.filter (· != m) }
def Newer.stamp (x : Newer) : Newer := { x with newer := x.read }

/-- An SRQ is counted and queued with its time and PARAM, or lost (R234). -/
def State.srqEvent (s : State) (p time param : Nat) : State :=
  let x := s.chan p
  let s := if s.evCount p 0 < 3 && !s.dead p then
      s.setChan p { x with srq := x.srq ++ [(time, param % 65536)], nwS := if x.srq = [] then x.nwS.stamp else x.nwS }
    else s
  s.chEvent p 0

/-- The SRQ shown by RDS, CH_FLAGS.PARAM and W_SRQ (R234). -/
def Chan.srqShown (x : Chan) : Nat × Nat := x.srq.headD x.srqLast

/-! ### Threads (the part that channels end) -/

/-- A write of a parameter word by the interconnect, or a compare-and-write by the CMU (R346). -/
def State.paramPut (s : State) (p : Nat) (h : HeldW) : State :=
  match h.cmu with
  | none => (s.sepia p 1).wr (paramField p h.word) (mergeWord (s.rd (paramField p h.word)) h.v h.mask)
  | some (k, tm) => s.trimPut k tm p h.word h.v

/-- Held parameter writes are applied in arrival order (R235). -/
def State.applyHeld (s : State) (p : Nat) : State :=
  let x := s.chan p
  x.held.foldl (fun s h => s.paramPut p h) (s.setChan p { x with held := [] })

/-- A thread of the channel runs, so that parameter writes are held (R235). -/
def State.paramBusy (s : State) (p : Nat) : Bool :=
  match s.logOf p with
  | some l => s.threadOn (s.engineOf p) l
  | none => false

/-- A held write takes its place: in order of arrival, but a CMU write ahead of interconnect writes of the same cycle (R235). -/
def holdWrite (l : List HeldW) (h : HeldW) : List HeldW :=
  let late := fun (x : HeldW) => h.cmu.isSome && x.cmu.isNone && x.at_ == h.at_
  l.filter (fun x => !late x) ++ h :: l.filter late

/-- A write of a parameter word by the CMU or the interconnect: held while a thread of the channel runs (R235). Of a CMU write and an
interconnect write of one word in one cycle the CMU's is applied first, so that it finds what stood there before and the interconnect's
value stays. -/
def State.paramWrite (s : State) (p : Nat) (h : HeldW) : State :=
  let h := { h with at_ := s.tb }
  let x := s.chan p
  if s.paramBusy p then s.setChan p { x with held := holdWrite x.held h }
  else
    let olds := if x.icAt = s.tb + 1 then x.icOld else []
    match h.cmu, olds.find? fun (e : Nat × Nat) => e.1 == h.word with
    | none, none =>
      (s.setChan p { x with icAt := s.tb + 1, icOld := olds ++ [(h.word, s.rd (paramField p h.word))] }).paramPut p h
    | some (k, tm), some (_, old) =>
      let now := s.rd (paramField p h.word)
      let s := (s.wr (paramField p h.word) old).trimPut k tm p h.word h.v
      s.wr (paramField p h.word) now
    | _, _ => s.paramPut p h

/-- The thread of an engine is over: the engine moves on (R56), IDLE unless it is HALTED, STOPPED or in FAULT. An unfinished
outlet record is discarded (R248). -/
def State.threadOver (s : State) (g : Nat) : State :=
  let x := s.eng g
  if !x.thread then s
  else
    let n := s.rd (GEL_GEL_STAT_CH g)
    let cyc := x.cyc
    let drop := x.outlet.any fun e => e.2 != []
    let s := s.setEng g { x with
      thread := false, g := [], cc := 0, stack := [], snap := 0, cyc := 0, cycNs := 0, tbvHi := none, mem := none,
      stall := none, skipBk := false, outlet := [], wheel := (x.wheel + 1) % 16 }
    let s := if drop then s.iflag (0x30 + g) 3 else s
    let s := if s.rd (GEL_MAX_THR_CYC g) < cyc then s.wr (GEL_MAX_THR_CYC g) (satN 10 cyc) else s
    let s := if s.rd (GEL_GEL_STAT_STATE g) = 2 then s.wr (GEL_GEL_STAT_STATE g) 1 else s
    match s.physOf n with
    | some p => (s.applyHeld p).svc p
    | none => s

/-! ### Safe end (R231) -/

/-- The safe end of a channel. An action in progress on it ends; the earliest pulled occurrence is loaded again (R204). -/
def State.safeEnd (s : State) (p : Nat) : State :=
  let s := (s.chSet p false false true).release p
  let s := s.setChan p { s.chan p with
    mtArm := false, maArm := false, mtPassed := false, maPassed := false, sactArm := false, safe := true, srqFn := false }
  let s := match s.logOf p with
    | some n => s.quenchChannel n
    | none => s
  (s.chEvent p 7).evtLoad p

/-- Loss of synchronisation: channels with SYNC_END = 1 receive a safe end (R231), once each. -/
def State.syncEnd (s : State) : State :=
  (List.range 216).foldl
    (fun s p =>
      if s.on (TILE_CH_CFG_SYNC_END (p / 24) (p % 24)) then s.safeEnd p else s) s

/-- Every channel an engine serves receives a safe end (R237, R255, R256). -/
def State.safeServed (s : State) (g : Nat) : State :=
  (List.range 216).foldl (fun s p => if (s.logOf p).isSome && s.engineOf p == g then s.safeEnd p else s) s

/-! ### Matches (R225 to R228) -/

/-- The 64-bit count whose low 32 bits are `v` within 2^31 of `tbv` (R225). -/
def nearCount (tbv v : Nat) : Nat :=
  let d := subMod (2 ^ 32) v tbv
  if d < 2 ^ 31 then tbv + d else tbv + d - 2 ^ 32

/-- Angle `a` counts as passed (R34). -/
def State.anglePassed (s : State) (a : Nat) : Bool := decide (subMod (2 ^ 24) s.ang.ang a < 2 ^ 23)

/-- A fixed match may fire now (R206, R263): `lead` ticks ahead of its fixed time without a deficit, at its angle with one, and never ahead of the
halt point. -/
def State.mayFire (s : State) (a fix lead : Nat) : Bool :=
  let o := s.ang
  o.valid && (if o.e = 0 then decide (fix ≤ 16 * (s.tb + lead)) else s.anglePassed a) &&
  decide (s.offAngle o.g.r a < o.g.r.w)

/-- A microcode time match fires (R225, R233). -/
def State.mtFire (s : State) (p : Nat) : State :=
  let x := s.chan p
  let s := s.setChan p { x with mtArm := false, mtPassed := false, mtAt := s.tb + 1 }
  let s := s.microAct p x.mtAct
  let s := s.chEvent p 1
  if x.mtPassed then (s.chErr p (TILE_CH_ERR_PASSED (p / 24) (p % 24))).chEvent p 5 else s

/-- A microcode angle or coupled match fires (R226, R233). -/
def State.maFire (s : State) (p : Nat) : State :=
  let x := s.chan p
  let s := s.setChan p { x with maArm := false, maPassed := false, maAt := s.tb + 1 }
  let s := s.microAct p x.maAct
  let s := s.chEvent p 2
  if x.maPassed then (s.chErr p (TILE_CH_ERR_PASSED (p / 24) (p % 24))).chEvent p 5 else s

/-- The channel is attached to an enabled slot of an enabled bank. -/
def State.attached (s : State) (n : Nat) : Bool :=
  (List.range 48).any fun j => s.bankOn (j / 2) && s.slotEn (j / 2) (j % 2) && s.attach (j / 2) (j % 2) == n

/-- How early a time match acts (R263): 4 ticks, or 6 on a bank slot, with compensation on. -/
def State.mtLead (s : State) (p : Nat) : Nat :=
  if !s.on OUT_OUT_CFG_COMP then 0
  else
    match s.logOf p with
    | some n => if s.attached n then 6 else 4
    | none => 4

/-- The registers hold a pipeline occurrence, or an action in progress (R204). -/
def Chan.piped (x : Chan) : Bool := x.pipe.isSome || x.act.isSome

/-- The cycle from which a match that arrives now is armed: the next one where the old value, or a pipeline occurrence, fired in this
cycle (R36, R228). -/
def State.armFrom (s : State) (fired : Nat) (x : Chan) : Nat :=
  if fired = s.tb + 1 ∨ x.pipeAt = s.tb + 1 then s.tb + 1 else s.tb

/-- SMT reaches its channel (R225, R227, R228, R33, R35, R36): a loaded occurrence returns to its slot. -/
def State.smtArrive (s : State) (p v act stamp : Nat) : State :=
  let M := nearCount stamp v
  let late := decide (M < stamp + 6)
  let s := if (s.chan p).pipe.isSome then s.release p else s
  let x := s.chan p
  let from_ := s.armFrom x.mtAt x
  let s := s.setChan p { x with mtT := M, mtArm := true, mtAct := act, mtPassed := late, mhold := true, mtFrom := from_ }
  if late && from_ == s.tb then s.mtFire p else s

/-- SMA or SMC reaches its channel (R226 to R228, R34, R35, R36): a loaded occurrence returns to its slot. -/
def State.smaArrive (s : State) (p a act : Nat) (cpl : Bool) : State :=
  let a := a % 2 ^ 24
  let late := s.ang.valid && s.anglePassed a
  let s := if (s.chan p).pipe.isSome then s.release p else s
  let x := s.chan p
  let from_ := s.armFrom x.maAt x
  let s := s.setChan p { x with
    maA := a, maArm := true, maCpl := cpl, maAct := act, maPassed := late, mhold := true, maFrom := from_ }
  if late && from_ == s.tb then s.maFire p else s

/-- CHC reaches its channel (R247): OPS bits REL, which disarms microcode matches only and ends a function that an SRQ started; disarm
time and disarm angle, whatever the registers hold; arm the SRQ action. -/
def State.chcArrive (s : State) (p ops sact : Nat) : State :=
  let t := s.mtShown p
  let x := s.chan p
  let x := if bit ops 0 then { x with mtArm := false, mtPassed := false, maArm := false, maPassed := false, mhold := false, srqFn := false }
    else x
  let x := if bit ops 1 then { x with mtArm := false, mtPassed := false, mtOff := x.mtOff || (x.piped && !(s.chan p).mtArm && t.2) } else x
  let x := if bit ops 2 then { x with maArm := false, maPassed := false, maOff := x.maOff || (x.piped && !(s.chan p).maArm) } else x
  let x := if bit ops 3 then { x with sact := sact, sactArm := true } else x
  s.setChan p x

/-- A command from an engine reaches its channel. -/
def State.cqApply (s : State) (c : CqCmd) : State :=
  match s.physOf c.ch with
  | none => s
  | some p =>
    if s.dead p then s
    else
    match c.op with
    | .smt v a => s.smtArrive p v a c.stamp
    | .sma a act => s.smaArrive p a act false
    | .smc a act => s.smaArrive p a act true
    | .pin a => s.pinAct p a
    | .chc ops sact => s.chcArrive p ops sact
    | .lnk => s.chEvent p 6

/-! ### Captures (R232) -/

/-- A comparator of a bank that the channel drives rises now: `b` 0 for A, 1 for B. -/
def State.bankRises (s : State) (p b : Nat) : Bool :=
  match s.logOf p with
  | some n => (List.range 48).any fun j =>
      s.bankOn (j / 2) && s.slotEn (j / 2) (j % 2) && s.attach (j / 2) (j % 2) == n && s.cmpUp &&
        (s.cmp (2 * (j / 2) + b)).lvl && (s.cmp (2 * (j / 2) + b)).riseAt == s.tb + 1
  | none => false

/-- The event that source code `src` of capture `k` names takes place now, an edge of TI pin `ti` for the codes 1 to 3. -/
def State.capSees (s : State) (p k src ti : Nat) : Bool :=
  let x := s.chan p
  match src with
  | 1 | 2 | 3 => s.rd (if k = 0 then TILE_CH_CAPCFG_CAP0_TI (p / 24) (p % 24) else TILE_CH_CAPCFG_CAP1_TI (p / 24) (p % 24)) == ti
  | 4 => s.chPin p && x.pinAt == s.tb + 1
  | 5 => !s.chPin p && x.pinAt == s.tb + 1
  | 6 => s.bankRises p 0
  | 7 => s.bankRises p 1
  | 8 => x.pipeAt == s.tb + 1
  | _ => false

/-- Capture register `k` takes an event of source `src`. -/
def State.capture (s : State) (p k src ti : Nat) : State :=
  let sel := s.rd (if k = 0 then TILE_CH_CAPCFG_CAP0_SRC (p / 24) (p % 24) else TILE_CH_CAPCFG_CAP1_SRC (p / 24) (p % 24))
  if sel ≠ src ∨ !s.capSees p k src ti then s
  else
    let v := s.ang.valid
    let c : Cap := { t := s.tb, a := if v then s.ang.ang else 0, valid := v }
    let x := s.chan p
    let s := s.setChan p (if k = 0 then { x with cap0 := c, nw0 := x.nw0.stamp } else { x with cap1 := c, nw1 := x.nw1.stamp })
    let s := if s.evCount p (3 + k) = 0 then s else s.chErr p (TILE_CH_ERR_CAP_OVR (p / 24) (p % 24))
    s.chEvent p (3 + k)

/-! ### Enable and disable (R236) -/

/-- A microcode word of engine `g` (R63). -/
def State.ucode (s : State) (g i : Nat) : Nat :=
  let a := ucodeBase + 0x10000 * g + 8 * i
  rdWord s.mem a + rdWord s.mem (a + 4) % 256 * 2 ^ 32

/-- The directory entry of a function (R251). -/
def State.dirFind (s : State) (g f : Nat) : Option DirEnt :=
  if (1 ≤ f ∧ f ≤ 7) ∨ (0x40 ≤ f ∧ f ≤ 0x7F) then
    ((List.range 64).find? fun i => bits (s.ucode g i) 33 7 == f).map fun i =>
      let w := s.ucode g i
      { entry := bits w 20 13, kmask := bits w 10 10, wcet := bits w 0 10 }
  else none

/-- The write of CH_CTRL.EN = 1 (R236, R254). -/
def State.chEnable (s : State) (p : Nat) : State :=
  let t := p / 24
  let c := p % 24
  if s.on (TILE_CH_CTRL_EN t c) then s
  else
    let f := s.rd (TILE_CH_CFG_FUNC t c)
    let ok (d : Option DirEnt) : State :=
      let s := s.setChan p { s.chan p with dir := d }
      (s.wr (TILE_CH_CTRL_EN t c) 1).chEvent p 7
    if f = 0 then ok none
    else
      match s.dirFind (s.engineOf p) f with
      | some d =>
        let mask := s.rd (TILE_CH_CFG_FMASK t c)
        let needEnd := f == 1 || f == 2 || f == 3 || f == 7
        if Nat.land mask d.kmask = mask ∧ (!needEnd || s.on (TILE_CH_CFG_SYNC_END t c)) then ok (some d)
        else s.cfgRec (srcChannel p) 0 0xFFF
      | none => s.cfgRec (srcChannel p) 0 0xFFF

/-- The write of CH_CTRL.EN = 0 (R236), whatever EN was: pipeline occurrences that are loaded from now on are withdrawn. -/
def State.chDisable (s : State) (p : Nat) : State :=
  let t := p / 24
  let c := p % 24
  let s := (s.wr (TILE_CH_CTRL_EN t c) 0).safeEnd p
  let s := match s.logOf p with
    | some n => if s.threadOn (s.engineOf p) n then s.threadOver (s.engineOf p) else s
    | none => s
  let s := s.wr (TILE_CH_EVCNT_COUNT t c) (2 ^ 14)
  let x := s.chan p
  (s.setChan p { x with yield := none, srq := [], srqLast := x.srq.getLastD x.srqLast, dir := none }).svc p

/-! ### The commands -/

/-- HSRQ (R234): the write of CH_CTRL with HSRQ = 1 and HPARAM. -/
def execHostSrq (t : Nat) (m : Master) (p : Channel) (param : BitVec 16) (s : State) : Out :=
  s.act t (State.core 1) fun s =>
    s.guardedMask m (0x20 + p.val / 24) (0x104 + 0x20 * (p.val % 24)) (param.toNat * 65536 + 2) 0xFFFF0002 fun s =>
      s.srqEvent p s.tb param.toNat

/-- CHANNEL_ENABLE (R236). -/
def execChannelEnable (t : Nat) (m : Master) (p : Channel) (s : State) : Out :=
  s.act t (State.core 1) fun s =>
    s.guardedMask m (0x20 + p.val / 24) (0x104 + 0x20 * (p.val % 24)) 1 1 (State.chEnable · p)

/-- CHANNEL_DISABLE (R236). -/
def execChannelDisable (t : Nat) (m : Master) (p : Channel) (s : State) : Out :=
  s.act t (State.core 1) fun s =>
    s.guardedMask m (0x20 + p.val / 24) (0x104 + 0x20 * (p.val % 24)) 0 1 (State.chDisable · p)

/-- CHANNEL_CAPTURE (R232): the event that source `ev.src` of CH_CAPCFG names, an edge of pin `ev.ti` for the codes 1 to 3. -/
def execChannelCapture (t : Nat) (p : Channel) (k : Fin 2) (ev : CapEvent) (s : State) : Out :=
  s.act t (State.tbd 1) fun s => if s.dead p then s else s.capture p k ev.src ev.ti

end Sys2Proof.Machine
end

