-- ==== Sys2Proof/Machine/Token.lean ====
section
/-! DEFINITION. Maintenance tokens and conflicts (R24, R465, R466). -/

namespace Sys2Proof.Machine

open Reg

/-- The quadrants that hold a tile (R22): 0 NE, 1 NW, 2 SE, 3 SW. -/
def tileQuads (t : Nat) : List Nat := if t ≤ 2 then [0] else if t = 3 then [0, 2] else [2]

/-- The quadrant of a tile's Sepia slice (R22). -/
def sepiaQuad (t : Nat) : Nat := if t ≤ 4 then 0 else 2

/-- The quadrants a scrub or repair of a segment needs: two where the segment is part of an element that spans two, which R22 and
its following text name: TILE3, OUT, the Sepia store and the CMU (R24, R465; assumption log 66). -/
def segQuads (q : Nat) : List Nat :=
  if [0x04, 0x07, 0x09, 0x81, 0x89, 0x8B].contains q then [0, 2]
  else if [0x47, 0x48, 0x49, 0xC8, 0xC9].contains q then [1, 3]
  else [q / 64 % 4]

/-- The SLATE tile of a migration of tile `t`: while it runs, the tile that takes over. -/
def State.slateOf (s : State) (t : Nat) : Nat :=
  match s.maint.mig with
  | some g => if g.src = t then g.dst else s.rd MAINT_LMAP1_SLATE
  | none => s.rd MAINT_LMAP1_SLATE

/-- The tokens a task needs (R24, R465). -/
def State.quadsOf (s : State) (k : Task) : List Nat :=
  match k.act with
  | 0 | 1 => if k.target = 0xFF then [] else segQuads k.target
  | 2 => tileQuads k.target
  | 3 =>
    let sl := s.slateOf k.target
    (tileQuads k.target ++ tileQuads sl ++ [sepiaQuad k.target, sepiaQuad sl]).dedup
  | 6 => [1]
  | _ => [3]

/-- A scrub or repair of a Sepia slice (segments 0x09 and 0x8B). -/
def Task.sepia (k : Task) : Bool := decide (k.act ≤ 1) && (k.target == 0x09 || k.target == 0x8B)

/-- Two activities never run together (R466). -/
def Task.conflict (a b : Task) : Bool :=
  (a.act == 3 && (b.act == 2 || b.act == 3 || b.sepia)) || (b.act == 3 && (a.act == 2 || a.sepia)) ||
  (a.act == 4 && b.act == 5) || (a.act == 5 && b.act == 4)

/-- A task keeps another from running: they share a quadrant or conflict. -/
def State.blocks (s : State) (a b : Task) : Bool :=
  a.conflict b || (s.quadsOf a).any fun q => (s.quadsOf b).contains q

/-- The same activity on the same target; a repair's is its row (R464, R465). -/
def Task.same (a b : Task) : Bool := a.act == b.act && a.target == b.target && (a.act != 1 || a.row == b.row)

/-- A maintenance record (KIND 0x06, R506). -/
def State.maintRec (s : State) (k : Task) (result : Nat) : State :=
  s.raise (srcId 3 0x12 0) 0x06 (k.act + result * 16 + k.target % 4096 * 256)

/-- RESULT and TARGET of an activity. -/
def State.actStat (s : State) (k : Task) (result : Nat) : State :=
  (s.wr (MAINT_ACT_STAT_RESULT k.act) result).wr (MAINT_ACT_STAT_TARGET k.act) k.target

/-- A task runs. -/
def State.runs (s : State) (k : Task) : Bool := s.maint.run.any k.same

/-- A task waits for its tokens. -/
def State.waits (s : State) (k : Task) : Bool := s.maint.wait.any k.same

/-- A request for an activity: it runs, or is deferred with a maintenance record; one already held is ignored (R465). -/
def State.taskReq (s : State) (k : Task) : State :=
  if s.runs k || s.waits k then s
  else if s.maint.run.any (s.blocks k) || s.maint.wait.any (s.blocks k) then
    let s := { s with maint := { s.maint with wait := s.maint.wait ++ [k] } }
    ((s.actStat k 2).iflag 5 1).maintRec k 2
  else (({ s with maint := { s.maint with run := s.maint.run ++ [k] } } : State).actStat k 1)

/-- An activity ends with a result: its tokens free (R465, R470). -/
def State.taskEnd (s : State) (k : Task) (result : Nat) : State :=
  if s.runs k || s.waits k then
    let s := { s with maint := { s.maint with
      run := s.maint.run.filter (fun x => !k.same x), wait := s.maint.wait.filter (fun x => !k.same x) } }
    let s := s.actStat k result
    let s := if result = 3 ∨ result = 4 then s.inc (MAINT_ACT_STAT_COUNT k.act) else s
    (s.iflag 5 0).maintRec k result
  else s

/-- The first waiting task that may run now: nothing that runs, and nothing that waits before it, blocks it. -/
def State.nextTask (s : State) : List Task → List Task → Option Task
  | _, [] => none
  | before, k :: rest =>
    if s.maint.run.any (s.blocks k) || before.any (s.blocks k) then s.nextTask (before ++ [k]) rest else some k

/-- A waiting task starts. -/
def State.taskStart (s : State) (k : Task) : State :=
  ({ s with maint := { s.maint with run := s.maint.run ++ [k], wait := s.maint.wait.filter (fun x => !k.same x) } } : State).actStat k 1

end Sys2Proof.Machine
end

