-- ==== Sys2Proof/Machine/Cbc.lean ====
section
/-! DEFINITION. Charge-balancing converters (chapter 10): starts, windows, results, the reference and the mains detector,
self-calibration. -/

namespace Sys2Proof.Machine

open Reg

/-- What converter `x` holds. -/
def State.cv (s : State) (x : Nat) : ConvS := tget {} s.conv x

/-- Change what converter `x` holds. -/
def State.setCv (s : State) (x : Nat) (c : ConvS) : State := { s with conv := tput {} s.conv x c }

/-- CONV_STAT.STATE (R291): 0 OFF, 1 IDLE, 2 WAIT, 3 WINDOW, 4 CAL. -/
def State.cvState (s : State) (x : Nat) : Nat := s.rd (CBC_CONV_STAT_STATE x)

/-- The SRC_ID of a part of a converter. -/
def srcCbc (x sub : Nat) : Nat := srcId 2 x sub

/-- VREF is warm and good (R289). -/
def State.vrefGood (s : State) : Bool := s.on (CBC_VREF_STAT_WARM 0) && s.on (CBC_VREF_STAT_OK 0)

/-- MUX and GAIN in effect (R287, R288). -/
def muxOf (v : Nat) : Nat := if 6 ≤ v then 4 else v
def gainOf (v : Nat) : Nat := min 4 v

/-- An entry is bounded by boundaries: ANGLE, or BAND with LEN = 0 (R296). -/
def angleKind (kind len : Nat) : Bool := kind == 2 || (kind == 3 && len == 0)

/-- The entry in force is bounded by boundaries. -/
def ConvS.angled (c : ConvS) : Bool := angleKind c.kind c.wlen

/-- A window's length in ticks, for an entry bounded by time (R296): a CONV cycle is 5 ticks. -/
def State.winLen (s : State) (c : ConvS) : Option Nat :=
  match c.kind with
  | 0 => some (400 * max 1 c.wlen)
  | 1 => some (5 * (max 1 (min 8 c.wlen) * s.rd (CBC_MAINS_STAT_PERIOD 0)))
  | 3 => if c.wlen = 0 then none else some (400 * c.wlen)
  | _ => none

/-- A window of the entry in force opens at `t` (R301, R303). -/
def State.openWin (s : State) (x t : Nat) (late long : Bool) : State :=
  let c := s.cv x
  let e := s.rd (CBC_CONV_STAT_ENTRY x)
  let mux := muxOf (s.rd (CBC_ENT_SRC_MUX x e))
  let gain := gainOf (s.rd (CBC_ENT_SRC_GAIN x e))
  let chg := c.lastMux != some mux
  let gch := match c.lastGain with
    | some g => g != gain
    | none => false
  let gl := if gch then 2 else c.gLeft
  let cl := if chg then 1 else c.chLeft
  let w : WinO := {
    e := e, t0 := t, len := s.winLen c, mux := mux, gain := gain, filt := s.rd (CBC_ENT_CFG_FILT x e),
    late := late && c.angled, long := long, bad := !s.vrefGood, settle := if 0 < gl then 2 else if 0 < cl then 1 else 0 }
  let s := s.setCv x { c with
    win := some w, gLeft := gl - 1, chLeft := cl - 1, lastMux := some mux, lastGain := some gain,
    chgAt := if chg || gch then t else c.chgAt }
  (s.wr (CBC_CONV_STAT_SETTLE_LEFT x) (max (gl - 1) (cl - 1))).wr (CBC_CONV_STAT_STATE x) 3

/-- The lowest cause of R304 among those that apply. -/
def lowCause (l : List (Bool × Nat)) : Nat := ((l.filter (·.1)).map (·.2)).foldl (fun a b => if a = 0 then b else min a b) 0

/-- The open window closes at `t` with a cause of its close and the index of the boundary that closes it (R298, R304). -/
def State.closeWin (s : State) (x t cause bidx : Nat) (late : Bool) : State :=
  let c := s.cv x
  match c.win with
  | none => s
  | some w =>
    let len := t - w.t0
    let ang := c.angled
    let short := ang && decide (len < 40 * s.rd (CBC_ANG_LIM_MIN x))
    let band := c.kind == 3
    let unset := band && decide (w.t0 < c.chgAt + 100000)
    let cz := lowCause [(cause != 0, cause), (w.merged, 4), (w.late || (late && ang), 5), (w.long, 6), (short, 7), (w.bad, 9), (unset, 10)]
    let k : WinC := {
      e := w.e, band := band, bidx := bidx, t1 := t, len := len, cause := cz, settle := w.settle, mux := w.mux,
      gain := w.gain, filt := w.filt, cmu := c.cmu, irq := c.irq }
    s.setCv x { c with win := none, ran := none, closed := c.closed ++ [k] }

/-- Entry `e` starts: its settings are taken (R294, R301). -/
def State.loadEntry (s : State) (x e : Nat) : State :=
  let kind := s.rd (CBC_ENT_CFG_KIND x e)
  let len := s.rd (CBC_ENT_CFG_LEN x e)
  let rpt := s.rd (CBC_ENT_CFG_RPT x e)
  let s := s.setCv x { s.cv x with
    kind := kind, wlen := len, cmu := s.on (CBC_ENT_CFG_CMU x e), irq := s.on (CBC_ENT_CFG_IRQ x e),
    left := if rpt = 0 then (if angleKind kind len then none else some 1) else some rpt }
  s.wr (CBC_CONV_STAT_ENTRY x) e

/-- Entry `e` starts at `t`, at a boundary or not (R291, R294). -/
def State.startEntry (s : State) (x e t : Nat) (bnd late : Bool) : State :=
  let s := s.loadEntry x e
  if (s.cv x).angled && !bnd then s.wr (CBC_CONV_STAT_STATE x) 2 else s.openWin x t late false

/-- The converter has nothing in force: IDLE, then a pending start, or entry 0 in LOOP (R291, R292). -/
def State.toIdle (s : State) (x t : Nat) : State :=
  let s := (s.setCv x { s.cv x with win := none, urgent := false, ran := none }).wr (CBC_CONV_STAT_STATE x) 1
  if s.on (CBC_CONV_CFG_MODE x) then s.startEntry x 0 t false false
  else if s.on (CBC_CONV_STAT_PEND x) then
    (s.wr (CBC_CONV_STAT_PEND x) 0).startEntry x (s.rd (CBC_CONV_STAT_PEND_ENTRY x)) t false false
  else s

/-- The entry in force ends at `t`, at a boundary or on time (R291, R294). -/
def State.endEntry (s : State) (x t : Nat) (bnd late : Bool) : State :=
  let e := s.rd (CBC_CONV_STAT_ENTRY x)
  let follow (n : Nat) : State :=
    let kind := s.rd (CBC_ENT_CFG_KIND x n)
    s.startEntry x n t (bnd && kind == 2) (bnd && late)
  if (s.cv x).urgent then s.toIdle x t
  else if e < s.rd (CBC_CONV_CFG_LAST x) then follow (e + 1)
  else if s.on (CBC_CONV_CFG_MODE x) then follow 0
  else s.toIdle x t

/-- After a window closed at `t`, the entry goes on with its next window or ends (R291, R294). -/
def State.afterWin (s : State) (x t : Nat) (bnd late long stop : Bool) : State :=
  let c := s.cv x
  let left := c.left.map (· - 1)
  let s := s.setCv x { c with left := left }
  if stop || left == some 0 then s.endEntry x t bnd late else s.openWin x t late long

/-! ### Starts (R292, R293) -/

/-- The CONV cycle of a count: a CONV cycle is 5 ticks (R27). -/
def cvCycle (t : Nat) : Nat := t / 5

/-- What a start that runs from IDLE at `t` replaces. -/
def State.runOf (s : State) (x t rank e : Nat) (b : Option Bnd) : RunO :=
  let c := s.cv x
  { cyc := cvCycle t, rank := rank, e := e, bnd := b, chLeft := c.chLeft, gLeft := c.gLeft, lastMux := c.lastMux,
    lastGain := c.lastGain, chgAt := c.chgAt, more := s.rd (CBC_CONV_STAT_SETTLE_LEFT x) }

/-- A start runs from IDLE. -/
def State.cvRun (s : State) (x t rank e : Nat) (b : Option Bnd) : State :=
  let r := s.runOf x t rank e b
  let s := s.startEntry x e t b.isSome ((b.map (·.late)).getD false)
  s.setCv x { s.cv x with ran := some r }

/-- A start that does not run is held, or dropped beside one already held; of those of one CONV cycle the first of R292's list
is held. -/
def State.cvHold (s : State) (x t rank e : Nat) : State :=
  let c := s.cv x
  let drop (s : State) : State := (s.inc (CBC_CNT0_START_DROP x)).iflag (0x60 + x) 4
  let hold (s : State) : State :=
    (s.wr (CBC_CONV_STAT_PEND_ENTRY x) e).setCv x { s.cv x with pendAt := (cvCycle t, rank) }
  if !s.on (CBC_CONV_STAT_PEND x) then hold (s.wr (CBC_CONV_STAT_PEND x) 1)
  else if c.pendAt.1 = cvCycle t ∧ rank < c.pendAt.2 then hold (drop s)
  else drop s

/-- The start that ran is taken back: a start before it in R292's list has arrived in its CONV cycle. -/
def State.unrun (s : State) (x : Nat) (r : RunO) : State :=
  let s := s.setCv x { s.cv x with
    win := none, urgent := false, ran := none, chLeft := r.chLeft, gLeft := r.gLeft, lastMux := r.lastMux,
    lastGain := r.lastGain, chgAt := r.chgAt, tap := if r.bnd.isSome then none else (s.cv x).tap }
  (s.wr (CBC_CONV_STAT_SETTLE_LEFT x) r.more).wr (CBC_CONV_STAT_STATE x) 1

/-- An urgent request is dropped. -/
def State.urgDrop (s : State) (x : Nat) : State := (s.inc (CBC_CNT0_URG_DROP x)).iflag (0x60 + x) 3

/-- The start that ran in the CONV cycle of `t` and stands after place `rank` of R292's list: an urgent request is place 5. -/
def State.ranAfter (s : State) (x t rank : Nat) : Option RunO :=
  match (s.cv x).ran with
  | some r => if r.cyc = cvCycle t ∧ rank < r.rank then some r else none
  | none => none

/-- A start that names entry `e`, of place `rank` in R292's list; `b` is the boundary it is. The boundary that it takes the
place of is answered, to act in its turn. -/
def State.cvStartB (s : State) (x t rank e : Nat) (b : Option Bnd) : State × Option Bnd :=
  if s.cvState x = 1 then (s.cvRun x t rank e b, none)
  else
    match s.ranAfter x t rank with
    | some r =>
      let s := (s.unrun x r).cvRun x t rank e b
      if r.rank = 5 then (s.urgDrop x, none)
      else if r.rank = 2 then (s, r.bnd)
      else (s.cvHold x t r.rank r.e, none)
    | none => (s.cvHold x t rank e, none)

/-- An urgent request for entry `e`. -/
def State.cvUrgent (s : State) (x e : Nat) : State :=
  let kind := s.rd (CBC_ENT_CFG_KIND x e)
  if s.cvState x = 1 ∧ kind ≤ 1 then
    let r := s.runOf x s.tb 5 e none
    let s := s.loadEntry x e
    let s := s.setCv x { s.cv x with left := some 1, urgent := true }
    let s := s.openWin x s.tb false false
    s.setCv x { s.cv x with ran := some r }
  else s.urgDrop x

/-- The open window closes not VALID and the converter returns as R291 says (SYNC 1, ABORT 2). -/
def State.cvAbort (s : State) (x cause : Nat) : State :=
  if 2 ≤ s.cvState x ∧ s.cvState x ≤ 3 then
    let s := s.closeWin x s.tb cause 0xFFF false
    let s := s.setCv x { s.cv x with tap := none }
    s.toIdle x s.tb
  else s

/-! ### Boundaries (R297, R298, R300) -/

/-- The band tap sees a boundary that acts at `t` (R300). -/
def State.tapBnd (s : State) (x t idx : Nat) (late : Bool) : State :=
  let c := s.cv x
  if !(s.on (CBC_BAND_TAP_EN x) && s.cvState x == 3 && c.kind == 2) then s
  else
    let cz (z : Nat) : Nat := if late ∧ (z = 0 ∨ 5 < z) then 5 else z
    let s :=
      match c.tap with
      | some (t0, z) =>
        if idx = s.rd (CBC_BAND_TAP_LAST x) then
          let e := s.rd (CBC_BAND_TAP_ENTRY x)
          let unset := decide (t0 < c.chgAt + 100000)
          let k : WinC := {
            e := e, band := true, tap := true, bidx := idx, t1 := t, len := t - t0,
            cause := lowCause [(cz z != 0, cz z), (unset, 10)],
            mux := (c.lastMux).getD 0, gain := (c.lastGain).getD 0, filt := s.rd (CBC_ENT_CFG_FILT x e),
            cmu := s.on (CBC_ENT_CFG_CMU x e), irq := s.on (CBC_ENT_CFG_IRQ x e) }
          s.setCv x { c with tap := none, closed := c.closed ++ [k] }
        else s.setCv x { c with tap := some (t0, cz z) }
      | none => s
    if idx = s.rd (CBC_BAND_TAP_FIRST x) then
      s.setCv x { s.cv x with tap := some (t, if late then 5 else if s.vrefGood then 0 else 9) }
    else s

/-- The tap ends without its last boundary: by sync loss (R300). -/
def State.tapEnd (s : State) (x cause : Nat) : State :=
  let c := s.cv x
  match c.tap with
  | some (t0, _) =>
    let e := s.rd (CBC_BAND_TAP_ENTRY x)
    let k : WinC := {
      e := e, band := true, tap := true, t1 := s.tb, len := s.tb - t0, cause := cause, mux := (c.lastMux).getD 0,
      gain := (c.lastGain).getD 0, filt := s.rd (CBC_ENT_CFG_FILT x e), cmu := s.on (CBC_ENT_CFG_CMU x e),
      irq := s.on (CBC_ENT_CFG_IRQ x e) }
    s.setCv x { c with tap := none, closed := c.closed ++ [k] }
  | none => s

/-- A boundary acts in WINDOW, in WAIT, or is stray (R297). -/
def State.bndIn (s : State) (x : Nat) (b : Bnd) : State :=
  let t := b.t + 20
  let st := s.cvState x
  if st = 3 ∧ (s.cv x).angled then
    let s := if b.start.isSome then s else s.tapBnd x t b.idx b.late
    (s.closeWin x t 0 b.idx b.late).afterWin x t true b.late false b.stop
  else if st = 2 then
    if b.stop then s
    else
      let s := s.setCv x { s.cv x with ran := none }
      let s := s.openWin x t b.late false
      if b.start.isSome then s else s.tapBnd x t b.idx b.late
  else (s.inc (CBC_CNT0_STRAY x)).iflag (0x60 + x) 5

/-- A start, and the boundary whose place it takes (R292). -/
def State.cvStart (s : State) (x t rank e : Nat) (b : Option Bnd) : State :=
  match s.cvStartB x t rank e b with
  | (s, some d) => s.bndIn x d
  | (s, none) => s

/-- A boundary acts (R297): one of the event table's trains, or a CONV_START, which is a boundary where it names the entry in
force and a start otherwise. -/
def State.bndAct (s : State) (x : Nat) (b : Bnd) : State :=
  let t := b.t + 20
  let st := s.cvState x
  match b.start with
  | some n =>
    if n = s.rd (CBC_CONV_STAT_ENTRY x) ∧ (s.ranAfter x t 1).isNone ∧ ((st = 3 ∧ (s.cv x).angled) ∨ st = 2) then s.bndIn x b
    else s.cvStart x t 1 n (some b)
  | none =>
    let w := s.rd (CBC_CONV_CFG_WIN_ENTRY x)
    if (st = 1 ∨ (s.ranAfter x t 2).isSome) ∧ !b.stop then
      let s := s.cvStart x t 2 w (some b)
      s.tapBnd x t b.idx b.late
    else s.bndIn x b

/-- A boundary fires towards a converter (R30). -/
def State.bndSend (s : State) (x : Nat) (b : Bnd) : State :=
  if s.domOn 2 then s.setCv x { s.cv x with bnds := (s.cv x).bnds ++ [b] } else s

/-- The window that a cancelled boundary would have closed is marked, and the tap it belongs to: its first boundary opens the
tap with that mark (R298, R300). -/
def State.bndMiss (s : State) (x idx : Nat) : State :=
  let c := s.cv x
  let c := match c.win with
    | some w => if c.angled then { c with win := some { w with merged := true } } else c
    | none => c
  let tapOn := s.on (CBC_BAND_TAP_EN x) && s.cvState x == 3 && c.kind == 2
  let c :=
    if tapOn && idx == s.rd (CBC_BAND_TAP_FIRST x) then { c with tap := some (s.tb, 4) }
    else
      match c.tap with
      | some (t0, z) => { c with tap := some (t0, if z = 0 ∨ 4 < z then 4 else z) }
      | none => c
  s.setCv x c

/-- The oldest boundary on its way reaches the converter, 4 CONV cycles after its TB time (R30). -/
def State.bndTake (s : State) (x : Nat) : State :=
  match (s.cv x).bnds with
  | b :: r =>
    if b.t + 20 ≤ s.tb then
      let s := s.setCv x { s.cv x with bnds := r }
      if b.cxl then s.bndMiss x b.idx else s.bndAct x b
    else s
  | [] => s

/-- A boundary of the event table was cancelled (R209, R298): the report follows the boundaries still on their way. -/
def State.bndCancel (s : State) (x idx : Nat) : State :=
  if (s.cv x).bnds.isEmpty then s.bndMiss x idx else s.bndSend x { t := s.tb, idx := idx, cxl := true }

/-- A CONV_START that names entry `e` was cancelled (R209, R292); one that names the entry in force is a boundary too (R297). -/
def State.startCancel (s : State) (x e : Nat) : State :=
  let s := s.inc (CBC_CNT0_START_CXL x)
  let c := s.cv x
  match c.win with
  | some w =>
    if c.angled && s.rd (CBC_CONV_STAT_ENTRY x) == e then s.setCv x { c with win := some { w with merged := true } } else s
  | none => s

/-- The pipeline leaves RUNNING on loss of synchronisation: windows bounded by boundaries close with cause SYNC (R298). -/
def State.cvSyncLoss (s : State) : State :=
  (List.range 32).foldl
    (fun s x =>
      let s := s.tapEnd x 1
      let st := s.cvState x
      if (st = 2 ∨ st = 3) ∧ (s.cv x).angled then s.cvAbort x 1 else s) s

/-- A window bounded by time reaches its length (R296). -/
def State.winTimeEnd (s : State) (x : Nat) : State :=
  match (s.cv x).win with
  | some w =>
    match w.len with
    | some n => if w.t0 + n ≤ s.tb then (s.closeWin x (w.t0 + n) 0 0xFFF false).afterWin x (w.t0 + n) false false false false else s
    | none => s
  | none => s

/-- A window bounded by boundaries reaches ANG_LIM.MAX (R298). -/
def State.winLong (s : State) (x : Nat) : State :=
  match (s.cv x).win with
  | some w =>
    let t := w.t0 + 400 * max 1 (s.rd (CBC_ANG_LIM_MAX x))
    if w.len.isNone && decide (t ≤ s.tb) then (s.closeWin x t 6 0xFFF false).afterWin x t false false true false else s
  | none => s

/-! ### Results (R302 to R307) -/

/-- OFS and GAIN in force of a gain; the fused values are OFS 0, GAIN 0x8000 (assumption log 7). -/
def ConvS.trimOf (c : ConvS) (g : Nat) : Int × Nat := (tget none c.trim g).getD (0, 0x8000)

/-- The binomial coefficients C(q, i) of R302. -/
def binom (q : Nat) : List Int :=
  match q with
  | 0 => [1]
  | 1 => [1, 1]
  | 2 => [1, 2, 1]
  | _ => [1, 3, 3, 1]

/-- The band comparison of a VALID result (R307). -/
def State.wcTest (s : State) (x e : Nat) (v : Int) : State :=
  if !s.on (CBC_ENT_CFG_CMP_EN x e) then s
  else
    let top : Int := v / 256
    let hi := decide (toS 16 (s.rd (CBC_ENT_WC_HI x e)) < top)
    let lo := decide (top < toS 16 (s.rd (CBC_ENT_WC_LO x e)))
    let out := bit (s.rd (CBC_WC_STAT_OUT x)) e
    if hi || lo then
      if out then s
      else
        let s := s.wr (CBC_WC_STAT_OUT x) (putBit (s.rd (CBC_WC_STAT_OUT x)) e true)
        let s := s.wr (CBC_WC_STAT_HIGH x) (putBit (s.rd (CBC_WC_STAT_HIGH x)) e hi)
        (s.inc (CBC_CNT1_WC_OUT x)).iflag (0x60 + x) 1
    else s.wr (CBC_WC_STAT_OUT x) (putBit (s.rd (CBC_WC_STAT_OUT x)) e false)

/-- The result of the oldest closed window: `raw` is its decimated value, or its band energy, before trims and saturation,
`ovr` whether the input left its range (R288, R299, R302 to R307). Until a filter has its history, the spec gives VALUE
no value: a free one (assumption log 3). -/
def State.cvResult (s : State) (x : Nat) (raw : Int) (ovr : Bool) : State :=
  let c := s.cv x
  match c.closed with
  | [] => s
  | w :: rest =>
    let (ofs, g) := c.trimOf w.gain
    let v0 : Int := if w.len = 0 then 0 else if w.band then min raw (2 ^ 23 - 1) else divNear ((raw - ofs) * g) 32768
    let v0 := clampS 24 v0
    let s := if ovr then ((s.inc (CBC_CNT1_OVR x)).iflag (0x60 + x) 6).raise (srcCbc x 0) 0x40 w.e else s
    let cz := lowCause [(w.cause != 0, w.cause), (ovr, 8)]
    let old := tget (0, 0, 0, []) c.hist w.e
    let prev := if old.1 = w.mux ∧ old.2.1 = w.gain ∧ old.2.2.1 = w.filt then old.2.2.2 else []
    let h := ({ v := v0, settle := w.settle, cause := cz } : XVal) :: prev
    let span := h.take (w.filt + 1)
    let full := decide (span.length = w.filt + 1)
    let settle :=
      if span.any (·.settle == 2) then 2 else if span.any (·.settle == 1) then 1 else if full then 0 else 3
    let cause := lowCause (span.map fun k => (k.cause != 0, k.cause))
    let sum : Int := ((binom w.filt).zip (span.map (·.v))).foldl (fun a p => a + p.1 * p.2) 0
    let (y, s) : Int × State :=
      if full then (divNear sum (2 ^ w.filt), s)
      else
        let (n, s) := s.free
        (toS 24 n, s)
    let valid := settle == 0 && cause == 0
    let wlen := satN 16 (w.len / 40)
    let word := w.e * 2 ^ 27 + settle * 2 ^ 25 + b2n valid * 2 ^ 24 + ofS 24 y
    let info := cause * 2 ^ 28 + w.bidx * 2 ^ 16 + wlen
    let s := s.setCv x { s.cv x with
      closed := rest, hist := tput (0, 0, 0, []) c.hist w.e (w.mux, w.gain, w.filt, h.take 4),
      got := if c.got.contains w.e then c.got else c.got ++ [w.e],
      seen := c.seen.filter fun p => p.1 / 16 != w.e }
    let s := (s.wr (CBC_RESULT_W x w.e) word).wr (CBC_RES_INFO_W x w.e) info
    let s := if valid then s.wcTest x w.e y else (s.inc (CBC_CNT1_INVALID x)).iflag (0x60 + x) 2
    let s := if w.irq then s.iflag (0x60 + x) 0 else s
    if w.cmu then
      { s with cmuIn := s.cmuIn ++ [{ x, e := w.e, bidx := w.bidx, valid, settle, cause, wlen, v := y, t := w.t1 }] }
    else s

/-- The RESULT word as a master reads it (R304, R305). -/
def State.resultView (s : State) (x e m : Nat) : Nat :=
  let c := s.cv x
  s.rd (CBC_RESULT_W x e) + (if c.got.contains e && tget 0 c.seen (16 * e + m) == 0 then 2 ^ 31 else 0)

/-- A master reads RESULT e (R305): NEWER clears for it and RES_INFO is latched. -/
def State.resultTake (s : State) (x e m : Nat) : State :=
  let c := s.cv x
  s.setCv x { c with seen := tput 0 c.seen (16 * e + m) 1, info := tput none c.info (16 * e + m) (some (s.rd (CBC_RES_INFO_W x e))) }

/-- RES_INFO as a master reads it: latched or live. -/
def State.infoView (s : State) (x e m : Nat) : Nat := (tget none (s.cv x).info (16 * e + m)).getD (s.rd (CBC_RES_INFO_W x e))

/-- The read of RES_INFO releases the latch. -/
def State.infoTake (s : State) (x e m : Nat) : State :=
  s.setCv x { s.cv x with info := tput none (s.cv x).info (16 * e + m) none }

/-! ### Enable and disable (R291, R309) -/

/-- The checks of R309: 0 passes. -/
def State.cvCheck (s : State) (x : Nat) : Nat :=
  let last := s.rd (CBC_CONV_CFG_LAST x)
  if last < s.rd (CBC_CONV_CFG_WIN_ENTRY x) ∨ last < s.rd (CBC_CONV_CFG_RTR_ENTRY x) then 1
  else if s.on (CBC_BAND_TAP_EN x) ∧
      ¬(last < s.rd (CBC_BAND_TAP_ENTRY x) ∧ s.rd (CBC_BAND_TAP_FIRST x) < s.rd (CBC_BAND_TAP_LAST x)) then 2
  else if 10 * max 1 (s.rd (CBC_ANG_LIM_MAX x)) ≤ s.rd (CBC_ANG_LIM_MIN x) then 3
  else 0

/-- The converter starts or refuses. At enable every history is empty, every entry counts as in band, and the first window
is a settling window to come (R291, R302, R303, R307). -/
def State.cvEnable (s : State) (x : Nat) : State :=
  if s.on (PG_CTRL_EN (0x60 + x)) then s
  else
    let code := s.cvCheck x
    let s := s.wr (PG_STAT_BLK (0x60 + x)) code
    if code ≠ 0 then s.cfgRec (srcCbc x 0xF) code 0xFFF
    else
      let c := s.cv x
      let s := s.setCv x { closed := c.closed, bnds := c.bnds, pendAt := c.pendAt, got := c.got, seen := c.seen, info := c.info, trim := c.trim }
      let s := ((s.wr (CBC_WC_STAT_OUT x) 0).wr (CBC_WC_STAT_HIGH x) 0).wr (PG_CTRL_EN (0x60 + x)) 1
      let s := s.wr (CBC_CONV_STAT_SETTLE_LEFT x) 1
      s.toIdle x s.tb

/-- The converter stops: an open window is discarded without a result. A pending start stays (R292). -/
def State.cvDisable (s : State) (x : Nat) : State :=
  let s := s.setCv x { s.cv x with win := none, tap := none, urgent := false, calFrom := none, ran := none }
  ((s.wr (CBC_CONV_STAT_STATE x) 0).wr (CBC_CONV_STAT_SETTLE_LEFT x) 0).wr (PG_CTRL_EN (0x60 + x)) 0

/-! ### Reference and mains (R289, R290, R318) -/

/-- The block's part of a write of VREF_CTRL.EN. -/
def State.vrefEn (s : State) (on : Bool) : State :=
  let was := s.on (CBC_VREF_CTRL_EN 0)
  let s := (s.wr (CBC_VREF_CTRL_EN 0) (b2n on)).wr (CBC_VREF_STAT_ON 0) (b2n on)
  if on then (if was then s else { s with pwr := { s.pwr with vrefSince := s.tb } }) else s.wr (CBC_VREF_STAT_WARM 0) 0

/-- 2 ms after EN became 1, WARM becomes 1. -/
def State.vrefWarmUp (s : State) : State :=
  if s.on (CBC_VREF_CTRL_EN 0) && !s.on (CBC_VREF_STAT_WARM 0) && decide (s.pwr.vrefSince + 800000 ≤ s.tb) then
    (s.wr (CBC_VREF_STAT_WARM 0) 1).iflag 0x60 9
  else s

/-- VREF_STAT.OK changes (R289, R318). -/
def State.vrefOk (s : State) (ok : Bool) : State :=
  if s.on (CBC_VREF_STAT_OK 0) == ok then s
  else
    let s := (s.wr (CBC_VREF_STAT_OK 0) (b2n ok)).cmpVref
    if !ok && s.on (CBC_VREF_CTRL_EN 0) then s.raise (srcId 2 0x3C 0) 0x41 0 else s

/-- PRESENT and PERIOD without a good mains signal. -/
def State.mainsNone (s : State) : State :=
  let nom := if s.on (CBC_MAINS_CFG_NOM 0) then 1333333 else 1600000
  let s := if s.on (CBC_MAINS_STAT_PRESENT 0) then s.iflag 0x60 8 else s
  (s.wr (CBC_MAINS_STAT_PRESENT 0) 0).wr (CBC_MAINS_STAT_PERIOD 0) nom

/-- A rising edge of MAINS_REF (R290). -/
def State.mainsEdge (s : State) : State :=
  if !s.on (CBC_MAINS_CFG_EN 0) then s
  else
    match s.mains.last with
    | none => { s with mains := { s.mains with last := some s.tb } }
    | some l =>
      let p := s.tb - l
      if 5000000 ≤ p ∧ p ≤ 10000000 then
        let per := (p :: s.mains.per).take 4
        let s := { s with mains := { last := some s.tb, per := per } }
        if per.length = 4 then
          let s := if s.on (CBC_MAINS_STAT_PRESENT 0) then s else s.iflag 0x60 8
          (s.wr (CBC_MAINS_STAT_PRESENT 0) 1).wr (CBC_MAINS_STAT_PERIOD 0) (divNear (per.sum : Nat) 20).toNat
        else s
      else ({ s with mains := { last := some s.tb, per := [] } } : State).mainsNone

/-- No edge for 50 ms. -/
def State.mainsOut (s : State) : State :=
  match s.mains.last with
  | some l => if s.on (CBC_MAINS_CFG_EN 0) && decide (l + 20000000 ≤ s.tb) then ({ s with mains := {} } : State).mainsNone else s
  | none => s

/-! ### Self-calibration (R308) -/

/-- The activity on converter `x`. -/
def calTask (x : Nat) : Task := { act := 4, target := x }

/-- The block's part of a write of CAL_CTRL.REQ = 1. -/
def State.calAsk (s : State) (x : Nat) : State :=
  let s := s.taskReq (calTask x)
  s.wr (CBC_CAL_STAT_RESULT x) (if s.runs (calTask x) then 1 else 2)

/-- With the token, and IDLE or with PREEMPT, calibration starts. -/
def State.calBegin (s : State) (x : Nat) : State :=
  let st := s.cvState x
  let pre := s.on (CBC_CAL_CTRL_PREEMPT x)
  if s.runs (calTask x) && (s.cv x).calFrom.isNone && (st == 1 || (pre && (st == 2 || st == 3))) then
    let s := s.closeWin x s.tb 3 0xFFF false
    let s := s.setCv x { s.cv x with calFrom := some s.tb, urgent := false, tap := none, ran := none }
    (s.wr (CBC_CAL_STAT_RESULT x) 1).wr (CBC_CONV_STAT_STATE x) 4
  else s

/-- GAIN_g of R308. -/
def calGain (ofs ref : Int) : Int := if ref ≤ ofs then 0 else divNear (32768 * 8 * 2 ^ 23) (10 * (ref - ofs)).toNat

/-- The first gain out of tolerance against the fused values OFS 0, GAIN 0x8000. -/
def State.calBad (s : State) (x : Nat) (raws : List (Int × Int)) : Option Nat :=
  (List.range 5).find? fun g =>
    let r := raws.getD g (0, 0)
    decide ((s.rd (CBC_CAL_TOL_TOL_OFS x) : Int) < r.1.natAbs) ||
    decide ((s.rd (CBC_CAL_TOL_TOL_GAIN x) : Int) < (calGain r.1 r.2 - 0x8000).natAbs)

/-- Calibration ends, 5.3 ms after its start: `raws` are the raw ZERO and REF results per gain. -/
def State.calFinish (s : State) (x : Nat) (raws : List (Int × Int)) : State :=
  match (s.cv x).calFrom with
  | some t0 =>
    if t0 + 2120000 ≤ s.tb ∧ s.cvState x = 4 then
      let s := s.setCv x { s.cv x with calFrom := none }
      let s :=
        match s.calBad x raws with
        | some g => ((s.wr (CBC_CAL_STAT_RESULT x) 4).raise (srcCbc x 0) 0x42 g).taskEnd (calTask x) 4
        | none =>
          let tr : Tab (Option (Int × Nat)) := (List.range 5).foldl
            (fun t g =>
              let r := raws.getD g (0, 0)
              tput none t g (some (r.1, (calGain r.1 r.2).toNat))) []
          let s := s.setCv x { s.cv x with trim := tr }
          ((s.wr (CBC_CAL_STAT_RESULT x) 3).inc (CBC_CAL_STAT_COUNT x)).taskEnd (calTask x) 3
      (s.iflag (0x60 + x) 7).toIdle x s.tb
    else s
  | none => s

/-- The block's part of a write of CAL_CTRL.ABORT = 1. -/
def State.calStop (s : State) (x : Nat) : State :=
  if s.runs (calTask x) || s.waits (calTask x) then
    let was := (s.cv x).calFrom.isSome
    let s := (s.setCv x { s.cv x with calFrom := none }).taskEnd (calTask x) 5
    let s := s.wr (CBC_CAL_STAT_RESULT x) 5
    if was then s.toIdle x s.tb else s
  else s

/-! ### Router destinations -/

/-- Destination `d` has fired and its consumer takes the event (R371, R372). -/
def State.takeDest (s : State) (d : Nat) (f : State → State) : State :=
  if s.rtr.destPending.contains d then f { s with rtr := { s.rtr with destPending := s.rtr.destPending.erase d } } else s

/-! ### The commands -/

/-- The converter's clock runs, and neither a reset nor CRIMSON holds it (R27, R49). -/
def cvLive (x : Nat) (s : State) : Bool := State.corn 2 s && !s.rstBusy (0x60 + x) && !s.pageCrimson (0x60 + x)

/-- The converter is live and enabled. -/
def cvOk (x : Nat) (s : State) : Bool := cvLive x s && s.on (PG_CTRL_EN (0x60 + x))

/-- CBC_ENABLE (R309). -/
def execCbcEnable (t : Nat) (m : Master) (x : Conv) (s : State) : Out :=
  s.act t (State.core 2) fun s => s.guardedMask m (0x60 + x) 8 1 1 (State.cvEnable · x)

/-- CONV_CTRL_START (R292): the write of CONV_CTRL with START = 1 and ENTRY. -/
def execConvCtrlStart (t : Nat) (m : Master) (x : Conv) (e : Fin 16) (s : State) : Out :=
  s.act t (State.core 2) fun s =>
    s.guarded m (0x60 + x) 0x44 (16 * e + 1) fun s =>
      let s := s.wr (CBC_CONV_CTRL_ENTRY x) e
      if cvLive x s then s.cvStart x s.tb 4 e none else s

/-- URG (R293): the write of CONV_CTRL with URG = 1 and ENTRY. -/
def execConvUrgent (t : Nat) (m : Master) (x : Conv) (e : Fin 16) (s : State) : Out :=
  s.act t (State.core 2) fun s =>
    s.guarded m (0x60 + x) 0x44 (16 * e + 2) fun s =>
      let s := s.wr (CBC_CONV_CTRL_ENTRY x) e
      if cvLive x s then s.cvUrgent x e else s

/-- CONV_STOP (R291): the write of CONV_CTRL.STOP = 1. -/
def execConvStop (t : Nat) (m : Master) (x : Conv) (s : State) : Out :=
  s.act t (State.core 2) fun s =>
    s.guardedMask m (0x60 + x) 0x44 4 4 fun s => if cvOk x s then s.cvAbort x 2 else s

/-- CONV_ROUTER_START (R292): destination 32 + x div 4 has fired for this converter. -/
def execConvRouterStart (t : Nat) (x : Conv) (s : State) : Out :=
  s.act t (cvLive x) fun s => s.takeDest (64 + x) fun s => s.cvStart x s.tb 3 (s.rd (CBC_CONV_CFG_RTR_ENTRY x)) none

/-- CONV_ROUTER_URGENT (R293): destination 40 + x div 4 has fired for this converter; the entry is that of CONV_CTRL. -/
def execConvRouterUrgent (t : Nat) (x : Conv) (s : State) : Out :=
  s.act t (cvLive x) fun s => s.takeDest (96 + x) fun s => s.cvUrgent x (s.rd (CBC_CONV_CTRL_ENTRY x))

/-- CONV_BOUNDARY (R297). -/
def execConvBoundary (t : Nat) (x : Conv) (s : State) : Out :=
  s.act t (State.corn 2) fun s => s.bndTake x

/-- CONV_WINDOW_TIME_END (R296). -/
def execConvWindowTimeEnd (t : Nat) (x : Conv) (s : State) : Out := s.act t (cvOk x) fun s => s.winTimeEnd x

/-- CONV_WINDOW_LONG (R298). -/
def execConvWindowLong (t : Nat) (x : Conv) (s : State) : Out := s.act t (cvOk x) fun s => s.winLong x

/-- CONV_RESULT (R306). -/
def execConvResult (t : Nat) (x : Conv) (raw : Int) (ovr : Bool) (s : State) : Out :=
  s.act t (cvLive x) fun s => s.cvResult x raw ovr

/-- RESULT_READ (R305). -/
def execResultRead (t : Nat) (m : Master) (x : Conv) (e : Fin 16) (s : State) : Out :=
  s.act t (State.core 2) fun s =>
    s.guardedRead m (pageAddr (0x60 + x) (0x200 + 4 * e)) fun s =>
      if s.on (PG_CTRL_FREEZE (0x60 + x)) then s else s.resultTake x e m

/-- VREF_ENABLE (R289). -/
def execVrefEnable (t : Nat) (m : Master) (on : Bool) (s : State) : Out :=
  s.act t (State.core 2) fun s => s.guarded m 0x60 0xF0 (b2n on) fun s => s.vrefEn on

/-- VREF_WARM (R289). -/
def execVrefWarm (t : Nat) (s : State) : Out := s.act t (State.corn 2) State.vrefWarmUp

/-- VREF_OK_CHANGE (R318). -/
def execVrefOkChange (t : Nat) (ok : Bool) (s : State) : Out := s.act t (State.core 2) fun s => s.vrefOk ok

/-- MAINS_EDGE (R290). -/
def execMainsEdge (t : Nat) (s : State) : Out := s.act t (State.corn 2) State.mainsEdge

/-- MAINS_TIMEOUT (R290). -/
def execMainsTimeout (t : Nat) (s : State) : Out := s.act t (State.corn 2) State.mainsOut

/-- CAL_REQ (R308): the write of CAL_CTRL with REQ = 1 and PREEMPT. -/
def execCalReq (t : Nat) (m : Master) (x : Conv) (preempt : Bool) (s : State) : Out :=
  s.act t (State.core 2) fun s =>
    s.guardedMask m (0x60 + x) 0x60 (2 ^ 31 + 256 * b2n preempt) (2 ^ 31 + 256) fun s =>
      (s.wr (CBC_CAL_CTRL_PREEMPT x) (b2n preempt)).calAsk x

/-- CAL_START (R308). -/
def execCalStart (t : Nat) (x : Conv) (s : State) : Out := s.act t (cvOk x) fun s => s.calBegin x

/-- CAL_END (R308). -/
def execCalEnd (t : Nat) (x : Conv) (raws : List (Int × Int)) (s : State) : Out :=
  s.act t (cvOk x) fun s => s.calFinish x raws

/-- CAL_ABORT (R308): the write of CAL_CTRL.ABORT = 1. -/
def execCalAbort (t : Nat) (m : Master) (x : Conv) (s : State) : Out :=
  s.act t (State.core 2) fun s =>
    s.guardedMask m (0x60 + x) 0x60 (2 ^ 30) (2 ^ 30) fun s => s.calStop x

end Sys2Proof.Machine
end

