-- ==== Sys2Proof/Machine/Evt.lean ====
section
/-! DEFINITION. The angle event table and its scheduling pipeline (R190 to R221). -/

namespace Sys2Proof.Machine

open Reg

/-- The SRC_ID of the pipeline as a whole (R19, R20, R222). -/
def srcEvt : Nat := srcId 0 0x18 0xF

/-- The pipeline is RUNNING. -/
def State.evtRuns (s : State) : Bool := s.rd EVT_STAT_STATE == 2

/-- The CYC_CNT value of cycle `n` (R197). -/
def State.evtCyc (s : State) (n : Nat) : Nat := (s.rd EVT_CYC_CNT_COUNT + 360360 + n - s.evt.ncyc) % 360360

/-- A selector selects a cycle (R197). -/
def cycSelects (sel c : Nat) : Bool :=
  match sel with
  | 0 => true
  | 1 => c % 2 == 1
  | 2 => c % 2 == 0
  | 3 => false
  | k => c % (k - 2) == 0

/-- An entry has an occurrence in cycle `n` (R193, R197, R219). -/
def State.evtDue (s : State) (e : Entry4) (n : Nat) : Bool :=
  e.valid && e.typ == 0 && (if s.evtHalf then e.cycSel == 0 else cycSelects e.cycSel (s.evtCyc n))

/-- The position of an entry's angle in cycle `n`. -/
def State.evtStart (s : State) (e : Entry4) (n : Nat) : Nat := n * s.evtM + e.angle % s.evtM

/-- The lead of an entry (R201). -/
def State.evtLead (s : State) (e : Entry4) : Nat :=
  if e.op = 5 then (divNear (s.rd EVT_CFG_DWELL_LA * 2 ^ 24) 7200).toNat
  else max 1 (min 8 (s.rd EVT_CFG_LOOKAHEAD)) * (divNear s.cycM s.cycP).toNat

/-- The position of an entry's pull key in cycle `n` (R201). -/
def State.evtKey (s : State) (e : Entry4) (n : Nat) : Int := (s.evtStart e n : Int) - s.evtLead e

/-- The contents of entry `i` by its latest commit (R190, R215). -/
def State.committed (s : State) (i : Nat) : Entry4 :=
  match s.evt.pend.find? fun (x : Nat × Entry4) => x.1 == i with
  | some x => x.2
  | none =>
    match (s.evt.imm.filter fun (x : Nat × Entry4) => x.1 == i).getLast? with
    | some x => x.2
    | none =>
      match s.evt.later.find? fun (x : Nat × Nat × Entry4) => x.1 == i with
      | some x => x.2.2
      | none => s.entry i

/-- Entries that hold or await contents. -/
def State.evtKnown (s : State) : List Nat :=
  (s.entryIdx ++ s.evt.pend.map (·.1) ++ s.evt.imm.map (·.1) ++ s.evt.later.map (·.1)).dedup

/-- The contents an occurrence in cycle `n` is pulled with (R214, R215). -/
def State.contentsAt (s : State) (i n : Nat) : Entry4 :=
  match s.evt.kept.find? fun (x : Nat × Nat × Entry4) => x.1 == i && x.2.1 == n with
  | some x => x.2.2
  | none =>
    match s.evt.pend.find? fun (x : Nat × Entry4) => x.1 == i && decide (s.evt.ncyc < n) with
    | some x => x.2
    | none =>
      match s.evt.later.find? fun (x : Nat × Nat × Entry4) => x.1 == i && decide (x.2.1 ≤ n) with
      | some x => x.2.2
      | none => s.entry i

/-- What a firing occurrence finds: its instant in 16ths of a tick, whether it is late, whether it is cancelled, and its
lateness in 0.01 °CA (R206 to R208). -/
structure Verdict where
  at16 : Nat
  late : Bool
  cancel : Bool
  lam : Nat
  deriving DecidableEq, Repr

/-- The firing instant of a position has come (R206), `lead` ticks ahead of it where the edge is compensated (R263): by its fixed time
without a deficit, and by its angle with one or where the time match is disarmed (R247). `tm` and `am` say that the matches are armed. -/
def State.posComes (s : State) (pos lead : Nat) (tm am : Bool) : Option Nat :=
  let o := s.ang
  match s.posFix pos with
  | some f =>
    if o.valid && (if o.e = 0 ∧ tm then decide (f ≤ 16 * (s.tb + lead)) else am && decide (pos ≤ s.evtG)) then
      some (if o.e = 0 ∧ 16 * s.tb < f + 16 then f else 16 * s.tb)
    else none
  | none => none

/-- The judgement of R207 and R208 on an occurrence at a position. -/
def State.judge (s : State) (pos lead lim : Nat) (tm am : Bool) : Option Verdict :=
  (s.posComes pos lead tm am).map fun (at16 : Nat) =>
    let r := s.recNow
    let d := ((at16 : Int) - s.posTime pos - 1024).toNat
    let late := decide (0 < d)
    { at16, late, cancel := late && decide (lim < 0xFFF) && decide (lim * 2 ^ 24 * (16 * r.tp) < d * r.w * 72000),
      lam := satN 12 (d * r.w * 72000 / (16 * r.tp * 2 ^ 24)) }

/-- An occurrence reaches its slot in the TB domain (R203, R204); that of a logical channel which no tile holds is withdrawn (R14). -/
def State.occArrive (s : State) (i : Nat) : State :=
  match s.evt.slots.find? fun o => o.idx == i && !o.here with
  | none => s
  | some o =>
    let s := s.setOcc (s.dwellFix s.recNow { o with here := true })
    match s.physOf o.e.ch with
    | some p => s.evtLoad p
    | none => if o.e.ch = 0xFF then s else s.withdraw { o with here := true }

/-! ### Pulling (R199, R201 to R203) -/

/-- How far forward of its start a PULSE_A ends, by its link (R199). -/
def State.linkEnd (s : State) (e : Entry4) (n : Nat) : Option Nat :=
  let l := s.contentsAt e.next n
  if l.valid && l.typ == 1 && l.ch == e.ch then
    let d := subMod s.cycM l.angle e.angle
    some (if d = 0 then s.cycM else d)
  else none

/-- The SRC_ID of an entry (R222). -/
def srcEntry (i : Nat) : Nat := srcId 0 (0x10 + i / 512) (i % 512 / 32)

/-- A new occurrence, with the record of a bad link (R199). -/
def State.newOcc (s : State) (i n : Nat) (e : Entry4) : Occ × State :=
  let o : Occ := { idx := i, e := e, cyc := n, ang := e.angle % s.evtM }
  if e.op = 4 then
    match s.linkEnd e n with
    | some d => ({ o with stop := some d }, s)
    | none => (o, ((s.inc EVT_ERR_CNT_LINK_ERR).iflag 0x19 5).raise (srcEntry i) 0x20 i)
  else (o, s)

/-- Occupied slots of a channel, or shared ones. -/
def State.slotsOf (s : State) (ch : Nat) : Nat := (s.evt.slots.filter fun o => o.e.ch == ch).length

/-- The pipeline's read of an entry finds an error (R221): a word that SECDED corrects is reported; one that it cannot correct skips the
occurrence, with a record of the table-word kind. -/
def State.evtEcc (s : State) (i n : Nat) (x : Nat × Bool) : State :=
  let (q, b, _) := evtWordAt i
  if x.2 then
    let s := { s with evt := { s.evt with ended := tput 0 s.evt.ended i (n + 1) } }
    (((s.entryFlag i 28).inc EVT_ERR_CNT_ECC).iflag 0x19 6).raise (srcEntry i) 0x22 i
  else s.ramRecord 0x03 q b x.1

/-- An occurrence is pulled into a slot, or skipped (R195, R203, R221). -/
def State.pull1 (s : State) (i n : Nat) (e : Entry4) : State :=
  let s := s.entry3 i fun w => putBits w 28 3 0
  let s := { s with evt := { s.evt with pulled := tput 0 s.evt.pulled i (n + 1), wait := tdrop s.evt.wait i } }
  let bad := s.evtBad i
  let s := match bad with
    | some x => s.evtEcc i n x
    | none => s
  if bad.any fun (x : Nat × Bool) => x.2 then s
  else if s.slotsOf e.ch < (if e.ch = 0xFF then 64 else 4) then
    let (o, s) := s.newOcc i n e
    { s with evt := { s.evt with slots := s.evt.slots ++ [o] } }
  else
    let s := { s with evt := { s.evt with ended := tput 0 s.evt.ended i (n + 1) } }
    (((s.entryFlag i 28).inc EVT_ABORT_CNT_SKIP).iflag 0x19 4).raise srcEvt 0x21 i

/-- The first occurrence of an entry that is not yet pulled and whose key is reached: key, entry, cycle, contents. An
occurrence of the cycle before counts only where its key was reached in that cycle, so that its contents are kept. -/
def State.readyOf (s : State) (i : Nat) : Option (Int × Nat × Nat × Entry4) :=
  let c := s.evt.ncyc
  [c - 1, c, c + 1].findSome? fun n =>
    let e := s.contentsAt i n
    if tget 0 s.evt.pulled i ≤ n ∧ (c ≤ n ∨ (tget 0 s.evt.wait i ≠ 0 ∧ (s.evt.kept.any fun (x : Nat × Nat × Entry4) => x.1 == i && x.2.1 == n))) ∧ s.evtDue e n ∧ s.evt.from_ ≤ s.evtStart e n ∧
        s.evtKey e n ≤ s.evtG then some (s.evtKey e n, i, n, e)
    else none

/-- The occurrences to pull. -/
def State.ready (s : State) : List (Int × Nat × Nat × Entry4) := s.evtKnown.filterMap s.readyOf

/-- The first of a list by key. -/
def headKey (l : List (Int × Nat × Nat × Entry4)) : Option (Int × Nat × Nat × Entry4) :=
  l.foldl (fun a x => match a with | some y => if x.1 < y.1 then some x else some y | none => some x) none

/-- The pulls of one micro-tick (R202): at most one per bank; the others wait. -/
def State.pullRound (s : State) (l : List (Int × Nat × Nat × Entry4)) : State :=
  (List.range 8).foldl
    (fun s b =>
      let q := l.filter fun (x : Int × Nat × Nat × Entry4) => x.2.1 / 512 == b
      match headKey q with
      | none => s
      | some (_, i, n, e) =>
        let w := tget 0 s.evt.wait i
        let s := s.pull1 i n e
        let wait := q.foldl (fun t (x : Int × Nat × Nat × Entry4) =>
          if x.2.1 = i then t else tput 0 t x.2.1 (max 1 (tget 0 t x.2.1) + 1)) s.evt.wait
        { s with evt := { s.evt with wait := wait, lag := tput 0 s.evt.lag b (max (tget 0 s.evt.lag b) (w - 1)) } })
    s

/-- The pulls of `k` micro-ticks at one output angle. -/
def State.evtPull : Nat → State → State
  | 0, s => s
  | k + 1, s =>
    if !s.evtRuns then s
    else
      match s.ready with
      | [] => s
      | l => (s.pullRound l).evtPull k

/-! ### Commits (R190 to R192, R214 to R216) -/

/-- Words of an entry written by a master wait for its word 3 (R190). -/
def State.evtStage (s : State) (m i w v : Nat) : State :=
  let g : Stage := match tget none s.evt.stage m with
    | some g => if g.idx = i then g else { idx := i }
    | none => { idx := i }
  let g := match w with
    | 0 => { g with w0 := some v }
    | 1 => { g with w1 := some v }
    | _ => { g with w2 := some v }
  { s with evt := { s.evt with stage := tput none s.evt.stage m (some g) } }

/-- The codes of R198. -/
def opCodes : List Nat := [1, 2, 3, 4, 5, 8, 0x10, 0x11, 0x12, 0x18, 0x20]

/-- The grid count of R200. -/
def State.gridCount (s : State) (g : Nat) : Nat :=
  (match g with | 1 => 2880 | 2 => 1440 | 3 => 720 | _ => 360) / (if s.cyc360 then 2 else 1)

/-- VALID entries owned by a channel, entry `i` apart (R192). -/
def State.ownedBut (s : State) (ch i : Nat) : Nat :=
  (s.evtKnown.filter fun j => j != i && (s.committed j).valid && (s.committed j).ch == ch &&
    decide ((s.committed j).typ ≤ 1)).length

/-- The first failing check of R192. -/
def State.evtCheck (s : State) (i : Nat) (e : Entry4) : Option Nat :=
  if 1 < e.typ then some 1
  else if !e.valid then none
  else if e.typ = 0 ∧ !opCodes.contains e.op then some 2
  else if e.typ = 0 ∧ !(if e.op ≤ 8 then decide (e.ch ≤ 215) else e.ch == 0xFF) then some 3
  else if e.ch ≤ 215 ∧ 64 ≤ s.ownedBut e.ch i then some 4
  else if e.typ = 0 ∧ e.op = 4 ∧ (!bit e.w3 27 ∨ e.next = i) then some 5
  else if e.typ = 0 ∧ (e.op = 0x10 ∨ e.op = 0x11) ∧
      !(bits e.w2 12 16 == 0 && decide (bits e.w2 28 4 ≤ 4) &&
        (bits e.w2 28 4 == 0 || decide (bits e.w2 0 12 < s.gridCount (bits e.w2 28 4)))) then some 6
  else if bit e.w3 26 ∧ s.evtRuns ∧ 256 ≤ (s.evt.pend.filter fun (x : Nat × Entry4) => x.1 != i).length then some 7
  else none

/-- A refused commit is captured (R192). -/
def State.commitRefused (s : State) (m i code : Nat) : State :=
  let s :=
    if s.on EVT_CMT_ERR_VALID then s.wr EVT_CMT_ERR_MORE 1
    else (((s.setBits EVT_CMT_ERR_VALID 1).wr EVT_CMT_ERR_MASTER m).wr EVT_CMT_ERR_CODE code).wr EVT_CMT_ERR_IDX i
  (s.iflag 0x19 0).cfgRec srcEvt code i

/-- The registers of a channel take the earliest occurrence again. -/
def State.reload (s : State) (ch : Nat) : State :=
  match s.physOf ch with
  | some p => s.evtLoad p
  | none => s

/-- A pulled copy takes new contents in its slot and is re-timed (R214). -/
def State.replaceOcc (s : State) (o : Occ) (e : Entry4) : State :=
  let s := s.unload o
  let (x, s) := s.newOcc o.idx o.cyc e
  let s := s.setOcc (s.dwellFix s.recNow { x with here := o.here })
  (s.reload e.ch).reload o.e.ch

/-- A pulled copy whose cycle the new contents do not select leaves its slot. -/
def State.removeOcc (s : State) (o : Occ) : State := ((s.unload o).dropOcc o).reload o.e.ch

/-- The pulled copy of entry `i` in cycle `n` that has not started. -/
def State.copyOf (s : State) (i n : Nat) : Option Occ := s.evt.slots.find? fun o => o.idx == i && o.cyc == n && !o.started

/-- Contents that hold from cycle `n` on reach the copy already pulled for it (R214, R215). -/
def State.copyTake (s : State) (i n : Nat) (e : Entry4) : State :=
  match s.copyOf i n with
  | some o => if s.evtDue e n then s.replaceOcc o e else s.removeOcc o
  | none => s

/-- A write of word 3 commits (R190, R192, R215, R216). While the pipeline is not RUNNING the contents stand at once. -/
def State.evtCommit (s : State) (m i v : Nat) : State :=
  let old := s.committed i
  let g := tget none s.evt.stage m
  let mine : Bool := match g with | some x => x.idx == i | none => false
  let st : Stage := if mine then g.getD { idx := i } else { idx := i }
  let e : Entry4 := { w0 := st.w0.getD old.w0, w1 := st.w1.getD old.w1, w2 := st.w2.getD old.w2, w3 := v % 2 ^ 28 }
  let s := if mine then { s with evt := { s.evt with stage := tput none s.evt.stage m none } } else s
  match s.evtCheck i e with
  | some code => s.commitRefused m i code
  | none =>
    let s := { s with evt := { s.evt with pend := s.evt.pend.filter fun (x : Nat × Entry4) => x.1 != i } }
    if !s.evtRuns then
      { s with evt := { s.evt with later := s.evt.later.filter fun (x : Nat × Nat × Entry4) => x.1 != i } }.putEntry i e
    else if bit v 26 then ({ s with evt := { s.evt with pend := s.evt.pend ++ [(i, e)] } } : State).copyTake i (s.evt.ncyc + 1) e
    else { s with evt := { s.evt with imm := s.evt.imm ++ [(i, e)] } }

/-- The contents in force are those from an entry's commit on; what waited for it is gone. -/
def State.evtTake (s : State) (i : Nat) (e : Entry4) : State :=
  { s with evt := { s.evt with later := s.evt.later.filter fun (x : Nat × Nat × Entry4) => x.1 != i } }.putEntry i e

/-- The cycle that R214 decides on. -/
def State.dueCycle (s : State) (i : Nat) : Nat :=
  let old := s.entry i
  let base := max s.evt.ncyc (tget 0 s.evt.ended i)
  let c := ((List.range 15).map (· + base)).find? (s.evtDue old)
  let c := c.getD s.evt.ncyc
  let started := s.evt.slots.any fun o => o.idx == i && o.cyc == c && o.started
  if c < tget 0 s.evt.ended i || started then c + 1 else c

/-- The decision of R214 at `t_e`. -/
def State.evtDecide (s : State) (i : Nat) (e : Entry4) : State :=
  let c := s.dueCycle i
  -- the occurrence of cycle c under the old contents is still to come, and must not be dropped
  let due := s.evtDue (s.entry i) c || (s.copyOf i c).isSome
  let now := if e.typ = 0 then s.evtDue e c else !due
  let s :=
    if e.valid && now && decide (s.evtG < s.evtStart e c) then
      let s := s.evtTake i e
      match s.copyOf i c with
      | some o => s.replaceOcc o e
      | none =>
        if e.typ = 0 ∧ s.evtKey e c ≤ s.evtG then s.pull1 i c e
        else { s with evt := { s.evt with pulled := tput 0 s.evt.pulled i (min c (tget 0 s.evt.pulled i)) } }
    else
      { s with evt := { s.evt with later := (s.evt.later.filter fun (x : Nat × Nat × Entry4) => x.1 != i) ++ [(i, c + 1, e)] } }
  s.copyTake i (c + 1) e

/-- An immediate commit takes effect (R214). -/
def State.evtEffect (s : State) (i : Nat) : State :=
  match s.evt.imm.find? fun (x : Nat × Entry4) => x.1 == i with
  | none => s
  | some (j, e) =>
    let s := { s with evt := { s.evt with imm := s.evt.imm.erase (j, e) } }
    if s.evtRuns then s.evtDecide i e else s.evtTake i e

/-! ### Cycles (R196, R202, R215) -/

/-- The output angle wraps. -/
def State.evtWrap (s : State) : State :=
  -- occurrences whose keys lay before the wrap keep their claim
  let last := (s.evt.ncyc + 1) * s.evtM
  let behind := if s.evtRuns then s.evtKnown.filter fun i =>
      let n := s.evt.ncyc
      let e := s.contentsAt i n
      decide (tget 0 s.evt.pulled i ≤ n) && s.evtDue e n && decide (s.evt.from_ ≤ s.evtStart e n) &&
        decide (s.evtKey e n < last)
    else []
  -- they are pulled with the contents of the cycle that ends
  let kept := (behind ++ behind.map fun i => (s.contentsAt i s.evt.ncyc).next).dedup.map fun i => (i, s.evt.ncyc, s.contentsAt i s.evt.ncyc)
  let wait := behind.foldl (fun t i => tput 0 t i (max 1 (tget 0 t i))) s.evt.wait
  let s := { s with evt := { s.evt with wait := wait, kept := kept } }
  let s := if s.cyc360 || s.ang.base == 3 then
      (s.hwPut EVT_CYC_CNT_COUNT ((s.rd EVT_CYC_CNT_COUNT + 1) % 360360)).pulse 12 else s
  let s := (List.range 8).foldl (fun s b => s.wr (EVT_BANK_STAT_MAX_DELAY b) (satN 8 (tget 0 s.evt.lag b))) s
  let s := { s with evt := { s.evt with ncyc := s.evt.ncyc + 1, lag := [] } }
  let due := s.evt.later.filter fun (x : Nat × Nat × Entry4) => decide (x.2.1 ≤ s.evt.ncyc)
  let s := due.foldl (fun s (x : Nat × Nat × Entry4) => s.evtTake x.1 x.2.2) s
  let pend : List (Nat × Entry4) := s.evt.pend
  let s := pend.foldl (fun s (x : Nat × Entry4) => s.evtTake x.1 x.2) { s with evt := { s.evt with pend := [] } }
  if pend.isEmpty then s else s.iflag 0x19 7

/-- The output enters CYCLE_SYNC out of CRANK_SYNC in 720 °CA mode: positions are counted in whole cycles from here on; what is
pulled stays as far ahead as it was (R196, R219). `g0` is the position before the change and `m0` the cycle's length then. -/
def State.evtRebase (s : State) (g0 m0 : Nat) : State :=
  let move (pos : Nat) : Nat := ((pos : Int) - g0 + s.evtG).toNat
  let slots := s.evt.slots.map fun o =>
    let q := move (o.cyc * m0 + o.ang)
    { o with cyc := q / s.evtM, ang := q % s.evtM }
  -- the occurrences of an entry up to the last one that was pulled, or that ended, count as pulled, or as ended, on the new scale
  let conv (t : Tab Nat) : Tab Nat := s.evtKnown.foldl
    (fun r i =>
      let n := tget 0 t i
      let a := (s.entry i).angle
      let last := move ((n - 1) * m0 + a % m0)
      if n = 0 ∨ last < a % s.evtM then r else tput 0 r i ((last - a % s.evtM) / s.evtM + 1)) []
  let pulled := slots.foldl (fun t (o : Occ) => tput 0 t o.idx (max (tget 0 t o.idx) (o.cyc + 1))) (conv s.evt.pulled)
  let start := move s.evt.from_
  let s := { s with evt := { s.evt with
    slots := slots, from_ := start, pulled := pulled, ended := conv s.evt.ended, wait := [], kept := [] } }
  let s := s.cmuRebase move
  (List.range 216).foldl
    (fun s p =>
      match (s.chan p).act with
      | some (.pulseA i stop pos) => s.setChan p { s.chan p with act := some (.pulseA i stop (move pos)) }
      | _ => s) s

/-! ### Pipeline states (R218, R220) -/

/-- The pipeline changes state (R223). -/
def State.evtState (s : State) (n : Nat) : State := (s.wr EVT_STAT_STATE n).iflag 0x19 8

/-- Contents that waited for a cycle, or for their decision, stand when the pipeline is not RUNNING. -/
def State.evtSettle (s : State) : State :=
  let s := s.evt.later.foldl (fun s (x : Nat × Nat × Entry4) => s.evtTake x.1 x.2.2) s
  let imm := s.evt.imm
  imm.foldl (fun s (x : Nat × Entry4) => s.evtTake x.1 x.2) { s with evt := { s.evt with imm := [], kept := [] } }

/-- WAIT_SYNC ends once the tracker is synchronised far enough (R218). -/
def State.evtSync (s : State) : State :=
  let b := s.ang.base
  if s.rd EVT_STAT_STATE = 1 ∧ (b = 3 ∨ (b = 2 ∧ (s.on EVT_CFG_CS_MODE ∨ s.cyc360))) then
    let s := s.evtState 2
    let s := { s with evt := { s.evt with ncyc := max 1 s.evt.ncyc, pulled := [], ended := [], wait := [], kept := [], lag := [] } }
    { s with evt := { s.evt with from_ := s.evtG } }
  else s

/-- The pipeline starts where RUN and PG_CTRL.EN are both set (R218). -/
def State.evtStart_ (s : State) : State :=
  if s.on EVT_CTRL_RUN && s.on (PG_CTRL_EN 0x19) && !s.pageCrimson 0x19 && (s.rd EVT_STAT_STATE == 0 || s.rd EVT_STAT_STATE == 3) then
    (s.evtState 1).evtSync
  else s

/-- All slots are withdrawn, and actions in progress end safely, as functions do that an SRQ started (R220); on a loss of
synchronisation such a function ends by SYNC_END (R231). -/
def State.evtEmpty (s : State) (loss : Bool) : State :=
  let s := s.evt.slots.foldl State.withdraw s
  (List.range 216).foldl
    (fun s p =>
      match (s.chan p).act with
      | some (.pulse _ _) | some (.pulseA _ _ _) => s.safeEnd p
      | some (.dwell _ _ _) => (s.release p).pipeAct p 2 true
      | none => if !loss && (s.chan p).srqFn then s.safeEnd p else s) s

/-- The pipeline leaves its state for STOPPED (R218). -/
def State.evtStop (s : State) : State :=
  let st := s.rd EVT_STAT_STATE
  if st = 0 then s
  else
    let s := s.evtEmpty false
    let s := if st = 2 then s.cvSyncLoss.cmuLeave else s
    (s.evtState 0).evtSettle

/-- The tracker enters LOST, REVERSE or NOSYNC (R218, R220). -/
def State.evtLoss (s : State) : State :=
  if s.evtRuns then
    let ar := s.rd EVT_CFG_AUTO_RESUME
    let s := (s.evtEmpty true).cvSyncLoss.cmuLeave
    ((s.evtState (if ar = 1 then 1 else 3)).wr EVT_CTRL_RUN ar).evtSettle
  else s

/-- A record has been made: dwell starts are fixed from it (R212). Every other fixed time is taken from the record in force. -/
def State.evtRecord (s : State) : State :=
  { s with evt := { s.evt with slots := s.evt.slots.map fun o => if o.here then s.dwellFix s.ang.g.r o else o } }

/-! ### Firing (R198, R207 to R213) -/

/-- A late or cancelled occurrence is recorded (R208); its channel counts a LATE event (R233). -/
def State.lateMark (s : State) (o : Occ) (v : Verdict) : State :=
  if !v.late then s
  else
    let s := ((s.wr EVT_LATE_REC_CANCEL (b2n v.cancel)).wr EVT_LATE_REC_IDX o.idx).wr EVT_LATE_REC_LAMBDA v.lam
    let s := if v.cancel then ((s.entryFlag o.idx 28).inc EVT_LATE_CNT_CANCEL).iflag 0x19 2
      else ((s.entryFlag o.idx 30).inc EVT_LATE_CNT_LATE).iflag 0x19 1
    match s.physOf o.e.ch with
    | some p => s.chEvent p 9
    | none => s

/-- An occurrence has fired. -/
def State.fired (s : State) (o : Occ) : State := ((s.entryFlag o.idx 29).inc EVT_FIRE_CNT_COUNT).occEnd o true

/-- The next head of a channel is loaded. -/
def State.nextHead (s : State) (p : Nat) : State := (s.release p).evtLoad p

/-- An occurrence of the channel fired in this micro-tick: the next one fires in the next (R206). -/
def State.firedNow (s : State) (p : Nat) : Bool :=
  let k := 4 - s.ang.g.at_ % 4
  let x := s.chan p
  x.occAt != 0 && (x.occAt - 1 + k) / 4 == (s.tb + k) / 4

/-- The time and the angle match of a channel's registers are armed, as far as CHC left them so (R247). -/
def State.tmOn (s : State) (p : Nat) : Bool := !(s.chan p).mtOff
def State.amOn (s : State) (p : Nat) : Bool := !(s.chan p).maOff

/-- The loaded occurrence of an entry with action code `op`, and its channel. -/
def State.loaded (s : State) (i op : Nat) : Option (Nat × Occ) :=
  match s.evt.slots.find? fun o => o.idx == i && o.here with
  | none => none
  | some o =>
    if o.e.op ≠ op then none
    else
      match s.physOf o.e.ch with
      | some p => if (s.chan p).pipe = some i ∧ !s.dead p ∧ !s.firedNow p then some (p, o) else none
      | none => none

/-- An occurrence loaded on a channel fires, or is cancelled (R206, R208): `go` is the action, with the instant in 16ths of a
tick. -/
def State.fireChan (s : State) (i op : Nat) (go : State → Nat → Nat → Occ → State) : State :=
  match s.loaded i op with
  | none => s
  | some (p, o) =>
    match s.judge (s.occPos o) (s.mtLead p) o.e.lateLim (s.tmOn p) (s.amOn p) with
    | none => s
    | some v =>
      let s := (s.lateMark o v).release p
      if v.cancel then (s.occEnd o true).evtLoad p
      else ((go (s.setChan p { s.chan p with occAt := s.tb + 1 }) p v.at16 o).fired o).evtLoad p

/-- An action of the pipeline takes place on a channel now. -/
def State.pipeMark (s : State) (p : Nat) : State := s.setChan p { s.chan p with pipeAt := s.tb + 1 }

/-- A pin action of the pipeline with its PACT event. -/
def State.pinPact (s : State) (p a : Nat) : State := ((s.pipeMark p).pipeAct p a false).chEvent p 8

/-- PULSE_T starts (R210). -/
def State.pulseStart (s : State) (p at16 : Nat) (o : Occ) : State :=
  if o.e.w2 = 0 then s
  else (s.setChan p { s.chan p with act := some (.pulse o.idx (at16 + 16 * o.e.w2)) }).pinPact p 1

/-- PULSE_A starts (R211); without a good link it runs as a PULSE_T (R199). -/
def State.pulseAStart (s : State) (p at16 : Nat) (o : Occ) : State :=
  match o.stop with
  | none => s.pulseStart p at16 o
  | some d =>
    (s.setChan p { s.chan p with act := some (.pulseA o.idx (at16 + 16 * o.e.w2) (s.occPos o + d)) }).pinPact p 1

/-- A pulse ends: the channel's registers are released (R204). -/
def State.pulseStop (s : State) (p : Nat) : State :=
  ((s.release p).pinPact p 2).evtLoad p

/-- The time end of a pulse comes (R210, R263). -/
def State.pulseEnd (s : State) (p : Nat) : State :=
  if s.dead p then s
  else
  match (s.chan p).act with
  | some (.pulse _ stop) => if s.tmOn p ∧ stop ≤ 16 * (s.tb + s.mtLead p) then s.pulseStop p else s
  | _ => s

/-- The end angle or the backstop of a PULSE_A comes (R211). -/
def State.pulseAEnd (s : State) (p : Nat) : State :=
  if s.dead p then s
  else
  match (s.chan p).act with
  | some (.pulseA _ stop pos) =>
    if (s.tmOn p && decide (stop ≤ 16 * (s.tb + s.mtLead p))) || (s.posComes pos (s.mtLead p) (s.tmOn p) (s.amOn p)).isSome then
      s.pulseStop p
    else s
  | _ => s

/-- A dwell starts (R212). -/
def State.dwellStart (s : State) (i : Nat) : State :=
  match s.loaded i 5 with
  | none => s
  | some (p, o) =>
    match o.dwFix with
    | none => s
    | some f =>
      if o.started || !s.tmOn p || !decide (f ≤ 16 * (s.tb + s.mtLead p)) then s
      else
        let at16 := if !o.short && decide (16 * s.tb < f + 16) then f else 16 * s.tb
        let maxT := if o.e.param = 0 then 2 * o.e.w2 else 4000 * o.e.param
        let s := if o.short then s.inc EVT_ERR_CNT_DWELL_SHORT else s
        let s := s.setOcc { o with started := true }
        let s := s.release p
        let s := s.setChan p { s.chan p with act := some (.dwell i at16 (at16 + 16 * maxT)), occAt := s.tb + 1 }
        s.pinPact p 1

/-- The dwell in progress on behalf of an entry, and its channel; a dwell that a safe end cut short still has its spark
to come. -/
def State.dwelling (s : State) (i : Nat) : Option (Nat × Occ) :=
  match s.evt.slots.find? fun o => o.idx == i && o.started && o.e.op == 5 with
  | none => none
  | some o => ((s.physOf o.e.ch).filter fun p => !s.dead p).map fun p => (p, o)

/-- A dwell ends: by a spark, or by SOFT_OFF without one (R212, R266). -/
def State.dwellStop (s : State) (p : Nat) (spark : Bool) : State :=
  let s := s.release p
  if spark then s.pinPact p 2 else s.pipeAct p 2 true

/-- The spark of a dwell comes (R212). -/
def State.spark (s : State) (i : Nat) : State :=
  match s.dwelling i with
  | none => s
  | some (p, o) =>
    match s.judge (s.occPos o) (s.mtLead p) o.e.lateLim (s.tmOn p) (s.amOn p) with
    | none => s
    | some v =>
      let s := s.lateMark o v
      if v.cancel then ((s.dwellStop p false).occEnd o true).nextHead p
      else ((s.dwellStop p true).fired o).nextHead p

/-- The maximum dwell has run (R212). -/
def State.dwellMax (s : State) (p : Nat) : State :=
  if s.dead p then s
  else
  match (s.chan p).act with
  | some (.dwell i _ stop) =>
    if 16 * s.tb < stop then s
    else
      match s.dwelling i with
      | none => (s.dwellStop p false).evtLoad p
      | some (_, o) =>
        if bit o.e.w3 27 then ((s.dwellStop p true).fired o).nextHead p
        else ((s.dwellStop p false).occEnd o false).nextHead p
  | _ => s

/-- An SRQ fires: it is counted and queued, and an armed SRQ action acts (R234, R230). -/
def State.srqFire (s : State) (p at16 : Nat) (o : Occ) : State :=
  let s := (s.pipeMark p).srqEvent p (at16 / 16) o.e.param
  let s := s.setChan p { s.chan p with srqFn := (s.chan p).srqFn || (s.chan p).dir.isSome }
  let x := s.chan p
  if x.sactArm then (s.setChan p { x with sactArm := false }).pipeAct p x.sact false else s

/-- The number of the last boundary of a train, 0 for a single one (R200). -/
def Entry4.lastBnd (e : Entry4) : Nat := if bits e.w2 28 4 = 0 then 0 else bits e.w2 0 12

/-- The position of the boundary of an occurrence that fires next (R200). -/
def State.bndPos (s : State) (o : Occ) : Nat :=
  let g := match bits o.e.w2 28 4 with | 1 => 2880 | 2 => 1440 | 3 => 720 | _ => 360
  s.occPos o + (divNear (o.bnd * 2 ^ 24) g).toNat

/-- An occurrence of a shared slot fires, or is cancelled: `go` with the TB time and whether it is late, `can` on a cancelled
one. A train stays in its slot until its last boundary (R203, R209, R213). -/
def State.fireShared (s : State) (i op : Nat) (go : State → Nat → Bool → Occ → State) (can : State → Occ → State) : State :=
  match s.evt.slots.find? fun o => o.idx == i && o.here with
  | none => s
  | some o =>
    if o.e.op ≠ op then s
    else
      let train := op == 0x10 || op == 0x11
      match s.judge (if train then s.bndPos o else s.occPos o) 0 o.e.lateLim true true with
      | none => s
      | some v =>
        let s := s.lateMark o v
        let s := if v.cancel then can s o else go s (v.at16 / 16) v.late o
        if train && decide (o.bnd < o.e.lastBnd) then s.setOcc { o with bnd := o.bnd + 1, started := true }
        else if v.cancel then s.occEnd o true else s.fired o

/-- A router source EVT_OUTn pulses (R369). -/
def State.evtOut (s : State) (o : Occ) : State := s.pulse (16 + o.e.param % 16)

/-! ### The actions of one cycle, in their order (R36, R230) -/

/-- An occurrence of entry `i` that its channel's registers hold fires, if its OP is `op` and it is due (R198, R206). -/
def State.occFire (s : State) (i op : Nat) : State :=
  match op with
  | 1 => s.fireChan i 1 fun s p _ _ => s.pinPact p 1
  | 2 => s.fireChan i 2 fun s p _ _ => s.pinPact p 2
  | 3 => s.fireChan i 3 fun s p a o => s.pulseStart p a o
  | 4 => s.fireChan i 4 fun s p a o => s.pulseAStart p a o
  | 5 => s.dwellStart i
  | 8 => s.fireChan i 8 fun s p a o => s.srqFire p a o
  | _ => s

/-- What the registers of a channel hold for the pipeline acts, if it is due: first of the actions of a cycle. -/
def State.pipeDue (s : State) (p : Nat) : State :=
  match (s.chan p).act, (s.chan p).pipe with
  | some (.pulse _ _), _ => s.pulseEnd p
  | some (.pulseA _ _ _), _ => s.pulseAEnd p
  | some (.dwell i _ _), _ => (s.spark i).dwellMax p
  | none, none => s
  | none, some i =>
    match s.evt.slots.find? fun o => o.idx == i && o.here with
    | some o => if o.started then s.spark i else s.occFire i o.e.op
    | none => s

/-- The angle or coupled match of microcode is due (R226). -/
def State.maDue (s : State) (p : Nat) : Bool :=
  let x := s.chan p
  !s.dead p && x.maArm && x.pipe.isNone && decide (x.maFrom ≤ s.tb) &&
  (if x.maCpl then
    match s.fixTime x.maA with
    | some f => s.mayFire x.maA f (s.mtLead p)
    | none => false
  else s.ang.valid && s.anglePassed x.maA)

/-- The time match of microcode is due (R33). -/
def State.mtDue (s : State) (p : Nat) : Bool :=
  let x := s.chan p
  !s.dead p && x.mtArm && x.pipe.isNone && decide (x.mtFrom ≤ s.tb) && decide (x.mtT ≤ s.tb + s.mtLead p)

/-- What comes before a microcode time match in one cycle: the pipeline, then the angle match. -/
def State.beforeTime (s : State) (p : Nat) : State :=
  let s := s.pipeDue p
  if s.maDue p then s.maFire p else s

/-- What comes before a command that reaches the channel in one cycle (R36): everything that its registers have due. -/
def State.beforeCmd (s : State) (p : Nat) : State :=
  let s := s.beforeTime p
  if s.mtDue p then s.mtFire p else s

/-! ### The commands -/

/-- TIME_MATCH_FIRE (R33, R230). -/
def execTimeMatchFire (t : Nat) (p : Channel) (s : State) : Out :=
  s.act t (State.tbd 1) fun s =>
    let s := s.beforeTime p
    if s.mtDue p then s.mtFire p else s

/-- ANGLE_MATCH_FIRE (R226, R230). -/
def execAngleMatchFire (t : Nat) (p : Channel) (s : State) : Out :=
  s.act t (State.tbd 1) fun s =>
    let s := s.pipeDue p
    if s.maDue p && !(s.chan p).maCpl then s.maFire p else s

/-- COUPLED_MATCH_FIRE (R226, R230). -/
def execCoupledMatchFire (t : Nat) (p : Channel) (s : State) : Out :=
  s.act t (State.tbd 1) fun s =>
    let s := s.pipeDue p
    if s.maDue p && (s.chan p).maCpl then s.maFire p else s

/-- The pipeline acts on channels: neither its domain nor theirs is held (R11). -/
def evtChan (s : State) : Bool := State.tbd 0 s && s.domOn 1

/-- EVT_WORD_STAGE (R190). -/
def execEvtWordStage (t : Nat) (m : Master) (i : Entry) (w : Fin 3) (v : Word) (s : State) : Out :=
  s.act t (State.core 0) fun s =>
    s.guardedTo m (evtBase + 16 * i.val + 4 * w.val) v.toNat 0xFFFFFFFF fun s => s.evtStage m i w v.toNat

/-- EVT_COMMIT (R190, R192). -/
def execEvtCommit (t : Nat) (m : Master) (i : Entry) (v : Word) (s : State) : Out :=
  s.act t (State.core 0) fun s =>
    s.guardedTo m (evtBase + 16 * i.val + 12) v.toNat 0xFFFFFFFF fun s => s.evtCommit m i v.toNat

/-- EVT_COMMIT_EFFECT (R214). -/
def execEvtCommitEffect (t : Nat) (i : Entry) (s : State) : Out := s.act t (State.tbd 0) fun s => s.evtEffect i

/-- OCCURRENCE_SLOT_ARRIVAL (R203, R204). -/
def execOccurrenceSlotArrival (t : Nat) (i : Entry) (s : State) : Out := s.act t evtChan fun s => s.occArrive i

/-- PIN_SET (R198). -/
def execEvtPinSet (t : Nat) (i : Entry) (s : State) : Out :=
  s.act t evtChan fun s => s.occFire i 1

/-- PIN_CLR (R198). -/
def execEvtPinClr (t : Nat) (i : Entry) (s : State) : Out :=
  s.act t evtChan fun s => s.occFire i 2

/-- PULSE_T (R210). -/
def execEvtPulseT (t : Nat) (i : Entry) (s : State) : Out :=
  s.act t evtChan fun s => s.occFire i 3

/-- PULSE_T_END (R210). -/
def execEvtPulseTEnd (t : Nat) (ch : Channel) (s : State) : Out := s.act t (State.tbd 1) fun s => s.pulseEnd ch

/-- PULSE_A (R211, R199). -/
def execEvtPulseA (t : Nat) (i : Entry) (s : State) : Out :=
  s.act t evtChan fun s => s.occFire i 4

/-- PULSE_A_END (R211). -/
def execEvtPulseAEnd (t : Nat) (ch : Channel) (s : State) : Out := s.act t (State.tbd 1) fun s => s.pulseAEnd ch

/-- DWELL (R212). -/
def execEvtDwell (t : Nat) (i : Entry) (s : State) : Out := s.act t evtChan fun s => s.dwellStart i

/-- DWELL_SPARK (R212). -/
def execEvtDwellSpark (t : Nat) (i : Entry) (s : State) : Out := s.act t evtChan fun s => s.spark i

/-- DWELL_MAX_END (R212). -/
def execEvtDwellMaxEnd (t : Nat) (ch : Channel) (s : State) : Out := s.act t (State.tbd 1) fun s => s.dwellMax ch

/-- SRQ (R234). -/
def execEvtSrq (t : Nat) (i : Entry) (s : State) : Out :=
  s.act t evtChan fun s => s.occFire i 8

/-- CONV_START (R198, R200, R292). -/
def execEvtConvStart (t : Nat) (i : Entry) (s : State) : Out :=
  s.act t (State.tbd 0) fun s =>
    s.fireShared i 0x10
      (fun s tick late o => s.bndSend (o.e.param % 32) { t := tick, late := late, start := some (bits o.e.param 8 4) })
      (fun s o => s.startCancel (o.e.param % 32) (bits o.e.param 8 4))

/-- CONV_WIN (R198, R200). -/
def execEvtConvWin (t : Nat) (i : Entry) (s : State) : Out :=
  s.act t (State.tbd 0) fun s =>
    s.fireShared i 0x11
      (fun s tick late o => s.bndSend (o.e.param % 32)
        { t := tick, idx := o.bnd, stop := bit o.e.param 15 && o.bnd == o.e.lastBnd, late := late })
      (fun s o => s.bndCancel (o.e.param % 32) o.bnd)

/-- EVT_OUT (R198). -/
def execEvtOut (t : Nat) (i : Entry) (s : State) : Out :=
  s.act t (State.tbd 0) fun s => s.fireShared i 0x18 (fun s _ _ o => s.evtOut o) (fun s _ => s)

/-- RUN (R218). -/
def execEvtRun (t : Nat) (m : Master) (s : State) : Out :=
  s.act t (State.core 0) fun s => s.guarded m 0x19 0x44 1 fun s => (s.wr EVT_CTRL_RUN 1).evtStart_

/-- EVT_STOP (R218). -/
def execEvtStop (t : Nat) (m : Master) (s : State) : Out :=
  s.act t (State.core 0) fun s => s.guarded m 0x19 0x44 0 fun s => (s.wr EVT_CTRL_RUN 0).evtStop

end Sys2Proof.Machine
end

