-- ==== Sys2Proof/Machine/Cmu.lean ====
section
/-! DEFINITION. The combustion metrics unit: records, pegging, metrics, closed loops, the volume table (R327 to R352). -/

namespace Sys2Proof.Machine

open Reg

/-! ### Numbers -/

/-- The SRC_ID of context `k` (chapter 12, CYL register map). -/
def srcCyl (k : Nat) : Nat := srcId 2 (0x30 + k / 16) (k % 16)

/-- `a / b` rounded to the nearest, halves away from zero (R327); no value where `b` is 0. -/
def roundDiv (a b : Int) : Option Int :=
  if b = 0 then none
  else
    let n : Int := (2 * a.natAbs + b.natAbs) / (2 * b.natAbs)
    some (if (decide (a < 0)) != (decide (b < 0)) then -n else n)

/-- Grid steps in a cycle (R327, R329). -/
def State.cylN (s : State) (k : Nat) : Nat :=
  match s.rd (CYL_CFG_GRID k) with | 1 => 2880 | 2 => 1440 | 3 => 720 | _ => 360

/-- The grid step in quarter degrees. -/
def State.cylH (s : State) (k : Nat) : Nat :=
  match s.rd (CYL_CFG_GRID k) with | 1 => 1 | 2 => 2 | 3 => 4 | _ => 8

/-- Twice V_q (R333), of a table with `vol` in order. -/
def volAt (vol : List Nat) (g q : Nat) : Nat :=
  match g with
  | 1 => if q % 2 = 0 then 2 * vol.getD (q / 2) 0 else vol.getD (q / 2) 0 + vol.getD ((q + 1) / 2 % 1440) 0
  | 2 => 2 * vol.getD q 0
  | 3 => 2 * vol.getD (2 * q) 0
  | _ => 2 * vol.getD (4 * q) 0

/-- Context `k` is enabled. -/
def State.cylOn (s : State) (k : Nat) : Bool := s.on (PG_CTRL_EN (cylPage k)) && !s.pageCrimson (cylPage k) && !s.pageCrimson 0x88

/-- The place of a signed grid step in the record's order, which ends at q_c = N/4 − 1 (R329). -/
def State.cylPlace (s : State) (k : Nat) (q : Int) : Nat := (q + 3 * (s.cylN k / 4 : Nat)).toNat

/-- A value as published in 32 bits (R327). Where the spec gives no value to a VALID metric, or the value has no place in the
format, it is free (assumption log 20). -/
def State.pub (s : State) (valid : Bool) (v : Option Int) : Nat × State :=
  match v with
  | some x =>
    if -(2 ^ 31 : Int) ≤ x ∧ x < 2 ^ 31 then (ofS 32 x, s)
    else
      let (n, s) := s.free
      (n % 2 ^ 32, s)
  | none =>
    if valid then
      let (n, s) := s.free
      (n % 2 ^ 32, s)
    else (0, s)

/-! ### Samples in order, with gaps filled (R330) -/

/-- The scaled values by place, from place `o` on, of samples oldest first; a gap where none is usable. -/
def laid (scale : Nat) : Nat → Nat → List Smp → List (Option Int)
  | _, 0, _ => []
  | o, n + 1, [] => none :: laid scale (o + 1) n []
  | o, n + 1, x :: r =>
    if x.o = o then (if x.valid then some (840 * x.v * scale) else none) :: laid scale (o + 1) n r
    else none :: laid scale (o + 1) n (x :: r)

/-- Runs of at most `inv` gaps between usable values filled by linear interpolation; values are multiples of 840, so that
every division by up to 8 is exact. -/
def filled (inv : Nat) : Option Int → Nat → List (Option Int) → List (Option Int)
  | _, run, [] => List.replicate run none
  | a, run, none :: r => filled inv a (run + 1) r
  | a, run, some v :: r =>
    (match a with
      | some u =>
        if run ≤ inv then
          (List.range run).map fun j => some ((u * ((run - j : Nat) : Int) + v * ((j + 1 : Nat) : Int)) / ((run + 1 : Nat) : Int))
        else List.replicate run none
      | none => List.replicate run none) ++ some v :: filled inv (some v) 0 r

/-- Σ p_q · (V_(q+1) − V_q) over usable samples (R336). -/
def imepSum : List (Option Int) → List Nat → Int
  | some p :: r, a :: b :: w => p * ((b : Int) - a) + imepSum r (b :: w)
  | none :: r, _ :: b :: w => imepSum r (b :: w)
  | _, _ => 0

/-- The largest value and the index of the first sample that reaches it (R336). -/
def peakOf : Nat → List (Option Int) → Option (Int × Nat)
  | _, [] => none
  | i, none :: r => peakOf (i + 1) r
  | i, some p :: r =>
    match peakOf (i + 1) r with
    | some (m, j) => if p < m then some (m, j) else some (p, i)
    | none => some (p, i)

/-- The largest difference of neighbours (R336). -/
def riseOf : List (Option Int) → Option Int
  | some a :: some b :: r =>
    match riseOf (some b :: r) with
    | some m => some (max m (b - a))
    | none => some (b - a)
  | _ :: r => riseOf r
  | [] => none

/-- The running sum of R337 over samples with four times their Vc, in its own unit; a pair with a gap adds nothing. -/
def heatRun (g : Int) : Int → List (Option Int × Nat) → List Int
  | acc, (some a, va) :: (some b, vb) :: r =>
    let acc' := acc + g * (a + b) * ((vb : Int) - va) + 16384 * ((vb : Int) + va) * (b - a)
    acc :: heatRun g acc' ((some b, vb) :: r)
  | acc, _ :: r => acc :: heatRun g acc r
  | _, [] => []

/-- The first index of the largest value. -/
def maxIdx : List Int → Nat
  | [] => 0
  | l => (l.idxOf? (l.foldl max (l.headD 0))).getD 0

/-- MFBx in AU from the running sum (R337): `lo` is HR_LO, `h` the grid step in quarter degrees. -/
def mfbOf (qs : List Int) (iS iE : Nat) (lo : Int) (h x : Nat) : Option Int :=
  let qa := qs.getD iS 0
  let qe := qs.getD iE 0
  let l := 100 * qa + x * (qe - qa)
  match (List.range qs.length).find? fun i => decide (iS < i) && decide (l ≤ 100 * qs.getD i 0) with
  | none => none
  | some i =>
    let a := qs.getD (i - 1) 0
    let den := qs.getD i 0 - a
    roundDiv (((2 * (lo + i) - 1) * 100 * den + 2 * (l - 100 * a)) * h * 2 ^ 24) (200 * den * 2880)

/-! ### The metrics of a record (R336 to R339) -/

/-- The metrics of a record as published, and which are VALID. -/
structure CylMet where
  impN : Nat
  impG : Nat
  pmax : Nat
  pmaxA : Nat
  mfb10 : Nat
  mfb50 : Nat
  mfb90 : Nat
  dpmax : Nat
  hr : Nat
  vN : Bool
  vG : Bool
  vP : Bool
  vM : Bool
  vD : Bool
  misfire : Bool
  deriving DecidableEq, Repr

/-- The volume table in force, in order. -/
def State.volList (s : State) : List Nat := (List.range 1440).map fun i => tget 0 s.cmu.vol i

/-- A stretch of samples has no gap. -/
def noGap (l : List (Option Int)) : Bool := l.all Option.isSome

/-- The metrics of a record of context `k`, at a scale, γ and misfire limit. -/
def State.metrics (s : State) (k : Nat) (r : CylRec) (scale gam hrMin : Nat) : CylMet × State :=
  let n := s.cylN k
  let h := s.cylH k
  let g := s.rd (CYL_CFG_GRID k)
  let vol := s.volList
  let v2 := (List.range (n + 1)).map fun o => volAt vol g ((o + n / 4) % n)
  let ps := filled (s.rd (CYL_CFG_INV_MAX k)) none 0 (laid scale 0 n r.smps.reverse)
  let vd : Int := s.rd CMU_VD_VD
  let unit : Int := 840 * 2 ^ 8
  let pegged := r.peg == .ok || r.peg == .old
  let imep (d : Nat) : Option Int := if (ps.drop d).all Option.isNone then none
    else roundDiv (imepSum (ps.drop d) (v2.drop d)) (2 * unit * vd)
  let oA := s.cylPlace k (toS 16 (s.rd (CYL_WIN_ANA_LO k)))
  let pa := ps.drop oA
  let qa := toS 16 (s.rd (CYL_WIN_ANA_LO k))
  let lo := toS 16 (s.rd (CYL_HRW_HR_LO k))
  let hi := toS 16 (s.rd (CYL_HRW_HR_HI k))
  let oL := s.cylPlace k lo
  let len := (hi - lo).toNat
  let ph := (ps.drop oL).take len
  let vc := (List.range len).map fun i => v2.getD (oL + i) 0 + v2.getD (oL + i + 1) 0
  let d : Int := (gam : Int) - 16384
  let qs := (heatRun gam 0 ((ph.map fun p => p.map (· + r.ofs * unit)).zip vc)).map fun q => if d < 0 then -q else q
  let iE := maxIdx qs
  let iS := maxIdx ((qs.take (iE + 1)).map fun q => -q)
  let hrV := if ph.all Option.isNone then none
    else roundDiv (qs.getD iE 0 - qs.getD iS 0) (8 * d.natAbs * (2 ^ 24 * 840 * 1000000 : Int))
  let vP := noGap pa && pegged
  let vH := noGap ph && pegged
  let vN := noGap ps
  let vG := noGap (ps.drop (n / 2))
  let vD := noGap (pa.drop 1)
  let (impN, s) := s.pub vN (imep 0)
  let (impG, s) := s.pub vG (imep (n / 2))
  let pk := peakOf 0 pa
  let (pmax, s) := s.pub vP (pk.bind fun x => roundDiv (x.1 + r.ofs * unit) unit)
  let (pmaxA, s) := s.pub vP (pk.bind fun x => roundDiv ((2 * (qa + x.2) + 1) * h * 2 ^ 24) 5760)
  let (dpmax, s) := s.pub vD ((riseOf pa).bind fun x => roundDiv (4 * x) (unit * h))
  let (hr, s) := s.pub vH hrV
  let miss := decide (toS 32 hr < toS 32 hrMin)
  let vM := vH && !miss
  let mfb (x : Nat) : Option Int := if d = 0 ∨ hrV = none then none else mfbOf qs iS iE lo h x
  let (m10, s) := s.pub vM (mfb 10)
  let (m50, s) := s.pub vM (mfb 50)
  let (m90, s) := s.pub vM (mfb 90)
  ({ impN := impN, impG := impG, pmax := pmax, pmaxA := pmaxA, mfb10 := m10, mfb50 := m50, mfb90 := m90, dpmax := dpmax,
     hr := hr, vN := vN, vG := vG, vP := vP, vM := vM, vD := vD, misfire := miss }, s)

/-! ### Records (R328 to R331) -/

/-- The MAC pipeline cycles of a close (R340). -/
def State.closeCost (s : State) (k : Nat) : Nat :=
  500 + 12 * (((s.cylN k / 4 : Nat) : Int) - toS 16 (s.rd (CYL_WIN_ANA_LO k))).toNat

/-- The open record of a context closes at place `last`; the next one starts after it (R329). -/
def State.cylClose (s : State) (k last : Nat) : State :=
  match (s.cyl k).open_ with
  | none => s
  | some r =>
    let s := if r.peg == .none_ then s.iflag (cylPage k) 6 else s
    let r := { r with
      last := last, gamma := s.rd (CYL_GAMMA_GAMMA k), cyc := s.rd EVT_CYC_CNT_COUNT % 65536, t := s.tb
      prev := (s.cyl k).lastClose }
    let s := s.modCyl k fun x => { x with
      open_ := none, next := some ((last + 1) % s.cylN k), last := some r, lastClose := some s.tb }
    let s := s.macStart
    { s with cmu := { s.cmu with closeQ := s.cmu.closeQ ++ [(k, r)], left := s.cmu.left ++ [s.closeCost k] } }

/-- The record that the sample at place `o` belongs to, opened where none is open; a sample beyond q_c in the open record's
order closes that record first (R329). -/
def State.cylOpenFor (s : State) (k o : Nat) : State :=
  let passed := match (s.cyl k).open_ with
    | some r => (match r.smps with | x :: _ => decide (o ≤ x.o) | [] => false)
    | none => false
  let s := if passed then s.cylClose k (s.cylN k - 1) else s
  match (s.cyl k).open_ with
  | some _ => s
  | none =>
    let next := (s.cyl k).next
    let first := match next with | some f => if f ≤ o then f else 0 | none => o
    s.modCyl k fun x => { x with
      recs := x.recs + 1
      open_ := some {
        n := x.recs + 1, first := first, inc := next.isNone, scale := s.rd (CYL_SCALE_SCALE k),
        hrMin := s.rd (CYL_HR_MIN_MIN k), knkLim := s.rd (CYL_KNK_LIM_LIM k) } }

/-- A sample of the context arrives (R328, R336, R349). -/
def State.cylSample (s : State) (k : Nat) (it : CmuIn) : State :=
  let n := s.cylN k
  if it.bidx = 0xFFF ∨ n ≤ it.bidx then (s.inc CMU_CNT_STRAY).iflag 0x88 3
  else
    let q := (s.rd (CYL_WIN_B0 k) + it.bidx + n - 1) % n
    let o := (q + 3 * (n / 4)) % n
    let s := s.cylOpenFor k o
    let x : Smp := { o := o, v := it.v, valid := it.valid, settle := it.settle, cause := it.cause, t := it.t }
    let oA := s.cylPlace k (toS 16 (s.rd (CYL_WIN_ANA_LO k)))
    let word := it.cause % 16 * 2 ^ 28 + it.settle % 4 * 2 ^ 25 + b2n it.valid * 2 ^ 24 + ofS 24 it.v
    let s := s.modCyl k fun c =>
      match c.open_ with
      | none => c
      | some r => { c with
          open_ := some { r with smps := x :: r.smps }
          pegS := if it.valid && (c.pegOpen.isSome || c.marks ≠ []) then (it.t, it.v * r.scale) :: c.pegS else c.pegS
          buf := if oA ≤ o then tput (0, 0) c.buf (o - oA) (r.n, word) else c.buf }
    if o = n - 1 then s.cylClose k o else s

/-! ### Results on their way (R328, R335, R338) -/

/-- The enabled context that takes a result as its sample. -/
def State.cylOf (s : State) (it : CmuIn) : Option Nat :=
  (List.range 24).find? fun k => s.cylOn k && s.rd (CYL_CFG_CBC k) == it.x && s.rd (CYL_CFG_ENT k) == it.e

/-- The enabled contexts that take a result as their knock result. -/
def State.knockOf (s : State) (it : CmuIn) : List Nat :=
  (List.range 24).filter fun k =>
    s.cylOn k && s.on (CYL_CFG_KNK_EN k) && s.rd (CYL_CFG_CBC k) == it.x && s.rd (CYL_CFG_KNK_ENT k) == it.e

/-- A pegging window is open or a mark is on its way. -/
def State.pegging (s : State) : Bool :=
  s.cyls.any fun (e : Nat × CylS) => e.2.pegOpen.isSome || e.2.marks ≠ []

/-- What a result is beside a sample: a manifold result, and knock results. -/
def State.cmuSide (s : State) (it : CmuIn) : State :=
  let isMap := s.on CMU_MAP_SRC_EN && s.rd CMU_MAP_SRC_CBC == it.x && s.rd CMU_MAP_SRC_ENT == it.e && it.valid && s.pegging
  let s := if isMap then { s with cmu := { s.cmu with map := (it.t, it.v) :: s.cmu.map } } else s
  (s.knockOf it).foldl
    (fun s k => s.modCyl k fun c => { c with
      open_ := c.open_.map fun r => { r with knk := some ((it.v % 2 ^ 24).toNat, it.valid) } })
    s

/-- Results that are no context's sample are taken, each after the samples of the contexts it concerns. -/
def State.cmuAbsorb (s : State) : State :=
  let r := s.cmuIn.foldl
    (fun (a : State × List CmuIn) it =>
      let (s, kept) := a
      if (s.cylOf it).isSome || kept.any (fun y => (s.knockOf it).any fun k => s.cylOf y == some k) then (s, kept ++ [it])
      else (s.cmuSide it, kept))
    (s, [])
  { r.1 with cmuIn := r.2 }

/-- The next sample of context `k` is taken, with the 8 pipeline cycles of its streaming (R340); where class 0 is granted none, it
waits (R52, R54). -/
def State.cmuTake (s : State) (k : Nat) : State :=
  let s := s.macSettle.cmuAbsorb
  match s.cmuIn.find? fun it => s.cylOf it == some k with
  | none => s
  | some it =>
    if !s.grantable 60 8 then s.waitBudget 60
    else
      let s := (s.useBudget 60 8).macBusy 8
      (({ s with cmuIn := s.cmuIn.erase it }).cmuSide it |>.cylSample k it).cmuAbsorb

/-! ### Marks and pegging (R332, R335) -/

/-- A CMU_MARK fires, or is reported cancelled: the mark goes to its context, or is ignored and counted. -/
def State.cmuMark (s : State) (param tick : Nat) (can : Bool) : State :=
  let k := param % 32
  let code := bits param 5 3
  if 2 < code ∨ 24 ≤ k ∨ !s.cylOn k then (if can then s else (s.inc CMU_CNT_MARK_ERR).iflag 0x88 4)
  else if can && code == 2 then s
  else s.modCyl k fun c => { c with marks := c.marks ++ [(code, tick, can)] }

/-- The mark of a context that comes next, if it has code `code`, taken. -/
def State.takeMark (s : State) (k code : Nat) (f : State → Nat → Bool → State) : State :=
  match (s.cyl k).marks with
  | [] => s
  | (c, t, can) :: rest => if c = code then f (s.modCyl k fun x => { x with marks := rest }) t can else s

/-- Manifold results are kept only while a window needs them. -/
def State.mapPrune (s : State) : State := if s.pegging then s else { s with cmu := { s.cmu with map := [] } }

/-- PEG_OPEN (R335). -/
def State.pegBegin (s : State) (k : Nat) : State :=
  s.takeMark k 0 fun s t can => s.modCyl k fun x => { x with pegOpen := some t, pegBad := can }

/-- Pegging's outcome for the open record. -/
def State.pegSet (s : State) (k : Nat) (p : PegR) (n : Nat) : State :=
  let s := if p == .failed then s.iflag (cylPage k) 6 else s
  let ofs := toS 32 (s.rd (CYL_PEG_OFS_W k))
  s.modCyl k fun x => { x with
    pegOpen := none, pegBad := false, pegS := []
    open_ := x.open_.map fun r => { r with peg := p, pegN := n, ofs := ofs } }

/-- The samples of a context that count in a window: those taken, and those on their way. -/
def State.pegSamples (s : State) (k t0 t1 : Nat) : List Int :=
  let c := s.cyl k
  let scale := match c.open_ with | some r => r.scale | none => s.rd (CYL_SCALE_SCALE k)
  let wait := (s.cmuIn.filter fun it => s.cylOf it == some k && it.valid && decide (it.bidx < s.cylN k)).map fun (it : CmuIn) =>
    (it.t, it.v * (scale : Int))
  ((c.pegS ++ wait).filter fun (e : Nat × Int) => decide (t0 < e.1) && decide (e.1 ≤ t1)).map (·.2)

/-- PEG_CLOSE (R335). -/
def State.pegEnd (s : State) (k : Nat) : State :=
  let s := s.cmuAbsorb
  (s.takeMark k 1 fun s t can =>
    let c := s.cyl k
    let ms := match c.pegOpen with
      | some t0 => (s.cmu.map.filter fun (e : Nat × Int) => decide (t0 < e.1) && decide (e.1 ≤ t)).map (·.2)
      | none => []
    let ps := match c.pegOpen with | some t0 => s.pegSamples k t0 t | none => []
    if can || c.pegBad then s.pegSet k .failed (satN 8 ms.length)
    else if ms ≠ [] ∧ ps ≠ [] then
      let zero := toS 24 (s.rd CMU_MAP_ZERO_ZERO)
      let sm := (ms.map fun m => (m - zero) * (s.rd CMU_MAP_SCALE_SCALE : Int)).sum
      let (w, s) := s.pub true
        (roundDiv (sm * ps.length - ps.sum * ms.length) (ms.length * ps.length * 2 ^ 8 : Int))
      ((s.wr (CYL_PEG_OFS_W k) w).modCyl k fun x => { x with pegAge := 0 }).pegSet k .ok (satN 8 ms.length)
    else if c.pegAge < s.rd (CYL_CFG_PEG_HOLD k) then
      (s.modCyl k fun x => { x with pegAge := x.pegAge + 1 }).pegSet k .old (satN 8 ms.length)
    else s.pegSet k .failed (satN 8 ms.length)).mapPrune

/-- CLOSE (R329, R332): the open record closes after its newest sample. -/
def State.cmuCloseMark (s : State) (k : Nat) : State :=
  s.cmuAbsorb.takeMark k 2 fun s _ _ =>
    match (s.cyl k).open_ with
    | some r => (match r.smps with | x :: _ => s.cylClose k x.o | [] => s)
    | none => s

/-! ### Closed loops (R343 to R346) -/

/-- The word a loop writes, as it stands now; LAST where it writes none (assumption log 21). -/
def State.loopWord (s : State) (tm : Bool) (k : Nat) : Nat :=
  match s.loopDst tm k with
  | some (p, n) => s.rd (paramField p n)
  | none => s.rd (loopLast tm k)

/-- I, OUT and LAST take the word's current value (R345). -/
def State.loopBase (s : State) (tm : Bool) (k : Nat) : State :=
  let w := s.loopWord tm k
  (((s.trimDrop k tm).wr (loopI tm k) w).wr (loopOut tm k) w).wr (loopLast tm k) w

/-- Where a trim that becomes ready now is written (R346). -/
def State.trimPlan (s : State) (k : Nat) : TrimAt :=
  let o := s.ang
  if !o.valid || !o.hasRec then .now
  else
    let M := s.evtM
    let a := o.ang % M
    let soi := s.rd (CYL_SOI_A_ANGLE k) % M
    let w := subMod M (s.rd (CYL_EOI_A_ANGLE k)) soi
    if inSpan M soi w a then .wait
    else
      let d := subMod M soi a
      let d := if d = 0 then M else d
      if (16 * (s.tb + 1200000) : Nat) ≤ s.posTime (s.evtG + d) then .now else .late (s.evtG + d + w)

/-- A write that takes effect one cycle late (R346). -/
def State.trimLate (s : State) (k : Nat) : State :=
  ((s.wr (CYL_STATUS_RESULT_LATE k) 1).inc (CYL_LOOP_CNT_LATE k)).iflag (cylPage k) 3

/-- A trim goes to its word now, or is held there (R346, R235). -/
def State.trimGo (s : State) (k : Nat) (tm : Bool) : State :=
  match s.loopDst tm k with
  | none => s.trimDrop k tm
  | some (p, n) =>
    let s := s.modCyl k fun x => x.setTrim tm ((x.trim tm).map fun q => { q with at_ := .held })
    s.paramWrite p { word := n, v := s.rd (loopOut tm k), cmu := some (k, tm) }

/-- A scheduled write at its instant (R346). -/
def State.trimRun (s : State) (k : Nat) (tm : Bool) : State :=
  match (s.cyl k).trim tm with
  | none => s
  | some q =>
    match q.at_ with
    | .now => s.trimGo k tm
    | .held => s
    | .late p => if p ≤ s.evtG then s.trimGo k tm else s
    | .wait =>
      match s.trimPlan k with
      | .wait => s
      | .late p => (s.modCyl k fun x => x.setTrim tm (some { q with at_ := .late p })).trimLate k
      | _ => s.trimGo k tm

/-- A clamp, counted where it changes the value (R345). -/
def State.loopClamp (s : State) (k : Nat) (lo hi v : Int) : Int × State :=
  let c := clampI lo hi v
  (c, if c = v then s else s.inc (CYL_LOOP_CNT_CLAMP k))

/-- An update of a loop with error `e` (R345). -/
def State.loopUpdate (s : State) (tm : Bool) (k : Nat) (e : Int) : State :=
  let w := s.loopWord tm k
  if w ≠ s.rd (loopLast tm k) then
    let s := (s.loopBase tm k).wr (if tm then CYL_STATUS_REBASE_A k else CYL_STATUS_REBASE_Q k) 1
    (s.inc (CYL_LOOP_CNT_REBASE k)).iflag (cylPage k) 4
  else
    let i0 := s.rd (loopI tm k)
    let out0 := s.rd (loopOut tm k)
    let last := toS 32 (s.rd (loopLast tm k))
    let kp : Int := s.rd (if tm then CYL_A_GAIN_KP k else CYL_Q_GAIN_KP k)
    let ki : Int := s.rd (if tm then CYL_A_GAIN_KI k else CYL_Q_GAIN_KI k)
    let lim : Int := s.rd (if tm then CYL_A_LIM_LIM k else CYL_Q_LIM_LIM k)
    let step : Int := s.rd (if tm then CYL_A_STEP_STEP k else CYL_Q_LIM_STEP k)
    let s := s.trimDrop k tm
    let (i, s) := s.loopClamp k (-lim) lim (toS 32 i0 + (roundDiv (ki * e) 256).getD 0)
    let pr := (roundDiv (kp * e) 256).getD 0
    let (pw, s) := s.pub true (some pr)
    let s := s.wr (if tm then CYL_A_P_W k else CYL_Q_P_W k) pw
    let (o, s) := s.loopClamp k (-lim) lim (i + pr)
    let (o, s) := s.loopClamp k (last - step) (last + step) o
    let s := (s.wr (loopI tm k) (ofS 32 i)).wr (loopOut tm k) (ofS 32 o)
    match s.loopDst tm k with
    | none => s
    | some _ =>
      let at_ := s.trimPlan k
      let s := s.modCyl k fun x => x.setTrim tm (some { at_ := at_, i0 := i0, out0 := out0 })
      match at_ with
      | .late _ => s.trimLate k
      | _ => s

/-- The reference of the quantity loop of context `k` at the ready of a record, as a fraction (R344). -/
def State.loopRef (s : State) (k : Nat) (r : CylRec) : Option (Int × Nat) × State :=
  if s.on CMU_CMU_CFG_BAL_MODE then (some (toS 32 (s.rd CMU_IMEP_TGT_TGT), 1), s)
  else
    let vs := (List.range 24).filterMap fun j =>
      let c := s.cyl j
      match (if s.on CMU_CMU_CFG_BAL_SRC then c.imepG else c.imepN) with
      | none => none
      | some (t, v) =>
        if s.on (CYL_LOOP_EN_EN_Q j) && !s.on (CYL_LOOP_EN_VETO j) &&
            (j == k || (match r.prev with | some p => decide (p < t) | none => true)) then some v
        else none
    if vs.length < max 2 (s.rd CMU_CMU_CFG_MIN_MEMB) then (none, s)
    else
      let (w, s) := s.pub true (roundDiv vs.sum vs.length)
      (some (vs.sum, vs.length), s.wr CMU_GROUP_MEAN_MEAN w)

/-- The quantity loop at the ready of a record (R343, R344). -/
def State.loopQ (s : State) (k : Nat) (r : CylRec) (m : CylMet) : State :=
  let g := s.on CMU_CMU_CFG_BAL_SRC
  if !(if g then m.vG else m.vN) then s
  else
    match s.loopRef k r with
    | (none, s) => s
    | (some (num, den), s) =>
      let imep := toS 32 (if g then m.impG else m.impN)
      let (w, s) := s.pub true (roundDiv ((num - imep * den) * 65536) num)
      let s := s.wr (CYL_Q_ERR_W k) w
      if s.on (CYL_LOOP_EN_EN_Q k) && !s.on (CYL_LOOP_EN_VETO k) && !s.on CMU_LOOP_CTRL_FRZ_Q && !m.misfire &&
          decide (0 < num) then s.loopUpdate false k (toS 32 w)
      else s

/-- The timing loop at the ready of a record (R343, R344). -/
def State.loopA (s : State) (k : Nat) (m : CylMet) : State :=
  if !m.vM then s
  else
    let e := toS 24 (s.rd (CYL_MFB_TGT_TGT k)) - toS 32 m.mfb50
    let (w, s) := s.pub true (some e)
    let s := s.wr (CYL_A_ERR_W k) w
    if s.on (CYL_LOOP_EN_EN_A k) && !s.on (CYL_LOOP_EN_VETO k) && !s.on CMU_LOOP_CTRL_FRZ_A && !m.misfire then
      s.loopUpdate true k (toS 32 w)
    else s

/-! ### A record becomes ready (R340, R342) -/

/-- STATUS bits 7:0 of a record. -/
def validBits (m : CylMet) (knk peg : Bool) : Nat :=
  b2n m.vN + 2 * b2n m.vG + 4 * b2n m.vP + 8 * b2n m.vM + 16 * b2n m.vD + 32 * b2n knk + 64 * b2n peg

/-- The words of a mailbox record (R342); `hi` is STATUS bits 15:8, `rc` marks a recompute. -/
def recWords (k cyc hi : Nat) (rc : Bool) (m : CylMet) (knock valid ready qOut aOut : Nat) : List Nat :=
  [cyc % 65536 * 65536 + hi % 256 * 256 + b2n rc * 128 + k % 32, m.impN, m.impG, m.pmax, m.pmaxA, m.mfb10, m.mfb50, m.mfb90,
   m.dpmax, knock, valid % 256 * 65536 + ready % 65536, qOut / 65536 * 65536 + aOut % 65536]

/-- The record that waits is appended to its queue, RESULT_LATE as it stands (R342). -/
def State.cylPost (s : State) (k : Nat) : State :=
  match (s.cyl k).post with
  | none => s
  | some (_, ws) =>
    let s := s.modCyl k fun x => { x with post := none }
    let ws := match ws with
      | w :: r => putBit w 15 (s.on (CYL_STATUS_RESULT_LATE k)) :: r
      | [] => []
    s.mbqAppend (s.rd CMU_CMU_CFG_PORT) (s.rd CMU_CMU_CFG_QUEUE) ws

/-- The metrics and STATUS written to the page (R339, R340, R352). -/
def State.cylShow (s : State) (k : Nat) (r : CylRec) (m : CylMet) : State :=
  let ken := s.on (CYL_CFG_KNK_EN k)
  let kv := if ken then (match r.knk with | some (v, _) => v | none => 0) else 0
  let kOk := ken && (match r.knk with | some (_, b) => b | none => false)
  let over_ := ken && decide (r.knkLim < kv)
  let s := ((((s.wr (CYL_IMEP_N_W k) m.impN).wr (CYL_IMEP_G_W k) m.impG).wr (CYL_PMAX_W k) m.pmax).wr (CYL_PMAX_A_W k) m.pmaxA).wr
    (CYL_MFB10_W k) m.mfb10
  let s := ((((s.wr (CYL_MFB50_W k) m.mfb50).wr (CYL_MFB90_W k) m.mfb90).wr (CYL_DPMAX_W k) m.dpmax).wr (CYL_KNOCK_W k) kv).wr
    (CYL_HR_TOT_W k) m.hr
  let s := ((((s.wr (CYL_STATUS_CYC k) r.cyc).wr (CYL_STATUS_RESULT_LATE k) 0).wr (CYL_STATUS_REBASE_A k) 0).wr
    (CYL_STATUS_REBASE_Q k) 0).wr (CYL_STATUS_PEG_OLD k) (b2n (r.peg == .old))
  let s := (((s.wr (CYL_STATUS_MISFIRE k) (b2n m.misfire)).wr (CYL_STATUS_INCOMPLETE k) (b2n r.inc)).wr (CYL_STATUS_KNK_OVER k)
    (b2n over_)).wr (CYL_STATUS_VALID k) (validBits m kOk (r.peg == .ok))
  let gaps := (r.last + 1 - r.first) - (r.smps.filter (·.valid)).length
  let s := (s.wr (CYL_REC_INFO_PEG_N k) r.pegN).wr (CYL_REC_INFO_INV_CNT k) (satN 8 gaps)
  let s := s.iflag (cylPage k) 0
  let s := if m.vN && m.vG && m.vP && m.vM && m.vD && (kOk || !ken) then s else s.iflag (cylPage k) 1
  let s := if m.misfire then s.iflag (cylPage k) 2 else s
  if over_ then s.iflag (cylPage k) 5 else s

/-- The time from close to ready (R340). -/
def State.cylReadyT (s : State) (k : Nat) (r : CylRec) : State :=
  let d := s.tb - r.t
  let us := d / 400
  let (us, s) := if us < 65536 then (us, s) else
    let (n, s) := s.free
    (n % 65536, s)
  let s := s.wr (CYL_REC_INFO_READY_T k) us
  let s := if s.rd CMU_RDY_MAX_US < us then s.wr CMU_RDY_MAX_US us else s
  if 800000 < d then (s.inc CMU_CNT_RDY_LATE).iflag 0x88 2 else s

/-- The close computation at the head of the queue completes, if it is of context `k` and the pipeline has done its cycles
(R340). -/
def State.cmuReady (s : State) (k : Nat) : State :=
  let s := s.macSettle
  match s.cmu.closeQ with
  | [] => s
  | (k', r) :: rest =>
    if k' ≠ k ∨ 0 < s.cmu.left.headD 0 then s
    else
      let s := { s with cmu := { s.cmu with closeQ := rest, left := s.cmu.left.tail } }
      let s := s.cylPost k
      let (m, s) := s.metrics k r r.scale r.gamma r.hrMin
      let s := (s.cylShow k r m).cylReadyT k r
      let s := s.modCyl k fun x => { x with
        imepN := if m.vN then some (r.t, toS 32 m.impN) else x.imepN
        imepG := if m.vG then some (r.t, toS 32 m.impG) else x.imepG }
      let s := (s.loopQ k r m).loopA k m
      if s.on CMU_CMU_CFG_REC_EN then
        let hi := 64 * s.rd (CYL_STATUS_REBASE_A k) + 32 * s.rd (CYL_STATUS_REBASE_Q k) + 16 * s.rd (CYL_STATUS_PEG_OLD k) +
          8 * s.rd (CYL_STATUS_MISFIRE k) + 4 * s.rd (CYL_STATUS_INCOMPLETE k) + 2 * s.rd (CYL_STATUS_KNK_OVER k)
        let ws := recWords k r.cyc hi false m (s.rd (CYL_KNOCK_W k)) (s.rd (CYL_STATUS_VALID k))
          (s.rd (CYL_REC_INFO_READY_T k)) (s.rd (CYL_Q_OUT_W k)) (s.rd (CYL_A_OUT_W k))
        let now := s.tb
        s.modCyl k fun x => { x with post := some (now, ws) }
      else s

/-- RESULT_LATE of the last record is known, or its 2 ms are over (R342). -/
def State.postDue (s : State) (k : Nat) : Bool :=
  let c := s.cyl k
  let waits (q : Option Trim) : Bool := match q with | some q => q.at_ == .wait | none => false
  match c.post with
  | some (t, _) => !(waits c.trimQ || waits c.trimA) || decide (t + 800000 ≤ s.tb)
  | none => false

/-! ### The volume table (R334) -/

/-- The first shadow entry that is 0. -/
def State.volBad (s : State) : Option Nat := (List.range 1440).find? fun i => tget 0 s.cmu.shadow i == 0

/-- VOL_CTRL.COMMIT (R334). The spec does not state the pipeline cycles that the preparation takes, only that a class-1 floor of
200 a frame does it within 5 ms: a free value of at most 50,000 (DESIGN CHOICE, assumption log 88). -/
def State.volCheck (s : State) : State :=
  match s.volBad with
  | some i => (s.setBits CMU_VOL_STAT_REFUSED 1).wr CMU_VOL_STAT_REF_IDX i
  | none =>
    if s.rd CMU_VD_VD = 0 then s.setBits CMU_VOL_STAT_REFUSED 1
    else
      let s := s.macStart
      let (n, s) := s.free
      ({ s with cmu := { s.cmu with pend := some s.cmu.shadow, volLeft := n % 50001 } } : State).wr CMU_VOL_STAT_PENDING 1

/-- The new table, prepared, takes effect when no close is being computed (R334). -/
def State.volTake (s : State) : State :=
  let s := s.macSettle
  match s.cmu.pend with
  | none => s
  | some v =>
    if s.cmu.closeQ ≠ [] ∨ 0 < s.cmu.volLeft then s
    else
      let s := { s with cmu := { s.cmu with vol := v, pend := none } }
      let s := (List.range 24).foldl State.recordDrop s
      ((s.wr CMU_VOL_STAT_PENDING 0).wr CMU_VOL_STAT_VALID 1).iflag 0x88 0

/-- A step of VOL_CTRL.IDX. -/
def State.volStep (s : State) : State := s.wr CMU_VOL_CTRL_IDX (s.rd CMU_VOL_CTRL_IDX + 1)

/-- What a read of VOL_DATA returns (R334). -/
def State.volView (s : State) : Nat := tget 0 s.cmu.vol (s.rd CMU_VOL_CTRL_IDX)

/-- A write of VOL_DATA (R334). -/
def State.volWrite (s : State) (v : Nat) : State :=
  let i := s.rd CMU_VOL_CTRL_IDX
  (if i < 1440 then { s with cmu := { s.cmu with shadow := tput 0 s.cmu.shadow i v } } else s).volStep

/-! ### The sample buffer and recomputes (R347, R349) -/

/-- What a read of SBUF_DATA returns (R349). -/
def State.sbufView (s : State) : Nat :=
  let k := s.rd CMU_SBUF_SEL_CYL
  if 24 ≤ k then 0
  else
    let c := s.cyl k
    match tget (0, 0) c.buf (s.rd CMU_SBUF_SEL_IDX) with
    | (n, w) => w + (match c.last with | some r => if r.n ≤ n then 2 ^ 27 else 0 | none => 0)

/-- A read of SBUF_DATA steps IDX. -/
def State.sbufStep (s : State) : State := s.wr CMU_SBUF_SEL_IDX (s.rd CMU_SBUF_SEL_IDX + 1)

/-- RC_CTRL.REQ (R347). The spec does not state a recompute's pipeline cycles: a free value (DESIGN CHOICE, assumption log 88). -/
def State.rcBegin (s : State) (k : Nat) : State :=
  match (if k < 24 then (s.cyl k).last else none) with
  | none => ({ s with cmu := { s.cmu with rc := none, rcLeft := 0 } } : State).wr CMU_RC_STAT_RESULT 4
  | some r =>
    let s := s.macStart
    let (n, s) := s.free
    ({ s with cmu := { s.cmu with rc := some (k, r), rcLeft := n % 2 ^ 16 } } : State).wr CMU_RC_STAT_RESULT 1

/-- A recompute ends (R347). -/
def State.rcEnd (s : State) : State :=
  let s := s.macSettle
  match s.cmu.rc with
  | none => s
  | some (k, r) =>
    if 0 < s.cmu.rcLeft then s
    else
    let s := { s with cmu := { s.cmu with rc := none } }
    if (s.cyl k).buf.any fun (e : Nat × Nat × Nat) => decide (r.n < e.2.1) then s.wr CMU_RC_STAT_RESULT 3
    else
      let (m, s) := s.metrics k r (s.rd (CYL_SCALE_SCALE k)) (s.rd (CYL_GAMMA_GAMMA k)) (s.rd (CYL_HR_MIN_MIN k))
      let old := s.rd (CYL_STATUS_VALID k)
      let m := { m with impN := s.rd (CYL_IMEP_N_W k), impG := s.rd (CYL_IMEP_G_W k), vN := bit old 0, vG := bit old 1 }
      let hi := 128 * s.rd (CYL_STATUS_RESULT_LATE k) + 64 * s.rd (CYL_STATUS_REBASE_A k) +
        32 * s.rd (CYL_STATUS_REBASE_Q k) + 16 * b2n (r.peg == .old) + 8 * b2n m.misfire + 4 * b2n r.inc +
        2 * s.rd (CYL_STATUS_KNK_OVER k)
      let ws := recWords k r.cyc hi true m (s.rd (CYL_KNOCK_W k)) (validBits m (bit old 5) (r.peg == .ok))
        (s.rd (CYL_REC_INFO_READY_T k)) (s.rd (CYL_Q_OUT_W k)) (s.rd (CYL_A_OUT_W k))
      let s := if s.on CMU_CMU_CFG_REC_EN then s.mbqAppend (s.rd CMU_CMU_CFG_PORT) (s.rd CMU_CMU_CFG_QUEUE) ws else s
      (s.wr CMU_RC_STAT_RESULT 2).iflag 0x88 1

/-! ### Enabling a context (R345, R348) -/

/-- The first failing check of R348; 0 for none. -/
def State.cylCheck (s : State) (k : Nat) : Nat :=
  let cbc := s.rd (CYL_CFG_CBC k)
  let ent := s.rd (CYL_CFG_ENT k)
  let g := s.rd (CYL_CFG_GRID k)
  let n : Int := s.cylN k
  let ana := toS 16 (s.rd (CYL_WIN_ANA_LO k))
  let lo := toS 16 (s.rd (CYL_HRW_HR_LO k))
  let hi := toS 16 (s.rd (CYL_HRW_HR_HI k))
  let gam := s.rd (CYL_GAMMA_GAMMA k)
  let chOk (c : Nat) : Bool := decide (c ≤ 191) || c == 0xFF
  let qc := s.rd (CYL_DST_Q_CH k)
  let ac := s.rd (CYL_DST_A_CH k)
  let same := qc == ac && s.rd (CYL_DST_Q_WORD k) == s.rd (CYL_DST_A_WORD k) && qc != 0xFF
  if ((List.range 24).any fun j => j != k && s.cylOn j && s.rd (CYL_CFG_CBC j) == cbc && s.rd (CYL_CFG_ENT j) == ent) ||
      (s.on CMU_MAP_SRC_EN && s.rd CMU_MAP_SRC_CBC == cbc && s.rd CMU_MAP_SRC_ENT == ent) then 1
  else if !(decide (1 ≤ g) && decide (g ≤ 4) && decide (-(n / 4) ≤ ana) && decide (ana ≤ n / 4 - 1) &&
      decide (n / 4 - 1 - ana + 1 ≤ 1440) && decide ((s.rd (CYL_WIN_B0 k) : Int) < n)) then 2
  else if !(decide (ana ≤ lo) && decide (lo + 8 ≤ hi) && decide (hi ≤ n / 4)) then 3
  else if !(decide (17203 ≤ gam) && decide (gam ≤ 26214)) then 4
  else if s.rd (CYL_Q_LIM_STEP k) = 0 ∨ s.rd (CYL_A_STEP_STEP k) = 0 ∨ s.rd (CYL_Q_LIM_LIM k) < s.rd (CYL_Q_LIM_STEP k) ∨
      s.rd (CYL_A_LIM_LIM k) < s.rd (CYL_A_STEP_STEP k) then 5
  else if !s.on CMU_VOL_STAT_VALID then 6
  else if !chOk qc || !chOk ac || same then 7
  else 0

/-- The context starts or refuses (R348, R331, R345). -/
def State.cylEnable (s : State) (k : Nat) : State :=
  if s.cylOn k || s.pageCrimson (cylPage k) then s
  else
    let code := s.cylCheck k
    let s := s.wr (PG_STAT_BLK (cylPage k)) (putBits (s.rd (PG_STAT_BLK (cylPage k))) 0 4 code)
    if code ≠ 0 then s.cfgRec (srcCyl k) code 0xFFF
    else (((s.wr (PG_CTRL_EN (cylPage k)) 1).recordDrop k).loopBase false k).loopBase true k

/-- The context stops: its open record ends without a result and scheduled writes are discarded. -/
def State.cylStop (s : State) (k : Nat) : State := ((s.recordDrop k).trimUndo k false).trimUndo k true

/-- A write of LOOP_EN (R345). -/
def State.loopEn (s : State) (k v : Nat) : State :=
  let q := s.on (CYL_LOOP_EN_EN_Q k)
  let a := s.on (CYL_LOOP_EN_EN_A k)
  let unveto := s.on (CYL_LOOP_EN_VETO k) && !bit v 2
  let s := ((s.wr (CYL_LOOP_EN_EN_Q k) v).wr (CYL_LOOP_EN_EN_A k) (v / 2)).wr (CYL_LOOP_EN_VETO k) (v / 4)
  let s := if unveto || (!q && bit v 0) then s.loopBase false k else s
  if unveto || (!a && bit v 1) then s.loopBase true k else s

/-! ### Reading a record (R341) -/

/-- The word at offset `o` of page `p`: as frozen, or as its fields stand (R70). -/
def State.heldWord (s : State) (p o : Nat) : Nat :=
  match (tget [] s.acc.frozen p).find? fun (e : Nat × Nat) => e.1 == o with
  | some e => e.2
  | none => ((fieldsAt p o).getD []).foldl (fun a f => a + s.rd f * 2 ^ f.lo) 0

/-- The offsets that a read of STATUS latches (R341). -/
def cylLatched : List Nat := (List.range 26).map fun i => 0x104 + 4 * i

/-- A read of STATUS latches the record for a master (R341). -/
def State.cylLatch (s : State) (k m : Nat) : State :=
  let ws := cylLatched.map (s.heldWord (cylPage k))
  s.modCyl k fun x => { x with latch := tput none x.latch m (some ws) }

/-! ### The commands -/

/-- CMU_MARK (R332). -/
def execEvtCmuMark (t : Nat) (i : Entry) (s : State) : Out :=
  s.act t (State.tbd 0) fun s =>
    s.fireShared i 0x12 (fun s tick _ o => s.cmuMark o.e.param tick false) (fun s o => s.cmuMark o.e.param s.tb true)

/-- CYL_ENABLE (R348). -/
def execCylEnable (t : Nat) (m : Master) (k : Cyl) (s : State) : Out :=
  s.act t (State.core 2) fun s => s.guardedMask m (cylPage k) 8 1 1 (State.cylEnable · k)

/-- CMU_SAMPLE (R328). -/
def execCmuSample (t : Nat) (k : Cyl) (s : State) : Out := s.act t (State.corn 2) fun s => s.cmuTake k

/-- PEG_OPEN (R335). -/
def execPegOpen (t : Nat) (k : Cyl) (s : State) : Out := s.act t (State.corn 2) fun s => s.pegBegin k

/-- PEG_CLOSE (R335). -/
def execPegClose (t : Nat) (k : Cyl) (s : State) : Out := s.act t (State.corn 2) fun s => s.pegEnd k

/-- CLOSE (R332). -/
def execCmuClose (t : Nat) (k : Cyl) (s : State) : Out := s.act t (State.corn 2) fun s => s.cmuCloseMark k

/-- CMU_RECORD_READY (R340). -/
def execCmuRecordReady (t : Nat) (k : Cyl) (s : State) : Out := s.act t (State.corn 2) fun s => s.cmuReady k

/-- CMU_TRIM_WRITE (R346). -/
def execCmuTrimWrite (t : Nat) (k : Cyl) (timing : Bool) (s : State) : Out :=
  s.act t (State.corn 2) fun s => s.trimRun k timing

/-- CMU_RECORD_POST (R342). -/
def execCmuRecordPost (t : Nat) (k : Cyl) (s : State) : Out :=
  s.act t (State.corn 2) fun s => if s.postDue k then s.cylPost k else s

/-- VOL_DATA_ACCESS (R334). -/
def execVolDataAccess (t : Nat) (m : Master) (w : Option Word) (s : State) : Out :=
  s.act t (State.core 2) fun s =>
    match w with
    | some v => s.guarded m 0x88 0x68 v.toNat fun s => s.volWrite v.toNat
    | none => s.guardedRead m (pageAddr 0x88 0x68) State.volStep

/-- VOL_COMMIT (R334): the write of VOL_CTRL with COMMIT = 1 and IDX = 0. -/
def execVolCommit (t : Nat) (m : Master) (s : State) : Out :=
  s.act t (State.core 2) fun s => s.guarded m 0x88 0x64 0x80000000 fun s => (s.wr CMU_VOL_CTRL_IDX 0).volCheck

/-- VOL_TABLE_READY (R334). -/
def execVolTableReady (t : Nat) (s : State) : Out := s.act t (State.corn 2) State.volTake

/-- RC_REQ (R347): the write of RC_CTRL with REQ = 1 and CYL. -/
def execRcReq (t : Nat) (m : Master) (k : Fin 32) (s : State) : Out :=
  s.act t (State.core 2) fun s => s.guarded m 0x88 0x78 (0x80000000 + k) fun s => (s.wr CMU_RC_CTRL_CYL k).rcBegin k

/-- RECOMPUTE_DONE (R347). -/
def execRecomputeDone (t : Nat) (s : State) : Out := s.act t (State.corn 2) State.rcEnd

/-- LOOP_ENABLE (R345). -/
def execLoopEnable (t : Nat) (m : Master) (k : Cyl) (v : Word) (s : State) : Out :=
  s.act t (State.core 2) fun s => s.guarded m (cylPage k) 0x6C v.toNat fun s => s.loopEn k v.toNat

/-- SBUF_READ (R349). -/
def execSbufRead (t : Nat) (m : Master) (s : State) : Out :=
  s.act t (State.core 2) fun s => s.guardedRead m (pageAddr 0x88 0x74) State.sbufStep

/-- CYL_STATUS_READ (R341). -/
def execCylStatusRead (t : Nat) (m : Master) (k : Cyl) (s : State) : Out :=
  s.act t (State.core 2) fun s => s.guardedRead m (pageAddr (cylPage k) 0x100) fun s => s.cylLatch k m

end Sys2Proof.Machine
end

