-- ==== Sys2Proof/Machine/Trk.lean ====
section
/-! DEFINITION. The angle tracker (R155 to R189): wheel geometry, lanes, output, cam, tables, learning. -/

namespace Sys2Proof.Machine

open Reg

/-- SRC_IDs of the tracker (R19): a lane's acceptance, the sync state machine, the lane comparator, direction and stall, the
crank table's learning logic, the cam table. -/
def srcLane (b : Bool) : Nat := srcId 0 (8 + b2n b) 0
def srcSync : Nat := srcId 0 0x0A 0
def srcComp : Nat := srcId 0 0x0A 1
def srcDir : Nat := srcId 0 0x0A 2

/-! ### Wheel geometry (R157, R170) -/

/-- N_POS. -/
def State.wheelN (s : State) : Nat := s.rd TRK_CRANK_CFG_N_POS

/-- The wheel has an extra tooth. -/
def State.extraTooth (s : State) : Bool := s.on TRK_CRANK_CFG_GAP_TYPE

/-- Missing teeth. -/
def State.gapN (s : State) : Nat := if s.extraTooth then 0 else s.rd TRK_CRANK_CFG_GAP_N

/-- The last position before the mark. -/
def State.lastPos (s : State) : Nat := s.wheelN - 1 - s.gapN

/-- Teeth of one revolution. -/
def State.revTeeth (s : State) : Nat := if s.extraTooth then s.wheelN + 1 else s.wheelN - s.gapN

/-- Positions are numbered over a whole cycle of 720 °CA, once the phase is known (R164). -/
def State.posMod (s : State) (full : Bool) : Nat := if full && !s.cyc360 then 2 * s.wheelN else s.wheelN

/-- The modulus of angles with or without bit 23 (R158). -/
def State.angMod (s : State) (full : Bool) : Nat := if full && !s.cyc360 then 2 ^ 24 else 2 ^ 23

/-- A(k) under a correction table (R157). -/
def State.angOf (s : State) (c : Nat → Int) (full : Bool) (k : Nat) : Nat :=
  (((s.rd TRK_CRANK_OFS_OFFSET : Int) + divNear (k * s.cycM) s.cycP + c k) % (s.angMod full : Int)).toNat

/-- next(k) (R157). -/
def State.nextPos (s : State) (full : Bool) (k : Nat) : Nat :=
  (if k % s.wheelN = s.lastPos then k + 1 + s.gapN else k + 1) % s.posMod full

/-- W(k) under a correction table. -/
def State.widthOf (s : State) (c : Nat → Int) (full : Bool) (k : Nat) : Nat :=
  subMod (s.angMod full) (s.angOf c full (s.nextPos full k)) (s.angOf c full k)

/-- The correction in force. -/
def State.corr (s : State) (k : Nat) : Int := tget 0 s.trk.ctab k

/-- The width of the first part of an interval that an extra tooth splits (R170). -/
def State.splitW (s : State) (w : Nat) : Nat := (divNear (s.rd TRK_CRANK_CFG_EXTRA_FRAC * w) 64).toNat

/-- The interval from a position is split. -/
def State.isSplit (s : State) (k : Nat) : Bool := s.extraTooth && k % s.wheelN == s.wheelN - 1

/-- The angle at which the interval of an element begins, and its width: an element is a position, or the extra tooth after
it. -/
def State.elemAW (s : State) (full : Bool) (e : Nat × Bool) : Nat × Nat :=
  let a := s.angOf s.corr full e.1
  let w := s.widthOf s.corr full e.1
  if s.isSplit e.1 then
    if e.2 then ((a + s.splitW w) % s.angMod full, w - s.splitW w) else (a, s.splitW w)
  else (a, w)

/-- The element after another. -/
def State.nextElem (s : State) (full : Bool) (e : Nat × Bool) : Nat × Bool :=
  if s.isSplit e.1 && !e.2 then (e.1, true) else (s.nextPos full e.1, false)

/-- The element before another, in the numbering of one revolution. -/
def State.prevElem (s : State) (e : Nat × Bool) : Nat × Bool :=
  if e.2 then (e.1, false) else if e.1 = 0 then (s.lastPos, s.extraTooth) else (e.1 - 1, false)

/-- The interval that follows an element holds the gap, or is half of a split one: R168 applies to it. -/
def State.gapAfter (s : State) (e : Nat × Bool) : Bool := e.1 % s.wheelN == s.lastPos

/-- g of R162 and R168: how many pitches the gap interval spans. -/
def State.gapG (s : State) : Nat := s.gapN + 1

/-! ### tau (R171) -/

/-- A ratio rounded to 40 significant bits, halves up. -/
def tauMk (a b : Nat) : Tau :=
  if a = 0 ∨ b = 0 then { num := 0, den := 1 }
  else
    let e0 : Int := (Nat.log2 a : Int) - Nat.log2 b - 39
    let up (e : Int) : Nat := if e < 0 then 2 ^ (-e).toNat else 1
    let dn (e : Int) : Nat := if e < 0 then 1 else 2 ^ e.toNat
    let e := if a * up e0 < 2 ^ 39 * (b * dn e0) then e0 - 1 else e0
    let m := (2 * a * up e + b * dn e) / (2 * b * dn e)
    { num := m * dn e, den := up e }

/-- ACC_GAIN in quarters. -/
def State.accGain4 (s : State) : Nat := match s.rd TRK_PRED_CFG_ACC_GAIN with | 0 => 0 | 1 => 1 | 2 => 2 | _ => 4

/-- tau_p of LANE_P: the last speed change extrapolated, within half to twice tau_j. -/
def tauP (g4 : Nat) (j : Tau) (prev : Option Tau) : Tau :=
  match prev with
  | none => j
  | some p =>
    -- over the denominator 4·j.den·p.den
    let a : Int := 4 * (j.num * p.den : Nat) + g4 * ((j.num * p.den : Nat) - (p.num * j.den : Nat) : Int)
    let lo : Int := 2 * (j.num * p.den : Nat)
    let hi : Int := 8 * (j.num * p.den : Nat)
    tauMk (clampI lo hi a).toNat (4 * j.den * p.den)

/-- tau_p of LANE_S: the pattern of the cycle before repeated, within half to twice tau_j. -/
def tauS (j : Tau) (hi hj : Option Tau) : Tau :=
  match hi, hj with
  | some a, some b =>
    let num := j.num * b.num * a.den
    let den := j.den * b.den * a.num
    if num * 2 * j.den < j.num * den then tauMk j.num (2 * j.den)
    else if 2 * j.num * den < num * j.den then tauMk (2 * j.num) j.den
    else tauMk num den
  | _, _ => j

/-! ### Lanes -/

/-- The tracker's own record changes. -/
def State.modTrk (s : State) (f : TrkS → TrkS) : State := { s with trk := f s.trk }

/-- A lane: `false` LANE_P, `true` LANE_S. -/
def State.lane (s : State) (b : Bool) : Lane := if b then s.trk.s else s.trk.p

def State.setLane (s : State) (b : Bool) (l : Lane) : State :=
  s.modTrk fun x => if b then { x with s := l } else { x with p := l }

/-- The state with HALTED counting as the state it interrupted. -/
def Lane.base (l : Lane) : Nat := if l.st = 4 then l.level else l.st

/-- In CRANK_SYNC, CYCLE_SYNC or HALTED. -/
def Lane.synced (l : Lane) : Bool := l.st == 2 || l.st == 3 || l.st == 4

/-- The lane that drives the output. -/
def State.actLane (s : State) : Bool := s.rd TRK_SYNC_STAT_ACT_LANE == 1

/-- A crank position sensor B is fitted. -/
def State.crankB (s : State) : Bool := s.on TRK_CRANK_CFG_B_EN

/-- How far a lane's position angles are shifted (R176). -/
def State.laneShift (s : State) (b : Bool) : Nat := if b && s.crankB then s.rd TRK_CRANK_B_OFS_B_OFS else 0

/-- COUNT of a port whose edges go to the tracker holds the tooth index that the tracker assigns (R132). -/
def State.toothIndex (s : State) (p k : Nat) : State := if s.posTrk p then s.wr (POS_COUNT_VALUE p) k else s

/-- The tooth index a lane assigns goes to its own port; of two lanes on crank A the active one assigns it. -/
def State.laneIndex (s : State) (b : Bool) : State :=
  if s.crankB then s.toothIndex (b2n b) (s.lane b).g.r.pos
  else if b = s.actLane then s.toothIndex 0 (s.lane b).g.r.pos else s

/-- The record a lane makes at an element accepted at `t`, with a prediction. -/
def State.mkRec (s : State) (b full : Bool) (e : Nat × Bool) (t tp : Nat) : PRec :=
  let aw := s.elemAW full e
  { pos := e.1, half := e.2, a := (aw.1 + s.laneShift b) % s.angMod full, t := t, w := aw.2, tp := tp }

/-- A generator that starts from a record now (R171, R172, R175). -/
def AGen.start (r : PRec) (now : Nat) : AGen :=
  { r := r, inc := (divNear (4 * r.w * 2 ^ 24) r.tp).toNat,
    d := min (divNear ((now - r.t) * r.w * 2 ^ 24) r.tp).toNat ((r.w - 1) * 2 ^ 24), at_ := now,
    haltAt := if (r.w - 1) * 2 ^ 24 ≤ (divNear ((now - r.t) * r.w * 2 ^ 24) r.tp).toNat then some now else none }

/-- A generator after the micro-ticks up to now. -/
def AGen.run (g : AGen) (now : Nat) : AGen :=
  let n := (now - g.at_) / 4
  let top := (g.r.w - 1) * 2 ^ 24
  let at' := g.at_ + 4 * divUp (top - g.d) g.inc
  { g with
    d := min (g.d + n * g.inc) top, at_ := g.at_ + 4 * n,
    haltAt := if g.haltAt.isSome then g.haltAt else if top ≤ g.d + n * g.inc then some at' else none }

/-- The generator stands at its halt point. -/
def AGen.atHalt (g : AGen) : Bool := g.d == (g.r.w - 1) * 2 ^ 24

/-- A(j) + floor(d), modulo M. -/
def AGen.ref (g : AGen) (M : Nat) : Nat := (g.r.a + g.d / 2 ^ 24) % M

/-- The signed difference `a - b` modulo `M`. -/
def diffMod (M a b : Nat) : Int :=
  let d := subMod M a b
  if d < M / 2 then d else (d : Int) - M

/-! ### What a loss of synchronisation ends (R184, R185) -/

/-- The maintenance task of a relearn. -/
def learnTask : Task := { act := 6, target := 0 }

/-- The activity ends without a result of its own. -/
def State.learnStop (s : State) (result : Nat) : State :=
  if s.runs learnTask || s.waits learnTask then
    let s := (s.modTrk fun z => { z with learn := none })
    (s.wr TRK_LEARN_STAT_RESULT result).taskEnd learnTask result
  else s

/-- A virtual tooth, a candidate or noise spoils a learning cycle. -/
def State.learnSpoil (s : State) : State := if s.trk.learn.isSome then s.learnStop 5 else s

/-- A checked shadow takes effect (R184). -/
def State.pendApply (s : State) : State :=
  let x := s.trk
  let done := x.pendCrank.isSome || x.pendCam.isSome
  let x := match x.pendCrank with
    | some c => { x with ctab := c, cshadow := c, pendCrank := none }
    | none => x
  let x := match x.pendCam with
    | some c => { x with camtab := c, camshadow := c, pendCam := none }
    | none => x
  let s := s.modTrk fun _ => x
  if done then (s.wr TRK_TBL_STAT_PENDING 0).iflag 0x18 10 else s

/-! ### The output -/

def State.setOut (s : State) (o : AngOut) : State := (s.modTrk fun z => { z with out := o })

/-- The modulus of the output angle. -/
def State.outM (s : State) : Nat := s.angMod (!s.trk.out.b23u)

/-- The angle in use has moved, in `n` micro-ticks: the wrap, the pulls, the bank windows (R196, R201, R278). -/
def State.angMoved (s : State) (wrap : Bool) (n : Nat) : State :=
  let s := if wrap then s.evtWrap else s
  (s.evtPull n).slotWindows

/-- The output of the tracker moves forward. -/
def State.outMove (s : State) (d n : Nat) : State :=
  let o := s.trk.out
  let a := o.ang + d
  let wrap := decide (s.outM ≤ a)
  let s := (s.modTrk fun z => { z with out := { o with ang := a % s.outM }, odo := s.trk.odo + d })
  let s :=
    if wrap then
      let whole := o.base == 3 || s.cyc360 || s.trk.halfRev
      let s := if whole then s.wr TRK_TOOTH_REV_CNT (s.rd TRK_TOOTH_REV_CNT + 1) else s
      let s := s.modTrk fun z => { z with halfRev := !whole }
      let s := if s.trk.cycClean then s.wr TRK_SYNC_STAT_CAM_FAIL 0 else s
      (s.modTrk fun z => { z with cycClean := decide (o.base = 3) })
    else s
  if s.follow.isSome then s else s.angMoved wrap n

/-- k of R173. -/
def State.catchK (s : State) : Nat := match s.rd TRK_PRED_CFG_CATCHUP with | 0 => 2 | 1 => 4 | _ => 8

/-- The output's distance from A(j), below 0 while it lags past the record's own angle. -/
def AngOut.rel (o : AngOut) : Int := (o.g.d / 2 ^ 24 : Nat) - (divUp o.e (2 ^ 24) : Nat)

/-- Micro-ticks of the output up to an instant (R172, R173). -/
def State.outTickTo (s : State) (now : Nat) : State :=
  let o := s.trk.out
  if !o.valid then s
  else
    let n := (now - o.g.at_) / 4
    let c := (s.catchK - 1) * o.g.inc
    let o' := { o with
      g := o.g.run now, e := o.e - n * c,
      eAt := if 0 < o.e && decide (o.e ≤ n * c) then o.g.at_ + 4 * divUp o.e c else o.eAt }
    let adv := (o'.rel - o.rel).toNat
    let x := min o.ahead adv
    (s.setOut { o' with ahead := o.ahead - x }).outMove (adv - x) n

/-- Micro-ticks of the output up to now. -/
def State.outTick (s : State) : State := s.outTickTo s.tb

/-- Micro-ticks up to an instant: both lanes and the tracker's own output. -/
def State.trkTickTo (s : State) (now : Nat) : State :=
  let run (l : Lane) : Lane := if l.synced then { l with g := l.g.run now } else l
  (s.modTrk fun z => { z with p := run s.trk.p, s := run s.trk.s }).outTickTo now

/-- Micro-ticks up to now. -/
def State.trkTick (s : State) : State := s.trkTickTo s.tb

/-- Micro-ticks before now: a tooth accepted now sets the angle of this micro-tick itself (R172, R173). -/
def State.trkTickBefore (s : State) : State := s.trkTickTo (s.tb - 1)

/-- What `f` does to the output a follower takes from its master's beacons (R428): the tracker's operations on an output run on
it, and the tracker, its page included, stays as it is. -/
def State.asFollower (s : State) (f : State → State) : State :=
  match s.follow with
  | none => s
  | some o =>
    let x := s.trk
    let own := s.regs.filter fun e => e.1 / 131072 == 0x18
    let s' := f { s with follow := none, trk := { x with out := o, learn := none, pendCrank := none, pendCam := none } }
    { s' with
      follow := some s'.trk.out, trk := x,
      casc := { s'.casc with cycCheck := s'.casc.cycCheck || decide (s.evt.ncyc < s'.evt.ncyc) },
      regs := (s'.regs.filter fun e => decide (e.1 / 131072 < 0x18)) ++ own ++
        s'.regs.filter fun e => decide (0x18 < e.1 / 131072) }

/-- Where an output stands at an instant, on its record. -/
def State.outAt (s : State) (o : AngOut) (now : Nat) : Nat :=
  if !o.valid then o.ang
  else
    let n := (now - o.g.at_) / 4
    let o' := { o with g := o.g.run now, e := o.e - n * (s.catchK - 1) * o.g.inc }
    let adv := (o'.rel - o.rel).toNat
    (o.ang + (adv - min o.ahead adv)) % s.angMod (!o.b23u)

/-- The tracker's loss of synchronisation reaches the pipeline, the channels and the banks (R161, R218, R231, R279). -/
def State.angLost (s : State) : State := ((s.pulse 15).evtLoss.syncEnd).quenchAll

/-- The output takes another state; leaving synchronisation ends outputs safely (R160). -/
def State.outState (s : State) (st : Nat) : State :=
  if s.trk.out.st = st then s
  else
    let lost := s.trk.out.valid && !(st == 2 || st == 3 || st == 4)
    let s := if lost then s.outTick else s
    let o := s.trk.out
    let s := (s.setOut { o with st := st, e := if lost then 0 else o.e, hasRec := o.hasRec && !lost }).iflag 0x18 0
    let s := if lost then s.pendApply.learnSpoil else s
    if lost && s.follow.isNone then s.angLost else s

/-- Cam edges lose their angles when the output loses synchronisation. -/
def State.camForget (s : State) : State :=
  let cams := s.trk.cams.map fun (c : CamEdge) => { c with odo := none }
  (s.modTrk fun z => { z with cams := cams, met := [], cycClean := false, errRun := 0, phaseRun := 0, divRun := 0 })

/-- The output becomes LOST (R160). -/
def State.outLost (s : State) (cause : Nat) : State :=
  let s := (s.modTrk fun z => { z with failed := none, req := none })
  let s := ((s.wr TRK_SYNC_STAT_LOST_CAUSE cause).inc TRK_ERR_CNT1_LOST).iflag 0x18 1
  ((s.outState 5).camForget).raise srcSync 0x18 (cause + s.rd TRK_TOOTH_POS * 256)

/-- The output's record is that of the active lane's generator: times, dwell starts, router pulses (R174). -/
def State.publish (s : State) (g : AGen) : State :=
  let o := s.trk.out
  let s := (s.modTrk fun z => { z with prevRec := if o.hasRec then some o.g.r else none, out := { o with
    g := g, hasRec := true, pubAt := s.tb, oldRec := if o.hasRec then some o.g.r else none } })
  let s := ((s.wr TRK_TOOTH_POS g.r.pos).wr TRK_TT_LO_T (g.r.t % 2 ^ 32)).wr TRK_TT_HI_T (g.r.t / 2 ^ 32)
  let s := s.wr TRK_PRED_T_PRED g.r.tp
  let s := (s.modTrk fun z => { z with tt := s.trk.tt.stamp })
  if s.follow.isSome then s
  else (if g.r.pos = 0 ∧ !g.r.half then (s.pulse 10).pulse 11 else s.pulse 10).evtRecord

/-- What is left of a catch-up is made up at once, by a jump (R173). -/
def State.outSettle (s : State) : State :=
  let o := s.trk.out
  if o.e = 0 then s
  else
    let n := divUp o.e (2 ^ 24)
    (((s.setOut { o with e := 0 }).wr TRK_JUMP_CATCHUP 0).wr TRK_JUMP_SIZE n).outMove n 1

/-- The output meets a reference (R173): from behind by a jump or a catch-up, or directly from the halt point; ahead of it, it
holds until the reference has passed it (R178). -/
def State.outAlign (s : State) (d : Int) (direct : Bool) : State :=
  let o := { s.trk.out with e := 0, ahead := 0 }
  if d < 0 then s.setOut { o with ahead := (-d).toNat }
  else if d = 0 then s.setOut o
  else if direct then (s.setOut o).outMove d.toNat 1
  else if s.on TRK_PRED_CFG_MODE then
    ((s.setOut { o with e := d.toNat * 2 ^ 24 }).wr TRK_JUMP_CATCHUP 1).wr TRK_JUMP_SIZE d.toNat
  else (((s.setOut o).wr TRK_JUMP_CATCHUP 0).wr TRK_JUMP_SIZE d.toNat).outMove d.toNat 1

/-- The output takes a new record. -/
def State.outFollow (s : State) (g : AGen) (direct : Bool) : State :=
  let s := s.outSettle
  let d := diffMod s.outM (g.ref s.outM) s.trk.out.ang
  (s.publish g).outAlign d direct

/-- A tooth of the active lane moves the output (R160, R173). -/
def State.outTooth (s : State) (g : AGen) (late : Bool) : State :=
  let o := s.trk.out
  let direct := o.g.atHalt && o.e == 0 && !late
  let s := if o.st = 4 then s.outState o.level else s
  s.outFollow g direct

/-- The output switches to a lane at its accepted tooth (R178). -/
def State.switchLane (s : State) (b : Bool) : State :=
  let l := s.lane b
  let s := (s.wr TRK_SYNC_STAT_ACT_LANE (b2n b)).inc TRK_ERR_CNT1_LANE_SW
  let s := (s.modTrk fun z => { z with failed := none, req := none })
  let s := (s.iflag 0x18 6).raise srcComp 0x1F (b2n b)
  let s := if s.trk.out.st = 4 then s.outState s.trk.out.level else s
  s.outFollow l.g false

/-- The active lane fails: the other takes over at its next tooth, or the output is LOST (R178). -/
def State.activeFails (s : State) (cause : Nat) : State :=
  if (s.lane (!s.actLane)).synced then
    s.modTrk fun z => { z with failed := some cause }
  else s.outLost cause

/-- A lane enters LOST (R160, R178). -/
def State.laneLost (s : State) (b : Bool) (cause : Nat) : State :=
  let l := s.lane b
  let s := s.setLane b { ({} : Lane) with st := 5, cause := cause, hist := l.hist }
  let s := if s.trk.req = some b then s.modTrk fun z => { z with req := none } else s
  if b = s.actLane then s.activeFails cause
  else
    match s.trk.failed with
    | some c => s.outLost c
    | none => s

/-- A crank port has failed (R155): lanes that use it start their search again, and the active one fails. -/
def State.trkPortFail (s : State) (p : Nat) : State :=
  let hit (b : Bool) : Bool := if b && s.crankB then p == 1 else p == 0
  let fail (s : State) (b : Bool) : State :=
    if !(hit b && (s.lane b).synced) then s
    else
      let s := s.setLane b { ({} : Lane) with st := 1 }
      let s := if s.trk.req = some b then s.modTrk fun z => { z with req := none } else s
      if b = s.actLane ∧ s.trk.failed = none then s.activeFails 5
      else
        match s.trk.failed with
        | some c => s.outLost c
        | none => s
  if s.on (PG_CTRL_EN 0x18) then
    -- the lane that stands by first, so that no lane takes over on a failed input
    fail (fail s (!s.actLane)) s.actLane
  else s

/-! ### Learning (R185, R186) -/

/-- The activity has its token. -/
def State.learnBegin (s : State) : State :=
  (((s.modTrk fun z => { z with learn := some {} }) : State).wr TRK_LEARN_STAT_RESULT 1).wr TRK_LEARN_STAT_CYC_DONE 0

/-- The conditions of R185 on state, fuel cut and speed hold. -/
def State.learnOk (s : State) : Bool :=
  (s.trk.out.base == 3 || (s.cyc360 && s.trk.out.base == 2)) && s.on TRK_LEARN_CTRL_FUELCUT &&
  decide (s.rd TRK_LEARN_SPD_LRN_MIN ≤ s.rd TRK_SPEED_R_RPM) && decide (s.rd TRK_SPEED_R_RPM ≤ s.rd TRK_LEARN_SPD_LRN_MAX)

/-- The conditions fail between two teeth: the activity is aborted (R185). -/
def State.learnHold (s : State) : State := if s.trk.learn.isSome && !s.learnOk then s.learnStop 5 else s

/-- LEARN_CYC in force. -/
def State.learnCyc (s : State) : Nat := max 4 (min 64 (s.rd TRK_LEARN_CTRL_LEARN_CYC))

/-- An accepted tooth of the active lane counts for learning. -/
def State.learnTooth (s : State) (r : PRec) : State :=
  match s.trk.learn with
  | none => s
  | some x =>
    if !s.learnOk then s.learnStop 5
    else if x.cycles.length ≥ s.learnCyc then s
    else
      let x :=
        if r.pos = 0 ∧ !r.half then
          if x.begun then { x with cycles := x.cycles ++ [x.cur ++ [(s.cycP, r.t)]], cur := [(0, r.t)] }
          else { x with begun := true, cur := [(0, r.t)] }
        else if x.begun ∧ !r.half then { x with cur := x.cur ++ [(r.pos, r.t)] } else x
      ((s.modTrk fun z => { z with learn := some x }) : State).wr TRK_LEARN_STAT_CYC_DONE x.cycles.length

/-- dev(k) of a cycle (R186): phi(t_k) - round(k·M/P), with b by least squares. -/
def State.cycleDev (s : State) (cyc : List (Nat × Nat)) : List (Nat × ℚ) :=
  let t0 : Nat := ((cyc.head?).map (·.2)).getD 0
  let tP : Nat := ((cyc.getLast?).map (·.2)).getD 0
  let L : Int := (tP : Int) - t0
  let pts : List (Nat × Int × Int) := cyc.dropLast.map fun e => (e.1, (e.2 : Int) - t0, divNear (e.1 * s.cycM) s.cycP)
  let M : Int := s.cycM
  let S1 : Int := (pts.map fun p => p.2.1 * (p.2.1 - L) * (p.2.2 * L - M * p.2.1)).sum
  let S2 : Int := (pts.map fun p => (p.2.1 * (p.2.1 - L)) ^ 2).sum
  pts.map fun p =>
    let b : ℚ := if S2 = 0 then 0 else ((S1 * (p.2.1 * (p.2.1 - L)) : Int) : ℚ) / ((S2 * L : Int) : ℚ)
    (p.1, ((M * p.2.1 : Int) : ℚ) / (L : ℚ) + b - (p.2.2 : ℚ))

/-- The result of R186: mean and spread of each position. -/
def State.learnStats (s : State) (cycles : List (List (Nat × Nat))) : List (Nat × ℚ × ℚ) :=
  let devs := cycles.map s.cycleDev
  let ks : List Nat := ((devs.headD []).map (·.1))
  ks.map fun k =>
    let v : List ℚ := devs.filterMap fun d => (d.find? fun e => e.1 == k).map (·.2)
    let hi := v.foldl max (v.headD 0)
    let lo := v.foldl min (v.headD 0)
    (k, v.sum / (v.length : ℚ), hi - lo)

/-- The table is computed and applied or rejected (R186). -/
def State.learnDone (s : State) : State :=
  match s.trk.learn with
  | none => s
  | some x =>
    if x.cycles.length < s.learnCyc then s
    else
      let st := s.learnStats x.cycles
      let tol : ℚ := (s.rd TRK_LEARN_CTRL_LEARN_TOL : Nat)
      let ok := st.all fun e => decide (e.2.2 ≤ tol) && decide (|e.2.1| ≤ 32767)
      let s := s.iflag 0x18 9
      if ok then
        let tab : Tab Int := st.foldl (fun t e => tput 0 t e.1 ⌊e.2.1 + 1 / 2⌋) []
        let s := s.learnStop 3
        (s.modTrk fun z => { z with learnNew := some (tput 0 tab 0 0) })
      else
        let worst := st.foldl (fun (a : Nat × ℚ) e => if a.2 < e.2.2 then (e.1, e.2.2) else a) (0, -1)
        (s.learnStop 4).wr TRK_LEARN_STAT_WORST_POS worst.1

/-! ### Tables (R183, R184) -/

/-- A committed shadow or a learnt table takes effect, at the acceptance of position 0. -/
def State.tablesApply (s : State) : State :=
  let s := s.pendApply
  match s.trk.learnNew with
  | some c => s.modTrk fun x => { x with ctab := c, cshadow := c, learnNew := none }
  | none => s

/-- Checks 1 and 2 of R159: the wheel, with MISS_TOL as it acts. -/
def State.missTol (s : State) : Nat := min 2 (s.rd TRK_PRED_CFG_MISS_TOL)

def State.wheelCheck (s : State) : Nat :=
  if s.wheelN < 4 ∨ 360 < s.wheelN then 1
  else if s.extraTooth then
    (if 8 ≤ s.rd TRK_CRANK_CFG_EXTRA_FRAC ∧ s.rd TRK_CRANK_CFG_EXTRA_FRAC ≤ 56 ∧ s.missTol = 0 then 0 else 2)
  else if 1 ≤ s.gapN ∧ s.gapN ≤ 3 ∧ s.missTol < s.gapN then 0 else 2

/-- Positions of a cycle that carry a tooth. -/
def State.toothed (s : State) : List Nat := (List.range s.cycP).filter fun k => decide (k % s.wheelN ≤ s.lastPos)

/-- The lowest offending entry of a crank shadow (R184). -/
def State.shadowBad (s : State) : Option Nat :=
  if s.wheelCheck ≠ 0 then some 0x3FF
  else
    let c (k : Nat) : Int := tget 0 s.trk.cshadow k
    if c 0 ≠ 0 then some 0
    else
      s.toothed.find? fun k =>
        let w := s.widthOf c true k
        let w0 := s.widthOf (fun _ => 0) true k
        decide (2 * w < w0) || decide (3 * w0 < 2 * w)

/-- TBL_CTRL.COMMIT (R184). -/
def State.tblCommit (s : State) : State :=
  let cam := s.on TRK_TBL_CTRL_SEL
  match (if cam then none else s.shadowBad) with
  | some k => ((s.setBits TRK_TBL_STAT_REFUSED 1).wr TRK_TBL_STAT_REF_IDX k).iflag 0x18 10
  | none =>
    let x := s.trk
    let s := s.modTrk fun _ => if cam then { x with pendCam := some x.camshadow } else { x with pendCrank := some x.cshadow }
    let s := s.wr TRK_TBL_STAT_PENDING 1
    if s.trk.out.valid then s else s.pendApply

/-- The entry of TBL_DATA exists (R183). -/
def State.tblHas (s : State) (cam : Bool) (i : Nat) : Bool := if cam then decide (i < 768) else decide (i < s.cycP)

/-- The entry in force at TBL_CTRL.IDX. -/
def State.tblView (s : State) : Nat :=
  let i := s.rd TRK_TBL_CTRL_IDX
  let cam := s.on TRK_TBL_CTRL_SEL
  if s.tblHas cam i then ofS 16 (if cam then tget 0 s.trk.camtab i else tget 0 s.trk.ctab i) else 0

/-- IDX steps on after an access. -/
def State.tblStep (s : State) : State := s.wr TRK_TBL_CTRL_IDX (s.rd TRK_TBL_CTRL_IDX + 1)

/-- A write of TBL_DATA (R184). -/
def State.tblWrite (s : State) (v : Nat) : State :=
  let i := s.rd TRK_TBL_CTRL_IDX
  let cam := s.on TRK_TBL_CTRL_SEL
  let x := s.trk
  let s :=
    if !s.tblHas cam i then s
    else if cam then (s.modTrk fun _ => { x with camshadow := tput 0 x.camshadow i (toS 16 v) })
    else (s.modTrk fun _ => { x with cshadow := tput 0 x.cshadow i (toS 16 v) })
  s.tblStep

/-! ### Cam (R164, R165, R187) -/

/-- The speed band. -/
def State.camBand (s : State) : Nat := min 31 (s.rd TRK_SPEED_R_RPM / (16 * 50 * (s.rd TRK_CAM_CFG_CAM_BAND + 1)))

/-- e_j of the current band. -/
def State.camE (s : State) (j : Nat) : Int := tget 0 s.trk.camtab (32 * j + s.camBand)

/-- The centre of a cam window, modulo 2^24. -/
def State.camC (s : State) (j : Nat) : Nat := (((s.rd (TRK_CAM_TOOTH_ANGLE j) : Int) + s.camE j) % (2 ^ 24 : Nat)).toNat

/-- CAM_WIN in AU. -/
def State.camWin (s : State) : Nat := (divNear (s.rd TRK_CAM_CFG_CAM_WIN * 2 ^ 24) 7200).toNat

/-- The cam is in use. -/
def State.camOn (s : State) : Bool := s.on TRK_CAM_CFG_CAM_EN && !s.cyc360

/-- The cam teeth. -/
def State.camTeeth (s : State) : List Nat := List.range (min 24 (s.rd TRK_CAM_CFG_N_TEETH))

/-- The cam port in use is POS3 (R155, R165). -/
def State.camPos3 (s : State) : Bool :=
  match s.rd TRK_CAM_CFG_CAM_SRC with
  | 1 => true
  | 2 => s.on TRK_SYNC_STAT_CAM_ALT
  | _ => false

/-- An angle lies within CAM_WIN of a window's centre, modulo `M`. -/
def State.camHits (s : State) (M a j : Nat) : Bool := decide ((diffMod M a (s.camC j)).natAbs ≤ s.camWin)

/-- A cam error (R165). -/
def State.camError (s : State) (tooth : Nat) : State :=
  let s := (s.inc TRK_ERR_CNT1_CAM_ERR).iflag 0x18 5
  let s := s.raise srcSync 0x1B (tooth + b2n s.camPos3 * 32)
  let s := (s.modTrk fun z => { z with errRun := s.trk.errRun + 1 })
  if s.trk.errRun ≥ max 1 (s.rd TRK_CAM_CFG_CAM_ERR_LIM) ∧ !s.on TRK_SYNC_STAT_CAM_FAIL then
    let port := b2n s.camPos3
    let s := s.wr TRK_SYNC_STAT_CAM_FAIL 1
    let s := if s.rd TRK_CAM_CFG_CAM_SRC = 2 then s.wr TRK_SYNC_STAT_CAM_ALT 1 else s
    let s := (s.modTrk fun z => { z with cycClean := false })
    s.raise srcSync 0x17 port
  else s

/-- e_j learns from a matched edge (R187). -/
def State.camLearn (s : State) (a j : Nat) : State :=
  if !s.on TRK_CAM_CFG_CAM_LEARN then s
  else
    let k := 32 * j + s.camBand
    let e := s.camE j
    let dev := diffMod (2 ^ 24) a (s.rd (TRK_CAM_TOOTH_ANGLE j))
    let e := clampI (-32767) 32767 (e + divNear (dev - e) 16)
    let x := s.trk
    (s.modTrk fun _ => { x with camtab := tput 0 x.camtab k e, camshadow := tput 0 x.camshadow k e })

/-- Every lane and the output are LOST by cam phase. -/
def State.phaseLost (s : State) : State :=
  let drop (s : State) (b : Bool) : State :=
    if (s.lane b).synced then s.setLane b { ({} : Lane) with st := 5, cause := 4, hist := (s.lane b).hist } else s
  (drop (drop s false) true).outLost 4

/-- The window of a tooth has met a matching edge, unless the output has passed its end (R165). -/
def State.camMeet (s : State) (j : Nat) : State :=
  let d := subMod (2 ^ 24) s.trk.out.ang ((s.camC j + s.camWin) % 2 ^ 24)
  let s := s.toothIndex (2 + b2n s.camPos3) j
  if decide (0 < d) && decide (d < 2 ^ 23) then s
  else s.modTrk fun x => { x with met := if x.met.contains j then x.met else j :: x.met }

/-- A cam edge with full angle `a` is judged in CYCLE_SYNC (R165). -/
def State.camJudge (s : State) (a : Nat) : State :=
  match s.camTeeth.find? (s.camHits (2 ^ 24) a) with
  | some j =>
    (((s.modTrk fun x => { x with errRun := 0, phaseRun := 0 }) : State).camMeet j).camLearn a j
  | none =>
    if s.camTeeth.any (s.camHits (2 ^ 24) ((a + 2 ^ 23) % 2 ^ 24)) then
      let s := (s.modTrk fun z => { z with phaseRun := s.trk.phaseRun + 1 })
      if s.trk.phaseRun ≥ max 1 (s.rd TRK_CAM_CFG_PHASE_LIM) then s.phaseLost else s
    else s.camError 0x1F

/-- A record's angle and position once bit 23 is known: the angle nearest to where the output stands (R164, R178). -/
def State.fullRec (s : State) (b : Bool) (r : PRec) (near : Nat) : PRec :=
  let a := if (diffMod (2 ^ 24) r.a near).natAbs ≤ (diffMod (2 ^ 24) ((r.a + 2 ^ 23) % 2 ^ 24) near).natAbs then r.a
    else (r.a + 2 ^ 23) % 2 ^ 24
  let at' (k : Nat) : Nat := ((s.elemAW true (k, r.half)).1 + s.laneShift b) % 2 ^ 24
  let k := if (diffMod (2 ^ 24) (at' r.pos) a).natAbs ≤ (diffMod (2 ^ 24) (at' (r.pos + s.wheelN)) a).natAbs then r.pos
    else r.pos + s.wheelN
  { r with a := a, pos := k }

/-- A lane in CRANK_SYNC takes the phase of the output at angle `ang`. -/
def State.lanePhase (s : State) (b : Bool) (ang : Nat) : State :=
  let l := s.lane b
  if l.synced && l.base == 2 then
    let r := s.fullRec b l.g.r ang
    let move := if r.pos = l.g.r.pos then 0 else 2 * s.wheelN
    let l := { l with g := { l.g with r := r }, tauHist := l.tauHist.map fun (e : Nat × Option Tau) => (e.1 + move, e.2) }
    s.setLane b (if l.st = 4 then { l with level := 3 } else { l with st := 3 })
  else s

/-- The phase is resolved: the output stands at `ang` of the whole cycle (R160, R164, R196). -/
def State.phaseSet (s : State) (ang : Nat) : State :=
  let g0 := s.evtG
  let m0 := s.evtM
  let s := (s.lanePhase false ang).lanePhase true ang
  let o := s.trk.out
  let g := { o.g with r := s.fullRec s.actLane o.g.r ang }
  let o : AngOut := { o with g := g, ang := ang, b23u := false }
  let s := s.setOut (if o.st = 4 then { o with level := 3 } else { o with st := 3 })
  let s := s.modTrk fun z => { z with
    met := [], cycClean := false, closed := [], camFrom := s.trk.odo, prevRec := z.prevRec.map fun r => s.fullRec s.actLane r ang }
  let s := ((((s.iflag 0x18 0).iflag 0x18 8).wr TRK_TOOTH_POS g.r.pos).laneIndex false).laneIndex true
  if s.follow.isSome then s
  else
    let s := s.hwPut EVT_CYC_CNT_COUNT 0
    let s := if s.evtRuns then s.evtRebase g0 m0 else s
    s.evtSync

/-- A cam edge whose angle lies `back` AU behind the output is tested in CRANK_SYNC or judged in CYCLE_SYNC (R164, R165). -/
def State.camTest (s : State) (c : CamEdge) (prev : Option CamEdge) : State :=
  match c.odo with
  | none => s
  | some od =>
    let o := s.trk.out
    let back : Int := (s.trk.odo : Int) - od
    let M := s.outM
    let a := (((o.ang : Int) - back) % (M : Int)).toNat
    if o.base = 3 then s.camJudge a
    else if o.base ≠ 2 then s
    else
      let hits := s.camTeeth.filter (s.camHits (2 ^ 23) a)
      let n := s.camTeeth.length
      let win (j : Nat) : State :=
        let full := a + (if 2 ^ 23 ≤ s.rd (TRK_CAM_TOOTH_ANGLE j) then 2 ^ 23 else 0)
        (s.phaseSet (((full : Int) + back) % (2 ^ 24 : Nat)).toNat).camMeet j
      match hits with
      | [] => (s.inc TRK_ERR_CNT1_CAM_ERR).iflag 0x18 5
      | [j] => win j
      | hits =>
        match prev.bind (·.odo) with
        | none => s
        | some od0 =>
          let a0 := (((a : Int) - ((od : Int) - od0)) % (M : Int)).toNat
          match hits.filter fun j => s.camHits (2 ^ 23) a0 ((j + n - 1) % n) with
          | [j] => win j
          | _ => s

/-- The last three cam edges run backwards (R181). -/
def State.camReverse (s : State) : Bool :=
  match s.trk.cams.filterMap (·.odo) with
  | c :: b :: a :: _ =>
    let n := s.camTeeth.length
    let dist (j : Nat) : Nat := subMod (2 ^ 24) (s.camC ((j + 1) % n)) (s.camC j)
    let near (x y : Nat) : Bool := decide (((x : Int) - y).natAbs ≤ 2 * s.camWin)
    let d1 := b - a
    let d2 := c - b
    (s.camTeeth.any fun j => near d1 (dist ((j + 1) % n)) && near d2 (dist j)) &&
    !(s.camTeeth.any fun j => near d1 (dist j) && near d2 (dist ((j + 1) % n)))
  | _ => false

/-- The state becomes REVERSE (R160, R180, R181). -/
def State.goReverse (s : State) (det : Nat) : State :=
  let s := (s.modTrk fun z => { z with p := { st := 6 }, s := { st := 6 }, failed := none, req := none, classes := [] })
  ((s.outState 6).camForget.iflag 0x18 2).raise srcDir 0x19 det

/-- A cam edge at `t` (R163 to R165, R181): its angle comes from the record in force at `t`, up to that record's halt point. -/
def State.camEdge (s : State) (t : Nat) (pos3 : Bool) : State :=
  if !s.camOn || pos3 != s.camPos3 then s
  else
    let o := s.trk.out
    let prev := s.trk.cams.head?
    let odo : Option Nat :=
      if o.valid && o.hasRec then
        let r := match s.trk.prevRec with
          | some r => if t < o.pubAt + 4 then r else o.g.r
          | none => o.g.r
        let off := min (divNear (((t : Int) - r.t) * r.w) r.tp) ((r.w : Int) - 1)
        let a := (((r.a : Int) + off) % (s.outM : Int)).toNat
        some ((s.trk.odo : Int) + diffMod s.outM a o.ang).toNat
      else none
    let c : CamEdge := { t := t, pos3 := pos3, odo := odo }
    let s := (s.modTrk fun z => { z with cams := (c :: s.trk.cams).take 8 })
    if !o.valid then s else if !s.crankB && s.camReverse then s.goReverse 1 else s.camTest c prev

/-- A cam window closes (R165). -/
def State.camClose (s : State) (j : Nat) : State :=
  let o := s.trk.out
  let d := subMod (2 ^ 24) o.ang ((s.camC j + s.camWin) % 2 ^ 24)
  let at' := s.trk.odo - d
  if !(s.camOn && o.base == 3 && s.camTeeth.contains j && decide (d < 2 ^ 23) && decide (0 < d) && decide (s.trk.camFrom < at') &&
      decide (tget 0 s.trk.closed j + 2 ^ 22 < at')) then s
  else
    let x := s.trk
    let s := (s.modTrk fun _ => { x with closed := tput 0 x.closed j at', met := x.met.filter (· != j) })
    if x.met.contains j then s
    else ((s.modTrk fun z => { z with cycClean := false }) : State).camError j

/-! ### Search for the gap (R162, R163) -/

/-- An interval is clean. -/
def State.cleanIv (s : State) (t tp : Nat) : Bool :=
  decide (s.rd TRK_CWIN_CWIN_LO * tp ≤ 64 * t) && decide (64 * t ≤ s.rd TRK_CWIN_CWIN_HI * tp)

/-- An interval may be G, or the first half of a split interval, after another (R162, R170). -/
def State.isG (s : State) (t tp : Nat) : Bool :=
  let lo := s.rd TRK_SEEK_CFG_GR_LO
  let hi := s.rd TRK_SEEK_CFG_GR_HI
  if s.extraTooth then
    let f := s.rd TRK_CRANK_CFG_EXTRA_FRAC
    decide (f * lo * tp ≤ 4096 * t) && decide (4096 * t ≤ f * hi * tp)
  else decide (s.gapG * lo * tp ≤ 64 * t) && decide (64 * t ≤ s.gapG * hi * tp)

/-- The interval after G confirms the mark. -/
def State.confirms (s : State) (g tp t : Nat) : Bool :=
  let lo := s.rd TRK_SEEK_CFG_GR_LO
  let hi := s.rd TRK_SEEK_CFG_GR_HI
  if s.extraTooth then
    let f := 64 - s.rd TRK_CRANK_CFG_EXTRA_FRAC
    decide (f * lo * tp ≤ 4096 * t) && decide (4096 * t ≤ f * hi * tp)
  else decide (64 * g ≤ s.gapG * hi * t) && decide (s.gapG * lo * t ≤ 64 * g)

/-- Stored teeth before an element, newest first: each with how far it lies behind the newest, in AU. -/
def State.backTeeth (s : State) : Nat × Bool → Nat → List Nat → List (Nat × Nat)
  | _, _, [] => []
  | e, d, t :: r => (t, d) :: s.backTeeth (s.prevElem e) (d + (s.elemAW false (s.prevElem e)).2) r

/-- How far a stored cam edge lies behind the newest stored tooth (R163). -/
def camBack (t : Nat) : List (Nat × Nat) → Option Nat
  | (t1, d1) :: (t0, d0) :: r =>
    if t0 ≤ t ∧ t < t1 then some (d0 - (divNear ((t - t0) * (d0 - d1)) (t1 - t0)).toNat) else camBack t ((t0, d0) :: r)
  | _ => none

/-- Stored cam edges receive their angles and are tested in time order (R163, R164). -/
def State.storedCams (s : State) (e : Nat × Bool) (hist : List Nat) : State :=
  if !s.camOn then s
  else
    let teeth := s.backTeeth e 0 hist
    let at0 := s.trk.odo - s.trk.out.g.d / 2 ^ 24
    let cams := s.trk.cams.filterMap fun (c : CamEdge) => (camBack c.t teeth).map fun d => { c with odo := some (at0 - d) }
    let s := (s.modTrk fun z => { z with cams := cams })
    let old := cams.reverse
    (old.zip (none :: old.map some)).foldl (fun s (x : CamEdge × Option CamEdge) => s.camTest x.1 x.2) s

/-- SPEED in rpm × 16 over a width in AU and a time in ticks. -/
def rpm16 (w t : Nat) : Nat := if t = 0 then 2 ^ 20 - 1 else satN 20 (16 * 60 * 400000000 * w / (t * 2 ^ 23))

/-- SPEED_R: the mean over the last revolution, and over the stored teeth while they do not span one. -/
def State.speedR (s : State) (b : Bool) : State :=
  let l := s.lane b
  let teeth := s.backTeeth (l.g.r.pos % s.wheelN, l.g.r.half) 0 (l.hist.take (s.revTeeth + 1))
  match l.hist.head?, teeth.getLast? with
  | some t1, some (t0, d) => if t0 < t1 then s.wr TRK_SPEED_R_RPM (rpm16 d (t1 - t0)) else s
  | _, _ => s

/-- The output enters CRANK_SYNC with the active lane (R160). -/
def State.outSync (s : State) (b : Bool) : State :=
  let l := s.lane b
  let o := s.trk.out
  let s := (s.modTrk fun z => { z with
    odo := 2 ^ 40, halfRev := false, prevRec := none, met := [], cycClean := false, closed := [], errRun := 0, phaseRun := 0, divRun := 0, failed := none, req := none })
  let s := s.setOut { o with st := 2, b23u := true, ang := l.g.ref (2 ^ 23), e := 0, ahead := 0, hasRec := false }
  let s := (s.iflag 0x18 0).wr TRK_TOOTH_REV_CNT 0
  let s := ((s.publish l.g).speedR b).laneIndex b
  let s := if s.cyc360 ∧ s.follow.isNone then s.hwPut EVT_CYC_CNT_COUNT 0 else s
  let s := s.storedCams (l.g.r.pos, l.g.r.half) l.hist
  if s.follow.isSome then s else s.evtSync.slotWindows

/-- The mark is confirmed at an edge: the lane's generator starts (R160, R162, R178). -/
def State.laneConfirm (s : State) (b : Bool) (t tn : Nat) : State :=
  let l := s.lane b
  let e : Nat × Bool := if s.extraTooth then (0, false) else (s.nextPos false 0, false)
  let o := s.trk.out
  let stand := b != s.actLane
  let wi := (s.elemAW false (s.prevElem e)).2
  let tau := tauMk tn wi
  let r0 := s.mkRec b false e t 0
  let tp := (divNear (tau.num * r0.w) tau.den).toNat
  let g := AGen.start { r0 with tp := tp } s.tb
  let l := { l with
    st := 2, level := 0, g := g, gap := none, clean := 0, cleanAll := 0, mismatch := false, miss := 0, cand := none, tauPrev := some tau,
    tauHist := tput none [] (2 * (s.prevElem e).1 + b2n (s.prevElem e).2) (some tau) }
  let s := s.setLane b l
  if stand then (if o.valid && o.base == 3 then s.lanePhase b o.ang else s).laneIndex b
  else (s.wr TRK_SPEED_T_RPM (rpm16 wi tn)).outSync b

/-- STALL_RPM in force, in rpm × 16. -/
def State.stallRpm (s : State) : Nat := max 128 (s.rd TRK_PRED_CFG_STALL_RPM)

/-- The tracker declares a stall (R160, R182). -/
def State.goStall (s : State) : State :=
  let s := (s.modTrk fun z => { z with p := {}, s := {}, failed := none, req := none, classes := [], aEdge := none, bEdge := none, lastAcc := none })
  (s.outState 0).camForget

/-- An interval gives a speed below STALL_RPM, whichever positions it spans: it is longer than the gap interval at that speed
(R182; DEDUCED, assumption log 85: outside synchronisation the width of an interval is not known). -/
def State.slowIv (s : State) (iv : Nat) : Bool := decide (s.gapG * 60 * 16 * 400000000 < iv * (s.stallRpm * s.wheelN))

/-- An edge in SEEK (R162). -/
def State.seekEdge (s : State) (b : Bool) (t : Nat) : State :=
  let l := s.lane b
  match l.hist with
  | [] => s.setLane b { l with hist := [t] }
  | t1 :: rest =>
    let iv := t - t1
    let hist := (t :: l.hist).take 512
    match rest with
    | [] => s.setLane b { l with hist := hist }
    | t0 :: _ =>
      let prev := t1 - t0
      let confirmed := match l.gap with
        | some (g, tp) => s.confirms g tp iv
        | none => false
      if b = s.actLane ∧ s.slowIv iv then s.goStall
      else if confirmed then (s.setLane b { l with hist := hist }).laneConfirm b t iv
      else
        -- a G that was not confirmed is judged by the clean rule
        let l := match l.gap with
          | some (g, tp) => if s.cleanIv g tp then { l with clean := l.clean + 1, cleanAll := l.cleanAll + 1, gap := none }
            else { l with clean := 0, gap := none }
          | none => l
        let l := { l with hist := hist }
        if s.rd TRK_SEEK_CFG_SEEK_TEETH ≤ l.clean ∧ s.isG iv prev then s.setLane b { l with gap := some (iv, prev) }
        else
          let l := if s.cleanIv iv prev then { l with clean := l.clean + 1, cleanAll := l.cleanAll + 1 } else { l with clean := 0 }
          if 2 * s.wheelN ≤ l.cleanAll ∧ !l.mismatch ∧ b = s.actLane then
            (s.setLane b { l with mismatch := true }).raise srcSync 0x1A 0
          else s.setLane b l

/-! ### Teeth (R166 to R172) -/

/-- D at a tooth of the active lane (R177). -/
def State.diverge (s : State) : State :=
  let p := s.trk.p
  let q := s.trk.s
  if !(p.synced && q.synced) then s
  else
    let M := s.outM
    let d := diffMod M (q.g.ref M) (p.g.ref M)
    let s := s.wr TRK_DIVERGE_D (ofS 32 d)
    let run := if d.natAbs > s.rd TRK_LANE_CFG_ANG_DIV_LIM then s.trk.divRun + 1 else 0
    let s := (s.modTrk fun z => { z with divRun := run })
    if run = max 1 (s.rd TRK_LANE_CFG_DIV_TEETH) then (s.iflag 0x18 7).raise srcComp 0x1E (min d.natAbs (2 ^ 22 - 1)) else s

/-- A lane accepts the next tooth at `t`: measurement, prediction, generator (R171, R172, R174). `virt` marks a virtual tooth,
`late` one that is set later than the angle it implies. -/
def State.laneAccept (s : State) (b : Bool) (t : Nat) (virt late : Bool) : State :=
  let l := s.lane b
  let full := l.base == 3
  let r := l.g.r
  let e := s.nextElem full (r.pos, r.half)
  let active := b == s.actLane && s.trk.failed.isNone
  let s := if active && e.1 == 0 && !e.2 then s.tablesApply else s
  let iv := t - r.t
  let tau := tauMk iv r.w
  let key (p : Nat) (h : Bool) : Nat := 2 * p + b2n h
  let tp' := if b then tauS tau (tget none l.tauHist (key r.pos r.half)) (tget none l.tauHist (key e.1 e.2))
    else tauP s.accGain4 tau l.tauPrev
  let r0 := s.mkRec b full e t 0
  let tp := (divNear (tp'.num * r0.w) tp'.den).toNat
  let hist := (t :: l.hist).take 512
  let l' : Lane := { l with
    st := if l.st = 4 then l.level else l.st, hist := hist, g := AGen.start { r0 with tp := tp } s.tb, tauPrev := some tau,
    tauHist := tput none l.tauHist (key r.pos r.half) (some tau), miss := if virt then l.miss + 1 else 0, cand := none }
  let s := (s.setLane b l').laneIndex b
  let s := if virt then s else s.modTrk fun z => { z with lastAcc := some t }
  let o := s.trk.out
  let take := !virt && o.valid && b != s.actLane && (s.trk.failed.isSome || (s.trk.req == some b && l'.base == o.base))
  let s := if active || take then (s.wr TRK_SPEED_T_RPM (rpm16 r.w iv)).speedR b else s
  if active then
    if !virt && decide (16 * 60 * 400000000 * r.w < s.stallRpm * (iv * 2 ^ 23)) then s.goStall
    else
      let s := if virt then s else s.diverge
      let s := s.outTooth l'.g late
      if virt then s else s.learnTooth l'.g.r
  else if take then s.switchLane b
  else if s.trk.req = some b ∧ !virt then s.modTrk fun z => { z with req := none }
  else s

/-- What a lane finds on its input is counted and reported: of two lanes on crank A, what the active one finds (R166 to R169,
R176). -/
def State.laneCounts (s : State) (b : Bool) : Bool := b == s.actLane || s.crankB

/-- An edge is noise (R166 to R168). -/
def State.laneNoise (s : State) (b : Bool) : State :=
  if s.laneCounts b then
    let s := (s.inc TRK_ERR_CNT0_NOISE).iflag 0x18 3
    (if b = s.actLane then s.learnSpoil else s).raise (srcLane b) 0x1C (s.lane b).g.r.pos
  else s

/-- SPEED_R is in the cranking range (R166). -/
def State.cranking (s : State) : Bool := decide (s.rd TRK_SPEED_R_RPM < s.rd TRK_CWIN_CRANK_RPM)

/-- The high bound of a lane's interval in 64ths of T_pred: HALT_LIMIT (R166, R168). -/
def State.highBound (s : State) (r : PRec) : Nat :=
  if s.gapAfter (r.pos, r.half) then s.rd TRK_WIN_GAP_HI
  else if s.cranking then s.rd TRK_CWIN_CWIN_HI else s.rd TRK_WIN_WIN_HI

/-- HALT_LIMIT passes without a tooth (R169). -/
def State.haltLimit (s : State) (b : Bool) : State :=
  let l := s.lane b
  let r := l.g.r
  let e := s.nextElem (l.base == 3) (r.pos, r.half)
  let byGap := s.gapAfter e || (e.1 % s.wheelN == 0 && !e.2)
  let s := if s.laneCounts b then (s.inc TRK_ERR_CNT1_MISS).iflag 0x18 4 else s
  if l.miss < s.missTol && !byGap then
    let s := if b = s.actLane then s.learnSpoil else s
    let s := if s.laneCounts b then s.raise (srcLane b) 0x1D e.1 else s
    s.laneAccept b (r.t + r.tp) true true
  else s.laneLost b (if byGap then 2 else 1)

/-- An edge of a lane in sync (R166 to R168); `n` bounds the virtual and candidate teeth that one edge may settle first. -/
def State.syncEdgeN : Nat → State → Bool → Nat → State
  | 0, s, _, _ => s
  | n + 1, s, b, t =>
    let l := s.lane b
    if !l.synced then s
    else
      let r := l.g.r
      let x := 64 * (t - r.t)
      let lo := if s.cranking then s.rd TRK_CWIN_CWIN_LO else s.rd TRK_WIN_WIN_LO
      match l.cand with
      | some tc =>
        if s.rd TRK_CONF_MERGE_LO * r.tp ≤ x ∧ x ≤ s.rd TRK_CONF_MERGE_HI * r.tp then
          ((s.laneNoise b).setLane b { l with cand := none }).laneAccept b t false false
        else ((s.setLane b { l with cand := none }).laneAccept b tc false true).syncEdgeN n b t
      | none =>
        if s.gapAfter (r.pos, r.half) then
          if x * s.gapG < lo * r.tp then s.laneNoise b
          else if x < s.rd TRK_WIN_GAP_LO * r.tp then s.laneLost b 3
          else if x ≤ s.rd TRK_WIN_GAP_HI * r.tp then s.laneAccept b t false false
          else (s.haltLimit b).syncEdgeN n b t
        else if x < lo * r.tp then s.laneNoise b
        else if !s.cranking && decide (x < s.rd TRK_CONF_CONF_LO * r.tp) then
          let s := s.setLane b { l with cand := some t }
          if b = s.actLane then s.learnSpoil else s
        else if x ≤ s.highBound r * r.tp then s.laneAccept b t false false
        else (s.haltLimit b).syncEdgeN n b t

/-- An accepted crank edge reaches a lane. The first one after NOSYNC or LOST takes the output to SEEK, and the search of the
active lane starts there (R160); an edge of crank B on the lane that stands by does so too (DEDUCED, assumption log 84). -/
def State.laneEdge (s : State) (b : Bool) (t : Nat) : State :=
  let l := s.lane b
  let fresh : Lane := { st := 1, hist := [t] }
  let idle := s.trk.out.st == 0 || s.trk.out.st == 5
  let s := if l.synced then s else s.modTrk fun z => { z with lastAcc := some t }
  if b = s.actLane ∧ idle ∧ !l.synced then (s.setLane b fresh).outState 1
  else
    let s := if idle && s.crankB then (s.setLane (!b) { ({} : Lane) with st := 1 }).outState 1 else s
    match l.st with
    | 0 | 5 => s.setLane b fresh
    | 1 => s.seekEdge b t
    | 6 => s
    | _ => s.syncEdgeN 4 b t

/-- The class of a crank A interval by its crank B edge (R180): true is reverse. -/
def State.ivClass (s : State) (t0 t1 tb : Nat) : Bool :=
  let l := s.lane s.actLane
  let w := if l.synced then l.g.r.w else s.cycM / s.cycP
  let x : Int := ((tb : Int) - t0) * w
  let f : Int := ((t1 : Int) - t0) * s.rd TRK_CRANK_B_OFS_B_OFS
  let r : Int := ((t1 : Int) - t0) * w - f
  decide ((x - r).natAbs < (x - f).natAbs)

/-- A crank A edge classes the interval that it ends; two reverse ones in a row give REVERSE, eight forward ones end it. -/
def State.classEdge (s : State) (t : Nat) : State :=
  let x := s.trk
  let cls := match x.aEdge, x.bEdge with
    | some t0, some tb => if s.crankB ∧ t0 < tb ∧ tb ≤ t then some (s.ivClass t0 t tb) else none
    | _, _ => none
  let s := (s.modTrk fun _ => { x with aEdge := some t })
  match cls with
  | none => s.modTrk fun z => { z with classes := [] }
  | some c =>
    let cs := (c :: x.classes).take 8
    let s := (s.modTrk fun z => { z with classes := cs })
    if s.trk.out.st = 6 then
      if cs.length = 8 ∧ cs.all (!·) then
        let l : Lane := { st := 1, hist := [t] }
        let s := (s.modTrk fun z => { z with p := l, s := if s.on TRK_LANE_CFG_S_EN then (if s.crankB then { st := 1 } else l) else {} })
        s.outState 1
      else s
    else
      match cs with
      | true :: true :: _ => s.goReverse 0
      | _ => s

/-- A delivered crank edge (R155, R176, R180). -/
def State.crankEdge (s : State) (cb : Bool) (t : Nat) : State :=
  let x0 := s.trk
  let s := if cb then (s.modTrk fun z => { z with bEdge := some t }) else s.classEdge t
  if s.trk.out.st = 6 then
    let s := s.modTrk fun z => { z with lastAcc := some t }
    match x0.aEdge with
    | some t0 => if !cb && s.slowIv (t - t0) then s.goStall else s
    | none => s
  else
    let sOn := s.on TRK_LANE_CFG_S_EN
    if cb then (if s.crankB && sOn then s.laneEdge true t else s)
    else
      -- the lane that stands by first, so that D compares both lanes at this tooth (R177)
      let both := sOn && !s.crankB
      let a := s.actLane
      let s := if a || both then s.laneEdge (!a) t else s
      if !a || both then s.laneEdge a t else s

/-- The oldest delivered edge of a port (R132, R175). -/
def State.trkTake (s : State) (p : Nat) : Option Nat × State :=
  match s.trkIn.find? fun (e : Nat × Nat) => e.1 == p with
  | some e => (some e.2, { s with trkIn := s.trkIn.erase e })
  | none => (none, s)

/-- A held candidate is confirmed when MERGE_HI passes (R167). -/
def State.candConfirm (s : State) (b : Bool) : State :=
  let l := s.lane b
  match l.cand with
  | some tc =>
    if l.synced && decide (s.rd TRK_CONF_MERGE_HI * l.g.r.tp ≤ 64 * (s.tb - l.g.r.t)) then
      (s.setLane b { l with cand := none }).laneAccept b tc false true
    else s
  | none => s

/-- The angle has held at the halt point for more than T_pred/64, since it reached it and since `since`, when a catch-up ended
(R172). -/
def AGen.held (g : AGen) (since now : Nat) : Bool :=
  match g.haltAt with
  | some h => g.atHalt && decide (g.r.tp < 64 * (now - max h since))
  | none => false

/-- HALTED (R160, R172). -/
def State.goHalted (s : State) : State :=
  let step (s : State) (b : Bool) : State :=
    let l := s.lane b
    if (l.st = 2 ∨ l.st = 3) ∧ l.g.held 0 s.tb then s.setLane b { l with st := 4, level := l.st } else s
  let s := step (step s false) true
  let o := s.trk.out
  if (o.st = 2 ∨ o.st = 3) ∧ o.e = 0 ∧ o.ahead = 0 ∧ o.g.held o.eAt s.tb then
    ((s.setOut { o with level := o.st }).outState 4).inc TRK_ERR_CNT0_HALT
  else s

/-- HALT_LIMIT of a lane has passed. -/
def State.limitPassed (s : State) (b : Bool) : Bool :=
  let l := s.lane b
  l.synced && l.cand.isNone && decide (s.highBound l.g.r * l.g.r.tp ≤ 64 * (s.tb - l.g.r.t))

/-- The stall time has passed without an accepted crank edge (R182). -/
def State.stalled (s : State) : Bool :=
  let pitches := if s.extraTooth then 2 else s.gapN + 2
  match s.trk.lastAcc with
  | some t => decide (pitches * 60 * 16 * 400000000 ≤ (s.tb - t) * (s.stallRpm * s.wheelN))
  | none => false

/-! ### Start and stop (R159, R160) -/

/-- The first failing check of R159. -/
def State.trkCheck (s : State) : Nat :=
  let r (f : Field) := s.rd f
  let bo := 8 * r TRK_CRANK_B_OFS_B_OFS * s.cycP
  let trk (p : Nat) : Bool := s.on (POS_CFG_TRK p)
  if s.wheelCheck ≠ 0 then s.wheelCheck
  else if !(decide (r TRK_WIN_WIN_LO < 64) && decide (64 < r TRK_WIN_WIN_HI) && decide (r TRK_CWIN_CWIN_LO < 64) &&
      decide (64 < r TRK_CWIN_CWIN_HI) && decide (r TRK_WIN_GAP_LO < 64) && decide (64 < r TRK_WIN_GAP_HI) &&
      decide (r TRK_SEEK_CFG_GR_LO < 64) && decide (64 < r TRK_SEEK_CFG_GR_HI)) then 3
  else if !(decide (r TRK_WIN_WIN_LO ≤ r TRK_CONF_CONF_LO) && decide (r TRK_CONF_CONF_LO ≤ 64) &&
      decide (r TRK_CONF_MERGE_LO ≤ 64) && decide (64 ≤ r TRK_CONF_MERGE_HI) &&
      decide (r TRK_CONF_MERGE_HI ≤ r TRK_WIN_WIN_HI)) then 4
  else if r TRK_SEEK_CFG_SEEK_TEETH < 2 then 5
  else if s.crankB && !(trk 1 && ((decide (s.cycM ≤ bo) && decide (bo ≤ 3 * s.cycM)) ||
      (decide (5 * s.cycM ≤ bo) && decide (bo ≤ 7 * s.cycM)))) then 6
  else if s.camOn && !(decide (1 ≤ r TRK_CAM_CFG_N_TEETH) && decide (r TRK_CAM_CFG_N_TEETH ≤ 24) &&
      ((List.range (r TRK_CAM_CFG_N_TEETH - 1)).all fun j =>
        decide (r (TRK_CAM_TOOTH_ANGLE j) < r (TRK_CAM_TOOTH_ANGLE (j + 1)))) &&
      (match r TRK_CAM_CFG_CAM_SRC with | 1 => trk 3 | 2 => trk 2 && trk 3 | _ => trk 2)) then 7
  else if !(s.on (PG_CTRL_EN 0x10) && trk 0) then 8
  else 0

/-- The write of PG_CTRL.EN = 1 (R159). -/
def State.trkStart (s : State) : State :=
  if s.on (PG_CTRL_EN 0x18) then s
  else
    let code := s.trkCheck
    let s := s.wr (PG_STAT_BLK 0x18) (putBits (s.rd (PG_STAT_BLK 0x18)) 0 8 code)
    if code ≠ 0 then s.cfgRec (srcId 0 0x0A 0xF) code 0xFFF else s.wr (PG_CTRL_EN 0x18) 1

/-- The tracker stops: PG_CTRL.EN := 0 or unit reset (R160, R165). -/
def State.trkHalt (s : State) : State :=
  let s := s.outState 0
  let s := s.learnStop 5
  let s := s.modTrk fun x => { x with
    p := {}, s := {}, failed := none, req := none, cams := [], met := [], cycClean := false, closed := [], errRun := 0,
    phaseRun := 0, divRun := 0, aEdge := none, bEdge := none, classes := [], lastAcc := none, out := { x.out with hasRec := false } }
  let s : State := { s with trkIn := [] }
  ((s.wr TRK_SYNC_STAT_CAM_FAIL 0).wr TRK_SYNC_STAT_CAM_ALT 0).wr TRK_SYNC_STAT_ACT_LANE 0

/-- SEL_REQ (R179). -/
def State.selReq (s : State) (b : Bool) : State :=
  let s := s.wr TRK_LANE_CTRL_SEL_LANE (b2n b)
  let o := s.trk.out
  let l := s.lane b
  if b ≠ s.actLane ∧ o.valid ∧ l.synced ∧ l.base = o.base then (s.modTrk fun z => { z with req := some b }) else s

/-- LEARN_CTRL.REQ (R185). -/
def State.learnReq (s : State) : State :=
  if s.runs learnTask || s.waits learnTask then s
  else
    let s := s.taskReq learnTask
    if s.runs learnTask then s.learnBegin else s.wr TRK_LEARN_STAT_RESULT 2

/-! ### The commands -/

/-- The tracker acts. -/
def trkOk (s : State) : Bool := State.tbd 0 s && s.running 0x18

/-- TRK_ENABLE (R159). -/
def execTrkEnable (t : Nat) (m : Master) (s : State) : Out :=
  s.act t (State.core 0) fun s => s.guarded m 0x18 8 1 State.trkStart

/-- TRK_CRANK_EDGE (R155, R162, R166 to R168, R180). -/
def execTrkCrankEdge (t : Nat) (b : Bool) (s : State) : Out :=
  s.act t trkOk fun s =>
    match s.trkTake (b2n b) with
    | (some e, s) => s.trkTickBefore.crankEdge b e
    | (none, s) => s

/-- TRK_CAM_EDGE (R163 to R165, R181). -/
def execTrkCamEdge (t : Nat) (pos3 : Bool) (s : State) : Out :=
  s.act t trkOk fun s =>
    match s.trkTake (2 + b2n pos3) with
    | (some e, s) => s.trkTick.camEdge e pos3
    | (none, s) => s

/-- CAM_WINDOW_CLOSE (R165). -/
def execCamWindowClose (t : Nat) (j : Fin 24) (s : State) : Out := s.act t trkOk fun s => s.trkTick.camClose j

/-- CANDIDATE_CONFIRM (R167). -/
def execCandidateConfirm (t : Nat) (laneS : Bool) (s : State) : Out := s.act t trkOk fun s => s.trkTickBefore.candConfirm laneS

/-- HALTED (R160, R172). -/
def execTrkHalted (t : Nat) (s : State) : Out := s.act t trkOk fun s => s.trkTick.goHalted

/-- HALT_LIMIT (R169). -/
def execHaltLimit (t : Nat) (laneS : Bool) (s : State) : Out :=
  s.act t trkOk fun s =>
    let s := s.trkTickBefore
    if s.limitPassed laneS then s.haltLimit laneS else s

/-- STALL (R160, R182): a tooth that is missing at this instant comes first, and where it makes the state LOST, that wins (R160). -/
def execTrkStall (t : Nat) (s : State) : Out :=
  s.act t trkOk fun s =>
    let s := s.trkTickBefore
    let was := s.trk.out.st
    let s := if s.limitPassed s.actLane then s.haltLimit s.actLane else s.trkTick
    if s.trk.out.st == 5 && was != 5 then s else if s.stalled then s.goStall else s

/-- MICRO_TICK (R172, R173): the micro-ticks since the last. -/
def execMicroTick (t : Nat) (s : State) : Out :=
  s.act t (State.tbd 0) fun s => (if s.running 0x18 then s.trkTick else s).asFollower State.outTick

/-- SEL_REQ (R179). -/
def execSelReq (t : Nat) (m : Master) (laneS : Bool) (s : State) : Out :=
  s.act t (State.core 0) fun s => s.guarded m 0x18 0xA8 (2 + b2n laneS) fun s => s.selReq laneS

/-- TBL_DATA_ACCESS (R184). -/
def execTblDataAccess (t : Nat) (m : Master) (w : Option Word) (s : State) : Out :=
  s.act t (State.core 0) fun s =>
    match w with
    | none => s.guardedRead m (pageAddr 0x18 0xC4) State.tblStep
    | some v => s.guarded m 0x18 0xC4 v.toNat fun s => s.tblWrite (v.toNat % 65536)

/-- TBL_COMMIT (R184): COMMIT is written with SEL and IDX as they stand. -/
def execTblCommit (t : Nat) (m : Master) (s : State) : Out :=
  s.act t (State.core 0) fun s => s.guardedMask m 0x18 0xC0 0x80000000 0x80000000 State.tblCommit

/-- LEARN_REQ (R185). -/
def execLearnReq (t : Nat) (m : Master) (s : State) : Out :=
  s.act t (State.core 0) fun s => s.guardedMask m 0x18 0xB0 0x80000000 0x80000000 State.learnReq

/-- LEARN_ABORT (R185). -/
def execLearnAbort (t : Nat) (m : Master) (s : State) : Out :=
  s.act t (State.core 0) fun s => s.guardedMask m 0x18 0xB0 0x40000000 0x40000000 fun s => s.learnStop 6

/-- LEARN_DONE (R186). -/
def execLearnDone (t : Nat) (s : State) : Out := s.act t (State.core 0) State.learnDone

/-- STUCK (R140, R155): a stuck crank port is a failed input of the tracker. -/
def execPosStuck (t : Nat) (p : PosPort) (s : State) : Out :=
  s.act t (State.tbd 0) fun s =>
    let was := s.on (POS_STAT_STUCK p)
    let s := s.posStuck p
    if s.on (POS_STAT_STUCK p) && !was then s.trkPortFail p else s

end Sys2Proof.Machine
end

