-- ==== Sys2Proof/Machine/Link.lean ====
section
/-! DEFINITION. Crexa links: frames, their transmission and forwarding, training (R410 to R419, R432, R438). -/

namespace Sys2Proof.Machine

open Reg

/-! ### Links -/

/-- What link `x` holds. -/
def State.lnk (s : State) (x : Nat) : LinkS := tget {} s.casc.links x

/-- What the cascade holds changes. -/
def State.modCasc (s : State) (f : CascS → CascS) : State := { s with casc := f s.casc }

/-- What link `x` holds changes. -/
def State.modLnk (s : State) (x : Nat) (f : LinkS → LinkS) : State :=
  s.modCasc fun c => { c with links := tput {} c.links x (f (s.lnk x)) }

/-- The SRC_ID of a link (R441). -/
def srcLink (x : Nat) : Nat := srcId 3 (0x0C + x) 0

/-- LINK_STAT.STATE (R417). -/
def State.linkState (s : State) (x : Nat) : Nat := s.rd (LINK_LINK_STAT_STATE x)

/-- The link is UP. -/
def State.linkUp (s : State) (x : Nat) : Bool := s.linkState x == 4

/-- The link agreed version 2.0 (R418). -/
def State.link2 (s : State) (x : Nat) : Bool := s.rd (LINK_LINK_STAT_VER x) == 0x20

/-- CASC_ID. -/
def State.ownId (s : State) : Nat := s.rd CASC_CASC_STAT_ID

/-- The links. -/
def links : List Nat := [0, 1, 2, 3]

/-! ### Frames (R412 to R415) -/

/-- Payload bytes of a TYPE; none for an unknown TYPE. -/
def typLen (typ : Nat) : Option Nat :=
  match typ with
  | 1 | 5 | 6 => some 8
  | 2 => some 40
  | 3 | 4 | 7 => some 4
  | _ => none

/-- The time a frame takes with two K28.5 after it, in fifths of a tick: 8 ns for each byte. -/
def frameFifths (typ : Nat) : Nat := 16 * ((typLen typ).getD 0 + 10)

/-- The order among waiting frames (R415). -/
def typOrder (typ : Nat) : Nat :=
  match typ with
  | 2 => 0
  | 7 => 1
  | 3 => 2
  | 4 => 3
  | 6 => 4
  | 5 => 5
  | _ => 6

/-- The link carries frames of a TYPE (R414, R418, R436, R437). -/
def State.carries (s : State) (x typ : Nat) : Bool :=
  s.linkUp x && (typLen typ).isSome && (decide (typ ≤ 4) || s.link2 x) &&
  (!(typ == 5 || typ == 6) || bit (s.rd (LINK_LINK_STAT_CAP x)) 0)

/-- The earliest due time of waiting frames. -/
def firstDue : List WaitF → Option Nat
  | [] => none
  | w :: r => match firstDue r with
    | none => some w.due
    | some t => some (min w.due t)

/-- The frame that goes first of those due by an instant, in fifths of a tick. -/
def nextFrame (t5 : Nat) : List WaitF → Option WaitF
  | [] => none
  | w :: r =>
    let b := nextFrame t5 r
    if t5 < 5 * w.due then b
    else
      match b with
      | none => some w
      | some v => if typOrder v.f.typ < typOrder w.f.typ then some v else some w

/-- A frame as its transmission starts: an own beacon carries the angle and the timebase of that instant, a PONG the ticks since
its PING (R419, R421). -/
def State.filled (s : State) (w : WaitF) (now : Nat) : Frm :=
  match w.ang, w.ping with
  | some o, _ =>
    let p := w.f.pay
    { w.f with pay := (p.getD 0 0 / 2 ^ 24 * 2 ^ 24 + s.outAt o now) :: (now / 2 ^ 32) :: (now % 2 ^ 32) :: p.drop 3 }
  | none, some t => { w.f with pay := [w.f.pay.getD 0 0, now - t] }
  | none, none => w.f

/-- The bytes of a frame between K27.7 and K29.7 (R412): payload words most significant byte first, the CRC-32 least significant
byte first. -/
def Frm.wire (f : Frm) : List Nat :=
  let bs := (f.typ % 16 * 16 + f.hops % 4 * 4 + f.orig % 4) :: f.seq % 256 :: f.pay.flatMap (bytesBE 4)
  bs ++ bytesLE 4 (crc32 bs)

/-- The frames of link `x` whose time has come start, one after the other (R415). -/
def State.txRunN : Nat → State → Nat → State
  | 0, s, _ => s
  | n + 1, s, x =>
    let l := s.lnk x
    match firstDue l.wait with
    | none => s
    | some d =>
      let t5 := max l.free_ (5 * d)
      if 5 * s.tb < t5 then s
      else
        match nextFrame t5 l.wait with
        | none => s
        | some w =>
          let f := s.filled w (t5 / 5)
          let s := s.modLnk x fun l => { l with wait := l.wait.erase w, free_ := t5 + frameFifths w.f.typ }
          ((s.modCasc fun c => { c with sent := c.sent ++ [⟨x, t5 / 5, f, f.wire⟩] }).inc (LINK_FRM_CNT_TX x)).txRunN n x

/-- The next frame of this device's own: HOPS 0, its ID, and a count (R412). -/
def State.ownFrame (s : State) (typ : Nat) (pay : List Nat) : Frm × State :=
  ({ typ, orig := s.ownId, seq := s.casc.seq, pay }, s.modCasc fun c => { c with seq := (c.seq + 1) % 256 })

/-- The version offered (R418). -/
def State.verOffer (s : State) (x : Nat) : Nat := if s.rd (LINK_LINK_CFG_VER_MAX x) = 0x10 then 0x10 else 0x20

/-- The words of a TRAIN (R413). -/
def State.trainWords (s : State) (x : Nat) (ack ping pong : Bool) : List Nat :=
  [s.verOffer x * 2 ^ 24 + s.rd (LINK_LINK_CFG_CAP x) * 2 ^ 16 + s.ownId * 2 ^ 14 + s.rd CASC_CASC_STAT_MEN * 2 ^ 13 +
    b2n ack * 2 ^ 12 + b2n ping * 2 ^ 11 + b2n pong * 2 ^ 10, 0]

/-- In EXCHANGE a TRAIN is due every 1 µs, with ACK once a valid TRAIN has arrived (R417): those that are due by now wait. -/
def State.trainDue (s : State) (x : Nat) : State :=
  let d := (s.lnk x).trainAt
  if s.linkState x ≠ 2 ∨ s.tb < d then s
  else
    (List.range ((s.tb - d) / 400 + 1)).foldl
      (fun s i =>
        let (f, s) := s.ownFrame 1 (s.trainWords x (s.lnk x).ack false false)
        s.modLnk x fun l => { l with wait := l.wait ++ [{ f, due := d + 400 * i }], trainAt := d + 400 * (i + 1) }) s

/-- Transmission up to now. -/
def State.txRun (s : State) (x : Nat) : State :=
  let s := s.trainDue x
  s.txRunN (s.lnk x).wait.length x

/-- Transmission up to now on every link. -/
def State.txAll (s : State) : State := links.foldl State.txRun s

/-- A frame is due on link `x`. -/
def State.txPut (s : State) (x : Nat) (w : WaitF) : State :=
  ((s.txRun x).modLnk x fun l => { l with wait := l.wait ++ [w] }).txRun x

/-- A frame of this device on every link that carries it. -/
def State.sendOwn (s : State) (typ : Nat) (pay : List Nat) : State :=
  let (f, s) := s.txAll.ownFrame typ pay
  (links.filter fun x => s.carries x typ).foldl (fun s x => s.txPut x { f, due := s.tb }) s

/-! ### Events to the other devices (R438, R439) -/

/-- The cascade takes part: CASC is enabled and runs. -/
def State.cascOn (s : State) : Bool := s.running 0xCC

/-- An event of destination LEVT `d`; it merges with one that has not been sent (R438). -/
def State.levt (s : State) (d : Nat) : State :=
  if !s.cascOn then s
  else
    let s := s.txAll
    let pay := [d * 2 ^ 30]
    if links.any fun x => (s.lnk x).wait.any fun w => w.f.typ == 4 && w.f.orig == s.ownId && w.f.pay == pay then
      s.inc CASC_CNT1_MERGE
    else s.sendOwn 4 pay

/-- LINK_BCAST (R439). -/
def State.linkBcast (s : State) (param : Nat) : State :=
  if s.cascOn then s.sendOwn 4 [2 ^ 31 + param % 65536] else s

/-! ### The duplex pair (R432) -/

/-- Both links of the pair lead to the same peer at 2.0 with DUPLEX agreed, and are UP. -/
def State.dupReady (s : State) : Bool :=
  let xs := links.filter fun x => bit (s.rd CASC_CASC_CFG_DUP_LINKS) x
  s.on CASC_CASC_CFG_DUP_EN && xs.length == 2 &&
  xs.all fun x => s.linkUp x && s.link2 x && bit (s.rd (LINK_LINK_STAT_CAP x)) 1 &&
    s.rd (LINK_LINK_STAT_PEER_ID x) == s.rd (LINK_LINK_STAT_PEER_ID (xs.headD 0))

/-- READY follows; its fall is a duplex record (R432, R443). -/
def State.dupEval (s : State) : State :=
  let r := s.dupReady
  if s.on CASC_DUP_STAT_READY = r then s
  else
    let s := (s.wr CASC_DUP_STAT_READY (b2n r)).iflag 0xCC 5
    if r then s else s.raise (srcId 3 0x10 0) 0x5A 0

/-! ### Training (R417 to R419) -/

/-- A link begins a state of training: nothing waits. -/
def State.linkEnter (s : State) (x st : Nat) : State :=
  let s := s.modLnk x fun l => { l with ack := false, pairs := [], since := s.tb, wait := [] }
  let s := s.modCasc fun c => { c with hops := c.hops.filter fun e => e.1 / 4 != x }
  (s.wr (LINK_LINK_STAT_STATE x) st).dupEval

/-- A TRAIN frame of MEASURE, or the PONG that answers a PING (R413, R419). -/
def State.trainSend (s : State) (x : Nat) (ack ping pong : Bool) (re : Option Nat) : State :=
  let (f, s) := s.ownFrame 1 (s.trainWords x ack ping pong)
  s.txPut x { f, due := s.tb, ping := re }

/-- Training has failed (R417). -/
def State.linkFail (s : State) (x code : Nat) : State :=
  let s := (s.linkEnter x 5).wr (LINK_LINK_STAT_FAIL_CODE x) code
  let s := s.iflag (0xC8 + x) 2
  if code = 3 then s else s.cfgRec (srcId 3 (0x0C + x) 3) code 0xFFF

/-- A valid TRAIN with ACK: version and capabilities are agreed (R418). -/
def State.linkAgree (s : State) (x w0 : Nat) : State :=
  let two := decide (0x20 ≤ bits w0 24 8) && s.verOffer x == 0x20
  let cap := Nat.land (bits w0 16 8) (s.rd (LINK_LINK_CFG_CAP x))
  let s := (s.linkEnter x 3).wr (LINK_LINK_STAT_VER x) (if two then 0x20 else 0x10)
  let s := s.wr (LINK_LINK_STAT_CAP x) (if two then cap else Nat.land cap 4)
  (s.modLnk x fun l => { l with ack := true }).trainSend x true true false none

/-- The sixteen pairs are done (R417, R419). The pairs hold ten times their delays. -/
def State.linkMeasured (s : State) (x : Nat) : State :=
  let ps := (s.lnk x).pairs
  let hi := ps.foldl max (ps.headD 0)
  let lo := ps.foldl min (ps.headD 0)
  let sum := ps.foldl (· + ·) 0
  if 400 * 160 < sum ∨ 80 < hi - lo then s.linkFail x 3
  else
    let s := (s.linkEnter x 4).wr (LINK_DELAY_DELAY x) (divNear sum 160).toNat
    let s := s.wr (LINK_DELAY_SPREAD x) (satN 8 (divNear (hi - lo) 10).toNat)
    ((s.modLnk x fun l => { l with lastValid := s.tb }).iflag (0xC8 + x) 0).dupEval

/-- A PONG ends a pair: `rt` is the round trip; a PING of 16 bytes takes 51.2 ticks (R419). -/
def State.linkPair (s : State) (x res rt : Nat) : State :=
  let d : Int := 5 * ((rt : Int) - res) - 256
  let s := s.modLnk x fun l => { l with pairs := l.pairs ++ [d] }
  if 16 ≤ (s.lnk x).pairs.length then s.linkMeasured x else s.trainSend x true true false none

/-- A TRAIN frame is received. -/
def State.trainRx (s : State) (x w0 w1 rt : Nat) : State :=
  let st := s.linkState x
  if st < 2 ∨ 4 < st then s
  else
    let s := ((s.txRun x).inc (LINK_FRM_CNT_RX x)).modLnk x fun l => { l with lastValid := s.tb }
    if st = 2 then
      if bits w0 14 2 = s.ownId then s.linkFail x 1
      else if bits w0 24 8 < 0x10 then s.linkFail x 2
      else
        let s := (s.wr (LINK_LINK_STAT_PEER_ID x) (bits w0 14 2)).wr (LINK_LINK_STAT_PEER_MEN x) (bitN w0 13)
        if bit w0 12 then s.linkAgree x w0 else s.modLnk x fun l => { l with ack := true }
    else
      let s := if bit w0 11 then s.trainSend x true false true (some s.tb) else s
      if st = 3 then
        if bit w0 10 then s.linkPair x w1 rt
        else if bit w0 11 then s
        else s.trainSend x true false false none
      else s

/-- PG_CTRL.EN := 1 (R417). -/
def State.linkStart (s : State) (x : Nat) : State :=
  if s.on (PG_CTRL_EN (0xC8 + x)) then s
  else (((s.wr (PG_CTRL_EN (0xC8 + x)) 1).wr (LINK_LINK_STAT_FAIL_CODE x) 0).linkEnter x 1)

/-- PG_CTRL.EN := 0, or unit reset (R417). -/
def State.linkStop (s : State) (x : Nat) : State := (s.linkEnter x 0).wr (LINK_LINK_STAT_LOCK x) 0

/-- The link links' blocks act. -/
def State.linkRuns (s : State) (x : Nat) : Bool := s.running (0xC8 + x)

/-- The link falls from UP (R417). -/
def State.linkFall (s : State) (x cause : Nat) : State :=
  let s := (s.linkEnter x 1).inc (LINK_ERR_CNT_DOWN x)
  ((s.wr (LINK_LINK_STAT_LOCK x) 0).iflag (0xC8 + x) 1).raise (srcLink x) 0x57 cause

/-- A received frame is discarded (R414). -/
def State.frameDiscard (s : State) (x cause : Nat) : State :=
  let s := s.inc (match cause with | 1 => LINK_ERR_CNT_CV x | 2 => LINK_ERR_CNT_CRC x | _ => LINK_ERR_CNT_FORMAT x)
  (s.iflag (0xC8 + x) 3).raise (srcLink x) 0x56 cause

/-! ### Reception and forwarding (R416) -/

/-- The ways to device `n`: links that carry RREQ and RRSP with their hops. -/
def State.ways (s : State) (n : Nat) : List (Nat × Nat) :=
  links.filterMap fun x =>
    if !s.carries x 5 then none
    else if s.rd (LINK_LINK_STAT_PEER_ID x) = n then some (1, x)
    else
      let h := tget 0 s.casc.hops (4 * x + n)
      if h = 0 then none else some (h, x)

/-- The link with the fewest hops to a device; the lower number breaks a tie. -/
def State.wayTo (s : State) (n : Nat) : Option Nat :=
  (s.ways n).foldl (fun b w => match b with
    | none => some w
    | some v => if w.1 < v.1 then some w else some v) none |>.map (·.2)

/-- A frame goes on, one hop further, on the links that it takes from here. -/
def State.forward (s : State) (x : Nat) (f : Frm) : State :=
  if 2 ≤ f.hops then s
  else
    let ys := if f.typ = 5 ∨ f.typ = 6 then
        (match s.wayTo (bits (f.pay.getD 0 0) 30 2) with
         | some y => if y = x then [] else [y]
         | none => [])
      else links.filter fun y => y != x && s.carries y f.typ
    (ys.filter fun y => bit (s.rd (LINK_LINK_STAT_CAP y)) 2).foldl
      (fun s y =>
        if f.typ = 2 then
          -- LAT takes the receiving link's DELAY and the residence, which the spec does not fix (R422)
          let (r, s) := s.free
          let w3 := f.pay.getD 3 0
          let lat := satN 16 (w3 % 65536 + s.rd (LINK_DELAY_DELAY x) + r % 65536)
          s.txPut y { f := { f with hops := f.hops + 1, pay := f.pay.set 3 (w3 / 65536 * 65536 + lat) }, due := s.tb }
        else s.txPut y { f := { f with hops := f.hops + 1 }, due := s.tb })
      s

/-- A valid frame of a TYPE is received on a link that is UP: only its first copy is taken, and goes on (R416). `here` says
whether this device acts on it. -/
def State.rxFrame (s : State) (x : Nat) (h : LinkHdr) (typ : Nat) (ws : List Nat) (take : State → Frm → State)
    (here : State → Bool) : State :=
  let f : Frm := { typ, hops := bits h.h0.toNat 2 2, orig := bits h.h0.toNat 0 2, seq := h.h1.toNat % 256, pay := ws }
  if !(s.linkRuns x && s.carries x typ && bits h.h0.toNat 4 4 == typ && typLen typ == some (4 * ws.length)) then s
  else
    let s := (s.txAll.inc (LINK_FRM_CNT_RX x)).modLnk x fun l => { l with lastValid := s.tb }
    let s := if f.orig = s.ownId then s else s.modCasc fun c => { c with hops := tput 0 c.hops (4 * x + f.orig) (f.hops + 1) }
    let old := s.casc.seen.filter fun (e : Nat × Nat × Nat) => decide (s.tb < e.2.2 + 4000)
    if f.orig = s.ownId ∨ old.any (fun (e : Nat × Nat × Nat) => e.1 == f.orig && e.2.1 == f.seq) then s
    else
      let s := s.modCasc fun c => { c with seen := old ++ [(f.orig, f.seq, s.tb)] }
      if typ = 5 ∨ typ = 6 then (if here s then take s f else s.forward x f)
      else if here s then take (s.forward x f) f
      else s.forward x f

/-! ### The commands of links -/

/-- A link or cascade command begins: the frames that started before it are no longer listed. -/
def State.linkBegin (s : State) : State := (s.modCasc fun c => { c with sent := [] }).txAll

/-- Links and cascade act: they stop with PLL_SYS, and their time is TB time (R41, R48). -/
def linkOk (s : State) : Bool := State.core 3 s && s.tbOn

/-- LINK_ENABLE (R417). -/
def execLinkEnable (t : Nat) (m : Master) (x : Link) (s : State) : Out :=
  s.act t (State.core 3) fun s => s.linkBegin.guardedMask m (0xC8 + x.val) 8 1 1 fun s => s.linkStart x

/-- LINK_ALIGNED (R417). -/
def execLinkAligned (t : Nat) (x : Link) (s : State) : Out :=
  s.act t linkOk fun s =>
    let s := s.linkBegin
    if s.linkRuns x && s.linkState x == 1 then
      let now := s.tb
      (((s.linkEnter x 2).wr (LINK_LINK_STAT_LOCK x) 1).modLnk x fun l => { l with trainAt := now }).txRun x
    else s

/-- TRAIN (R417 to R419). -/
def execLinkTrain (t : Nat) (x : Link) (w0 w1 : Word) (roundTrip : Nat) (s : State) : Out :=
  s.act t linkOk fun s =>
    let s := s.linkBegin
    if s.linkRuns x then s.trainRx x w0.toNat w1.toNat roundTrip else s

/-- LINK_TRAIN_TIMEOUT (R417): 1 ms without reaching the next state. -/
def execLinkTrainTimeout (t : Nat) (x : Link) (s : State) : Out :=
  s.act t linkOk fun s =>
    let s := s.linkBegin
    let st := s.linkState x
    if s.linkRuns x && decide (1 ≤ st) && decide (st ≤ 3) && decide ((s.lnk x).since + 400000 ≤ s.tb) then
      ((s.linkEnter x 1).wr (LINK_LINK_STAT_LOCK x) 0).inc (LINK_TRAIN_CNT_RETRY x)
    else s

/-- LINK_DOWN (R417): cause 1 lock lost, 2 code violations, 3 no valid frame for 30 µs. -/
def execLinkDown (t : Nat) (x : Link) (cause : Fin 4) (s : State) : Out :=
  s.act t linkOk fun s =>
    let s := s.linkBegin
    if s.linkRuns x && s.linkUp x && cause.val != 0 && (cause.val != 3 || decide ((s.lnk x).lastValid + 12000 ≤ s.tb)) then
      s.linkFall x cause
    else s

/-- LINK_FRAME_DISCARD (R414): causes 1 to 5 of R506. -/
def execLinkFrameDiscard (t : Nat) (x : Link) (cause : Fin 6) (s : State) : Out :=
  s.act t linkOk fun s =>
    let s := s.linkBegin
    if s.linkRuns x && decide (2 ≤ s.linkState x) && decide (s.linkState x ≤ 4) && cause.val != 0 then s.frameDiscard x cause
    else s

/-- LINK_BCAST (R198, R439). -/
def execEvtLinkBcast (t : Nat) (i : Entry) (s : State) : Out :=
  s.act t (State.tbd 0) fun s =>
    s.linkBegin.fireShared i 0x20 (fun s _ _ o => s.linkBcast o.e.param) (fun s _ => s)

end Sys2Proof.Machine
end

