-- ==== Sys2Proof/Machine/Gpt.lean ====
section
/-! DEFINITION. The timebase's alarm and the general timers (R353 to R367). -/

namespace Sys2Proof.Machine

open Reg

/-! ### Timers and pairs (their counts stand in Access.lean) -/

/-- PAIR_CNT of pair `i` (R362). -/
def State.gpPairCnt (s : State) (i : Nat) : Nat := s.gpCount (2 * i) + 2 ^ 32 * s.gpCount (2 * i + 1)

/-- The timers that take a trigger from timer `n` in mode `k` (R359). -/
def State.gpSlaves (s : State) (n k : Nat) : List Nat :=
  (List.range 16).filter fun j =>
    s.gpGov j == j && s.on (GPT_GPT_CFG_EN j) && s.gpMode j == k && s.on (GPT_GPT_CFG_TSRC j) && s.rd (GPT_GPT_CFG_MSTR j) == n

/-- STAT.OUTL changes; the timers it gates count up to now first. -/
def State.gpOutl (s : State) (n v : Nat) : State :=
  ((s.gpSlaves n 1).foldl (fun s j => s.gpSync j s.tb) s).wr (GPT_STAT_OUTL n) v

/-- A flag of timer `n` with its interrupt (R364): `b` is its bit in IRQ. -/
def State.gpFlag (s : State) (n b : Nat) : State := if bit (s.rd (GPT_GPT_CFG_IRQ n)) b then s.iflag 0xB1 n else s

/-- One count by a trigger event in clock mode (R359). -/
def State.gpClock (s : State) (n : Nat) : State := s.modGp n fun x => { x with pos := x.pos + 1 }

/-- A wrap of timer `n` (R358, R359, R364). -/
def State.gpWrapEffect (s : State) (n : Nat) : State :=
  let s := ((s.setBits (GPT_STAT_OVF n) 1).gpFlag n 1).gpOutl n 0
  let r := s.rd (GPT_GPT_CFG_RSRC n)
  let s := if r = 1 ∨ r = 3 then s.pulse (224 + n) else s
  (s.gpSlaves n 3).foldl State.gpClock s

/-- The laps timer `n` has completed. -/
def State.gpLaps (s : State) (n : Nat) : Nat :=
  let g := s.gpGov n
  (s.gp g).pos / (if n = g then s.gpLap n else 2 ^ 64)

/-- A wrap that is due is handled. -/
def State.gpWrapDue (s : State) (n : Nat) : State :=
  let s := s.gpSync (s.gpGov n) s.tb
  if (s.gp n).laps < s.gpLaps n then (s.modGp n fun x => { x with laps := x.laps + 1 }).gpWrapEffect n else s

/-- A trigger event resets the count, before this cycle's count update (R359, R361). -/
def State.gpReset (s : State) (n : Nat) : State :=
  let x := s.gp n
  if s.gpGov n ≠ n || !s.on (GPT_GPT_CFG_EN n) || s.gpMode n != 2 || x.trigs == 0 then s
  else
    let s := s.gpSync n (s.tb - 1)
    let m := s.gpCmpLap n
    let w := s.gpCmp n
    let tgt := if !x.arm || decide (m ≤ w) then none else some (if w = 0 then m else w)
    let s := s.modGp n fun x => { x with trigs := x.trigs - 1, pos := 0, laps := 0, tgt := tgt }
    if s.gpPair n then s.modGp (n + 1) fun x => { x with laps := 0 } else s

/-- A match of timer `n` (R359, R360, R364, R320). -/
def State.gpMatchEffect (s : State) (n : Nat) : State :=
  let s := ((s.setBits (GPT_STAT_MATCH n) 1).gpFlag n 0).gpOutl n 1
  let r := s.rd (GPT_GPT_CFG_RSRC n)
  let s := if r = 0 ∨ r = 3 then s.pulse (224 + n) else s
  let s := (s.gpSlaves n 2).foldl (fun s j => s.modGp j fun x => { x with trigs := x.trigs + 1 }) s
  let s := if s.on (GPT_CMP_MODE_ONESHOT n) then s.modGp n fun x => { x with arm := false, tgt := none } else s
  s.cmpWindowOpen n

/-- A match that is due fires; a trigger reset and a wrap at or before it come first (R361). -/
def State.gpMatch (s : State) (n : Nat) : State :=
  if s.gpGov n ≠ n then s
  else
    let s := (s.gpReset n).gpSync n s.tb
    let x := s.gp n
    if x.forced then (s.modGp n fun x => { x with forced := false }).gpMatchEffect n
    else
      match x.tgt with
      | none => s
      | some q =>
        if x.pos < q then s
        else
          let s := if x.laps < q / s.gpLap n then s.gpWrapDue n else s
          let m := s.gpCmpLap n
          (s.modGp n fun x => { x with tgt := some (q + m) }).gpMatchEffect n

/-- The match that timer `n` has still to fire before its next wrap. -/
def State.gpMatchFirst (s : State) (n : Nat) : Bool :=
  match (s.gp n).tgt with
  | some q => s.gpGov n == n && decide (q ≤ (s.gp n).pos) && decide (q < ((s.gp n).laps + 1) * s.gpLap n)
  | none => false

/-- A wrap that is due is handled, after a trigger reset and after a match of the lap that ends (R359, R361). -/
def State.gpWrap (s : State) (n : Nat) : State :=
  let s := (s.gpReset n).gpSync (s.gpGov n) s.tb
  (if s.gpMatchFirst n then s.gpMatch n else s).gpWrapDue n

/-- The compare judged against the count as it stands (R360). -/
def State.gpJudge (s : State) (n : Nat) (force : Bool) : State :=
  let m := s.gpCmpLap n
  let w := s.gpCmp n
  let p := (s.gp n).pos
  let c := p % m
  if m ≤ w then s.modGp n fun x => { x with arm := true, tgt := none, forced := false }
  else if c < w then s.modGp n fun x => { x with arm := true, tgt := some (p - c + w), forced := false }
  else if w = 0 ∧ c = m - 1 then s.modGp n fun x => { x with arm := true, tgt := some (p + 1), forced := false }
  else s.modGp n fun x => { x with arm := true, tgt := some (p - c + m + w), forced := force }

/-- CMP_MODE.ARMED (R360). -/
def State.gpArmed (s : State) (n : Nat) : Bool := (s.gp n).arm && decide (s.gpCmp n < s.gpCmpLap n)

/-- A compare value has been written to timer or pair `n` (R360); a match in this cycle belongs to the old value (R361). -/
def State.gpCmpTaken (s : State) (n : Nat) (put : State → State) : State :=
  let s := put (s.gpMatch n)
  s.gpJudge n (s.on (GPT_CMP_MODE_FORCE_IF_PASSED n))

/-- A write of CMP of timer `n`: a member of a pair only stores it (R362). -/
def State.gpCmpWrite (s : State) (n v : Nat) : State :=
  if s.gpPair n then s.wr (GPT_CMP_CMP n) v else s.gpCmpTaken n fun s => s.wr (GPT_CMP_CMP n) v

/-- A write of both halves of PAIR_CMP `i` (R362, R84): an unchained pair only stores them. -/
def State.gpPairWrite (s : State) (i lo hi : Nat) : State :=
  let put (s : State) : State := (s.wr (GPT_PAIR_CMP_LO_CMP i) lo).wr (GPT_PAIR_CMP_HI_CMP i) hi
  if s.gpPair (2 * i) then s.gpCmpTaken (2 * i) put else put s

/-- A trigger event of router destination 16 + n reaches timer `n` (R359, R363). -/
def State.gpDest (s : State) (n : Nat) : State :=
  if s.gpGov n ≠ n then s
  else
    let s := if s.rd (GPT_GPT_CFG_CAP_SRC n) = 1 then s.modGp n fun x => { x with caps := x.caps + 1 } else s
    if !s.on (GPT_GPT_CFG_EN n) || s.on (GPT_GPT_CFG_TSRC n) then s
    else
      match s.gpMode n with
      | 2 => s.modGp n fun x => { x with trigs := x.trigs + 1 }
      | 3 => s.gpClock n
      | _ => s

/-! ### Starting and stopping (R358) -/

/-- The timer starts from its count, or its pair's. -/
def State.gpStart (s : State) (n : Nat) : State :=
  if s.gpGov n ≠ n then s
  else
    let c := s.gpCount n + (if s.gpPair n then 2 ^ 32 * s.gpCount (n + 1) else 0)
    let laps := c / s.gpLap n
    let now := s.tb
    let s := s.modGp n fun x => { x with at_ := now, pos := c, frac := 0, laps := laps, trigs := 0, caps := 0 }
    let s := if s.gpPair n then s.modGp (n + 1) fun x => { x with laps := 0 } else s
    if (s.gp n).arm then
      let f := (s.gp n).forced
      (s.gpJudge n false).modGp n fun x => { x with forced := f }
    else s

/-- The timer stops where it stands. -/
def State.gpStop (s : State) (n : Nat) : State :=
  if s.gpGov n ≠ n then s
  else
    let lo := s.gpCount n
    let s := s.gpSync n s.tb
    if s.gpPair n then
      let hi := s.gpCount (n + 1)
      (s.modGp n fun x => { x with pos := lo }).modGp (n + 1) fun x => { x with pos := hi }
    else s.modGp n fun x => { x with pos := lo }

/-- A write of GPT_CFG (R358); a count that stands still stands still up to now. -/
def State.gpCfg (s : State) (n v : Nat) : State :=
  let s := s.gpSync (s.gpGov n) s.tb
  let was := s.on (GPT_GPT_CFG_EN n)
  let off := was && !bit v 31
  let s := if off then s.gpStop n else s
  let s := s.plainWrite 0xB1 (0x100 + 0x20 * n) v 0xFFFFFFFF
  if !was && bit v 31 then s.gpStart n else s

/-- A write of COUNT. -/
def State.gpCountWrite (s : State) (n v : Nat) : State :=
  let g := s.gpGov n
  if s.gpPair n && n != g && s.on (GPT_GPT_CFG_EN g) then
    (s.gpSync g s.tb).modGp g fun x => { x with pos := x.pos % 2 ^ 32 + 2 ^ 32 * (v % 2 ^ 32) }
  else s.modGp n fun x => { x with pos := v % 2 ^ 32 }

/-! ### Captures (R363) -/

/-- QLVL and CAP follow the queue. -/
def State.gpLevel (s : State) (n : Nat) : State :=
  (s.wr (GPT_STAT_QLVL n) (s.gp n).queue.length).wr (GPT_STAT_CAP n) (b2n ((s.gp n).queue != []))

/-- A word is appended to a capture queue (R363), with its flag and its router source (R364). -/
def State.gpPush (s : State) (n v : Nat) : State :=
  let was := (s.gp n).queue
  let s := (s.modGp n fun x => { x with queue := x.queue ++ [v] }).gpLevel n
  let s := if was = [] then s.gpFlag n 2 else s
  if s.rd (GPT_GPT_CFG_RSRC n) = 2 then s.pulse (224 + n) else s

/-- A capture event: the count, or both halves of the pair's; an event that finds a queue full is discarded. -/
def State.gpCapture (s : State) (n : Nat) : State :=
  let s := s.gpReset n
  let both := s.gpPair n
  if 4 ≤ (s.gp n).queue.length ∨ (both ∧ 4 ≤ (s.gp (n + 1)).queue.length) then
    ((s.setBits (GPT_STAT_CAPOVF n) 1).inc (GPT_STAT_QOVF n)).gpFlag n 3
  else
    let hi := s.gpCount (n + 1)
    let s := s.gpPush n (s.gpCount n)
    if both then s.gpPush (n + 1) hi else s

/-- A capture event of timer `n` arrives: of its destination, or an edge of its TI pin. -/
def State.gpCapEvent (s : State) (n : Nat) (ti : Option Bool) : State :=
  if s.gpGov n ≠ n then s
  else
    let src := s.rd (GPT_GPT_CFG_CAP_SRC n)
    match ti with
    | none =>
      if (s.gp n).caps = 0 then s
      else
        let s := s.modGp n fun x => { x with caps := x.caps - 1 }
        if src = 1 then s.gpCapture n else s
    | some up => if src = 4 ∨ (src = 2 ∧ up) ∨ (src = 3 ∧ !up) then s.gpCapture n else s

/-- What a read of CAPQ returns. -/
def State.gpCapqView (s : State) (n : Nat) : Nat := (s.gp n).queue.headD 0

/-- A read of CAPQ removes the oldest word, but not while the page is frozen (R367). -/
def State.gpCapqPop (s : State) (n : Nat) : State :=
  if s.on (PG_CTRL_FREEZE 0xB1) then s else (s.modGp n fun x => { x with queue := x.queue.tail }).gpLevel n

/-- The shadows of SNAP (R365). -/
def State.gpSnap (s : State) (v : Nat) : State :=
  let cnt := (List.range 16).map s.gpCount
  let s := (List.range 16).foldl (fun s n => if bit v n then s.wr (GPT_SNAP_CNT_COUNT n) (cnt.getD n 0) else s) s
  if bit v 16 then (s.wr GPT_SNAP_TB_LO_T s.tb).wr GPT_SNAP_TB_HI_T (s.tb / 2 ^ 32) else s

/-- What an LF step does to the timers (R366): the timebase has just moved. -/
def State.gpLfStep (s : State) : State :=
  (List.range 16).foldl
    (fun s n =>
      let s := s.gpSync (s.gpGov n) s.tb
      let k := match (s.gp n).tgt with
        | some q => if q ≤ (s.gp n).pos then ((s.gp n).pos - q) / s.gpCmpLap n + 1 else 0
        | none => 0
      let s := (List.range k).foldl (fun s _ => s.gpMatch n) s
      let w := s.gpLaps n - (s.gp n).laps
      (List.range w).foldl (fun s _ => s.gpWrapDue n) s)
    s

/-! ### The alarm (R355) -/

/-- A write of ALM_LO commits and arms. -/
def State.alarmArm (s : State) (m v : Nat) : State :=
  let (hi, s) := s.takeHi m 0xB0 0x4C
  let s := s.wr TB_ALM_LO_T v
  (match hi with | some h => s.wr TB_ALM_HI_T h | none => s).wr TB_TB_STAT_ALM_ARMED 1

/-- The alarm value. -/
def State.alarmAt (s : State) : Nat := s.rd TB_ALM_LO_T + 2 ^ 32 * s.rd TB_ALM_HI_T

/-- The timebase has reached or passed the alarm value. -/
def State.alarmFires (s : State) : State :=
  if s.on TB_TB_STAT_ALM_ARMED && decide (s.alarmAt ≤ s.tb) then (s.wr TB_TB_STAT_ALM_ARMED 0).iflag 0xB0 0 else s

/-! ### The commands -/

/-- The TB domain of SYSTEM runs, from PLL_TB or from the LF clock (R27, R44). -/
def tbLive (s : State) : Bool := !s.pwr.held && s.domOn 3

/-- The timers act. -/
def gpOk (s : State) : Bool := tbLive s && !s.rstBusy 0xB1 && !s.pageCrimson 0xB1

/-- ALARM_WRITE (R355). -/
def execAlarmWrite (t : Nat) (m : Master) (v : Word) (s : State) : Out :=
  s.act t (State.core 3) fun s => s.guarded m 0xB0 0x4C v.toNat fun s => s.alarmArm m v.toNat

/-- ALARM (R355). -/
def execAlarmFire (t : Nat) (s : State) : Out := s.act t tbLive State.alarmFires

/-- GPT_ENABLE (R358): the write of GPT_CFG. -/
def execGptEnable (t : Nat) (m : Master) (n : Gpt) (v : Word) (s : State) : Out :=
  s.act t (State.core 3) fun s => s.guarded m 0xB1 (0x100 + 0x20 * n) v.toNat fun s => s.gpCfg n v.toNat

/-- GPT_WRAP (R358). -/
def execGptWrap (t : Nat) (n : Gpt) (s : State) : Out := s.act t gpOk fun s => s.gpWrap n

/-- GPT_MATCH (R360). -/
def execGptMatch (t : Nat) (n : Gpt) (s : State) : Out := s.act t gpOk fun s => s.gpMatch n

/-- GPT_TRIGGER_RESET (R359). -/
def execGptTriggerReset (t : Nat) (n : Gpt) (s : State) : Out := s.act t gpOk fun s => s.gpReset n

/-- GPT_CMP_WRITE (R360). -/
def execGptCmpWrite (t : Nat) (m : Master) (n : Gpt) (v : Word) (s : State) : Out :=
  s.act t (State.core 3) fun s => s.guarded m 0xB1 (0x110 + 0x20 * n) v.toNat fun s => s.gpCmpWrite n v.toNat

/-- GPT_CAPTURE (R363). -/
def execGptCapture (t : Nat) (n : Gpt) (ti : Option Bool) (s : State) : Out := s.act t gpOk fun s => s.gpCapEvent n ti

/-- CAPQ_READ (R363). -/
def execCapqRead (t : Nat) (m : Master) (n : Gpt) (s : State) : Out :=
  s.act t (State.core 3) fun s => s.guardedRead m (pageAddr 0xB1 (0x11C + 0x20 * n)) fun s => s.gpCapqPop n

/-- SNAP (R365). -/
def execGptSnap (t : Nat) (m : Master) (v : Word) (s : State) : Out :=
  s.act t (State.core 3) fun s => s.guarded m 0xB1 0x44 v.toNat fun s => s.gpSnap v.toNat

end Sys2Proof.Machine
end

