-- ==== Sys2Proof/Machine/Router.lean ====
section
/-! DEFINITION. The event router (R368 to R374), the host interrupt bits its sources set (R110, R111), and the SSI reads a
destination starts (R141). -/

namespace Sys2Proof.Machine

open Reg

/-! ### Sources (R368, R369) -/

/-- The page whose flags a page source shows. -/
def srcPage (n : Nat) : Option Nat :=
  if n ≤ 7 then some (0x10 + n)
  else if n = 8 then some 0x18
  else if n = 9 then some 0x19
  else if 40 ≤ n ∧ n ≤ 48 then some (0x20 + (n - 40))
  else if 49 ≤ n ∧ n ≤ 52 then some (0x30 + (n - 49))
  else if n = 53 then some 0x38
  else if 54 ≤ n ∧ n ≤ 77 then some (0x40 + (n - 54))
  else if 96 ≤ n ∧ n ≤ 127 then some (0x60 + (n - 96))
  else if n = 176 then some 0x80
  else if n = 177 then some 0x88
  else if 178 ≤ n ∧ n ≤ 201 then some (0x90 + (n - 178))
  else if 202 ≤ n ∧ n ≤ 208 then some (n - 202)
  else if 209 ≤ n ∧ n ≤ 210 then some (8 + (n - 209))
  else if n = 211 then some 0xB0
  else if n = 212 then some 0xB1
  else if n = 213 then some 0xB8
  else if 214 ≤ n ∧ n ≤ 217 then some (0xC0 + (n - 214))
  else if 218 ≤ n ∧ n ≤ 221 then some (0xC8 + (n - 218))
  else if n = 222 then some 0xCC
  else none

/-- A level source that is no page source (R369). -/
def State.srcOther (s : State) (n : Nat) : Option Bool :=
  if n = 13 then some s.ang.valid
  else if n = 14 then some (s.ang.base == 3)
  else if n = 94 then some (s.domOn 1 && s.armed)
  else if 128 ≤ n ∧ n ≤ 175 then some (s.cmpSource (n - 128))
  else if n = 95 then some false
  else none

/-- A level source is active: for the router (R368), for host A (1), for host B (2; R110); inactive while
its domain is held (R11). `none` for a pulse source. -/
def State.srcLevel (s : State) (n who : Nat) : Option Bool :=
  match srcPage n with
  | some p =>
    let a := s.rd (PG_IEN_A_EN_A p)
    let b := s.rd (PG_IEN_B_EN_B p)
    let en := match who with | 0 => Nat.lor a b | 1 => a | _ => b
    some (s.domOn (domOf p) && Nat.land (s.rd (PG_IFLAG_FLAG p)) en != 0)
  | none => s.srcOther n

/-- A pulse source that crosses into the TB domain (R373). -/
def srcCrosses (n : Nat) : Bool := (decide (240 ≤ n) && decide (n ≤ 249)) || decide (252 ≤ n)

/-! ### Destinations (R371, R372) -/

/-- Events for consumers that take them by a command of their own. -/
def State.destPost (s : State) (ds : List Nat) : State :=
  { s with rtr := { s.rtr with destPending := ds.foldl (fun l d => if l.contains d then l else l ++ [d]) s.rtr.destPending } }

/-- What DMA channel `c` holds. -/
def State.dmaC (s : State) (c : Nat) : DmaC := tget {} s.dma.ch c

/-- What DMA channel `c` holds changes. -/
def State.modDma (s : State) (c : Nat) (f : DmaC → DmaC) : State :=
  { s with dma := { s.dma with ch := tput {} s.dma.ch c (f (s.dmaC c)) } }

/-- An event of KIND `kind` and selection `sel` arrives at the channels that select it; those in IDLE, DONE or HALTED ignore it,
unless their START comes in its cycle (R379, R381). -/
def State.dmaEvent (s : State) (kind sel : Nat) : State :=
  (List.range 32).foldl
    (fun s c =>
      let st := s.rd (DMA_CH_STAT_STATE c)
      let now := s.tb
      if s.rd (DMA_CH_TRIG_KIND c) = kind ∧ s.rd (DMA_CH_TRIG_SEL c) = sel then
        if 1 ≤ st ∧ st ≤ 3 then s.modDma c fun x => { x with evs := x.evs + 1 }
        else s.modDma c fun x => { x with missed := some now }
      else s) s

/-- Destination `d` gives an event; it reads as 1 in DST_LVL for this TB cycle (R374). -/
def State.destEvent (s : State) (d : Nat) : State :=
  let s : State := { s with rtr := { s.rtr with lit := tput none s.rtr.lit d (some s.tb) } }
  if d ≤ 15 then s.dmaEvent 1 d
  else if d ≤ 31 then s.gpDest (d - 16)
  else if 32 ≤ d ∧ d ≤ 39 then s.destPost ((List.range 4).map (64 + 4 * (d - 32) + ·))
  else if 40 ≤ d ∧ d ≤ 47 then s.destPost ((List.range 4).map (96 + 4 * (d - 40) + ·))
  else if d = 60 ∨ d = 61 then s.levt (d - 60)
  else if d = 62 ∨ d = 63 then s.pulse (250 + (d - 62))
  else s.destPost [d]

/-- An event reads as one active TB cycle: a gated timer counts that tick (R359). -/
def State.gateTick (s : State) (d : Nat) : State :=
  let n := d - 16
  if 16 ≤ d ∧ d ≤ 31 ∧ s.gpGov n = n ∧ s.on (GPT_GPT_CFG_EN n) ∧ s.gpMode n = 1 ∧ !s.on (GPT_GPT_CFG_TSRC n) then
    let k := s.rd (GPT_PRE_PRE n) + 1
    (s.gpSync n s.tb).modGp n fun x => { x with pos := x.pos + (x.frac + 1) / k, frac := (x.frac + 1) % k }
  else s

/-- The output level of a destination in MODE 3; a gated timer counts up to now first. -/
def State.destLevel (s : State) (d : Nat) (b : Bool) : State :=
  let s := if 16 ≤ d ∧ d ≤ 31 then s.gpSync (s.gpGov (d - 16)) s.tb else s
  { s with rtr := { s.rtr with level := (s.rtr.level.filter (· != d)) ++ (if b then [d] else []) } }

/-- The setting of destination `d` in its registers. -/
def State.dstNow (s : State) (d : Nat) : DstSet :=
  { en := s.on (ROUTER_DST_CFG_EN d), inv := s.on (ROUTER_DST_CFG_INV d), mode := s.rd (ROUTER_DST_CFG_MODE d),
    div := s.rd (ROUTER_DST_CFG_DIV d), sel := s.rd (ROUTER_DST_CFG_SEL d) }

/-- The setting and divider count that a write of DST_CFG replaced, for an event at `t` in the TB cycle of the write (R372). -/
def State.dstOld (s : State) (d t : Nat) : Option (DstSet × Nat) :=
  match tget none s.rtr.old d with
  | some (w, x, c) => if t ≤ w then some (x, c) else none
  | none => none

/-- The setting under which destination `d` handles an event at `t` (R372). -/
def State.dstSet (s : State) (d t : Nat) : DstSet :=
  match s.dstOld d t with
  | some (x, _) => x
  | none => s.dstNow d

/-- The divider count of destination `d` becomes `c`: the one in force, or the one its last write replaced. -/
def State.dstCount (s : State) (d t c : Nat) : State :=
  match tget none s.rtr.old d with
  | some (w, x, _) =>
    if t ≤ w then { s with rtr := { s.rtr with old := tput none s.rtr.old d (some (w, x, c)) } }
    else { s with rtr := { s.rtr with div := tput 0 s.rtr.div d c } }
  | none => { s with rtr := { s.rtr with div := tput 0 s.rtr.div d c } }

/-- An event of MODES 0 to 2 at `t` through the divider (R372). -/
def State.destDivided (s : State) (d t : Nat) : State :=
  let c := (match s.dstOld d t with | some (_, c) => c | none => tget 0 s.rtr.div d) + 1
  if c ≤ (s.dstSet d t).div then s.dstCount d t c
  else ((s.dstCount d t 0).gateTick d).destEvent d

/-- The source of destination `d` changes to `v` at `t`: its events (R372). -/
def State.destChange (s : State) (d t : Nat) (v : Bool) : State :=
  let x := s.dstSet d t
  let v := v != x.inv
  match x.mode with
  | 0 => if v then s.destDivided d t else s
  | 1 => if v then s else s.destDivided d t
  | 2 => s.destDivided d t
  | _ => if v then s.destEvent d else s

/-- The source of destination `d` pulses at `t` (R372). -/
def State.destPulse (s : State) (d t : Nat) : State :=
  if (s.dstSet d t).mode = 3 then (s.gateTick d).destEvent d else s.destDivided d t

/-- The destinations that select source `n` for an event at `t`. -/
def State.destsOf (s : State) (n t : Nat) : List Nat :=
  (List.range 64).filter fun d => (s.dstSet d t).en && (s.dstSet d t).sel == n

/-- A source is seen active (R373). -/
def State.srcSeen (s : State) (n : Nat) : State :=
  let f := ROUTER_SRC_SEEN_SEEN (n / 32)
  s.setBits f (2 ^ (n % 32))

/-- What host port `x` holds. -/
def State.hs (s : State) (x : Nat) : HostS := tget {} s.host x

/-- What host port `x` holds changes. -/
def State.modHs (s : State) (x : Nat) (f : HostS → HostS) : State := { s with host := tput {} s.host x (f (s.hs x)) }

/-- Source `n` is pending for host `x` (R112). -/
def State.srcPending (s : State) (x n : Nat) : Bool :=
  bit (s.rd (HOST_IPEND_PEND x (n / 32))) (n % 32) && bit (s.rd (HOST_IMASK_MASK x (n / 32))) (n % 32)

/-- Sources of word `k` that have become pending while the port is IDLE start a sequence of attention pulses (R106). -/
def State.attnFrom (s s0 : State) (x k : Nat) : State :=
  let pend := fun (s : State) => Nat.land (s.rd (HOST_IPEND_PEND x k)) (s.rd (HOST_IMASK_MASK x k))
  if Nat.land (pend s) (pend s0) = pend s then s else s.modHs x fun h => { h with seq := true }

/-- Source `n` sets its bit of a host port's IPEND, unless the port is OFF (R111). -/
def State.ipend (s : State) (x n : Nat) : State :=
  let f := HOST_IPEND_PEND x (n / 32)
  if s.rd (HOST_PORT_STAT_STATE x) = 0 then s else (s.setBits f (2 ^ (n % 32))).attnFrom s x (n / 32)

/-- Key `k` of the levels last seen. -/
def State.seenLevel (s : State) (k : Nat) (b : Bool) : State :=
  { s with rtr := { s.rtr with active := (s.rtr.active.filter (· != k)) ++ (if b then [k] else []) } }

/-- A level source as host `x` sees it (R110, R111). -/
def State.hostLevel (s : State) (n x : Nat) : State :=
  let b := (s.srcLevel n (x + 1)).getD false
  let k := 256 * (x + 1) + n
  let s := if b && !s.rtr.active.contains k then s.ipend x n else s
  s.seenLevel k b

/-- A level source is looked at: a change passes to the destinations that select it (R372). -/
def State.routeLevel (s : State) (n : Nat) (b : Bool) : State :=
  let s := (s.hostLevel n 0).hostLevel n 1
  if s.rtr.active.contains n = b then s
  else
    let s := s.seenLevel n b
    let s := if b then s.srcSeen n else s
    let s := ((List.range 64).filter fun d => (s.dstNow d).en && (s.dstNow d).sel == n && (s.dstNow d).mode == 3).foldl
      (fun s d => s.destLevel d (b != (s.dstNow d).inv)) s
    (s.destsOf n s.tb).foldl (fun s d => s.destChange d s.tb b) s

/-- A pulse of a source passes, or merges with the one before (R373). -/
def State.routePulse (s : State) (n : Nat) : State :=
  match s.rtr.pulses.find? fun (e : Nat × Nat) => e.1 == n with
  | none => s
  | some (_, t) =>
    let s := { s with rtr := { s.rtr with pulses := s.rtr.pulses.erase (n, t) } }
    let merged := srcCrosses n && (match tget none s.rtr.lastPulse n with | some l => decide (t < l + 4) | none => false)
    if merged then (s.inc ROUTER_MERGE_COUNT).iflag 6 0
    else
      let s := { s with rtr := { s.rtr with lastPulse := tput none s.rtr.lastPulse n (some t) } }
      let s := ((s.srcSeen n).ipend 0 n).ipend 1 n
      (s.destsOf n t).foldl (fun s d => s.destPulse d t) s

/-- A write of DST_CFG: the divider restarts, MODE 3 passes the level as it stands, and the setting it replaces holds for the
events of its TB cycle (R372). -/
def State.destCfg (s : State) (d v : Nat) : State :=
  let old := match tget none s.rtr.old d with
    | some (w, x, c) => if w = s.tb then (x, c) else (s.dstNow d, tget 0 s.rtr.div d)
    | none => (s.dstNow d, tget 0 s.rtr.div d)
  let now := s.tb
  let s : State := { s with rtr := { s.rtr with old := tput none s.rtr.old d (some (now, old)) } }
  let s := s.plainWrite 6 (0x100 + 4 * d) v 0xFFFFFFFF
  let s := { s with rtr := { s.rtr with div := tput 0 s.rtr.div d 0 } }
  let lv := s.rtr.active.contains (s.rd (ROUTER_DST_CFG_SEL d)) != s.on (ROUTER_DST_CFG_INV d)
  s.destLevel d (s.on (ROUTER_DST_CFG_EN d) && s.rd (ROUTER_DST_CFG_MODE d) == 3 && lv)

/-- DST_LVL word `w` as read: the level outputs, and the events of this TB cycle (R374). -/
def State.destLvlView (s : State) (w : Nat) : Nat :=
  ((List.range 32).map fun i =>
    if s.rtr.level.contains (32 * w + i) || tget none s.rtr.lit (32 * w + i) == some s.tb then 2 ^ i else 0).sum

/-- The software sources (R369). -/
def State.swTrig (s : State) (v : Nat) : State :=
  (List.range 4).foldl (fun s i => if bit v i then s.pulse (252 + i) else s) s

/-! ### SSI reads (R141) -/

/-- A read period has elapsed. -/
def State.ssiPeriod (s : State) (p : Nat) (aHigh : Bool) : State :=
  let n := s.rd (POS_SSI_TIM_PERIOD p)
  if n = 0 ∨ s.tb < (s.port p).ssiAt + 400 * n then s
  else (s.setPort p { s.port p with ssiAt := s.tb }).ssiStart p aHigh

/-! ### The commands -/

/-- The router acts. -/
def rtrOk (s : State) : Bool := tbLive s && !s.rstBusy 6 && !s.pageCrimson 6

/-- ROUTER_EVENT (R372). -/
def execRouterEvent (t : Nat) (src : Source) (s : State) : Out :=
  s.act t rtrOk fun s =>
    match s.srcLevel src 0 with
    | some b => s.routeLevel src b
    | none => s.routePulse src

/-- DST_CFG_WRITE (R372). -/
def execDstCfgWrite (t : Nat) (m : Master) (d : Dest) (v : Word) (s : State) : Out :=
  s.act t (State.core 3) fun s => s.guarded m 6 (0x100 + 4 * d) v.toNat fun s => s.destCfg d v.toNat

/-- SW_TRIG (R369). -/
def execSwTrig (t : Nat) (m : Master) (v : Word) (s : State) : Out :=
  s.act t (State.core 3) fun s => s.guarded m 6 0x70 v.toNat fun s => s.swTrig v.toNat

/-- SSI_PERIOD_START (R141). -/
def execSsiPeriodStart (t : Nat) (p : PosPort) (router aHigh : Bool) (s : State) : Out :=
  s.act t (State.tbd 0) fun s =>
    if router then s.takeDest (48 + p) fun s => s.ssiStart p aHigh else s.ssiPeriod p aHigh

end Sys2Proof.Machine
end

