-- ==== Sys2Proof/Machine/Casc.lean ====
section
/-! DEFINITION. The cascade: beacons, election, following, takeover, events from other devices, remote accesses (R420 to
R440). -/

namespace Sys2Proof.Machine

open Reg

/-! ### The output's source (R427, R428, R431) -/

/-- The output enters synchronisation on a source's record. -/
def State.outEnter (s : State) (n : AngOut) : State :=
  let s := s.setOut { n with ang := n.g.ref (s.angMod (!n.b23u)), e := 0, ahead := 0, hasRec := false }
  (((s.iflag 0x18 0).publish n.g).evtSync).slotWindows

/-- The output learns bit 23 from its source: positions go on in whole cycles (R164, R196). -/
def State.outPhase (s : State) (n : AngOut) : State :=
  let o := s.trk.out
  let g0 := s.evtG
  let m0 := s.evtM
  let near := n.g.ref (2 ^ 24)
  let ang := if (diffMod (2 ^ 24) o.ang near).natAbs ≤ (diffMod (2 ^ 24) (o.ang + 2 ^ 23) near).natAbs then o.ang else o.ang + 2 ^ 23
  let r := { o.g.r with a := subMod (2 ^ 24) ang (subMod (2 ^ 23) o.ang o.g.r.a) }
  let s := (s.setOut { o with st := 3, level := 0, b23u := false, ang := ang, g := { o.g with r := r } }).iflag 0x18 0
  (if s.evtRuns then s.evtRebase g0 m0 else s).evtSync

/-- The output, which stands in the tracker's place, goes on from another source, or with that source's next record: `n` is the
source's output, `fresh` whether its record is new, `cyc` the source's cycle count. An output behind the source follows R173,
and an output ahead of it holds (R427). -/
def State.outBecome (s : State) (n : AngOut) (fresh : Bool) (cyc : Option Nat) : State :=
  let setCyc (s : State) : State := match cyc with | some c => s.hwPut EVT_CYC_CNT_COUNT c | none => s
  let o := s.trk.out
  if !(n.valid && n.hasRec) then (s.outState n.st).setOut { n with e := 0, ahead := 0 }
  else if !o.valid then (setCyc s).outEnter n
  else if o.base = 3 ∧ n.base = 2 then (setCyc (s.outState 0)).outEnter n
  else
    let s := if o.base = 2 ∧ n.base = 3 then (setCyc s).outPhase n else s
    let s := s.outState n.st
    let s := s.setOut { s.trk.out with level := n.level, b23u := n.b23u }
    let direct := o.hasRec && o.g.atHalt && o.e == 0
    if fresh then s.outFollow n.g direct else s

/-- The output returns to the local tracker. -/
def State.cascLocal (s : State) : State :=
  match s.follow with
  | none => s
  | some f =>
    let l := s.trk.out
    let x := s.trk
    let odo := ((x.odo : Int) + f.ang - l.ang).toNat
    let s := ({ s with follow := none } : State).modTrk fun z => { z with out := f, odo := odo }
    (s.outBecome l true none).modTrk fun z => { z with prevRec := x.prevRec }

/-! ### Roles (R424 to R426) -/

/-- CASC_STAT.ROLE: 0 OFF, 1 LISTEN, 2 MASTER, 3 FOLLOWER, 4 OFFLINE (R425). -/
def State.role (s : State) : Nat := s.rd CASC_CASC_STAT_ROLE

/-- The role changes (R443). -/
def State.setRole (s : State) (r : Nat) : State :=
  if s.role = r then s else (s.wr CASC_CASC_STAT_ROLE r).iflag 0xCC 0

/-- Duplex operation. -/
def State.dupEn (s : State) : Bool := s.on CASC_CASC_CFG_DUP_EN

/-- The device is eligible (R424). -/
def State.eligible (s : State) : Bool :=
  s.on (PG_CTRL_EN 0xCC) && s.on CASC_CASC_STAT_MEN &&
  (s.trk.out.base == 3 || (s.trk.out.base == 2 && s.cyc360)) &&
  !s.pkgCrimson && s.rd OUT_ARM_STAT_STATE != 2 && !s.casc.divOn && s.role != 4

/-- An ID whose STATUS of the last 30 µs says it is eligible. -/
def State.peerElig (s : State) (n : Nat) : Bool :=
  match tget none s.casc.peers n with
  | some p => p.elig && decide (s.tb < p.t + 12000)
  | none => false

/-- The successor: the lowest eligible ID but its own (R426). -/
def State.succ? (s : State) : Option Nat := links.find? fun n => n != s.ownId && s.peerElig n

/-- The master named in CASC_STAT, with its epoch. -/
def State.setMaster (s : State) (id epoch : Nat) : State :=
  ((s.wr CASC_CASC_STAT_MASTER_V 1).wr CASC_CASC_STAT_MASTER id).wr CASC_CASC_STAT_EPOCH epoch

/-- The successor named in CASC_STAT. -/
def State.setSucc (s : State) (n : Option Nat) : State :=
  match n with
  | some n => (s.wr CASC_CASC_STAT_SUCC_V 1).wr CASC_CASC_STAT_SUCC n
  | none => (s.wr CASC_CASC_STAT_SUCC_V 0).wr CASC_CASC_STAT_SUCC 0

/-- No master is known. -/
def State.noMaster (s : State) : State := ((s.wr CASC_CASC_STAT_MASTER_V 0).wr CASC_CASC_STAT_MASTER 0).setSucc none

/-! ### Beacons sent (R420, R421) -/

/-- The words of a beacon, but for ANGLE and TB_STAMP, which are filled in as it starts. -/
def State.bcnWords (s : State) (o : AngOut) (isNew rlq : Bool) (fc : Nat) : List Nat :=
  let r := o.g.r
  let z (n : Nat) : Nat := if o.hasRec then n else 0
  [s.ownId * 2 ^ 30 + o.st % 8 * 2 ^ 27 + b2n isNew * 2 ^ 26 + b2n s.dupEn * 2 ^ 25 + b2n o.b23u * 2 ^ 24, 0, 0, fc * 65536,
   s.rd CASC_CASC_STAT_EPOCH * 2 ^ 24 + z (r.a % 2 ^ 24), z (r.t / 2 ^ 32 % 2 ^ 32), z (r.t % 2 ^ 32),
   b2n rlq * 2 ^ 31 + s.rd CASC_CASC_STAT_SUCC_V * 2 ^ 30 + s.rd CASC_CASC_STAT_SUCC * 2 ^ 28 + z (r.w % 2 ^ 24),
   z (r.tp % 2 ^ 32), s.rd EVT_CYC_CNT_COUNT % 2 ^ 19 * 2 ^ 13 + b2n o.hasRec * 2 ^ 12 + z (r.pos % 1024)]

/-- A waiting frame is a beacon of this device. -/
def State.ownBcn (s : State) (w : WaitF) : Bool := w.f.typ == 2 && w.f.orig == s.ownId

/-- A beacon is due: on a link where one waits it merges with that one (R420). -/
def State.beaconOut (s : State) (rlq : Bool) : State :=
  let s := s.txAll.setSucc s.succ?
  let o := s.ang
  let recd := if o.hasRec then some o.g.r else none
  let isNew := o.hasRec && recd != s.casc.lastRec
  let s := s.modCasc fun c => { c with bcnAt := some s.tb, lastRec := recd }
  let xs := links.filter fun x => s.carries x 2
  let waits (x : Nat) : Bool := (s.lnk x).wait.any s.ownBcn
  -- the REC of a beacon that waits stands
  let isNew := isNew || xs.any fun x => (s.lnk x).wait.any fun w => s.ownBcn w && bit (w.f.pay.getD 0 0) 26
  if xs.isEmpty then s
  else if xs.all waits then
    let pay := s.bcnWords o isNew rlq s.casc.frameCnt
    let redo (w : WaitF) : WaitF := if s.ownBcn w then { w with f := { w.f with pay := pay }, ang := some o } else w
    xs.foldl (fun s x => s.modLnk x fun l => { l with wait := l.wait.map redo }) s
  else
    let fc := (s.casc.frameCnt + 1) % 65536
    let s := s.modCasc fun c => { c with frameCnt := fc }
    let (f, s) := s.ownFrame 2 (s.bcnWords o isNew rlq fc)
    xs.foldl
      (fun s x =>
        (s.modLnk x fun l => { l with wait := l.wait.filter fun w => !s.ownBcn w }).txPut x { f, due := s.tb, ang := some o })
      s

/-- LISTEN begins. -/
def State.goListen (s : State) : State :=
  ((s.setRole 1).noMaster).modCasc fun c => { c with listen := s.tb, claim := none }

/-- The master gives its role up (R425, R434): one beacon with RLQ = 1, then OFFLINE or LISTEN. -/
def State.relinquish (s : State) : State :=
  let s := s.beaconOut true
  if s.dupEn then (s.setRole 4).noMaster else s.goListen

/-- A master that is no longer eligible gives its role up. -/
def State.cascCheck (s : State) : State := if s.role = 2 ∧ !s.eligible then s.relinquish else s

/-- The device becomes the master (R425, R427). -/
def State.becomeMaster (s : State) (epoch : Nat) : State :=
  let s := ((s.setRole 2).setMaster s.ownId epoch).modCasc fun c =>
    { c with claim := none, bcnAt := none, lastRec := none, epochMax := max c.epochMax epoch }
  s.cascLocal.beaconOut false

/-- The named successor promotes itself (R427). -/
def State.promote (s : State) : State :=
  let e := (s.rd CASC_CASC_STAT_EPOCH + 1) % 256
  let d := (links.filter s.linkUp).foldl (fun a x => max a (s.rd (LINK_DELAY_DELAY x))) 0
  let s := ((s.sendOwn 7 [s.ownId * 2 ^ 30 + e * 2 ^ 16]).inc CASC_CNT0_CLAIM).iflag 0xCC 3
  s.modCasc fun c => { c with claim := some (s.tb + 2 * d + 120) }

/-- The device is the named successor and eligible. -/
def State.isSucc (s : State) : Bool :=
  s.on CASC_CASC_STAT_SUCC_V && s.rd CASC_CASC_STAT_SUCC == s.ownId && s.eligible

/-! ### Beacons received (R422, R428 to R430) -/

/-- The local angle at an earlier instant, on the local record in force (R430). -/
def State.localAt (s : State) (T : Int) : Nat :=
  let g := s.trk.out.g.r
  let k : Int := if g.tp = 0 then 0 else min ((T - g.t) * g.w / g.tp) (g.w - 1)
  (((g.a : Int) + k) % (2 ^ 24 : Nat)).toNat

/-- The divergence check (R430): the beacon's angle against the local one at `T`. -/
def State.divCheck (s : State) (ang : Nat) (T : Int) : State :=
  if !(s.running 0x18 && s.trk.out.base == 3) then s
  else
    let d := diffMod (2 ^ 24) (s.localAt T) ang
    let s := s.wr CASC_F_DIV_D (ofS 32 d)
    let n := max 1 (s.rd CASC_CASC_CFG_DIV_N)
    if d.natAbs > s.rd CASC_DIV_LIM_LIM then
      let s := s.modCasc fun c => { c with divRun := c.divRun + 1, inRun := 0 }
      if s.casc.divOn ∨ s.casc.divRun < n then s
      else
        let s := ((s.modCasc fun c => { c with divOn := true }).iflag 0xCC 2).inc CASC_CNT0_DIVERGE
        (s.setAmber 0xCC true).raiseLive (srcId 3 0x10 1) 0x59 (min d.natAbs (2 ^ 22 - 1))
    else
      let s := s.modCasc fun c => { c with divRun := 0, inRun := c.inRun + 1 }
      if s.casc.divOn ∧ n ≤ s.casc.inRun then ((s.modCasc fun c => { c with divOn := false }).setAmber 0xCC false).clearLive 0xCC
      else s

/-- The output that a beacon describes, its record translated by OFS (R422, R428). -/
def State.bcnOut (s : State) (ws : List Nat) (ofs : Int) : AngOut :=
  let w (i : Nat) : Nat := ws.getD i 0
  let b23 := bit (w 0) 24
  let tj : Nat := w 5 * 2 ^ 32 + w 6
  let t := ((tj : Int) + ofs).toNat
  let r : PRec := { pos := bits (w 9) 0 10, a := bits (w 4) 0 24, t := t, w := bits (w 7) 0 24, tp := w 8 }
  { st := bits (w 0) 27 3, level := if b23 || s.cyc360 then 2 else 3, b23u := b23, ang := bits (w 0) 0 24,
    g := AGen.start r s.tb, hasRec := bit (w 9) 12 }

/-- The output follows a beacon (R428, R429). -/
def State.followBcn (s : State) (ws : List Nat) (ofs : Int) : State :=
  let w (i : Nat) : Nat := ws.getD i 0
  let cyc := bits (w 9) 13 19
  let first := s.follow.isNone
  let s := if first then ({ s with follow := some s.trk.out } : State).hwPut EVT_CYC_CNT_COUNT cyc else s
  let s :=
    if first then s.modCasc fun c => { c with cycCheck := false, lastRec := none }
    else if s.casc.cycCheck then
      let s := s.modCasc fun c => { c with cycCheck := false }
      if s.rd EVT_CYC_CNT_COUNT = cyc then s
      else ((s.hwPut EVT_CYC_CNT_COUNT cyc).inc CASC_CNT0_CYC_FIX).raise (srcId 3 0x10 1) 0x58 cyc
    else s
  -- a record is new where the master's own differs from the last beacon's
  let own : PRec := { pos := bits (w 9) 0 10, a := bits (w 4) 0 24, t := w 5 * 2 ^ 32 + w 6, w := bits (w 7) 0 24, tp := w 8 }
  let fresh := s.casc.lastRec != some own
  let n := s.bcnOut ws ofs
  let s := s.modCasc fun c => { c with lastRec := if n.hasRec then some own else none }
  s.asFollower fun s => s.outTick.outBecome n fresh (some cyc)

/-- A beacon of the device's master is taken. -/
def State.bcnAdopt (s : State) (x : Nat) (f : Frm) (epoch : Nat) : State :=
  let w (i : Nat) : Nat := f.pay.getD i 0
  let two := s.link2 x
  let lat := s.rd (LINK_DELAY_DELAY x) + w 3 % 65536
  let stamp : Nat := w 1 * 2 ^ 32 + w 2
  let ofs : Int := (s.tb : Int) - lat - stamp
  let new := s.role != 3
  let s := (s.setRole 3).setMaster f.orig epoch
  let s := s.setSucc (if two && bit (w 7) 30 then some (bits (w 7) 28 2) else none)
  let o64 := ofS 64 ofs
  let s := ((s.wr CASC_F_OFS_LO_OFS (o64 % 2 ^ 32)).wr CASC_F_OFS_HI_OFS (o64 / 2 ^ 32)).wr CASC_DUP_STAT_BLOST 0
  let s := s.modCasc fun c => { c with mstBcn := s.tb, claim := if new then none else c.claim }
  let s := s.divCheck (bits (w 0) 0 24) ((stamp : Int) + ofs)
  let s := if s.on CASC_CASC_CFG_FMODE then s else s.followBcn f.pay ofs
  if two && bit (w 7) 31 && s.casc.claim.isNone && s.isSucc then s.promote else s

/-- A valid beacon (R422, R425). -/
def State.bcnTake (s : State) (x : Nat) (f : Frm) : State :=
  let epoch := if s.link2 x then bits (f.pay.getD 4 0) 24 8 else 0
  let s := s.modCasc fun c => { c with
    lastBcn := some s.tb, bcnFc := f.pay.getD 3 0 / 65536, epochMax := max c.epochMax epoch }
  let e := s.rd CASC_CASC_STAT_EPOCH
  let beats (id : Nat) : Bool := decide (e < epoch) || (e == epoch && decide (f.orig < id))
  match s.role with
  | 1 => s.bcnAdopt x f epoch
  | 2 => if beats s.ownId then s.bcnAdopt x f epoch else s
  | 3 => if f.orig = s.rd CASC_CASC_STAT_MASTER ∨ beats (s.rd CASC_CASC_STAT_MASTER) then s.bcnAdopt x f epoch else s
  | _ => s

/-! ### STATUS, CLAIM, EVENT received -/

/-- STATUS (R424 to R426, R434). -/
def State.statusTake (s : State) (f : Frm) : State :=
  let w := f.pay.getD 0 0
  let id := bits w 30 2
  let s := s.modCasc fun c => { c with
    peers := tput none c.peers id (some ⟨bit w 29, s.tb⟩), epochMax := max c.epochMax (bits w 16 8) }
  let standby := s.role == 2 && s.dupEn && s.on CASC_CASC_STAT_SUCC_V && s.rd CASC_CASC_STAT_SUCC == id
  let s := if standby then s.wr CASC_DUP_STAT_BLOST (bitN w 28) else s
  if standby && bit w 28 then s.relinquish else s.cascCheck

/-- CLAIM (R427, R434). -/
def State.claimTake (s : State) (f : Frm) : State :=
  let e := bits (f.pay.getD 0 0) 16 8
  let higher := decide (s.rd CASC_CASC_STAT_EPOCH < e)
  let s := s.modCasc fun c => { c with epochMax := max c.epochMax e }
  if s.role = 2 ∧ s.dupEn ∧ higher then s.relinquish else s.cascCheck

/-- A broadcast joins BQ (R439). -/
def State.bqPut (s : State) (orig param : Nat) : State :=
  if s.casc.bq.length < 8 then s.modCasc fun c => { c with bq := c.bq ++ [(orig, param)] } else s.inc CASC_BQ_STAT_OVF

/-- The action of a broadcast (R439). -/
def State.bcastAct (s : State) (param : Nat) : State :=
  let tgt := bits param 0 8
  match bits param 14 2 with
  | 1 =>
    (match s.physOf tgt with
     | some p => if s.domOn 1 then s.srqEvent p s.tb (bits param 8 3) else s
     | none => s)
  | 2 => s.pulse (248 + tgt % 2)
  | 3 => if s.domOn 2 then s.cmuMark tgt s.tb false else s
  | _ => s

/-- EVENT (R438, R439). -/
def State.eventTake (s : State) (f : Frm) : State :=
  let w := f.pay.getD 0 0
  let param := bits w 0 16
  match bits w 30 2 with
  | 0 => s.pulse 248
  | 1 => s.pulse 249
  | 2 =>
    let s := ((s.inc CASC_CNT1_BCAST).iflag 0xCC 4).bqPut f.orig param
    if bit param 13 ∨ bits param 11 2 = s.ownId then s.bcastAct param else s
  | _ => s

/-- BQ as read, and popped (R439, R442). -/
def State.bqView (s : State) : Nat :=
  match s.casc.bq with
  | (o, p) :: _ => 2 ^ 31 + o * 2 ^ 29 + p
  | [] => 0

def State.bqPop (s : State) : State := s.modCasc fun c => { c with bq := c.bq.drop 1 }

/-! ### Enabling and stopping (R425) -/

/-- PG_CTRL.EN := 1. -/
def State.cascStart (s : State) : State := if s.on (PG_CTRL_EN 0xCC) then s else (s.wr (PG_CTRL_EN 0xCC) 1).goListen.dupEval

/-- PG_CTRL.EN := 0 or unit reset: beacons and STATUS stop, and the output is the local tracker's. -/
def State.cascStop (s : State) : State :=
  let s := (s.setRole 0).noMaster.cascLocal
  let s := s.modCasc fun c => { c with
    claim := none, bcnAt := none, statAt := none, lastRec := none, divRun := 0, inRun := 0, divOn := false, cycCheck := false }
  (s.setAmber 0xCC false).clearLive 0xCC

/-! ### Views (R442) -/

/-- BCN_AGE in 10 ns. -/
def State.bcnAge (s : State) : Nat :=
  match s.casc.lastBcn with
  | some t => satN 16 ((s.tb - t) / 4)
  | none => 0xFFFF

/-- F_STAT. -/
def State.fStat (s : State) : Nat := b2n s.follow.isSome * 2 ^ 31 + s.ang.st % 8 * 2 ^ 24 + s.ang.ang % 2 ^ 24

/-! ### Remote accesses (R65, R437) -/

/-- A remote access is BAD_ADDR: outside the windows' map, to this device, or to one not reached at 2.0 (R65, R436). -/
def State.remBad (s : State) (a : Nat) : Bool :=
  match regionOf a with
  | .remote n o =>
    n == s.ownId || (s.wayTo n).isNone ||
    !(decide (o < 0x100000) || (decide (0x100000 ≤ o) && decide (o < 0x140000)) || (decide (0x200000 ≤ o) && decide (o < 0x210000)))
  | _ => true

/-- The local decision on a remote access: 0, or the code of R81. -/
def State.remCode (s : State) (m a : Nat) (write : Bool) : Nat :=
  if s.remBad a then 2
  else if s.rightIn (regionOf a) m < (if write then 2 else 1) then 1 else 0

/-- A remote access ends (R437): a denial, BAD_ADDR or a timeout is recorded as the local master's. -/
def State.remEnd (s : State) (r : RemReq) (status data hint : Nat) : State :=
  let s := s.modCasc fun c => { c with
    rem := c.rem.erase r, remDone := c.remDone ++ [⟨r.m, r.write, r.addr, status, data, hint⟩] }
  match status with
  | 1 => s.refuse r.m r.addr r.write 1
  | 2 => s.refuse r.m r.addr r.write 2
  | 4 => s.refuse r.m r.addr r.write 5
  | _ => s

/-- The waiting accesses of master `m`: the first is sent once none of its own is outstanding; one whose device has gone ends as
BAD_ADDR. -/
def State.remKickN : Nat → State → Nat → State
  | 0, s, _ => s
  | n + 1, s, m =>
    if s.casc.rem.any fun r => r.m == m && r.sent.isSome then s
    else
      match s.casc.rem.find? fun r => r.m == m with
      | none => s
      | some r =>
        match regionOf r.addr with
        | .remote d o =>
          (match s.wayTo d with
           | none => (s.remEnd r 2 0 0).remKickN n m
           | some x =>
             let (f, s) := s.ownFrame 5 [d * 2 ^ 30 + b2n r.write * 2 ^ 29 + m % 16 * 2 ^ 24 + o, r.v]
             let s := s.modCasc fun c => { c with rem := c.rem.replace r { r with sent := some s.tb } }
             s.txPut x { f, due := s.tb })
        | _ => (s.remEnd r 2 0 0).remKickN n m

def State.remKick (s : State) (m : Nat) : State := s.remKickN (s.casc.rem.length + 1) m

/-- A remote access of a master that passes the local checks. -/
def State.remIssue (s : State) (m : Nat) (write : Bool) (a v : Nat) : State :=
  (s.modCasc fun c => { c with
    rem := c.rem ++ [{ m, write, addr := a, v }]
    remDone := c.remDone.filter fun r => !(r.m == m && r.addr == a && r.write == write) }).remKick m

/-- An answer ends the access that its TAG names. -/
def State.rrspTake (s : State) (f : Frm) : State :=
  let w := f.pay.getD 0 0
  let m := bits w 24 4
  match s.casc.rem.find? fun r => r.m == m && r.sent.isSome with
  | none => s
  | some r => (s.remEnd r (bits w 21 3 % 4) (f.pay.getD 1 0) (bits w 16 5)).remKick m

/-- The results of a remote access, taken by the one who waits for them. -/
def State.remTake (s : State) (m a : Nat) (write : Bool) : Option RemEnd × State :=
  match s.casc.remDone.find? fun r => r.m == m && r.addr == a && r.write == write with
  | none => (none, s)
  | some r => (some r, s.modCasc fun c => { c with remDone := c.remDone.erase r })

/-! ### The commands -/

/-- BEACON_SEND (R420): a master's beacon at a multiple of 400, or for a new record. -/
def execBeaconSend (t : Nat) (s : State) : Out :=
  s.act t linkOk fun s =>
    let s := s.linkBegin
    if !(s.cascOn && s.role == 2) then s
    else
      let s := s.cascCheck
      let due := match s.casc.bcnAt with
        | some l => decide (l / 400 < s.tb / 400) || (s.ang.hasRec && some s.ang.g.r != s.casc.lastRec)
        | none => true
      if s.role == 2 && due then s.beaconOut false else s

/-- BEACON (R422, R425): received at the count of its K27.7. -/
def execLinkBeacon (t : Nat) (x : Link) (h : LinkHdr) (ws : List Word) (s : State) : Out :=
  s.act t linkOk fun s => s.linkBegin.rxFrame x h 2 (ws.map (·.toNat)) (fun s f => s.bcnTake x f) State.cascOn

/-- STATUS (R424). -/
def execLinkStatus (t : Nat) (x : Link) (h : LinkHdr) (w : Word) (s : State) : Out :=
  s.act t linkOk fun s => s.linkBegin.rxFrame x h 3 [w.toNat] State.statusTake State.cascOn

/-- STATUS_SEND (R424): a device that is not the master, every 10 µs, or every 1 µs with DUP_EN. -/
def execStatusSend (t : Nat) (s : State) : Out :=
  s.act t linkOk fun s =>
    let s := s.linkBegin
    let due := match s.casc.statAt with
      | some l => decide (l + (if s.dupEn then 400 else 4000) ≤ s.tb)
      | none => true
    if s.cascOn && s.role != 0 && s.role != 2 && due then
      (s.modCasc fun c => { c with statAt := some s.tb }).sendOwn 3
        [s.ownId * 2 ^ 30 + b2n s.eligible * 2 ^ 29 + s.rd CASC_DUP_STAT_BLOST * 2 ^ 28 + b2n s.dupEn * 2 ^ 27 +
          s.role * 2 ^ 24 + s.rd CASC_CASC_STAT_EPOCH * 2 ^ 16 + s.casc.bcnFc]
    else s

/-- EVENT (R438, R439). -/
def execLinkEvent (t : Nat) (x : Link) (h : LinkHdr) (w : Word) (s : State) : Out :=
  s.act t linkOk fun s => s.linkBegin.rxFrame x h 4 [w.toNat] State.eventTake State.cascOn

/-- CLAIM (R427, R434). -/
def execLinkClaim (t : Nat) (x : Link) (h : LinkHdr) (w : Word) (s : State) : Out :=
  s.act t linkOk fun s => s.linkBegin.rxFrame x h 7 [w.toNat] State.claimTake State.cascOn

/-- RRSP (R437). -/
def execLinkRrsp (t : Nat) (x : Link) (h : LinkHdr) (w0 w1 : Word) (s : State) : Out :=
  s.act t linkOk fun s =>
    s.linkBegin.rxFrame x h 6 [w0.toNat, w1.toNat] State.rrspTake fun s => bits w0.toNat 30 2 == s.ownId

/-- REMOTE_ACCESS (R65, R437). -/
def execRemoteAccess (t : Nat) (m : Master) (write : Bool) (addr v : Word) (s : State) : Out :=
  s.act t linkOk fun s =>
    let s := s.linkBegin
    match s.remCode m addr.toNat write with
    | 0 => s.remIssue m write addr.toNat v.toNat
    | c => s.refuse m addr.toNat write c

/-- REMOTE_TIMEOUT (R65). -/
def execRemoteTimeout (t : Nat) (m : Master) (s : State) : Out :=
  s.act t linkOk fun s =>
    let s := s.linkBegin
    match s.casc.rem.find? fun r => r.m == m.val && (match r.sent with | some u => decide (u + 800 ≤ s.tb) | none => false) with
    | some r => (s.remEnd r 4 0 0).remKick m
    | none => s

/-- CASC_ENABLE (R425). -/
def execCascEnable (t : Nat) (m : Master) (s : State) : Out :=
  s.act t linkOk fun s => s.linkBegin.guardedMask m 0xCC 8 1 1 State.cascStart

/-- MASTER_ELECTION (R425). -/
def execMasterElection (t : Nat) (s : State) : Out :=
  s.act t linkOk fun s =>
    let s := s.linkBegin
    let quiet := decide (s.casc.listen + 4000 ≤ s.tb) && (match s.casc.lastBcn with | some l => decide (l + 4000 ≤ s.tb) | none => true)
    if s.cascOn && s.role == 1 && s.eligible && quiet && !(links.any fun n => decide (n < s.ownId) && s.peerElig n) then
      s.becomeMaster ((max s.casc.epochMax (s.rd CASC_CASC_STAT_EPOCH) + 1) % 256)
    else s

/-- BEACON_LOSS (R425, R431): no valid beacon from the master for 3 µs. -/
def execBeaconLoss (t : Nat) (s : State) : Out :=
  s.act t linkOk fun s =>
    let s := s.linkBegin
    if s.cascOn && s.role == 3 && s.casc.claim.isNone && decide (s.casc.mstBcn + 1200 ≤ s.tb) then
      let s := ((s.inc CASC_CNT0_BLOST).iflag 0xCC 1).wr CASC_DUP_STAT_BLOST 1
      if s.isSucc then s.promote else s.goListen.asFollower fun s => s.outState 5
    else s

/-- CLAIM_WAIT_END (R427, R435): the time that LAST_TO reports runs from the active's failure, which this device does not see. -/
def execClaimWaitEnd (t : Nat) (s : State) : Out :=
  s.act t linkOk fun s =>
    let s := s.linkBegin
    match s.casc.claim with
    | some e =>
      if s.cascOn && s.role == 3 && decide (e ≤ s.tb) then
        let (r, s) := s.free
        (s.wr CASC_DUP_STAT_LAST_TO r).becomeMaster ((s.rd CASC_CASC_STAT_EPOCH + 1) % 256)
      else s
    | none => s

end Sys2Proof.Machine
end

