-- ==== Sys2Proof/Machine/Pio.lean ====
section
/-! DEFINITION. The PIO engines: ticks, instructions, queues, engine states (R393 to R409). -/

namespace Sys2Proof.Machine

open Reg

/-- The SRC_ID of slot `i` of engine `x`; 8 for its program memory, 9 for its core (chapter 15, register map). -/
def srcPio (x i : Nat) : Nat := srcId 3 (8 + x) i

/-- The page of engine `x`. -/
def pioPage (x : Nat) : Nat := 0xC0 + x

/-- Slot `i` of engine `x`. -/
def State.sl (s : State) (x i : Nat) : PioS := tget {} s.pio (8 * x + i)

/-- The slot changed. -/
def State.modSl (s : State) (x i : Nat) (f : PioS → PioS) : State :=
  { s with pio := tput {} s.pio (8 * x + i) (f (s.sl x i)) }

/-! ### Queues (R399, R400, R402) -/

/-- TX queue size in effect. -/
def State.txSize (s : State) (x i : Nat) : Nat := min 16 (s.rd (PIO_SLOT_CFG_TX_SZ x i))
/-- RX queue size in effect. -/
def State.rxSize (s : State) (x i : Nat) : Nat := min 16 (s.rd (PIO_SLOT_CFG_RX_SZ x i))

/-- The queues of a slot, with the levels its status shows. -/
def State.setQ (s : State) (x i : Nat) (tx rx : List Nat) : State :=
  ((s.modSl x i fun y => { y with txq := tx, rxq := rx }).wr (PIO_SLOT_STAT_TX_LVL x i) tx.length).wr
    (PIO_SLOT_STAT_RX_LVL x i) rx.length

/-- Every queue of an engine emptied (R399). -/
def State.emptyQs (s : State) (x : Nat) : State := (List.range 8).foldl (fun s i => s.setQ x i [] []) s

/-- The bank of mailbox SRAM of an address. -/
def mbxBank (a : Nat) : Nat := (a - mbxBase) / 0x4000

/-- A record appended under a master's rights (R402): denied, dropped or stored. -/
def State.postRecord (s : State) (x i : Nat) (ws : List Nat) : State :=
  let p := s.rd (PIO_SLOT_POST_PORT x i)
  let q := s.rd (PIO_SLOT_POST_QUEUE x i)
  let drop (s : State) : State := (s.inc (PIO_ENG_CNT_POST_DROP x)).iflag (pioPage x) 14
  if !s.mbqFits p q ws.length then drop (s.mbqAppend p q ws)
  else
    let as := (List.range ws.length).map fun j => s.mbqAddr p q (s.rd (HOST_MBQ_PTR_TAIL p q) + j)
    match as.find? fun a => decide (s.rightIn (.mbx (mbxBank a)) 9 < 2) with
    | some a => drop (s.refuse 9 a true 1)
    | none => s.mbqAppend p q ws

/-- Records in the RX queue that SLOT_POST stages go to the mailbox (R402). -/
def State.rxPost (s : State) (x i : Nat) : State :=
  if !s.on (PIO_SLOT_POST_EN x i) then s
  else
    let q := (s.sl x i).rxq
    let n := min (max 1 (s.rd (PIO_SLOT_POST_LEN x i))) (s.rxSize x i)
    if q.length < n ∨ n = 0 then s
    else (s.setQ x i (s.sl x i).txq (q.drop n)).postRecord x i (q.take n)

/-- A write of SLOT_POST: records that the queue already holds are staged (R402). -/
def State.slPost (s : State) (x i v mk : Nat) : State :=
  (List.range 16).foldl (fun s _ => s.rxPost x i) (s.plainWrite (pioPage x) (0x11C + 0x20 * i) v mk)

/-- A write of TXQ (R400). -/
def State.txWrite (s : State) (x i v : Nat) : State :=
  let q := (s.sl x i).txq
  if s.txSize x i ≤ q.length then (s.inc (PIO_SLOT_CNT1_TX_OVF x i)).iflag (pioPage x) 10
  else
    let now := s.now
    (s.setQ x i (q ++ [v]) (s.sl x i).rxq).modSl x i fun y => { y with txNew := (now, if y.txNew.1 = now then y.txNew.2 + 1 else 1) }

/-- What a read of RXQ returns (R400, R402). -/
def State.rxView (s : State) (x i : Nat) : Nat := if s.on (PIO_SLOT_POST_EN x i) then 0 else (s.sl x i).rxq.headD 0

/-- A read of RXQ removes the oldest word, or counts an underflow; with POST it counts nothing (R400, R402). -/
def State.rxPop (s : State) (x i : Nat) : State :=
  if s.on (PIO_SLOT_POST_EN x i) then s
  else
    match (s.sl x i).rxq with
    | [] => (s.inc (PIO_SLOT_CNT1_RX_UNF x i)).iflag (pioPage x) 11
    | _ :: r =>
      let now := s.now
      (s.setQ x i (s.sl x i).txq r).modSl x i fun y => { y with rxGone := (now, if y.rxGone.1 = now then y.rxGone.2 + 1 else 1) }

/-- Words of the TX queue that the slot's tick sees: a tick acts before the interconnect in its cycle (R400). -/
def PioS.txSeen (y : PioS) : Nat := if y.tickAt ≤ y.txNew.1 then y.txq.length - y.txNew.2 else y.txq.length

/-- Words of the RX queue that the slot's tick sees. -/
def PioS.rxSeen (y : PioS) : Nat := if y.tickAt ≤ y.rxGone.1 then y.rxq.length + y.rxGone.2 else y.rxq.length

/-- Peripheral request `p` is active for bursts of `n` words (R380, R402). -/
def State.preq (s : State) (p n : Nat) : Bool :=
  let x := p % 32 / 8
  let i := p % 8
  if p < 32 then !s.on (PIO_SLOT_POST_EN x i) && decide (n ≤ (s.sl x i).rxq.length)
  else decide (n ≤ s.txSize x i - (s.sl x i).txq.length)

/-! ### Pins (R394) -/

/-- The slot runs: it executes or stalls. -/
def State.slRuns (s : State) (x i : Nat) : Bool :=
  let st := s.rd (PIO_SLOT_STAT_STATE x i)
  st == 1 || st == 2

/-- The level of a pin of a slot: `b` is 0 for A and 1 for B. An output drives its latch while the slot runs and its idle level
otherwise; an input has the level last seen. -/
def State.pioPin (s : State) (x i b : Nat) : Bool :=
  if bit (s.rd (PIO_SLOT_STAT_DIR x i)) b then
    (if s.slRuns x i then bit (s.sl x i).latch b else bit (s.rd (PIO_SLOT_CFG_IDLE x i)) b)
  else
    match (s.sl x i).ext with
    | some e => bit e b
    | none => Config.undriven (16 * x + 2 * i + b)

/-- PIN_LVL as read. -/
def State.pioPins (s : State) (x : Nat) : Nat :=
  ((List.range 16).map fun j => if s.pioPin x (j / 2) (j % 2) then 2 ^ j else 0).sum

/-! ### Slots and engines (R404 to R406) -/

/-- The last turn of slot `i` (R393): its turns are the CORE cycles c with c mod 8 = i. DESIGN CHOICE: CORE cycles are numbered as TB
ticks (assumption log 90). -/
def State.lastTurn (s : State) (i : Nat) : Nat := s.now - (s.now + (8 - i)) % 8

/-- A slot starts (R405). -/
def State.slStart (s : State) (x i : Nat) : State :=
  let turn := s.lastTurn i
  let s := s.modSl x i fun y => {
    tickAt := turn, latch := s.rd (PIO_SLOT_CFG_IDLE x i), ext := y.ext, txq := y.txq, rxq := y.rxq }
  let s := ((s.wr (PIO_SLOT_STAT_PC x i) (s.rd (PIO_SLOT_CFG_START x i))).wr (PIO_SLOT_STAT_DIR x i)
    (s.rd (PIO_SLOT_CFG_DIR x i))).wr (PIO_SLOT_STAT_BC x i) 0
  ((s.wr (PIO_SLOT_STAT_CF x i) 0).wr (PIO_SLOT_STAT_TRIG x i) 0).wr (PIO_SLOT_STAT_STATE x i) 1

/-- A running slot stops, into OFF or FAULT (R406). -/
def State.slStop (s : State) (x i st : Nat) : State :=
  if s.slRuns x i then
    let s := s.bump (PIO_SLOT_CNT1_DISC_BITS x i) (s.rd (PIO_SLOT_STAT_BC x i))
    let s := s.modSl x i fun y => { y with sr := 0, hold := 0, prev := none }
    (s.wr (PIO_SLOT_STAT_BC x i) 0).wr (PIO_SLOT_STAT_STATE x i) st
  else s

/-- Every running slot of an engine stops. -/
def State.slStopAll (s : State) (x : Nat) : State := (List.range 8).foldl (fun s i => s.slStop x i 0) s

/-- PG_CTRL.EN := 1 (R404, R399). A slot in FAULT starts only after its EN was written 0 and then 1 (R398). -/
def State.pioStart (s : State) (x : Nat) : State :=
  if s.rd (PIO_ENG_STAT_STATE x) ≠ 0 then s
  else if 64 < ((List.range 8).map fun i => s.txSize x i + s.rxSize x i).sum then s.cfgRec (srcPio x 9) 0 0xFFF
  else
    let s := (s.wr (PG_CTRL_EN (pioPage x)) 1).wr (PIO_ENG_STAT_STATE x) 1
    (List.range 8).foldl
      (fun s i => if s.on (PIO_SLOT_CFG_EN x i) && s.rd (PIO_SLOT_STAT_STATE x i) != 3 then s.slStart x i else s) s

/-- PG_CTRL.EN := 0 (R404). -/
def State.pioStop (s : State) (x : Nat) : State :=
  ((s.slStopAll x).wr (PG_CTRL_EN (pioPage x)) 0).wr (PIO_ENG_STAT_STATE x) 0

/-- A refused write of program memory, START or a queue size at word `w` of the page (R407). -/
def State.progBusy (s : State) (x w : Nat) : State :=
  (((s.setBits (PIO_ENG_STAT_PROG_BUSY x) 1).inc (PIO_ENG_STAT_PROG_REF x)).iflag (pioPage x) 8).raise (srcPio x 8) 0x54 (w % 256)

/-- A write of program memory (R407). -/
def State.progWrite (s : State) (x i v mk : Nat) : State :=
  if s.rd (PIO_ENG_STAT_STATE x) ≠ 0 then s.progBusy x i else s.writeField (PIO_PROG_INSTR x i) v mk

/-- A write of SLOT_CFG (R399, R404, R405, R407). -/
def State.slCfg (s : State) (x i v mk : Nat) : State :=
  let size := s.changes (PIO_SLOT_CFG_TX_SZ x i) v mk || s.changes (PIO_SLOT_CFG_RX_SZ x i) v mk
  if s.rd (PIO_ENG_STAT_STATE x) ≠ 0 ∧ (size ∨ s.changes (PIO_SLOT_CFG_START x i) v mk) then s.progBusy x (0x40 + 8 * i)
  else
    let was := s.on (PIO_SLOT_CFG_EN x i)
    let s := s.plainWrite (pioPage x) (0x100 + 0x20 * i) v mk
    let s := if size then s.emptyQs x else s
    let now := s.on (PIO_SLOT_CFG_EN x i)
    if now && !was && s.rd (PIO_ENG_STAT_STATE x) == 1 then s.slStart x i
    else if was && !now then (s.slStop x i 0).wr (PIO_SLOT_STAT_STATE x i) 0
    else s

/-! ### Ticks (R393) -/

/-- CORE cycles from the turn of the last tick, or from the last turn before the start, to the next tick: a turn comes every 8
cycles. -/
def State.tickGap (s : State) (x i : Nat) : Nat :=
  let v := s.rd (PIO_SLOT_RATE_VALUE x i)
  let k := if s.on (PIO_SLOT_RATE_MODE x i) then divUp (2 ^ 24 - (s.sl x i).phi) (v + 1) else v + 1
  8 * k

/-- The slot's next tick has come. -/
def State.tickDue (s : State) (x i : Nat) : Bool := decide ((s.sl x i).tickAt + s.tickGap x i ≤ s.now)

/-- The tick is taken: the next one counts from its turn. -/
def State.tickTake (s : State) (x i : Nat) : State :=
  let v := s.rd (PIO_SLOT_RATE_VALUE x i)
  let g := s.tickGap x i
  let ph := s.on (PIO_SLOT_RATE_MODE x i)
  s.modSl x i fun y => { y with
    tickAt := y.tickAt + g, phi := if ph then y.phi + g / 8 * (v + 1) - 2 ^ 24 else 0 }

/-! ### Instructions (R395, R396, R398) -/

/-- What an instruction word is. -/
inductive PioOp where
  | drv | dir | sho | shi | take | takeNb | put | putNb | setk | loop | br | waite | waitf
  | sigSet | sigClear | sigInv | sigIrq | movs
  deriving DecidableEq, Repr

/-- The instruction a word spells; `none` for a slot fault (R398). -/
def pioDecode (w : Nat) : Option PioOp :=
  let z (b : Bool) (o : PioOp) : Option PioOp := if b then some o else none
  match bits w 12 4 with
  | 0 => some .drv
  | 1 => some .dir
  | 2 => z (bits w 8 2 == 0) .sho
  | 3 => z (bits w 8 2 == 0) .shi
  | 4 => z (bits w 0 6 == 0) (if bit w 11 then .takeNb else .take)
  | 5 => z (bits w 0 11 == 0) (if bit w 11 then .putNb else .put)
  | 6 => some .setk
  | 7 => z (bits w 8 3 == 0) .loop
  | 8 => z (decide (bits w 8 4 ≤ 10)) .br
  | 9 => z (bit w 8 || bits w 0 8 == 0) .waite
  | 10 => z (bits w 3 7 == 0) .waitf
  | 11 => z (bits w 3 7 == 0) (match bits w 10 2 with | 0 => .sigSet | 1 => .sigClear | 2 => .sigInv | _ => .sigIrq)
  | 12 => z (bits w 0 5 == 0 && decide (bits w 9 3 ≤ 4) && decide (bits w 6 3 ≤ 5)) .movs
  | _ => none

/-- The word at the slot's program counter. -/
def State.pioWord (s : State) (x i : Nat) : Nat := s.rd (PIO_PROG_INSTR x (s.rd (PIO_SLOT_STAT_PC x i)))

/-- The slot goes on at `pc` after `hold` idle ticks. -/
def State.slGo (s : State) (x i pc hold : Nat) : State :=
  ((s.modSl x i fun y => { y with hold := hold, prev := none }).wr (PIO_SLOT_STAT_PC x i) pc).wr (PIO_SLOT_STAT_STATE x i) 1

/-- The slot goes on at the next instruction. -/
def State.slNext (s : State) (x i hold : Nat) : State := s.slGo x i (s.rd (PIO_SLOT_STAT_PC x i) + 1) hold

/-- The instruction stalls (R396). -/
def State.slStall (s : State) (x i : Nat) : State := s.wr (PIO_SLOT_STAT_STATE x i) 2

/-- The engine serves its slots. -/
def pioOk (x : Nat) (s : State) : Bool :=
  State.corn 3 s && s.rd (PIO_ENG_STAT_STATE x) == 1 && !s.rstBusy (pioPage x) && !s.pageCrimson (pioPage x)

/-- An uncorrectable program fetch error (R404). -/
def State.pFetchErr (s : State) (x a : Nat) : State :=
  (((s.slStopAll x).wr (PIO_ENG_STAT_STATE x) 2).iflag (pioPage x) 9).raise (srcPio x 8) 0x55 (a % 256)

/-- The fetch of the word at the slot's program counter finds a hard error (R404): engine `x`'s program memory is bank `x` of its
segment (assumption log 86). A stalled instruction is not fetched again. -/
def State.pioBad (s : State) (x i : Nat) : Option Bool :=
  if s.rd (PIO_SLOT_STAT_STATE x i) = 1 then s.badAt (qsegOf (srcPio x 8)) x (s.rd (PIO_SLOT_STAT_PC x i)) else none

/-- A fetch whose error SECDED corrects is counted and reported (R404). -/
def State.pioFix (s : State) (x i : Nat) : State :=
  if s.pioBad x i = some false then
    (s.inc (PIO_ENG_CNT_ECC x)).ramRecord 0x03 (qsegOf (srcPio x 8)) x (s.rd (PIO_SLOT_STAT_PC x i))
  else s

/-- A tick of a slot at which the instruction `op` executes or is retried: with its word. -/
def State.pioTick (s : State) (x i : Nat) (op : Option PioOp) (f : State → Nat → State) : State :=
  if s.slRuns x i && (s.sl x i).hold == 0 && s.tickDue x i && pioDecode (s.pioWord x i) == op then
    if s.pioBad x i = some true then (s.tickTake x i).pFetchErr x (s.rd (PIO_SLOT_STAT_PC x i))
    else f ((s.pioFix x i).tickTake x i) (s.pioWord x i)
  else s

/-- A tick at which the pins of the slot have the levels given. -/
def State.pioTickPins (s : State) (x i : Nat) (pins : Nat) (op : PioOp) (f : State → Nat → State) : State :=
  (s.modSl x i fun y => { y with ext := some (pins % 4) }).pioTick x i (some op) f

/-- A new output latch level of a pin. -/
def State.drive (s : State) (x i b : Nat) (v : Bool) : State := s.modSl x i fun y => { y with latch := putBit y.latch b v }

/-- DRV. -/
def State.pDrv (s : State) (x i w : Nat) : State :=
  let s := if bit w 8 then s.drive x i 0 (bit w 10) else s
  let s := if bit w 9 then s.drive x i 1 (bit w 11) else s
  s.slNext x i (bits w 0 8)

/-- DIR. -/
def State.pDir (s : State) (x i w : Nat) : State :=
  let f := PIO_SLOT_STAT_DIR x i
  let s := if bit w 8 then s.wr f (putBit (s.rd f) 0 (bit w 10)) else s
  let s := if bit w 9 then s.wr f (putBit (s.rd f) 1 (bit w 11)) else s
  s.slNext x i (bits w 0 8)

/-- SHO (R397). -/
def State.pSho (s : State) (x i w : Nat) : State :=
  let y := s.sl x i
  let bc := s.rd (PIO_SLOT_STAT_BC x i)
  let msb := s.on (PIO_SLOT_CFG_OUT_MSB x i)
  let b := if bc = 0 then false else if msb then bit y.sr 31 else bit y.sr 0
  let s := s.drive x i (bitN w 11) (b != bit w 10)
  let s := if bc = 0 then s
    else (s.modSl x i fun y => { y with sr := if msb then y.sr * 2 % 2 ^ 32 else y.sr / 2 }).wr (PIO_SLOT_STAT_BC x i) (bc - 1)
  s.slNext x i (bits w 0 8)

/-- SHI (R397). -/
def State.pShi (s : State) (x i w : Nat) : State :=
  let b := b2n (s.pioPin x i (bitN w 11) != bit w 10)
  let msb := s.on (PIO_SLOT_CFG_IN_MSB x i)
  let s := s.modSl x i fun y => { y with sr := if msb then (y.sr * 2 + b) % 2 ^ 32 else y.sr / 2 + b * 2 ^ 31 }
  (s.wr (PIO_SLOT_STAT_BC x i) (min 32 (s.rd (PIO_SLOT_STAT_BC x i) + 1))).slNext x i (bits w 0 8)

/-- CNT of a TAKE. -/
def takeCnt (w : Nat) : Nat := if bits w 6 5 = 0 then 32 else bits w 6 5

/-- TAKE, `nb` for TAKE.NB (R396, R401). -/
def State.pTake (s : State) (x i w : Nat) (nb : Bool) : State :=
  let y := s.sl x i
  match (if y.txSeen = 0 then [] else y.txq) with
  | v :: r =>
    let s := (s.setQ x i r y.rxq).modSl x i fun y => { y with sr := v, lastTx := v }
    (s.wr (PIO_SLOT_STAT_BC x i) (takeCnt w)).slNext x i 0
  | [] =>
    if nb then
      let s := ((s.inc (PIO_SLOT_CNT0_STALE x i)).iflag (pioPage x) 12).modSl x i fun y => { y with sr := y.lastTx }
      (s.wr (PIO_SLOT_STAT_BC x i) (takeCnt w)).slNext x i 0
    else s.slStall x i

/-- PUT, `nb` for PUT.NB (R396, R401). -/
def State.pPut (s : State) (x i : Nat) (nb : Bool) : State :=
  let y := s.sl x i
  let clear (s : State) : State := ((s.modSl x i fun y => { y with sr := 0 }).wr (PIO_SLOT_STAT_BC x i) 0).slNext x i 0
  if y.rxSeen < s.rxSize x i then clear ((s.setQ x i y.txq (y.rxq ++ [y.sr])).rxPost x i)
  else if nb then clear ((s.inc (PIO_SLOT_CNT0_DROP x i)).iflag (pioPage x) 13)
  else s.slStall x i

/-- A loop counter: 0 for K0, 1 for K1. -/
def PioS.k (y : PioS) (b : Bool) : Nat := if b then y.k1 else y.k0
def PioS.setK (y : PioS) (b : Bool) (v : Nat) : PioS := if b then { y with k1 := v % 65536 } else { y with k0 := v % 65536 }

/-- SETK. -/
def State.pSetk (s : State) (x i w : Nat) : State := (s.modSl x i fun y => y.setK (bit w 11) (bits w 0 11)).slNext x i 0

/-- LOOP. -/
def State.pLoop (s : State) (x i w : Nat) : State :=
  let k := (s.sl x i).k (bit w 11)
  if k = 0 then s.slNext x i 0 else (s.modSl x i fun y => y.setK (bit w 11) (k - 1)).slGo x i (bits w 0 8) 0

/-- COND of BR. -/
def State.brCond (s : State) (x i c : Nat) : Bool :=
  let y := s.sl x i
  let bc := s.rd (PIO_SLOT_STAT_BC x i)
  match c with
  | 0 => true
  | 1 => bc == 0
  | 2 => bc != 0
  | 3 => y.k0 == 0
  | 4 => y.k1 == 0
  | 5 => s.pioPin x i 0
  | 6 => s.pioPin x i 1
  | 7 => y.txSeen != 0
  | 8 => decide (y.rxSeen < s.rxSize x i)
  | 9 => s.on (PIO_SLOT_STAT_TRIG x i)
  | _ => s.on (PIO_SLOT_STAT_CF x i)

/-- BR. -/
def State.pBr (s : State) (x i w : Nat) : State :=
  let c := bits w 8 4
  if s.brCond x i c then
    (if c = 9 then s.wr (PIO_SLOT_STAT_TRIG x i) 0 else s).slGo x i (bits w 0 8) 0
  else s.slNext x i 0

/-- WAITE. -/
def State.pWaite (s : State) (x i w : Nat) : State :=
  let y := s.sl x i
  let b := s.pioPin x i (bitN w 11)
  let hit := match bits w 9 2 with
    | 0 => !b
    | 1 => b
    | 2 => y.prev == some false && b
    | _ => y.prev == some true && !b
  if hit then (s.wr (PIO_SLOT_STAT_CF x i) 0).slNext x i 0
  else if bit w 8 && y.k1 == 0 then (s.wr (PIO_SLOT_STAT_CF x i) 1).slGo x i (bits w 0 8) 0
  else
    let k1 := if bit w 8 then y.k1 - 1 else y.k1
    (s.modSl x i fun y => { y with prev := some b, k1 := k1 }).slStall x i

/-- WAITF. -/
def State.pWaitf (s : State) (x i w : Nat) : State :=
  let v := if bit w 11 then bit (s.rd (PIO_ENG_STAT_IRQF x)) (bits w 0 3) else s.on (PIO_SLOT_STAT_TRIG x i)
  if v = bit w 10 then
    (if !bit w 11 && v then s.wr (PIO_SLOT_STAT_TRIG x i) 0 else s).slNext x i 0
  else s.slStall x i

/-- SIG on an engine flag. -/
def State.pSig (s : State) (x i w : Nat) (f : Bool → Bool) : State :=
  let v := s.rd (PIO_ENG_STAT_IRQF x)
  let n := bits w 0 3
  (s.wr (PIO_ENG_STAT_IRQF x) (putBit v n (f (bit v n)))).slNext x i 0

/-- MOVS: an inverted source has each of its own bits inverted, and is then extended or truncated (assumption log 22). -/
def State.pMovs (s : State) (x i w : Nat) : State :=
  let y := s.sl x i
  let (n, v) : Nat × Nat := match bits w 6 3 with
    | 0 => (32, y.sr)
    | 1 => (16, y.k0)
    | 2 => (16, y.k1)
    | 3 => (6, s.rd (PIO_SLOT_STAT_BC x i))
    | 4 => (2, 2 * b2n (s.pioPin x i 1) + b2n (s.pioPin x i 0))
    | _ => (32, s.tb % 2 ^ 32)   -- TBV: of the lag of 0 to 3 ticks that R31 leaves open the model takes 0 (DESIGN CHOICE, log 91)
  let v := if bit w 5 then 2 ^ n - 1 - v % 2 ^ n else v
  (match bits w 9 3 with
    | 0 => s.modSl x i fun y => { y with sr := v }
    | 1 => s.modSl x i fun y => y.setK false v
    | 2 => s.modSl x i fun y => y.setK true v
    | 3 => s.wr (PIO_SLOT_STAT_BC x i) (min 32 (v % 64))
    | _ => s.wr (PIO_SLOT_STAT_DIR x i) (v % 4)).slNext x i 0

/-- A tick is spent on a hold tick (R393). -/
def State.pHold (s : State) (x i : Nat) : State :=
  if s.slRuns x i && decide (0 < (s.sl x i).hold) && s.tickDue x i then
    (s.tickTake x i).modSl x i fun y => { y with hold := y.hold - 1 }
  else s

/-- A slot fault (R398). -/
def State.pFault (s : State) (x i : Nat) : State :=
  let pc := s.rd (PIO_SLOT_STAT_PC x i)
  ((s.slStop x i 3).iflag (pioPage x) 9).raise (srcPio x i) 0x53 pc

/-- PTRIG (R403). -/
def State.pTrig (s : State) (x : Nat) : State :=
  (List.range 8).foldl (fun s i => if bit (s.rd (PIO_ENG_CFG_TRIG_SLOTS x)) i then s.wr (PIO_SLOT_STAT_TRIG x i) 1 else s) s

/-- A write of START, queue sizes or program memory by its page offset (R407). -/
def State.pioProg (s : State) (x o v mk : Nat) : State :=
  if 0x400 ≤ o ∧ o < 0x800 then s.progWrite x ((o - 0x400) / 4) v mk
  else if 0x100 ≤ o ∧ o < 0x200 ∧ o % 0x20 = 0 then s.slCfg x ((o - 0x100) / 0x20) v mk
  else s

/-! ### The commands -/

/-- PIO_ENGINE_ENABLE (R404). -/
def execPioEngineEnable (t : Nat) (m : Master) (x : Engine) (s : State) : Out :=
  s.act t (State.core 3) fun s => s.guardedMask m (pioPage x) 8 1 1 (State.pioStart · x)

/-- PIO_ENGINE_STOP (R404). -/
def execPioEngineStop (t : Nat) (m : Master) (x : Engine) (s : State) : Out :=
  s.act t (State.core 3) fun s => s.guardedMask m (pioPage x) 8 0 1 (State.pioStop · x)

/-- PIO_SLOT_ENABLE (R405). -/
def execPioSlotEnable (t : Nat) (m : Master) (x : Engine) (sl : PioSlot) (s : State) : Out :=
  s.act t (State.core 3) fun s =>
    s.guardedMask m (pioPage x) (0x100 + 0x20 * sl) (2 ^ 31) (2 ^ 31) fun s => s.slCfg x sl (2 ^ 31) (2 ^ 31)

/-- PIO_SLOT_STOP (R406). -/
def execPioSlotStop (t : Nat) (m : Master) (x : Engine) (sl : PioSlot) (s : State) : Out :=
  s.act t (State.core 3) fun s =>
    s.guardedMask m (pioPage x) (0x100 + 0x20 * sl) 0 (2 ^ 31) fun s => s.slCfg x sl 0 (2 ^ 31)

/-- DRV (R396). -/
def execPioDrv (t : Nat) (x : Engine) (sl : PioSlot) (s : State) : Out :=
  s.act t (pioOk x) fun s => s.pioTick x sl (some .drv) fun s w => s.pDrv x sl w

/-- DIR (R396). -/
def execPioDir (t : Nat) (x : Engine) (sl : PioSlot) (s : State) : Out :=
  s.act t (pioOk x) fun s => s.pioTick x sl (some .dir) fun s w => s.pDir x sl w

/-- SHO (R396, R397). -/
def execPioSho (t : Nat) (x : Engine) (sl : PioSlot) (s : State) : Out :=
  s.act t (pioOk x) fun s => s.pioTick x sl (some .sho) fun s w => s.pSho x sl w

/-- SHI (R396, R397). -/
def execPioShi (t : Nat) (x : Engine) (sl : PioSlot) (pins : BitVec 2) (s : State) : Out :=
  s.act t (pioOk x) fun s => s.pioTickPins x sl pins.toNat .shi fun s w => s.pShi x sl w

/-- TAKE (R396). -/
def execPioTake (t : Nat) (x : Engine) (sl : PioSlot) (s : State) : Out :=
  s.act t (pioOk x) fun s => s.pioTick x sl (some .take) fun s w => s.pTake x sl w false

/-- TAKE_NB (R401). -/
def execPioTakeNb (t : Nat) (x : Engine) (sl : PioSlot) (s : State) : Out :=
  s.act t (pioOk x) fun s => s.pioTick x sl (some .takeNb) fun s w => s.pTake x sl w true

/-- PUT (R396). -/
def execPioPut (t : Nat) (x : Engine) (sl : PioSlot) (s : State) : Out :=
  s.act t (pioOk x) fun s => s.pioTick x sl (some .put) fun s _ => s.pPut x sl false

/-- PUT_NB (R401). -/
def execPioPutNb (t : Nat) (x : Engine) (sl : PioSlot) (s : State) : Out :=
  s.act t (pioOk x) fun s => s.pioTick x sl (some .putNb) fun s _ => s.pPut x sl true

/-- SETK (R396). -/
def execPioSetk (t : Nat) (x : Engine) (sl : PioSlot) (s : State) : Out :=
  s.act t (pioOk x) fun s => s.pioTick x sl (some .setk) fun s w => s.pSetk x sl w

/-- LOOP (R396). -/
def execPioLoop (t : Nat) (x : Engine) (sl : PioSlot) (s : State) : Out :=
  s.act t (pioOk x) fun s => s.pioTick x sl (some .loop) fun s w => s.pLoop x sl w

/-- BR (R396). -/
def execPioBr (t : Nat) (x : Engine) (sl : PioSlot) (pins : BitVec 2) (s : State) : Out :=
  s.act t (pioOk x) fun s => s.pioTickPins x sl pins.toNat .br fun s w => s.pBr x sl w

/-- WAITE (R396). -/
def execPioWaite (t : Nat) (x : Engine) (sl : PioSlot) (pins : BitVec 2) (s : State) : Out :=
  s.act t (pioOk x) fun s => s.pioTickPins x sl pins.toNat .waite fun s w => s.pWaite x sl w

/-- WAITF (R396). -/
def execPioWaitf (t : Nat) (x : Engine) (sl : PioSlot) (s : State) : Out :=
  s.act t (pioOk x) fun s => s.pioTick x sl (some .waitf) fun s w => s.pWaitf x sl w

/-- SIG OP 0 (R396). -/
def execPioSigSet (t : Nat) (x : Engine) (sl : PioSlot) (s : State) : Out :=
  s.act t (pioOk x) fun s => s.pioTick x sl (some .sigSet) fun s w => s.pSig x sl w fun _ => true

/-- SIG OP 1 (R396). -/
def execPioSigClear (t : Nat) (x : Engine) (sl : PioSlot) (s : State) : Out :=
  s.act t (pioOk x) fun s => s.pioTick x sl (some .sigClear) fun s w => s.pSig x sl w fun _ => false

/-- SIG OP 2 (R396). -/
def execPioSigInvert (t : Nat) (x : Engine) (sl : PioSlot) (s : State) : Out :=
  s.act t (pioOk x) fun s => s.pioTick x sl (some .sigInv) fun s w => s.pSig x sl w not

/-- SIG OP 3 (R396, R409). -/
def execPioSigIrq (t : Nat) (x : Engine) (sl : PioSlot) (s : State) : Out :=
  s.act t (pioOk x) fun s =>
    s.pioTick x sl (some .sigIrq) fun s w => (s.iflag (pioPage x) (bits w 0 3)).slNext x sl 0

/-- MOVS (R396). -/
def execPioMovs (t : Nat) (x : Engine) (sl : PioSlot) (pins : BitVec 2) (s : State) : Out :=
  s.act t (pioOk x) fun s => s.pioTickPins x sl pins.toNat .movs fun s w => s.pMovs x sl w

/-- PIO_HOLD_TICK (R393, R396). -/
def execPioHoldTick (t : Nat) (x : Engine) (sl : PioSlot) (s : State) : Out := s.act t (pioOk x) fun s => s.pHold x sl

/-- PIO_SLOT_FAULT (R398). -/
def execPioSlotFault (t : Nat) (x : Engine) (sl : PioSlot) (s : State) : Out :=
  s.act t (pioOk x) fun s => s.pioTick x sl none fun s _ => s.pFault x sl

/-- PIO_FETCH_ERROR (R404). -/
def execPioFetchError (t : Nat) (x : Engine) (addr : BitVec 8) (s : State) : Out :=
  s.act t (pioOk x) fun s => s.pFetchErr x addr.toNat

/-- TXQ_WRITE (R400). -/
def execTxqWrite (t : Nat) (m : Master) (x : Engine) (sl : PioSlot) (v : Word) (s : State) : Out :=
  s.act t (State.core 3) fun s =>
    s.guarded m (pioPage x) (0x114 + 0x20 * sl) v.toNat fun s => s.txWrite x sl v.toNat

/-- RXQ_READ (R400). -/
def execRxqRead (t : Nat) (m : Master) (x : Engine) (sl : PioSlot) (s : State) : Out :=
  s.act t (State.core 3) fun s => s.guardedRead m (pageAddr (pioPage x) (0x118 + 0x20 * sl)) fun s => s.rxPop x sl

/-- PTRIG (R403). -/
def execPioPtrig (t : Nat) (x : Engine) (s : State) : Out :=
  s.act t (State.core 3) fun s => s.takeDest (56 + x) fun s => s.pTrig x

/-- PIO_PROG_WRITE (R407). -/
def execPioProgWrite (t : Nat) (m : Master) (x : Engine) (off : BitVec 12) (v : Word) (s : State) : Out :=
  s.act t (State.core 3) fun s =>
    s.guarded m (pioPage x) off.toNat v.toNat fun s => s.pioProg x off.toNat v.toNat 0xFFFFFFFF

end Sys2Proof.Machine
end

