-- ==== Sys2Proof/Machine/Dma.lean ====
section
/-! DEFINITION. DMA channels (R375 to R392): their states, triggers, checks, descriptors and the grant. The beats of a burst
stand in Beat.lean. -/

namespace Sys2Proof.Machine

open Reg

/-- CH_STAT.STATE (R383): 0 IDLE, 1 WAIT, 2 BUSY, 3 DESC, 4 DONE, 5 HALTED. -/
def State.dmaSt (s : State) (c : Nat) : Nat := s.rd (DMA_CH_STAT_STATE c)

/-- The state of a channel changes. -/
def State.dmaGo (s : State) (c st : Nat) : State := s.wr (DMA_CH_STAT_STATE c) st

/-- A channel in WAIT, BUSY or DESC. -/
def State.dmaActive (s : State) (c : Nat) : Bool := decide (1 ≤ s.dmaSt c) && decide (s.dmaSt c ≤ 3)

/-- CH_STAT.OWNER (R80). -/
def State.dmaOwner (s : State) (c : Nat) : Nat := s.rd (DMA_CH_STAT_OWNER c)

/-- SRC_IDs (R391): a channel; the prefetch line buffer. -/
def srcDma (c : Nat) : Nat := srcId 3 (6 + c / 16) (c % 16)

/-- A channel's flag (R392). -/
def State.dmaFlag (s : State) (c : Nat) : State := s.iflag 0xB8 c

/-! ### The geometry of a count (R375, R376) -/

/-- The lanes before the span in its first word. -/
def State.dmaOff (s : State) (c : Nat) : Nat :=
  max (if s.on (DMA_CH_CFG_SRC_INC c) then s.rd (DMA_CH_SRC_ADDR c) % 4 else 0)
    (if s.on (DMA_CH_CFG_DST_INC c) then s.rd (DMA_CH_DST_ADDR c) % 4 else 0)

/-- The beats of the next burst. -/
def State.dmaBeats (s : State) (c : Nat) : Nat :=
  min (s.rd (DMA_CH_CFG_BURST c) + 1) (divUp (s.dmaOff c + s.rd (DMA_CH_COUNT_BYTES c)) 4)

/-- The address of beat `i` on a side. -/
def beatAddr (inc : Bool) (a i : Nat) : Nat := if inc then a / 4 * 4 + 4 * i else a

def State.dmaSrc (s : State) (c i : Nat) : Nat := beatAddr (s.on (DMA_CH_CFG_SRC_INC c)) (s.rd (DMA_CH_SRC_ADDR c)) i
def State.dmaDst (s : State) (c i : Nat) : Nat := beatAddr (s.on (DMA_CH_CFG_DST_INC c)) (s.rd (DMA_CH_DST_ADDR c)) i

/-- The bytes that beats up to `n` deliver. -/
def State.dmaBytes (s : State) (c n : Nat) : Nat := min (s.rd (DMA_CH_COUNT_BYTES c)) (4 * n - s.dmaOff c)

/-- The byte enables of beat `i` (R376). -/
def State.dmaBe (s : State) (c i : Nat) : Nat :=
  let off := s.dmaOff c
  let last := off + s.rd (DMA_CH_COUNT_BYTES c)
  ((List.range 4).map fun k => if off ≤ 4 * i + k ∧ 4 * i + k < last then 2 ^ k else 0).sum

/-- SWAP on a word (R377). -/
def swapWord (k w : Nat) : Nat :=
  let b (i : Nat) : Nat := w / 256 ^ i % 256
  match k with
  | 1 => b 1 + b 0 * 256 + b 3 * 65536 + b 2 * 16777216
  | 2 => b 2 + b 3 * 256 + b 0 * 65536 + b 1 * 16777216
  | 3 => b 3 + b 2 * 256 + b 1 * 65536 + b 0 * 16777216
  | _ => w % 2 ^ 32

/-! ### Checks (R378) -/

/-- The regions of R61: first and last address. -/
def regions61 : List (Nat × Nat) := [(0, 0xFFFF), (0x10000000, 0x1003FFFF), (0x20000000, 0x2000FFFF), (0x30000000, 0x3003FFFF),
  (0x40000000, 0x400FFFFF), (0x50000000, 0x53FFFFFF)]

/-- A span of `n` bytes ends inside the region in which it starts. -/
def spanInside (a n : Nat) : Bool :=
  n == 0 || regions61.any fun (r : Nat × Nat) => decide (r.1 ≤ a) && decide (a + n - 1 ≤ r.2)

/-- A span lies in mailbox SRAM. -/
def spanInMbx (a n : Nat) : Bool := decide (mbxBase ≤ a) && decide (a + n ≤ mbxBase + 0x40000)

/-- The first failing check, 0 for none. -/
def State.dmaCheck (s : State) (c : Nat) : Nat :=
  let a := s.rd (DMA_CH_SRC_ADDR c)
  let d := s.rd (DMA_CH_DST_ADDR c)
  let n := s.rd (DMA_CH_COUNT_BYTES c)
  let nx := 16 * s.rd (DMA_CH_DESC_ADDR c)
  let si := s.on (DMA_CH_CFG_SRC_INC c)
  let di := s.on (DMA_CH_CFG_DST_INC c)
  let sw := s.rd (DMA_CH_CFG_SWAP c)
  let aligned (x : Nat) : Bool := x % 4 == 0 && (x + n) % 4 == 0
  if n = 0 ∧ nx = 0 then 1
  else if si && di && a % 4 != d % 4 then 2
  else if !((si || a % 4 == 0) && (di || d % 4 == 0) && ((si && di) || n % 4 == 0)) then 3
  else if n ≠ 0 && ((si && !aligned a && !spanInMbx a n) || (di && !aligned d && !spanInMbx d n)) then 4
  else if (sw == 1 && !(a % 2 == 0 && d % 2 == 0 && n % 2 == 0)) || (decide (2 ≤ sw) && !(a % 4 == 0 && d % 4 == 0 && n % 4 == 0)) then 5
  else if nx ≠ 0 && !spanInMbx nx 16 then 6
  else if (si && !spanInside a n) || (di && !spanInside d n) then 7
  else 0

/-! ### States (R383) -/

/-- The states in which words wait: what was read and not written is lost where its source removes what it delivers (R387). -/
def State.removes (_ : State) (a : Nat) : Bool :=
  match regionOf a with
  | .page p o =>
    (match fieldsAt p o with
     | some fs => fs.any fun f => f.ty == .rc
     | none => false)
  | _ => false

/-- Words read that the channel has not written. -/
def State.dmaUnwritten (s : State) (c : Nat) : Nat :=
  match s.dma.burst with
  | some b => if b.c = c then b.data.length else ((s.dmaC c).part.getD []).length
  | none => ((s.dmaC c).part.getD []).length

/-- A channel's burst is no more. -/
def State.dmaDrop (s : State) (c : Nat) : State :=
  let s := match s.dma.burst with
    | some b => if b.c = c then { s with dma := { s.dma with burst := none } } else s
    | none => s
  s.modDma c fun x => { x with part := none, tries := 0, retry := false, stop := false, held := false, evs := 0, fin := false }

/-- The channel halts (R383, R387). -/
def State.dmaHalt (s : State) (c cause code : Nat) : State :=
  let lost := if s.removes (s.dmaSrc c 0) then satN 4 (s.dmaUnwritten c) else 0
  let s := (((s.dmaDrop c).wr (DMA_CH_STAT_CAUSE c) cause).wr (DMA_CH_STAT_CODE c) code).wr (DMA_CH_STAT_LOST c) lost
  let s := s.dmaGo c 5
  if s.on (DMA_CH_CFG_IRQ_ERR c) then s.dmaFlag c else s

/-- A held event releases the channel, or it waits. -/
def State.dmaWait (s : State) (c : Nat) : State :=
  if (s.dmaC c).held then (s.modDma c fun x => { x with held := false }).dmaGo c 2 else s.dmaGo c 1

/-- KIND of a channel (R379). -/
def State.dmaKind (s : State) (c : Nat) : Nat := s.rd (DMA_CH_TRIG_KIND c)

/-- The channel is ready for its count: BUSY for KIND 0, else it waits. -/
def State.dmaReady (s : State) (c : Nat) : State := if s.dmaKind c = 0 then s.dmaGo c 2 else s.dmaWait c

/-- The count has reached 0: the next descriptor, or the completion (R383, R389). -/
def State.dmaCountEnd (s : State) (c : Nat) : State :=
  let irq := (s.dmaC c).irqEnd && s.on (DMA_CH_CFG_IRQ_DESC c)
  let s := s.modDma c fun x => { x with irqEnd := false }
  let s := if irq then (s.setBits (DMA_CH_STAT_DESC_END c) 1).dmaFlag c else s
  if s.rd (DMA_CH_DESC_ADDR c) ≠ 0 then
    if (s.dmaC c).stop then s.dmaHalt c 1 0 else s.dmaGo c 3
  else s.modDma c fun x => { x with fin := true, stop := false }

/-- START (R383). -/
def State.dmaStart (s : State) (c : Nat) : State :=
  if s.dmaActive c then s
  else
    let code := s.dmaCheck c
    if code ≠ 0 then
      let s := ((s.dmaGo c 0).wr (DMA_CH_STAT_CAUSE c) 8).wr (DMA_CH_STAT_CODE c) code
      if s.on (DMA_CH_CFG_IRQ_ERR c) then s.dmaFlag c else s
    else
      let s := if s.dmaSt c = 5 then s else s.modDma c fun x => { x with irqEnd := false }
      let ev : Bool := (s.dmaC c).missed == some s.tb
      let s := s.dmaDrop c
      let s := if ev then s.modDma c fun x => { x with evs := 1, missed := none } else s
      let s := ((s.wr (DMA_CH_STAT_HOPS c) 0).wr (DMA_CH_STAT_DONE c) 0).wr (DMA_CH_STAT_LOST c) 0
      let s := (s.wr (DMA_CH_STAT_CAUSE c) 0).wr (DMA_CH_STAT_CODE c) 0
      if s.rd (DMA_CH_COUNT_BYTES c) = 0 then s.dmaGo c 3 else s.dmaReady c

/-- The engine has granted a burst to the channel. -/
def State.dmaInBurst (s : State) (c : Nat) : Bool :=
  match s.dma.burst with
  | some b => b.c == c
  | none => false

/-- The budget indices that a burst of a channel uses, with its beats: `r` reads and `n` writes. A remote window is no target of
R52. -/
def State.dmaTargets (s : State) (c r n : Nat) : List (Nat × Nat) :=
  let m := s.dmaOwner c
  match targetOf (s.dmaSrc c 0), targetOf (s.dmaDst c 0) with
  | some a, some b => if a = b then [(16 * a + m, r + n)] else [(16 * a + m, r), (16 * b + m, n)]
  | some a, none => [(16 * a + m, r)]
  | none, some b => [(16 * b + m, n)]
  | none, none => []

/-- The targets of a channel's next burst; words kept for a retry are not read again. -/
def State.dmaNeeds (s : State) (c : Nat) : List (Nat × Nat) :=
  let n := s.dmaBeats c
  s.dmaTargets c (n - ((s.dmaC c).part.getD []).length) n

/-- A burst granted in this cycle is left unstarted: its beats are not made and do not count (R383). -/
def State.dmaUngrant (s : State) (c n k : Nat) : State :=
  let m := s.dmaOwner c
  let src := (List.range n).map (s.dmaSrc c)
  let s := (s.dmaTargets c (n - k) n).foldl
    (fun (s : State) (e : Nat × Nat) => { s with budg := { s.budg with use := tput 0 s.budg.use e.1 (s.buse e.1 - e.2) } }) s
  { s with casc := { s.casc with rem := s.casc.rem.filter fun r => !(r.m == m && !r.write && src.contains r.addr) } }

/-- STOP (R383): after the burst in progress; one granted in the same cycle is left unstarted. -/
def State.dmaStop (s : State) (c : Nat) : State :=
  if !s.dmaActive c || (s.dmaC c).fin then s
  else
    match s.dma.burst with
    | some b =>
      if b.c ≠ c then s.dmaHalt c 1 0
      else if b.at_ = s.tb then (s.dmaUngrant c b.n b.data.length).dmaHalt c 1 0
      else s.modDma c fun x => { x with stop := true }
    | none => s.dmaHalt c 1 0

/-- A write of CH_CTRL: a STOP and a START in one write find the channel in its state before the write. -/
def State.dmaCtrl (s : State) (c v : Nat) : State :=
  if s.dmaActive c then (if bit v 1 then s.dmaStop c else s) else if bit v 0 then s.dmaStart c else s

/-- The request of a channel of KIND 3 is active; values beyond the range act as no source (R380, R391). -/
def State.dmaReq (s : State) (c : Nat) : Bool :=
  let sel := s.rd (DMA_CH_TRIG_SEL c)
  decide (sel < 64) && s.preq sel (s.rd (DMA_CH_CFG_BURST c) + 1)

/-- A trigger is taken (R381, R383). -/
def State.dmaTrigger (s : State) (c : Nat) : State :=
  if s.dmaKind c = 3 then (if s.dmaSt c == 1 && s.dmaReq c then s.dmaGo c 2 else s)
  else
    let x := s.dmaC c
    if x.evs = 0 then s
    else
      let s := s.modDma c fun y => { y with evs := y.evs - 1 }
      match s.dmaSt c with
      | 1 => s.dmaGo c 2
      | 2 | 3 => if x.held then s.setBits (DMA_CH_STAT_TRIG_OVR c) 1 else s.modDma c fun y => { y with held := true }
      | _ => s

/-- The completion point (R385). -/
def State.dmaComplete (s : State) (c : Nat) : State :=
  if !((s.dmaC c).fin && s.dmaSt c == 2) then s
  else
    let s := ((s.dmaDrop c).dmaGo c 4).setBits (DMA_CH_STAT_DONE c) 1
    let s := (List.range 8).foldl
      (fun s j => if s.on (ROUTER_DDONE_SEL_EN j) && s.rd (ROUTER_DDONE_SEL_CH j) == c then s.pulse (240 + j) else s) s
    let s := s.dmaEvent 2 c
    if s.on (DMA_CH_CFG_IRQ_DONE c) then s.dmaFlag c else s

/-! ### Descriptors (R389, R390) -/

/-- The words of the descriptor at `a`. -/
def State.descWords (s : State) (a : Nat) : List Nat := (List.range 4).map fun i => rdWord s.mem (a + 4 * i)

/-- A channel that budgets refuse counts a held request at each, once in a frame (R54). -/
def State.dmaHold (s : State) (c : Nat) (needs : List (Nat × Nat)) : State :=
  if (s.dmaC c).wait then s
  else
    (needs.foldl (fun s (e : Nat × Nat) => if s.grantable e.1 e.2 then s else s.holdBudget e.1) s).modDma c fun x =>
      { x with wait := true }

/-- A descriptor fetch completes: it loads, or it halts the channel. -/
def State.dmaDesc (s : State) (c : Nat) : State :=
  let a := 16 * s.rd (DMA_CH_DESC_ADDR c)
  let own := s.dmaOwner c
  let hops := s.rd (DMA_CH_STAT_HOPS c)
  if s.dmaSt c ≠ 3 then s
  else if max 1 (s.rd (DMA_CH_CFG_HOP_LIM c)) < hops + 1 then s.dmaHalt c 6 0
  else
    let code := s.readCode own a
    if code ≠ 0 then (s.refuse own a false code).dmaHalt c 7 0
    else if !s.grantable own 4 then s.dmaHold c [(own, 4)]
    else
      let s := s.useBudget own 4
      let ws := s.descWords a
      let w (i : Nat) : Nat := ws.getD i 0
      if bits (w 2) 18 12 ≠ 0 then s.dmaHalt c 7 0
      else
        let s := ((s.wr (DMA_CH_SRC_ADDR c) (w 0)).wr (DMA_CH_DST_ADDR c) (w 1)).wr (DMA_CH_COUNT_BYTES c) (w 2)
        let s := (s.wr (DMA_CH_DESC_ADDR c) (w 3 / 16)).wr (DMA_CH_STAT_HOPS c) (if bit (w 2) 30 then 0 else hops + 1)
        let s := s.modDma c fun x => { x with irqEnd := bit (w 2) 31 }
        let code := if w 3 % 16 ≠ 0 then 6 else s.dmaCheck c
        if code ≠ 0 then s.dmaHalt c 7 code
        else if s.rd (DMA_CH_COUNT_BYTES c) = 0 then s.dmaCountEnd c
        else s.dmaReady c

/-! ### The whole engine -/

/-- A write of CH_CFG: OWNER follows the master, also where the write is refused as RWS (R80, R391). -/
def State.dmaCfgWrite (s : State) (m c v mk : Nat) : State :=
  let code := s.writeCode m (pageAddr 0xB8 (0x100 + 0x20 * c)) v mk
  let s := if (code = 0 ∨ code = 4) ∧ !s.rstBusy 0xB8 then s.wr (DMA_CH_STAT_OWNER c) m else s
  s.guardedTo m (pageAddr 0xB8 (0x100 + 0x20 * c)) v mk fun s => s.plainWrite 0xB8 (0x100 + 0x20 * c) v mk

/-- DMA SOFT_RST (R383): the channels. -/
def State.dmaReset (s : State) : State := { s with dma := {} }

/-- DMA_STAT.BUSY_N. -/
def State.dmaBusyN (s : State) : Nat :=
  ((List.range 32).filter fun c => s.dmaSt c == 2 || s.dmaSt c == 3).length

/-- A fence (R386). -/
def State.dmaFence (s : State) (c : Nat) : State := (s.wr DMA_FENCE_CH c).wr DMA_FENCE_BUSY 1

/-! ### The commands -/

/-- The engine acts. -/
def dmaOk (s : State) : Bool := State.corn 3 s && !s.rstBusy 0xB8 && !s.pageCrimson 0xB8

/-- DMA_CH_CFG_WRITE (R80, R391). -/
def execDmaChCfgWrite (t : Nat) (m : Master) (c : DmaCh) (v : Word) (s : State) : Out :=
  s.act t (State.core 3) fun s => s.dmaCfgWrite m c v.toNat 0xFFFFFFFF

/-- START (R378, R383). -/
def execDmaStart (t : Nat) (m : Master) (c : DmaCh) (s : State) : Out :=
  s.act t (State.core 3) fun s => s.guarded m 0xB8 (0x118 + 0x20 * c.val) 1 fun s => s.dmaCtrl c 1

/-- STOP (R383). -/
def execDmaStop (t : Nat) (m : Master) (c : DmaCh) (s : State) : Out :=
  s.act t (State.core 3) fun s => s.guarded m 0xB8 (0x118 + 0x20 * c.val) 2 fun s => s.dmaCtrl c 2

/-- DMA_TRIGGER (R381, R383). -/
def execDmaTrigger (t : Nat) (c : DmaCh) (s : State) : Out := s.act t dmaOk fun s => s.dmaTrigger c

/-- DMA_COMPLETE (R385). -/
def execDmaComplete (t : Nat) (c : DmaCh) (s : State) : Out := s.act t dmaOk fun s => s.dmaComplete c

/-- DMA_DESC_LOAD (R389, R390). -/
def execDmaDescLoad (t : Nat) (c : DmaCh) (s : State) : Out := s.act t dmaOk fun s => s.dmaDesc c

/-- FENCE (R386). -/
def execDmaFence (t : Nat) (m : Master) (c : DmaCh) (s : State) : Out :=
  s.act t (State.core 3) fun s => s.guarded m 0xB8 0x48 (0x100 + c.val) fun s => s.dmaFence c

/-- FENCE_DONE (R386): no write of the channel is under way. -/
def execDmaFenceDone (t : Nat) (s : State) : Out :=
  s.act t dmaOk fun s => if s.dmaInBurst (s.rd DMA_FENCE_CH) then s else s.wr DMA_FENCE_BUSY 0

end Sys2Proof.Machine
end

