-- ==== Sys2Proof/Machine/Gel.lean ====
section
/-! DEFINITION. The Gelad microengines (R237 to R256): threads, the instruction set, debug halt. -/

namespace Sys2Proof.Machine

open Reg

/-! ### Fields of an instruction (R242) -/

def iOpc (w : Nat) : Nat := bits w 34 6
def iD (w : Nat) : Nat := bits w 31 3
def iA (w : Nat) : Nat := bits w 28 3
def iI (w : Nat) : Bool := bit w 27
def iB (w : Nat) : Nat := bits w 24 3
def iTarget (w : Nat) : Nat := bits w 0 13

/-- Every bit that the instruction's format does not use is 0 (R242, R243). -/
def mbzOk (w : Nat) : Bool :=
  let z (lo n : Nat) : Bool := bits w lo n == 0
  let op := iOpc w
  if op ≤ 0x0F then
    (if iI w then z 24 3 else z 0 24) && (op != 0x0C || iD w == 0) && (op != 0x0D || iA w == 0) && (op != 0x0F || iI w)
  else if op ≤ 0x11 then
    z 27 1 && z 6 18 && (bit w 5 || iB w == 0) && (if op = 0x10 then iA w == 0 else iD w == 0)
  else if op ≤ 0x13 then z 27 1 && z 16 8 && (if op = 0x12 then iB w == 0 else iD w == 0)
  else if op ≤ 0x15 then z 0 28
  else if op = 0x16 then iD w == 0 && z 3 25
  else if op = 0x17 then iD w == 0 && z 0 28
  else if op = 0x1C ∨ op = 0x1D then z 24 4 && z 3 19
  else if op = 0x1E then iD w == 0 && z 24 4 && z 10 12 && z 4 4
  else if op ≤ 0x1F then iD w == 0 && z 24 4 && z 0 22
  else if op = 0x20 then z 13 17
  else if op = 0x21 then z 13 10
  else if op ≤ 0x23 then z 13 21
  else if op = 0x3F then z 10 24
  else z 0 34

/-- The opcodes of R243. -/
def opcKnown (op : Nat) : Bool := decide (op ≤ 0x23) || op == 0x3C || op == 0x3E || op == 0x3F

/-- Engine cycles of an instruction without stalls (R243); a branch not taken takes 1. -/
def opcCycles (op : Nat) : Nat :=
  if op = 0x08 ∨ op = 0x09 ∨ op = 0x10 then 2
  else if op = 0x12 ∨ op = 0x13 then 8
  else if op = 0x14 ∨ op = 0x15 then 6
  else if op = 0x1C ∨ op = 0x1D ∨ op = 0x1F then 2
  else if op = 0x22 ∨ op = 0x23 then 2
  else if op = 0x3E then 3
  else 1

/-! ### Registers and flags of a thread -/

/-- G(x). -/
def GelS.reg (x : GelS) (i : Nat) : Nat := (x.g[i]?).getD 0

/-- G(d) := v. -/
def GelS.setReg (x : GelS) (d v : Nat) : GelS :=
  { x with g := (List.range 8).map fun i => if i = d then v % 2 ^ 32 else x.reg i }

/-- Condition flags, by bit: 0 Z, 1 N, 2 C, 3 V, 4 E, 5 F, 6 P, 7 U. -/
def GelS.flag (x : GelS) (i : Nat) : Bool := bit x.cc i
def GelS.setFlag (x : GelS) (i : Nat) (b : Bool) : GelS := { x with cc := putBit x.cc i b }

/-- Z and N of a result; C and V as given. -/
def GelS.znc (x : GelS) (r : Nat) (n c v : Bool) : GelS := (((x.setFlag 0 (r == 0)).setFlag 1 n).setFlag 2 c).setFlag 3 v

/-- The B operand of an ALU instruction: G(B), or the sign-extended immediate. -/
def GelS.opB (x : GelS) (w : Nat) : Nat := if iI w then ofS 32 (toS 24 (bits w 0 24)) else x.reg (iB w)

/-- The physical channel of the thread in progress. -/
def State.thrPhys (s : State) (g : Nat) : Option Nat := s.physOf (s.rd (GEL_GEL_STAT_CH g))

/-- The SRC_ID of an engine's core or store (R19). -/
def srcGel (g sub : Nat) : Nat := srcId 1 (0x24 + g) sub

/-! ### Ends of a thread -/

/-- A thread fault (R241): a safe end of the channel, its yield context discarded, CH_ERR.ABORT, and unless `quiet` an AMBER
record with the channel as its cause. -/
def State.threadFault (s : State) (g cause : Nat) (quiet : Bool) : State :=
  let addr := s.rd (GEL_GEL_STAT_PC g)
  let s := match cause with
    | 1 => s.inc (GEL_FLT_CNT_OVERRUN g)
    | 3 => s.inc (GEL_FLT_CNT_ILLEGAL g)
    | 4 | 5 => s.inc (GEL_FLT_CNT_STACK g)
    | _ => s
  let s := s.iflag (0x30 + g) 0
  let s := match s.thrPhys g with
    | none => s
    | some p =>
      let s := s.safeEnd p
      let s := s.setChan p { s.chan p with yield := none }
      let s := s.chErr p (TILE_CH_ERR_ABORT (p / 24) (p % 24))
      if quiet then s
      else
        let src := srcGel g 0
        let m : Msg := { src, qseg := qsegOf src, kind := 0x30, sev := (s.kcfg 0x30).sev, cause := srcChannel p, detail := cause + addr * 8 }
        ((pagesOf src).foldl (fun (s : State) q => s.pgFault q m) s).raiseMsg m false
  s.threadOver g

/-- END (R240): counts of the masked kinds that the snapshot holds fall by one; the oldest SRQ goes. -/
def State.threadEnd (s : State) (g clr : Nat) : State :=
  let x := s.eng g
  let s := match s.thrPhys g with
    | none => s
    | some p =>
      let down := (List.range 10).filter fun k => bit clr k && bit x.snap k && s.evCount p k != 0
      let s := down.foldl (fun (s : State) k => s.putCount_ p k (s.evCount p k - 1)) s
      if down.contains 0 then
        let c := s.chan p
        match c.srq with
        | q :: r => s.setChan p { c with srq := r, srqLast := q, nwS := c.nwS.stamp }
        | [] => s
      else s
  s.threadOver g

/-! ### Grant (R56, R239) -/

/-- The class of wheel entry `i`: 3 acts as H. -/
def State.wheelAt (s : State) (g i : Nat) : Nat :=
  let v := if i < 8 then bits (s.rd (GEL_WHEEL0_ENT g)) (2 * i) 2 else bits (s.rd (GEL_WHEEL1_ENT g)) (2 * (i - 8)) 2
  if v = 3 then 0 else v

/-- The budget index of class `c` of an engine (R52). -/
def clsBudget (g c : Nat) : Nat := 48 + 3 * g + c

/-- The first wheel entry, from where the engine stands, whose class has a grantable request. -/
def State.wheelPick (s : State) (g : Nat) : Option Nat :=
  let x := s.eng g
  ((List.range 16).map fun i => (x.wheel + i) % 16).find? fun i =>
    tget [] x.reqs (s.wheelAt g i) != [] && s.grantable (clsBudget g (s.wheelAt g i)) 1

/-- A service thread of a channel starts (R239, R240). -/
def State.threadStart (s : State) (g c n : Nat) (since : Nat) (rest : List (Nat × Nat)) (wheel : Nat) : State :=
  let x := s.eng g
  let s := s.setEng g { x with reqs := tput [] x.reqs c rest, wheel := wheel }
  match s.physOf n with
  | none => s
  | some p =>
    let ch := s.chan p
    let param := match ch.srq with | q :: _ => q.2 | [] => 0
    let snap := s.chFlags p
    let g03 := match ch.yield with | some (_, gs) => gs | none => [0, 0, 0, 0]
    let pc := match ch.yield, ch.dir with
      | some (a, _), _ => a
      | none, some d => d.entry
      | none, none => 0
    let x := s.eng g
    let s := s.setEng g { x with
      thread := true, g := g03 ++ [0, param, n, snap], cc := 0, stack := [], snap := snap, cyc := 3, cycNs := 3, tbvHi := none,
      mem := none, stall := none, skipBk := false, outlet := [] }
    let s := s.setChan p { ch with yield := none }
    let s := ((s.wr (GEL_GEL_STAT_STATE g) 2).wr (GEL_GEL_STAT_CH g) n).wr (GEL_GEL_STAT_PC g) pc
    let s := (s.inc (GEL_THR_CNT_COUNT g)).useBudget (clsBudget g c) 3
    let lat := satN 16 (s.tb - since)
    if s.rd (GEL_LAT_MAX_CYC g c) < lat then s.wr (GEL_LAT_MAX_CYC g c) lat else s

/-- Classes that wait on their budget count a held request (R54). -/
def State.gelHold (s : State) (g : Nat) : State :=
  ((List.range 3).filter fun c => tget [] (s.eng g).reqs c != [] && !s.grantable (clsBudget g c) 1).foldl
    (fun s c => s.waitBudget (clsBudget g c)) s

/-- The scheduler of an idle engine grants (R56, R238). -/
def State.gelGrant (s : State) (g : Nat) : State :=
  if s.rd (GEL_GEL_STAT_STATE g) ≠ 1 ∨ (s.eng g).thread then s
  else
    let x := s.eng g
    let s := s.gelHold g
    match s.wheelPick g with
    | none => s
    | some i =>
      let c := s.wheelAt g i
      match tget [] x.reqs c with
      | (n, t) :: rest => s.threadStart g c n t rest i
      | [] => s

/-! ### Limits (R241) -/

/-- TMAX in force. -/
def State.tmax (s : State) (g : Nat) : Nat := if s.rd (GEL_TMAX_CYC g) = 0 then 1023 else s.rd (GEL_TMAX_CYC g)

/-- The WCET of the thread's function, 0 for none. -/
def State.wcet (s : State) (g : Nat) : Nat :=
  match s.thrPhys g with
  | some p => match (s.chan p).dir with | some d => d.wcet | none => 0
  | none => 0

/-- The limit that `n` more cycles, `m` of them without stalls, would exceed. -/
def State.overLimit (s : State) (g n m : Nat) : Option Nat :=
  let x := s.eng g
  if s.tmax g < x.cyc + n then some 1
  else if s.wcet g ≠ 0 ∧ s.wcet g < x.cycNs + m then some 2
  else none

/-- Cycles that the thread has stalled so far on a memory access or a full command queue. -/
def State.stalledFor (s : State) (g : Nat) : Nat :=
  let x := s.eng g
  match x.mem, x.stall with
  | some a, _ => s.tb - a.since - 8
  | none, some t => s.tb - t
  | none, none => 0

/-- Cycles pass in the thread; while the engine is HALTED they are not counted. -/
def State.spend (s : State) (g n m : Nat) : State :=
  if s.rd (GEL_GEL_STAT_STATE g) = 3 then s
  else
    let x := s.eng g
    let s := s.setEng g { x with cyc := x.cyc + n, cycNs := x.cycNs + m }
    match s.thrPhys g with
    | some p => s.useBudget (clsBudget g (s.chPrio p)) n
    | none => s

/-! ### Instructions (R243 to R248): each as its effect once fetched, with the address of the next instruction set -/

/-- The thread's record changes. -/
def State.modEng (s : State) (g : Nat) (f : GelS → GelS) : State := s.setEng g (f (s.eng g))

/-- The next instruction's address. -/
def State.setPc (s : State) (g a : Nat) : State := s.wr (GEL_GEL_STAT_PC g) a
def State.pc (s : State) (g : Nat) : Nat := s.rd (GEL_GEL_STAT_PC g)

/-- Go on after an instruction of `n` cycles. -/
def State.gelNext (s : State) (g n : Nat) : State := (s.spend g n n).setPc g (s.pc g + 1)

/-- A sum or difference with its flags (R244): `a + b + c` over 32 bits, `b` complemented for a difference. -/
def GelS.addFlags (x : GelS) (a b c : Nat) : Nat × GelS :=
  let t := a + b + c
  let r := t % 2 ^ 32
  let v := (bit a 31 == bit b 31) && (bit r 31 != bit a 31)
  (r, x.znc r (bit r 31) (decide (2 ^ 32 ≤ t)) v)

/-- ADD (R243). -/
def State.gelAdd (s : State) (g w : Nat) : State :=
  (s.modEng g fun x =>
    let (r, x) := x.addFlags (x.reg (iA w)) (x.opB w) 0
    x.setReg (iD w) r).gelNext g 1

/-- SUB (R243). -/
def State.gelSub (s : State) (g w : Nat) : State :=
  (s.modEng g fun x =>
    let (r, x) := x.addFlags (x.reg (iA w)) (2 ^ 32 - 1 - x.opB w) 1
    x.setReg (iD w) r).gelNext g 1

/-- CMP (R243). -/
def State.gelCmp (s : State) (g w : Nat) : State :=
  (s.modEng g fun x => (x.addFlags (x.reg (iA w)) (2 ^ 32 - 1 - x.opB w) 1).2).gelNext g 1

/-- An operation that sets Z and N and clears C and V (R244). -/
def State.gelLogic (s : State) (g w n : Nat) (f : Nat → Nat → Nat) : State :=
  (s.modEng g fun x =>
    let r := f (x.reg (iA w)) (x.opB w) % 2 ^ 32
    (x.znc r (bit r 31) false false).setReg (iD w) r).gelNext g n

/-- The signed product's bits 47:16. -/
def mulQ (a b : Nat) : Nat := ofS 32 (toS 32 a * toS 32 b / 65536)

/-- Signed minimum and maximum. -/
def minS (a b : Nat) : Nat := if toS 32 a ≤ toS 32 b then a else b
def maxS (a b : Nat) : Nat := if toS 32 a ≤ toS 32 b then b else a

/-- MOV (R243). -/
def State.gelMov (s : State) (g w : Nat) : State := (s.modEng g fun x => x.setReg (iD w) (x.opB w)).gelNext g 1

/-- ADDA (R243): modulo 2^24, N from bit 23. -/
def State.gelAdda (s : State) (g w : Nat) : State :=
  (s.modEng g fun x =>
    let r := (x.reg (iA w) + x.opB w) % 2 ^ 24
    (x.znc r (bit r 23) false false).setReg (iD w) r).gelNext g 1

/-- LDH (R243). -/
def State.gelLdh (s : State) (g w : Nat) : State :=
  (s.modEng g fun x => x.setReg (iD w) (bits w 0 16 * 65536 + x.reg (iD w) % 65536)).gelNext g 1

/-- The parameter word an LDP or STP addresses. -/
def GelS.pIdx (x : GelS) (w : Nat) : Nat := if bit w 5 then (bits w 0 5 + x.reg (iB w)) % 32 else bits w 0 5

/-- LDP (R243). -/
def State.gelLdp (s : State) (g w : Nat) : State :=
  let x := s.eng g
  let v := match s.thrPhys g with
    | some p => s.rd (paramField p (x.pIdx w))
    | none => 0
  (s.setEng g (x.setReg (iD w) v)).gelNext g 2

/-- STP (R243, R235): the thread's own stores are never held. -/
def State.gelStp (s : State) (g w : Nat) : State :=
  let x := s.eng g
  let s := match s.thrPhys g with
    | some p => (s.sepia p 1).wr (paramField p (x.pIdx w)) (x.reg (iA w))
    | none => s
  s.gelNext g 1

/-- The address of an LDM or STM. -/
def GelS.memAddr (x : GelS) (w : Nat) : Nat := ofS 32 ((x.reg (iA w) : Int) + toS 16 (bits w 0 16))

/-- LDM or STM is issued: the thread stalls until the access completes (R248). -/
def State.gelMem (s : State) (g w : Nat) (load : Bool) : State :=
  let x := s.eng g
  let a : GelMem := { dst := if load then some (iD w) else none, addr := x.memAddr w, val := if load then 0 else x.reg (iB w), since := s.tb }
  (s.setEng g { x with mem := some a }).gelNext g 8

/-- A2T (R245). -/
def State.gelA2t (s : State) (g w : Nat) : State :=
  let o := s.ang
  let r := s.recNow
  (s.modEng g fun x =>
    if o.valid && o.hasRec then
      let a := x.reg (iA w) % 2 ^ 24
      let d := s.offAngle r a
      let t := (r.t : Int) + divNear (d * r.tp) r.w
      (((x.setReg (iD w) (ofS 32 t)).setFlag 5 (decide (0 ≤ d) && decide (d < r.w))).setFlag 6 (decide (d < 0))).setFlag 7 false
    else (((x.setReg (iD w) s.tb).setFlag 5 false).setFlag 6 false).setFlag 7 true).gelNext g 6

/-- A2D (R245). -/
def State.gelA2d (s : State) (g w : Nat) : State :=
  let o := s.ang
  (s.modEng g fun x =>
    if o.valid && o.hasRec then
      (x.setReg (iD w) (ofS 32 (divNear (x.reg (iA w) * s.recNow.tp) s.recNow.w))).setFlag 7 false
    else (((x.setReg (iD w) 0).setFlag 5 false).setFlag 6 false).setFlag 7 true).gelNext g 6

/-- QPUT (R248). A buffer of nine words marks a record that its ninth word discarded. -/
def State.gelQput (s : State) (g w : Nat) : State :=
  let x := s.eng g
  let k := bits w 0 2
  let old := tget [] x.outlet k
  let dead := decide (9 ≤ old.length)
  let buf := if dead then old else old ++ [x.reg (iA w)]
  let s := if !dead && decide (9 ≤ buf.length) then s.iflag (0x30 + g) 3 else s
  let s :=
    if bit w 2 then
      let s := s.setEng g { x with outlet := tput [] x.outlet k [] }
      if 9 ≤ buf.length then s
      else if s.on (GEL_QOUT_EN g k) then s.mbqAppend (s.rd (GEL_QOUT_PORT g k)) (s.rd (GEL_QOUT_QUEUE g k)) buf
      else s.iflag (0x30 + g) 3
    else s.setEng g { x with outlet := tput [] x.outlet k buf }
  s.gelNext g 1

/-- A channel command enters the engine's queue with its stamp, TBV at a lag of 0 (DESIGN CHOICE, assumption log 91); with the queue full the instruction stalls before it (R32). -/
def State.gelCmdTo (s : State) (g ch : Nat) (op : CqOp) : State :=
  let x := s.eng g
  if 16 ≤ x.cq.length then (if x.stall.isSome then s else s.setEng g { x with stall := some s.tb })
  else
    let wait := match x.stall with | some t => s.tb - t | none => 0
    let s := s.bump (GEL_CQ_STAT_STALL g) wait
    let c : CqCmd := { ch := ch, op := op, stamp := s.tb }
    let s := s.setEng g { x with cq := x.cq ++ [c], stall := none }
    (s.spend g wait 0).gelNext g 1

/-- A command of the thread's own channel. -/
def State.gelCmd (s : State) (g : Nat) (op : CqOp) : State := s.gelCmdTo g (s.rd (GEL_GEL_STAT_CH g)) op

/-- LNK (R243, R233, R249): a channel operation of another channel, so its command takes the queue of R32. -/
def State.gelLnk (s : State) (g w : Nat) : State := s.gelCmdTo g ((s.eng g).reg (iA w) % 256) .lnk

/-- Capture fields (R232, R247). -/
def Cap.word (c : Cap) : Nat := c.a + b2n c.valid * 2 ^ 24

/-- RDC of a capture's time (`k` the capture) or angle. -/
def State.gelRdc (s : State) (g w k : Nat) (angle : Bool) : State :=
  let v := match s.thrPhys g with
    | some p =>
      let c := if k = 0 then (s.chan p).cap0 else (s.chan p).cap1
      if angle then c.word else c.t % 2 ^ 32
    | none => 0
  (s.modEng g fun x => x.setReg (iD w) v).gelNext g 2

/-- RDC with a selector that R247 does not list: a free value (assumption log 3). -/
def State.gelRdcOpen (s : State) (g w : Nat) : State :=
  let (v, s) := s.free
  (s.modEng g fun x => x.setReg (iD w) v).gelNext g 2

/-- RDS of a value that leaves the thread's record alone. -/
def State.gelRds (s : State) (g w v : Nat) : State := (s.modEng g fun x => x.setReg (iD w) v).gelNext g 2

/-- Bits 31:19 of CH_STAT (R258). -/
def State.chStat (s : State) (p : Nat) : Nat :=
  let x := s.chan p
  let run : Bool := match s.logOf p with | some n => s.threadOn (s.engineOf p) n | none => false
  b2n run * 2 ^ 31 + b2n x.yield.isSome * 2 ^ 30 + b2n x.mhold * 2 ^ 29 + b2n x.sactArm * 2 ^ 28 + x.sact % 4 * 2 ^ 26 +
    b2n (s.mtShown p).2 * 2 ^ 25 + b2n (s.maShown p).2 * 2 ^ 24 + b2n (x.pipe.isSome || x.act.isSome) * 2 ^ 23 + b2n x.safe * 2 ^ 22 + b2n x.env * 2 ^ 21 +
    b2n x.car * 2 ^ 20 + b2n (s.chPin p) * 2 ^ 19

/-- RDS 0 (R247). DESIGN CHOICE: of TBV's lag of 0 to 3 ticks that R31 leaves open the model takes 0 (assumption log 91). -/
def State.gelTbvLo (s : State) (g w : Nat) : State :=
  (s.modEng g fun x => { x.setReg (iD w) s.tb with tbvHi := some (s.tb / 2 ^ 32) }).gelNext g 2

/-- RDS 1 (R247). -/
def State.gelTbvHi (s : State) (g w : Nat) : State := s.gelRds g w (((s.eng g).tbvHi).getD (s.tb / 2 ^ 32))

/-- RDS 2 (R247). -/
def State.gelAngle (s : State) (g w : Nat) : State := s.gelRds g w (s.ang.ang + b2n s.ang.valid * 2 ^ 24 + s.ang.st % 8 * 2 ^ 25)

/-- RDS 3 (R247): the flags, which become the snapshot. -/
def State.gelSnap (s : State) (g w : Nat) : State :=
  let f := match s.thrPhys g with | some p => s.chFlags p | none => 0
  (s.modEng g fun x => { x.setReg (iD w) f with snap := f }).gelNext g 2

/-- RDS 4 (R247). -/
def State.gelChStat (s : State) (g w : Nat) : State :=
  s.gelRds g w (match s.thrPhys g with | some p => s.chStat p / 65536 | none => 0)

/-- RDS 5 and 6 (R247). -/
def State.gelSrq (s : State) (g w : Nat) (time : Bool) : State :=
  s.gelRds g w (match s.thrPhys g with
    | some p => if time then (s.chan p).srqShown.1 else (s.chan p).srqShown.2
    | none => 0)

/-- RDS 7 (R247). -/
def State.gelCycCnt (s : State) (g w : Nat) : State := s.gelRds g w (s.rd EVT_CYC_CNT_COUNT)

/-- ADJ's part of the pipeline (R247): the spark, the end angle or the head's angle moves by `d` AU, if it is not fixed and stays
ahead of the output. -/
def State.evtAdj (s : State) (p : Nat) (d : Int) : Option State :=
  let free (pos : Nat) : Bool := (s.posFix pos).isNone && decide ((s.evtG : Int) < pos + d)
  let moveOcc (o : Occ) : Option State :=
    let pos := s.occPos o
    if free pos then
      let q := ((pos : Int) + d).toNat
      let o := if o.cyc * s.evtM ≤ q then { o with ang := q - o.cyc * s.evtM } else { o with cyc := q / s.evtM, ang := q % s.evtM }
      let slots := updOcc o.idx o.cyc (fun x => some (s.dwellFix s.recNow { o with here := x.here, dwFix := none, short := false })) s.evt.slots
      some { s with evt := { s.evt with slots := slots } }
    else none
  match (s.chan p).act with
  | some (.pulseA i stop pos) =>
    if free pos then some (s.setChan p { s.chan p with act := some (.pulseA i stop ((pos : Int) + d).toNat) }) else none
  | some (.dwell i _ _) =>
    match s.dwelling i with
    | some (_, o) => moveOcc o
    | none => none
  | _ =>
    match s.logOf p with
    | none => none
    | some n =>
      match s.evt.slots.find? fun o => o.e.ch == n && o.here with
      | some o => moveOcc o
      | none => none

/-- ADJ (R247). -/
def State.gelAdj (s : State) (g w : Nat) : State :=
  let d := toS 32 ((s.eng g).reg (iA w))
  let r := match s.thrPhys g with
    | some p => s.evtAdj p d
    | none => none
  let ok := r.isSome
  ((r.getD s).modEng g fun x => x.setFlag 4 (!ok)).gelNext g 2

/-- COND (R244). -/
def GelS.cond (x : GelS) (c : Nat) : Bool :=
  let z := x.flag 0
  let n := x.flag 1
  let v := x.flag 3
  match c with
  | 0 => true
  | 1 => z
  | 2 => !z
  | 3 => n != v
  | 4 => n == v
  | 5 => !z && n == v
  | 6 => z || n != v
  | 7 => x.flag 2
  | 8 => !x.flag 2
  | 9 => n
  | 10 => !n
  | 11 => x.flag 4
  | 12 => x.flag 5
  | 13 => !x.flag 5
  | 14 => x.flag 7
  | _ => x.flag 6

/-- A branch, taken or not (R243, R249). -/
def State.gelJump (s : State) (g w : Nat) (take : Bool) : State :=
  if !take then s.gelNext g 1
  else if iTarget w < 0x40 then s.threadFault g 3 false
  else (s.spend g 2 2).setPc g (iTarget w)

/-- BR (R244). -/
def State.gelBr (s : State) (g w : Nat) : State := s.gelJump g w ((s.eng g).cond (bits w 30 4))

/-- BF (R243). -/
def State.gelBf (s : State) (g w : Nat) : State :=
  let hit := Nat.land (bits w 24 10) (s.eng g).snap != 0
  s.gelJump g w (if bit w 23 then hit else !hit)

/-- CALL (R243, R241). -/
def State.gelCall (s : State) (g w : Nat) : State :=
  let x := s.eng g
  if 4 ≤ x.stack.length then s.threadFault g 4 false
  else if iTarget w < 0x40 then s.threadFault g 3 false
  else ((s.setEng g { x with stack := (s.pc g + 1) :: x.stack }).spend g 2 2).setPc g (iTarget w)

/-- RET (R243, R241). -/
def State.gelRet (s : State) (g : Nat) : State :=
  let x := s.eng g
  match x.stack with
  | [] => s.threadFault g 4 false
  | a :: r =>
    if (s.badAt (qsegOf (srcGel g 1)) 1 r.length).isSome then s.threadFault g 5 false
    else ((s.setEng g { x with stack := r }).spend g 2 2).setPc g a

/-- The channels an engine serves are forced safe, with their pins driven as in `s0` until now: coils begin a soft-off (R256, R266). -/
def State.gelForce (s s0 : State) (g : Nat) : State := s.softAll s0 fun p => (s.logOf p).isSome && s.engineOf p == g

/-- The engine halts (R255). -/
def State.gelHalted (s : State) (g : Nat) : State :=
  let h := (s.wr (GEL_GEL_STAT_STATE g) 3).iflag (0x30 + g) 1
  if s.rd (GEL_GEL_STAT_STATE g) ≠ 3 ∧ h.haltSafe g then h.gelForce s g else h

/-- A write of DEBUG_SAFE of an engine's page (R43, R256, R265): while it is HALTED, pins are forced safe, or hold their safe levels until
their sources' next changes. -/
def State.debugSafe (s : State) (g : Nat) (b : Bool) : State :=
  let s' := s.wr (PG_CTRL_DEBUG_SAFE (0x30 + g)) (b2n b)
  if s'.haltSafe g == s.haltSafe g then s'
  else if b then s'.gelForce s g
  else s'.holdPins fun m => s.rd (OUT_PIN_CFG_KIND m) == 1 &&
    match s.physOf (s.rd (OUT_PIN_CFG_SRC m)) with
    | some p => s.engineOf p == g
    | none => false

/-- BRK (R243). -/
def State.gelBrk (s : State) (g : Nat) : State :=
  let s := s.gelNext g 1
  if s.on (GEL_GEL_CTRL_BRK_EN g) && s.rd (GEL_GEL_STAT_STATE g) == 2 then s.gelHalted g else s

/-- YIELD (R240). -/
def State.gelYield (s : State) (g : Nat) : State :=
  let x := s.eng g
  let s := s.spend g 3 3
  let s := match s.thrPhys g with
    | some p => s.setChan p { s.chan p with yield := some ((s.pc g + 1) % 8192, (List.range 4).map x.reg) }
    | none => s
  s.threadOver g

/-- END (R240). -/
def State.gelEnd (s : State) (g w : Nat) : State := (s.spend g 1 1).threadEnd g (bits w 0 10)

/-- The effect of a fetched instruction that R243 lists. -/
def State.gelDo (s : State) (g w : Nat) : State :=
  match iOpc w with
  | 0x00 => s.gelAdd g w
  | 0x01 => s.gelSub g w
  | 0x02 => s.gelLogic g w 1 Nat.land
  | 0x03 => s.gelLogic g w 1 Nat.lor
  | 0x04 => s.gelLogic g w 1 Nat.xor
  | 0x05 => s.gelLogic g w 1 fun a b => a * 2 ^ (b % 32)
  | 0x06 => s.gelLogic g w 1 fun a b => a / 2 ^ (b % 32)
  | 0x07 => s.gelLogic g w 1 fun a b => ofS 32 (toS 32 a / 2 ^ (b % 32))
  | 0x08 => s.gelLogic g w 2 fun a b => a * b
  | 0x09 => s.gelLogic g w 2 mulQ
  | 0x0A => s.gelLogic g w 1 minS
  | 0x0B => s.gelLogic g w 1 maxS
  | 0x0C => s.gelCmp g w
  | 0x0D => s.gelMov g w
  | 0x0E => s.gelAdda g w
  | 0x0F => s.gelLdh g w
  | 0x10 => s.gelLdp g w
  | 0x11 => s.gelStp g w
  | 0x12 => s.gelMem g w true
  | 0x13 => s.gelMem g w false
  | 0x14 => s.gelA2t g w
  | 0x15 => s.gelA2d g w
  | 0x16 => s.gelQput g w
  | 0x17 => s.gelLnk g w
  | 0x18 => s.gelCmd g (.smt ((s.eng g).reg (iA w)) (bits w 22 2))
  | 0x19 => s.gelCmd g (.sma ((s.eng g).reg (iA w) % 2 ^ 24) (bits w 22 2))
  | 0x1A => s.gelCmd g (.smc ((s.eng g).reg (iA w) % 2 ^ 24) (bits w 22 2))
  | 0x1B => s.gelCmd g (.pin (bits w 22 2))
  | 0x1C =>
    match bits w 0 3 with
    | 0 => s.gelRdc g w 0 false
    | 1 => s.gelRdc g w 0 true
    | 2 => s.gelRdc g w 1 false
    | 3 => s.gelRdc g w 1 true
    | _ => s.gelRdcOpen g w
  | 0x1D =>
    match bits w 0 3 with
    | 0 => s.gelTbvLo g w
    | 1 => s.gelTbvHi g w
    | 2 => s.gelAngle g w
    | 3 => s.gelSnap g w
    | 4 => s.gelChStat g w
    | 5 => s.gelSrq g w true
    | 6 => s.gelSrq g w false
    | _ => s.gelCycCnt g w
  | 0x1E => s.gelCmd g (.chc (bits w 0 8) (bits w 8 2))
  | 0x1F => s.gelAdj g w
  | 0x20 => s.gelBr g w
  | 0x21 => s.gelBf g w
  | 0x22 => s.gelCall g w
  | 0x23 => s.gelRet g
  | 0x3C => s.gelBrk g
  | 0x3E => s.gelYield g
  | 0x3F => s.gelEnd g w
  | _ => s

/-! ### Fetch and execute -/

/-- The word at the program counter. -/
def State.gelWord (s : State) (g : Nat) : Nat := s.ucode g (s.pc g)

/-- The fetched word is no instruction: its fault cause (R241, R249). Words below 0x040 are the function directory. -/
def State.badFetch (s : State) (g : Nat) : Option Nat :=
  let w := s.gelWord g
  if s.pc g < 0x40 then some 3
  else if !opcKnown (iOpc w) || !mbzOk w then some 3
  else if iOpc w = 0x22 ∧ 4 ≤ (s.eng g).stack.length then some 4
  else if iOpc w = 0x23 ∧ (s.eng g).stack = [] then some 4
  else none

/-- An enabled breakpoint stands at the program counter. -/
def State.atBkpt (s : State) (g : Nat) : Bool :=
  !(s.eng g).skipBk &&
  ((s.on (GEL_BKPT0_EN g) && s.rd (GEL_BKPT0_ADDR g) == s.pc g) || (s.on (GEL_BKPT1_EN g) && s.rd (GEL_BKPT1_ADDR g) == s.pc g))

/-- A thread waits to execute its next instruction. -/
def State.gelReady (s : State) (g : Nat) : Bool := (s.eng g).thread && (s.eng g).mem.isNone

/-- An uncorrectable error in the fetched word (R250, R255). -/
def State.gelStoreError (s : State) (g : Nat) : State :=
  if s.rd (GEL_GEL_STAT_STATE g) = 0 ∨ s.rd (GEL_GEL_STAT_STATE g) = 4 ∨ !s.gelReady g then s
  else
    let pc := s.pc g
    let s := s.wr (GEL_GEL_STAT_STATE g) 4
    ((s.safeServed g).threadOver g).raise (srcGel g 1) 0x33 pc

/-- The segment of an engine's store and return stack (R22). Their numbers as banks of it are a choice (assumption log 86). -/
def gelSeg (g : Nat) : Nat := qsegOf (srcGel g 1)

/-- The fetch of the word at the program counter finds a hard error (R250). -/
def State.fetchBad (s : State) (g : Nat) : Option Bool := s.badAt (gelSeg g) 0 (s.pc g)

/-- A fetch whose error SECDED corrects is counted and reported; a stalled instruction is not fetched again. -/
def State.fetchFix (s : State) (g : Nat) : State :=
  if s.fetchBad g = some false ∧ (s.eng g).stall.isNone then
    ((s.inc (GEL_FLT_CNT_ECC g))).ramRecord 0x03 (gelSeg g) 0 (s.pc g)
  else s

/-- The instruction at the program counter executes, if `pick` takes it: `f` is its effect. A limit it would exceed ends the
thread instead (R241). -/
def State.gelRun (s : State) (g : Nat) (pick : Nat → Bool) (f : State → Nat → State) : State :=
  let w := s.gelWord g
  if !(s.rd (GEL_GEL_STAT_STATE g) == 2 && s.gelReady g && pick w) || s.atBkpt g then s
  else if s.fetchBad g = some true then s.gelStoreError g
  else
    let s := s.fetchFix g
    match s.badFetch g with
    | some c => s.threadFault g c false
    | none =>
      match s.overLimit g (opcCycles (iOpc w) + s.stalledFor g) (opcCycles (iOpc w)) with
      | some c => s.threadFault g c false
      | none => f (s.modEng g fun x => { x with skipBk := false }) w

/-- A row of the instruction table: it runs when the next instruction has opcode `op`. -/
def State.gelRow (s : State) (g op : Nat) (f : State → Nat → State) : State := s.gelRun g (fun w => iOpc w == op) f

/-- A row of RDC or RDS. -/
def State.gelSelRow (s : State) (g op sel : Nat) (f : State → Nat → State) : State :=
  s.gelRun g (fun w => iOpc w == op && bits w 0 3 == sel) f

/-- A row of CHC: the whole instruction, where its OPS name the row's operation. -/
def State.gelChcRow (s : State) (g op : Nat) : State :=
  s.gelRun g (fun w => iOpc w == 0x1E && (bit w op || (op == 0 && bits w 0 8 == 0))) fun s w => s.gelCmd g (.chc (bits w 0 8) (bits w 8 2))

/-- One instruction while HALTED (R255). -/
def State.gelStep (s : State) (g : Nat) : State :=
  if s.rd (GEL_GEL_STAT_STATE g) ≠ 3 ∨ !s.gelReady g then s
  else if s.fetchBad g = some true then s.gelStoreError g
  else
    let s := s.fetchFix g
    match s.badFetch g with
    | some c => s.threadFault g c false
    | none => (s.modEng g fun x => { x with skipBk := false }).gelDo g (s.gelWord g)

/-- The thread exceeds a limit: by a stall, or by its next instruction (R241). -/
def State.gelOver (s : State) (g : Nat) : State :=
  if s.rd (GEL_GEL_STAT_STATE g) ≠ 2 ∨ !(s.eng g).thread then s
  else
    let next := if s.gelReady g then opcCycles (iOpc (s.gelWord g)) else 0
    match s.overLimit g (next + s.stalledFor g) next with
    | some c => s.threadFault g c false
    | none => s

/-- The fetched word is illegal (R249); a word with an uncorrectable error stops the engine instead (R250). -/
def State.gelIllegal (s : State) (g : Nat) : State :=
  if s.rd (GEL_GEL_STAT_STATE g) = 2 ∧ s.gelReady g ∧ !s.atBkpt g then
    if s.fetchBad g = some true then s.gelStoreError g
    else
      let s := if (s.badFetch g).isSome then s.fetchFix g else s
      match s.badFetch g with
      | some c => s.threadFault g c false
      | none => s
  else s

/-! ### Engine states (R255, R256) -/

/-- The class wheel holds an entry of each class (R255). -/
def State.wheelOk (s : State) (g : Nat) : Bool :=
  (List.range 3).all fun c => (List.range 16).any fun i => s.wheelAt g i == c

/-- Device debug halt halts an engine as HALT would (R49). -/
def State.dhaltHold (s : State) (g : Nat) : State :=
  let s := s.gelHalted g
  { s with pwr := { s.pwr with dhalted := if s.pwr.dhalted.contains g then s.pwr.dhalted else s.pwr.dhalted ++ [g] } }

/-- PG_CTRL.EN := 1; in device debug halt the engine is HALTED (R49). -/
def State.gelEnable (s : State) (g : Nat) : State :=
  if s.on (PG_CTRL_EN (0x30 + g)) then s
  else if (s.eng g).image && s.wheelOk g then
    let s := (s.wr (PG_CTRL_EN (0x30 + g)) 1).wr (GEL_GEL_STAT_STATE g) 1
    if s.notHalted then s else s.dhaltHold g
  else s.cfgRec (srcGel g 0xF) 0 0xFFF

/-- PG_CTRL.EN := 0: the thread and the yield contexts go; every served channel ends safely. -/
def State.gelDisable (s : State) (g : Nat) : State :=
  let s := (s.wr (PG_CTRL_EN (0x30 + g)) 0).wr (GEL_GEL_STAT_STATE g) 0
  let s := (List.range 216).foldl
    (fun s p => if (s.logOf p).isSome && s.engineOf p == g && (s.chan p).yield.isSome then s.setChan p { s.chan p with yield := none }
      else s) s
  (s.safeServed g).threadOver g

/-- A write of GEL_CTRL.HALT = 1. -/
def State.gelHalt (s : State) (g : Nat) : State :=
  let s := s.wr (GEL_GEL_CTRL_HALT g) 1
  if s.rd (GEL_GEL_STAT_STATE g) = 1 ∨ s.rd (GEL_GEL_STAT_STATE g) = 2 then s.gelHalted g else s

/-- The fetch reaches an enabled breakpoint. -/
def State.gelBkpt (s : State) (g : Nat) : State :=
  if s.rd (GEL_GEL_STAT_STATE g) = 2 ∧ s.gelReady g ∧ s.atBkpt g then
    ((s.modEng g fun x => { x with skipBk := true }).gelHalted g).iflag (0x30 + g) 2
  else s

/-- An engine leaves HALTED (R256). -/
def State.gelGoOn (s : State) (g : Nat) : State :=
  if s.rd (GEL_GEL_STAT_STATE g) ≠ 3 then s
  else
    let s0 := s
    let s := s.wr (GEL_GEL_STAT_STATE g) (if (s.eng g).thread then 2 else 1)
    if s.on (PG_CTRL_DEBUG_SAFE (0x30 + g)) then
      let s := if (s.eng g).thread then s.threadFault g 0 true else s
      (s.safeServed g).follow_ s0
    else s

/-- A write of GEL_CTRL.HALT = 0 (R256); while device debug halt lasts, it alone holds the engine (R49). -/
def State.gelResume (s : State) (g : Nat) : State :=
  let s := s.wr (GEL_GEL_CTRL_HALT g) 0
  if s.notHalted then s.gelGoOn g
  else if s.rd (GEL_GEL_STAT_STATE g) = 3 then
    { s with pwr := { s.pwr with dhalted := if s.pwr.dhalted.contains g then s.pwr.dhalted else s.pwr.dhalted ++ [g] } }
  else s

/-- The oldest command of an engine's queue reaches its channel (R32), after what the channel has due in this cycle (R36). -/
def State.cqArrive (s : State) (g : Nat) : State :=
  let x := s.eng g
  match x.cq with
  | [] => s
  | c :: r =>
    let s := s.setEng g { x with cq := r }
    match s.physOf c.ch with
    | some p => ((if c.op = .lnk then s else s.beforeCmd p).cqApply c).evtLoad p
    | none => s

/-! ### The commands -/

/-- The engine's block acts. -/
def gelOk (g : Nat) (s : State) : Bool := State.core 1 s && s.running (0x30 + g)

/-- THREAD_GRANT (R56, R239). -/
def execThreadGrant (t : Nat) (g : Engine) (s : State) : Out := s.act t (gelOk g) fun s => s.gelGrant g
/-- THREAD_TMAX (R241). -/
def execThreadTmax (t : Nat) (g : Engine) (s : State) : Out := s.act t (gelOk g) fun s => s.gelOver g
/-- ADD. -/
def execGelAdd (t : Nat) (g : Engine) (s : State) : Out := s.act t (gelOk g) fun s => s.gelRow g 0x00 fun s w => s.gelAdd g w
/-- SUB. -/
def execGelSub (t : Nat) (g : Engine) (s : State) : Out := s.act t (gelOk g) fun s => s.gelRow g 0x01 fun s w => s.gelSub g w
/-- AND. -/
def execGelAnd (t : Nat) (g : Engine) (s : State) : Out := s.act t (gelOk g) fun s => s.gelRow g 0x02 fun s w => s.gelLogic g w 1 Nat.land
/-- OR. -/
def execGelOr (t : Nat) (g : Engine) (s : State) : Out := s.act t (gelOk g) fun s => s.gelRow g 0x03 fun s w => s.gelLogic g w 1 Nat.lor
/-- XOR. -/
def execGelXor (t : Nat) (g : Engine) (s : State) : Out := s.act t (gelOk g) fun s => s.gelRow g 0x04 fun s w => s.gelLogic g w 1 Nat.xor
/-- SHL: the count is bits 4:0 of B. -/
def execGelShl (t : Nat) (g : Engine) (s : State) : Out :=
  s.act t (gelOk g) fun s => s.gelRow g 0x05 fun s w => s.gelLogic g w 1 fun a b => a * 2 ^ (b % 32)
/-- SHR. -/
def execGelShr (t : Nat) (g : Engine) (s : State) : Out :=
  s.act t (gelOk g) fun s => s.gelRow g 0x06 fun s w => s.gelLogic g w 1 fun a b => a / 2 ^ (b % 32)
/-- SAR. -/
def execGelSar (t : Nat) (g : Engine) (s : State) : Out :=
  s.act t (gelOk g) fun s => s.gelRow g 0x07 fun s w => s.gelLogic g w 1 fun a b => ofS 32 (toS 32 a / 2 ^ (b % 32))
/-- MUL. -/
def execGelMul (t : Nat) (g : Engine) (s : State) : Out := s.act t (gelOk g) fun s => s.gelRow g 0x08 fun s w => s.gelLogic g w 2 fun a b => a * b
/-- MULQ. -/
def execGelMulq (t : Nat) (g : Engine) (s : State) : Out := s.act t (gelOk g) fun s => s.gelRow g 0x09 fun s w => s.gelLogic g w 2 mulQ
/-- MIN. -/
def execGelMin (t : Nat) (g : Engine) (s : State) : Out := s.act t (gelOk g) fun s => s.gelRow g 0x0A fun s w => s.gelLogic g w 1 minS
/-- MAX. -/
def execGelMax (t : Nat) (g : Engine) (s : State) : Out := s.act t (gelOk g) fun s => s.gelRow g 0x0B fun s w => s.gelLogic g w 1 maxS
/-- CMP. -/
def execGelCmp (t : Nat) (g : Engine) (s : State) : Out := s.act t (gelOk g) fun s => s.gelRow g 0x0C fun s w => s.gelCmp g w
/-- MOV. -/
def execGelMov (t : Nat) (g : Engine) (s : State) : Out := s.act t (gelOk g) fun s => s.gelRow g 0x0D fun s w => s.gelMov g w
/-- ADDA. -/
def execGelAdda (t : Nat) (g : Engine) (s : State) : Out := s.act t (gelOk g) fun s => s.gelRow g 0x0E fun s w => s.gelAdda g w
/-- LDH. -/
def execGelLdh (t : Nat) (g : Engine) (s : State) : Out := s.act t (gelOk g) fun s => s.gelRow g 0x0F fun s w => s.gelLdh g w
/-- LDP. -/
def execGelLdp (t : Nat) (g : Engine) (s : State) : Out := s.act t (gelOk g) fun s => s.gelRow g 0x10 fun s w => s.gelLdp g w
/-- STP. -/
def execGelStp (t : Nat) (g : Engine) (s : State) : Out := s.act t (gelOk g) fun s => s.gelRow g 0x11 fun s w => s.gelStp g w
/-- LDM is issued; GEL_MEM_COMPLETE ends it. -/
def execGelLdm (t : Nat) (g : Engine) (s : State) : Out := s.act t (gelOk g) fun s => s.gelRow g 0x12 fun s w => s.gelMem g w true
/-- STM is issued; GEL_MEM_COMPLETE ends it. -/
def execGelStm (t : Nat) (g : Engine) (s : State) : Out := s.act t (gelOk g) fun s => s.gelRow g 0x13 fun s w => s.gelMem g w false
/-- A2T. -/
def execGelA2t (t : Nat) (g : Engine) (s : State) : Out := s.act t (gelOk g) fun s => s.gelRow g 0x14 fun s w => s.gelA2t g w
/-- A2D. -/
def execGelA2d (t : Nat) (g : Engine) (s : State) : Out := s.act t (gelOk g) fun s => s.gelRow g 0x15 fun s w => s.gelA2d g w
/-- QPUT. -/
def execGelQput (t : Nat) (g : Engine) (s : State) : Out := s.act t (gelOk g) fun s => s.gelRow g 0x16 fun s w => s.gelQput g w
/-- LNK. -/
def execGelLnk (t : Nat) (g : Engine) (s : State) : Out := s.act t (gelOk g) fun s => s.gelRow g 0x17 fun s w => s.gelLnk g w
/-- SMT. -/
def execGelSmt (t : Nat) (g : Engine) (s : State) : Out :=
  s.act t (gelOk g) fun s => s.gelRow g 0x18 fun s w => s.gelCmd g (.smt ((s.eng g).reg (iA w)) (bits w 22 2))
/-- SMA. -/
def execGelSma (t : Nat) (g : Engine) (s : State) : Out :=
  s.act t (gelOk g) fun s => s.gelRow g 0x19 fun s w => s.gelCmd g (.sma ((s.eng g).reg (iA w) % 2 ^ 24) (bits w 22 2))
/-- SMC. -/
def execGelSmc (t : Nat) (g : Engine) (s : State) : Out :=
  s.act t (gelOk g) fun s => s.gelRow g 0x1A fun s w => s.gelCmd g (.smc ((s.eng g).reg (iA w) % 2 ^ 24) (bits w 22 2))
/-- PIN. -/
def execGelPin (t : Nat) (g : Engine) (s : State) : Out :=
  s.act t (gelOk g) fun s => s.gelRow g 0x1B fun s w => s.gelCmd g (.pin (bits w 22 2))
/-- RDC 0. Selectors that R247 does not list read a free value here. -/
def execGelRdcCap0Time (t : Nat) (g : Engine) (s : State) : Out :=
  s.act t (gelOk g) fun s =>
    s.gelRun g (fun w => iOpc w == 0x1C && (bits w 0 3 == 0 || decide (4 ≤ bits w 0 3))) fun s w =>
      if bits w 0 3 = 0 then s.gelRdc g w 0 false else s.gelRdcOpen g w
/-- RDC 1. -/
def execGelRdcCap0Angle (t : Nat) (g : Engine) (s : State) : Out :=
  s.act t (gelOk g) fun s => s.gelSelRow g 0x1C 1 fun s w => s.gelRdc g w 0 true
/-- RDC 2. -/
def execGelRdcCap1Time (t : Nat) (g : Engine) (s : State) : Out :=
  s.act t (gelOk g) fun s => s.gelSelRow g 0x1C 2 fun s w => s.gelRdc g w 1 false
/-- RDC 3. -/
def execGelRdcCap1Angle (t : Nat) (g : Engine) (s : State) : Out :=
  s.act t (gelOk g) fun s => s.gelSelRow g 0x1C 3 fun s w => s.gelRdc g w 1 true
/-- RDS 0. -/
def execGelRdsTbvLo (t : Nat) (g : Engine) (s : State) : Out := s.act t (gelOk g) fun s => s.gelSelRow g 0x1D 0 fun s w => s.gelTbvLo g w
/-- RDS 1. -/
def execGelRdsTbvHi (t : Nat) (g : Engine) (s : State) : Out := s.act t (gelOk g) fun s => s.gelSelRow g 0x1D 1 fun s w => s.gelTbvHi g w
/-- RDS 2. -/
def execGelRdsAngle (t : Nat) (g : Engine) (s : State) : Out := s.act t (gelOk g) fun s => s.gelSelRow g 0x1D 2 fun s w => s.gelAngle g w
/-- RDS 3. -/
def execGelRdsSnapshot (t : Nat) (g : Engine) (s : State) : Out := s.act t (gelOk g) fun s => s.gelSelRow g 0x1D 3 fun s w => s.gelSnap g w
/-- RDS 4. -/
def execGelRdsChStat (t : Nat) (g : Engine) (s : State) : Out := s.act t (gelOk g) fun s => s.gelSelRow g 0x1D 4 fun s w => s.gelChStat g w
/-- RDS 5. -/
def execGelRdsSrqTime (t : Nat) (g : Engine) (s : State) : Out := s.act t (gelOk g) fun s => s.gelSelRow g 0x1D 5 fun s w => s.gelSrq g w true
/-- RDS 6. -/
def execGelRdsSrqParam (t : Nat) (g : Engine) (s : State) : Out := s.act t (gelOk g) fun s => s.gelSelRow g 0x1D 6 fun s w => s.gelSrq g w false
/-- RDS 7. -/
def execGelRdsCycCnt (t : Nat) (g : Engine) (s : State) : Out := s.act t (gelOk g) fun s => s.gelSelRow g 0x1D 7 fun s w => s.gelCycCnt g w
/-- CHC with REL (or no operation). -/
def execGelChcRel (t : Nat) (g : Engine) (s : State) : Out := s.act t (gelOk g) fun s => s.gelChcRow g 0
/-- CHC that disarms the time match. -/
def execGelChcDisarmTime (t : Nat) (g : Engine) (s : State) : Out := s.act t (gelOk g) fun s => s.gelChcRow g 1
/-- CHC that disarms the angle match. -/
def execGelChcDisarmAngle (t : Nat) (g : Engine) (s : State) : Out := s.act t (gelOk g) fun s => s.gelChcRow g 2
/-- CHC that arms the SRQ action. -/
def execGelChcArmSrqAction (t : Nat) (g : Engine) (s : State) : Out := s.act t (gelOk g) fun s => s.gelChcRow g 3
/-- ADJ. -/
def execGelAdj (t : Nat) (g : Engine) (s : State) : Out := s.act t (gelOk g) fun s => s.gelRow g 0x1F fun s w => s.gelAdj g w
/-- BR. -/
def execGelBr (t : Nat) (g : Engine) (s : State) : Out := s.act t (gelOk g) fun s => s.gelRow g 0x20 fun s w => s.gelBr g w
/-- BF. -/
def execGelBf (t : Nat) (g : Engine) (s : State) : Out := s.act t (gelOk g) fun s => s.gelRow g 0x21 fun s w => s.gelBf g w
/-- CALL. -/
def execGelCall (t : Nat) (g : Engine) (s : State) : Out := s.act t (gelOk g) fun s => s.gelRow g 0x22 fun s w => s.gelCall g w
/-- RET. -/
def execGelRet (t : Nat) (g : Engine) (s : State) : Out := s.act t (gelOk g) fun s => s.gelRow g 0x23 fun s _ => s.gelRet g
/-- BRK. -/
def execGelBrk (t : Nat) (g : Engine) (s : State) : Out := s.act t (gelOk g) fun s => s.gelRow g 0x3C fun s _ => s.gelBrk g
/-- YIELD. -/
def execGelYield (t : Nat) (g : Engine) (s : State) : Out := s.act t (gelOk g) fun s => s.gelRow g 0x3E fun s _ => s.gelYield g
/-- END. -/
def execGelEnd (t : Nat) (g : Engine) (s : State) : Out := s.act t (gelOk g) fun s => s.gelRow g 0x3F fun s w => s.gelEnd g w
/-- GEL_ILLEGAL_INSTRUCTION (R249). -/
def execGelIllegal (t : Nat) (g : Engine) (s : State) : Out := s.act t (gelOk g) fun s => s.gelIllegal g
/-- GEL_STORE_ERROR (R255). -/
def execGelStoreError (t : Nat) (g : Engine) (s : State) : Out := s.act t (gelOk g) fun s => s.gelStoreError g
/-- GEL_ENABLE (R255). -/
def execGelEnable (t : Nat) (m : Master) (g : Engine) (s : State) : Out :=
  s.act t (State.core 1) fun s => s.guardedMask m (0x30 + g.val) 8 1 1 fun s => s.gelEnable g
/-- HALT (R255): a write of GEL_CTRL.HALT, or a breakpoint reached by the fetch. -/
def execGelHalt (t : Nat) (g : Engine) (m : Option Master) (s : State) : Out :=
  s.act t (gelOk g) fun s =>
    match m with
    | some m => s.guardedMask m (0x30 + g.val) 0x40 1 1 fun s => s.gelHalt g
    | none => s.gelBkpt g
/-- STEP (R255). -/
def execGelStep (t : Nat) (m : Master) (g : Engine) (s : State) : Out :=
  s.act t (gelOk g) fun s => s.guardedMask m (0x30 + g.val) 0x40 2 2 fun s => s.gelStep g
/-- GEL_RESUME (R256). -/
def execGelResume (t : Nat) (m : Master) (g : Engine) (s : State) : Out :=
  s.act t (gelOk g) fun s => s.guardedMask m (0x30 + g.val) 0x40 0 1 fun s => s.gelResume g
/-- CMD_QUEUE_ARRIVAL (R32). -/
def execCmdQueueArrival (t : Nat) (g : Engine) (s : State) : Out := s.act t (State.tbd 1) fun s => s.cqArrive g

end Sys2Proof.Machine
end

