-- ==== Sys2Proof/Machine/Crim.lean ====
section
/-! DEFINITION. CRIMSON of a unit, a tile and the package (R454, R457, R462), and the request of a migration (R458). -/

namespace Sys2Proof.Machine

open Reg

/-- The pages whose units cannot be reset alone (R69, R454). -/
def packagePages : List Nat := [0, 1, 2, 3, 4, 5, 0xB0, 0x38]

/-- An element whose CRIMSON is the package's: a domain, the package, or a unit of such a page (R454). -/
def packageElem (e : Nat) : Bool :=
  e == 0xFFF || (e / 16 % 64 == 0x3F && e % 16 == 0xE) || (pagesOf e).any packagePages.contains

/-- The element that enters CRIMSON for a blamed one: a tile as a whole (R457). -/
def crimElem (e : Nat) : Nat := if e / 1024 = 1 ∧ e / 16 % 64 ≤ 0x23 then srcId 1 0x3E (e / 16 % 64 / 4) else e

/-- Package CRIMSON (R454): outputs end, and the record is kept in the LF domain. -/
def State.packageCrimson (s : State) (r : Rec) : State :=
  let s := { s with flt := { s.flt with lfRec := some r } }
  if s.pkgCrimson then s else (s.wr FLT_FLT_STAT_PKG_CRIMSON 1).outTripFrom s 1

/-- The physical channels of a tile. -/
def tileChans (t : Nat) : List Nat := (List.range 24).map (24 * t + ·)

/-- The commands that bank slots take from a logical channel fall. -/
def State.dropCommand (s : State) (n : Nat) : State :=
  (List.range 48).foldl
    (fun s j => if s.attach (j / 2) (j % 2) == n then s.setSlot (j / 2) (j % 2) { s.slot (j / 2) (j % 2) with cmd := false } else s) s

/-- The forced-safe event of a tile whose pins were driven as in `s0` until now (R265, R266, R279, R282): soft-offs start, attached slots quench, threads of its channels end
without effect, and none is granted (R460). -/
def State.tileSafe (s s0 : State) (t : Nat) : State :=
  let s := s.softAll s0 fun p => p / 24 == t
  (tileChans t).foldl
    (fun s p =>
      match s.logOf p with
      | some n =>
        let s := (s.quenchChannel n).dropCommand n
        (if s.threadOn (s.engineOf p) n then s.threadOver (s.engineOf p) else s).svc p
      | none => s) s

/-- A tile can be SLATE's next source: in-service channels map to it. -/
def State.inService (s : State) (t : Nat) : Bool := (List.range 8).any fun lt => s.tileOf lt == some t

/-- The physical SLATE tile, where there is one that can take over. -/
def State.slateFree (s : State) : Option Nat :=
  let t := s.rd MAINT_LMAP1_SLATE
  if t ≤ 8 ∧ s.maint.mig.isNone ∧ !s.pageCrimson (0x20 + t) ∧ !s.rstBusy (0x20 + t) then some t else none

/-- The migration of a tile. -/
def migTask (t : Nat) : Task := { act := 3, target := t }

/-- A migration starts: it aborts what holds its tokens or stands against it (R458, R466). -/
def State.migStart (s : State) (t dst : Nat) : State :=
  let k := migTask t
  let s := (s.maint.run.filter (s.blocks k)).foldl (fun s j => s.taskEnd j 5) s
  let s := { s with maint := { s.maint with run := s.maint.run ++ [k], mig := some { src := t, dst := dst, tf := s.tb } } }
  s.actStat k 1

/-- No SLATE takes over a tile: its channels stay safe-ended, and MAINT says so (R462). -/
def State.noSpare (s : State) (t : Nat) : State :=
  let s := if s.inService t then (tileChans t).foldl State.safeEnd s else s
  s.raise (srcId 3 0x12 0) 0x35 t

/-- While MIG_CFG.AUTO is 1, a tile in CRIMSON that holds in-service channels is migrated when SLATE is available (R458), also where
AUTO or SLATE comes later than the CRIMSON (DEDUCED, assumption log 92). -/
def State.autoMigrate (s : State) : State :=
  match s.slateFree, (List.range 9).find? fun t => s.pageCrimson (0x20 + t) && s.inService t with
  | some d, some t => if s.on MAINT_MIG_CFG_AUTO && !s.maint.run.any (fun k => k.act == 3) then s.migStart t d else s
  | _, _ => s

/-- A tile enters CRIMSON (R457, R458, R462, R463). DESIGN CHOICE: while SLATE is free and MIG_CFG.AUTO is 0, the spec names no safe
end and no migration; the pins are forced safe and the channels' state stays (assumption log 67). -/
def State.tileCrimson (s s0 : State) (t : Nat) : State :=
  let s := (s.wr (TILE_TILE_STAT_RSTD t) 0).tileSafe s0 t
  match s.maint.mig with
  | some g =>
    if g.dst = t then
      -- the tile that was to take over is lost
      let s := ({ s with maint := { s.maint with mig := none } } : State).taskEnd (migTask g.src) 4
      (s.wr MAINT_LMAP1_SLATE 0xF).noSpare (if g.moved then t else g.src)
    else if g.src = t then s
    else if s.inService t then s.noSpare t else s
  | none =>
    if s.rd MAINT_LMAP1_SLATE = t then (s.wr MAINT_LMAP1_SLATE 0xF).noSpare t
    else if !s.inService t then s
    else
      match s.slateFree with
      | some d => if s.on MAINT_MIG_CFG_AUTO then s.migStart t d else s
      | none => s.noSpare t

/-- A host port in CRIMSON answers no more: it stands in OFF. -/
def State.hostSilent (s : State) (x : Nat) : State :=
  (s.modHs x fun h => { enabled := h.enabled, heard := s.tb }).wr (HOST_PORT_STAT_STATE x) 0

/-- A unit stops its outputs into other units and its pins, driven as in `s0` until now (R454). -/
def State.pageStops (s s0 : State) (p : Nat) : State :=
  if p = 0x10 ∨ p = 0x11 then s.trkPortFail (p - 0x10)
  else if 0x20 ≤ p ∧ p ≤ 0x28 then s.tileCrimson s0 (p - 0x20)
  else if 0x30 ≤ p ∧ p ≤ 0x33 then s.safeServed (p - 0x30)
  else if 0x40 ≤ p ∧ p ≤ 0x57 then s.quenchBank (p - 0x40)
  else if p = 8 ∨ p = 9 then s.hostSilent (p - 8)
  else if p = 0x18 then s.outState 5
  else if p = 0x19 then s.evtStop
  else if p = 0x88 then { (List.range 24).foldl State.cylStop s with cmuIn := [] }
  else if 0x90 ≤ p ∧ p ≤ 0xA7 then s.cylStop (p - 0x90)
  else if 0xC0 ≤ p ∧ p ≤ 0xC3 then s.slStopAll (p - 0xC0)
  else if 0xC8 ≤ p ∧ p ≤ 0xCB then s.linkStop (p - 0xC8)
  else if p = 0xCC then s.cascStop
  else s

/-- An element enters CRIMSON (R454), for a record. -/
def State.enterCrimson (s : State) (e : Nat) (r : Rec) : State :=
  let e := crimElem e
  let s0 := s
  let s := if s.flt.crim.contains e then s else { s with flt := { s.flt with crim := s.flt.crim ++ [e] } }
  let pages := (pagesOf e).filter fun p => !s0.pageCrimson p
  let s := pages.foldl (fun s p => s.pageStops s0 p) s
  if packageElem e then s.packageCrimson r else s

end Sys2Proof.Machine
end

