-- ==== Sys2Proof/Machine/CmpTest.lean ====
section
/-! DEFINITION. The comparator threshold self-test (R322 to R324, R280). -/

namespace Sys2Proof.Machine

open Reg

/-- The activity (R465). -/
def cmpTask : Task := { act := 5, target := 0 }

/-- REF in force of a comparator: its bank's, or its own (R321). -/
def State.cmpRef (s : State) (n : Nat) : Nat :=
  if s.cmpOwned n then
    match s.bankRefs (n / 2) with
    | some r => if n % 2 = 0 then r.1 else r.2
    | none => s.rd (CMP_CMP_REF_REF n)
  else s.rd (CMP_CMP_REF_REF n)

/-- POL in force (R321). -/
def State.cmpPol (s : State) (n : Nat) : Bool := !s.cmpOwned n && s.on (CMP_CMP_CFG_POL n)

/-- The comparator is selected and enabled. -/
def State.cmpSel (s : State) (n : Nat) : Bool :=
  s.cmpRuns n && bit (if n < 32 then s.rd CMP_ST_SEL0_SEL else s.rd CMP_ST_SEL1_SEL) (n % 32)

/-- An owned comparator is tested only while both slots of its bank are OFF (R323). -/
def State.cmpFree (s : State) (n : Nat) : Bool := !s.cmpOwned n || (s.phase (n / 2) 0 == 0 && s.phase (n / 2) 1 == 0)

/-- The record of the test changes. -/
def State.setTest (s : State) (x : CmpTest) : State := { s with cmpTest := some x }

/-- The next comparator whose turn it is, or the end of the activity (R322, R324). -/
def State.cmpNext (s : State) (x : CmpTest) : State :=
  let queue := x.queue.filter s.cmpSel
  match queue with
  | [] =>
    let r := if x.anyBad then 4 else 3
    let s : State := { s with cmpTest := none }
    ((s.wr CMP_ST_STAT_RESULT r).iflag 0x80 1).taskEnd cmpTask r
  | _ =>
    match queue.find? s.cmpFree with
    | none => s.setTest { x with queue := queue, cur := none }
    | some n => s.setTest { x with queue := queue.erase n, cur := some n, step := 1, since := s.tb, bad := false }

/-- The activity has its token. -/
def State.cmpTestBegin (s : State) : State :=
  (s.wr CMP_ST_STAT_RESULT 1).cmpNext { queue := (List.range 48).filter s.cmpSel }

/-- ST_CTRL.REQ. -/
def State.cmpTestAsk (s : State) : State :=
  if s.runs cmpTask || s.waits cmpTask then s
  else
    let s := s.taskReq cmpTask
    if s.runs cmpTask then s.cmpTestBegin else s.wr CMP_ST_STAT_RESULT 2

/-- A check fails (R324, R280). -/
def State.cmpFails (s : State) (n step : Nat) : State :=
  let f := if n < 32 then CMP_FAIL0_FAIL else CMP_FAIL1_FAIL
  let s := ((s.wr f (putBit (s.rd f) (n % 32) true)).wr CMP_ST_STAT_LAST_FAIL n).iflag 0x80 2
  let s := s.raise (srcId 2 (0x20 + n / 16) (n % 16)) 0x43 (n + step * 256)
  if s.cmpOwned n then (s.iflag (0x40 + n / 2) 7).enterCrimson (srcBank (n / 2)) { time := s.tb }
  else (s.setCmp n { s.cmp n with lvl := false }).putLatch n false

/-- The check at the end of step `k`, with the output active or not: the level stands below REF after steps 1 and 3, above it
after step 2. A level clamped to REF is not checked. -/
def State.cmpCheck (s : State) (n k : Nat) (active : Bool) : Bool :=
  let r := s.cmpRef n
  let m := s.rd CMP_ST_CTRL_MARGIN
  let below := k != 2
  let lv := if below then r - m else min 1023 (r + m)
  lv == r || active == (if below then s.cmpPol n else !s.cmpPol n)

/-- A 1 µs step of the test ends. -/
def State.cmpStep (s : State) (active : Bool) : State :=
  match s.cmpTest with
  | none => s
  | some x =>
    match x.cur with
    | none => s.cmpNext x
    | some n =>
      if s.tb < x.since + 400 then s
      else if x.step < 4 then
        let ok := s.cmpCheck n x.step active
        let s := s.setTest { x with step := x.step + 1, since := x.since + 400, bad := x.bad || !ok, anyBad := x.anyBad || !ok }
        if ok || x.bad then s else s.cmpFails n (x.step + 1)
      else
        let f := if n < 32 then CMP_FAIL0_FAIL else CMP_FAIL1_FAIL
        let s := if x.bad then s else s.wr f (putBit (s.rd f) (n % 32) false)
        (s.setCmp n { s.cmp n with settle := s.tb + 100 }).cmpNext { x with cur := none }

/-- ST_CTRL.ABORT: the comparator under test is restored at once. -/
def State.cmpTestStop (s : State) : State :=
  if s.runs cmpTask || s.waits cmpTask then
    let s := match s.cmpTest with
      | some x => (match x.cur with
        | some n => s.setCmp n { s.cmp n with settle := s.tb + 100 }
        | none => s)
      | none => s
    let s : State := { s with cmpTest := none }
    (s.wr CMP_ST_STAT_RESULT 5).taskEnd cmpTask 5
  else s

/-- A write of ST_CTRL. -/
def State.cmpStCtrl (s : State) (v mk : Nat) : State :=
  let s := s.plainWrite 0x80 0x50 v mk
  let s := if bit v 31 then s.cmpTestAsk else s
  if bit v 30 then s.cmpTestStop else s

/-- ST_REQ (R322): the write of REQ, MARGIN as it stands. -/
def execCmpStReq (t : Nat) (m : Master) (s : State) : Out :=
  s.act t (State.core 2) fun s => s.guardedMask m 0x80 0x50 0x80000000 0x80000000 State.cmpTestAsk

/-- CMP_SELFTEST_STEP (R322 to R324). -/
def execCmpSelftestStep (t : Nat) (raw : Bool) (s : State) : Out := s.act t (State.core 2) fun s => s.cmpStep raw

/-- ST_ABORT (R324). -/
def execCmpStAbort (t : Nat) (m : Master) (s : State) : Out :=
  s.act t (State.core 2) fun s => s.guardedMask m 0x80 0x50 0x40000000 0x40000000 State.cmpTestStop

end Sys2Proof.Machine
end

