-- ==== Sys2Proof/Machine/Flt.lean ====
section
/-! DEFINITION. The fault collector (R444 to R456, R467, R469). -/

namespace Sys2Proof.Machine

open Reg

/-- The 64 bits of a message (R444). -/
def Msg.word (m : Msg) : Nat :=
  m.src % 4096 + m.qseg % 256 * 2 ^ 12 + m.kind % 256 * 2 ^ 20 + m.sev % 4 * 2 ^ 28 + m.cause % 4096 * 2 ^ 30 +
    m.detail % 2 ^ 22 * 2 ^ 42

/-- The message of 64 bits (R444). -/
def msgOf (w : Nat) : Msg :=
  { src := bits w 0 12, qseg := bits w 12 8, kind := bits w 20 8, sev := bits w 28 2, cause := bits w 30 12,
    detail := bits w 42 22 }

/-- The INFO word of a record (R448). -/
def Rec.info (r : Rec) : Nat :=
  satN 8 r.rep * 2 ^ 24 + b2n r.same * 2 ^ 23 + b2n r.coll * 2 ^ 22 + b2n r.promo * 2 ^ 21 + b2n r.inj * 2 ^ 20 +
    b2n r.prior * 2 ^ 19 + r.react % 8 * 2 ^ 16 + satN 16 r.span

/-- What the collector holds changes. -/
def State.modFlt (s : State) (f : Flt → Flt) : State := { s with flt := f s.flt }

/-- The SRC_ID of the collector (R469). -/
def srcFlt : Nat := srcId 3 0x11 0xF

/-! ### The sender side (R445, R469) -/

/-- Kinds whose element enters CRIMSON by its own detection, before the message is at the collector (R454, R457, R460). -/
def ownCrimson : List Nat := [0x32, 0x33]

/-- A block raises a message, at the severity in force for its KIND; a KIND not listed is never sent (R455), nor an SRC_ID or a
QSEG that is reserved (R19, R22). -/
def State.report (s : State) (m : Msg) : State :=
  match kindReset m.kind, srcListed m.src && srcListed m.cause && (m.qseg == 0xFF || segOk m.qseg) with
  | none, _ | _, false => s
  | some _, true =>
    let m := { m with sev := (s.kcfg m.kind).sev }
    let s := ((pagesOf m.src).foldl (fun s p => s.pgFault p m) s).raiseMsg m false
    if ownCrimson.contains m.kind then s.enterCrimson m.cause { msg := m, react := 1, time := s.tb } else s

/-- INJ_CTRL.GO (R469). With a reserved SRC_ID no message is sent (R19; assumption log 65). -/
def State.inject (s : State) (v : Nat) : State :=
  let kind := bits v 20 8
  let src := bits v 0 12
  match kindReset kind with
  | none => s.cfgRec srcFlt kind 0xFFF
  | some _ =>
    if !srcListed src then s
    else
    let sev := if bits v 28 2 = 0 then (s.kcfg kind).sev else bits v 28 2
    let m : Msg := { src, qseg := qsegOf src, kind, sev, cause := src, detail := 0 }
    ((pagesOf src).foldl (fun s p => s.pgFault p m) s).raiseMsg m true

/-! ### Counting (R452) -/

/-- WIN in frames. -/
def State.fltWinLen (s : State) : Nat := max 1 (s.rd FLT_FLT_CFG_WIN)

/-- A window is over; the frame in which it opened is its first. -/
def State.winOver (s : State) (w : WinCnt) : Bool := decide (w.start + s.fltWinLen ≤ s.tb / 8000)

/-- What the counters make of a message: its severity, its reaction, and whether it is promoted. -/
structure Judged where
  sev : Nat
  react : Nat
  promo : Bool := false
  /-- The message that brings the promotion. -/
  first : Bool := false
  deriving DecidableEq, Repr

/-- The counter of a key. -/
def State.counterOf (s : State) (cause kind : Nat) : Option WinCnt :=
  s.flt.counters.find? fun w => w.cause == cause && w.kind == kind

/-- A counter takes `n` more messages of severity `sev`. -/
def WinCnt.take (w : WinCnt) (sev react n : Nat) : WinCnt × Judged :=
  let c := w.count + n
  let up := min 3 (sev + 1)
  if w.promoted then ({ w with count := c, amber := w.amber || up == 2 }, { sev := up, react := 0, promo := true })
  else if w.n ≤ c then
    ({ w with count := c, promoted := true, amber := up == 2 }, { sev := up, react := w.preact, promo := true, first := true })
  else ({ w with count := c }, { sev, react })

/-- A message is counted as `n`. -/
def State.countMsg (s : State) (m : Msg) (sev n : Nat) : State × Judged :=
  let c := s.kcfg m.kind
  let s := s.modFlt fun x => { x with counters := x.counters.filter fun w => !s.winOver w }
  match s.counterOf m.cause m.kind with
  | some w =>
    let (w', j) := w.take sev c.react n
    (s.modFlt fun x => { x with counters := x.counters.map fun y => if y = w then w' else y }, j)
  | none =>
    if c.n = 0 then (s, { sev, react := c.react })
    else
      let s := if s.flt.counters.length < 64 then s
        else (s.modFlt fun x => { x with counters := x.counters.drop 1 }).inc FLT_FLT_STAT_EVICT
      let (w, j) := ({ cause := m.cause, kind := m.kind, start := s.tb / 8000, n := c.n, preact := c.preact } : WinCnt).take
        sev c.react n
      (s.modFlt fun x => { x with counters := x.counters ++ [w] }, j)

/-- PG_FCNT.IN_WIN and PROMOTED of a page (R452). -/
def State.fcntWin (s : State) (p : Nat) : Nat × Bool :=
  let ws := s.flt.counters.filter fun w => !s.winOver w && (pagesOf w.cause).contains p
  (satN 8 (ws.map (·.count)).sum, ws.any (·.promoted))

/-- PG_STAT.AMBER (R454). -/
def State.pageAmber (s : State) (p : Nat) : Bool :=
  s.flt.amber.contains p || s.flt.counters.any fun w => w.amber && !s.winOver w && (pagesOf w.cause).contains p

/-! ### Reactions (R453, R454, R456) -/

/-- The reaction to a record. A message whose own severity is CRIMSON makes its element enter CRIMSON whatever REACT holds. -/
def State.reactTo (s : State) (r : Rec) : State :=
  match r.react with
  | 1 => s.enterCrimson r.msg.cause r
  | 2 =>
    let s := s.taskReq { act := 1, target := r.msg.qseg, row := r.msg.detail }
    if r.msg.sev = 3 ∧ !r.promo then s.enterCrimson r.msg.cause r else s
  | k =>
    let s := if k = 3 then s.outTrip 2 else if k = 4 then s.packageCrimson r else s
    if r.msg.sev = 3 ∧ !r.promo then s.enterCrimson r.msg.cause r else s

/-! ### Records (R447 to R451) -/

/-- A record takes a further message. -/
def Rec.merge (r n : Rec) : Rec :=
  { r with
    msg := { r.msg with sev := max r.msg.sev n.msg.sev }
    rep := min 255 (r.rep + 1 + n.rep)
    span := satN 16 ((n.time - r.time) / 400)
    coll := r.coll || r.msg.src != n.msg.src
    promo := r.promo || n.promo
    react := if n.react = 0 then r.react else n.react }

/-- COALESCE_WIN in ticks. -/
def State.coWin (s : State) : Nat := 400 * s.rd FLT_FLT_CFG_COALESCE_WIN

/-- The record a message merges into: open, still in the queue, of the same key, within its window. -/
def State.mergesInto (s : State) (n : Rec) : Option Rec :=
  if s.coWin = 0 then none
  else s.flt.open_.find? fun r =>
    r.msg.cause == n.msg.cause && r.msg.kind == n.msg.kind && decide (n.time ≤ r.time + s.coWin) &&
      s.flt.queue.any fun q => q.id == r.id

/-- PG_IFLAG.AMBER and CRIMSON. -/
def State.sevFlag (s : State) (sev : Nat) : State := if sev = 2 then s.iflag 4 1 else if sev = 3 then s.iflag 4 2 else s

/-- A record is lost at the queue. -/
def State.recDrop (s : State) (r : Rec) : State :=
  let s := (s.bumpDomain FLT_DROP_CNT (r.msg.src / 1024) 1).iflag 4 3
  if s.flt.dropFrame = some (s.tb / 8000) then s
  else (s.modFlt fun x => { x with dropFrame := some (s.tb / 8000) }).raise (srcId 3 0x11 0) 0x07 (r.msg.src / 1024)

/-- A new record enters the queue. -/
def State.recNew (s : State) (r : Rec) : State :=
  let s := ((s.modFlt fun x => { x with open_ := x.open_ ++ [r] }).iflag 4 0).sevFlag r.msg.sev
  if s.flt.queue.length < 64 then s.modFlt fun x => { x with queue := x.queue ++ [r] }
  else
    match s.flt.queue.reverse.find? fun q => decide (q.msg.sev ≤ 1) with
    | some q =>
      if 2 ≤ r.msg.sev then (s.modFlt fun x => { x with queue := (x.queue.filter fun y => y.id != q.id) ++ [r] }).recDrop q
      else s.recDrop r
    | none => s.recDrop r

/-- A message becomes a record, or merges into one. -/
def State.recTake (s : State) (n : Rec) : State :=
  match s.mergesInto n with
  | none => s.recNew n
  | some r =>
    let m := fun (x : Rec) => if x.id = r.id then x.merge n else x
    let s' := s.modFlt fun x =>
      { x with
        queue := x.queue.map m
        open_ := x.open_.map m
        fe := if s.on FLT_FLT_STAT_FE_VALID then m x.fe else x.fe }
    if r.msg.sev < n.msg.sev then s'.sevFlag n.msg.sev else s'

/-- The first-error capture (R449). A message that merges into the record `at_` is captured by itself, and what merges into that
record after it counts. -/
def State.feTake (s : State) (r : Rec) (at_ : Option Rec) : State :=
  if s.on FLT_FLT_STAT_FE_VALID ∨ r.msg.sev = 0 then s
  else ((s.modFlt fun x => { x with fe := { r with id := (at_.getD r).id } }).setBits FLT_FLT_STAT_FE_VALID 1).iflag 4 4

/-- The history (R450). -/
def State.histTake (s : State) (r : Rec) : State :=
  if r.msg.sev = 0 then s else s.modFlt fun x => { x with hist := (r :: x.hist).take 32 }

/-- TOTAL of the pages a message blames. -/
def State.fcntTake (s : State) (r : Rec) : State :=
  if r.msg.sev = 0 then s else (pagesOf r.msg.cause).foldl (fun s p => s.bump (PG_FCNT_TOTAL p) (1 + r.rep)) s

/-- The collector takes a message. -/
def State.collect (s : State) (a : Arrival) : State :=
  let same := s.flt.lastArrival == some a.time
  let sev := if a.inj then a.msg.sev else (s.kcfg a.msg.kind).sev
  let (s, j) := s.countMsg a.msg sev (1 + a.rep)
  let m := { a.msg with sev := j.sev }
  let r : Rec := { id := s.flt.nextId, msg := m, rep := satN 8 a.rep, same, promo := j.promo, inj := a.inj, react := j.react % 8,
                   time := a.time }
  let s := s.modFlt fun x => { x with lastArrival := some a.time, nextId := x.nextId + 1 }
  let s := if j.first then s.iflag 4 5 else s
  let s := (s.fcntTake r).reactTo r
  ((s.recTake r).feTake r (s.mergesInto r)).histTake r

/-- The severity by which an arrival is ordered. -/
def State.arrSev (s : State) (a : Arrival) : Nat := if a.inj then a.msg.sev else (s.kcfg a.msg.kind).sev

/-- An arrival is handled before another (R446). -/
def State.arrBefore (s : State) (a b : Arrival) : Bool :=
  decide (a.time < b.time) ||
  (a.time == b.time && (decide (s.arrSev b < s.arrSev a) || (s.arrSev a == s.arrSev b && decide (a.msg.src < b.msg.src))))

/-- The arrival that is handled next. -/
def State.nextArrival (s : State) : List Arrival → Option Arrival
  | [] => none
  | a :: r => match s.nextArrival r with
    | none => some a
    | some b => if s.arrBefore b a then some b else some a

/-- The next message at the collector is handled. -/
def State.fltTake (s : State) : State :=
  match s.nextArrival s.flt.arriving with
  | none => s
  | some a => (s.modFlt fun x => { x with arriving := x.arriving.erase a }).collect a

/-! ### Posting (R451, R467) -/

/-- A record's frame on the MUART (R467). -/
def muartFrame (r : Rec) : List Nat :=
  let body := (if r.msg.sev = 0 then 0x02 else 0x01) :: (bytesLE 8 r.msg.word ++ bytesLE 4 r.info ++ bytesLE 8 r.time)
  0xA5 :: (body ++ bytesBE 2 (crc16 body))

/-- A record goes to the MUART. -/
def State.muartPut (s : State) (r : Rec) : State :=
  if !s.on MAINT_MUART_CFG_EN || decide (r.msg.sev < s.rd MAINT_MUART_CFG_MIN_SEV) then s
  else if s.maint.mu.length < 16 then { s with maint := { s.maint with mu := s.maint.mu ++ [muartFrame r] } }
  else s.inc MAINT_MUART_STAT_DROP

/-- A record goes to the mailbox queue (R451). -/
def State.fltPost (s : State) (r : Rec) : State :=
  if s.on FLT_FLT_POST_EN && decide (s.rd FLT_FLT_POST_MIN_SEV ≤ r.msg.sev) then
    s.mbqAppend (s.rd FLT_FLT_POST_PORT) (s.rd FLT_FLT_POST_QUEUE)
      [r.msg.word % 2 ^ 32, r.msg.word / 2 ^ 32, r.info, r.time % 2 ^ 32]
  else s

/-- The coalescing window of the oldest record of a key closes. -/
def State.coClose (s : State) (cause kind : Nat) : State :=
  match s.flt.open_.find? fun r => r.msg.cause == cause && r.msg.kind == kind && decide (r.time + s.coWin ≤ s.tb) with
  | none => s
  | some r => ((s.modFlt fun x => { x with open_ := x.open_.filter fun y => y.id != r.id }).fltPost r).muartPut r

/-! ### Registers -/

/-- Kinds whose settings are fixed (R456). -/
def fixedKinds : List Nat := [0x06, 0x08, 0x32, 0x33, 0x5C]

/-- KCFG of a kind as read; 0 for a KIND R455 does not list. -/
def State.kcfgWord (s : State) (k : Nat) : Nat :=
  match kindReset k with
  | none => 0
  | some _ =>
    let c := s.kcfg k
    c.sev % 4 * 2 ^ 28 + c.react % 8 * 2 ^ 24 + c.preact % 8 * 2 ^ 20 + c.n % 256 * 2 ^ 8

/-- A write of KCFG (R456). -/
def State.kcfgWrite (s : State) (v mk : Nat) : State :=
  let k := s.rd FLT_KCFG_SEL_KIND
  match kindReset k with
  | none => s
  | some d =>
    if fixedKinds.contains k then s
    else
      let cur := s.kcfgWord k
      let w := Nat.lor (cur - Nat.land cur mk) (Nat.land v mk)
      let c : KindCfg := { sev := bits w 28 2, react := bits w 24 3, n := bits w 8 8, preact := bits w 20 3 }
      s.modFlt fun x => { x with kcfg := tput none x.kcfg k (if c = d then none else some c) }

/-- A write of Q_POP.POP = 1 (R448). -/
def State.qPop (s : State) : State := s.modFlt fun x => { x with queue := x.queue.drop 1 }

/-- A write of 1 to FE_VALID (R449). -/
def State.feClear (s : State) : State :=
  if s.clearable FLT_FLT_STAT_FE_VALID 1 = 0 then s else (s.modFlt fun x => { x with fe := {} }).wr FLT_FLT_STAT_FE_VALID 0

/-! ### The commands -/

/-- The device is not held in reset. -/
def notHeld (s : State) : Bool := !s.pwr.held

/-- FAULT_MESSAGE (R444, R445). -/
def execFaultMessage (t : Nat) (msg : BitVec 64) (s : State) : Out :=
  s.act t notHeld fun s => s.report (msgOf msg.toNat)

/-- FAULT_SLOT_SEND (R445). -/
def execFaultSlotSend (t : Nat) (src : BitVec 12) (s : State) : Out :=
  s.act t notHeld fun s => s.slotDue src.toNat

/-- FAULT_MESSAGE_ARRIVAL (R446 to R454). -/
def execFaultMessageArrival (t : Nat) (s : State) : Out := s.act t State.fltOn State.fltTake

/-- COALESCE_CLOSE (R451, R467). -/
def execCoalesceClose (t : Nat) (cause : BitVec 12) (kind : BitVec 8) (s : State) : Out :=
  s.act t State.fltOn fun s => s.coClose cause.toNat kind.toNat

/-- PROMO_WINDOW_END (R452). -/
def execPromoWindowEnd (t : Nat) (cause : BitVec 12) (kind : BitVec 8) (s : State) : Out :=
  s.act t State.fltOn fun s =>
    s.modFlt fun x =>
      { x with counters := x.counters.filter fun w => !(w.cause == cause.toNat && w.kind == kind.toNat && s.winOver w) }

/-- Q_POP (R448). -/
def execFltQPop (t : Nat) (m : Master) (s : State) : Out := s.act t (State.core 3) fun s => s.guarded m 4 0x5C 1 State.qPop

/-- FE_CLEAR (R449). -/
def execFltFeClear (t : Nat) (m : Master) (s : State) : Out :=
  s.act t (State.core 3) fun s => s.guardedMask m 4 0x44 0x80000000 0x80000000 State.feClear

/-- INJ_CTRL (R469). -/
def execFltInjCtrl (t : Nat) (m : Master) (v : Word) (s : State) : Out :=
  s.act t (State.core 3) fun s => s.guarded m 4 0xA4 v.toNat fun s => if bit v.toNat 31 then s.inject v.toNat else s

/-- KCFG_WRITE (R456). -/
def execFltKcfgWrite (t : Nat) (m : Master) (v : Word) (s : State) : Out :=
  s.act t (State.core 3) fun s => s.guarded m 4 0x9C v.toNat fun s => s.kcfgWrite v.toNat 0xFFFFFFFF

end Sys2Proof.Machine
end

