-- ==== Sys2Proof/Machine/Maint.lean ====
section
/-! DEFINITION. Maintenance: SLATE migration, scrub and repair, tokens, tile BIST, the maintenance UART (R26, R457 to R468,
R470). -/

namespace Sys2Proof.Machine

open Reg

/-- What MAINT holds changes. -/
def State.modMaint (s : State) (f : MaintS → MaintS) : State := { s with maint := f s.maint }

/-- The SRC_ID of MAINT. -/
def srcMaint : Nat := srcId 3 0x12 0

/-! ### Migration (R458 to R461) -/

/-- A field key lies in the channel area of tile `t`'s page: channel registers and parameter words. -/
def chanKey (t key : Nat) : Bool := decide ((0x20 + t) * 131072 + 0x100 * 32 ≤ key) && decide (key < (0x21 + t) * 131072)

/-- The channel registers of tile `a` go to tile `b`. -/
def moveRegs (regs : Tab Nat) (a b : Nat) : Tab Nat :=
  (regs.filter fun e => chanKey a e.1).foldl (fun t e => tins t (e.1 + b * 131072 - a * 131072) e.2)
    (regs.filter fun e => !chanKey b e.1)

/-- LMAP0 with a physical tile replaced. -/
def moveMap (map a b : Nat) : Nat :=
  (List.range 8).foldl (fun m i => if bits m (4 * i) 4 = a then putBits m (4 * i) 4 b else m) map

/-- SLATE is loaded from the checkpoint and the log, and the map moves (R460 steps 4 and 5). The channels left behind stand in
their safe state. -/
def State.migLoad (s : State) (g : Mig) : State :=
  let regs := moveRegs s.regs g.src g.dst
  let chans := (List.range 24).foldl
    (fun t i =>
      let x := s.chan (24 * g.src + i)
      tput {} (tput {} t (24 * g.dst + i) { x with pipe := none }) (24 * g.src + i) { safe := true }) s.chans
  let soft := s.out.soft.map fun (e : Nat × Nat × Nat) =>
    if e.2.1 / 24 = g.src then (e.1, 24 * g.dst + e.2.1 % 24, e.2.2) else e
  let s : State := { s with regs := regs, chans := chans, out := { s.out with soft := soft } }
  let s := (s.wr MAINT_LMAP0_MAP (moveMap (s.rd MAINT_LMAP0_MAP) g.src g.dst)).wr MAINT_LMAP1_SLATE 0xF
  (s.wr (TILE_TILE_STAT_RSTD g.dst) 0).modMaint fun m => { m with mig := some { g with moved := true } }

/-- When the action in progress on a channel ends, in 16ths of a tick: an end at an angle is predicted (R461, R205). -/
def State.actEnd (s : State) (a : Act) : Int :=
  match a with
  | .pulse _ stop => stop
  | .pulseA _ stop pos => if s.ang.hasRec then min (stop : Int) (s.posTime pos) else stop
  | .dwell i _ stop =>
    match s.evt.slots.find? fun o => o.idx == i && o.started && o.e.op == 5 with
    | some o => if s.ang.hasRec then min (stop : Int) (s.posTime (s.occPos o)) else stop
    | none => stop

/-- When a pulse that microcode drives ends, in 16ths of a tick: its level is active and an armed match makes it inactive. -/
def State.microEnd (s : State) (p : Nat) : Option Int :=
  let x := s.chan p
  let b := if s.envOn p then x.car else x.env
  let t : Option Int := if x.mtArm && !actOn x.mtAct b then some (16 * x.mtT) else none
  let a : Option Int := if x.maArm && !actOn x.maAct b && s.ang.hasRec then some (s.timeOf16 s.recNow x.maA) else none
  if !s.chPin p then none
  else
    match t, a with
    | some u, some v => some (min u v)
    | some u, none => some u
    | none, v => v

/-- When the pulse or dwell in progress on a channel ends, where there is one (R461). -/
def State.pulseEndAt (s : State) (p : Nat) : Option Int :=
  match (s.chan p).act with
  | some a => some (s.actEnd a)
  | none => s.microEnd p

/-- What R461 does with a channel. -/
inductive Fate where
  | lost | resumed | dropped | plain
  deriving DecidableEq, Repr

/-- The segment of a tile's Sepia slice (R22). -/
def sepiaSeg (t : Nat) : Nat := if t ≤ 4 then 0x09 else 0x8B

/-- A channel is marked LOST_STATE, or the read of its checkpoint or log gives an uncorrectable error (R459, R461). -/
def State.lostState (s : State) (p : Nat) : Bool :=
  s.maint.lost.contains p ||
  s.bad.any fun (w : BadWord) => w.unc && w.q == sepiaSeg (p / 24) && Config.sepiaChan w.q w.b w.a == p

/-- The fate of the migrated channel `i`. -/
def State.fate (s : State) (g : Mig) (i : Nat) : Fate :=
  if s.lostState (24 * g.src + i) then .lost
  else
    match s.pulseEndAt (24 * g.dst + i) with
    | none => .plain
    | some e => if 16 * (s.tb + 20000 : Int) < e then .resumed else .dropped

/-- A restored active level drives its pin: a rise for soft-offs and comparator latches. -/
def State.restored (s : State) (p : Nat) : State :=
  if s.chPin p then
    let s := s.softRise p
    match s.logOf p with
    | some n => s.latchRise n
    | none => s
  else s

/-- A dropped action: the levels are inactive, the pin stays safe, and the occurrence of a dwell is over. -/
def State.actDrop (s : State) (p : Nat) : State :=
  let x := s.chan p
  let s := s.setChan p { x with act := none, env := false, car := false, safe := true }
  match x.act with
  | some (.dwell i _ _) =>
    (match s.evt.slots.find? fun o => o.idx == i && o.started && o.e.op == 5 with
     | some o => s.occEnd o false
     | none => s)
  | _ => s

/-- Channel `i` resumes, drops, or ends safely, and what came due meanwhile fires (R461). -/
def State.migChan (s : State) (g : Mig) (i : Nat) : State :=
  let p := 24 * g.dst + i
  let s :=
    match s.fate g i with
    | .lost =>
      let n := (s.logOf p).getD 0
      ((s.safeEnd p).inc MAINT_MIG_STAT_LOSTST).raise (srcId 1 0x29 g.src) 0x34 n
    | .resumed => (s.restored p).inc MAINT_MIG_STAT_RESUMED
    | .dropped => (s.actDrop p).inc MAINT_MIG_STAT_DROPPED
    | .plain => s.restored p
  ((s.evtLoad p).beforeCmd p).svc p

/-- T_r: pins are driven from the restored levels (R460 step 6, R461). -/
def State.migResume (s : State) (g : Mig) : State :=
  let s := ((((s.wr MAINT_MIG_STAT_FROM g.src).wr MAINT_MIG_STAT_TO g.dst).wr MAINT_MIG_STAT_RESUMED 0).wr
    MAINT_MIG_STAT_DROPPED 0).wr MAINT_MIG_STAT_LOSTST 0
  let s := (s.wr MAINT_MIG_TIME_T (satN 16 ((s.tb - g.tf) / 4))).inc MAINT_MIG_TIME_COUNT
  let s := s.modMaint fun m => { m with mig := none }
  let s := (List.range 24).foldl (fun s i => s.migChan g i) s
  let s := s.modMaint fun m => { m with lost := m.lost.filter fun p => p / 24 != g.src }
  (s.iflag 5 2).taskEnd (migTask g.src) 3

/-- A migration that firmware asked for begins: the tile first receives the forced-safe event (R458). -/
def State.migFirm (s : State) (t : Nat) : State :=
  match s.slateFree with
  | some d => if s.inService t then (s.migStart t d).tileSafe s t else (s.actStat (migTask t) 6).maintRec (migTask t) 6
  | none => (s.actStat (migTask t) 6).maintRec (migTask t) 6

/-! ### Requests and tokens (R465, R466, R470) -/

/-- A request is refused (RESULT 6). -/
def State.actRefuse (s : State) (k : Task) : State := (s.actStat k 6).maintRec k 6

/-- A write of ACT_CTRL.REQ = 1 (R458, R463, R465, R470). -/
def State.actReq (s : State) (act target : Nat) : State :=
  let k : Task := { act, target }
  if s.runs k || s.waits k then s
  else
    match act with
    | 0 => if segOk target then s.taskReq k else s.actRefuse k
    | 2 =>
      if 8 < target ∨ s.inService target ∨ !s.on (TILE_TILE_STAT_RSTD target) then s.actRefuse k else s.taskReq k
    | 3 =>
      if 8 < target ∨ !s.inService target then s.actRefuse k
      else if s.maint.mig.isSome then s.taskReq k
      else s.migFirm target
    | _ => s

/-- A write of ACT_CTRL.ABORT = 1 (R470). A migration whose map has not moved ends with its channels safe. -/
def State.actAbort (s : State) (act target : Nat) : State :=
  let k : Task := { act, target }
  match act with
  | 0 | 2 => s.taskEnd k 5
  | 1 => ((s.maint.run ++ s.maint.wait).filter fun j => j.act == 1 && j.target == target).foldl (fun s j => s.taskEnd j 5) s
  | 3 =>
    match s.maint.mig with
    | some g =>
      if g.src = target ∧ !g.moved then
        let s := (s.modMaint fun m => { m with mig := none }).taskEnd k 5
        (tileChans target).foldl State.safeEnd s
      else if g.src = target then s
      else s.taskEnd k 5
    | none => s.taskEnd k 5
  | _ => s

/-- What a deferred activity does once it has its tokens. -/
def State.taskBegins (s : State) (k : Task) : State :=
  match k.act with
  | 3 => ({ s with maint := { s.maint with run := s.maint.run.filter fun x => !k.same x } } : State).migFirm k.target
  | 4 => s.wr (CBC_CAL_STAT_RESULT k.target) 1
  | 5 => s.cmpTestBegin
  | 6 => s.learnBegin
  | _ => s

/-- Tokens free: the scrubs that ran are complete, and the first deferred activity that may run starts (R465). -/
def State.tokenGrant (s : State) : State :=
  let s := (s.maint.run.filter fun k => k.act == 0).foldl (fun s k => s.taskEnd k 3) s
  match s.nextTask [] s.maint.wait with
  | none => s
  | some k => (s.taskStart k).taskBegins k

/-- TOKEN_STAT as read (R470). -/
def State.tokenStat (s : State) : Nat :=
  ((List.range 4).map fun q =>
    let held := s.maint.run.find? fun k => (s.quadsOf k).contains q
    let n := satN 4 (s.maint.wait.filter fun k => (s.quadsOf k).contains q).length
    (match held with
     | some k => 128 + k.act % 8 * 16 + n
     | none => n) * 2 ^ (8 * q)).sum

/-- A tile BIST ends (R26, R463). -/
def State.bistEnd (s : State) (t : Nat) (pass : Bool) : State :=
  let k : Task := { act := 2, target := t }
  if !s.runs k then s
  else
    let s := s.wr (TILE_TILE_STAT_RSTD t) 0
    let slate := s.rd MAINT_LMAP1_SLATE
    let s := if pass then (if 8 < slate then s.wr MAINT_LMAP1_SLATE t else s)
      else if slate = t then s.wr MAINT_LMAP1_SLATE 0xF else s
    (s.taskEnd k (if pass then 3 else 4)).autoMigrate

/-! ### Scrub and repair (R464) -/

/-- The address of a word of a bank that the address map shows. -/
def bankWord (q b a : Nat) : Option Nat :=
  if q = 0x4D ∧ b < 8 ∧ a < 4096 then some (mbxBase + 16384 * b + 4 * a)
  else if q = 0xCB ∧ b < 8 ∧ a < 4096 then some (mbxBase + 16384 * (8 + b) + 4 * a)
  else if q = 0x44 ∧ b < 4 ∧ a < 2048 then some (evtBase + 8192 * b + 4 * a)
  else if q = 0x45 ∧ b < 4 ∧ a < 2048 then some (evtBase + 8192 * (4 + b) + 4 * a)
  else none

/-- A word that cannot be corrected is written as 0 with valid check bits (R464), where the model knows the place of the word:
mailbox SRAM, the event table, the microcode stores and the PIO program memories. -/
def State.wordZero (s : State) (q b a : Nat) : State :=
  match bankWord q b a with
  | some w => { s with mem := wrWord s.mem w 0 }
  | none =>
    match [0, 1, 2, 3].find? fun g => gelSeg g == q with
    | some g =>
      if b = 0 ∧ a < 8192 then
        let w := 0x30000000 + 0x10000 * g + 8 * a
        { s with mem := wrWord (wrWord s.mem w 0) (w + 4) 0 }
      else s
    | none => if q = 0xCA ∧ b < 4 ∧ a < 256 then s.wr (PIO_PROG_INSTR b a) 0 else s

/-- A quarter finds an uncorrectable error in its parameter memory: its tile enters CRIMSON (R457). -/
def State.quarterFails (s : State) (q b : Nat) : State :=
  match tileBank q b with
  | some (t, u) =>
    let e := srcId 1 (4 * t + u) 0xF
    s.report { src := e, qseg := q, kind := 0x32, cause := e, detail := 0x1F }
  | none => s

/-- A memory reports a word. -/
def State.memReport (s : State) (kind q b a : Nat) : State :=
  let e := bankElem q b
  s.report { src := e, qseg := q, kind, cause := e, detail := a % 2 ^ 18 }

/-- A scrub runs on a bank's segment: the background scrub, a requested one, or that of a repair; and no other activity holds
its quadrant. -/
def State.scrubbing (s : State) (q : Nat) : Bool :=
  let k : Task := { act := 0, target := q }
  let mine := fun (j : Task) => decide (j.act ≤ 1) && j.target == q
  (s.on MAINT_SCRUB_CFG_AUTO || s.maint.run.any mine) && !(s.maint.run.any fun j => !mine j && s.blocks k j)

/-- What is known of a word's bits: no hard error, or one, which SECDED corrects or not. -/
def State.badPut (s : State) (q b a : Nat) (e : Option Bool) : State :=
  { s with bad := (s.bad.filter fun (w : BadWord) => !(w.q == q && w.b == b && w.a == a)) ++
      match e with
      | some u => [{ q, b, a, unc := u }]
      | none => [] }

/-- A repair of a row whose error was not hard is over. -/
def State.repairClean (s : State) (q a : Nat) : State :=
  if s.maint.run.any fun j => j.act == 1 && j.target == q && j.row == a then s.taskEnd { act := 1, target := q, row := a } 3 else s

/-- A scrub reads a word (R464). -/
def State.scrubWord (s : State) (q b a : Nat) (found : ScrubFind) : State :=
  if !(segOk q && s.scrubbing q) then s
  else
    match found with
    | .clean => (s.badPut q b a none).repairClean q a
    | .soft => (((s.badPut q b a none).inc MAINT_SCRUB_STAT_CORR).memReport 0x03 q b a).repairClean q a
    | .hard =>
      (((s.badPut q b a (some false)).inc MAINT_SCRUB_STAT_CORR).memReport 0x03 q b a).taskReq { act := 1, target := q, row := a }
    | .uncorrectable =>
      (((s.badPut q b a (some true)).memReport 0x04 q b a).taskReq { act := 1, target := q, row := a } |>.wordZero q b a).quarterFails q b

/-- The ticks of a pass of the background scrub: PASS_S seconds (R464, R470). -/
def State.passLen (s : State) : Nat := 400000000 * max 1 (s.rd MAINT_SCRUB_CFG_PASS_S)

/-- The passes that ended since PASSES was brought up to date: one every PASS_S seconds while AUTO is 1 (assumption log 94). -/
def State.passesDone (s : State) : Nat := if s.on MAINT_SCRUB_CFG_AUTO then (s.tb - s.maint.passAt) / s.passLen else 0

/-- A write of SCRUB_CFG: the passes up to now count, and a background scrub that starts begins its pass. -/
def State.scrubCfg (s : State) (v mk : Nat) : State :=
  let n := s.passesDone
  let at_ := if s.on MAINT_SCRUB_CFG_AUTO then s.maint.passAt + n * s.passLen else s.tb
  ((s.bump MAINT_SCRUB_STAT_PASSES n).modMaint fun m => { m with passAt := at_ }).plainWrite 5 0x60 v mk

/-- The repair map's entry of a bank. -/
def State.repOf (s : State) (q b : Nat) : RepB := tget {} s.maint.rep (16 * q + b)

/-- REP_INFO as read. -/
def State.repInfo (s : State) (q b : Nat) : Nat :=
  let r := s.repOf q b
  r.row % 65536 * 65536 + b2n r.exhausted * 4 + min 3 r.used

/-- The copy of a row starts at a frame boundary and lasts at most 2 µs (R464); while the TB domain has no clock the model does not
know the frame's phase. -/
def State.copyTime (s : State) : Bool := !s.tbOn || s.on TB_TB_STAT_LFMODE || decide (s.tb % 8000 ≤ 800)

/-- The copy of a row into a spare row, or no spare is left (R464). -/
def State.rowRepair (s : State) (q b row : Nat) : State :=
  if !s.copyTime then s
  else
  match s.maint.run.find? fun j => j.act == 1 && j.target == q with
  | none => s
  | some k =>
    let r := s.repOf q b
    if r.used < 2 then
      let s := s.modMaint fun m => { m with rep := tput {} m.rep (16 * q + b) { r with used := r.used + 1, row := row } }
      ((s.badPut q b row none).inc MAINT_REP_CNT_ROWS).taskEnd k 3
    else
      let s := s.modMaint fun m => { m with rep := tput {} m.rep (16 * q + b) { r with exhausted := true } }
      let s := if r.exhausted then s else s.inc MAINT_REP_CNT_EXH
      let s := (s.iflag 5 3).report { src := bankElem q b, qseg := q, kind := 0x05, cause := bankElem q b, detail := row + b * 65536 }
      s.taskEnd k 4

/-! ### The MUART (R467, R468) -/

/-- The answer to a read request: a status of R98 and the data (R468). Answers go ahead of any queued record. -/
def State.muartAnswer (s : State) (status v : Nat) : State :=
  let body := 0x03 :: status :: bytesLE 4 v
  let f := 0xA5 :: (body ++ bytesBE 2 (crc16 body))
  s.modMaint fun m => { m with muAns := m.muAns ++ [f] }

/-- The answer to a request that went through a remote window: no answer within 2 µs reads as BAD_ADDR, for R98 has no code of its
own. -/
def State.muartRemote (s : State) : State :=
  match s.casc.remDone.find? fun r => r.m == 2 && !r.write with
  | none => s
  | some r =>
    let s := s.modCasc fun c => { c with remDone := c.remDone.erase r }
    match r.status with
    | 0 => s.muartAnswer 0 r.data
    | 1 => s.muartAnswer 2 0
    | 3 => s.muartAnswer 1 0
    | _ => s.muartAnswer 4 0

/-- The ticks of a bit on MUART_TX: PLL_SYS divided by 3,472 or 400 (R467). -/
def State.muartBit (s : State) : Nat := if s.on MAINT_MUART_CFG_BAUD then 400 else 3472

/-- The ticks of a frame of `n` bytes, 10 bits each (R467). -/
def State.muartTicks (s : State) (n : Nat) : Nat := 10 * n * s.muartBit

/-- The next frame goes out: an answer first. -/
def State.muartSend (s : State) : State :=
  let s := s.muartRemote
  if !s.on MAINT_MUART_CFG_EN || decide (s.now < s.maint.muFree) then s
  else
    match s.maint.muAns, s.maint.mu with
    | a :: r, _ => s.modMaint fun m => { m with muAns := r, muTx := [a], muFree := s.now + s.muartTicks a.length }
    | [], f :: r => s.modMaint fun m => { m with mu := r, muTx := [f], muFree := s.now + s.muartTicks f.length }
    | [], [] => s

/-- The bits of a frame on MUART_TX: for each byte a start bit 0, the byte's bits with the least significant first, and a stop bit 1
(R467). -/
def muartBits (f : List Nat) : List Bool := f.flatMap fun x => false :: ((List.range 8).map (bit x) ++ [true])

/-- MUART_TX is at high impedance (R467, R492). -/
def State.muartHiZ (s : State) : Bool := s.pwr.held || !s.on MAINT_MUART_CFG_EN

/-- The level of MUART_TX: idle high, and the bits of the frame that goes out; the internal pull-up holds it while it is at high
impedance. -/
def State.muartTx (s : State) : Bool :=
  if s.muartHiZ || decide (s.maint.muFree ≤ s.now) then true
  else
    let b := (s.maint.muTx.flatMap muartBits)
    b.getD (b.length - 1 - (s.maint.muFree - 1 - s.now) / s.muartBit) true

/-- The part is not fielded, so MUART_RX takes requests. -/
def State.muartRx (s : State) : Bool := !s.on SEC_LIFE_FIELD

/-! ### The commands -/

/-- MIGRATION (R460). -/
def execMigration (t : Nat) (tile : Tile) (s : State) : Out :=
  s.act t (State.core 3) fun s =>
    match s.maint.mig with
    | some g => if g.src = tile.val ∧ !g.moved then s.migLoad g else s
    | none => s

/-- MIGRATION_RESUME (R461). -/
def execMigrationResume (t : Nat) (s : State) : Out :=
  s.act t (State.core 3) fun s =>
    match s.maint.mig with
    | some g => if g.moved then s.migResume g else s
    | none => s

/-- The word of ACT_CTRL. -/
def actWord (top act target : Nat) : Nat := top + act * 2 ^ 24 + target

/-- ACT_REQ (R465, R470). -/
def execActReq (t : Nat) (m : Master) (act : Fin 16) (target : BitVec 12) (s : State) : Out :=
  s.act t (State.core 3) fun s =>
    s.guarded m 5 0x44 (actWord 0x80000000 act target.toNat) fun s => s.actReq act target.toNat

/-- ACT_ABORT (R470). -/
def execActAbort (t : Nat) (m : Master) (act : Fin 16) (target : BitVec 12) (s : State) : Out :=
  s.act t (State.core 3) fun s =>
    s.guarded m 5 0x44 (actWord 0x40000000 act target.toNat) fun s => s.actAbort act target.toNat

/-- TOKEN_GRANT (R465). -/
def execTokenGrant (t : Nat) (s : State) : Out := s.act t (State.core 3) State.tokenGrant

/-- TILE_BIST_END (R26, R463). -/
def execTileBistEnd (t : Nat) (tile : Tile) (pass : Bool) (s : State) : Out :=
  s.act t (State.core 3) fun s => s.bistEnd tile pass

/-- SCRUB_WORD (R464). -/
def execScrubWord (t : Nat) (bank : MemBank) (addr : Nat) (found : ScrubFind) (s : State) : Out :=
  s.act t (State.core 3) fun s => s.scrubWord bank.qseg bank.bank addr found

/-- ROW_REPAIR (R464). -/
def execRowRepair (t : Nat) (bank : MemBank) (row : BitVec 16) (s : State) : Out :=
  s.act t (State.core 3) fun s => s.rowRepair bank.qseg bank.bank row.toNat

/-- MUART_FRAME_SEND (R467). -/
def execMuartFrameSend (t : Nat) (s : State) : Out := s.act t (State.core 3) State.muartSend

/-- MUART_RX_TIMEOUT (R468). -/
def execMuartRxTimeout (t : Nat) (s : State) : Out :=
  s.act t (State.core 3) fun s => if s.muartRx then s.inc MAINT_MUART_STAT_RX_ERR else s

end Sys2Proof.Machine
end

