-- ==== Sys2Proof/Machine/Port.lean ====
section
/-! DEFINITION. The host ports' states, interrupts and attention (R87 to R90, R105 to R118). -/

namespace Sys2Proof.Machine

open Reg

/-- PORT_STAT.STATE (R105): 0 OFF, 1 IDLE, 2 RECV, 3 EXEC, 4 RESP_READY, 5 SEND. -/
def State.hostState (s : State) (x : Nat) : Nat := s.rd (HOST_PORT_STAT_STATE x)

/-- The port takes another state. -/
def State.hostTo (s : State) (x st : Nat) : State := s.wr (HOST_PORT_STAT_STATE x) st

/-- The port enters IDLE: a sequence of attention pulses may start (R106). -/
def State.hostIdle (s : State) (x : Nat) : State :=
  (s.modHs x fun h => { h with frame := none, resp := none, hello := none, brk := false, idleAt := s.now, seq := true,
                               pulse := none }).hostTo x 1

/-- The lowest pending source of a host (R113). -/
def State.vec (s : State) (x : Nat) : Option Nat := (List.range 256).find? (s.srcPending x)

/-- VEC as read. -/
def State.vecView (s : State) (x : Nat) : Nat :=
  match s.vec x with
  | some n => 2 ^ 31 + n
  | none => 0

/-- A response header (R92): the pending interrupt's flag and vector go with every response (R113). -/
def State.respHdr (s : State) (x op len status info tag : Nat) (more part : Bool) : Nat :=
  let v := s.vec x
  let h := op * 2 ^ 56 + len % 256 * 2 ^ 48 + status * 2 ^ 40 + v.getD 0 * 2 ^ 32 + info % 65536 * 2 ^ 16 + tag * 2 ^ 12 +
    b2n v.isSome * 2 ^ 8 + b2n more * 2 ^ 9 + b2n part * 2 ^ 10
  h + hdrCrc8 h

/-- The port leaves OFF (R105, R111): every active level source sets its bit. -/
def State.hostOpen (s : State) (x : Nat) : State :=
  let s := ({ s with rtr := { s.rtr with active := s.rtr.active.filter fun k => k / 256 != x + 1 } } : State).hostIdle x
  (List.range 256).foldl (fun s n => if (s.srcLevel n (x + 1)).isSome then s.hostLevel n x else s) s

/-- The port enters OFF. -/
def State.hostClose (s : State) (x : Nat) : State :=
  (s.modHs x fun h => { enabled := h.enabled, heard := s.tb }).hostTo x 0

/-- The level of Hx_RDY (R90, R105, R106, R109, R48). -/
def State.rdy (s : State) (x : Nat) : Bool :=
  match s.pwr.sleep with
  | .asleep => s.hostState x != 0
  | .waking src => s.hostState x != 0 && src != 3 + x
  | _ =>
    State.core 3 s &&
    (match s.hostState x with
     | 1 => (match (s.hs x).pulse with
       | some p => decide (p + 200 ≤ s.now)
       | none => true)
     | 4 | 5 => true
     | _ => false)

/-- A lane break is counted and takes single-lane mode at version 1.0 (R90). R105 has no row for one in OFF: DESIGN CHOICE
(assumption log 72): it is counted and sets PROTO there too, and the port stays in OFF. -/
def State.hostBreak (s : State) (x : Nat) : State :=
  let s := ((s.wr (HOST_PORT_STAT_VER x) 0x10).wr (HOST_PORT_STAT_QUAD x) 0).inc (HOST_ERR_CNT_PROTO x)
  let s := s.iflag (8 + x) 2
  match s.hostState x with
  | 2 | 4 | 5 => s.hostIdle x
  | 3 => s.modHs x fun h => { h with brk := true }
  | 1 => s.hostIdle x
  | _ => s

/-- Hx_CS_N falls (R105). -/
def State.csFall (s : State) (x : Nat) : State :=
  match s.hostState x with
  | 1 => s.hostTo x 2
  | 3 => (s.inc (HOST_ERR_CNT_PROTO x)).iflag (8 + x) 2
  | 4 => s.hostTo x 5
  | _ => s

/-- ATTN_PERIOD in ticks. -/
def State.attnPeriod (s : State) (x : Nat) : Nat := 400 * max 5 (min 500 (s.rd (HOST_PORT_CFG_ATTN_PERIOD x)))

/-- An attention pulse begins (R106). -/
def State.attn (s : State) (x : Nat) : State :=
  let h := s.hs x
  let high := match h.pulse with
    | some p => p + 200
    | none => h.idleAt
  let due := if h.seq then decide (high + 40 ≤ s.now) else
    match h.pulse with
    | some p => decide (p + s.attnPeriod x ≤ s.now)
    | none => true
  if s.hostState x == 1 && s.on (HOST_PORT_CFG_ATTN_EN x) && (s.vec x).isSome && due then
    s.modHs x fun h => { h with seq := false, pulse := some s.now }
  else s

/-- HWD ms have passed without a request (R118). DESIGN CHOICE (assumption log 74): the record's SUB is 0; the rule names only the
port. -/
def State.hostQuiet (s : State) (x : Nat) : State :=
  let d := 400000 * s.rd (HOST_PORT_CFG_HWD x)
  let h := (s.hs x).heard
  if d = 0 ∨ s.tb < h + d then s
  else (s.modHs x fun y => { y with heard := h + d }).raise (srcId 3 x 0) 0x50 0

/-- A write of 1 clears IPEND bits; an active level source sets its bit again (R111). -/
def State.ipendClear (s : State) (x k v : Nat) : State :=
  let f := HOST_IPEND_PEND x k
  let s := s.clearBits f v
  (List.range 32).foldl
    (fun s i => if bit v i && s.srcLevel (32 * k + i) (x + 1) == some true then s.ipend x (32 * k + i) else s) s

/-- A write of MBQn_CFG (R119). -/
def State.mbqCfg (s : State) (x n v mk : Nat) : State :=
  let s0 := s
  let s := s.plainWrite (8 + x) (0x100 + 0x10 * n) v mk
  let s := s.wr (HOST_MBQ_CFG_BASE x n) (s.rd (HOST_MBQ_CFG_BASE x n) / 4 * 4)
  let sets := bit v 31 && bit mk 31
  if sets || s.rd (HOST_MBQ_CFG_LOG2 x n) != s0.rd (HOST_MBQ_CFG_LOG2 x n) ||
      s.rd (HOST_MBQ_CFG_BASE x n) != s0.rd (HOST_MBQ_CFG_BASE x n) then
    ((s.wr (HOST_MBQ_PTR_HEAD x n) 0).wr (HOST_MBQ_PTR_TAIL x n) 0).wr (HOST_MBQ_STAT_RSVD_W x n) 0
  else s

/-! ### The commands -/

/-- The host ports act (R41, R109). -/
def hostOk (s : State) : Bool := State.core 3 s && s.pwr.sleep == .awake

/-- HOST_CS_FALL (R105). -/
def execHostCsFall (t : Nat) (x : Port) (s : State) : Out := s.act t hostOk fun s => s.csFall x

/-- LANE_BREAK (R90). -/
def execLaneBreak (t : Nat) (x : Port) (s : State) : Out := s.act t hostOk fun s => s.hostBreak x

/-- ATTN_PULSE (R106). -/
def execAttnPulse (t : Nat) (x : Port) (s : State) : Out := s.act t hostOk fun s => s.attn x

/-- HOST_SILENCE (R118). -/
def execHostSilence (t : Nat) (x : Port) (s : State) : Out := s.act t hostOk fun s => s.hostQuiet x

/-- IPEND_CLEAR (R111). -/
def execIpendClear (t : Nat) (m : Master) (x : Port) (k : Fin 8) (v : Word) (s : State) : Out :=
  s.act t (State.core 3) fun s => s.guarded m (8 + x.val) (0x80 + 4 * k.val) v.toNat fun s => s.ipendClear x k v.toNat

/-- RELEASE (R116): the write of 1 to MBQn_CTRL.RELEASE. -/
def execMbqRelease (t : Nat) (m : Master) (x : Port) (n : Fin 8) (s : State) : Out :=
  s.act t (State.core 3) fun s => s.guarded m (8 + x.val) (0x10C + 0x10 * n.val) 1 fun s => s.mbqRelease x n

/-- MBQ_CONFIGURE (R119). -/
def execMbqConfigure (t : Nat) (m : Master) (x : Port) (n : Fin 8) (v : Word) (s : State) : Out :=
  s.act t (State.core 3) fun s =>
    s.guarded m (8 + x.val) (0x100 + 0x10 * n.val) v.toNat fun s => s.mbqCfg x n v.toNat 0xFFFFFFFF

end Sys2Proof.Machine
end

