-- ==== Sys2Proof/Machine/Reset.lean ====
section
/-! DEFINITION. What stops a unit (PG_CTRL.EN := 0), unit reset (R85), and the hold of a domain (R11, R12). -/

namespace Sys2Proof.Machine

open Reg

/-- A position port stops; a serial read in progress is dropped, and the tracker loses its input (R155). -/
def State.posDisable (s : State) (p : Nat) : State :=
  (((s.setPort p { s.port p with ssi := none }).wr (POS_STAT_SSI_BUSY p) 0).wr (PG_CTRL_EN (0x10 + p)) 0).trkPortFail p

/-- The outputs of page `p`'s unit end and its EN becomes 0 where it can (R85 steps 1 and 2, and the chapters' rows for
PG_CTRL.EN := 0). -/
def State.pageEnd (s : State) (p : Nat) : State :=
  let s :=
    if 0x10 ≤ p ∧ p ≤ 0x17 then s.posDisable (p - 0x10)
    else if p = 0x18 then s.trkHalt
    else if p = 0x19 then s.evtStop
    else if 0x20 ≤ p ∧ p ≤ 0x28 then s.tileSafe s (p - 0x20)
    else if 0x30 ≤ p ∧ p ≤ 0x33 then s.gelDisable (p - 0x30)
    else if 0x40 ≤ p ∧ p ≤ 0x57 then s.bankDisable (p - 0x40)
    else if 0x60 ≤ p ∧ p ≤ 0x7F then s.cvDisable (p - 0x60)
    else if 0x90 ≤ p ∧ p ≤ 0xA7 then s.cylStop (p - 0x90)
    else if 0xC0 ≤ p ∧ p ≤ 0xC3 then s.pioStop (p - 0xC0)
    else if 0xC8 ≤ p ∧ p ≤ 0xCB then s.linkStop (p - 0xC8)
    else if p = 0xCC then s.cascStop
    else s
  if enReset p = 0 then s.wr (PG_CTRL_EN p) 0 else s

/-- What more ends at once when a unit reset begins: commands in flight, results, pins (R85 steps 1 and 2). -/
def State.unitEnd (s : State) (p : Nat) : State :=
  let s := s.pageEnd p
  if 0x30 ≤ p ∧ p ≤ 0x33 then s.modEng (p - 0x30) fun x => { x with cq := [] }
  else if p = 8 ∨ p = 9 then s.hostClose (p - 8)
  else if p = 0x80 then s.cmpTestStop
  else if p = 0x88 then
    { (List.range 24).foldl State.cylStop s with cmuIn := [] }
  else if p = 0xB8 then s.dmaReset
  else s

/-- Header offsets that a unit reset clears (R85): PG_CTRL, PG_STAT, PG_IFLAG and PG_FCNT. -/
def hdrReset (o : Nat) : Bool := o == 0x8 || o == 0xC || o == 0x10 || o == 0x20

/-- Block offsets that a unit reset keeps: BOOT_STAT, the straps, program memory, and what belongs to owned comparators. -/
def State.keepReset (s : State) (p o : Nat) : Bool :=
  if o < 0x40 then !hdrReset o
  else if p = 8 ∨ p = 9 then o == 0x54
  else if p = 0xCC then o == 0x48
  else if 0xC0 ≤ p ∧ p ≤ 0xC3 then decide (0x400 ≤ o)
  else if p = 0x80 then
    (decide (0x100 ≤ o) && s.cmpOwned ((o - 0x100) / 0x10)) || o == 0x40 || o == 0x44 || o == 0x60 || o == 0x64
  else false

/-- Registers of comparators that are not owned, in the words that hold a bit of each. -/
def State.cmpWords (s : State) : State :=
  (List.range 48).foldl
    (fun s n =>
      if s.cmpOwned n then s
      else
        let fl := if n < 32 then CMP_FAIL0_FAIL else CMP_FAIL1_FAIL
        let la := if n < 32 then CMP_LATCH0_LATCH else CMP_LATCH1_LATCH
        let s := (s.wr fl (putBit (s.rd fl) (n % 32) false)).wr la (putBit (s.rd la) (n % 32) false)
        s.setCmp n {}) s

/-- The unit's state beside its registers takes its reset form. -/
def State.unitClear (s : State) (p : Nat) : State :=
  if 0x10 ≤ p ∧ p ≤ 0x17 then s.setPort (p - 0x10) { filt := (s.port (p - 0x10)).filt }
  else if p = 0x18 then { s with trk := {} }
  else if p = 0x19 then { s with evt := {} }
  else if 0x20 ≤ p ∧ p ≤ 0x28 then
    let s : State := { s with chans := s.chans.filter fun e => e.1 / 24 != p - 0x20 }
    s.wr (TILE_TILE_STAT_RSTD (p - 0x20)) 1
  else if 0x30 ≤ p ∧ p ≤ 0x33 then
    let s := s.modEng (p - 0x30) fun x => { image := x.image, cq := x.cq }
    (List.range 216).foldl (fun s c => if s.engineOf c = p - 0x30 then s.svc c else s) s
  else if 0x40 ≤ p ∧ p ≤ 0x57 then { s with slots := s.slots.filter fun e => e.1 / 2 != p - 0x40 }
  else if 0x60 ≤ p ∧ p ≤ 0x7F then
    let s : State := { s with conv := tdrop s.conv (p - 0x60) }
    if p = 0x60 then { s with mains := {} } else s
  else if p = 0x80 then s.cmpWords
  else if p = 0x88 then { s with cmu := {}, cyls := [] }
  else if 0x90 ≤ p ∧ p ≤ 0xA7 then { s with cyls := tdrop s.cyls (p - 0x90) }
  else if p = 0xB1 then { s with gpt := [] }
  else if p = 0xB8 then s.dmaReset
  else if 0xC0 ≤ p ∧ p ≤ 0xC3 then { s with pio := s.pio.filter fun e => e.1 / 8 != p - 0xC0 }
  else if 0xC8 ≤ p ∧ p ≤ 0xCB then { s with casc := { s.casc with links := tdrop s.casc.links (p - 0xC8) } }
  else if p = 0xCC then
    let c := s.casc
    let s := [CASC_CASC_STAT_ELIG, CASC_CASC_STAT_MASTER_V, CASC_CASC_STAT_MASTER, CASC_CASC_STAT_SUCC_V, CASC_CASC_STAT_SUCC, CASC_CASC_STAT_EPOCH, CASC_CASC_STAT_ROLE].foldl
      (fun (s : State) f => s.wr f f.rst) s
    { s with follow := none, casc := { links := c.links, sent := c.sent, seq := c.seq, seen := c.seen, hops := c.hops } }
  else if p = 6 then { s with rtr := { active := s.rtr.active } }
  else s

/-- The fault state of a unit ends (R85, R454). -/
def State.unitHeal (s : State) (p : Nat) : State :=
  let out := fun (e : Nat) => !(pagesOf e).contains p
  (s.modFlt fun f => { f with
    crim := f.crim.filter out, amber := f.amber.filter (· != p), counters := f.counters.filter fun w => out w.cause }).clearLive p

/-- A unit reset completes (R85 step 3). -/
def State.unitReset (s : State) (p : Nat) : State :=
  let s := ((s.resetPage p (s.keepReset p)).unitClear p).unitHeal p
  let s := { s with acc := { s.acc with frozen := tput [] s.acc.frozen p [], rstBusy := s.acc.rstBusy.filter (· != p) } }
  if (p = 8 ∨ p = 9) ∧ (s.hs (p - 8)).enabled then s.hostOpen (p - 8) else s

/-- The pages of a domain (R10). -/
def domPages (d : Nat) : List Nat :=
  (List.range 0xCD).filter fun p =>
    (pageKind p).isSome &&
    (match d with
     | 0 => decide (0x10 ≤ p) && decide (p ≤ 0x19)
     | 1 => decide (0x20 ≤ p) && decide (p ≤ 0x57)
     | 2 => decide (0x60 ≤ p) && decide (p ≤ 0xA7)
     | _ => decide (p ≤ 9) || decide (0xB0 ≤ p))

/-- The supply monitor of domain `d` holds it in reset (R12). The SYSTEM domain's record goes straight into the LF domain. -/
def State.droop (s : State) (d : Nat) : State :=
  let e := srcId d 0x3F 0xE
  let m : Msg := { src := e, qseg := qsegOf e, kind := 0x08, sev := 3, cause := e, detail := d }
  let s := if d = 3 then s.packageCrimson { msg := m, react := 4, time := s.tb } else s.report m
  let s := (domPages d).foldl State.unitEnd s
  let s := if d = 1 then { s with out := { s.out with dpA := false, dpB := false } } else s
  (s.setBits SYS_DOM_STAT_DROOP (2 ^ d)).wr SYS_DOM_STAT_RST
    (putBit (s.rd SYS_DOM_STAT_RST) d true)

/-- The domain leaves reset: its units stand as after a unit reset; the pages that only the device resets keep their
state (R12, R69). -/
def State.droopEnd (s : State) (d : Nat) : State :=
  if s.domOn d then s
  else
    let s := s.wr SYS_DOM_STAT_RST (putBit (s.rd SYS_DOM_STAT_RST) d false)
    ((domPages d).filter fun p => !packagePages.contains p).foldl State.unitReset s

/-- DOMAIN_DROOP (R12). -/
def execDomainDroop (t : Nat) (d : Domain) (s : State) : Out :=
  s.act t notHeld fun s => if s.domOn d then s.droop d else s

/-- DOMAIN_DROOP_RELEASE (R12). -/
def execDomainDroopRelease (t : Nat) (d : Domain) (s : State) : Out := s.act t notHeld fun s => s.droopEnd d

end Sys2Proof.Machine
end

