-- ==== Sys2Proof/Machine/Clk.lean ====
section
/-! DEFINITION. Clock sources, sleep, device debug halt, LF mode and the budget frame (R37 to R57). -/

namespace Sys2Proof.Machine

open Reg

/-- What stands about power and clocks changes. -/
def State.modPwr (s : State) (f : Pwr → Pwr) : State := { s with pwr := f s.pwr }

/-! ### TB sources (R37 to R40) -/

/-- The TB domain switches between PLL_TB (0) and PLL_SYS (1): the switch repeats no count and skips at most 2 ticks, how many the
spec leaves open; the delay line must calibrate again. -/
def State.tbSwitch (s : State) (src : Nat) : State :=
  let (r, s) := s.free
  let k := r % 3
  let s := ((s.wr CLK_CLK_STAT_TB_SRC src).wr CLK_CLK_STAT_DL_CAL 0).wr CLK_TB_SWITCH_SKIP k
  { s.inc CLK_TB_SWITCH_COUNT with tb := (s.tb + k) % 2 ^ 64 }

/-- TREF is declared failed by a criterion of R37. In LF mode the switch to PLL_SYS shows when LF mode ends (assumption log 68). -/
def State.trefFail (s : State) (crit : Nat) : State :=
  if crit = 0 ∨ !s.on CLK_CLK_STAT_TREF_OK ∨ (crit = 4 ∧ s.on TB_TB_STAT_LFMODE) then s
  else
    let s := s.wr CLK_CLK_STAT_TREF_OK 0
    let s := if crit = 4 then s.wr CLK_CLK_STAT_PLL_TB_LOCK 0 else s
    let s := s.modPwr fun p => { p with restore := none }
    let s := if s.rd CLK_CLK_STAT_TB_SRC = 0 then s.tbSwitch 1 else s.modPwr fun p => { p with tbFrom := 1 }
    (s.setAmber 1 true).raise (srcId 3 0x20 2) 0x5B crit

/-- A write of TB_RESTORE = 1 (R40). -/
def State.tbRestore (s : State) : State :=
  if s.rd CLK_CLK_STAT_TB_SRC == 1 && s.on CLK_CLK_STAT_TREF_OK && decide (s.pwr.trefSince + 4000000 ≤ s.tb) then
    s.modPwr fun p => { p with restore := some (s.tb / 8000) }
  else s

/-- The return to PLL_TB at the next frame boundary. -/
def State.tbReturn (s : State) : State :=
  match s.pwr.restore with
  | some n =>
    if n < s.tb / 8000 ∧ s.rd CLK_CLK_STAT_TB_SRC = 1 then (((s.modPwr fun p => { p with restore := none }).tbSwitch 0).setAmber 1 false) else s
  | none => s

/-- TREF_OK becomes 1 again. -/
def State.trefRise (s : State) : State :=
  if s.on CLK_CLK_STAT_TREF_OK then s
  else
    let s := (s.modPwr fun p => { p with trefSince := s.tb }).wr CLK_CLK_STAT_TREF_OK 1
    if s.on TB_TB_STAT_LFMODE then s else s.wr CLK_CLK_STAT_PLL_TB_LOCK 1

/-- XIN is lost (R41): package CRIMSON without the CORE domain; its record goes straight into the LF domain, and every bank slot
quenches. A monitor that is held in reset says nothing (R12); the clock stops all the same. -/
def State.xinLost (s : State) : State :=
  if s.pwr.xinLost then s
  else if !s.domOn 3 then s.modPwr fun p => { p with xinLost := true }
  else
    let e := srcId 3 0x20 3
    let r : Rec := { msg := { src := e, qseg := qsegOf e, kind := 0x5C, sev := 3, cause := e }, react := 4, time := s.tb }
    let s := (s.packageCrimson r).quenchAll
    ((s.modPwr fun p => { p with xinLost := true }).wr CLK_CLK_STAT_XIN_OK 0).wr CLK_CLK_STAT_PLL_SYS_LOCK 0

/-- The LF clock is lost (R41). -/
def State.lfLost (s : State) : State :=
  if s.pwr.lfLost then s
  else ((s.modPwr fun p => { p with lfLost := true }).wr CLK_CLK_STAT_LF_OK 0).raise (srcId 3 0x20 4) 0x5D 0

/-! ### Requests of R47 -/

/-- The first failing check of a request, for sleep or for debug halt. -/
def State.pwrCheck (s : State) (maint : Bool) (v : Nat) : Option Nat :=
  let sync := s.trk.out.st == 2 || s.trk.out.st == 3 || s.trk.out.st == 4
  if bits v 24 8 ≠ 0x5A then some 1
  else if !(s.on CLK_CLK_CTRL_LF_EN && s.on CLK_CLK_STAT_LF_OK) then some 2
  else if s.pkgCrimson then some 3
  else if bit v 0 then (if sync && !bit v 2 then some 4 else none)
  else if maint then none
  else some 5

/-- Every Gelad engine halts as if GEL_CTRL.HALT were 1 (R49, R255). -/
def State.gelHaltAll (s : State) : State :=
  (List.range 4).foldl
    (fun s g => if s.rd (GEL_GEL_STAT_STATE g) = 1 ∨ s.rd (GEL_GEL_STAT_STATE g) = 2 then s.dhaltHold g else s) s

/-- Engines that device debug halt halted resume where HALT does not hold them (R49, R256). -/
def State.gelResumeAll (s : State) : State :=
  let gs := s.pwr.dhalted
  gs.foldl (fun s g => if s.on (GEL_GEL_CTRL_HALT g) then s else s.gelGoOn g) (s.modPwr fun p => { p with dhalted := [] })

/-- A request: a write of PWR_CTRL, by MAINT or another master, or through TCK, which counts as MAINT (R47). -/
def State.pwrReq (s : State) (maint : Bool) (v : Nat) : State :=
  if s.rd CLK_PWR_STAT_STATE = 2 then
    if bits v 24 8 = 0x5A ∧ !bit v 1 ∧ maint then
      let s := (s.wr CLK_PWR_STAT_STATE 0).wr CLK_PWR_CTRL_DHALT 0
      (s.modPwr fun p => { p with lfEnding := s.on TB_TB_STAT_LFMODE }).gelResumeAll
    else s
  else if s.pwr.sleep ≠ .awake ∨ !(bit v 0 || bit v 1) then s
  else
    match s.pwrCheck maint v with
    | some code => ((s.wr CLK_PWR_STAT_REFUSE code).iflag 1 1).cfgRec (srcId 3 0x20 0xF) code 0xFFF
    | none =>
      let s := s.modPwr fun p => { p with lfEnding := false }
      if bit v 0 then ((s.outTrip 3).evtLoss).modPwr fun p => { p with sleep := .entering }
      else
        let s := (s.wr CLK_PWR_STAT_STATE 2).wr CLK_PWR_CTRL_DHALT 1
        s.gelHaltAll.outTrip 3

/-- A request through TCK (R47): only one of debug halt, with its end, may come so, and only where SEC.LIFE.FIELD is 0. -/
def State.pwrTck (s : State) (v : Nat) : State := if s.on SEC_LIFE_FIELD then s else s.pwrReq true (v - bitN v 0)

/-! ### LF mode (R44 to R46, R48, R49, R356) -/

/-- The tracker stops where its clock does: it starts again from NOSYNC (R48, R49). -/
def State.trkSleep (s : State) : State :=
  let s := s.outState 0
  let s := s.learnStop 5
  let s := if s.ang.valid then s.angLost else s
  let s : State := { s with trkIn := [] }
  s.modTrk fun x => { x with
    p := {}, s := {}, failed := none, req := none, cams := [], met := [], cycClean := false, closed := [], errRun := 0,
    phaseRun := 0, divRun := 0, aEdge := none, bEdge := none, classes := [], lastAcc := none, out := { x.out with hasRec := false } }

/-- What loses its power in sleep (R48): VREF, converters, comparators, link transceivers. -/
def State.unpowered (s : State) : State :=
  let s := (((s.wr (CBC_VREF_STAT_WARM 0) 0).wr (CBC_VREF_STAT_OK 0) 0).wr (CBC_VREF_STAT_ON 0) 0).cmpVref
  let s := (List.range 32).foldl
    (fun s x =>
      if s.rd (CBC_CONV_STAT_STATE x) = 0 then s
      else
        let en := s.rd (PG_CTRL_EN (0x60 + x))
        ((s.cvDisable x).wr (PG_CTRL_EN (0x60 + x)) en).wr (CBC_CONV_STAT_STATE x) 1) s
  links.foldl (fun s x => if s.linkState x = 0 then s else (s.linkEnter x 0).wr (LINK_LINK_STAT_LOCK x) 0) s

/-- The timebase starts to count from the LF clock (R44, R45); the source it leaves is kept (assumption log 68). -/
def State.lfStart (s : State) : State :=
  if s.on TB_TB_STAT_LFMODE then s
  else
    let from_ := s.rd CLK_CLK_STAT_TB_SRC
    let s := s.gpSyncAll.trkSleep
    let s := (((s.wr TB_TB_STAT_LFMODE 1).iflag 0xB0 1).wr CLK_CLK_STAT_TB_SRC 2).wr CLK_CLK_STAT_PLL_TB_LOCK 0
    (s.wr CLK_CLK_STAT_DL_CAL 0).modPwr fun p => { p with lfFrac := 0, tbFrom := from_ }

/-- The LF edge at which LF mode begins, and with sleep the PLLs stop (R47, R48). -/
def State.lfEnter (s : State) : State :=
  if s.pwr.sleep = .entering then
    ((s.lfStart.unpowered.wr CLK_CLK_STAT_PLL_SYS_LOCK 0).wr CLK_CLK_STAT_PLL_TB_LOCK 0).modPwr fun p => { p with sleep := .asleep }
  else if s.rd CLK_PWR_STAT_STATE = 2 then s.lfStart
  else s

/-- One LF tick: 12,207 and 1/32 ticks (R44), which cross one or two frame boundaries (R46, R55). -/
def State.lfTick (s : State) : State :=
  if !s.on TB_TB_STAT_LFMODE ∨ s.pwr.lfLost then s
  else
    let n := 390625 + s.pwr.lfFrac
    let tb := (s.tb + n / 32) % 2 ^ 64
    let s : State := { s with tb := tb, pwr := { s.pwr with lfFrac := n % 32, frame := tb / 8000 } }
    let s := (s.inc TB_LF_CNT_COUNT).gpLfStep.alarmFires.latchFrame
    if State.core 3 s then s.budgetFrame else s

/-- The first LF edge after PLL_TB has locked (R45): TB runs from PLL_TB, or from PLL_SYS where a switch under R38 stands (R40). -/
def State.lfExit (s : State) : State :=
  if !s.on TB_TB_STAT_LFMODE ∨ !s.pwr.lfEnding then s
  else
    let s := ((s.wr TB_TB_STAT_LFMODE 0).iflag 0xB0 2).wr CLK_CLK_STAT_TB_SRC s.pwr.tbFrom
    let s := if s.on CLK_CLK_STAT_TREF_OK then s.wr CLK_CLK_STAT_PLL_TB_LOCK 1 else s
    (s.modPwr fun p => { p with lfFrac := 0, lfEnding := false }).gpSyncAll

/-! ### Sleep ends (R48, R152) -/

/-- A wake, by POS0, POS2, HA_CS_N or HB_CS_N. A port wakes when its A input has held a new level for `held` ticks, two LF periods
at least; in VR mode past ARM_MIN, its excursion being `mv` millivolts (R152). -/
def State.wake (s : State) (src held mv : Nat) : State :=
  let pos := if src = 1 then some 0 else if src = 2 then some 2 else none
  let on := match pos with
    | some p =>
      s.on (POS_CFG_WAKE_EN p) && s.usesPin p 0 && decide (781250 ≤ 32 * held) &&
      (s.posMode p != 3 || decide (4 * s.rd (POS_VR_CFG_ARM_MIN p) < mv))
    | none => src == 3 || src == 4
  if s.pwr.sleep ≠ .asleep ∨ !on then s
  else
    let s := match pos with
      | some p => (s.setBits (POS_STAT_WAKE p) 1).iflag (0x10 + p) 11
      | none => s
    (s.wr CLK_PWR_STAT_WAKE_SRC src).iflag 1 0 |>.modPwr fun p => { p with sleep := .waking src }

/-- The response to the frame that woke a port: BUSY with INFO = 1 (R48, R92, R113). -/
def State.wakeResp (s : State) (x : Nat) : HResp := { hdr := s.respHdr x 0 0 1 1 0 false false }

/-- The PLLs have locked after a wake. -/
def State.wakeDone (s : State) : State :=
  match s.pwr.sleep with
  | .waking src =>
    let s := (s.modPwr fun p => { p with sleep := .awake, lfEnding := true }).wr CLK_CLK_STAT_PLL_SYS_LOCK 1
    let s := if s.on CLK_CLK_STAT_TREF_OK then s.wr CLK_CLK_STAT_PLL_TB_LOCK 1 else s
    let s := if s.on (CBC_VREF_CTRL_EN 0) then
        (s.wr (CBC_VREF_STAT_ON 0) 1).modPwr fun p => { p with vrefSince := s.tb }
      else s
    let s := links.foldl (fun s x => if s.on (PG_CTRL_EN (0xC8 + x)) then s.linkEnter x 1 else s) s
    if (src = 3 ∨ src = 4) ∧ s.hostState (src - 3) ≠ 0 then
      let r := s.wakeResp (src - 3)
      let s := s.inc (HOST_RESP_CNT_BUSY_CNT (src - 3))
      (s.modHs (src - 3) fun h => { h with frame := none, resp := some r, hello := none, brk := false }).hostTo (src - 3) 4
    else s
  | _ => s

/-! ### The frame boundary (R50, R54, R55, R267, R319, R459) -/

/-- The Sepia slices take their checkpoints and start new logs; those of tiles that act no more keep theirs. -/
def State.sepiaFrame (s : State) : State :=
  s.modMaint fun m => { m with
    log := m.log.filter fun e => s.dead (24 * e.1), lost := m.lost.filter s.dead }

/-- A new budget frame starts. -/
def State.frameStart (s : State) : State :=
  if s.tb / 8000 = s.pwr.frame then s
  else
    let s := s.modPwr fun p => { p with frame := s.tb / 8000 }
    let s := s.latchFrame.sepiaFrame
    if State.core 3 s then s.budgetFrame.armFrame else s

/-! ### The commands -/

/-- TREF_FAIL (R37, R38): criterion 1 to 4. -/
def execTrefFail (t : Nat) (criterion : Fin 5) (s : State) : Out :=
  s.actTb t (State.core 3) fun s => s.trefFail criterion

/-- DL_CAL_DONE (R39). -/
def execDlCalDone (t : Nat) (s : State) : Out := s.act t (State.tbd 3) fun s => s.wr CLK_CLK_STAT_DL_CAL 1

/-- TB_RESTORE (R40). -/
def execTbRestore (t : Nat) (m : Master) (s : State) : Out :=
  s.act t (State.core 3) fun s => s.guardedMask m 1 0x40 1 1 State.tbRestore

/-- TB_RESTORE_SWITCH (R40). -/
def execTbRestoreSwitch (t : Nat) (s : State) : Out := s.actTb t (fun s => State.core 3 s && s.tbOn) State.tbReturn

/-- XIN_LOSS (R41). -/
def execXinLoss (t : Nat) (s : State) : Out := s.act t State.coreOn State.xinLost

/-- LF_LOSS (R41). -/
def execLfLoss (t : Nat) (s : State) : Out := s.act t notHeld State.lfLost

/-- SLEEP_REQUEST (R47): a write of PWR_CTRL. -/
def execSleepRequest (t : Nat) (m : Master) (v : Word) (s : State) : Out :=
  s.act t (State.core 3) fun s => s.guarded m 1 0x50 v.toNat fun s => s.pwrReq (m == 2) v.toNat

/-- DHALT_ENTER (R47, R49): a write of PWR_CTRL, or a request through TCK where SEC.LIFE.FIELD is 0. -/
def execDhaltEnter (t : Nat) (m : Master) (tck : Bool) (v : Word) (s : State) : Out :=
  s.act t (State.core 3) fun s =>
    if tck then s.pwrTck v.toNat
    else s.guarded m 1 0x50 v.toNat fun s => s.pwrReq (m == 2) v.toNat

/-- DHALT_EXIT (R47, R49): a write of PWR_CTRL, or a request through TCK where SEC.LIFE.FIELD is 0. -/
def execDhaltExit (t : Nat) (m : Master) (tck : Bool) (v : Word) (s : State) : Out :=
  s.act t (State.core 3) fun s =>
    if tck then s.pwrTck v.toNat
    else s.guarded m 1 0x50 v.toNat fun s => s.pwrReq (m == 2) v.toNat

/-- LF_MODE_ENTRY (R45, R48). -/
def execLfModeEntry (t : Nat) (s : State) : Out := s.act t notHeld State.lfEnter

/-- LF_MODE_EXIT (R45). -/
def execLfModeExit (t : Nat) (s : State) : Out := s.act t notHeld State.lfExit

/-- LF_STEP (R44, R46, R366). -/
def execLfStep (t : Nat) (s : State) : Out := s.actTb t notHeld State.lfTick

/-- WAKE (R48, R152). -/
def execWake (t : Nat) (w : WakeIn) (s : State) : Out := s.act t notHeld fun s => s.wake (w.src.val + 1) w.held w.mv

/-- WAKE_COMPLETE (R48). -/
def execWakeComplete (t : Nat) (s : State) : Out := s.act t notHeld State.wakeDone

/-- COMMIT (R55). -/
def execCommit (t : Nat) (m : Master) (s : State) : Out :=
  s.act t (State.core 3) fun s => s.guarded m 2 0x40 1 State.budgetCommit

/-- TREF_OK_RISE (R40). -/
def execTrefOkRise (t : Nat) (s : State) : Out := s.act t (State.core 3) State.trefRise

/-- LF_OK_RISE (R41). -/
def execLfOkRise (t : Nat) (s : State) : Out :=
  s.act t notHeld fun s => (s.modPwr fun p => { p with lfLost := false }).wr CLK_CLK_STAT_LF_OK 1

end Sys2Proof.Machine
end

