-- ==== Sys2Proof/Machine/Sha.lean ====
section
/-! DEFINITION. SHA-384 and HMAC over bytes (R475, R480, R484). The hash is that of FIPS 180-4, which R480 names and does not
repeat; its constants are taken from that standard (assumption log 27). -/

namespace Sys2Proof.Machine

/-- The round constants of SHA-384. -/
def shaK : List Nat :=
  [0x428A2F98D728AE22, 0x7137449123EF65CD, 0xB5C0FBCFEC4D3B2F, 0xE9B5DBA58189DBBC,
   0x3956C25BF348B538, 0x59F111F1B605D019, 0x923F82A4AF194F9B, 0xAB1C5ED5DA6D8118] ++
  [0xD807AA98A3030242, 0x12835B0145706FBE, 0x243185BE4EE4B28C, 0x550C7DC3D5FFB4E2,
   0x72BE5D74F27B896F, 0x80DEB1FE3B1696B1, 0x9BDC06A725C71235, 0xC19BF174CF692694] ++
  [0xE49B69C19EF14AD2, 0xEFBE4786384F25E3, 0x0FC19DC68B8CD5B5, 0x240CA1CC77AC9C65,
   0x2DE92C6F592B0275, 0x4A7484AA6EA6E483, 0x5CB0A9DCBD41FBD4, 0x76F988DA831153B5] ++
  [0x983E5152EE66DFAB, 0xA831C66D2DB43210, 0xB00327C898FB213F, 0xBF597FC7BEEF0EE4,
   0xC6E00BF33DA88FC2, 0xD5A79147930AA725, 0x06CA6351E003826F, 0x142929670A0E6E70] ++
  [0x27B70A8546D22FFC, 0x2E1B21385C26C926, 0x4D2C6DFC5AC42AED, 0x53380D139D95B3DF,
   0x650A73548BAF63DE, 0x766A0ABB3C77B2A8, 0x81C2C92E47EDAEE6, 0x92722C851482353B] ++
  [0xA2BFE8A14CF10364, 0xA81A664BBC423001, 0xC24B8B70D0F89791, 0xC76C51A30654BE30,
   0xD192E819D6EF5218, 0xD69906245565A910, 0xF40E35855771202A, 0x106AA07032BBD1B8] ++
  [0x19A4C116B8D2D0C8, 0x1E376C085141AB53, 0x2748774CDF8EEB99, 0x34B0BCB5E19B48A8,
   0x391C0CB3C5C95A63, 0x4ED8AA4AE3418ACB, 0x5B9CCA4F7763E373, 0x682E6FF3D6B2B8A3] ++
  [0x748F82EE5DEFB2FC, 0x78A5636F43172F60, 0x84C87814A1F0AB72, 0x8CC702081A6439EC,
   0x90BEFFFA23631E28, 0xA4506CEBDE82BDE9, 0xBEF9A3F7B2C67915, 0xC67178F2E372532B] ++
  [0xCA273ECEEA26619C, 0xD186B8C721C0C207, 0xEADA7DD6CDE0EB1E, 0xF57D4F7FEE6ED178,
   0x06F067AA72176FBA, 0x0A637DC5A2C898A6, 0x113F9804BEF90DAE, 0x1B710B35131C471B] ++
  [0x28DB77F523047D84, 0x32CAAB7B40C72493, 0x3C9EBE0A15C9BEBC, 0x431D67C49C100D4C,
   0x4CC5D4BECB3E42B6, 0x597F299CFC657E2A, 0x5FCB6FAB3AD6FAEC, 0x6C44198C4A475817]

/-- The initial hash value of SHA-384. -/
def shaH : List Nat :=
  [0xCBBB9D5DC1059ED8, 0x629A292A367CD507, 0x9159015A3070DD17, 0x152FECD8F70E5939,
   0x67332667FFC00B31, 0x8EB44A8768581511, 0xDB0C2E0D64F98FA7, 0x47B5481DBEFA4FA4]

def ror64 (x n : Nat) : Nat := x / 2 ^ n + x % 2 ^ n * 2 ^ (64 - n)

def shaS0 (x : Nat) : Nat := Nat.xor (Nat.xor (ror64 x 28) (ror64 x 34)) (ror64 x 39)
def shaS1 (x : Nat) : Nat := Nat.xor (Nat.xor (ror64 x 14) (ror64 x 18)) (ror64 x 41)
def shaM0 (x : Nat) : Nat := Nat.xor (Nat.xor (ror64 x 1) (ror64 x 8)) (x / 2 ^ 7)
def shaM1 (x : Nat) : Nat := Nat.xor (Nat.xor (ror64 x 19) (ror64 x 61)) (x / 2 ^ 6)

/-- The bytes of a number, most significant first, as a number. -/
def numBE (bs : List Nat) : Nat := bs.foldl (fun n b => n * 256 + b) 0

/-- Lists of `n` elements. -/
def chunks (n : Nat) : Nat → List Nat → List (List Nat)
  | 0, _ => []
  | k + 1, l => if l.isEmpty then [] else l.take n :: chunks n k (l.drop n)

/-- The message schedule, newest word first. -/
def shaSched (k : Nat) (ws : List Nat) : List Nat :=
  (List.range k).foldl
    (fun w _ => ((shaM1 (w.getD 1 0) + w.getD 6 0 + shaM0 (w.getD 14 0) + w.getD 15 0) % 2 ^ 64) :: w) ws

/-- One round on the eight working variables. -/
def shaRound (v : List Nat) (kw : Nat) : List Nat :=
  let g (i : Nat) : Nat := v.getD i 0
  let ch := Nat.xor (Nat.land (g 4) (g 5)) (Nat.land (2 ^ 64 - 1 - g 4) (g 6))
  let maj := Nat.xor (Nat.xor (Nat.land (g 0) (g 1)) (Nat.land (g 0) (g 2))) (Nat.land (g 1) (g 2))
  let t1 := g 7 + shaS1 (g 4) + ch + kw
  [(t1 + shaS0 (g 0) + maj) % 2 ^ 64, g 0, g 1, g 2, (g 3 + t1) % 2 ^ 64, g 4, g 5, g 6]

/-- A block of 128 bytes. -/
def shaBlock (h : List Nat) (blk : List Nat) : List Nat :=
  let w := (shaSched 64 ((chunks 8 16 blk).map numBE).reverse).reverse
  let v := (List.zipWith (· + ·) shaK w).foldl shaRound h
  List.zipWith (fun a b => (a + b) % 2 ^ 64) h v

/-- SHA-384 of bytes: 48 bytes. -/
def sha384 (bs : List Nat) : List Nat :=
  let n := bs.length
  let p := bs ++ 0x80 :: (List.replicate ((239 - n % 128) % 128) 0 ++ bytesBE 16 (8 * n))
  (((chunks 128 (p.length / 128) p).foldl shaBlock shaH).take 6).flatMap (bytesBE 8)

/-- SHA-384 of 32-bit words, each as four bytes, most significant first: 12 words (R475). -/
def shaWords (ws : List Nat) : List Nat := (chunks 4 12 (sha384 (ws.flatMap (bytesBE 4)))).map numBE

/-- HMAC with SHA-384; the key is 48 bytes. -/
def hmac384 (key msg : List Nat) : List Nat :=
  let k := key ++ List.replicate (128 - key.length) 0
  sha384 (k.map (Nat.xor 0x5C) ++ sha384 (k.map (Nat.xor 0x36) ++ msg))

end Sys2Proof.Machine
end

