-- ==== Sys2Proof/Machine/Ecc.lean ====
section
/-! DEFINITION. ECDSA on brainpoolP384r1 with SHA-384 (R480, R484). The curve is that of RFC 5639 and the nonce that of RFC 6979,
which the rules name and do not repeat; their constants and steps are taken from those standards (assumption log 27). -/

namespace Sys2Proof.Machine

/-- The field prime. -/
def ecP : Nat :=
  0x8CB91E82A3386D280F5D6F7E50E641DF152F7109ED5456B412B1DA197FB71123ACD3A729901D1A71874700133107EC53
/-- The coefficient A. -/
def ecA : Nat :=
  0x7BC382C63D8C150C3C72080ACE05AFA0C2BEA28E4FB22787139165EFBA91F90F8AA5814A503AD4EB04A8C7DD22CE2826
/-- The coefficient B. -/
def ecB : Nat :=
  0x04A8C7DD22CE28268B39B55416F0447C2FB77DE107DCD2A62E880EA53EEB62D57CB4390295DBC9943AB78696FA504C11
/-- The base point, x. -/
def ecGx : Nat :=
  0x1D1C64F068CF45FFA2A63A81B7C13F6B8847A3E77EF14FE3DB7FCAFE0CBD10E8E826E03436D646AAEF87B2E247D4AF1E
/-- The base point, y. -/
def ecGy : Nat :=
  0x8ABE1D7520F9C2A45CB1EB8E95CFD55262B70B29FEEC5864E19C054FF99129280E4646217791811142820341263C5315
/-- The order of the base point. -/
def ecN : Nat :=
  0x8CB91E82A3386D280F5D6F7E50E641DF152F7109ED5456B31F166E6CAC0425A7CF3AB6AF6B7FC3103B883202E9046565

/-- `b` to the power `e` modulo `m`, on the `k` low bits of `e`. -/
def powMod (m : Nat) : Nat → Nat → Nat → Nat
  | 0, _, _ => 1
  | k + 1, b, e =>
    let r := powMod m k (b * b % m) (e / 2)
    if e % 2 = 1 then b * r % m else r

/-- The inverse modulo a prime of 384 bits. -/
def invMod (m a : Nat) : Nat := powMod m 384 (a % m) (m - 2)

/-- A point: none is the point at infinity. -/
abbrev Pt := Option (Nat × Nat)

/-- A point x/z², y/z³; with z = 0, the point at infinity. -/
structure Jac where
  x : Nat
  y : Nat
  z : Nat
  deriving DecidableEq, Repr

/-- A difference in the field. -/
def ecSub (a b : Nat) : Nat := (a + (ecP - b)) % ecP

/-- Doubling. -/
def Jac.dbl (q : Jac) : Jac :=
  let y2 := q.y * q.y % ecP
  let z2 := q.z * q.z % ecP
  let c := 4 * q.x * y2 % ecP
  let m := (3 * q.x * q.x + ecA * (z2 * z2 % ecP)) % ecP
  let x := ecSub (m * m % ecP) (2 * c % ecP)
  ⟨x, ecSub (m * ecSub c x % ecP) (8 * y2 * y2 % ecP), 2 * q.y * q.z % ecP⟩

/-- Addition. -/
def Jac.add (p q : Jac) : Jac :=
  if p.z = 0 then q
  else if q.z = 0 then p
  else
    let zp := p.z * p.z % ecP
    let zq := q.z * q.z % ecP
    let u := p.x * zq % ecP
    let v := p.y * (zq * q.z % ecP) % ecP
    let h := ecSub (q.x * zp % ecP) u
    let r := ecSub (q.y * (zp * p.z % ecP) % ecP) v
    if h = 0 then (if r = 0 then p.dbl else ⟨1, 1, 0⟩)
    else
      let h2 := h * h % ecP
      let h3 := h2 * h % ecP
      let uh := u * h2 % ecP
      let x := ecSub (ecSub (r * r % ecP) h3) (2 * uh % ecP)
      ⟨x, ecSub (r * ecSub uh x % ecP) (v * h3 % ecP), h * (p.z * q.z % ecP) % ecP⟩

/-- A multiple of a point, on the `k` low bits of the factor. -/
def Jac.mul : Nat → Nat → Jac → Jac
  | 0, _, _ => ⟨1, 1, 0⟩
  | k + 1, n, q =>
    let r := Jac.mul k (n / 2) q.dbl
    if n % 2 = 1 then q.add r else r

/-- The point itself. -/
def Jac.pt (q : Jac) : Pt :=
  if q.z = 0 then none
  else
    let i := invMod ecP q.z
    let i2 := i * i % ecP
    some (q.x * i2 % ecP, q.y * (i2 * i % ecP) % ecP)

/-- The multiple `n` of the point `x`, `y`. -/
def ecMul (n x y : Nat) : Jac := Jac.mul 384 n ⟨x, y, 1⟩

/-- A valid affine point of the curve (R480). -/
def ptOk (x y : Nat) : Bool := decide (x < ecP) && decide (y < ecP) && y * y % ecP == (x * x * x + ecA * x + ecB) % ecP

/-- The signature `r`, `s` of the hash `z` by the key `x`, `y` verifies (R480). -/
def ecVerify (x y z r s : Nat) : Bool :=
  if ptOk x y && decide (1 ≤ r) && decide (r < ecN) && decide (1 ≤ s) && decide (s < ecN) then
    let w := invMod ecN s
    match ((ecMul (z * w % ecN) ecGx ecGy).add (ecMul (r * w % ecN) x y)).pt with
    | some (px, _) => px % ecN == r
    | none => false
  else false

/-- The signature with the nonce `k`, where it gives one. -/
def ecSignK (d z k : Nat) : Option (Nat × Nat) :=
  if k = 0 ∨ ecN ≤ k then none
  else
    match (ecMul k ecGx ecGy).pt with
    | none => none
    | some (x, _) =>
      let r := x % ecN
      let s := invMod ecN k * (z + r * d) % ecN
      if r = 0 ∨ s = 0 then none else some (r, s)

/-- The first nonce that gives a signature, of those that HMAC yields one after the other. -/
def ecTry (d z : Nat) : Nat → List Nat → List Nat → Nat × Nat
  | 0, _, _ => (0, 0)
  | n + 1, kk, v =>
    let v := hmac384 kk v
    match ecSignK d z (numBE v) with
    | some q => q
    | none =>
      let kk := hmac384 kk (v ++ [0])
      ecTry d z n kk (hmac384 kk v)

/-- The signature of the hash `h` of 48 bytes by the private key `d`, its nonce derived from both (R484). -/
def ecSign (d : Nat) (h : List Nat) : Nat × Nat :=
  let z := numBE h
  let x := bytesBE 48 d ++ bytesBE 48 (z % ecN)
  let v := List.replicate 48 1
  let kk := hmac384 (List.replicate 48 0) (v ++ 0 :: x)
  let v := hmac384 kk v
  let kk := hmac384 kk (v ++ 1 :: x)
  ecTry d z 128 kk (hmac384 kk v)

/-! ### Keys of the part (R479, R483) -/

/-- Word `i` of SEC.ID_PUB: the public key, X then Y. -/
def idPub (i : Nat) : Nat :=
  match (ecMul Config.identityKey ecGx ecGy).pt with
  | some (x, y) => if i < 12 then x / 2 ^ (32 * (11 - i)) % 2 ^ 32 else y / 2 ^ (32 * (23 - i)) % 2 ^ 32
  | none => 0

/-- The words of the Nareipex root key. -/
def rootKey : List Nat := (List.range 24).map fun i => (Config.rootKey i).toNat

/-- Word `i` of SEC.ROOT_HASH. -/
def rootHash (i : Nat) : Nat := (shaWords rootKey).getD i 0

end Sys2Proof.Machine
end

