-- ==== Sys2Proof/Machine/View.lean ====
section
/-! DEFINITION. What a register word reads as (R7, R67 to R70), what a read does, and the wide values' latches (R82, R83). -/

namespace Sys2Proof.Machine

open Reg

/-- The fields of a word as the field store has them. -/
def State.fieldsWord (s : State) (p o : Nat) : Nat :=
  ((fieldsAt p o).getD []).foldl (fun a f => a + s.rd f * 2 ^ f.lo) 0

/-- A word with bits `lo + w - 1` to `lo` shown as `v`. -/
def withBits (x lo w v : Nat) : Nat := putBits x lo w v

/-- PG_CAP (R67, R69 and the pages' chapters). -/
def capWord (k : PageKind) (i : Nat) : Nat :=
  let rst := !([.sys, .clk, .budg, .sec, .flt, .maint, .tb, .out] : List PageKind).contains k
  let frz := !([.sys, .clk, .budg, .sec, .host] : List PageKind).contains k
  let pins := ([.pos, .tile, .gel, .out, .bank, .pio, .link] : List PageKind).contains k
  let wide := ([.pos, .trk, .tile, .tb, .gpt, .casc, .flt] : List PageKind).contains k
  let blk := if k = .pos ∧ i < 4 then (if i % 2 = 0 then 0xF else 0xB) else 0
  b2n rst * 2 ^ 31 + b2n frz * 2 ^ 30 + b2n pins * 2 ^ 29 + b2n wide * 2 ^ 28 + b2n (k == .gpt) * 2 ^ 27 + blk

/-- PG_CAP of page `p`. -/
def pageCap (p : Nat) : Nat :=
  match pageKind p with
  | some (k, i) => capWord k i
  | none => 0

/-- PG_CAP.CAP_RST (R69). -/
def capRst (p : Nat) : Bool := bit (pageCap p) 31

/-- PG_CAP.CAP_FRZ (R70). -/
def capFrz (p : Nat) : Bool := bit (pageCap p) 30

/-- A word of the common header (R67). -/
def State.hdrWord (s : State) (p o : Nat) (k : PageKind) (i : Nat) : Nat :=
  match o with
  | 0x00 => pageType p * 2 ^ 16 + (p - pageType p) * 2 ^ 8 + 1
  | 0x04 => capWord k i
  | 0x0C =>
    let x := putBits (s.fieldsWord p o) 27 5 0
    let x := if k = .pos then putBits x 0 4 (s.posMode i) else x
    let run := s.on (PG_CTRL_EN p) && !s.pageCrimson p && !s.rstBusy p
    x + b2n (s.rstBusy p) * 2 ^ 31 + b2n (s.pageCrimson p) * 2 ^ 30 + b2n (s.pageAmber p) * 2 ^ 29 + b2n run * 2 ^ 28 +
      s.rd (PG_CTRL_FREEZE p) * 2 ^ 27
  | 0x1C => putBit (s.fieldsWord p o) 31 (tget none s.flt.live p).isSome
  | 0x20 =>
    let w := s.fcntWin p
    putBit (putBits (s.fieldsWord p o) 8 8 w.1) 7 w.2
  | _ => s.fieldsWord p o

/-- Word `j` of a record in the collector's windows: MSG_LO, MSG_HI, INFO, TIME_LO, TIME_HI (R448). -/
def recWord (r : Option Rec) (j : Nat) : Nat :=
  match r with
  | none => 0
  | some r =>
    match j with
    | 0 => r.msg.word % 2 ^ 32
    | 1 => r.msg.word / 2 ^ 32
    | 2 => r.info
    | 3 => r.time % 2 ^ 32
    | _ => r.time / 2 ^ 32

/-- The history entry that HIST_SEL names (R450). -/
def State.histSel (s : State) : Option Rec := s.flt.hist[s.rd FLT_HIST_SEL_IDX]?

/-- A word of the FLT page. -/
def State.fltWord (s : State) (m o : Nat) : Nat :=
  if o = 0x44 then putBits (s.fieldsWord 4 o) 0 7 s.flt.queue.length
  else if 0x48 ≤ o ∧ o ≤ 0x58 then recWord s.flt.queue.head? ((o - 0x48) / 4)
  else if 0x60 ≤ o ∧ o ≤ 0x70 then
    recWord (if s.on FLT_FLT_STAT_FE_VALID then some s.flt.fe else none) ((o - 0x60) / 4)
  else if o = 0x7C then recWord s.histSel 0
  else if 0x80 ≤ o ∧ o ≤ 0x8C then
    match tget none s.flt.hLatch m with
    | some l => l.getD ((o - 0x80) / 4) 0
    | none => recWord s.histSel ((o - 0x7C) / 4)
  else if o = 0x9C then s.kcfgWord (s.rd FLT_KCFG_SEL_KIND)
  else s.fieldsWord 4 o

/-- A word of the BUDG page: reserved indexes read 0 (R52, R60). -/
def State.budgWord (s : State) (o : Nat) : Nat :=
  if o = 0x48 then s.tb / 8000 % 2 ^ 32
  else if o = 0x4C then s.tb % 8000
  else if 0x100 ≤ o then
    let n := (o - 0x100) / 8
    if n < 48 ∧ 11 ≤ n % 16 then 0 else s.fieldsWord 2 o
  else s.fieldsWord 2 o

/-- A word of the MAINT page. -/
def State.maintWord (s : State) (o : Nat) : Nat :=
  match o with
  | 0x40 => s.tokenStat
  | 0x6C => s.repInfo (s.rd MAINT_REP_SEL_QSEG) (s.rd MAINT_REP_SEL_BANK)
  | 0x64 => putBits (s.fieldsWord 5 o) 16 16 (satN 16 (s.rd MAINT_SCRUB_STAT_PASSES + s.passesDone))
  | 0xA4 => putBits (s.fieldsWord 5 o) 0 5 (min 16 s.maint.mu.length)
  | _ => s.fieldsWord 5 o

/-- A word of a position port. -/
def State.posWord (s : State) (m x o : Nat) : Nat :=
  match o with
  | 0x5C => putBit (s.fieldsWord (0x10 + x) o) 31 ((s.port x).tNewer.contains m)
  | 0x84 => s.speedView x
  | 0x88 =>
    let w := putBits (s.fieldsWord (0x10 + x) o) 16 16 (s.speedAge x)
    if s.posMode x == 5 || s.posMode x == 6 then putBit w 2 false else w
  | 0x8C | 0x90 => if 4 ≤ x then 0 else s.fieldsWord (0x10 + x) o
  | _ => s.fieldsWord (0x10 + x) o

/-- A word of the tracker's page: the local tracker's output and lanes (R428). -/
def State.trkWord (s : State) (m o : Nat) : Nat :=
  let a := s.trk.out
  match o with
  | 0x40 =>
    let x := putBits (putBits (s.fieldsWord 0x18 o) 0 3 a.st) 4 3 a.level
    putBit (putBit x 30 (s.trk.tt.newer.contains m)) 31 (a.b23u || s.cyc360)
  | 0x44 => a.ang % s.angMod (!a.b23u) + b2n a.valid * 2 ^ 24
  | 0x64 => s.trk.p.st % 8 + s.trk.s.st % 8 * 16 + b2n s.crankB * 128
  | 0xC4 => s.tblView
  | _ => s.fieldsWord 0x18 o

/-- A word of the event pipeline's page. -/
def State.evtWord (s : State) (o : Nat) : Nat :=
  if o = 0x48 then putBits (putBits (s.fieldsWord 0x19 o) 22 10 s.evt.slots.length) 12 10 s.evt.pend.length
  else if o = 0x6C then
    let ch := s.rd EVT_CH_SEL_CH
    let own := (s.entryIdx.filter fun i =>
      (s.entry i).valid && (s.entry i).ch == ch && decide ((s.entry i).typ ≤ 1) && decide (ch ≤ 215)).length
    own % 256 * 256 + s.slotsOf ch % 8
  else if 0x80 ≤ o ∧ o < 0xA0 then
    let b := (o - 0x80) / 4
    putBits (s.fieldsWord 0x19 o) 16 10 (s.entryIdx.filter fun i => i / 512 == b && (s.entry i).valid).length
  else s.fieldsWord 0x19 o

/-- A word of a tile's channel window (R257), for the channel that WSEL names. -/
def State.winWord (s : State) (m t o : Nat) : Nat :=
  let c := s.rd (TILE_WSEL_CH t)
  if 24 ≤ c then Config.openRead (pageAddr (0x20 + t) o) c % 2 ^ 32
  else
    let p := 24 * t + c
    let x := s.chan p
    match o with
    | 0x48 => (s.mtShown p).1 % 2 ^ 32
    | 0x4C => (s.mtShown p).1 / 2 ^ 32 % 2 ^ 32
    | 0x50 => (s.maShown p).1 % 2 ^ 24 + b2n (s.maShown p).2 * 2 ^ 24 + b2n (x.maCpl && !x.piped) * 2 ^ 25
    | 0x54 => x.cap0.t % 2 ^ 32
    | 0x58 => x.cap0.t / 2 ^ 32 % 2 ^ 32
    | 0x5C => x.cap0.word
    | 0x60 => x.cap1.t % 2 ^ 32
    | 0x64 => x.cap1.t / 2 ^ 32 % 2 ^ 32
    | 0x68 => x.cap1.word
    | 0x6C => x.srqShown.1 % 2 ^ 32
    | 0x70 => x.srqShown.1 / 2 ^ 32 % 2 ^ 32
    | _ => b2n (x.nw0.newer.contains m) + b2n (x.nw1.newer.contains m) * 2 + b2n (x.nwS.newer.contains m) * 4

/-- TILE_STAT (R257): a tile that serves no logical tile shows an open LTILE. -/
def State.tileStat (s : State) (t : Nat) : Nat :=
  let lt := match s.ltileOf t with
    | some l => l
    | none => Config.openRead (pageAddr (0x20 + t) 0x40) t % 32
  let q := (List.range 4).map fun q => s.engineOf (24 * t + 6 * q) % 4 * 4 ^ q
  putBits (putBit (putBits (s.fieldsWord (0x20 + t) 0x40) 16 5 lt) 8 (lt == 8)) 0 8 q.sum

/-- A word of a tile's page. -/
def State.tileWord (s : State) (m t o : Nat) : Nat :=
  if o = 0x40 then s.tileStat t
  else if 0x48 ≤ o ∧ o ≤ 0x74 then s.winWord m t o
  else if 0x400 ≤ o then s.rd (paramField (24 * t + (o - 0x400) / 0x80) ((o - 0x400) % 0x80 / 4))
  else if 0x100 ≤ o ∧ o < 0x400 then
    let p := 24 * t + (o - 0x100) / 0x20
    match (o - 0x100) % 0x20 with
    | 0x08 => s.chStat p
    | 0x0C => (s.chan p).srqShown.2 % 65536 * 65536 + s.chFlags p
    | _ => s.fieldsWord (0x20 + t) o
  else s.fieldsWord (0x20 + t) o

/-- The item that DBG_SEL names (R256). -/
def State.gelDbg (s : State) (g : Nat) : Nat :=
  let i := s.rd (GEL_DBG_SEL_IDX g)
  let x := s.eng g
  if i < 8 then x.reg i else if i = 8 then x.cc % 256 else if i = 9 then s.pc g else if i = 10 then x.snap % 2 ^ 32 else 0

/-- A word of an engine's page. -/
def State.gelWordAt (s : State) (g o : Nat) : Nat :=
  match o with
  | 0x5C => putBits (s.fieldsWord (0x30 + g) o) 0 5 (s.eng g).cq.length
  | 0x8C => s.gelDbg g
  | _ => s.fieldsWord (0x30 + g) o

/-- A word of the output page: driven levels; a pin at high impedance reads as its board drives it (assumption log 23). -/
def State.outWord (s : State) (o : Nat) : Nat :=
  if 0x50 ≤ o ∧ o < 0x60 then
    ((List.range 32).map fun i =>
      let n := 8 * (o - 0x50) + i
      if (s.pinLevel n).getD (Config.undriven n) then 2 ^ i else 0).sum
  else if o = 0x70 then ((List.range 15).map fun g => if s.softRuns (g + 1) then 2 ^ (g + 1) else 0).sum
  else s.fieldsWord 0x38 o

/-- A word of a converter's page. -/
def State.cbcWord (s : State) (m x o : Nat) : Nat :=
  if o = 0x68 then
    let g := (s.cv x).trimOf (gainOf (s.rd (CBC_CAL_CTRL_SEL x)))
    ofS 16 g.1 + g.2 % 65536 * 65536
  else if 0x200 ≤ o ∧ o < 0x240 then s.resultView x ((o - 0x200) / 4) m
  else if 0x240 ≤ o ∧ o < 0x280 then s.infoView x ((o - 0x240) / 4) m
  else s.fieldsWord (0x60 + x) o

/-- A word of the comparators' page. -/
def State.cmpWord (s : State) (o : Nat) : Nat :=
  if o = 0x48 ∨ o = 0x4C then
    ((List.range (if o = 0x48 then 32 else 16)).map fun i => if s.cmpLvlView (8 * (o - 0x48) + i) then 2 ^ i else 0).sum
  else if 0x100 ≤ o ∧ o % 0x10 = 8 then
    let n := (o - 0x100) / 0x10
    b2n (s.cmpFailed n) * 128 + b2n (s.cmpOwned n) * 64 + b2n (s.cmpTesting n) * 32 + b2n (s.cmpUnresView n) * 16 +
      b2n (s.cmpLatch n) * 8 + b2n (s.cmpLvlView n) * 4 + b2n (s.cmp n).raw * 2 + b2n (s.cmpOn n)
  else if 0x100 ≤ o ∧ s.cmpOwned ((o - 0x100) / 0x10) then
    let n := (o - 0x100) / 0x10
    let w := s.fieldsWord 0x80 o
    match o % 0x10 with
    | 0 => putBits (putBits (putBits (putBits w 29 2 0) 12 8 0) 8 2 (Config.bankHyst (n / 2)).toNat) 6 2 (s.rd (BANK_BANK_CFG_CMP_F (n / 2)))
    | 4 => putBits w 0 10 (s.cmpRef n)
    | _ => w
  else s.fieldsWord 0x80 o

/-- A word of the CMU's page. -/
def State.cmuWord (s : State) (o : Nat) : Nat :=
  match o with
  | 0x44 => s.cmu.closeQ.length % 256 * 65536 + ((List.range 24).filter s.cylOn).length * 256
  | 0x68 =>
    if s.rd CMU_VOL_CTRL_IDX < 1440 then s.volView else Config.openRead (pageAddr 0x88 o) (s.rd CMU_VOL_CTRL_IDX) % 2 ^ 32
  | 0x74 =>
    if s.rd CMU_SBUF_SEL_CYL < 24 then s.sbufView else Config.openRead (pageAddr 0x88 o) (s.rd CMU_SBUF_SEL_CYL) % 2 ^ 32
  | _ => s.fieldsWord 0x88 o

/-- A word of a cylinder context: 0x104 to 0x168 as latched for the master (R341). -/
def State.cylWord (s : State) (m k o : Nat) : Nat :=
  match tget none (s.cyl k).latch m with
  | some l => if 0x104 ≤ o ∧ o ≤ 0x168 then l.getD ((o - 0x104) / 4) 0 else s.fieldsWord (cylPage k) o
  | none => s.fieldsWord (cylPage k) o

/-- A word of the timers' page. -/
def State.gptWord (s : State) (o : Nat) : Nat :=
  if 0x80 ≤ o ∧ o < 0xC0 then
    let c := s.gpPairCnt ((o - 0x80) / 8)
    if o % 8 = 0 then c % 2 ^ 32 else c / 2 ^ 32 % 2 ^ 32
  else if 0x100 ≤ o ∧ o < 0x300 then
    let n := (o - 0x100) / 0x20
    match (o - 0x100) % 0x20 with
    | 0x0C => s.gpCount n % 2 ^ 32
    | 0x14 => putBit (s.fieldsWord 0xB1 o) 0 (s.gpArmed n)
    | 0x1C => s.gpCapqView n % 2 ^ 32
    | _ => s.fieldsWord 0xB1 o
  else s.fieldsWord 0xB1 o

/-- A word of a PIO engine's page. -/
def State.pioWordAt (s : State) (x o : Nat) : Nat :=
  if o = 0x4C then s.pioPins x
  else if 0x100 ≤ o ∧ o < 0x200 ∧ o % 0x20 = 0x18 then s.rxView x ((o - 0x100) / 0x20)
  else s.fieldsWord (pioPage x) o

/-- A word of the cascade's page. -/
def State.cascWord (s : State) (o : Nat) : Nat :=
  match o with
  | 0x48 => putBit (s.fieldsWord 0xCC o) 28 s.eligible
  | 0x4C => s.fStat
  | 0x5C => s.bcnAge
  | 0x70 => s.bqView
  | 0x74 => putBits (s.fieldsWord 0xCC o) 0 4 s.casc.bq.length
  | _ => s.fieldsWord 0xCC o

/-- The word at offset `o` of page `p` as it stands, for master `m`. -/
def State.liveWord (s : State) (m p o : Nat) : Nat :=
  match pageKind p with
  | none => 0
  | some (k, i) =>
    if o < 0x40 then s.hdrWord p o k i
    else
      match k with
      | .clk => if o = 0x48 then (if s.tb < 400000 then 0 else Config.trefDev (s.tb / 400000) % 2 ^ 16) else s.fieldsWord p o
      | .budg => s.budgWord o
      | .flt => s.fltWord m o
      | .maint => s.maintWord o
      | .router => if o = 0x80 ∨ o = 0x84 then s.destLvlView ((o - 0x80) / 4) else s.fieldsWord p o
      | .host => if o = 0x50 then s.vecView i else s.fieldsWord p o
      | .pos => s.posWord m i o
      | .trk => s.trkWord m o
      | .evt => s.evtWord o
      | .tile => s.tileWord m i o
      | .gel => s.gelWordAt i o
      | .out => s.outWord o
      | .cbc => s.cbcWord m i o
      | .cmp => s.cmpWord o
      | .cmu => s.cmuWord o
      | .cyl => s.cylWord m i o
      | .tb => if o = 0x40 then s.tb % 2 ^ 32 else if o = 0x44 then s.tb / 2 ^ 32 % 2 ^ 32 else s.fieldsWord p o
      | .gpt => s.gptWord o
      | .dma => if o = 0x44 then putBits (s.fieldsWord p o) 0 6 s.dmaBusyN else s.fieldsWord p o
      | .pio => s.pioWordAt i o
      | .casc => s.cascWord o
      | .sec => if 0x140 ≤ o ∧ o < 0x1A0 then idPub ((o - 0x140) / 4) else if 0x300 ≤ o ∧ o < 0x330 then rootHash ((o - 0x300) / 4) else s.fieldsWord p o
      | .sys | .bank | .link => s.fieldsWord p o

/-! ### Freezing (R70) -/

/-- Offsets `a`, `a + d`, …, `n` of them. -/
def offs (a d n : Nat) : List Nat := (List.range n).map fun i => a + d * i

/-- The words that hold while a page of a kind is frozen, all their bits (R70, R153, R189, R222, R257 and the pages' rules). -/
def freezeWords (k : PageKind) : List Nat :=
  match k with
  | .pos => [0x50, 0x5C, 0x60, 0x64, 0x84, 0x88, 0x90, 0xA0, 0xAC, 0xB0]
  | .trk => [0x40, 0x44, 0x48, 0x4C, 0x50, 0x54, 0x58, 0x5C, 0x60, 0x64, 0x70, 0xB8]
  | .evt => [0x48, 0x4C, 0x64, 0x6C] ++ offs 0x80 4 8
  | .tile => [0x40] ++ offs 0x48 4 12 ++ offs 0x108 0x20 24 ++ offs 0x10C 0x20 24
  | .gel => [0x44]
  | .out => [0x44, 0x50, 0x54, 0x58, 0x5C, 0x70]
  | .bank => [0x4C, 0x9C, 0xBC]
  | .cbc => [0x48, 0x5C, 0x64, 0x68, 0xF4, 0xFC] ++ offs 0x200 4 16 ++ offs 0x240 4 16
  | .cmp => [0x40, 0x44, 0x48, 0x4C, 0x54, 0x60, 0x64] ++ offs 0x108 0x10 48
  | .cmu => [0x44, 0x4C, 0x6C, 0x7C]
  | .cyl => offs 0x100 4 26
  | .tb => [0x48, 0x54]
  | .gpt => offs 0x80 4 16 ++ offs 0x10C 0x20 16 ++ offs 0x118 0x20 16
  | .router => offs 0x40 4 8 ++ [0x80, 0x84]
  | .dma => [0x44] ++ offs 0x11C 0x20 32
  | .pio => [0x44, 0x4C] ++ offs 0x108 0x20 8
  | .link => [0x44, 0x48]
  | .casc => [0x48, 0x4C, 0x58, 0x5C, 0x68, 0x74]
  | .flt => [0x44] ++ offs 0x48 4 5 ++ offs 0x60 4 5 ++ offs 0x7C 4 5
  | .maint => [0x40, 0x48, 0x4C, 0x54, 0x58, 0x64, 0x6C] ++ offs 0x80 4 7
  | .sys | .clk | .budg | .sec | .host => []

/-- The words of counters, and the status words that the pages' lists do not name, which hold as well (R70); queues that a read takes
from are not among them. -/
def freezeCounters (k : PageKind) : List Nat :=
  0x24 ::
  match k with
  | .pos => [0x68, 0x6C, 0x74, 0xA4, 0xB4]
  | .trk => [0x68, 0x6C, 0xC8]
  | .evt => [0x50, 0x54, 0x58, 0x5C, 0x60]
  | .tile => offs 0x114 0x20 24 ++ offs 0x118 0x20 24
  | .gel => [0x50, 0x54, 0x58, 0x60, 0x64, 0x68]
  | .out => [0x74]
  | .bank => [0x50, 0x54, 0x58]
  | .cbc => [0x54, 0x58]
  | .cmu => [0x80, 0x84]
  | .cyl => [0x168]
  | .gpt => offs 0x11C 0x20 16
  | .router => [0x74]
  | .dma => [0x4C]
  | .pio => [0x48] ++ offs 0x10C 0x20 8 ++ offs 0x110 0x20 8
  | .link => [0x4C, 0x50, 0x54]
  | .casc => [0x60, 0x64]
  | .flt => [0x90, 0x94]
  | .maint => [0x70, 0xA4]
  | .cmp | .tb | .sys | .clk | .budg | .sec | .host => []

/-- The words of which only some bits hold: CQ_STAT.LEVEL (R256), CHOP_STAT.LAST_PER (R285), CMP_MODE.ARMED (R367), CMP_AUX.SETS
(R70). -/
def freezeParts (k : PageKind) : List (Nat × Nat) :=
  match k with
  | .gel => [(0x5C, 0x1F)]
  | .bank => [(0x5C, 0xFFFF)]
  | .gpt => (offs 0x114 0x20 16).map fun o => (o, 1)
  | .cmp => (offs 0x10C 0x10 48).map fun o => (o, 0xFFFF0000)
  | _ => []

/-- What FREEZE holds, for every master: words that depend on the master are kept apart from master 0's. -/
def State.snapshot (s : State) (p : Nat) : List (Nat × Nat) :=
  match pageKind p with
  | none => []
  | some (k, _) =>
    let os := (freezeWords k ++ freezeCounters k ++ (freezeParts k).map (·.1)).filter fun o => (fieldsAt p o).isSome
    os.flatMap fun o =>
      let v := s.liveWord 0 p o
      (o, v) :: ((List.range 11).filter fun m => s.liveWord m p o != v).map fun m => (m * 4096 + o, s.liveWord m p o)

/-- FREEZE takes effect or ends. -/
def State.freeze (s : State) (p : Nat) (on : Bool) : State :=
  if !capFrz p || s.on (PG_CTRL_FREEZE p) == on then s
  else
    let l := if on then s.snapshot p else []
    ({ s with acc := { s.acc with frozen := tput [] s.acc.frozen p l } } : State).wr (PG_CTRL_FREEZE p) (b2n on)

/-- The word as a read shows it: as held, where the page is frozen. -/
def State.shown (s : State) (m p o : Nat) : Nat :=
  let l := tget [] s.acc.frozen p
  let held := match l.find? fun (e : Nat × Nat) => e.1 == m * 4096 + o with
    | some e => some e.2
    | none => (l.find? fun (e : Nat × Nat) => e.1 == o).map fun (e : Nat × Nat) => e.2
  match held with
  | none => s.liveWord m p o
  | some v =>
    let mk := match pageKind p with
      | some (k, _) => ((freezeParts k).find? fun (e : Nat × Nat) => e.1 == o).map fun (e : Nat × Nat) => e.2
      | none => none
    match mk with
    | none => v
    | some mk => let w := s.liveWord m p o; w - Nat.land w mk + Nat.land v mk

/-! ### What a read does (R7, R82) -/

/-- The RC fields of a word return to their reset values. -/
def State.rcClear (s : State) (p o : Nat) : State :=
  ((fieldsAt p o).getD []).foldl (fun s f => if f.ty == .rc then s.wr f f.rst else s) s

/-- The effects of a read beside RC fields and the wide latches, on a page that is not frozen. -/
def State.readAct (s : State) (m p o : Nat) : State :=
  match pageKind p with
  | some (.pos, x) => if o = 0x60 then s.readLastT x m else s
  | some (.trk, _) => if o = 0x4C then s.modTrk fun t => { t with tt := t.tt.latch m } else s
  | some (.tile, t) =>
    let c := s.rd (TILE_WSEL_CH t)
    let q := 24 * t + c
    let x := s.chan q
    if 24 ≤ c then s
    else if o = 0x54 then s.setChan q { x with nw0 := x.nw0.latch m }
    else if o = 0x60 then s.setChan q { x with nw1 := x.nw1.latch m }
    else if o = 0x6C then s.setChan q { x with nwS := x.nwS.latch m }
    else s
  | some (.cbc, x) =>
    if 0x200 ≤ o ∧ o < 0x240 then s.resultTake x ((o - 0x200) / 4) m
    else if 0x240 ≤ o ∧ o < 0x280 then s.infoTake x ((o - 0x240) / 4) m
    else s
  | _ => s

/-- The effects of a read that a frozen page has too. -/
def State.readStep (s : State) (m p o : Nat) : State :=
  match pageKind p with
  | some (.trk, _) => if o = 0xC4 then s.tblStep else s
  | some (.cmu, _) => if o = 0x68 then s.volStep else if o = 0x74 then s.sbufStep else s
  | some (.cyl, k) => if o = 0x100 then s.cylLatch k m else s
  | some (.gpt, _) => if 0x100 ≤ o ∧ o < 0x300 ∧ o % 0x20 = 0x1C then s.gpCapqPop ((o - 0x100) / 0x20) else s
  | some (.pio, x) => if 0x100 ≤ o ∧ o < 0x200 ∧ o % 0x20 = 0x18 then s.rxPop x ((o - 0x100) / 0x20) else s
  | some (.casc, _) => if o = 0x70 then s.bqPop else s
  | some (.flt, _) =>
    if o = 0x7C then
      let l := [recWord s.histSel 1, recWord s.histSel 2, recWord s.histSel 3, recWord s.histSel 4]
      s.modFlt fun f => { f with hLatch := tput none f.hLatch m (some l) }
    else s
  | _ => s

/-- The history's words have a latch of their own (R450). -/
def ownLatch (p o : Nat) : Bool := p == 4 && decide (0x7C ≤ o) && decide (o ≤ 0x8C)

/-- A read of a register by a master: the word it returns, and what it does. -/
def State.readReg (s : State) (m p o : Nat) : Nat × State :=
  let v := s.shown m p o
  let act (s : State) : State :=
    let s := if s.on (PG_CTRL_FREEZE p) then s else (s.rcClear p o).readAct m p o
    s.readStep m p o
  match (if ownLatch p o then none else wideOf p o) with
  | none => (v, act s)
  | some lo =>
    if lo = o then (v, (act s).latchHi m p lo (s.shown m p (lo + 4)))
    else
      match s.takeLatch m p lo with
      | (some h, s) => (h, act s)
      | (none, s) => (v, act s)

end Sys2Proof.Machine
end

