-- ==== Sys2Proof/Machine/Bus.lean ====
section
/-! DEFINITION. What a register write does, block by block, and accesses through the interconnect (R61 to R86). -/

namespace Sys2Proof.Machine

open Reg

/-- A page that does not answer: its unit reset runs (R85), or its domain is held in reset (assumption log 26). -/
def State.pageDown (s : State) (p : Nat) : Bool := s.rstBusy p || !s.domOn (domOf p)

/-! ### The page header (R67) -/

/-- PG_CTRL.EN := 1: the block starts, or refuses. -/
def State.pageStart (s : State) (p : Nat) : State :=
  match pageKind p with
  | some (.pos, x) => s.posEnable x
  | some (.trk, _) => s.trkStart
  | some (.evt, _) => (s.wr (PG_CTRL_EN p) 1).evtStart_
  | some (.gel, g) => s.gelEnable g
  | some (.bank, k) => s.bankEnable k
  | some (.cbc, x) => s.cvEnable x
  | some (.cyl, k) => s.cylEnable k
  | some (.pio, x) => s.pioStart x
  | some (.link, x) => s.linkStart x
  | some (.casc, _) => s.cascStart
  | _ => s

/-- A unit reset begins (R85 steps 1 and 2), or is refused (R86). -/
def State.softRst (s : State) (m p key : Nat) : State :=
  let tile := decide (0x20 ≤ p) && decide (p ≤ 0x28) && s.inService (p - 0x20)
  if key ≠ 0xB6 ∨ !capRst p ∨ tile ∨ s.pkgCrimson then s.refuse m (pageAddr p 8) true 7
  else
    let s := s.unitEnd p
    { s with acc := { s.acc with rstBusy := p :: s.acc.rstBusy } }

/-- A write of PG_CTRL. -/
def State.pgCtrl (s : State) (m p v mk : Nat) : State :=
  let x := Nat.land v mk
  let put (s : State) (b : Bool) : State :=
    if 0x30 ≤ p ∧ p ≤ 0x33 then s.debugSafe (p - 0x30) b else s.wr (PG_CTRL_DEBUG_SAFE p) (b2n b)
  let s := if bit x 3 then put s true else if bit mk 3 && m == 2 then put s false else s
  let s := if bit mk 2 then s.freeze p (bit v 2) else s
  let s :=
    if !bit mk 0 || enReset p == 1 then s
    else if bit v 0 then (if s.on (PG_CTRL_EN p) then s else s.pageStart p)
    else if s.on (PG_CTRL_EN p) then s.pageEnd p else s
  if bit x 8 then s.softRst m p (bits x 24 8) else s

/-- A write of 1 to PG_FAULT.VALID (R71). -/
def State.pgFaultClear (s : State) (p : Nat) : State :=
  if s.clearable (PG_FAULT_VALID p) 1 = 0 then s
  else
    let s := (((((s.wr (PG_FAULT_VALID p) 0).wr (PG_FAULT_OVF p) 0).wr (PG_FAULT_SEV p) 0).wr (PG_FAULT_KIND p) 0).wr
      (PG_FAULT_DETAIL p) 0)
    match tget none s.flt.live p with
    | some m => s.pgFault p m
    | none => s

/-- A write of PG_ACLK.LOCK = 1 (R78). -/
def State.pageLock (s : State) (m p : Nat) : State :=
  if s.on (PG_ACLK_LOCK p) then s else (s.wr (PG_ACLK_LOCK p) 1).wr (PG_ACLK_BY p) m

/-- A write of a word of the header. -/
def State.hdrWrite (s : State) (m p o v mk : Nat) : State :=
  match o with
  | 0x08 => s.pgCtrl m p v mk
  | 0x1C => if bit (Nat.land v mk) 30 then s.pgFaultClear p else s
  | 0x2C => if bit (Nat.land v mk) 0 then s.pageLock m p else s
  | _ => s.plainWrite p o v mk

/-! ### The blocks -/

/-- A register write on the SYS page: clearing ACC_ERR.VALID clears MORE (R81). -/
def State.sysWrite (s : State) (o v mk : Nat) : State :=
  if o = 0x44 then (if bit (Nat.land v mk) 31 ∧ s.clearable SYS_ACC_ERR_VALID 1 = 1 then (s.wr SYS_ACC_ERR_VALID 0).wr SYS_ACC_ERR_MORE 0 else s)
  else s.plainWrite 0 o v mk

/-- A register write on the CLK page (R40, R47). -/
def State.clkWrite (s : State) (m o v mk : Nat) : State :=
  if o = 0x50 then s.pwrReq (m == 2) (Nat.land v mk)
  else
    let s := s.plainWrite 1 o v mk
    if o = 0x40 ∧ bit (Nat.land v mk) 0 then s.tbRestore else s

/-- A register write on the BUDG page (R55, R60): reserved indexes ignore writes. -/
def State.budgWrite (s : State) (o v mk : Nat) : State :=
  if o = 0x40 then (if bit (Nat.land v mk) 0 then s.budgetCommit else s)
  else if 0x100 ≤ o ∧ (o - 0x100) / 8 < 48 ∧ 11 ≤ (o - 0x100) / 8 % 16 then s
  else s.plainWrite 2 o v mk

/-- A register write on the FLT page (R448, R449, R469). -/
def State.fltWrite (s : State) (o v mk : Nat) : State :=
  let x := Nat.land v mk
  match o with
  | 0x44 => if bit x 31 then s.feClear else s
  | 0x5C => if bit x 0 then s.qPop else s
  | 0x9C => s.kcfgWrite v mk
  | 0xA4 => if bit x 31 then s.inject x else s
  | _ => s.plainWrite 4 o v mk

/-- A register write on the MAINT page (R465, R470). -/
def State.maintWrite (s : State) (o v mk : Nat) : State :=
  if o = 0x44 then
    let x := Nat.land v mk
    let s := if bit x 31 then s.actReq (bits x 24 4) (bits x 0 12) else s
    if bit x 30 then s.actAbort (bits x 24 4) (bits x 0 12) else s
  else if o = 0x50 then (s.plainWrite 5 o v mk).autoMigrate
  else if o = 0x60 then s.scrubCfg v mk
  else s.plainWrite 5 o v mk

/-- A register write on the ROUTER page (R369, R372). -/
def State.routerWrite (s : State) (o v mk : Nat) : State :=
  if o = 0x70 then s.swTrig (Nat.land v mk)
  else if 0x100 ≤ o ∧ o < 0x200 then s.destCfg ((o - 0x100) / 4) (mergeWord (s.fieldsWord 6 o) v mk)
  else s.plainWrite 6 o v mk

/-- A register write on a host page (R106, R111, R116, R118, R119). -/
def State.hostWrite (s : State) (x o v mk : Nat) : State :=
  if o = 0x40 then
    let s := s.plainWrite (8 + x) o v mk
    if bits mk 16 16 = 0 then s else s.modHs x fun h => { h with heard := s.tb }
  else if 0x60 ≤ o ∧ o < 0x80 then (s.plainWrite (8 + x) o v mk).attnFrom s x ((o - 0x60) / 4)
  else if 0x80 ≤ o ∧ o < 0xA0 then s.ipendClear x ((o - 0x80) / 4) (Nat.land v mk)
  else if 0x100 ≤ o ∧ o % 0x10 = 0 then s.mbqCfg x ((o - 0x100) / 0x10) v mk
  else if 0x100 ≤ o ∧ o % 0x10 = 0xC then (if bit (Nat.land v mk) 0 then s.mbqRelease x ((o - 0x100) / 0x10) else s)
  else s.plainWrite (8 + x) o v mk

/-- A register write on a position port's page. The level of A as an SSI read starts is a free value here: the write does not
say it (assumption log 3). -/
def State.posWrite (s : State) (x o v mk : Nat) : State :=
  if o = 0x48 then
    let w := Nat.land v mk
    let s := if bit w 0 then s.posLoad x else s
    if bit w 1 then
      let (f, s) := s.free
      s.ssiStart x (f % 2 == 1)
    else s
  else s.plainWrite (0x10 + x) o v (capable (0x10 + x) o mk)

/-- A register write on the tracker's page (R179, R184, R185). -/
def State.trkWrite (s : State) (o v mk : Nat) : State :=
  let x := Nat.land v mk
  match o with
  | 0xA8 =>
    let s := s.plainWrite 0x18 o v mk
    if bit x 1 then s.selReq (s.on TRK_LANE_CTRL_SEL_LANE) else s
  | 0xB0 =>
    let s := s.plainWrite 0x18 o v mk
    let s := if bit x 31 then s.learnReq else s
    if bit x 30 then s.learnStop 6 else s.learnHold
  | 0xB4 => (s.plainWrite 0x18 o v mk).learnHold
  | 0xC0 =>
    let s := s.plainWrite 0x18 o v mk
    if bit x 31 then s.tblCommit else s
  | 0xC4 => s.tblWrite (mergeWord s.tblView v mk % 65536)
  | _ => s.plainWrite 0x18 o v mk

/-- A register write on the event pipeline's page (R192, R196, R218). -/
def State.evtPageWrite (s : State) (o v mk : Nat) : State :=
  match o with
  | 0x44 =>
    if !bit mk 0 then s
    else if bit v 0 then (s.wr EVT_CTRL_RUN 1).evtStart_ else (s.wr EVT_CTRL_RUN 0).evtStop
  | 0x4C => if mk = 0 then s else s.swPut EVT_CYC_CNT_COUNT (mergeWord (s.rd EVT_CYC_CNT_COUNT) v mk % 2 ^ 19 % 360360)
  | 0x60 => if bit (Nat.land v mk) 31 ∧ s.clearable EVT_CMT_ERR_VALID 1 = 1 then (s.wr EVT_CMT_ERR_VALID 0).wr EVT_CMT_ERR_MORE 0 else s
  | _ => s.plainWrite 0x19 o v mk

/-- A write of CH_CTRL (R234, R236). -/
def State.chCtrl (s : State) (p v mk : Nat) : State :=
  let x := Nat.land v mk
  let s :=
    if !bit mk 0 then s
    else if bit v 0 then s.chEnable p
    else s.chDisable p
  if bit x 1 then s.srqEvent p s.tb (bits x 16 16) else s

/-- A write on a tile's page. -/
def State.tileWrite (s : State) (t o v mk : Nat) : State :=
  if 0x400 ≤ o then
    let p := 24 * t + (o - 0x400) / 0x80
    let n := (o - 0x400) % 0x80 / 4
    s.paramWrite p { word := n, v := v, mask := mk }
  else if 0x100 ≤ o ∧ (o - 0x100) % 0x20 = 4 then s.chCtrl (24 * t + (o - 0x100) / 0x20) v mk
  else s.plainWrite (0x20 + t) o v mk

/-- A write of DBG_DATA, which takes effect only while HALTED (R256). -/
def State.gelDbgWrite (s : State) (g v : Nat) : State :=
  let i := s.rd (GEL_DBG_SEL_IDX g)
  if s.rd (GEL_GEL_STAT_STATE g) ≠ 3 then s
  else if i < 8 then s.modEng g fun x => x.setReg i v
  else if i = 8 then s.modEng g fun x => { x with cc := v % 256 }
  else if i = 9 then s.setPc g v
  else if i = 10 then s.modEng g fun x => { x with snap := v % 2 ^ 32 }
  else s

/-- A register write on an engine's page (R255, R256). -/
def State.gelWrite (s : State) (g o v mk : Nat) : State :=
  match o with
  | 0x40 =>
    let s := s.writeField (GEL_GEL_CTRL_BRK_EN g) v mk
    let s := if !bit mk 0 then s else if bit v 0 then s.gelHalt g else s.gelResume g
    if bit (Nat.land v mk) 1 then s.gelStep g else s
  | 0x8C => s.gelDbgWrite g (mergeWord (s.gelDbg g) v mk)
  | _ => s.plainWrite (0x30 + g) o v mk

/-- A register write on the output page (R267). -/
def State.outWrite (s : State) (o v mk : Nat) : State :=
  if o = 0x40 then
    let x := Nat.land v mk
    let s := if bit x 0 then s.armReq (bits x 24 8) else s
    if bit x 1 then s.disarm else s
  else s.plainWrite 0x38 o v mk

/-- A write of MAINS_CFG (R290): a detector that is off shows no mains, and PERIOD follows NOM while none is present. -/
def State.mainsCfg (s : State) (v mk : Nat) : State :=
  let was := s.on (CBC_MAINS_CFG_EN 0)
  let s := s.plainWrite 0x60 0xF8 v mk
  let now := s.on (CBC_MAINS_CFG_EN 0)
  let s := if was == now then s else { s with mains := {} }
  if !now || !s.on (CBC_MAINS_STAT_PRESENT 0) then s.mainsNone else s

/-- A register write on a converter's page (R289 to R293, R308). -/
def State.cbcWrite (s : State) (x o v mk : Nat) : State :=
  let w := Nat.land v mk
  match o with
  | 0x44 =>
    let s := s.plainWrite (0x60 + x) o v mk
    if !cvLive x s then s
    else
      let e := s.rd (CBC_CONV_CTRL_ENTRY x)
      let s := if bit w 2 then s.cvAbort x 2 else s
      let s := if bit w 0 then s.cvStart x s.tb 4 e none else s
      if bit w 1 then s.cvUrgent x e else s
  | 0x60 =>
    let s := s.plainWrite (0x60 + x) o v mk
    let s := if bit w 31 then s.calAsk x else s
    if bit w 30 then s.calStop x else s
  | 0xF0 => if bit mk 0 then s.vrefEn (bit v 0) else s
  | 0xF8 => s.mainsCfg v mk
  | _ => s.plainWrite (0x60 + x) o v mk

/-- A register write on the comparators' page (R315, R317, R322). Whether an input stands in its band as its comparator starts is
a free value here (assumption log 3). -/
def State.cmpWrite (s : State) (o v mk : Nat) : State :=
  let w := Nat.land v mk
  if o = 0x50 then
    let s := s.plainWrite 0x80 o v mk
    let s := if bit w 31 then s.cmpTestAsk else s
    if bit w 30 then s.cmpTestStop else s
  else if 0x100 ≤ o ∧ o % 0x10 = 0 then
    let (f, s) := s.free
    s.cmpCfgWrite ((o - 0x100) / 0x10) v mk (f % 2 == 1)
  else if 0x100 ≤ o ∧ o % 0x10 = 4 then s.cmpRefPut ((o - 0x100) / 0x10) v mk
  else s.plainWrite 0x80 o v mk

/-- A register write on the CMU's page (R334, R347). -/
def State.cmuWrite (s : State) (o v mk : Nat) : State :=
  let w := Nat.land v mk
  match o with
  | 0x64 =>
    let s := s.plainWrite 0x88 o v mk
    if bit w 31 then s.volCheck else s
  | 0x68 => s.volWrite (mergeWord s.volView v mk)
  | 0x78 =>
    let s := s.plainWrite 0x88 o v mk
    if bit w 31 then s.rcBegin (s.rd CMU_RC_CTRL_CYL) else s
  | _ => s.plainWrite 0x88 o v mk

/-- A register write on a cylinder page (R345). -/
def State.cylWrite (s : State) (k o v mk : Nat) : State :=
  match o with
  | 0x6C => s.loopEn k (mergeWord (s.fieldsWord (cylPage k) o) v mk)
  | 0x74 =>
    let s := s.plainWrite (cylPage k) o v mk
    s.wr (CYL_Q_LIM_LIM k) (min 8192 (s.rd (CYL_Q_LIM_LIM k)))
  | 0x7C =>
    let s := s.plainWrite (cylPage k) o v mk
    s.wr (CYL_A_LIM_LIM k) (min 93207 (s.rd (CYL_A_LIM_LIM k)))
  | _ => s.plainWrite (cylPage k) o v mk

/-- A register write on the timers' page (R358 to R365). -/
def State.gptWrite (s : State) (o v mk : Nat) : State :=
  if o = 0x44 then s.gpSnap (Nat.land v mk)
  else if 0x100 ≤ o ∧ o < 0x300 then
    let n := (o - 0x100) / 0x20
    match (o - 0x100) % 0x20 with
    | 0x00 => s.gpCfg n (mergeWord (s.fieldsWord 0xB1 o) v mk)
    | 0x0C => if s.on (GPT_GPT_CFG_EN n) then s else s.gpCountWrite n (mergeWord (s.gpCount n) v mk)
    | 0x10 => s.gpCmpWrite n (mergeWord (s.fieldsWord 0xB1 o) v mk)
    | _ => s.plainWrite 0xB1 o v mk
  else s.plainWrite 0xB1 o v mk

/-- A register write on the DMA page (R80, R383, R386). -/
def State.dmaWrite (s : State) (m o v mk : Nat) : State :=
  if o = 0x48 then
    let s := s.plainWrite 0xB8 o v mk
    if bit (Nat.land v mk) 8 then s.dmaFence (s.rd DMA_FENCE_CH) else s
  else if 0x100 ≤ o then
    let c := (o - 0x100) / 0x20
    match (o - 0x100) % 0x20 with
    | 0x00 => (s.wr (DMA_CH_STAT_OWNER c) m).plainWrite 0xB8 o v mk
    | 0x18 => s.dmaCtrl c (Nat.land v mk)
    | _ => s.plainWrite 0xB8 o v mk
  else s.plainWrite 0xB8 o v mk

/-- A register write on a PIO engine's page (R400, R407). -/
def State.pioWrite (s : State) (x o v mk : Nat) : State :=
  if 0x400 ≤ o then s.progWrite x ((o - 0x400) / 4) v mk
  else if 0x100 ≤ o then
    let i := (o - 0x100) / 0x20
    match (o - 0x100) % 0x20 with
    | 0x00 => s.slCfg x i v mk
    | 0x14 => s.txWrite x i (Nat.land v mk)
    | 0x1C => s.slPost x i v mk
    | _ => s.plainWrite (pioPage x) o v mk
  else s.plainWrite (pioPage x) o v mk

/-- What a block does with a write of one of its words, those of wide values apart (R84). -/
def State.blockWrite (s : State) (m p o v mk : Nat) : State :=
  match pageKind p with
  | none => s
  | some (k, i) =>
    match k with
    | .sys => s.sysWrite o v mk
    | .clk => s.clkWrite m o v mk
    | .budg => s.budgWrite o v mk
    | .flt => s.fltWrite o v mk
    | .maint => s.maintWrite o v mk
    | .router => s.routerWrite o v mk
    | .host => s.hostWrite i o v mk
    | .pos => s.posWrite i o v mk
    | .trk => s.trkWrite o v mk
    | .evt => s.evtPageWrite o v mk
    | .tile => s.tileWrite i o v mk
    | .gel => s.gelWrite i o v mk
    | .out => s.outWrite o v mk
    | .cbc => s.cbcWrite i o v mk
    | .cmp => s.cmpWrite o v mk
    | .cmu => s.cmuWrite o v mk
    | .cyl => s.cylWrite i o v mk
    | .gpt => s.gptWrite o v mk
    | .dma => s.dmaWrite m o v mk
    | .pio => s.pioWrite i o v mk
    | .casc => (s.plainWrite p o v mk).dupEval
    | .sec | .bank | .tb | .link => s.plainWrite p o v mk

/-- The low halves of the wide values that can be written: the alarm and the pair compares (R355, R362). -/
def wideRw (p o : Nat) : Bool := (p == 0xB0 && o == 0x4C) || (p == 0xB1 && decide (0x300 ≤ o) && decide (o < 0x340) && o % 8 == 0)

/-- A write of the low half of a wide value commits both halves (R84). -/
def State.wideCommit (s : State) (m p lo v : Nat) : State :=
  if p = 0xB0 then s.alarmArm m v
  else
    let i := (lo - 0x300) / 8
    let (hi, s) := s.takeHi m p lo
    s.gpPairWrite i v (hi.getD (s.rd (GPT_PAIR_CMP_HI_CMP i)))

/-- A register write that has passed the checks: `v` through the mask `mk`. -/
def State.writeReg (s : State) (m p o v mk : Nat) : State :=
  if o < 0x40 then s.hdrWrite m p o v mk
  else if wideRw p o then s.wideCommit m p o (mergeWord (s.fieldsWord p o) v mk)
  else if 4 ≤ o ∧ wideRw p (o - 4) then s.holdHi m p (o - 4) (mergeWord (s.fieldsWord p o) v mk)
  else s.blockWrite m p o v mk

/-! ### Accesses that have passed the checks (R61 to R64) -/

/-- A word written: `v` through the mask `mk` (in mailbox SRAM a whole byte lane at a time). -/
def State.storeWord (s : State) (m a v mk : Nat) : State :=
  match regionOf a with
  | .mbx _ => { s with mem := wrWord s.mem a (mergeWord (rdWord s.mem a) v mk) }
  | .evt e w =>
    let x := mergeWord (rdWord s.mem a) v mk
    if w < 3 then s.evtStage m e w x else s.evtCommit m e x
  | .ucode _ _ h => { s with mem := wrWord s.mem a (mergeWord (rdWord s.mem a) v mk % (if h = 1 then 256 else 2 ^ 32)) }
  | .page p o => (s.touch a).writeReg m p o v mk
  | _ => s

/-- A word read. The contents of the boot ROM are free values (assumption log 3). -/
def State.fetchWord (s : State) (m a : Nat) : Nat × State :=
  match regionOf a with
  | .mbx _ | .evt _ _ | .ucode _ _ _ => (rdWord s.mem a, s)
  | .page p o => s.readReg m p o
  | .rom => let (v, s) := s.free; (v % 2 ^ 32, s)
  | _ => (0, s)

/-! ### Accesses as a master other than a host issues them -/

/-- How an access ends: done, with the word read; answered BUSY; a bus error; not granted in this frame. -/
inductive BusAns where
  | ok (v : Nat) | busy | err | held
  deriving DecidableEq, Repr

/-- The mask of byte enables. -/
def beMask (be : Nat) : Nat :=
  ((List.range 4).map fun i => if bit be i then 255 * 256 ^ i else 0).sum

/-- A page answers BUSY to an access: all but reads of PG_ID, PG_CAP, PG_STAT and PG_FAULT while its unit reset runs (R85). -/
def State.busyAt (s : State) (a : Nat) (write : Bool) : Bool :=
  match regionOf a with
  | .page p o => s.pageDown p && (write || !(isOpenRead o || o == 0x1C))
  | _ => false

/-- The budgets grant one access at `a` to a master (R53); the state counts it, or holds it (R54). -/
def State.spendAt (s : State) (m a : Nat) : Bool × State :=
  match targetOf a with
  | none => (true, s)
  | some t =>
    if s.grantable (16 * t + m) 1 then
      let s := s.useBudget (16 * t + m) 1
      (true, match regionOf a with
        | .page p _ => s.usePage p 1
        | _ => s)
    else
      let s := s.waitBudget (16 * t + m)
      (false, match regionOf a with
        | .page p _ => s.holdPage p
        | _ => s)

/-- The budgets for one access at `a`: already granted, as for the beats of a burst (R384), or granted now. -/
def State.payAt (s : State) (m a : Nat) (paid : Bool) : Bool × State :=
  if paid then
    (true, match regionOf a with
      | .page p _ => s.usePage p 1
      | _ => s)
  else s.spendAt m a

/-- A read through the interconnect. A master without rights reads PG_ID, PG_CAP and PG_STAT as zero (R74). -/
def State.busRead (s : State) (m a : Nat) (paid : Bool := false) : BusAns × State :=
  let c := s.readCode m a
  if c ≠ 0 then (.err, s.refuse m a false c)
  else if s.busyAt a false then (.busy, s)
  else
    match s.payAt m a paid with
    | (false, s) => (.held, s)
    | (true, s) =>
      if s.rightIn (regionOf a) m = 0 ∧ regionOf a ≠ .rom then (.ok 0, s)
      else
        let (v, s) := s.fetchWord m a
        (.ok v, s)

/-- The decision on a write with byte enables: only mailbox SRAM takes them (R62). -/
def State.putCode (s : State) (m a v be : Nat) : Nat :=
  match regionOf a with
  | .mbx _ => s.writeCode m a v 0xFFFFFFFF
  | _ => if be = 15 then s.writeCode m a v 0xFFFFFFFF else 2

/-- A write through the mask `mk` whose decision is `c`. The access that last wrote CH_CFG owns a DMA channel, also where the write
is refused as RWS (R80, R391). -/
def State.busPut (s : State) (m a v mk c : Nat) (paid : Bool) : BusAns × State :=
  if c ≠ 0 then
    let s := match regionOf a with
      | .page p o => if c = 4 ∧ p = 0xB8 ∧ (o - 0x100) % 0x20 = 0 then s.wr (DMA_CH_STAT_OWNER ((o - 0x100) / 0x20)) m else s
      | _ => s
    (.err, s.refuse m a true c)
  else if s.busyAt a true then (.busy, s)
  else
    match s.payAt m a paid with
    | (false, s) => (.held, s)
    | (true, s) => (.ok 0, s.storeWord m a v mk)

/-- A write through the interconnect with byte enables. -/
def State.busWrite (s : State) (m a v be : Nat) (paid : Bool := false) : BusAns × State :=
  s.busPut m a v (beMask be) (s.putCode m a v be) paid

/-- A remote access is decided here and sent (R65, R437). -/
def State.remAsk (s : State) (m a : Nat) (write : Bool) (v : Nat) : Bool × State :=
  let s := s.linkBegin
  match s.remCode m a write with
  | 0 => (true, s.remIssue m write a v)
  | c => (false, s.refuse m a write c)

/-- An address in a remote window. -/
def isRemote (a : Nat) : Bool :=
  match regionOf a with
  | .remote _ _ => true
  | _ => false

/-! ### The commands -/

/-- REGISTER_WRITE (R7, R74). -/
def execRegWrite (t : Nat) (m : Master) (addr v : Word) (s : State) : Out :=
  s.act t (State.core 3) fun s =>
    if isRemote addr.toNat then (s.remAsk m addr.toNat true v.toNat).2 else (s.busWrite m addr.toNat v.toNat 15).2

/-- A write of bits of a register by a command, where the page answers. -/
def State.headWrite (s : State) (m p o v mk : Nat) : State :=
  if s.pageDown p then s else s.guardedMask m p o v mk fun s => s.writeReg m p o v mk

/-- FREEZE_WRITE (R70). -/
def execFreezeWrite (t : Nat) (m : Master) (page : Page) (on : Bool) (s : State) : Out :=
  s.act t (State.core 3) fun s => s.headWrite m page 0x08 (4 * b2n on) 4

/-- PG_FAULT_CLEAR (R71). -/
def execPgFaultClear (t : Nat) (m : Master) (page : Page) (s : State) : Out :=
  s.act t (State.core 3) fun s => s.headWrite m page 0x1C 0x40000000 0x40000000

/-- PAGE_LOCK (R78). -/
def execPageLock (t : Nat) (m : Master) (page : Page) (s : State) : Out :=
  s.act t (State.core 3) fun s => s.headWrite m page 0x2C 1 1

/-- ACCESS_TABLE_WRITE (R79): PG_ACL of a page, or a table of SYS. -/
def execAccessTableWrite (t : Nat) (m : Master) (addr v : Word) (s : State) : Out :=
  s.act t (State.core 3) fun s =>
    match regionOf addr.toNat with
    | .page p o => if isAclReg p o && o != 0x2C then s.headWrite m p o v.toNat 0xFFFFFFFF else s
    | _ => s

/-- WIDE_LOW_READ (R82). -/
def execWideLowRead (t : Nat) (m : Master) (addr : Word) (s : State) : Out :=
  s.act t (State.core 3) fun s =>
    match regionOf addr.toNat with
    | .page p o => if wideOf p o = some o then (s.busRead m addr.toNat).2 else s
    | _ => s

/-- WIDE_HIGH_WRITE (R84). -/
def execWideHighWrite (t : Nat) (m : Master) (addr v : Word) (s : State) : Out :=
  s.act t (State.core 3) fun s =>
    match regionOf addr.toNat with
    | .page p o => if 4 ≤ o ∧ wideRw p (o - 4) then s.headWrite m p o v.toNat 0xFFFFFFFF else s
    | _ => s

/-- WIDE_LOW_WRITE (R84). -/
def execWideLowWrite (t : Nat) (m : Master) (addr v : Word) (s : State) : Out :=
  s.act t (State.core 3) fun s =>
    match regionOf addr.toNat with
    | .page p o => if wideRw p o then s.headWrite m p o v.toNat 0xFFFFFFFF else s
    | _ => s

/-- SOFT_RST (R85, R86): a write of PG_CTRL with SOFT_RST = 1. -/
def execSoftRst (t : Nat) (m : Master) (page : Page) (v : Word) (s : State) : Out :=
  s.act t (State.core 3) fun s => if bit v.toNat 8 then s.headWrite m page 0x08 v.toNat 0xFFFFFFFF else s

/-- UNIT_RESET_COMPLETE (R85 step 3). -/
def execUnitResetComplete (t : Nat) (page : Page) (s : State) : Out :=
  s.act t (fun s => s.coreOn && s.domOn (domOf page)) fun s => if s.rstBusy page then s.unitReset page else s

/-- PAGE_DISABLE (R67): a write of PG_CTRL.EN = 0. -/
def execPageDisable (t : Nat) (m : Master) (page : Page) (s : State) : Out :=
  s.act t (State.core 3) fun s => s.headWrite m page 0x08 0 1

end Sys2Proof.Machine
end

