-- ==== Sys2Proof/Machine/Beat.lean ====
section
/-! DEFINITION. Accesses that blocks make on their own through the interconnect: the DMA engine's bursts (R375, R376, R382 to R387),
an engine's LDM and STM (R248), requests of other devices (R65, R437) and of the maintenance UART (R468). -/

namespace Sys2Proof.Machine

open Reg

/-! ### The grant (R384) -/

/-- The budgets of its OWNER grant every beat of a channel's next burst. -/
def State.dmaFits (s : State) (c : Nat) : Bool := (s.dmaNeeds c).all fun (e : Nat × Nat) => s.grantable e.1 e.2

/-- A channel asks for a burst: it is BUSY with a count left, and its request, where it has one, is active (R382). -/
def State.dmaWants (s : State) (c : Nat) : Bool :=
  s.dmaSt c == 2 && !(s.dmaC c).fin && (s.dmaKind c != 3 || s.dmaReq c)

/-- The channel granted at a priority: round robin above the channel last granted there. -/
def State.dmaPickAt (s : State) (p : Nat) : Option Nat :=
  let l := (tget none s.dma.last p).getD 31
  ((List.range 32).map fun i => (l + 1 + i) % 32).find? fun c => s.rd (DMA_CH_CFG_PRIO c) == p && s.dmaWants c && s.dmaFits c

/-- The channel granted: the highest priority first. -/
def State.dmaPick (s : State) : Option Nat := [3, 2, 1, 0].findSome? s.dmaPickAt

/-! ### Beats (R375, R376, R387) -/

/-- The burst in progress changes. -/
def State.modBurst (s : State) (f : Burst → Burst) : State := { s with dma := { s.dma with burst := s.dma.burst.map f } }

/-- A beat fails in a way that is retried: at the next grant, up to RETRY_MAX times (R387). -/
def State.dmaFail (s : State) (c a : Nat) : State :=
  let data := match s.dma.burst with
    | some b => b.data
    | none => []
  let x := s.dmaC c
  if s.rd DMA_DMA_CFG_RETRY_MAX ≤ x.tries then (s.dmaHalt c 4 0).raise (srcDma c) 0x51 (bits a 2 19)
  else if x.stop then s.dmaHalt c 1 0
  else
    let s := { s with dma := { s.dma with burst := none } }
    s.modDma c fun y => { y with part := (if data.isEmpty then none else some data), tries := y.tries + 1, retry := true }

/-- A word has been read. -/
def State.dmaGot (s : State) (c v : Nat) : State :=
  (s.modBurst fun b => { b with data := b.data ++ [v] }).modDma c fun x => { x with tries := 0 }

/-- What a code of R81 does to the channel. -/
def State.dmaRefused (s : State) (c code : Nat) : State := s.dmaHalt c (if code = 2 then 3 else 2) 0

/-- The words that the burst still lacks are read, as far as they are there. -/
def State.dmaFillN : Nat → State → State
  | 0, s => s
  | k + 1, s =>
    match s.dma.burst with
    | none => s
    | some b =>
      if b.n ≤ b.data.length then s
      else
        let a := s.dmaSrc b.c b.data.length
        let m := s.dmaOwner b.c
        if isRemote a then
          match s.remTake m a false with
          | (none, s) => s
          | (some r, s) =>
            if r.status = 0 then (s.dmaGot b.c r.data).dmaFillN k
            else if r.status ≤ 2 then s.dmaRefused b.c r.status
            else s.dmaFail b.c a
        else
          let code := s.readCode m a
          match s.busRead m a true with
          | (.ok v, s) => (s.dmaGot b.c v).dmaFillN k
          | (.err, s) => s.dmaRefused b.c code
          | (_, s) => s.dmaFail b.c a

def State.dmaFill (s : State) : State := s.dmaFillN 16

/-- Remote accesses of a burst are sent; one that is decided here against it halts the channel. -/
def State.dmaAsk (s : State) (c : Nat) (write : Bool) : List (Nat × Nat) → State
  | [] => s
  | (a, v) :: r =>
    let code := s.linkBegin.remCode (s.dmaOwner c) a write
    match s.remAsk (s.dmaOwner c) a write v with
    | (true, s) => s.dmaAsk c write r
    | (false, s) => s.dmaRefused c code

/-- A burst starts: its beats are granted (R384). It reads its source from the next cycle on: a STOP in the cycle of the grant
leaves it unstarted (R383). -/
def State.dmaBurst (s : State) (c : Nat) : State :=
  let n := s.dmaBeats c
  let s := (s.dmaNeeds c).foldl (fun s (e : Nat × Nat) => s.useBudget e.1 e.2) s
  let x := s.dmaC c
  let s := if x.retry then s.inc DMA_CNT_RETRY else s
  let data := x.part.getD []
  let now := s.tb
  let s := { s with dma := { s.dma with
    burst := some { c := c, n := n, at_ := now, data := data }, last := tput none s.dma.last (s.rd (DMA_CH_CFG_PRIO c)) (some c) } }
  let s := s.modDma c fun x => { x with part := none, retry := false, wait := false }
  if isRemote (s.dmaSrc c 0) then s.dmaAsk c false ((List.range (n - data.length)).map fun i => (s.dmaSrc c (data.length + i), 0))
  else s

/-- After the cycle of its grant, the burst reads its source. -/
def State.dmaSettle (s : State) : State :=
  match s.dma.burst with
  | some b => if b.at_ < s.tb then s.dmaFill else s
  | none => s

/-- The engine grants the next burst; channels passed over count a held request where a target refuses (R54), and are considered
again at the next grant (R384). -/
def State.dmaGrant (s : State) : State :=
  if s.dma.burst.isSome then s
  else
    let pick := s.dmaPick
    let s := ((List.range 32).filter fun c => s.dmaWants c && !s.dmaFits c).foldl
      (fun s c => s.dmaHold c (s.dmaNeeds c)) s
    match pick with
    | some c => s.dmaBurst c
    | none => s

/-! ### The end of a burst (R382, R383) -/

/-- `k` beats are delivered: SRC, DST and COUNT advance (R375). -/
def State.dmaAdvance (s : State) (c k : Nat) : State :=
  if k = 0 then s
  else
    let n := s.dmaBytes c k
    let s := if s.on (DMA_CH_CFG_SRC_INC c) then s.wr (DMA_CH_SRC_ADDR c) ((s.rd (DMA_CH_SRC_ADDR c) + n) % 2 ^ 32) else s
    let s := if s.on (DMA_CH_CFG_DST_INC c) then s.wr (DMA_CH_DST_ADDR c) ((s.rd (DMA_CH_DST_ADDR c) + n) % 2 ^ 32) else s
    let s := s.wr (DMA_CH_COUNT_BYTES c) (s.rd (DMA_CH_COUNT_BYTES c) - n)
    (s.modBurst fun b => { b with n := b.n - k, data := b.data.drop k, sentW := b.sentW - k }).modDma c fun x => { x with tries := 0 }

/-- The request was withdrawn before the last beat was written: its port no longer asks, or its queue has been filled by others
(R382). -/
def State.dmaWithdrawn (s : State) (c : Nat) : Bool :=
  let p := s.rd (DMA_CH_TRIG_SEL c)
  s.dmaKind c == 3 && !s.preq p (if p < 32 then 0 else s.rd (DMA_CH_CFG_BURST c) + 1)

/-- The burst's last beat is written. -/
def State.dmaBurstEnd (s : State) (c : Nat) (late : Bool) : State :=
  let s := { s with dma := { s.dma with burst := none } }
  let s := if late then (s.setBits (DMA_CH_STAT_OVERSHOOT c) 1).inc DMA_CNT_OVERSHOOT else s
  if s.rd (DMA_CH_COUNT_BYTES c) = 0 then s.dmaCountEnd c
  else if (s.dmaC c).stop then s.dmaHalt c 1 0
  else if s.dmaKind c = 3 then s.dmaGo c 1
  else if s.dmaKind c = 0 ∨ s.on (DMA_CH_TRIG_XFER c) then s
  else s.dmaWait c

/-- How writing ended: every beat delivered, refused under a code of R81, failed at an address, or waiting. -/
inductive PutEnd where
  | all | refused (code : Nat) | fail (a : Nat) | wait
  deriving DecidableEq, Repr

/-- The beats of a burst to be written: address, word, byte enables. -/
def State.dmaPlan (s : State) (b : Burst) : List (Nat × Nat × Nat) :=
  (List.range b.n).map fun i => (s.dmaDst b.c i, swapWord (s.rd (DMA_CH_CFG_SWAP b.c)) (b.data.getD i 0), s.dmaBe b.c i)

/-- Beats are written in order: how many are delivered, and how it ended. -/
def State.putBeats (m : Nat) : List (Nat × Nat × Nat) → Nat → State → Nat × PutEnd × State
  | [], k, s => (k, .all, s)
  | (a, v, be) :: r, k, s =>
    if isRemote a then
      match s.remTake m a true with
      | (none, s) => (k, .wait, s)
      | (some e, s) =>
        if e.status = 0 then State.putBeats m r (k + 1) s
        else (k, if e.status ≤ 2 then .refused e.status else .fail a, s)
    else
      let code := s.putCode m a v be
      match s.busWrite m a v be true with
      | (.ok _, s) => State.putBeats m r (k + 1) s
      | (.err, s) => (k, .refused code, s)
      | (_, s) => (k, .fail a, s)

/-- The burst, all read, is written (R375, R383). -/
def State.dmaPut (s : State) (b : Burst) : State :=
  let late := s.dmaWithdrawn b.c
  let plan := s.dmaPlan b
  let s :=
    if isRemote (s.dmaDst b.c 0) ∧ b.sentW = 0 then
      (s.modBurst fun b => { b with sentW := b.n }).dmaAsk b.c true (plan.map fun (e : Nat × Nat × Nat) => (e.1, e.2.1))
    else s
  if s.dma.burst.isNone then s
  else
    match State.putBeats (s.dmaOwner b.c) plan 0 s with
    | (k, e, s) =>
      if s.dma.burst.isNone then s
      else
        let s := s.dmaAdvance b.c k
        match e with
        | .all => s.dmaBurstEnd b.c late
        | .refused code => s.dmaRefused b.c code
        | .fail a => s.dmaFail b.c a
        | .wait => s

/-- The burst's beats are written, once all its words are there. -/
def State.dmaWritten (s : State) : State :=
  let s := s.dmaFill
  match s.dma.burst with
  | some b => if b.n ≤ b.data.length then s.dmaPut b else s
  | none => s

/-- A data beat of the burst fails: an uncorrectable word of the source, whose burst is read again, or a bus error at the target
(R387). -/
def State.dmaBeatError (s : State) (kind : BeatError) : State :=
  let s := s.dmaSettle
  match s.dma.burst with
  | none => s
  | some b =>
    match kind with
    | .ecc =>
      (match targetOf (s.dmaSrc b.c 0) with
       | some 0 | some 2 => (s.modBurst fun b => { b with data := [] }).dmaFail b.c (s.dmaSrc b.c 0)
       | _ => s)
    | .bus => if b.data.length < b.n then s.dmaFail b.c (s.dmaSrc b.c b.data.length) else s.dmaFail b.c (s.dmaDst b.c 0)

/-- The prefetch line buffer fails (R388). -/
def State.dmaPfb (s : State) : State :=
  let s := s.dmaSettle
  let s := (List.range 32).foldl (fun s c => if s.dmaActive c then s.dmaHalt c 5 0 else s) s
  (s.setBits DMA_DMA_STAT_PFB_ERR 1).raise 0xC51 0x52 0

/-! ### LDM and STM (R248) -/

/-- The access ends: the stall is counted, E tells a failure, and LDM takes its word, 0 after a failure. A limit the stall exceeds
ends the thread (R241). -/
def State.gelMemEnd (s : State) (g : Nat) (a : GelMem) (ok : Bool) (v : Nat) : State :=
  let n := s.stalledFor g
  let over_ := s.overLimit g n 0
  let s := s.spend g n 0
  let s := s.modEng g fun x =>
    let x := { x with mem := none }.setFlag 4 (!ok)
    match a.dst with
    | some d => x.setReg d (if ok then v else 0)
    | none => x
  match over_ with
  | some c => if s.rd (GEL_GEL_STAT_STATE g) = 2 then s.threadFault g c false else s
  | none => s

/-- The access of an engine's thread completes, once its answer is there; a request that budgets hold waits on. -/
def State.gelMemDone (s : State) (g : Nat) : State :=
  let m := 4 + g
  match (s.eng g).mem with
  | none => s
  | some a =>
    let write := a.dst.isNone
    if isRemote a.addr then
      match s.remTake m a.addr write with
      | (some r, s) => s.gelMemEnd g a (r.status == 0) r.data
      | (none, s) =>
        if s.casc.rem.any fun r => r.m == m && r.addr == a.addr && r.write == write then s
        else
          match s.remAsk m a.addr write a.val with
          | (true, s) => s
          | (false, s) => s.gelMemEnd g a false 0
    else
      match (if write then s.busWrite m a.addr a.val 15 else s.busRead m a.addr) with
      | (.ok v, s) => s.gelMemEnd g a true v
      | (.held, s) => s
      | (_, s) => s.gelMemEnd g a false 0

/-! ### Requests of other devices (R65, R437) -/

/-- The address that an offset of a remote window stands for (R65); one beyond the windows' map is no address. -/
def windowAddr (o : Nat) : Nat :=
  if o < 0x100000 then 0x40000000 + o
  else if o < 0x140000 then 0x10000000 + (o - 0x100000)
  else if 0x200000 ≤ o ∧ o < 0x210000 then 0x20000000 + (o - 0x200000)
  else 0x60000000 + o

/-- The whole microseconds to the next frame boundary, rounded up (R57). -/
def State.retryHint (s : State) : Nat := divUp s.cyclesLeft 400

/-- A request is executed under master 10: status, retry hint and data of its answer. -/
def State.rreqDo (s : State) (write : Bool) (o v : Nat) : (Nat × Nat × Nat) × State :=
  let a := windowAddr o
  let code := if write then s.putCode 10 a v 15 else s.readCode 10 a
  match (if write then s.busWrite 10 a v 15 else s.busRead 10 a) with
  | (.ok d, s) => ((0, 0, if write then 0 else d), s)
  | (.err, s) => ((if code = 2 then 2 else 1, 0, 0), s)
  | (.busy, s) => ((3, 2, 0), s)
  | (.held, s) => ((3, s.retryHint, 0), s)

/-- A request addressed to this device is executed and answered. -/
def State.rreqTake (s : State) (f : Frm) : State :=
  let w := f.pay.getD 0 0
  let ((st, hint, d), s) := s.rreqDo (bit w 29) (bits w 0 24) (f.pay.getD 1 0)
  match s.wayTo f.orig with
  | none => s
  | some x =>
    let (g, s) := s.ownFrame 6 [f.orig * 2 ^ 30 + bits w 24 4 * 2 ^ 24 + st * 2 ^ 21 + hint * 2 ^ 16, d]
    s.txPut x { f := g, due := s.tb }

/-! ### The maintenance UART (R468) -/

/-- A read of the MUART, which has no floor of its own: it is granted in the end. -/
def State.muartFetch (s : State) (a : Nat) : State :=
  if isRemote a then
    let code := s.linkBegin.remCode 2 a false
    match s.remAsk 2 a false 0 with
    | (true, s) => s
    | (false, s) => s.muartAnswer (if code = 2 then 4 else 2) 0
  else
    let code := s.readCode 2 a
    match s.busRead 2 a with
    | (.ok v, s) => s.muartAnswer 0 v
    | (.err, s) => s.muartAnswer (if code = 2 then 4 else 2) 0
    | (.busy, s) => s.muartAnswer 1 0
    | (.held, s) =>
      match s.busRead 2 a true with
      | (.ok v, s) => s.muartAnswer 0 v
      | (_, s) => s

/-- Eight bytes of a request, or what is none. -/
def State.muartReq (s : State) (bs : List Nat) : State :=
  let b (i : Nat) : Nat := bs.getD i 0
  if !s.muartRx then s
  else if bs.length = 8 ∧ b 0 = 0xA5 ∧ b 1 = 0x10 then
    if crc16 ((bs.drop 1).take 5) = b 6 * 256 + b 7 then s.muartFetch (b 2 + b 3 * 256 + b 4 * 65536 + b 5 * 16777216)
    else s.muartAnswer 3 0
  else s.inc MAINT_MUART_STAT_RX_ERR

/-! ### The commands -/

/-- DMA_BURST_GRANT (R384). -/
def execDmaBurstGrant (t : Nat) (s : State) : Out := s.act t dmaOk State.dmaGrant

/-- DMA_BURST_WRITTEN (R375, R383). -/
def execDmaBurstWritten (t : Nat) (s : State) : Out := s.act t dmaOk State.dmaWritten

/-- DMA_BEAT_ERROR (R387). -/
def execDmaBeatError (t : Nat) (kind : BeatError) (s : State) : Out := s.act t dmaOk fun s => s.dmaBeatError kind

/-- DMA_PFB_ERROR (R388). -/
def execDmaPfbError (t : Nat) (s : State) : Out := s.act t dmaOk State.dmaPfb

/-- GEL_MEM_COMPLETE (R248). -/
def execGelMemComplete (t : Nat) (g : Engine) (s : State) : Out := s.act t (gelOk g) fun s => s.gelMemDone g

/-- RREQ (R437). -/
def execLinkRreq (t : Nat) (x : Link) (h : LinkHdr) (w0 w1 : Word) (s : State) : Out :=
  s.act t linkOk fun s =>
    s.linkBegin.rxFrame x h 5 [w0.toNat, w1.toNat] State.rreqTake fun s => bits w0.toNat 30 2 == s.ownId

/-- MUART_READ_REQUEST (R468). -/
def execMuartReadRequest (t : Nat) (bytes : List (BitVec 8)) (s : State) : Out :=
  s.act t (State.core 3) fun s => s.muartReq (bytes.map (·.toNat))

end Sys2Proof.Machine
end

