-- ==== Sys2Proof/Machine/Boot.lean ====
section
/-! DEFINITION. Device reset, the boot sequence and the Blunivia image (R471 to R482, R495, R496). -/

namespace Sys2Proof.Machine

open Reg

/-- What BOOT holds changes. -/
def State.modBoot (s : State) (f : BootS → BootS) : State := { s with boot := f s.boot }

/-- BOOT_STAT.STATE, the same on both host pages (R474). -/
def State.bootSt (s : State) : Nat := s.rd (HOST_BOOT_STAT_STATE 0)

def State.bootTo (s : State) (st : Nat) : State := (s.wr (HOST_BOOT_STAT_STATE 0) st).wr (HOST_BOOT_STAT_STATE 1) st

/-! ### Reset and self-test (R471, R474, R495, R496) -/

/-- The device is in reset: only fuses and OTP, and what the LF domain holds while it runs, last. -/
def State.deviceReset (s : State) : State :=
  let lf := if s.pwr.lfLost then none else s.flt.lfRec
  { State.reset with
    nonce := s.nonce, otp := s.otp
    pwr := { State.reset.pwr with lfLost := s.pwr.lfLost }, flt := { State.reset.flt with lfRec := lf } }

/-- Fuses and OTP are loaded into their registers. -/
def State.loadFuses (s : State) : State :=
  { s with regs := s.otp.foldl (fun r (e : Nat × Nat) => tput 0 r e.1 e.2) s.regs }

/-- Reset is released (R471 steps 1 to 3): straps, clocks, timebase, fuses. -/
def State.resetRelease (s : State) (cascId men : Nat) : State :=
  if !s.pwr.held then s
  else
    let s : State := { s with tb := 0, pwr := { s.pwr with held := false } }
    let s := (s.wr CASC_CASC_STAT_ID cascId).wr CASC_CASC_STAT_MEN men
    let s := ((s.wr CLK_CLK_STAT_XIN_OK 1).wr CLK_CLK_STAT_TREF_OK 1).wr CLK_CLK_STAT_LF_OK (b2n !s.pwr.lfLost)
    let s := (s.wr CLK_CLK_STAT_PLL_SYS_LOCK 1).wr CLK_CLK_STAT_PLL_TB_LOCK 1
    s.loadFuses.bootTo 0x01

/-- The carried-over record is the first one (R454). -/
def State.priorRecord (s : State) : State :=
  match s.flt.lfRec with
  | none => s
  | some r =>
    let r := { r with id := s.flt.nextId, prior := true }
    let s := (s.modFlt fun f => { f with nextId := f.nextId + 1, lfRec := none }).recNew r
    let s := s.modFlt fun f => { f with fe := r, queue := r :: f.queue.filter fun q => q.id != r.id }
    (s.setBits FLT_FLT_STAT_FE_VALID 1).iflag 4 4

/-- Memory cells in a range of addresses are zeroed. -/
def State.zeroMem (s : State) (a n : Nat) : State :=
  { s with mem := s.mem.filter fun e => decide (e.1 < a) || decide (a + n ≤ e.1) }

/-- The host ports are enabled (R471 step 7). -/
def State.portsOn (s : State) : State :=
  [0, 1].foldl (fun s x => (s.modHs x fun h => { h with enabled := true }).hostOpen x) s

/-- The self-tests end (R474): the OTP check comes first, then LBIST, then the memories. -/
def State.selfTest (s : State) (lbist mbist otp : Bool) : State :=
  if s.bootSt ≠ 1 then s
  else if !otp then (s.bootTo 0x83).portsOn
  else if !lbist then (s.bootTo 0x81).portsOn
  else if !mbist then (s.bootTo 0x82).portsOn
  else ((s.priorRecord.zeroMem mbxBase 0x4000).bootTo 0x10).portsOn

/-! ### The layout of an image (R475 to R477) -/

/-- A segment of the manifest. -/
structure Seg where
  typ : Nat
  target : Nat
  low : Nat
  start : Nat
  len : Nat
  e3 : Nat
  hash : List Nat
  deriving DecidableEq, Repr

/-- Word `i` of the image. -/
def imgW (img : List Nat) (i : Nat) : Nat := img.getD i 0

/-- IMG_WORDS, SEG_N, SIGNER, ROLLBACK, REVOKE. -/
def imgWords (img : List Nat) : Nat := imgW img 3
def imgSegN (img : List Nat) : Nat := bits (imgW img 4) 8 8
def imgSigner (img : List Nat) : Nat := bits (imgW img 4) 20 4
def imgRollback (img : List Nat) : Nat := bits (imgW img 4) 24 8
def imgRevoke (img : List Nat) : Nat := bits (imgW img 4) 16 4

/-- The words that the signature covers. -/
def imgSigned (img : List Nat) : Nat := 40 + 16 * imgSegN img

/-- The manifest. -/
def imgSegs (img : List Nat) : List Seg :=
  (List.range (imgSegN img)).map fun i =>
    let w (k : Nat) : Nat := imgW img (40 + 16 * i + k)
    { typ := bits (w 0) 24 8, target := bits (w 0) 16 8, low := bits (w 0) 0 16, start := w 1, len := w 2, e3 := w 3,
      hash := (img.drop (40 + 16 * i + 4)).take 12 }

/-- A segment is staged (REGS, SAFETY). -/
def Seg.staged (g : Seg) : Bool := g.typ == 4 || g.typ == 5

/-- The words of the key block. -/
def imgKey (img : List Nat) : List Nat := (img.drop 16).take 24

/-! ### Checks (R482) -/

/-- The key slot that signs is usable, and the key block is its key (R479). -/
def State.signerOk (s : State) (img : List Nat) : Bool :=
  let g := imgSigner img
  if g = 8 then imgKey img == rootKey
  else decide (g < 4) && bit (s.rd SEC_OTP_STAT_PROG) g && !bit (s.rd SEC_OTP_STAT_REVOKED) g &&
    shaWords (imgKey img) == (List.range 12).map (fun i => s.rd (SEC_SLOT_HASH_HASH (12 * g + i)))

/-- The header checks: the REASON of the first that fails, 0 for none. -/
def State.hdrCheck (s : State) (img : List Nat) : Nat :=
  let w := imgW img
  let rev := s.rd SYS_DEV_ID_REV
  if !(w 0 == 0x424C4E56 && w 1 == 0x00010010 && bits (w 4) 0 8 == 0 && (List.range 10).all fun i => w (6 + i) == 0) then 1
  else if !(bits (w 2) 16 16 == 0x2408 && decide (bits (w 2) 8 8 ≤ rev) && decide (rev ≤ bits (w 2) 0 8)) then 2
  else if 98304 < imgWords img ∨ imgSegN img < 1 ∨ 15 < imgSegN img then 3
  else if !s.signerOk img || (decide (imgSigner img < 4) && bit (imgRevoke img) (imgSigner img)) then 4
  else if imgRollback img < s.rd SEC_OTP_STAT_RB_CNT ∨ 64 < imgRollback img then 5
  else 0

/-- The length of a segment fits its type (R477). -/
def Seg.lenOk (g : Seg) : Bool :=
  match g.typ with
  | 1 => g.len % 2 == 0 && decide (2 ≤ g.len) && decide (g.len ≤ 16384)
  | 2 => decide (1 ≤ g.len) && decide (g.len ≤ 256)
  | 3 => g.len % 4 == 0 && decide (4 ≤ g.len) && decide (g.len ≤ 16384)
  | 4 | 5 => g.len % 2 == 0
  | 0x0F => g.len == 12
  | _ => true

/-- The type and the target of a segment are known, and its zero fields are zero. -/
def Seg.known (g : Seg) : Bool :=
  g.low == 0 && g.e3 == 0 &&
  (match g.typ with
   | 1 | 2 | 0x0F => decide (g.target < 4)
   | 3 | 4 | 5 => g.target == 0
   | _ => false)

/-- Segments follow one another from a word on; answers where they end. -/
def segsEnd : List Seg → Nat → Option Nat
  | [], n => some n
  | g :: r, n => if g.start = n then segsEnd r (n + g.len) else none

/-- No (TYPE, TARGET) pair appears twice. -/
def segsOnce : List Seg → Bool
  | [] => true
  | g :: r => !(r.any fun h => h.typ == g.typ && h.target == g.target) && segsOnce r

/-- The manifest checks: the REASON of the first that fails, 0 for none. -/
def State.manCheck (s : State) (img : List Nat) : Nat :=
  let gs := imgSegs img
  if !(gs.all Seg.lenOk && decide (((gs.filter Seg.staged).map (·.len)).sum ≤ 8192)) then 3
  else if !(gs.all Seg.known && segsOnce gs && segsEnd gs (imgSigned img) == some (imgWords img - 24) && decide (24 ≤ imgWords img)) then 6
  else if gs.any fun g => g.typ == 0x0F &&
      (imgSigner img != 8 || bit (s.rd SEC_OTP_STAT_PROG) g.target || bit (s.rd SEC_OTP_STAT_REVOKED) g.target) then 14
  else 0

/-- An address that only SAFETY writes (R477). -/
def safetyAddr (a : Nat) : Bool :=
  let p := (a - 0x40000000) / 0x1000
  let o := a % 0x1000
  decide (0x40000000 ≤ a) && decide (a < 0x40100000) && p != 3 &&
  (p == 2 || p == 5 || p == 4 || p == 0x38 || o == 0x28 || o == 0x2C || (p == 0 && decide (0x80 ≤ o) && decide (o < 0xCC)))

/-- An address that REGS may write. -/
def regsAddr (a : Nat) : Bool :=
  decide (0x40000000 ≤ a) && decide (a < 0x40100000) && (a - 0x40000000) / 0x1000 != 3 && !safetyAddr a

/-! ### Words on receipt (R477) -/

/-- Where REGS and SAFETY are staged: mailbox banks 14 and 15. -/
def stageBase : Nat := mbxBase + 14 * 0x4000

/-- The staged words before segment `g`. -/
def stageOfs (gs : List Seg) (g : Seg) : Nat :=
  ((gs.filter fun h => h.staged && decide (h.start < g.start)).map (·.len)).sum

/-- Word `k` of a segment: the REASON against it, 0 for none, and what it does. -/
def State.segWord (s : State) (gs : List Seg) (g : Seg) (k v : Nat) : Nat × State :=
  match g.typ with
  | 1 =>
    if k % 2 = 1 ∧ 256 ≤ v then (6, s)
    else (0, { s with mem := wrWord s.mem (ucodeBase + 0x10000 * g.target + 4 * k) v })
  | 2 => if 65536 ≤ v then (6, s) else (0, s.wr (PIO_PROG_INSTR g.target k) v)
  | 3 =>
    if k % 4 < 3 then (0, s.evtStage 3 (k / 4) (k % 4) v)
    else
      let s1 := ((s.wr EVT_CMT_ERR_VALID 0).evtCommit 3 (k / 4) v)
      (if s1.on EVT_CMT_ERR_VALID then 9 else 0, s.evtCommit 3 (k / 4) v)
  | 4 =>
    if k % 2 = 0 ∧ !regsAddr v then (6, s)
    else (0, { s with mem := wrWord s.mem (stageBase + 4 * (stageOfs gs g + k)) v })
  | 5 =>
    if k % 2 = 0 ∧ !safetyAddr v then (6, s)
    else (0, { s with mem := wrWord s.mem (stageBase + 4 * (stageOfs gs g + k)) v })
  | _ => (0, s)

/-- Words of the image from index `j` on are received, up to the first against which there is a REASON. -/
def State.imgTake (s : State) (gs : List Seg) : Nat → List Nat → Nat × State
  | _, [] => (0, s)
  | j, v :: r =>
    match gs.find? fun g => decide (g.start ≤ j) && decide (j < g.start + g.len) with
    | none => s.imgTake gs (j + 1) r
    | some g =>
      match s.segWord gs g (j - g.start) v with
      | (0, s) => s.imgTake gs (j + 1) r
      | (c, s) => (c, s)

/-! ### The stream (R478) -/

/-- BX_CMD. -/
def State.bxCmd (s : State) : Nat := rdWord s.mem mbxBase

/-- BX_RSP: the command and SEQ echoed, a status and a REASON. -/
def State.bxRsp (s : State) (status reason : Nat) : State :=
  { s with mem := wrWord s.mem (mbxBase + 4) (s.bxCmd / 65536 * 65536 + status * 256 + reason) }

/-- The image is rejected: clearing begins (R482). -/
def State.bootReject (s : State) (reason : Nat) : State := (s.wr SEC_IMG_STAT_REASON reason).bootTo 0x13

/-- A command is answered: taken, or rejected with a REASON. -/
def State.bxEnd (s : State) (reason : Nat) : State :=
  if reason = 0 then s.bxRsp 0 0 else (s.bxRsp 1 reason).bootReject reason

/-- BOOT acts on a command of kind `cmd`: in WAIT_IMAGE and RECEIVING, when its SEQ differs from the last taken; one that is not the
successor, or whose LEN `ok` refuses, is rejected. -/
def State.bxTake (s : State) (cmd : Nat) (ok : Nat → Bool) (f : State → Nat × State) : State :=
  let w := s.bxCmd
  let seq := bits w 16 8
  if !((s.bootSt == 0x10 || s.bootSt == 0x11) && bits w 24 8 == cmd && seq != s.boot.seq) then s
  else if seq ≠ (s.boot.seq + 1) % 256 ∨ !ok (bits w 0 16) then s.bxEnd 10
  else
    let s := (s.modBoot fun b => { b with seq, lastCmd := s.tb }).wr SEC_IMG_STAT_SEQ seq
    let (c, s) := f s
    s.bxEnd c

/-- A block's words join the image: checks as soon as their words are there, then what the words are (R478, R482). -/
def State.imgBlock (s : State) (n : Nat) : Nat × State :=
  let old := s.boot.img
  let ws := (List.range n).map fun i => rdWord s.mem (mbxBase + 0x40 + 4 * i)
  let img := old ++ ws
  let s := ((s.modBoot fun b => { b with img }).wr SEC_IMG_WORDS_WORDS img.length).bootTo 0x11
  let newTo (k : Nat) : Bool := decide (old.length < k) && decide (k ≤ img.length)
  let c := if newTo 40 then s.hdrCheck img else 0
  if c ≠ 0 then (c, s)
  else if 40 ≤ img.length ∧ imgWords img < img.length then (10, s)
  else if img.length < 40 ∨ img.length < imgSigned img then (0, s)
  else
    let c := if newTo (imgSigned img) then s.manCheck img else 0
    if c ≠ 0 then (c, s)
    else
      -- words before the end of the manifest belong to no segment
      s.imgTake (imgSegs img) old.length ws

/-- The values that SAFETY writes to OUT.SAFE0 to SAFE3 are the fused ones (R477). -/
def State.safeOk (s : State) (img : List Nat) : Bool :=
  match (imgSegs img).find? fun g => g.typ == 5 with
  | none => false
  | some g =>
    let w (i : Nat) : Nat := imgW img (g.start + i)
    let ps := (List.range (g.len / 2)).map fun i => (w (2 * i), w (2 * i + 1))
    (List.range 4).all fun n =>
      let a := pageAddr 0x38 (0x60 + 4 * n)
      ps.any (fun (e : Nat × Nat) => e.1 == a) && ps.all fun (e : Nat × Nat) => e.1 != a || e.2 == s.rd (OUT_SAFE_SAFE n)

/-- END (R474, R478). -/
def State.imgEnd (s : State) : Nat × State :=
  let img := s.boot.img
  if img.length < 40 ∨ img.length ≠ imgWords img then (10, s)
  else if !s.safeOk img then (13, s)
  else (0, s.bootTo 0x12)

/-! ### Verification and application (R479 to R481) -/

/-- A number of 12 words. -/
def numW (ws : List Nat) : Nat := ws.foldl (fun n w => n * 2 ^ 32 + w) 0

/-- The signature verifies. -/
def imgSigOk (img : List Nat) : Bool :=
  let h := sha384 ((img.take (imgSigned img)).flatMap (bytesBE 4))
  let k := imgKey img
  let g := img.drop (img.length - 24)
  ecVerify (numW (k.take 12)) (numW (k.drop 12)) (numBE h) (numW (g.take 12)) (numW (g.drop 12))

/-- The words of a segment as received, and as read back from where they went. -/
def segWords (img : List Nat) (g : Seg) : List Nat := (img.drop g.start).take g.len

def State.segBack (s : State) (g : Seg) : Option (List Nat) :=
  match g.typ with
  | 1 => some ((List.range g.len).map fun k => rdWord s.mem (ucodeBase + 0x10000 * g.target + 4 * k))
  | 2 => some ((List.range g.len).map fun k => s.rd (PIO_PROG_INSTR g.target k))
  | 3 => some ((List.range g.len).map fun k => rdWord s.mem (evtBase + 4 * k))
  | _ => none

/-- The REASON at steps 1 to 3, 0 for none. -/
def State.imgVerify (s : State) (img : List Nat) : Nat :=
  let gs := imgSegs img
  if !imgSigOk img then 8
  else if gs.any fun g => shaWords (segWords img g) != g.hash then 7
  else if gs.any fun g => (match s.segBack g with | some ws => shaWords ws != g.hash | none => false) then 12
  else 0

/-- A fused register takes a value, in OTP and as loaded. -/
def State.wrOtp (s : State) (f : Field) (v : Nat) : State :=
  ({ s with otp := tput 0 s.otp f.key (v % 2 ^ f.w) } : State).wr f v

/-- The OTP update (R481 step 4); of its items, those that `on` names are programmed. -/
def State.otpUpdate (s : State) (img : List Nat) (on : Nat → Bool) : State :=
  let rb := max (s.rd SEC_OTP_STAT_RB_CNT) (imgRollback img)
  let s := if on 0 then s.wrOtp SEC_OTP_STAT_RB_CNT rb else s
  let s := (List.range 4).foldl
    (fun s i =>
      if on (1 + i) && bit (imgRevoke img) i then s.wrOtp SEC_OTP_STAT_REVOKED (putBit (s.rd SEC_OTP_STAT_REVOKED) i true) else s) s
  let s := ((imgSegs img).filter fun g => g.typ == 0x0F).foldl
    (fun s g =>
      if on (5 + g.target) then
        let s := (List.range 12).foldl
          (fun s i => s.wrOtp (SEC_SLOT_HASH_HASH (12 * g.target + i)) (imgW img (g.start + i))) s
        s.wrOtp SEC_OTP_STAT_PROG (putBit (s.rd SEC_OTP_STAT_PROG) g.target true)
      else s) s
  if on 9 then s.wrOtp SEC_OTP_STAT_BOOT_CNT (satN 16 (s.rd SEC_OTP_STAT_BOOT_CNT + 1)) else s

/-- Staged pairs are written under master 3, in order, up to one that is refused. -/
def State.applyPairs : Nat → Nat → State → Bool × State
  | 0, _, s => (true, s)
  | n + 1, a, s =>
    match s.busWrite 3 (rdWord s.mem a) (rdWord s.mem (a + 4)) 15 true with
    | (.err, s) => (false, s)
    | (_, s) => s.applyPairs n (a + 8)

/-- REGS, then SAFETY. -/
def State.applyAll (s : State) (gs : List Seg) : Bool × State :=
  let run (s : State) (typ : Nat) : Bool × State :=
    match gs.find? fun g => g.typ == typ with
    | some g => s.applyPairs (g.len / 2) (stageBase + 4 * stageOfs gs g)
    | none => (true, s)
  match run s 4 with
  | (true, s) => run s 5
  | (false, s) => (false, s)

/-- The engines that the image loads start (R477, R255). -/
def State.startEngines (s : State) (gs : List Seg) : State :=
  (gs.filter fun g => g.typ == 1).foldl (fun s g => (s.modEng g.target fun x => { x with image := true }).gelEnable g.target) s

/-- The image is in force (R481 step 6). -/
def State.imgInForce (s : State) (img : List Nat) : State :=
  let h := shaWords (img.take (imgSigned img))
  let s := (List.range 12).foldl (fun s i => s.wr (SEC_IMG_HASH_HASH i) (h.getD i 0)) s
  let s := ((s.wr SEC_IMG_STAT_SIGNER (imgSigner img)).wr SEC_IMG_INFO_ROLLBACK (imgRollback img)).wr SEC_IMG_INFO_SEG_N (imgSegN img)
  (s.wr SEC_IMG_VER_VER (imgW img 5)).bootTo 0x20

/-- The units that the applied registers have started stop again: no unit runs until READY (R472). -/
def State.unitsOff (s : State) : State := [0, 1, 2].foldl (fun s d => (domPages d).foldl State.pageEnd s) (((domPages 3).filter fun p => 0xB0 ≤ p).foldl State.pageEnd s)

/-- Verification, OTP update and application come to their end (R474, R481). Where programming fails, which items it has left
programmed is not said. -/
def State.imgDone (s : State) (otpOk : Bool) : State :=
  if s.bootSt ≠ 0x12 then s
  else
    let img := s.boot.img
    let gs := imgSegs img
    let c := s.imgVerify img
    if c ≠ 0 then s.bootReject c
    else if !otpOk then
      let (r, s) := s.free
      (s.otpUpdate img fun i => bit r i).bootTo 0x83
    else
      match (s.otpUpdate img fun _ => true).applyAll gs with
      | (false, s) => (s.unitsOff.wr SEC_IMG_STAT_REASON 16).bootTo 0x84
      | (true, s) => ((s.startEngines gs).zeroMem stageBase 0x8000).imgInForce img

/-- Clearing ends (R474, R482). -/
def State.clearDone (s : State) : State :=
  if s.bootSt ≠ 0x13 then s
  else
    let s := (((s.zeroMem ucodeBase 0x40000).zeroMem evtBase 0x10000).zeroMem mbxBase 0x4000).zeroMem stageBase 0x8000
    let s := (List.range 1024).foldl (fun s i => s.wr (PIO_PROG_INSTR (i / 256) (i % 256)) 0) s
    let s : State := { s with evt := {}, boot := {} }
    let s := (s.wr SEC_IMG_WORDS_WORDS 0).inc SEC_IMG_STAT_REJ_CNT
    (s.cfgRec (srcId 3 0x14 0xF) (s.rd SEC_IMG_STAT_REASON) 0xFFF).bootTo 0x10

/-! ### The commands -/

/-- DEVICE_RESET (R495, R496). -/
def execDeviceReset (t : Nat) (s : State) : Out := s.actTb t (fun _ => true) State.deviceReset

/-- RESET_RELEASE (R471, R423). -/
def execResetRelease (t : Nat) (cascId : Fin 4) (men : Bool) (s : State) : Out :=
  s.actTb t (fun _ => true) fun s => s.resetRelease cascId (b2n men)

/-- SELFTEST_DONE (R471, R474). -/
def execSelftestDone (t : Nat) (lbistOk mbistOk otpOk : Bool) (s : State) : Out :=
  s.act t (State.core 3) fun s => s.selfTest lbistOk mbistOk otpOk

/-- BLOCK (R478). -/
def execImgBlock (t : Nat) (s : State) : Out :=
  s.act t (State.core 3) fun s =>
    s.bxTake 1 (fun n => decide (1 ≤ n) && decide (n ≤ 4080)) fun s => s.imgBlock (bits s.bxCmd 0 16)

/-- END (R478, R481). -/
def execImgEnd (t : Nat) (s : State) : Out := s.act t (State.core 3) fun s => s.bxTake 2 (fun n => n == 0) State.imgEnd

/-- ABORT (R478). -/
def execImgAbort (t : Nat) (s : State) : Out := s.act t (State.core 3) fun s => s.bxTake 3 (fun n => n == 0) fun s => (11, s)

/-- IMAGE_TIMEOUT (R474): 1 s. -/
def execImgTimeout (t : Nat) (s : State) : Out :=
  s.act t (State.core 3) fun s =>
    if s.bootSt = 0x11 ∧ s.boot.lastCmd + 400000000 ≤ s.tb then s.bootReject 15 else s

/-- IMAGE_VERIFIED (R474, R481). -/
def execImgVerified (t : Nat) (otpOk : Bool) (s : State) : Out := s.act t (State.core 3) fun s => s.imgDone otpOk

/-- CLEARING_DONE (R474, R482). -/
def execImgClearingDone (t : Nat) (s : State) : Out := s.act t (State.core 3) State.clearDone

end Sys2Proof.Machine
end

