-- ==== Sys2Proof/Machine/Host.lean ====
section
/-! DEFINITION. Host frames: checks, execution, responses, HELLO, STREAM, SNAP64 and ATTEST (R91 to R105, R115, R116, R483 to
R486). -/

namespace Sys2Proof.Machine

open Reg

/-! ### The opcodes (R94, R95) -/

/-- An opcode: the version in which it appears, and the least and the largest LEN. -/
def opInfo (op : Nat) : Option (Nat × Nat × Nat) :=
  match op with
  | 0x01 => some (0x10, 1, 1)
  | 0x10 | 0x11 => some (0x10, 1, 64)
  | 0x12 => some (0x10, 1, 32)
  | 0x20 => some (0x11, 1, 64)
  | 0x30 => some (0x20, 1, 32)
  | 0x40 => some (0x10, 12, 12)
  | _ => none

/-- The payload words that an opcode implies (R94). -/
def impliedLen (op len : Nat) : Nat :=
  match op with
  | 0x01 => 1
  | 0x11 => len
  | 0x12 => 2 * len
  | 0x40 => 12
  | _ => 0

/-- The bits of a request with `n` payload words. -/
def frameBits (n : Nat) : Nat := 64 + 32 * n + (if n = 0 then 0 else 16)

/-- One word that a frame addresses: where, whether it is written, the value and the mask. -/
structure HWord where
  a : Nat
  write : Bool := false
  v : Nat := 0
  mask : Nat := 0xFFFFFFFF
  deriving DecidableEq, Repr

/-- The words of a frame (R96, R97); a STREAM has them listed. DESIGN CHOICE (assumption log 75): FIXED on SNAP64 is accepted and
has no effect, R96 giving it one for READ, WRITE and MASKWRITE only. -/
def HFrame.words (f : HFrame) : List HWord :=
  let a (i : Nat) : Nat := if f.fixed then f.addr else (f.addr + 4 * i) % 2 ^ 32
  match f.op with
  | 0x10 => (List.range f.len).map fun i => { a := a i }
  | 0x11 => (List.range f.len).map fun i => { a := a i, write := true, v := f.pay.getD i 0 }
  | 0x12 => (List.range f.len).map fun i => { a := a i, write := true, v := f.pay.getD (2 * i + 1) 0, mask := f.pay.getD (2 * i) 0 }
  | 0x20 => f.pay.map fun a => { a }
  | 0x30 => (List.range (2 * f.len)).map fun i => { a := (f.addr + 4 * i) % 2 ^ 32 }
  | _ => []

/-- The decision on a word: 0, or the code of R81. -/
def State.wordCode (s : State) (m : Nat) (w : HWord) : Nat :=
  if isRemote w.a then s.remCode m w.a w.write else if w.write then s.writeCode m w.a w.v w.mask else s.readCode m w.a

/-- A refused word is captured and recorded. -/
def State.wordRefuse (s : State) (m : Nat) (w : HWord) (c : Nat) : State :=
  if w.write && !isRemote w.a then (s.busPut m w.a w.v w.mask c true).2 else s.refuse m w.a w.write c

/-- The status of a word that fails with a code (R98). -/
def codeStatus (c : Nat) : Nat := if c = 2 then 4 else 2

/-- INFO of word `i`: for a BAD_ADDR of SNAP64 its value. -/
def HFrame.infoOf (f : HFrame) (c i : Nat) : Nat := if f.op = 0x30 ∧ c = 2 then i / 2 else i

/-! ### Execution (R96 to R100) -/

/-- The frame in EXEC changes. -/
def State.modFrame (s : State) (x : Nat) (f : HFrame → HFrame) : State := s.modHs x fun h => { h with frame := h.frame.map f }

/-- The frame ends with a status. -/
def State.frameStop (s : State) (x st info : Nat) : State := s.modFrame x fun f => { f with status := st, info, fin := true }

/-- Word `i` fails during execution (R100). -/
def State.frameFail (s : State) (x st info : Nat) : State :=
  s.modFrame x fun f =>
    { f with status := st, info, fin := true, part := decide (0 < f.idx), data := (if f.op = 0x10 then f.data else []) }

/-- A word is done; a read one joins the data. -/
def State.wordDone (s : State) (x n : Nat) (vs : List Nat) : State :=
  s.modFrame x fun f => { f with idx := f.idx + n, data := f.data ++ vs }

/-- A register read as SNAP64 reads it: without the wide latches (R97). -/
def State.snapReg (s : State) (m p o : Nat) : Nat × State :=
  let v := s.shown m p o
  let s := if s.on (PG_CTRL_FREEZE p) then s else (s.rcClear p o).readAct m p o
  (v, if ownLatch p o then s else s.readStep m p o)

/-- A word read as SNAP64 reads it. -/
def State.snapWord (s : State) (m a : Nat) : Nat × State :=
  match regionOf a with
  | .page p o => if s.rightIn (regionOf a) m = 0 then (0, s) else s.snapReg m p o
  | _ => s.fetchWord m a

/-- Both words of a local value, read in one cycle before either read has its effect (R97); the answer says whether the frame goes
on. -/
def State.snapPair (s : State) (x a : Nat) (f : HFrame) : Bool × State :=
  let c0 := s.readCode x a
  let c1 := s.readCode x (a + 4)
  if c0 ≠ 0 then (true, (s.refuse x a false c0).frameFail x (codeStatus c0) (f.infoOf c0 f.idx))
  else if c1 ≠ 0 then (true, (s.refuse x (a + 4) false c1).frameFail x (codeStatus c1) (f.infoOf c1 (f.idx + 1)))
  else if s.busyAt a false || s.busyAt (a + 4) false then (false, s)
  else
    let free := match targetOf a with
      | some t => !f.across || s.grantable (16 * t + x) 2
      | none => true
    if !free then (false, (s.spendAt x a).2)
    else
      let (_, s) := s.payAt x a (!f.across)
      let (_, s) := s.payAt x (a + 4) (!f.across)
      let u := (s.snapWord x (a + 4)).1
      let (v, s) := s.snapWord x a
      (true, (s.snapWord x (a + 4)).2.wordDone x 2 [v, u])

/-- A remote access of the frame ends: the value it read, or the frame's failure (R98, R437). -/
def State.remFail (s : State) (x : Nat) (f : HFrame) (r : RemEnd) : State :=
  match r.status with
  | 1 => s.frameFail x 2 f.idx
  | 3 => s.frameFail x 1 r.hint
  | _ => s.frameFail x 4 (f.infoOf 2 f.idx)

/-- What a MASKWRITE of a remote word writes over the value `cur` read: the bits of W1C, W1S and WO fields outside the mask as 0
(R96). -/
def remMerge (a cur v mask : Nat) : Nat :=
  let fs := match regionOf a with
    | .remote _ o => if o < 0x100000 then (fieldsAt (o / 0x1000) (o % 0x1000)).getD [] else []
    | _ => []
  mergeWord (fs.foldl (fun c f => if f.ty == .w1c || f.ty == .w1s || f.ty == .wo then putBits c f.lo f.w 0 else c) cur) v mask

/-- A remote word: sent once, and awaited. A MASKWRITE reads the word and writes it back changed: an RREQ carries one word and no
mask (R413), so another master's access can come between (DEDUCED, assumption log 76). -/
def State.remWord (s : State) (x : Nat) (f : HFrame) (w : HWord) : Bool × State :=
  let mask := f.op == 0x12
  let back := mask && !f.data.isEmpty
  let write := if mask then back else w.write
  let v := if mask then remMerge w.a (f.data.getD 0 0) w.v w.mask else w.v
  match s.remTake x w.a write with
  | (some r, s) =>
    if r.status ≠ 0 then (true, s.remFail x f r)
    else if mask && !back then (true, s.modFrame x fun f => { f with data := [r.data] })
    else if mask then (true, (s.modFrame x fun f => { f with data := [] }).wordDone x 1 [])
    else (true, s.wordDone x 1 (if write then [] else [r.data]))
  | (none, s) =>
    if s.casc.rem.any fun r => r.m == x && r.addr == w.a && r.write == write then (false, s)
    else
      let c := s.linkBegin.remCode x w.a w.write
      match s.remAsk x w.a write v with
      | (true, s) => (false, s)
      | (false, s) => (true, s.frameFail x (codeStatus c) (f.infoOf c f.idx))

/-- The next word of the frame; the answer says whether the frame goes on now. -/
def State.hostWord (s : State) (x : Nat) (f : HFrame) : Bool × State :=
  match f.words[f.idx]? with
  | none => (true, s.modFrame x fun f => { f with fin := true })
  | some w =>
    if isRemote w.a then s.remWord x f w
    else if f.op = 0x30 then s.snapPair x w.a f
    else
      let c := s.wordCode x w
      let r := if w.write then s.busPut x w.a w.v w.mask c (!f.across) else s.busRead x w.a (!f.across)
      match r with
      | (.ok v, s) => (true, s.wordDone x 1 (if w.write then [] else [v]))
      | (.err, s) => (true, s.frameFail x (codeStatus c) f.idx)
      | (_, s) => (false, s)

/-- The frame executes as far as it can now. -/
def State.hostRunN : Nat → State → Nat → State
  | 0, s, _ => s
  | n + 1, s, x =>
    match (s.hs x).frame with
    | none => s
    | some f =>
      if f.fin then s
      else
        match s.hostWord x f with
        | (true, s) => s.hostRunN n x
        | (false, s) => s

/-- The frame runs to its end, or until a word of it is held. -/
def State.hostRun (s : State) (x : Nat) : State := s.hostRunN 260 x

/-- The frame begins: its first word, and as many more as the interconnect grants at once, a free number; the others follow by its
response, and accesses of other masters come between (R71, R101; assumption log 71). -/
def State.hostBegin (s : State) (x : Nat) : State :=
  let (k, s) := s.free
  s.hostRunN (2 + k % 259) x

/-! ### The tests of R98 that need the whole frame -/

/-- The pages that a frame addresses. -/
def pagesAt (ws : List HWord) : List Nat :=
  (ws.filterMap fun w => match regionOf w.a with
    | .page p _ => some p
    | _ => none).eraseDups

/-- The budget test (R57) and, once it is passed, what the frame does as it starts, and its execution. -/
def State.frameBudget (s : State) (x : Nat) (ws : List HWord) (ok : State → State) : State :=
  match ws with
  | [] => (ok s).hostBegin x
  | w :: _ =>
    match targetOf w.a with
    | none => (ok s).hostBegin x
    | some t =>
      let i := 16 * t + x
      let n := ws.length
      let b := s.bset i
      if (if b.slack then b.ceil else b.floor) < n then
        ((ok s).modFrame x fun f => { f with across := true }).hostBegin x
      else if s.grantable i n then ((ok s).useBudget i n).hostBegin x
      else
        let s := (pagesAt ws).foldl State.holdPage (s.holdBudget i)
        s.frameStop x 1 s.retryHint

/-- Every word is tested before the first executes (R75, R98). -/
def State.frameTest (s : State) (x : Nat) (f : HFrame) (ok : State → State) : State :=
  let ws := f.words
  let cs := ws.map (s.wordCode x)
  let first (p : Nat → Bool) : Option Nat := (List.range ws.length).find? fun i => p (cs.getD i 0)
  let stop (i : Nat) : State :=
    let c := cs.getD i 0
    (s.wordRefuse x (ws.getD i { a := 0 }) c).frameStop x (codeStatus c) (f.infoOf c i)
  match first (· == 2), first (· != 0) with
  | some i, _ => stop i
  | none, some i => stop i
  | none, none =>
    if ws.any fun w => s.busyAt w.a w.write then s.frameStop x 1 2
    else s.frameBudget x ws ok

/-! ### HELLO, STREAM (R102, R103, R115, R116) -/

/-- The version agreed (R102). -/
def agreed (hostMax : Nat) : Nat :=
  let m := min hostMax 0x20
  if 0x20 ≤ m then 0x20 else if 0x11 ≤ m then 0x11 else 0x10

/-- HELLO is answered. DESIGN CHOICE (assumption log 77): bits of the request word other than HOST_MAX and QUAD are ignored; R102
says only that they are 0. -/
def State.hostHello (s : State) (x w : Nat) : State :=
  let v := agreed (bits w 24 8)
  let q := bitN w 16
  s.modFrame x fun f => { f with data := [0x20 * 2 ^ 24 + v * 2 ^ 16 + q, s.liveWord x 0 0x40], fin := true }

/-- STREAM (R116): the words it returns are fixed as it is tested. -/
def State.hostStream (s : State) (x : Nat) (f : HFrame) (rep : Bool) : State :=
  let q := f.addr
  if 7 < q ∨ !s.mbqUsable x q then s.frameStop x 4 0
  else
    let rsvd := s.rd (HOST_MBQ_STAT_RSVD_W x q)
    let level := s.mbqLevel x q
    let head := s.rd (HOST_MBQ_PTR_HEAD x q)
    let start := if rep then head else head + rsvd
    let avail := if rep then rsvd else level - rsvd
    let n := min f.len avail
    let left := if rep then level else level - rsvd
    let f := { f with pay := (List.range n).map (fun i => s.mbqAddr x q (start + i)), more := decide (n < left) }
    let s := s.modFrame x fun _ => f
    s.frameTest x f fun s => if rep then s else (s.mbqRelease x q).wr (HOST_MBQ_STAT_RSVD_W x q) n

/-! ### A frame is received (R94, R98) -/

/-- The request frame of a select period: the port enters EXEC, checks it and begins to execute it. DESIGN CHOICE (assumption log
78): PG_IFLAG.HDR_CRC and PAY_CRC are set with the counters of their names, PROTO with ERR_CNT.PROTO; a length error sets none. -/
def State.hostFrame (s : State) (x : Nat) (r : Frame) : State :=
  let h := r.hdr.toNat
  let ws := r.payload.map (·.toNat)
  let f : HFrame := { op := bits h 56 8, len := bits h 48 8, addr := bits h 16 32, tag := bits h 12 4, fixed := bit h 8, pay := ws, at_ := s.now }
  let s := (s.modHs x fun y => { y with frame := some f, resp := none, hello := none, brk := false }).hostTo x 3
  let n := impliedLen f.op f.len
  let whole := decide (64 ≤ r.bits)
  if whole && hdrCrc8 h != h % 256 then ((s.inc (HOST_ERR_CNT_HDR_CRC x)).iflag (8 + x) 0).frameStop x 3 1
  else
    let s := if whole then s.modHs x fun y => { y with heard := s.tb } else s
    if r.bits ≠ frameBits n ∨ ws.length ≠ n then (s.inc (HOST_ERR_CNT_LEN_ERR x)).frameStop x 3 3
    else if n ≠ 0 ∧ trailerCrc ws ≠ r.trailer.toNat then ((s.inc (HOST_ERR_CNT_PAY_CRC x)).iflag (8 + x) 1).frameStop x 3 2
    else
      let ver := s.rd (HOST_PORT_STAT_VER x)
      match opInfo f.op with
      | none => s.frameStop x 5 0x20
      | some (v, lo, hi) =>
        let rep := bit h 9
        if ver < v ∨ bits h 10 2 ≠ 0 ∨ (rep ∧ f.op ≠ 0x20) ∨ (f.op = 0x01 ∧ bits (ws.getD 0 0) 24 8 < 0x10) then s.frameStop x 5 0x20
        else if f.len < lo ∨ hi < f.len then s.frameStop x 6 hi
        else
          match f.op with
          | 0x01 => if f.addr ≠ 0 then s.frameStop x 4 0 else s.hostHello x (ws.getD 0 0)
          | 0x40 => if f.addr ≠ 0 then s.frameStop x 4 0 else s.frameStop x 0 0
          | 0x20 => s.hostStream x f rep
          | 0x30 => if f.addr % 8 ≠ 0 then s.frameStop x 4 0 else s.frameTest x f id
          | _ => s.frameTest x f id

/-! ### Attestation (R483 to R486) -/

/-- A live register word, 0 where there is no register. -/
def State.liveAt (s : State) (p o : Nat) : Nat := if (fieldsAt p o).isSome then s.liveWord 0 p o else 0

/-- The words that CFG_HASH covers (R485): for each page its access table and its lock; a budget index that is reserved as 0. -/
def State.cfgWords (s : State) : List Nat :=
  (List.range 256).flatMap (fun p => [s.liveAt p 0x28, s.liveAt p 0x2C]) ++
  (List.range 19).map (fun i => s.liveAt 0 (0x80 + 4 * i)) ++
  (List.range 4).map (fun i => s.rd (OUT_SAFE_SAFE i)) ++ [s.liveAt 0x38 0x48, s.liveAt 4 0x40, s.liveAt 4 0xA0] ++
  (List.range 256).map s.kcfgWord ++ [s.liveAt 5 0x50] ++
  (List.range 63).map fun n =>
    let b := s.bset n
    if n < 48 ∧ 11 ≤ n % 16 then 0 else b2n b.slack * 2 ^ 31 + b.ceil % 8192 * 2 ^ 16 + b.floor % 8192

/-- Words 0 to 47 of the report, over a host nonce. -/
def State.attWords (s : State) (nonce : List Nat) : List Nat :=
  let img := s.bootSt == 0x20
  let fe := if s.on FLT_FLT_STAT_FE_VALID then some s.flt.fe else none
  let hash := (List.range 12).map fun i => if img then s.rd (SEC_IMG_HASH_HASH i) else 0
  [0x00010000 + 72 * 256 + s.bootSt, s.rd SEC_UID_HI_UID, s.rd SEC_UID_LO_UID, s.liveWord 0 0 0x40,
   s.rd SEC_OTP_STAT_RB_CNT * 2 ^ 24 + s.rd SEC_OTP_STAT_REVOKED * 2 ^ 20 + (if img then s.rd SEC_IMG_STAT_SIGNER else 15) * 2 ^ 16 +
     s.rd SEC_OTP_STAT_BOOT_CNT,
   if img then s.rd SEC_IMG_VER_VER else 0, s.tb / 2 ^ 32 % 2 ^ 32, s.tb % 2 ^ 32] ++
  (List.range 12).map (fun i => nonce.getD i 0) ++ hash ++ shaWords s.cfgWords ++
  [s.rd FLT_FLT_STAT_FE_VALID * 2 ^ 31 + s.rd FLT_FLT_STAT_PKG_CRIMSON * 2 ^ 30 + bitN (recWord fe 2) 19 * 2 ^ 29 +
     b2n (s.rd OUT_ARM_STAT_STATE == 2) * 2 ^ 28 + s.rd MAINT_LMAP1_SLATE * 2 ^ 16 + s.rd MAINT_MIG_TIME_COUNT,
   recWord fe 1, recWord fe 0, recWord fe 2]

/-- The 12 words of a number of 384 bits. -/
def words12 (n : Nat) : List Nat := (List.range 12).map fun i => n / 2 ^ (32 * (11 - i)) % 2 ^ 32

/-- The signed report. -/
def State.attReport (s : State) (nonce : List Nat) : List Nat :=
  let ws := s.attWords nonce
  let (r, t) := ecSign Config.identityKey (sha384 (ws.flatMap (bytesBE 4)))
  ws ++ words12 r ++ words12 t

/-! ### The response (R92, R99, R105) -/

/-- The response frame of a frame that has ended. LEN echoes a header whose check failed. -/
def State.hostResp (s : State) (x : Nat) (f : HFrame) : HResp :=
  let len := if f.status = 3 ∧ f.info = 1 then f.len else f.data.length
  { hdr := s.respHdr x f.op len f.status f.info f.tag f.more f.part, pay := f.data, trailer := if f.data.isEmpty then none else some (trailerCrc f.data) }

/-- The signer still serves the other port's report, which arrived earlier, or in the same CORE cycle on HA (R486). -/
def State.signerBusy (s : State) (x : Nat) (f : HFrame) : Bool :=
  s.hostState (1 - x) == 3 &&
  match (s.hs (1 - x)).frame with
  | some g => g.op == 0x40 && g.status == 0 && g.fin && (decide (g.at_ < f.at_) || (g.at_ == f.at_ && x == 1))
  | none => false

/-- The frame has ended: its response is ready, or a lane break discards it. -/
def State.hostReady (s : State) (x : Nat) : State :=
  if s.hostState x ≠ 3 then s
  else
    let s := s.hostRun x
    match (s.hs x).frame with
    | none => s
    | some f =>
      if !f.fin then s
      else
        let att := f.op == 0x40 && f.status == 0
        if att && s.signerBusy x f then s
        else
        let f := if att then { f with data := s.attReport f.pay } else f
        let s := if att then s.inc SEC_ATT_CNT_COUNT else s
        if (s.hs x).brk then s.hostIdle x
        else
          let s := if f.status = 1 then s.inc (HOST_RESP_CNT_BUSY_CNT x) else s
          let resp := s.hostResp x f
          let hello := if f.op = 0x01 ∧ f.status = 0 then
              some (bits (f.data.getD 0 0) 16 8, bit (f.data.getD 0 0) 0)
            else none
          (s.modHs x fun h => { h with frame := none, resp := some resp, hello }).hostTo x 4

/-- Hx_CS_N rises in SEND (R105). -/
def State.hostSent (s : State) (x : Nat) (complete : Bool) : State :=
  if s.hostState x ≠ 5 then s
  else if !complete then (s.inc (HOST_RESP_CNT_SHORT x)).hostTo x 4
  else
    let s := match (s.hs x).hello with
      | some (v, q) => (s.wr (HOST_PORT_STAT_VER x) v).wr (HOST_PORT_STAT_QUAD x) (b2n q)
      | none => s
    s.hostIdle x

/-! ### The lanes (R87 to R89) -/

/-- The low `w` bits of a value, most significant first. -/
def bitsMsb (w v : Nat) : List Bool := (List.range w).map fun i => bit v (w - 1 - i)

/-- The value that bits spell, most significant first. -/
def ofBitsMsb (bs : List Bool) : Nat := bs.foldl (fun n b => 2 * n + b2n b) 0

/-- The bits of a response in the order in which they are sent. -/
def HResp.wire (r : HResp) : List Bool :=
  bitsMsb 64 r.hdr ++ r.pay.flatMap (bitsMsb 32) ++ (r.trailer.map (bitsMsb 16)).getD []

/-- The Hx_IO lines that the device drives: Hx_IO1 in single-lane mode, all four in quad mode, and none outside a response phase
(R89). -/
def State.hostDriven (s : State) (x : Nat) : List Nat :=
  if hostOk s && s.hostState x == 5 then (if s.on (HOST_PORT_STAT_QUAD x) then [0, 1, 2, 3] else [1]) else []

/-- The level of Hx_IO line `i` at rising clock edge `k` of a response phase, where the device drives it and the response has a
bit there: in quad mode a nibble a clock with the most significant bit on Hx_IO3 (R88). -/
def State.hostLine (s : State) (x k i : Nat) : Option Bool :=
  if (s.hostDriven x).contains i then
    (s.hs x).resp.bind fun r => r.wire[if s.on (HOST_PORT_STAT_QUAD x) then 4 * k + (3 - i) else k]?
  else none

/-- The request that the levels of Hx_IO3 to Hx_IO0 (bits 3 to 0) at the rising clock edges of a select period spell, in the lane
mode of the port (R87, R88). -/
def Frame.ofLines (quad : Bool) (ks : List Nat) : Frame :=
  let bs := if quad then ks.flatMap (bitsMsb 4) else ks.map fun k => bit k 0
  let n := (bs.length - 80) / 32
  { hdr := BitVec.ofNat 64 (ofBitsMsb (bs.take 64)),
    payload := (List.range n).map fun i => BitVec.ofNat 32 (ofBitsMsb ((bs.drop (64 + 32 * i)).take 32)),
    trailer := BitVec.ofNat 16 (ofBitsMsb ((bs.drop (64 + 32 * n)).take 16)), bits := bs.length }

/-! ### The commands -/

/-- A frame on port `x`, where the port receives and the opcode is one that `op` takes. -/
def State.frameRow (s : State) (x : Nat) (r : Frame) (op : Nat → Bool) : State :=
  if s.hostState x == 2 && op (bits r.hdr.toNat 56 8) then s.hostFrame x r else s

/-- HELLO (R102, R103). -/
def execHello (t : Nat) (x : Port) (f : Frame) (s : State) : Out := s.act t hostOk fun s => s.frameRow x f fun o => o == 0x01

/-- READ (R96, R98). -/
def execHostRead (t : Nat) (x : Port) (f : Frame) (s : State) : Out := s.act t hostOk fun s => s.frameRow x f fun o => o == 0x10

/-- WRITE (R96, R98). -/
def execHostWrite (t : Nat) (x : Port) (f : Frame) (s : State) : Out := s.act t hostOk fun s => s.frameRow x f fun o => o == 0x11

/-- MASKWRITE (R96, R98). -/
def execHostMaskWrite (t : Nat) (x : Port) (f : Frame) (s : State) : Out := s.act t hostOk fun s => s.frameRow x f fun o => o == 0x12

/-- STREAM (R115, R116). -/
def execHostStream (t : Nat) (x : Port) (f : Frame) (s : State) : Out := s.act t hostOk fun s => s.frameRow x f fun o => o == 0x20

/-- SNAP64 (R97). -/
def execHostSnap64 (t : Nat) (x : Port) (f : Frame) (s : State) : Out := s.act t hostOk fun s => s.frameRow x f fun o => o == 0x30

/-- ATTEST (R484). -/
def execHostAttest (t : Nat) (x : Port) (f : Frame) (s : State) : Out := s.act t hostOk fun s => s.frameRow x f fun o => o == 0x40

/-- A frame with an opcode that the device does not know, or that the version in force does not have (R95). -/
def execHostUnknown (t : Nat) (x : Port) (f : Frame) (s : State) : Out :=
  s.act t hostOk fun s =>
    s.frameRow x f fun o => match opInfo o with
      | none => true
      | some (v, _) => decide (s.rd (HOST_PORT_STAT_VER x) < v)

/-- FRAME_BOUNDARY (R50 to R55); a frame that runs across budget frames goes on (R57). -/
def execFrameBoundary (t : Nat) (s : State) : Out :=
  s.act t (State.tbd 3) fun s =>
    let s := s.frameStart
    if hostOk s then (s.hostRun 0).hostRun 1 else s

/-- RESPONSE_READY (R105). -/
def execResponseReady (t : Nat) (x : Port) (s : State) : Out := s.act t hostOk fun s => s.hostReady x

/-- RESPONSE_SEND_END (R105). -/
def execResponseSendEnd (t : Nat) (x : Port) (complete : Bool) (s : State) : Out := s.act t hostOk fun s => s.hostSent x complete

end Sys2Proof.Machine
end

