-- ==== Sys2Proof/Machine/Dispatch.lean ====
section
/-! DEFINITION. Which meaning each command has: one arm per constructor. -/

namespace Sys2Proof.Machine

/-- The effect of a command on everything but the queue. -/
def exec (i : Instr) (s : State) : Host.Outcome State Fault Refusal :=
  match i with
  | .regWrite t m addr v => Sys2Proof.Machine.execRegWrite t m addr v s
  | .freezeWrite t m page on => Sys2Proof.Machine.execFreezeWrite t m page on s
  | .pgFaultClear t m page => Sys2Proof.Machine.execPgFaultClear t m page s
  | .pageLock t m page => Sys2Proof.Machine.execPageLock t m page s
  | .accessTableWrite t m addr v => Sys2Proof.Machine.execAccessTableWrite t m addr v s
  | .wideLowRead t m addr => Sys2Proof.Machine.execWideLowRead t m addr s
  | .wideHighWrite t m addr v => Sys2Proof.Machine.execWideHighWrite t m addr v s
  | .wideLowWrite t m addr v => Sys2Proof.Machine.execWideLowWrite t m addr v s
  | .softRst t m page v => Sys2Proof.Machine.execSoftRst t m page v s
  | .unitResetComplete t page => Sys2Proof.Machine.execUnitResetComplete t page s
  | .pageDisable t m page => Sys2Proof.Machine.execPageDisable t m page s
  | .domainDroop t d => Sys2Proof.Machine.execDomainDroop t d s
  | .domainDroopRelease t d => Sys2Proof.Machine.execDomainDroopRelease t d s
  | .deviceReset t => Sys2Proof.Machine.execDeviceReset t s
  | .resetRelease t cascId men => Sys2Proof.Machine.execResetRelease t cascId men s
  | .selftestDone t lbistOk mbistOk otpOk => Sys2Proof.Machine.execSelftestDone t lbistOk mbistOk otpOk s
  | .trefFail t criterion => Sys2Proof.Machine.execTrefFail t criterion s
  | .dlCalDone t => Sys2Proof.Machine.execDlCalDone t s
  | .tbRestore t m => Sys2Proof.Machine.execTbRestore t m s
  | .tbRestoreSwitch t => Sys2Proof.Machine.execTbRestoreSwitch t s
  | .xinLoss t => Sys2Proof.Machine.execXinLoss t s
  | .lfLoss t => Sys2Proof.Machine.execLfLoss t s
  | .sleepRequest t m v => Sys2Proof.Machine.execSleepRequest t m v s
  | .dhaltEnter t m tck v => Sys2Proof.Machine.execDhaltEnter t m tck v s
  | .dhaltExit t m tck v => Sys2Proof.Machine.execDhaltExit t m tck v s
  | .lfModeEntry t => Sys2Proof.Machine.execLfModeEntry t s
  | .lfModeExit t => Sys2Proof.Machine.execLfModeExit t s
  | .lfStep t => Sys2Proof.Machine.execLfStep t s
  | .wake t w => Sys2Proof.Machine.execWake t w s
  | .wakeComplete t => Sys2Proof.Machine.execWakeComplete t s
  | .frameBoundary t => Sys2Proof.Machine.execFrameBoundary t s
  | .commit t m => Sys2Proof.Machine.execCommit t m s
  | .cmdQueueArrival t g => Sys2Proof.Machine.execCmdQueueArrival t g s
  | .hostCsFall t x => Sys2Proof.Machine.execHostCsFall t x s
  | .laneBreak t x => Sys2Proof.Machine.execLaneBreak t x s
  | .hello t x f => Sys2Proof.Machine.execHello t x f s
  | .hostRead t x f => Sys2Proof.Machine.execHostRead t x f s
  | .hostWrite t x f => Sys2Proof.Machine.execHostWrite t x f s
  | .hostMaskWrite t x f => Sys2Proof.Machine.execHostMaskWrite t x f s
  | .hostStream t x f => Sys2Proof.Machine.execHostStream t x f s
  | .hostSnap64 t x f => Sys2Proof.Machine.execHostSnap64 t x f s
  | .hostAttest t x f => Sys2Proof.Machine.execHostAttest t x f s
  | .hostUnknown t x f => Sys2Proof.Machine.execHostUnknown t x f s
  | .responseReady t x => Sys2Proof.Machine.execResponseReady t x s
  | .responseSendEnd t x complete => Sys2Proof.Machine.execResponseSendEnd t x complete s
  | .attnPulse t x => Sys2Proof.Machine.execAttnPulse t x s
  | .hostSilence t x => Sys2Proof.Machine.execHostSilence t x s
  | .ipendClear t m x k v => Sys2Proof.Machine.execIpendClear t m x k v s
  | .mbqRelease t m x n => Sys2Proof.Machine.execMbqRelease t m x n s
  | .mbqConfigure t m x n v => Sys2Proof.Machine.execMbqConfigure t m x n v s
  | .posEnable t m p => Sys2Proof.Machine.execPosEnable t m p s
  | .posEdge t p pin lvl mv => Sys2Proof.Machine.execPosEdge t p pin lvl mv s
  | .posDeferredEdge t p pin => Sys2Proof.Machine.execPosDeferredEdge t p pin s
  | .posIndex t p => Sys2Proof.Machine.execPosIndex t p s
  | .posLoad t m p => Sys2Proof.Machine.execPosLoad t m p s
  | .vrArmHalve t p => Sys2Proof.Machine.execVrArmHalve t p s
  | .speedFallbackWindow t p => Sys2Proof.Machine.execSpeedFallbackWindow t p s
  | .posStuck t p => Sys2Proof.Machine.execPosStuck t p s
  | .ssiTrig t m p aHigh => Sys2Proof.Machine.execSsiTrig t m p aHigh s
  | .ssiPeriodStart t p router aHigh => Sys2Proof.Machine.execSsiPeriodStart t p router aHigh s
  | .ssiWord t p bits => Sys2Proof.Machine.execSsiWord t p bits s
  | .ssiTimeout t p => Sys2Proof.Machine.execSsiTimeout t p s
  | .sentFrame t p sync nibbles pause extra => Sys2Proof.Machine.execSentFrame t p sync nibbles pause extra s
  | .trkEnable t m => Sys2Proof.Machine.execTrkEnable t m s
  | .trkCrankEdge t b => Sys2Proof.Machine.execTrkCrankEdge t b s
  | .trkCamEdge t pos3 => Sys2Proof.Machine.execTrkCamEdge t pos3 s
  | .camWindowClose t j => Sys2Proof.Machine.execCamWindowClose t j s
  | .candidateConfirm t laneS => Sys2Proof.Machine.execCandidateConfirm t laneS s
  | .trkHalted t => Sys2Proof.Machine.execTrkHalted t s
  | .haltLimit t laneS => Sys2Proof.Machine.execHaltLimit t laneS s
  | .trkStall t => Sys2Proof.Machine.execTrkStall t s
  | .microTick t => Sys2Proof.Machine.execMicroTick t s
  | .selReq t m laneS => Sys2Proof.Machine.execSelReq t m laneS s
  | .tblDataAccess t m w => Sys2Proof.Machine.execTblDataAccess t m w s
  | .tblCommit t m => Sys2Proof.Machine.execTblCommit t m s
  | .learnReq t m => Sys2Proof.Machine.execLearnReq t m s
  | .learnAbort t m => Sys2Proof.Machine.execLearnAbort t m s
  | .learnDone t => Sys2Proof.Machine.execLearnDone t s
  | .evtWordStage t m ix w v => Sys2Proof.Machine.execEvtWordStage t m ix w v s
  | .evtCommit t m ix v => Sys2Proof.Machine.execEvtCommit t m ix v s
  | .evtCommitEffect t ix => Sys2Proof.Machine.execEvtCommitEffect t ix s
  | .occurrenceSlotArrival t ix => Sys2Proof.Machine.execOccurrenceSlotArrival t ix s
  | .evtPinSet t ix => Sys2Proof.Machine.execEvtPinSet t ix s
  | .evtPinClr t ix => Sys2Proof.Machine.execEvtPinClr t ix s
  | .evtPulseT t ix => Sys2Proof.Machine.execEvtPulseT t ix s
  | .evtPulseTEnd t ch => Sys2Proof.Machine.execEvtPulseTEnd t ch s
  | .evtPulseA t ix => Sys2Proof.Machine.execEvtPulseA t ix s
  | .evtPulseAEnd t ch => Sys2Proof.Machine.execEvtPulseAEnd t ch s
  | .evtDwell t ix => Sys2Proof.Machine.execEvtDwell t ix s
  | .evtDwellSpark t ix => Sys2Proof.Machine.execEvtDwellSpark t ix s
  | .evtDwellMaxEnd t ch => Sys2Proof.Machine.execEvtDwellMaxEnd t ch s
  | .evtSrq t ix => Sys2Proof.Machine.execEvtSrq t ix s
  | .evtConvStart t ix => Sys2Proof.Machine.execEvtConvStart t ix s
  | .evtConvWin t ix => Sys2Proof.Machine.execEvtConvWin t ix s
  | .evtCmuMark t ix => Sys2Proof.Machine.execEvtCmuMark t ix s
  | .evtOut t ix => Sys2Proof.Machine.execEvtOut t ix s
  | .evtLinkBcast t ix => Sys2Proof.Machine.execEvtLinkBcast t ix s
  | .evtRun t m => Sys2Proof.Machine.execEvtRun t m s
  | .evtStop t m => Sys2Proof.Machine.execEvtStop t m s
  | .hostSrq t m p param => Sys2Proof.Machine.execHostSrq t m p param s
  | .channelEnable t m p => Sys2Proof.Machine.execChannelEnable t m p s
  | .channelDisable t m p => Sys2Proof.Machine.execChannelDisable t m p s
  | .softOffEnd t g => Sys2Proof.Machine.execSoftOffEnd t g s
  | .channelCapture t p k ev => Sys2Proof.Machine.execChannelCapture t p k ev s
  | .timeMatchFire t p => Sys2Proof.Machine.execTimeMatchFire t p s
  | .angleMatchFire t p => Sys2Proof.Machine.execAngleMatchFire t p s
  | .coupledMatchFire t p => Sys2Proof.Machine.execCoupledMatchFire t p s
  | .threadGrant t g => Sys2Proof.Machine.execThreadGrant t g s
  | .threadTmax t g => Sys2Proof.Machine.execThreadTmax t g s
  | .gelAdd t g => Sys2Proof.Machine.execGelAdd t g s
  | .gelSub t g => Sys2Proof.Machine.execGelSub t g s
  | .gelAnd t g => Sys2Proof.Machine.execGelAnd t g s
  | .gelOr t g => Sys2Proof.Machine.execGelOr t g s
  | .gelXor t g => Sys2Proof.Machine.execGelXor t g s
  | .gelShl t g => Sys2Proof.Machine.execGelShl t g s
  | .gelShr t g => Sys2Proof.Machine.execGelShr t g s
  | .gelSar t g => Sys2Proof.Machine.execGelSar t g s
  | .gelMul t g => Sys2Proof.Machine.execGelMul t g s
  | .gelMulq t g => Sys2Proof.Machine.execGelMulq t g s
  | .gelMin t g => Sys2Proof.Machine.execGelMin t g s
  | .gelMax t g => Sys2Proof.Machine.execGelMax t g s
  | .gelCmp t g => Sys2Proof.Machine.execGelCmp t g s
  | .gelMov t g => Sys2Proof.Machine.execGelMov t g s
  | .gelAdda t g => Sys2Proof.Machine.execGelAdda t g s
  | .gelLdh t g => Sys2Proof.Machine.execGelLdh t g s
  | .gelLdp t g => Sys2Proof.Machine.execGelLdp t g s
  | .gelStp t g => Sys2Proof.Machine.execGelStp t g s
  | .gelLdm t g => Sys2Proof.Machine.execGelLdm t g s
  | .gelStm t g => Sys2Proof.Machine.execGelStm t g s
  | .gelMemComplete t g => Sys2Proof.Machine.execGelMemComplete t g s
  | .gelA2t t g => Sys2Proof.Machine.execGelA2t t g s
  | .gelA2d t g => Sys2Proof.Machine.execGelA2d t g s
  | .gelQput t g => Sys2Proof.Machine.execGelQput t g s
  | .gelLnk t g => Sys2Proof.Machine.execGelLnk t g s
  | .gelSmt t g => Sys2Proof.Machine.execGelSmt t g s
  | .gelSma t g => Sys2Proof.Machine.execGelSma t g s
  | .gelSmc t g => Sys2Proof.Machine.execGelSmc t g s
  | .gelPin t g => Sys2Proof.Machine.execGelPin t g s
  | .gelRdcCap0Time t g => Sys2Proof.Machine.execGelRdcCap0Time t g s
  | .gelRdcCap0Angle t g => Sys2Proof.Machine.execGelRdcCap0Angle t g s
  | .gelRdcCap1Time t g => Sys2Proof.Machine.execGelRdcCap1Time t g s
  | .gelRdcCap1Angle t g => Sys2Proof.Machine.execGelRdcCap1Angle t g s
  | .gelRdsTbvLo t g => Sys2Proof.Machine.execGelRdsTbvLo t g s
  | .gelRdsTbvHi t g => Sys2Proof.Machine.execGelRdsTbvHi t g s
  | .gelRdsAngle t g => Sys2Proof.Machine.execGelRdsAngle t g s
  | .gelRdsSnapshot t g => Sys2Proof.Machine.execGelRdsSnapshot t g s
  | .gelRdsChStat t g => Sys2Proof.Machine.execGelRdsChStat t g s
  | .gelRdsSrqTime t g => Sys2Proof.Machine.execGelRdsSrqTime t g s
  | .gelRdsSrqParam t g => Sys2Proof.Machine.execGelRdsSrqParam t g s
  | .gelRdsCycCnt t g => Sys2Proof.Machine.execGelRdsCycCnt t g s
  | .gelChcRel t g => Sys2Proof.Machine.execGelChcRel t g s
  | .gelChcDisarmTime t g => Sys2Proof.Machine.execGelChcDisarmTime t g s
  | .gelChcDisarmAngle t g => Sys2Proof.Machine.execGelChcDisarmAngle t g s
  | .gelChcArmSrqAction t g => Sys2Proof.Machine.execGelChcArmSrqAction t g s
  | .gelAdj t g => Sys2Proof.Machine.execGelAdj t g s
  | .gelBr t g => Sys2Proof.Machine.execGelBr t g s
  | .gelBf t g => Sys2Proof.Machine.execGelBf t g s
  | .gelCall t g => Sys2Proof.Machine.execGelCall t g s
  | .gelRet t g => Sys2Proof.Machine.execGelRet t g s
  | .gelBrk t g => Sys2Proof.Machine.execGelBrk t g s
  | .gelYield t g => Sys2Proof.Machine.execGelYield t g s
  | .gelEnd t g => Sys2Proof.Machine.execGelEnd t g s
  | .gelIllegal t g => Sys2Proof.Machine.execGelIllegal t g s
  | .gelStoreError t g => Sys2Proof.Machine.execGelStoreError t g s
  | .gelEnable t m g => Sys2Proof.Machine.execGelEnable t m g s
  | .gelHalt t g m => Sys2Proof.Machine.execGelHalt t g m s
  | .gelStep t m g => Sys2Proof.Machine.execGelStep t m g s
  | .gelResume t m g => Sys2Proof.Machine.execGelResume t m g s
  | .outArm t m key => Sys2Proof.Machine.execOutArm t m key s
  | .outDisarm t m key => Sys2Proof.Machine.execOutDisarm t m key s
  | .dpermitAToggle t => Sys2Proof.Machine.execDpermitAToggle t s
  | .dpermitBToggle t => Sys2Proof.Machine.execDpermitBToggle t s
  | .bankEnable t m k => Sys2Proof.Machine.execBankEnable t m k s
  | .slotCommandRise t k sl => Sys2Proof.Machine.execSlotCommandRise t k sl s
  | .slotCommandFall t k sl => Sys2Proof.Machine.execSlotCommandFall t k sl s
  | .bankCmpARise t k => Sys2Proof.Machine.execBankCmpARise t k s
  | .bankCmpBFall t k => Sys2Proof.Machine.execBankCmpBFall t k s
  | .slotTPeak t k sl => Sys2Proof.Machine.execSlotTPeak t k sl s
  | .slotTBoostMax t k sl => Sys2Proof.Machine.execSlotTBoostMax t k sl s
  | .slotTQmax t k sl => Sys2Proof.Machine.execSlotTQmax t k sl s
  | .slotTperMin t k => Sys2Proof.Machine.execSlotTperMin t k s
  | .slotLockClear t m k sl => Sys2Proof.Machine.execSlotLockClear t m k sl s
  | .cbcEnable t m x => Sys2Proof.Machine.execCbcEnable t m x s
  | .convCtrlStart t m x e => Sys2Proof.Machine.execConvCtrlStart t m x e s
  | .convUrgent t m x e => Sys2Proof.Machine.execConvUrgent t m x e s
  | .convStop t m x => Sys2Proof.Machine.execConvStop t m x s
  | .convRouterStart t x => Sys2Proof.Machine.execConvRouterStart t x s
  | .convRouterUrgent t x => Sys2Proof.Machine.execConvRouterUrgent t x s
  | .convBoundary t x => Sys2Proof.Machine.execConvBoundary t x s
  | .convWindowTimeEnd t x => Sys2Proof.Machine.execConvWindowTimeEnd t x s
  | .convWindowLong t x => Sys2Proof.Machine.execConvWindowLong t x s
  | .convResult t x raw ovr => Sys2Proof.Machine.execConvResult t x raw ovr s
  | .resultRead t m x e => Sys2Proof.Machine.execResultRead t m x e s
  | .vrefEnable t m on => Sys2Proof.Machine.execVrefEnable t m on s
  | .vrefWarm t => Sys2Proof.Machine.execVrefWarm t s
  | .vrefOkChange t ok => Sys2Proof.Machine.execVrefOkChange t ok s
  | .mainsEdge t => Sys2Proof.Machine.execMainsEdge t s
  | .mainsTimeout t => Sys2Proof.Machine.execMainsTimeout t s
  | .calReq t m x preempt => Sys2Proof.Machine.execCalReq t m x preempt s
  | .calStart t x => Sys2Proof.Machine.execCalStart t x s
  | .calEnd t x raws => Sys2Proof.Machine.execCalEnd t x raws s
  | .calAbort t m x => Sys2Proof.Machine.execCalAbort t m x s
  | .cmpEnable t m n v inBand => Sys2Proof.Machine.execCmpEnable t m n v inBand s
  | .cmpRefWrite t m n v => Sys2Proof.Machine.execCmpRefWrite t m n v s
  | .cmpLevelChange t n lvl => Sys2Proof.Machine.execCmpLevelChange t n lvl s
  | .cmpSampleWindowEnd t n lvl => Sys2Proof.Machine.execCmpSampleWindowEnd t n lvl s
  | .cmpStReq t m => Sys2Proof.Machine.execCmpStReq t m s
  | .cmpSelftestStep t raw => Sys2Proof.Machine.execCmpSelftestStep t raw s
  | .cmpStAbort t m => Sys2Proof.Machine.execCmpStAbort t m s
  | .cylEnable t m k => Sys2Proof.Machine.execCylEnable t m k s
  | .cmuSample t k => Sys2Proof.Machine.execCmuSample t k s
  | .pegOpen t k => Sys2Proof.Machine.execPegOpen t k s
  | .pegClose t k => Sys2Proof.Machine.execPegClose t k s
  | .cmuClose t k => Sys2Proof.Machine.execCmuClose t k s
  | .cmuRecordReady t k => Sys2Proof.Machine.execCmuRecordReady t k s
  | .cmuTrimWrite t k timing => Sys2Proof.Machine.execCmuTrimWrite t k timing s
  | .cmuRecordPost t k => Sys2Proof.Machine.execCmuRecordPost t k s
  | .volDataAccess t m w => Sys2Proof.Machine.execVolDataAccess t m w s
  | .volCommit t m => Sys2Proof.Machine.execVolCommit t m s
  | .volTableReady t => Sys2Proof.Machine.execVolTableReady t s
  | .rcReq t m k => Sys2Proof.Machine.execRcReq t m k s
  | .recomputeDone t => Sys2Proof.Machine.execRecomputeDone t s
  | .loopEnable t m k v => Sys2Proof.Machine.execLoopEnable t m k v s
  | .sbufRead t m => Sys2Proof.Machine.execSbufRead t m s
  | .cylStatusRead t m k => Sys2Proof.Machine.execCylStatusRead t m k s
  | .alarmWrite t m v => Sys2Proof.Machine.execAlarmWrite t m v s
  | .alarmFire t => Sys2Proof.Machine.execAlarmFire t s
  | .gptEnable t m n v => Sys2Proof.Machine.execGptEnable t m n v s
  | .gptWrap t n => Sys2Proof.Machine.execGptWrap t n s
  | .gptMatch t n => Sys2Proof.Machine.execGptMatch t n s
  | .gptTriggerReset t n => Sys2Proof.Machine.execGptTriggerReset t n s
  | .gptCmpWrite t m n v => Sys2Proof.Machine.execGptCmpWrite t m n v s
  | .gptCapture t n ti => Sys2Proof.Machine.execGptCapture t n ti s
  | .capqRead t m n => Sys2Proof.Machine.execCapqRead t m n s
  | .gptSnap t m v => Sys2Proof.Machine.execGptSnap t m v s
  | .routerEvent t src => Sys2Proof.Machine.execRouterEvent t src s
  | .dstCfgWrite t m d v => Sys2Proof.Machine.execDstCfgWrite t m d v s
  | .swTrig t m v => Sys2Proof.Machine.execSwTrig t m v s
  | .dmaChCfgWrite t m c v => Sys2Proof.Machine.execDmaChCfgWrite t m c v s
  | .dmaStart t m c => Sys2Proof.Machine.execDmaStart t m c s
  | .dmaStop t m c => Sys2Proof.Machine.execDmaStop t m c s
  | .dmaTrigger t c => Sys2Proof.Machine.execDmaTrigger t c s
  | .dmaBurstGrant t => Sys2Proof.Machine.execDmaBurstGrant t s
  | .dmaBurstWritten t => Sys2Proof.Machine.execDmaBurstWritten t s
  | .dmaComplete t c => Sys2Proof.Machine.execDmaComplete t c s
  | .dmaDescLoad t c => Sys2Proof.Machine.execDmaDescLoad t c s
  | .dmaBeatError t kind => Sys2Proof.Machine.execDmaBeatError t kind s
  | .dmaPfbError t => Sys2Proof.Machine.execDmaPfbError t s
  | .dmaFence t m c => Sys2Proof.Machine.execDmaFence t m c s
  | .dmaFenceDone t => Sys2Proof.Machine.execDmaFenceDone t s
  | .pioEngineEnable t m x => Sys2Proof.Machine.execPioEngineEnable t m x s
  | .pioEngineStop t m x => Sys2Proof.Machine.execPioEngineStop t m x s
  | .pioSlotEnable t m x sl => Sys2Proof.Machine.execPioSlotEnable t m x sl s
  | .pioSlotStop t m x sl => Sys2Proof.Machine.execPioSlotStop t m x sl s
  | .pioDrv t x sl => Sys2Proof.Machine.execPioDrv t x sl s
  | .pioDir t x sl => Sys2Proof.Machine.execPioDir t x sl s
  | .pioSho t x sl => Sys2Proof.Machine.execPioSho t x sl s
  | .pioShi t x sl pins => Sys2Proof.Machine.execPioShi t x sl pins s
  | .pioTake t x sl => Sys2Proof.Machine.execPioTake t x sl s
  | .pioTakeNb t x sl => Sys2Proof.Machine.execPioTakeNb t x sl s
  | .pioPut t x sl => Sys2Proof.Machine.execPioPut t x sl s
  | .pioPutNb t x sl => Sys2Proof.Machine.execPioPutNb t x sl s
  | .pioSetk t x sl => Sys2Proof.Machine.execPioSetk t x sl s
  | .pioLoop t x sl => Sys2Proof.Machine.execPioLoop t x sl s
  | .pioBr t x sl pins => Sys2Proof.Machine.execPioBr t x sl pins s
  | .pioWaite t x sl pins => Sys2Proof.Machine.execPioWaite t x sl pins s
  | .pioWaitf t x sl => Sys2Proof.Machine.execPioWaitf t x sl s
  | .pioSigSet t x sl => Sys2Proof.Machine.execPioSigSet t x sl s
  | .pioSigClear t x sl => Sys2Proof.Machine.execPioSigClear t x sl s
  | .pioSigInvert t x sl => Sys2Proof.Machine.execPioSigInvert t x sl s
  | .pioSigIrq t x sl => Sys2Proof.Machine.execPioSigIrq t x sl s
  | .pioMovs t x sl pins => Sys2Proof.Machine.execPioMovs t x sl pins s
  | .pioHoldTick t x sl => Sys2Proof.Machine.execPioHoldTick t x sl s
  | .pioSlotFault t x sl => Sys2Proof.Machine.execPioSlotFault t x sl s
  | .pioFetchError t x addr => Sys2Proof.Machine.execPioFetchError t x addr s
  | .txqWrite t m x sl v => Sys2Proof.Machine.execTxqWrite t m x sl v s
  | .rxqRead t m x sl => Sys2Proof.Machine.execRxqRead t m x sl s
  | .pioPtrig t x => Sys2Proof.Machine.execPioPtrig t x s
  | .pioProgWrite t m x off v => Sys2Proof.Machine.execPioProgWrite t m x off v s
  | .linkEnable t m x => Sys2Proof.Machine.execLinkEnable t m x s
  | .linkAligned t x => Sys2Proof.Machine.execLinkAligned t x s
  | .linkTrain t x w0 w1 roundTrip => Sys2Proof.Machine.execLinkTrain t x w0 w1 roundTrip s
  | .linkTrainTimeout t x => Sys2Proof.Machine.execLinkTrainTimeout t x s
  | .linkDown t x cause => Sys2Proof.Machine.execLinkDown t x cause s
  | .beaconSend t => Sys2Proof.Machine.execBeaconSend t s
  | .linkBeacon t x h ws => Sys2Proof.Machine.execLinkBeacon t x h ws s
  | .linkStatus t x h w => Sys2Proof.Machine.execLinkStatus t x h w s
  | .statusSend t => Sys2Proof.Machine.execStatusSend t s
  | .linkEvent t x h w => Sys2Proof.Machine.execLinkEvent t x h w s
  | .linkClaim t x h w => Sys2Proof.Machine.execLinkClaim t x h w s
  | .linkRreq t x h w0 w1 => Sys2Proof.Machine.execLinkRreq t x h w0 w1 s
  | .linkRrsp t x h w0 w1 => Sys2Proof.Machine.execLinkRrsp t x h w0 w1 s
  | .remoteAccess t m write addr v => Sys2Proof.Machine.execRemoteAccess t m write addr v s
  | .remoteTimeout t m => Sys2Proof.Machine.execRemoteTimeout t m s
  | .cascEnable t m => Sys2Proof.Machine.execCascEnable t m s
  | .masterElection t => Sys2Proof.Machine.execMasterElection t s
  | .beaconLoss t => Sys2Proof.Machine.execBeaconLoss t s
  | .claimWaitEnd t => Sys2Proof.Machine.execClaimWaitEnd t s
  | .faultMessage t msg => Sys2Proof.Machine.execFaultMessage t msg s
  | .faultSlotSend t src => Sys2Proof.Machine.execFaultSlotSend t src s
  | .faultMessageArrival t => Sys2Proof.Machine.execFaultMessageArrival t s
  | .coalesceClose t cause kind => Sys2Proof.Machine.execCoalesceClose t cause kind s
  | .promoWindowEnd t cause kind => Sys2Proof.Machine.execPromoWindowEnd t cause kind s
  | .fltQPop t m => Sys2Proof.Machine.execFltQPop t m s
  | .fltFeClear t m => Sys2Proof.Machine.execFltFeClear t m s
  | .fltInjCtrl t m v => Sys2Proof.Machine.execFltInjCtrl t m v s
  | .fltKcfgWrite t m v => Sys2Proof.Machine.execFltKcfgWrite t m v s
  | .migration t tile => Sys2Proof.Machine.execMigration t tile s
  | .migrationResume t => Sys2Proof.Machine.execMigrationResume t s
  | .actReq t m act target => Sys2Proof.Machine.execActReq t m act target s
  | .actAbort t m act target => Sys2Proof.Machine.execActAbort t m act target s
  | .tokenGrant t => Sys2Proof.Machine.execTokenGrant t s
  | .tileBistEnd t tile pass => Sys2Proof.Machine.execTileBistEnd t tile pass s
  | .scrubWord t bank addr found => Sys2Proof.Machine.execScrubWord t bank addr found s
  | .rowRepair t bank row => Sys2Proof.Machine.execRowRepair t bank row s
  | .muartFrameSend t => Sys2Proof.Machine.execMuartFrameSend t s
  | .muartReadRequest t bytes => Sys2Proof.Machine.execMuartReadRequest t bytes s
  | .muartRxTimeout t => Sys2Proof.Machine.execMuartRxTimeout t s
  | .imgBlock t => Sys2Proof.Machine.execImgBlock t s
  | .imgEnd t => Sys2Proof.Machine.execImgEnd t s
  | .imgAbort t => Sys2Proof.Machine.execImgAbort t s
  | .imgTimeout t => Sys2Proof.Machine.execImgTimeout t s
  | .imgVerified t otpOk => Sys2Proof.Machine.execImgVerified t otpOk s
  | .imgClearingDone t => Sys2Proof.Machine.execImgClearingDone t s
  | .slotBlankEnd t k => Sys2Proof.Machine.execSlotBlankEnd t k s
  | .bankThresholdSettled t k compB => Sys2Proof.Machine.execBankThresholdSettled t k compB s
  | .cleanCrossing t n active => Sys2Proof.Machine.execCleanCrossing t n active s
  | .linkFrameDiscard t x cause => Sys2Proof.Machine.execLinkFrameDiscard t x cause s
  | .trefOkRise t => Sys2Proof.Machine.execTrefOkRise t s
  | .lfOkRise t => Sys2Proof.Machine.execLfOkRise t s

end Sys2Proof.Machine
end

