-- ==== Sys2Proof/Safety.lean ====
section
/-! DEFINITION. What a sound state is, and the words the statements are written in: the state at a command's instant, the
state a command leaves, and what lets a register command through. -/

namespace Sys2Proof.Machine

open Reg

/-- The memory's canonical form: addresses strictly rising, no entry equal to what an unlisted address reads as. -/
abbrev Memory.wf (m : List Host.Cell) : Bool := twf (0 : BitVec 8) m

/-- The state a command leaves: its effect `b` on the state `a` of its instant; the timebase and the queue stay. -/
def State.keep (a b : State) : State := { b with tb := a.tb, pending := a.pending }

/-- Master `m` may write `v` through the mask `mk` at offset `o` of page `p` now: R74 grants it, the page is in no unit reset
(R85), and the budget of the register pages grants the beat (R53). -/
def State.mayWrite (a : State) (m p o v mk : Nat) : Bool :=
  a.writeCode m (pageAddr p o) v mk == 0 && !a.rstBusy p && a.grantable (16 + m) 1

/-- Master `m` may read at offset `o` of page `p` now. -/
def State.mayRead (a : State) (m p o : Nat) : Bool :=
  a.readCode m (pageAddr p o) == 0 && !a.rstBusy p && a.grantable (16 + m) 1

/-- A read has been counted: one beat of the master on the register pages, one on the page (R54, R67). -/
def State.counted (a : State) (m p : Nat) : State := (a.useBudget (16 + m) 1).usePage p 1

/-- A write has been counted; one on a tile page ends the tile's reset state (R463). -/
def State.charged (a : State) (m p o : Nat) : State := (a.counted m p).touch (pageAddr p o)

/-- A request frame that passes the tests of R94 and R95 at version `ver`: header CRC, lengths, trailer, an opcode of that version,
LEN in its range, no reserved flag and no REPLAY. -/
def frameSound (r : Frame) (ver : Nat) : Bool :=
  let h := r.hdr.toNat
  let n := impliedLen (bits h 56 8) (bits h 48 8)
  hdrCrc8 h == h % 256 && r.bits == frameBits n && r.payload.length == n &&
  (n == 0 || trailerCrc (r.payload.map (·.toNat)) == r.trailer.toNat) && bits h 10 2 == 0 && !bit h 9 &&
  (match opInfo (bits h 56 8) with
   | some (v, lo, hi) => decide (v ≤ ver) && decide (lo ≤ bits h 48 8) && decide (bits h 48 8 ≤ hi)
   | none => false)

/-- A frame of one word that port `x` may have at once: its index grants a beat, and its budget allows a frame of one word (R57). -/
def State.oneWord (a : State) (i : Nat) : Bool :=
  a.grantable i 1 && (if (a.bset i).slack then decide (1 ≤ (a.bset i).ceil) else decide (1 ≤ (a.bset i).floor))

end Sys2Proof.Machine
end

