-- ==== Sys2Proof/Certificates/Slice0/Obligations.lean ====
section
/-! DEFINITION. The statements for the provers. In each, `s` is a state, `t` the timebase count a command arrives at, and
`a = s.advance t` the state of that instant; `a.keep b` is the state a command leaves whose effect is `b`. -/

open Sys2Proof Sys2Proof.Machine Sys2Proof.Machine.Reg

/-- Register commands on a page's header (R67, R70, R71, R78, R79): what FREEZE_WRITE, PG_FAULT_CLEAR, PAGE_LOCK and
ACCESS_TABLE_WRITE leave, where the master may write there. -/
def Obligations.PageHeaderCommands : Prop :=
  ∀ (s a : State) (t : Nat) (m : Master) (p : Page), a = s.advance t → State.core 3 a = true → a.domOn (domOf p) = true →
    (∀ (on : Bool), a.mayWrite m p 0x08 (4 * b2n on) 4 = true → capFrz p = true → a.on (PG_CTRL_FREEZE p) = !on →
      let c := a.counted m p
      let l : List (Nat × Nat) := if on then c.snapshot p else []
      let x : Acc := { a.acc with frozen := tput [] a.acc.frozen p l }
      let d : State := { c with acc := x }
      exec (.freezeWrite t m p on) s = .next (a.keep (d.wr (PG_CTRL_FREEZE p) (b2n on)))) ∧
    (a.mayWrite m p 0x1C 0x40000000 0x40000000 = true → a.on (PG_FAULT_VALID p) = true →
      tget 0 a.hot (PG_FAULT_VALID p).key = 0 → tget none a.flt.live p = none →
      exec (.pgFaultClear t m p) s = .next (a.keep
        ((((((a.counted m p).wr (PG_FAULT_VALID p) 0).wr (PG_FAULT_OVF p) 0).wr (PG_FAULT_SEV p) 0).wr (PG_FAULT_KIND p) 0).wr
          (PG_FAULT_DETAIL p) 0))) ∧
    (∀ (f : Msg), a.mayWrite m p 0x1C 0x40000000 0x40000000 = true → a.on (PG_FAULT_VALID p) = true →
      tget 0 a.hot (PG_FAULT_VALID p).key = 0 → tget none a.flt.live p = some f → f.sev < 4 → f.kind < 256 →
      ∃ b, exec (.pgFaultClear t m p) s = .next b ∧ b.rd (PG_FAULT_VALID p) = 1 ∧ b.rd (PG_FAULT_SEV p) = f.sev ∧
        b.rd (PG_FAULT_KIND p) = f.kind ∧ b.rd (PG_FAULT_DETAIL p) = f.detail % 2 ^ 19) ∧
    (a.mayWrite m p 0x2C 1 1 = true → a.on (PG_ACLK_LOCK p) = false →
      exec (.pageLock t m p) s = .next (a.keep (((a.counted m p).wr (PG_ACLK_LOCK p) 1).wr (PG_ACLK_BY p) m))) ∧
    (∀ (v addr : Word), addr.toNat = pageAddr p 0x28 → a.mayWrite m p 0x28 v.toNat 0xFFFFFFFF = true →
      exec (.accessTableWrite t m addr v) s = .next (a.keep ((a.counted m p).swPut (PG_ACL_ACL p) v.toNat))) ∧
    (∀ (v addr : Word) (i : Nat), p.val = 0 → i < 16 → addr.toNat = pageAddr 0 (0x80 + 4 * i) →
      a.mayWrite m 0 (0x80 + 4 * i) v.toNat 0xFFFFFFFF = true →
      exec (.accessTableWrite t m addr v) s = .next (a.keep ((a.counted m 0).swPut (SYS_MBX_ACL_ACL i) v.toNat)))

/-- SOFT_RST, UNIT_RESET_COMPLETE and PAGE_DISABLE (R67, R85, R86). -/
def Obligations.UnitResetAndDisable : Prop :=
  ∀ (s a : State) (t : Nat) (m : Master) (p : Page), a = s.advance t → State.core 3 a = true → a.domOn (domOf p) = true →
    (a.mayWrite m p 0x08 0 1 = true → enReset p = 0 → a.on (PG_CTRL_EN p) = true →
      exec (.pageDisable t m p) s = .next (a.keep ((a.counted m p).pageEnd p)) ∧
      ((a.counted m p).pageEnd p).on (PG_CTRL_EN p) = false) ∧
    (a.mayWrite m p 0x08 0 1 = true → enReset p = 0 → a.on (PG_CTRL_EN p) = true →
      ∃ b, exec (.pageDisable t m p) s = .next b ∧ b.rd (PG_CTRL_EN p) = 0 ∧ (∀ x : Fin 32, p.val = 0x60 + x.val → b.cvState x = 0) ∧
        (∀ g : Fin 4, p.val = 0x30 + g.val → b.rd (GEL_GEL_STAT_STATE g) = 0) ∧
        (∀ k : Fin 24, ∀ i : Fin 2, p.val = 0x40 + k.val → (b.slot k i).hss = false) ∧
        (∀ x : Fin 4, p.val = 0xC8 + x.val → b.linkState x = 0)) ∧
    (∀ (v : Word), a.mayWrite m p 0x08 v.toNat 0xFFFFFFFF = true → bit v.toNat 8 = true → bits v.toNat 24 8 = 0xB6 →
      bit v.toNat 3 = false → m ≠ 2 → bit v.toNat 2 = a.on (PG_CTRL_FREEZE p) → bit v.toNat 0 = a.on (PG_CTRL_EN p) →
      capRst p = true → (0x20 ≤ p.val → p.val ≤ 0x28 → a.inService (p.val - 0x20) = false) → a.pkgCrimson = false →
      let d := (a.counted m p).unitEnd p
      let x : Acc := { d.acc with rstBusy := p :: d.acc.rstBusy }
      exec (.softRst t m p v) s = .next (a.keep { d with acc := x })) ∧
    (∀ (v : Word), a.mayWrite m p 0x08 v.toNat 0xFFFFFFFF = true → bit v.toNat 8 = true → bits v.toNat 24 8 = 0xB6 →
      bit v.toNat 3 = false → m ≠ 2 → bit v.toNat 2 = a.on (PG_CTRL_FREEZE p) → bit v.toNat 0 = a.on (PG_CTRL_EN p) →
      capRst p = true → (0x20 ≤ p.val → p.val ≤ 0x28 → a.inService (p.val - 0x20) = false) → a.pkgCrimson = false →
      ∃ b, exec (.softRst t m p v) s = .next b ∧ b.rstBusy p = true ∧ (enReset p = 0 → b.rd (PG_CTRL_EN p) = 0)) ∧
    (∀ (v : Word), a.mayWrite m p 0x08 v.toNat 0xFFFFFFFF = true → bit v.toNat 8 = true → bits v.toNat 24 8 = 0xB6 →
      bit v.toNat 3 = false → m ≠ 2 → bit v.toNat 2 = a.on (PG_CTRL_FREEZE p) → bit v.toNat 0 = a.on (PG_CTRL_EN p) →
      capRst p = true → (0x20 ≤ p.val → p.val ≤ 0x28 → a.inService (p.val - 0x20) = false) → a.pkgCrimson = false →
      p.val = 6 ∨ p.val = 0xB1 →
      let c := a.counted m p
      let x : Acc := { c.acc with rstBusy := p.val :: c.acc.rstBusy }
      exec (.softRst t m p v) s = .next (a.keep { c with acc := x })) ∧
    (∀ (v : Word), a.mayWrite m p 0x08 v.toNat 0xFFFFFFFF = true → bit v.toNat 8 = true → bits v.toNat 24 8 ≠ 0xB6 →
      bit v.toNat 3 = false → m ≠ 2 → bit v.toNat 2 = a.on (PG_CTRL_FREEZE p) → bit v.toNat 0 = a.on (PG_CTRL_EN p) →
      exec (.softRst t m p v) s = .next (a.keep ((a.counted m p).refuse m (pageAddr p 8) true 7))) ∧
    (a.rstBusy p = true →
      exec (.unitResetComplete t p) s = .next (a.keep (a.unitReset p)) ∧ (a.unitReset p).rstBusy p = false) ∧
    (a.rstBusy p = true →
      ∃ b, exec (.unitResetComplete t p) s = .next b ∧ b.rstBusy p = false ∧ b.rd (PG_CTRL_EN p) = enReset p ∧
        b.rd (PG_CTRL_FREEZE p) = 0 ∧ b.rd (PG_CTRL_DEBUG_SAFE p) = 1 ∧ b.rd (PG_IFLAG_FLAG p) = 0 ∧ b.rd (PG_FCNT_TOTAL p) = 0 ∧
        b.rd (PG_FCNT_PROMOTED p) = 0 ∧ b.pageCrimson p = false ∧ b.pageAmber p = false ∧ b.rd (PG_ACL_ACL p) = a.rd (PG_ACL_ACL p) ∧
        b.rd (PG_ACLK_LOCK p) = a.rd (PG_ACLK_LOCK p) ∧ b.rd (PG_FAULT_VALID p) = a.rd (PG_FAULT_VALID p) ∧
        b.rd (PG_FAULT_KIND p) = a.rd (PG_FAULT_KIND p)) ∧
    (∀ (v : Word), a.mayWrite m p 0x08 v.toNat 0xFFFFFFFF = true → bit v.toNat 8 = true → bits v.toNat 24 8 ≠ 0xB6 →
      bit v.toNat 3 = false → m ≠ 2 → bit v.toNat 2 = a.on (PG_CTRL_FREEZE p) → bit v.toNat 0 = a.on (PG_CTRL_EN p) →
      ∃ b, exec (.softRst t m p v) s = .next b ∧ b.acc.rstBusy = a.acc.rstBusy ∧ (a.on SYS_ACC_ERR_VALID = false → b.rd SYS_ACC_ERR_CODE = 7 ∧
        b.rd SYS_ACC_ERR_MASTER = m.val ∧ b.rd SYS_ACC_ERR_WRITE = 1 ∧ b.rd SYS_ACC_ERR_ADDR_ADDR = pageAddr p 8))

/-- REGISTER_WRITE by where it leads (R7, R61, R74, R75). -/
def Obligations.RegisterWriteEffect : Prop :=
  ∀ (s a : State) (t : Nat) (m : Master) (addr v : Word), a = s.advance t → State.core 3 a = true →
    (∀ (p o : Nat), regionOf addr.toNat = .page p o → a.writeCode m addr.toNat v.toNat 0xFFFFFFFF = 0 → a.pageDown p = false →
      a.grantable (16 + m) 1 = true →
      exec (.regWrite t m addr v) s = .next (a.keep ((a.charged m p o).writeReg m p o v.toNat 0xFFFFFFFF))) ∧
    (∀ (p : Nat), regionOf addr.toNat = .page p 0x14 → a.writeCode m addr.toNat v.toNat 0xFFFFFFFF = 0 → a.pageDown p = false →
      a.grantable (16 + m) 1 = true →
      exec (.regWrite t m addr v) s = .next (a.keep ((a.counted m p).swPut (PG_IEN_A_EN_A p) v.toNat))) ∧
    (∀ (n : Nat), regionOf addr.toNat = .mbx n → a.writeCode m addr.toNat v.toNat 0xFFFFFFFF = 0 → a.grantable m 1 = true →
      ∃ b, exec (.regWrite t m addr v) s = .next b ∧ rdWord b.mem addr.toNat = v.toNat ∧ b.regs = a.regs ∧
        ∀ x, (x < addr.toNat ∨ addr.toNat + 4 ≤ x) → rdByte b.mem x = rdByte a.mem x) ∧
    (isRemote addr.toNat = false → a.writeCode m addr.toNat v.toNat 0xFFFFFFFF ≠ 0 →
      (a.writeCode m addr.toNat v.toNat 0xFFFFFFFF ≠ 4 ∨ addr.toNat < 0x400B8000 ∨ 0x400B9000 ≤ addr.toNat) →
      exec (.regWrite t m addr v) s = .next (a.keep (a.refuse m addr.toNat true (a.writeCode m addr.toNat v.toNat 0xFFFFFFFF))))

/-- WIDE_LOW_READ, WIDE_HIGH_WRITE and WIDE_LOW_WRITE (R82, R84). -/
def Obligations.WideValues : Prop :=
  ∀ (s a : State) (t : Nat) (m : Master) (addr : Word) (p : Page) (o : Nat), a = s.advance t → State.core 3 a = true →
    addr.toNat = pageAddr p o → a.domOn (domOf p) = true →
    (wideOf p o = some o → ownLatch p o = false → a.mayRead m p o = true → a.rightIn (.page p o) m ≠ 0 →
      ∃ b, exec (.wideLowRead t m addr) s = .next b ∧
        tget none b.acc.latch (latchKey m p) = some ⟨o, (a.counted m p).shown m p (o + 4)⟩) ∧
    (∀ (v : Word), 4 ≤ o → wideRw p (o - 4) = true → a.mayWrite m p o v.toNat 0xFFFFFFFF = true →
      ∃ b, exec (.wideHighWrite t m addr v) s = .next b ∧ tget none b.acc.heldHi (latchKey m p) = some ⟨o - 4, v.toNat⟩ ∧
        b.regs = a.regs) ∧
    (∀ (v : Word), p.val = 0xB0 → o = 0x4C → a.mayWrite m p o v.toNat 0xFFFFFFFF = true →
      exec (.wideLowWrite t m addr v) s = .next (a.keep ((a.counted m p).alarmArm m v.toNat))) ∧
    (∀ (v : Word) (i : Nat), p.val = 0xB1 → i < 8 → o = 0x300 + 8 * i → a.mayWrite m p o v.toNat 0xFFFFFFFF = true →
      let h := (a.counted m p).takeHi m 0xB1 o
      exec (.wideLowWrite t m addr v) s = .next (a.keep (h.2.gpPairWrite i v.toNat (h.1.getD (h.2.rd (GPT_PAIR_CMP_HI_CMP i))))))

/-- DEVICE_RESET, RESET_RELEASE, SELFTEST_DONE, DOMAIN_DROOP and DOMAIN_DROOP_RELEASE (R12, R471, R474, R495). -/
def Obligations.ResetAndDomains : Prop :=
  ∀ (s a : State) (t : Nat), a = s.advance t →
    (let r := State.reset
      let p : Pwr := { r.pwr with lfLost := s.pwr.lfLost }
      let f : Flt := { r.flt with lfRec := if s.pwr.lfLost then none else s.flt.lfRec }
      exec (.deviceReset t) s = .next { r with nonce := s.nonce, otp := s.otp, pwr := p, flt := f, pending := s.pending }) ∧
    (∀ (id : Fin 4) (men : Bool), a.pwr.held = true →
      ∃ b, exec (.resetRelease t id men) s = .next b ∧ b.tb = 0 ∧ b.pwr.held = false ∧ b.rd (HOST_BOOT_STAT_STATE 0) = 1 ∧
        b.rd (HOST_BOOT_STAT_STATE 1) = 1 ∧ b.pending = a.pending ∧
        (a.otp = [] → b.rd CASC_CASC_STAT_ID = id ∧ b.rd CASC_CASC_STAT_MEN = b2n men ∧ b.rd CLK_CLK_STAT_XIN_OK = 1 ∧
          b.rd CLK_CLK_STAT_TREF_OK = 1 ∧ b.rd CLK_CLK_STAT_PLL_SYS_LOCK = 1 ∧ b.rd CLK_CLK_STAT_PLL_TB_LOCK = 1 ∧
          b.rd CLK_CLK_STAT_LF_OK = b2n !a.pwr.lfLost)) ∧
    (∀ (lb mb otp : Bool), State.core 3 a = true → a.rd (HOST_BOOT_STAT_STATE 0) = 1 →
      ∃ b, exec (.selftestDone t lb mb otp) s = .next b ∧
        b.rd (HOST_BOOT_STAT_STATE 0) = (if !otp then 0x83 else if !lb then 0x81 else if !mb then 0x82 else 0x10) ∧
        (b.hs 0).enabled = true ∧ (b.hs 1).enabled = true) ∧
    (∀ (d : Domain), a.pwr.held = false → a.domOn d = true →
      ∃ b, exec (.domainDroop t d) s = .next b ∧ b.domOn d = false ∧ bit (b.rd SYS_DOM_STAT_DROOP) d = true) ∧
    (∀ (d : Domain), a.pwr.held = false → a.domOn d = false →
      ∃ b, exec (.domainDroopRelease t d) s = .next b ∧ b.domOn d = true ∧ b.rd SYS_DOM_STAT_DROOP = a.rd SYS_DOM_STAT_DROOP)

/-- The clock sources (R37 to R41): TREF_FAIL, DL_CAL_DONE, TB_RESTORE, TB_RESTORE_SWITCH, TREF_OK_RISE, LF_OK_RISE, LF_LOSS,
XIN_LOSS. Which of 0, 1 or 2 ticks a switch skips is a free value (assumption log 3). -/
def Obligations.TimebaseClock : Prop :=
  ∀ (s a : State) (t : Nat), a = s.advance t →
    (∀ (crit : Fin 5), State.core 3 a = true → a.on TB_TB_STAT_LFMODE = false → crit.val ≠ 0 →
      a.on CLK_CLK_STAT_TREF_OK = true → a.rd CLK_CLK_STAT_TB_SRC = 0 → a.tb + 2 < 2 ^ 64 →
      ∃ b, exec (.trefFail t crit) s = .next b ∧ b.rd CLK_CLK_STAT_TREF_OK = 0 ∧ b.rd CLK_CLK_STAT_TB_SRC = 1 ∧
        b.rd CLK_CLK_STAT_DL_CAL = 0 ∧ b.rd CLK_TB_SWITCH_SKIP ≤ 2 ∧ b.tb = a.tb + b.rd CLK_TB_SWITCH_SKIP ∧
        b.rd CLK_TB_SWITCH_COUNT = satN 16 (a.rd CLK_TB_SWITCH_COUNT + 1)) ∧
    (State.tbd 3 a = true →
      exec (.dlCalDone t) s = .next (a.keep (a.wr CLK_CLK_STAT_DL_CAL 1))) ∧
    (∀ (m : Master), State.core 3 a = true → a.mayWrite m 1 0x40 1 1 = true → a.rd CLK_CLK_STAT_TB_SRC = 1 →
      a.on CLK_CLK_STAT_TREF_OK = true →
      exec (.tbRestore t m) s = .next (a.keep (if (a.counted m 1).pwr.trefSince + 4000000 ≤ a.tb
        then (a.counted m 1).modPwr fun p => { p with restore := some (a.tb / 8000) } else a.counted m 1))) ∧
    (∀ (n : Nat), State.core 3 a = true → a.tbOn = true → a.rd CLK_CLK_STAT_TB_SRC = 1 → a.pwr.restore = some n →
      n < a.tb / 8000 → a.tb + 2 < 2 ^ 64 →
      ∃ b, exec (.tbRestoreSwitch t) s = .next b ∧ b.rd CLK_CLK_STAT_TB_SRC = 0 ∧ b.pwr.restore = none ∧
        b.rd CLK_CLK_STAT_DL_CAL = 0 ∧ b.rd CLK_TB_SWITCH_SKIP ≤ 2 ∧ b.tb = a.tb + b.rd CLK_TB_SWITCH_SKIP) ∧
    (State.core 3 a = true → a.on TB_TB_STAT_LFMODE = false → a.on CLK_CLK_STAT_TREF_OK = false →
      exec (.trefOkRise t) s = .next (a.keep
        (((a.modPwr fun p => { p with trefSince := a.tb }).wr CLK_CLK_STAT_TREF_OK 1).wr CLK_CLK_STAT_PLL_TB_LOCK 1))) ∧
    (a.pwr.held = false →
      exec (.lfOkRise t) s = .next (a.keep ((a.modPwr fun p => { p with lfLost := false }).wr CLK_CLK_STAT_LF_OK 1))) ∧
    (a.pwr.held = false → a.pwr.lfLost = false →
      exec (.lfLoss t) s = .next (a.keep
        (((a.modPwr fun p => { p with lfLost := true }).wr CLK_CLK_STAT_LF_OK 0).raise (srcId 3 0x20 4) 0x5D 0))) ∧
    (a.pwr.held = false → a.pwr.lfLost = false →
      ∃ b, exec (.lfLoss t) s = .next b ∧ b.rd CLK_CLK_STAT_LF_OK = 0 ∧ b.pwr.lfLost = true) ∧
    (a.coreOn = true → a.domOn 3 = true →
      ∃ b, exec (.xinLoss t) s = .next b ∧ b.pwr.xinLost = true ∧ b.coreOn = false ∧ b.rd CLK_CLK_STAT_XIN_OK = 0 ∧
        b.rd CLK_CLK_STAT_PLL_SYS_LOCK = 0 ∧ b.pkgCrimson = true)

/-- SLEEP_REQUEST, DHALT_ENTER, DHALT_EXIT, LF_MODE_ENTRY, LF_STEP, LF_MODE_EXIT, WAKE and WAKE_COMPLETE (R44 to R49). -/
def Obligations.SleepAndDebugHalt : Prop :=
  ∀ (s a : State) (t : Nat), a = s.advance t →
    (∀ (m : Master) (v : Word), State.core 3 a = true → a.mayWrite m 1 0x50 v.toNat 0xFFFFFFFF = true →
      a.rd CLK_PWR_STAT_STATE ≠ 2 → a.pwr.sleep = .awake → bit v.toNat 0 = true →
      (a.counted m 1).pwrCheck (m == 2) v.toNat = none →
      exec (.sleepRequest t m v) s = .next (a.keep
        (((((a.counted m 1).modPwr fun p => { p with lfEnding := false }).outTrip 3).evtLoss).modPwr fun p => { p with sleep := .entering }))) ∧
    (∀ (m : Master) (v : Word), State.core 3 a = true → a.mayWrite m 1 0x50 v.toNat 0xFFFFFFFF = true →
      a.rd CLK_PWR_STAT_STATE ≠ 2 → a.pwr.sleep = .awake → bit v.toNat 0 = true →
      (a.counted m 1).pwrCheck (m == 2) v.toNat = none →
      ∃ b, exec (.sleepRequest t m v) s = .next b ∧ b.pwr.sleep = .entering ∧ b.armed = false ∧ b.on OUT_ARM_STAT_PENDING = false ∧
        (a.armed = true → b.rd OUT_ARM_STAT_STATE = 2 ∧ b.rd OUT_ARM_STAT_TRIP_CAUSE = 3)) ∧
    (∀ (m : Master) (v : Word) (code : Nat), State.core 3 a = true → a.mayWrite m 1 0x50 v.toNat 0xFFFFFFFF = true →
      a.rd CLK_PWR_STAT_STATE ≠ 2 → a.pwr.sleep = .awake → (bit v.toNat 0 || bit v.toNat 1) = true →
      (a.counted m 1).pwrCheck (m == 2) v.toNat = some code →
      exec (.sleepRequest t m v) s = .next (a.keep
        ((((a.counted m 1).wr CLK_PWR_STAT_REFUSE code).iflag 1 1).cfgRec (srcId 3 0x20 0xF) code 0xFFF))) ∧
    (∀ (m : Master) (v : Word), State.core 3 a = true → a.on SEC_LIFE_FIELD = false → a.rd CLK_PWR_STAT_STATE ≠ 2 →
      a.pwr.sleep = .awake → bit v.toNat 0 = false → bit v.toNat 1 = true → a.pwrCheck true v.toNat = none →
      let b := ((a.modPwr fun p => { p with lfEnding := false }).wr CLK_PWR_STAT_STATE 2).wr CLK_PWR_CTRL_DHALT 1
      exec (.dhaltEnter t m true v) s = .next (a.keep (b.gelHaltAll.outTrip 3))) ∧
    (∀ (m : Master) (v : Word), State.core 3 a = true → a.on SEC_LIFE_FIELD = false → a.rd CLK_PWR_STAT_STATE ≠ 2 →
      a.pwr.sleep = .awake → bit v.toNat 0 = false → bit v.toNat 1 = true → a.pwrCheck true v.toNat = none →
      ∃ b, exec (.dhaltEnter t m true v) s = .next b ∧ b.rd CLK_PWR_STAT_STATE = 2 ∧ b.rd CLK_PWR_CTRL_DHALT = 1 ∧ b.armed = false ∧
        (∀ g : Fin 4, (a.rd (GEL_GEL_STAT_STATE g) = 1 ∨ a.rd (GEL_GEL_STAT_STATE g) = 2) → b.rd (GEL_GEL_STAT_STATE g) = 3)) ∧
    (∀ (v : Word), State.core 3 a = true → a.mayWrite 2 1 0x50 v.toNat 0xFFFFFFFF = true → a.rd CLK_PWR_STAT_STATE ≠ 2 →
      a.pwr.sleep = .awake → bit v.toNat 0 = false → bit v.toNat 1 = true → (a.counted 2 1).pwrCheck true v.toNat = none →
      let b := (((a.counted 2 1).modPwr fun p => { p with lfEnding := false }).wr CLK_PWR_STAT_STATE 2).wr CLK_PWR_CTRL_DHALT 1
      exec (.dhaltEnter t 2 false v) s = .next (a.keep (b.gelHaltAll.outTrip 3))) ∧
    (∀ (v : Word), State.core 3 a = true → a.mayWrite 2 1 0x50 v.toNat 0xFFFFFFFF = true → a.rd CLK_PWR_STAT_STATE = 2 →
      bits v.toNat 24 8 = 0x5A → bit v.toNat 0 = false → bit v.toNat 1 = false →
      let b := ((a.counted 2 1).wr CLK_PWR_STAT_STATE 0).wr CLK_PWR_CTRL_DHALT 0
      exec (.dhaltExit t 2 false v) s = .next (a.keep
        (b.modPwr fun p => { p with lfEnding := a.on TB_TB_STAT_LFMODE }).gelResumeAll)) ∧
    (∀ (v : Word), State.core 3 a = true → a.mayWrite 2 1 0x50 v.toNat 0xFFFFFFFF = true → a.rd CLK_PWR_STAT_STATE = 2 →
      bits v.toNat 24 8 = 0x5A → bit v.toNat 0 = false → bit v.toNat 1 = false →
      ∃ b, exec (.dhaltExit t 2 false v) s = .next b ∧ b.rd CLK_PWR_STAT_STATE = 0 ∧ b.rd CLK_PWR_CTRL_DHALT = 0 ∧ b.pwr.dhalted = [] ∧
        b.pwr.lfEnding = a.on TB_TB_STAT_LFMODE) ∧
    (a.pwr.held = false → a.on TB_TB_STAT_LFMODE = false → (a.pwr.sleep = .entering ∨ a.rd CLK_PWR_STAT_STATE = 2) →
      ∃ b, exec (.lfModeEntry t) s = .next b ∧ b.rd TB_TB_STAT_LFMODE = 1 ∧ b.rd CLK_CLK_STAT_TB_SRC = 2 ∧ b.rd CLK_CLK_STAT_DL_CAL = 0 ∧
        b.rd CLK_CLK_STAT_PLL_TB_LOCK = 0 ∧ (a.pwr.sleep = .entering → b.pwr.sleep = .asleep)) ∧
    (a.pwr.held = false → a.on TB_TB_STAT_LFMODE = true → a.pwr.lfLost = false →
      ∃ b, exec (.lfStep t) s = .next b ∧ b.tb = (a.tb + (390625 + a.pwr.lfFrac) / 32) % 2 ^ 64 ∧
        b.pwr.lfFrac = (390625 + a.pwr.lfFrac) % 32 ∧ b.rd TB_LF_CNT_COUNT = satN 32 (a.rd TB_LF_CNT_COUNT + 1)) ∧
    (a.pwr.held = false → a.on TB_TB_STAT_LFMODE = true → a.pwr.lfEnding = true → a.pwr.tbFrom < 2 →
      ∃ b, exec (.lfModeExit t) s = .next b ∧ b.rd TB_TB_STAT_LFMODE = 0 ∧ b.rd CLK_CLK_STAT_TB_SRC = a.pwr.tbFrom ∧
        (a.on CLK_CLK_STAT_TREF_OK = true → b.rd CLK_CLK_STAT_PLL_TB_LOCK = 1) ∧ b.pwr.lfEnding = false) ∧
    (∀ (p held mv : Nat) (src : Fin 4), a.pwr.held = false → a.pwr.sleep = .asleep → p = 2 * src.val → src.val < 2 →
      a.on (POS_CFG_WAKE_EN p) = true → a.usesPin p 0 = true → 781250 ≤ 32 * held →
      (a.posMode p ≠ 3 ∨ 4 * a.rd (POS_VR_CFG_ARM_MIN p) < mv) →
      ∃ b, exec (.wake t ⟨src, held, mv⟩) s = .next b ∧ b.pwr.sleep = .waking (src.val + 1) ∧ b.rd CLK_PWR_STAT_WAKE_SRC = src.val + 1 ∧
        bit (b.rd (PG_IFLAG_FLAG 1)) 0 = true ∧ b.rd (POS_STAT_WAKE p) = 1 ∧ bit (b.rd (PG_IFLAG_FLAG (0x10 + p))) 11 = true) ∧
    (∀ (src : Fin 4) (held mv : Nat), a.pwr.held = false → a.pwr.sleep = .asleep → 2 ≤ src.val →
      ∃ b, exec (.wake t ⟨src, held, mv⟩) s = .next b ∧ b.pwr.sleep = .waking (src.val + 1) ∧ b.rd CLK_PWR_STAT_WAKE_SRC = src.val + 1 ∧
        bit (b.rd (PG_IFLAG_FLAG 1)) 0 = true) ∧
    (∀ (src : Nat), a.pwr.held = false → a.pwr.sleep = .waking src →
      ∃ b, exec (.wakeComplete t) s = .next b ∧ b.pwr.sleep = .awake ∧ b.pwr.lfEnding = true ∧ b.rd CLK_CLK_STAT_PLL_SYS_LOCK = 1)

/-- FRAME_BOUNDARY and COMMIT (R50, R54, R55). -/
def Obligations.BudgetFrame : Prop :=
  ∀ (s a : State) (t : Nat), a = s.advance t → State.core 3 a = true →
    (a.tbOn = true → a.tb / 8000 ≠ a.pwr.frame →
      ∃ b, exec (.frameBoundary t) s = .next b ∧ b.pwr.frame = a.tb / 8000 ∧ b.budg.use = [] ∧ b.budg.held = [] ∧
        b.budg.pending = none ∧ b.budg.force = a.budg.pending.getD a.budg.force) ∧
    (∀ (m : Master), a.mayWrite m 2 0x40 1 0xFFFFFFFF = true → lowest a.offenders = none →
      let c := a.counted m 2
      let l : Tab BSet := (List.range 63).foldl (fun t n => tput {} t n (a.shadowSet n)) []
      let g : Budg := { c.budg with pending := some l }
      let d : State := { c with budg := g }
      exec (.commit t m) s = .next (a.keep (d.wr BUDG_BUDG_STAT_PENDING 1))) ∧
    (∀ (m : Master) (n : Nat), a.mayWrite m 2 0x40 1 0xFFFFFFFF = true → lowest a.offenders = some n →
      ∃ b, exec (.commit t m) s = .next b ∧ b.rd BUDG_BUDG_STAT_REFUSED = 1 ∧ b.rd BUDG_BUDG_STAT_REF_IDX = n ∧
        b.budg.pending = a.budg.pending ∧ b.budg.force = a.budg.force)

/-- HELLO, READ, WRITE, MASKWRITE, STREAM, SNAP64, ATTEST and a frame with an unknown opcode (R94 to R102, R116, R484), the words
in mailbox SRAM. -/
def Obligations.HostFrames : Prop :=
  ∀ (s a : State) (t : Nat) (x : Port) (r : Frame), a = s.advance t → hostOk a = true → a.hostState x = 2 →
    (frameSound r (a.rd (HOST_PORT_STAT_VER x)) = true → bits r.hdr.toNat 56 8 = 0x01 → bits r.hdr.toNat 16 32 = 0 →
      0x10 ≤ bits ((r.payload.getD 0 0).toNat) 24 8 →
      ∃ b, exec (.hello t x r) s = .next b ∧ b.hostState x = 3 ∧ ∃ f, (b.hs x).frame = some f ∧ f.fin = true ∧ f.status = 0 ∧
        f.data.getD 0 0 = 0x20 * 2 ^ 24 + agreed (bits ((r.payload.getD 0 0).toNat) 24 8) * 2 ^ 16 + bitN ((r.payload.getD 0 0).toNat) 16) ∧
    (∀ (k : Nat), frameSound r (a.rd (HOST_PORT_STAT_VER x)) = true → bits r.hdr.toNat 56 8 = 0x10 →
      bits r.hdr.toNat 48 8 = 1 → regionOf (bits r.hdr.toNat 16 32) = .mbx k → a.readCode x (bits r.hdr.toNat 16 32) = 0 →
      a.oneWord x = true →
      ∃ b, exec (.hostRead t x r) s = .next b ∧ b.hostState x = 3 ∧ ∃ f, (b.hs x).frame = some f ∧ f.fin = true ∧ f.status = 0 ∧
        f.data = [rdWord a.mem (bits r.hdr.toNat 16 32)] ∧ b.mem = a.mem) ∧
    (∀ (k : Nat) (v : Word), frameSound r (a.rd (HOST_PORT_STAT_VER x)) = true → bits r.hdr.toNat 56 8 = 0x11 →
      bits r.hdr.toNat 48 8 = 1 → regionOf (bits r.hdr.toNat 16 32) = .mbx k → r.payload = [v] →
      a.writeCode x (bits r.hdr.toNat 16 32) v.toNat 0xFFFFFFFF = 0 → a.oneWord x = true →
      ∃ b, exec (.hostWrite t x r) s = .next b ∧ b.hostState x = 3 ∧ rdWord b.mem (bits r.hdr.toNat 16 32) = v.toNat ∧
        (∀ y, (y < bits r.hdr.toNat 16 32 ∨ bits r.hdr.toNat 16 32 + 4 ≤ y) → rdByte b.mem y = rdByte a.mem y) ∧
        ∃ f, (b.hs x).frame = some f ∧ f.fin = true ∧ f.status = 0) ∧
    (∀ (k : Nat) (mk v : Word), frameSound r (a.rd (HOST_PORT_STAT_VER x)) = true → bits r.hdr.toNat 56 8 = 0x12 →
      bits r.hdr.toNat 48 8 = 1 → regionOf (bits r.hdr.toNat 16 32) = .mbx k → r.payload = [mk, v] →
      a.writeCode x (bits r.hdr.toNat 16 32) v.toNat mk.toNat = 0 → a.oneWord x = true →
      ∃ b, exec (.hostMaskWrite t x r) s = .next b ∧ b.hostState x = 3 ∧
        rdWord b.mem (bits r.hdr.toNat 16 32) = mergeWord (rdWord a.mem (bits r.hdr.toNat 16 32)) v.toNat mk.toNat ∧
        (∀ y, (y < bits r.hdr.toNat 16 32 ∨ bits r.hdr.toNat 16 32 + 4 ≤ y) → rdByte b.mem y = rdByte a.mem y) ∧
        ∃ f, (b.hs x).frame = some f ∧ f.fin = true ∧ f.status = 0) ∧
    (∀ (k : Nat), frameSound r (a.rd (HOST_PORT_STAT_VER x)) = true → bits r.hdr.toNat 56 8 = 0x20 →
      bits r.hdr.toNat 48 8 = 1 → bits r.hdr.toNat 16 32 < 8 → a.mbqUsable x (bits r.hdr.toNat 16 32) = true →
      a.rd (HOST_MBQ_STAT_RSVD_W x (bits r.hdr.toNat 16 32)) = 0 → 0 < a.mbqLevel x (bits r.hdr.toNat 16 32) →
      regionOf (a.mbqAddr x (bits r.hdr.toNat 16 32) (a.rd (HOST_MBQ_PTR_HEAD x (bits r.hdr.toNat 16 32)))) = .mbx k →
      a.readCode x (a.mbqAddr x (bits r.hdr.toNat 16 32) (a.rd (HOST_MBQ_PTR_HEAD x (bits r.hdr.toNat 16 32)))) = 0 →
      a.oneWord x = true →
      ∃ b, exec (.hostStream t x r) s = .next b ∧ b.hostState x = 3 ∧ b.rd (HOST_MBQ_STAT_RSVD_W x (bits r.hdr.toNat 16 32)) = 1 ∧
        b.rd (HOST_MBQ_PTR_HEAD x (bits r.hdr.toNat 16 32)) = a.rd (HOST_MBQ_PTR_HEAD x (bits r.hdr.toNat 16 32)) ∧
        ∃ f, (b.hs x).frame = some f ∧ f.fin = true ∧ f.status = 0 ∧ f.data = [rdWord a.mem (a.mbqAddr x (bits r.hdr.toNat 16 32) (a.rd (HOST_MBQ_PTR_HEAD x (bits r.hdr.toNat 16 32))))]) ∧
    (∀ (k : Nat), frameSound r (a.rd (HOST_PORT_STAT_VER x)) = true → bits r.hdr.toNat 56 8 = 0x30 →
      bits r.hdr.toNat 48 8 = 1 → bits r.hdr.toNat 16 32 % 8 = 0 → regionOf (bits r.hdr.toNat 16 32) = .mbx k →
      a.readCode x (bits r.hdr.toNat 16 32) = 0 → a.readCode x (bits r.hdr.toNat 16 32 + 4) = 0 → a.grantable x 2 = true →
      2 ≤ (if (a.bset x).slack then (a.bset x).ceil else (a.bset x).floor) →
      ∃ b, exec (.hostSnap64 t x r) s = .next b ∧ b.hostState x = 3 ∧ b.mem = a.mem ∧ ∃ f, (b.hs x).frame = some f ∧ f.fin = true ∧ f.status = 0 ∧
        f.data = [rdWord a.mem (bits r.hdr.toNat 16 32), rdWord a.mem (bits r.hdr.toNat 16 32 + 4)]) ∧
    (frameSound r (a.rd (HOST_PORT_STAT_VER x)) = true → bits r.hdr.toNat 56 8 = 0x40 → bits r.hdr.toNat 16 32 = 0 →
      ∃ b, exec (.hostAttest t x r) s = .next b ∧ b.hostState x = 3 ∧ ∃ f, (b.hs x).frame = some f ∧ f.fin = true ∧ f.status = 0 ∧
        f.op = 0x40 ∧ f.pay = r.payload.map (·.toNat)) ∧
    (opInfo (bits r.hdr.toNat 56 8) = none → hdrCrc8 r.hdr.toNat = r.hdr.toNat % 256 → r.bits = 64 → r.payload = [] →
      ∃ b, exec (.hostUnknown t x r) s = .next b ∧ b.hostState x = 3 ∧ ∃ f, (b.hs x).frame = some f ∧ f.fin = true ∧ f.status = 5 ∧ f.info = 0x20)

/-- HOST_CS_FALL, LANE_BREAK, RESPONSE_READY, RESPONSE_SEND_END, ATTN_PULSE, HOST_SILENCE, IPEND_CLEAR, RELEASE, MBQ_CONFIGURE
(R90, R105, R106, R111, R116, R118, R119). -/
def Obligations.HostPorts : Prop :=
  ∀ (s a : State) (t : Nat) (x : Port), a = s.advance t → hostOk a = true →
    (a.hostState x = 1 →
      exec (.hostCsFall t x) s = .next (a.keep (a.hostTo x 2))) ∧
    (a.hostState x = 4 →
      exec (.hostCsFall t x) s = .next (a.keep (a.hostTo x 5))) ∧
    (a.hostState x = 3 →
      exec (.hostCsFall t x) s = .next (a.keep ((a.inc (HOST_ERR_CNT_PROTO x)).iflag (8 + x) 2))) ∧
    ((a.hostState x = 1 ∨ a.hostState x = 2 ∨ a.hostState x = 4 ∨ a.hostState x = 5) →
      ∃ b, exec (.laneBreak t x) s = .next b ∧ b.hostState x = 1 ∧ b.rd (HOST_PORT_STAT_VER x) = 0x10 ∧ b.rd (HOST_PORT_STAT_QUAD x) = 0 ∧
        b.rd (HOST_ERR_CNT_PROTO x) = satN 8 (a.rd (HOST_ERR_CNT_PROTO x) + 1) ∧ bit (b.rd (PG_IFLAG_FLAG (8 + x))) 2 = true) ∧
    (∀ (f : HFrame), a.hostState x = 3 → (a.hs x).frame = some f → f.fin = true → (a.hs x).brk = false →
      (f.op = 0x40 → f.status ≠ 0) →
      ∃ b, exec (.responseReady t x) s = .next b ∧ b.hostState x = 4 ∧ (b.hs x).resp = some (a.hostResp x f) ∧ (b.hs x).frame = none) ∧
    (∀ (f : HFrame), a.hostState x = 3 → (a.hs x).frame = some f → f.fin = true → (a.hs x).brk = false → f.op = 0x40 →
      f.status = 0 → a.hostState (1 - x.val) ≠ 3 →
      ∃ b, exec (.responseReady t x) s = .next b ∧ b.hostState x = 4 ∧ b.rd SEC_ATT_CNT_COUNT = satN 16 (a.rd SEC_ATT_CNT_COUNT + 1) ∧
        ∃ p, (b.hs x).resp = some p ∧ p.pay = a.attReport f.pay) ∧
    (a.hostState x = 5 →
      exec (.responseSendEnd t x false) s = .next (a.keep ((a.inc (HOST_RESP_CNT_SHORT x)).hostTo x 4))) ∧
    (a.hostState x = 5 → (a.hs x).hello = none →
      exec (.responseSendEnd t x true) s = .next (a.keep (a.hostIdle x))) ∧
    (∀ (v : Nat) (q : Bool), a.hostState x = 5 → (a.hs x).hello = some (v, q) →
      exec (.responseSendEnd t x true) s = .next (a.keep
        (((a.wr (HOST_PORT_STAT_VER x) v).wr (HOST_PORT_STAT_QUAD x) (b2n q)).hostIdle x))) ∧
    (a.hostState x = 1 → a.on (HOST_PORT_CFG_ATTN_EN x) = true → (a.vec x).isSome = true → (a.hs x).seq = true →
      (a.hs x).pulse = none → (a.hs x).idleAt + 40 ≤ a.tb →
      exec (.attnPulse t x) s = .next (a.keep (a.modHs x fun h => { h with seq := false, pulse := some a.tb }))) ∧
    (0 < a.rd (HOST_PORT_CFG_HWD x) → (a.hs x).heard + 400000 * a.rd (HOST_PORT_CFG_HWD x) ≤ a.tb →
      exec (.hostSilence t x) s = .next (a.keep
        ((a.modHs x fun y => { y with heard := (a.hs x).heard + 400000 * a.rd (HOST_PORT_CFG_HWD x) }).raise (srcId 3 x 0) 0x50 0))) ∧
    (∀ (m : Master) (k : Fin 8) (v : Word), a.mayWrite m (8 + x) (0x80 + 4 * k) v.toNat 0xFFFFFFFF = true →
      tget 0 a.hot (HOST_IPEND_PEND x k).key = 0 →
      ∃ b, exec (.ipendClear t m x k v) s = .next b ∧ ∀ i : Fin 32, bit (b.rd (HOST_IPEND_PEND x k)) i =
        (if bit v.toNat i then a.srcLevel (32 * k + i) (x + 1) == some true else bit (a.rd (HOST_IPEND_PEND x k)) i)) ∧
    (∀ (m : Master) (n : Fin 8), a.mayWrite m (8 + x) (0x10C + 0x10 * n) 1 0xFFFFFFFF = true →
      let c := a.counted m (8 + x)
      exec (.mbqRelease t m x n) s = .next (a.keep ((c.wr (HOST_MBQ_PTR_HEAD x n)
        (a.rd (HOST_MBQ_PTR_HEAD x n) + a.rd (HOST_MBQ_STAT_RSVD_W x n))).wr (HOST_MBQ_STAT_RSVD_W x n) 0))) ∧
    (∀ (m : Master) (n : Fin 8) (v : Word), a.mayWrite m (8 + x) (0x100 + 0x10 * n) v.toNat 0xFFFFFFFF = true →
      bit v.toNat 31 = true →
      ∃ b, exec (.mbqConfigure t m x n v) s = .next b ∧ b.rd (HOST_MBQ_CFG_EN x n) = 1 ∧ b.rd (HOST_MBQ_CFG_LOG2 x n) = bits v.toNat 18 4 ∧
        b.rd (HOST_MBQ_CFG_BASE x n) = bits v.toNat 0 18 / 4 * 4 ∧ b.rd (HOST_MBQ_PTR_HEAD x n) = 0 ∧ b.rd (HOST_MBQ_PTR_TAIL x n) = 0 ∧
        b.rd (HOST_MBQ_STAT_RSVD_W x n) = 0)

/-- POS_EDGE, POS_DEFERRED_EDGE, POS_INDEX, VR_ARM_HALVE, SPEED_FALLBACK_WINDOW, POS_STUCK (R124 to R140). -/
def Obligations.PositionPortEdges : Prop :=
  ∀ (s a : State) (t : Nat) (p : PosPort), a = s.advance t → State.tbd 0 a = true → a.running (0x10 + p) = true →
    (∀ (held peak : Nat) (mv : Int), a.rd (POS_CFG_FILT p) ≤ held → (a.port p).loadAt.map (·.at_) ≠ some a.tb →
      (a.port p).ixUndo.map (·.at_) ≠ some a.tb → a.on (POS_CFG_A_INV p) = false → a.posMode p = 2 → a.posTrk p = false →
      a.on (POS_CFG_B_DIR p) = false → a.on (POS_CFG_DIR_INV p) = false → a.posActEdge p = 0 → a.posLvl p 0 = false →
      (a.port p).lastA = none → (a.port p).dir ≠ some true → a.posMin p ≤ a.posCount p + 1 → a.posCount p + 1 ≤ a.posMax p →
      let u := a.tb - held
      ∃ b, exec (.posEdge t p 0 true ⟨held, mv, peak⟩) s = .next b ∧ b.posCount p = a.posCount p + 1 ∧ b.rd (POS_STAT_DIR p) = 0 ∧
        b.posLvl p 0 = true ∧ b.rd (POS_LAST_T_LO_T p) = u % 2 ^ 32 ∧ b.rd (POS_LAST_T_HI_T p) = u / 2 ^ 32 % 2 ^ 32 ∧
        (b.port p).lastA = some u) ∧
    (∀ (i : Fin 3) (lvl : Bool) (held peak l : Nat) (mv : Int), a.rd (POS_CFG_FILT p) ≤ held → a.edgePin p i = true →
      a.posMode p ≠ 3 → a.posLvl p i = !lvl → (if i.val = 0 then (a.port p).lastA else (a.port p).lastB) = some l →
      a.tb - held < l + a.posMinEdge p →
      ∃ b, exec (.posEdge t p i (lvl != a.posInv p i) ⟨held, mv, peak⟩) s = .next b ∧ b.rd (POS_EDGE_ERR_FAST p) = satN 16 (a.rd (POS_EDGE_ERR_FAST p) + 1) ∧
        bit (b.rd (PG_IFLAG_FLAG (0x10 + p))) 0 = true ∧ b.rd (POS_COUNT_VALUE p) = a.rd (POS_COUNT_VALUE p) ∧
        b.posLvl p i = a.posLvl p i) ∧
    (∀ (i : Fin 3) (l : Nat), a.edgePin p i = true → a.posLvl p i = !a.posIn p i →
      (if i.val = 0 then (a.port p).lastA else (a.port p).lastB) = some l → l + a.posMinEdge p ≤ a.tb →
      exec (.posDeferredEdge t p i) s = .next (a.keep (a.edgeIn p i (a.posIn p i) a.tb (a.port p).peak))) ∧
    (∀ (l : Nat), (a.port p).loadAt.map (·.at_) ≠ some a.tb → (a.port p).ixUndo.map (·.at_) ≠ some a.tb → a.posIn p 0 = true →
      a.posMode p = 2 → a.posTrk p = false → a.on (POS_CFG_B_DIR p) = false → a.on (POS_CFG_DIR_INV p) = false →
      a.posActEdge p = 0 → a.posLvl p 0 = false → (a.port p).lastA = some l → l + a.posMinEdge p ≤ a.tb →
      (a.port p).dir ≠ some true → a.posMin p ≤ a.posCount p + 1 → a.posCount p + 1 ≤ a.posMax p →
      ∃ b, exec (.posDeferredEdge t p 0) s = .next b ∧ b.posCount p = a.posCount p + 1 ∧ b.posLvl p 0 = true ∧
        b.rd (POS_LAST_T_LO_T p) = a.tb % 2 ^ 32 ∧ b.rd (POS_LAST_T_HI_T p) = a.tb / 2 ^ 32 % 2 ^ 32 ∧ (b.port p).lastA = some a.tb) ∧
    (a.on (POS_CFG_Z_EN p) = true → (a.posMode p = 1 ∨ a.posMode p = 2 ∨ a.posMode p = 4) → a.posLvl p 2 = false →
      (a.port p).loadAt.map (·.at_) ≠ some a.tb →
      ∃ b, exec (.posIndex t p) s = .next b ∧ b.posLvl p 2 = true ∧ (b.port p).idx = some (b.posCount p) ∧
        (b.port p).idxSkip = false ∧ (a.on (POS_CFG_IDX_ZERO p) = false → b.rd (POS_COUNT_VALUE p) = a.rd (POS_COUNT_VALUE p))) ∧
    (∀ (t1 t0 w1 w0 : Nat) (l : List (Nat × Nat)), a.posMode p = 3 → a.on (POS_VR_CFG_ADAPT p) = true →
      (a.port p).armed = false → (a.port p).edges = (t1, w1) :: (t0, w0) :: l → t1 + (3 + (a.port p).halved) * (t1 - t0) ≤ a.tb →
      exec (.vrArmHalve t p) s = .next (a.keep
        ((a.setPort p { a.port p with halved := (a.port p).halved + 1 }).wr (POS_VR_STAT_ARM p)
          (max (4 * a.rd (POS_VR_CFG_ARM_MIN p)) (a.rd (POS_VR_STAT_ARM p) / 2))))) ∧
    (a.rd (POS_SPD_STAT_PATH p) = 2 → (a.port p).fb.1 + 400 * max 1 (a.rd (POS_SPD_WIN_FB_WIN p)) ≤ a.tb →
      exec (.speedFallbackWindow t p) s = .next (a.keep
        ((a.setPort p { a.port p with fb := (a.tb, 0), spdAt := a.tb }).wr (POS_SPEED_VALUE p)
          (ofS 32 (((a.port p).fb.2 * 256000000).tdiv ((max 1 (a.rd (POS_SPD_WIN_FB_WIN p)) : Nat) : Int)))))) ∧
    (1 ≤ a.posMode p → a.posMode p ≤ 4 → 0 < a.rd (POS_STUCK_CFG_STUCK_T p) → a.on (POS_STAT_STUCK p) = false →
      (a.port p).since + 400000 * a.rd (POS_STUCK_CFG_STUCK_T p) ≤ a.tb →
      ∃ b, exec (.posStuck t p) s = .next b ∧ b.rd (POS_STAT_STUCK p) = 1 ∧ b.rd (POS_SPEED_VALUE p) = 0 ∧ b.rd (POS_SPD_STAT_PATH p) = 3 ∧
        b.rd (POS_SPD_STAT_VALID p) = 0 ∧ bit (b.rd (PG_IFLAG_FLAG (0x10 + p))) 4 = true)

/-- POS_ENABLE, LOAD, SSI_TRIG, SSI_PERIOD_START, SSI_WORD, SSI_TIMEOUT, SENT_FRAME (R131, R133, R141 to R149). -/
def Obligations.PositionPortWords : Prop :=
  ∀ (s a : State) (t : Nat) (p : PosPort), a = s.advance t → State.core 0 a = true → a.tbOn = true →
    (∀ (m : Master), a.mayWrite m (0x10 + p) 8 1 1 = true → a.on (PG_CTRL_EN (0x10 + p)) = false → a.posMin p ≤ a.posMax p →
      ∃ b, exec (.posEnable t m p) s = .next b ∧ b.rd (PG_CTRL_EN (0x10 + p)) = 1 ∧ b.rd (POS_STAT_STUCK p) = 0 ∧
        b.rd (POS_STAT_SSI_BUSY p) = 0 ∧ b.rd (POS_COUNT_VALUE p) = a.rd (POS_COUNT_VALUE p) ∧ (b.port p).since = a.tb ∧
        (1 ≤ a.posMode p ∧ a.posMode p ≤ 4 → b.rd (POS_SPD_STAT_PATH p) = 2)) ∧
    (∀ (m : Master), a.mayWrite m (0x10 + p) 8 1 1 = true → a.on (PG_CTRL_EN (0x10 + p)) = false → a.posMax p < a.posMin p →
      exec (.posEnable t m p) s = .next (a.keep ((a.counted m (0x10 + p)).cfgRec (srcId 0 p 0xF) 0 0xFFF))) ∧
    (∀ (m : Master), a.mayWrite m (0x10 + p) 0x48 1 1 = true → a.posTrk p = false →
      ∃ b, exec (.posLoad t m p) s = .next b ∧
        b.rd (POS_COUNT_VALUE p) = ofS 32 (clampI (a.posMin p) (a.posMax p) (toS 32 (a.rd (POS_PRESET_VALUE p)))) ∧
        (b.port p).dir = none) ∧
    (∀ (m : Master), a.mayWrite m (0x10 + p) 0x48 2 2 = true → a.running (0x10 + p) = true → a.posMode p = 5 →
      a.on (POS_STAT_SSI_BUSY p) = false → a.on TB_TB_STAT_LFMODE = false →
      exec (.ssiTrig t m p true) s = .next (a.keep
          (((a.counted m (0x10 + p)).setPort p { a.port p with ssi := some ⟨a.tb⟩ }).wr (POS_STAT_SSI_BUSY p) 1)) ∧
      exec (.ssiTrig t m p false) s = .next (a.keep ((a.counted m (0x10 + p)).ssiFail p 1))) ∧
    (∀ (m : Master), a.mayWrite m (0x10 + p) 0x48 2 2 = true → a.running (0x10 + p) = true → a.posMode p = 5 →
      a.on (POS_STAT_SSI_BUSY p) = false → a.on TB_TB_STAT_LFMODE = false →
      ∃ b, exec (.ssiTrig t m p true) s = .next b ∧ b.rd (POS_STAT_SSI_BUSY p) = 1 ∧ (b.port p).ssi = some ⟨a.tb⟩) ∧
    (∀ (m : Master), a.mayWrite m (0x10 + p) 0x48 2 2 = true → a.running (0x10 + p) = true → a.posMode p = 5 →
      a.on (POS_STAT_SSI_BUSY p) = false → a.on TB_TB_STAT_LFMODE = false →
      ∃ b, exec (.ssiTrig t m p false) s = .next b ∧ b.rd (POS_STAT_SSI_BUSY p) = 0 ∧
        b.rd (POS_SSI_ERR_TIMEOUT p) = satN 8 (a.rd (POS_SSI_ERR_TIMEOUT p) + 1) ∧ bit (b.rd (PG_IFLAG_FLAG (0x10 + p))) 6 = true) ∧
    (a.running (0x10 + p) = true → a.posMode p = 5 → a.on (POS_STAT_SSI_BUSY p) = false → a.on TB_TB_STAT_LFMODE = false →
      0 < a.rd (POS_SSI_TIM_PERIOD p) → (a.port p).ssiAt + 400 * a.rd (POS_SSI_TIM_PERIOD p) ≤ a.tb →
      ∃ b, exec (.ssiPeriodStart t p false true) s = .next b ∧ b.rd (POS_STAT_SSI_BUSY p) = 1 ∧ (b.port p).ssi = some ⟨a.tb⟩ ∧ (b.port p).ssiAt = a.tb) ∧
    (∀ (bs : List Bool) (r : SsiRead), (a.port p).ssi = some r → a.ssiLast p r ≤ a.tb → a.tb ≤ a.ssiUntil p r →
      bs.length = a.ssiData p + a.ssiErrBits p → a.ssiCrcBits p = 0 →
      ((bs.drop (a.ssiData p)).any (· == a.on (POS_SSI_CFG_ERR_LVL p))) = false → a.on (POS_SSI_CFG_GRAY p) = false →
      ∃ b, exec (.ssiWord t p bs) s = .next b ∧ b.rd (POS_STAT_SSI_BUSY p) = 0 ∧
        b.rd (POS_SSI_DATA_WORD p) = ofBits (bs.take (a.ssiData p)) % 2 ^ 32 ∧ (b.port p).ssi = none ∧
        b.rd (POS_LAST_T_LO_T p) = r.start % 2 ^ 32 ∧ bit (b.rd (PG_IFLAG_FLAG (0x10 + p))) 7 = true) ∧
    (∀ (r : SsiRead), (a.port p).ssi = some r → a.ssiUntil p r ≤ a.tb →
      exec (.ssiTimeout t p) s = .next (a.keep ((a.ssiEnd p).ssiFail p 2))) ∧
    (∀ (r : SsiRead), (a.port p).ssi = some r → a.ssiUntil p r ≤ a.tb →
      ∃ b, exec (.ssiTimeout t p) s = .next b ∧ b.rd (POS_STAT_SSI_BUSY p) = 0 ∧ (b.port p).ssi = none ∧
        b.rd (POS_SSI_ERR_TIMEOUT p) = satN 8 (a.rd (POS_SSI_ERR_TIMEOUT p) + 1) ∧ bit (b.rd (PG_IFLAG_FLAG (0x10 + p))) 6 = true ∧
        b.rd (POS_SSI_DATA_WORD p) = a.rd (POS_SSI_DATA_WORD p)) ∧
    (∀ (sync : Nat) (nibs : List Nat), a.running (0x10 + p) = true → a.posMode p = 6 →
      sync = 2240 * a.rd (POS_SENT_CFG_TICK p) → 0 < sync → (a.port p).sync = none → a.rd (POS_SENT_CFG_NIBBLES p) = 6 →
      a.on (POS_SENT_CFG_PAUSE p) = false → a.on (POS_SENT_CFG_SER_EN p) = false → nibs.length = 8 →
      nibs.any (nibbleBad sync) = false →
      (nibs.map (nibbleOf sync)).getLastD 0 = sentCrc (a.on (POS_SENT_CFG_CRC_LEGACY p)) (((nibs.map (nibbleOf sync)).drop 1).take 6) →
      ∃ b, exec (.sentFrame t p sync nibs none false) s = .next b ∧ b.rd (POS_SENT_FAST_NEW p) = 1 ∧
        b.rd (POS_SENT_FAST_STATUS p) = (nibs.map (nibbleOf sync)).headD 0 % 16 ∧
        b.rd (POS_SENT_FAST_DATA p) = (((nibs.map (nibbleOf sync)).drop 1).take 6).foldl (fun x n => 16 * x + n) 0 % 2 ^ 24 ∧
        bit (b.rd (PG_IFLAG_FLAG (0x10 + p))) 9 = true) ∧
    (∀ (sync : Nat) (nibs : List Nat) (q : Option Nat) (e : Bool), a.running (0x10 + p) = true → a.posMode p = 6 →
      2240 * a.rd (POS_SENT_CFG_TICK p) * (10 + 5 * a.rd (POS_SENT_CFG_TICK_TOL p)) < (sync - 2240 * a.rd (POS_SENT_CFG_TICK p)) * 100 →
      ∃ b, exec (.sentFrame t p sync nibs q e) s = .next b ∧ b.rd (POS_SENT_ERR_SYNC p) = satN 8 (a.rd (POS_SENT_ERR_SYNC p) + 1) ∧
        bit (b.rd (PG_IFLAG_FLAG (0x10 + p))) 8 = true ∧ b.rd (POS_SENT_FAST_DATA p) = a.rd (POS_SENT_FAST_DATA p))

/-- TRK_CRANK_EDGE, TRK_CAM_EDGE, CAM_WINDOW_CLOSE, CANDIDATE_CONFIRM, HALTED, HALT_LIMIT, STALL, MICRO_TICK (R160 to R182). -/
def Obligations.TrackerEdges : Prop :=
  ∀ (s a : State) (t : Nat), a = s.advance t → trkOk a = true →
    (∀ (cb : Bool) (e : Nat), (a.trkTake (b2n cb)).1 = some e →
      exec (.trkCrankEdge t cb) s = .next (a.keep ((a.trkTake (b2n cb)).2.trkTickBefore.crankEdge cb e))) ∧
    (∀ (e : Nat), (a.trkTake 0).1 = some e → a.actLane = false → a.crankB = false → a.on TRK_LANE_CFG_S_EN = false →
      (a.trk.p.st = 0 ∨ a.trk.p.st = 5) → (a.trk.out.st = 0 ∨ a.trk.out.st = 5) → a.follow = none →
      ∃ b, exec (.trkCrankEdge t false) s = .next b ∧ b.trk.p.st = 1 ∧ b.trk.p.hist = [e] ∧ b.trk.out.st = 1 ∧
        b.trkIn = (a.trkTake 0).2.trkIn) ∧
    (∀ (e : Nat) (u : State), (a.trkTake 0).1 = some e → u = (a.trkTake 0).2.trkTickBefore → u.actLane = false →
      u.crankB = false → u.on TRK_LANE_CFG_S_EN = false → (u.trk.out.st = 2 ∨ u.trk.out.st = 3) → u.trk.failed = none →
      (u.trk.p.st = 2 ∨ u.trk.p.st = 3) → u.trk.p.cand = none → u.follow = none → u.extraTooth = false →
      u.trk.p.g.r.half = false → u.trk.p.g.r.pos + 1 ≤ u.lastPos → u.cranking = false →
      u.rd TRK_WIN_WIN_LO * u.trk.p.g.r.tp ≤ 64 * (e - u.trk.p.g.r.t) →
      u.rd TRK_CONF_CONF_LO * u.trk.p.g.r.tp ≤ 64 * (e - u.trk.p.g.r.t) →
      64 * (e - u.trk.p.g.r.t) ≤ u.rd TRK_WIN_WIN_HI * u.trk.p.g.r.tp →
      u.stallRpm * ((e - u.trk.p.g.r.t) * 2 ^ 23) ≤ 16 * 60 * 400000000 * u.trk.p.g.r.w →
      ∃ b, exec (.trkCrankEdge t false) s = .next b ∧ b.trk.p.g.r.t = e ∧ b.trk.p.g.r.pos = u.trk.p.g.r.pos + 1 ∧ b.trk.p.miss = 0 ∧
        b.trk.p.hist.head? = some e ∧ b.trk.lastAcc = some e ∧ b.rd TRK_TOOTH_POS = u.trk.p.g.r.pos + 1 ∧
        b.rd TRK_TT_LO_T = e % 2 ^ 32 ∧ b.rd TRK_PRED_T_PRED = b.trk.p.g.r.tp % 2 ^ 32) ∧
    (∀ (cb : Bool) (e : Nat) (u : State), (a.trkTake (2 + b2n cb)).1 = some e → u = (a.trkTake (2 + b2n cb)).2.trkTick →
      u.camOn = true → u.camPos3 = cb → u.trk.out.valid = false →
      ∃ b, exec (.trkCamEdge t cb) s = .next b ∧ b.trk.cams = (({ t := e, pos3 := cb, odo := none } : CamEdge) :: u.trk.cams).take 8 ∧
        b.trk.out = u.trk.out ∧ b.trkIn = (a.trkTake (2 + b2n cb)).2.trkIn) ∧
    (∀ (cb : Bool) (e : Nat), (a.trkTake (2 + b2n cb)).1 = some e →
      exec (.trkCamEdge t cb) s = .next (a.keep ((a.trkTake (2 + b2n cb)).2.trkTick.camEdge e cb))) ∧
    (∀ (u : State) (j : Fin 24), u = a.trkTick → u.camOn = true → u.trk.out.base = 3 → u.camTeeth.contains j.val = true →
      u.trk.met.contains j.val = false → subMod (2 ^ 24) u.trk.out.ang ((u.camC j + u.camWin) % 2 ^ 24) < 2 ^ 23 →
      0 < subMod (2 ^ 24) u.trk.out.ang ((u.camC j + u.camWin) % 2 ^ 24) →
      u.trk.camFrom < u.trk.odo - subMod (2 ^ 24) u.trk.out.ang ((u.camC j + u.camWin) % 2 ^ 24) →
      tget 0 u.trk.closed j + 2 ^ 22 < u.trk.odo - subMod (2 ^ 24) u.trk.out.ang ((u.camC j + u.camWin) % 2 ^ 24) →
      ∃ b, exec (.camWindowClose t j) s = .next b ∧ b.rd TRK_ERR_CNT1_CAM_ERR = satN 8 (u.rd TRK_ERR_CNT1_CAM_ERR + 1) ∧
        bit (b.rd (PG_IFLAG_FLAG 0x18)) 5 = true ∧ b.trk.cycClean = false) ∧
    (∀ (u : State) (ls : Bool) (tc : Nat), u = a.trkTickBefore → (u.lane ls).cand = some tc → (u.lane ls).synced = true →
      u.rd TRK_CONF_MERGE_HI * (u.lane ls).g.r.tp ≤ 64 * (u.tb - (u.lane ls).g.r.t) →
      let l := u.lane ls
      exec (.candidateConfirm t ls) s = .next (a.keep ((u.setLane ls { l with cand := none }).laneAccept ls tc false true))) ∧
    (∀ (u : State) (ls : Bool) (tc : Nat), u = a.trkTickBefore → (u.lane ls).cand = some tc → (u.lane ls).synced = true →
      u.rd TRK_CONF_MERGE_HI * (u.lane ls).g.r.tp ≤ 64 * (u.tb - (u.lane ls).g.r.t) →
      u.stallRpm * ((tc - (u.lane ls).g.r.t) * 2 ^ 23) ≤ 16 * 60 * 400000000 * (u.lane ls).g.r.w →
      ∃ b, exec (.candidateConfirm t ls) s = .next b ∧ (b.lane ls).cand = none ∧ (b.lane ls).g.r.t = tc ∧ (b.lane ls).miss = 0 ∧
        (b.lane ls).g.r.pos = (u.nextElem ((u.lane ls).base == 3) ((u.lane ls).g.r.pos, (u.lane ls).g.r.half)).1 ∧ b.trk.lastAcc = some tc) ∧
    (∀ (u : State), u = a.trkTick → (u.trk.out.st = 2 ∨ u.trk.out.st = 3) → u.trk.out.e = 0 → u.trk.out.ahead = 0 →
      u.trk.out.g.held u.trk.out.eAt u.tb = true →
      ∃ b, exec (.trkHalted t) s = .next b ∧ b.trk.out.st = 4 ∧ b.trk.out.level = u.trk.out.st ∧ b.trk.out.ang = u.trk.out.ang ∧
        b.rd TRK_ERR_CNT0_HALT = satN 16 (u.rd TRK_ERR_CNT0_HALT + 1)) ∧
    (∀ (u : State) (ls : Bool), u = a.trkTickBefore → u.limitPassed ls = true →
      exec (.haltLimit t ls) s = .next (a.keep (u.haltLimit ls))) ∧
    (∀ (u : State) (ls : Bool), u = a.trkTickBefore → u.limitPassed ls = true → u.missTol ≤ (u.lane ls).miss →
      u.gapAfter (u.nextElem ((u.lane ls).base == 3) ((u.lane ls).g.r.pos, (u.lane ls).g.r.half)) = false →
      (u.nextElem ((u.lane ls).base == 3) ((u.lane ls).g.r.pos, (u.lane ls).g.r.half)).1 % u.wheelN ≠ 0 → ls = u.actLane →
      (u.lane (!ls)).synced = false →
      ∃ b, exec (.haltLimit t ls) s = .next b ∧ (b.lane ls).st = 5 ∧ b.trk.out.st = 5 ∧ b.rd TRK_SYNC_STAT_LOST_CAUSE = 1 ∧
        b.rd TRK_ERR_CNT1_MISS = satN 8 (u.rd TRK_ERR_CNT1_MISS + 1) ∧ bit (b.rd (PG_IFLAG_FLAG 0x18)) 4 = true ∧
        bit (b.rd (PG_IFLAG_FLAG 0x18)) 1 = true) ∧
    (∀ (u : State) (ls : Bool), u = a.trkTickBefore → u.limitPassed ls = true → (u.lane ls).miss < u.missTol →
      u.gapAfter (u.nextElem ((u.lane ls).base == 3) ((u.lane ls).g.r.pos, (u.lane ls).g.r.half)) = false →
      (u.nextElem ((u.lane ls).base == 3) ((u.lane ls).g.r.pos, (u.lane ls).g.r.half)).1 % u.wheelN ≠ 0 →
      u.laneCounts ls = true →
      ∃ b, exec (.haltLimit t ls) s = .next b ∧ (b.lane ls).miss = (u.lane ls).miss + 1 ∧
        (b.lane ls).g.r.t = (u.lane ls).g.r.t + (u.lane ls).g.r.tp ∧
        (b.lane ls).g.r.pos = (u.nextElem ((u.lane ls).base == 3) ((u.lane ls).g.r.pos, (u.lane ls).g.r.half)).1 ∧
        b.rd TRK_ERR_CNT1_MISS = satN 8 (u.rd TRK_ERR_CNT1_MISS + 1) ∧ bit (b.rd (PG_IFLAG_FLAG 0x18)) 4 = true) ∧
    (∀ (u v : State), u = a.trkTickBefore → v = u.trkTick → u.limitPassed u.actLane = false → u.trk.out.st ≠ 5 →
      v.stalled = true →
      exec (.trkStall t) s = .next (a.keep v.goStall)) ∧
    (∀ (u v : State), u = a.trkTickBefore → v = u.trkTick → u.limitPassed u.actLane = false → u.trk.out.st ≠ 5 →
      v.stalled = true →
      ∃ b, exec (.trkStall t) s = .next b ∧ b.trk.out.st = 0 ∧ b.trk.p = {} ∧ b.trk.s = {} ∧ b.trk.lastAcc = none ∧ b.trk.met = []) ∧
    (a.follow = none →
      exec (.microTick t) s = .next (a.keep a.trkTick)) ∧
    (∀ (n x : Nat), a.follow = none → (a.trk.out.st = 2 ∨ a.trk.out.st = 3) → a.trk.out.e = 0 → a.trk.out.ahead = 0 →
      n = (a.tb - a.trk.out.g.at_) / 4 → x = min (a.trk.out.g.d + n * a.trk.out.g.inc) ((a.trk.out.g.r.w - 1) * 2 ^ 24) →
      a.trk.out.g.d ≤ (a.trk.out.g.r.w - 1) * 2 ^ 24 → a.trk.out.ang + x / 2 ^ 24 < a.outM →
      ∃ b, exec (.microTick t) s = .next b ∧ b.trk.out.g.d = x ∧ b.trk.out.g.at_ = a.trk.out.g.at_ + 4 * n ∧
        b.trk.out.ang = a.trk.out.ang + (x / 2 ^ 24 - a.trk.out.g.d / 2 ^ 24) ∧ b.trk.out.st = a.trk.out.st)

/-- TRK_ENABLE, SEL_REQ, TBL_DATA_ACCESS, TBL_COMMIT, LEARN_REQ, LEARN_ABORT, LEARN_DONE (R159, R179, R183 to R186). -/
def Obligations.TrackerCommands : Prop :=
  ∀ (s a : State) (t : Nat) (m : Master), a = s.advance t → State.core 0 a = true →
    (a.mayWrite m 0x18 8 1 0xFFFFFFFF = true → a.on (PG_CTRL_EN 0x18) = false → a.trkCheck = 0 →
      ∃ b, exec (.trkEnable t m) s = .next b ∧ b.rd (PG_CTRL_EN 0x18) = 1 ∧ bits (b.rd (PG_STAT_BLK 0x18)) 0 8 = 0 ∧ b.trk = a.trk) ∧
    (a.mayWrite m 0x18 8 1 0xFFFFFFFF = true → a.on (PG_CTRL_EN 0x18) = false → a.trkCheck ≠ 0 →
      ∃ b, exec (.trkEnable t m) s = .next b ∧ b.rd (PG_CTRL_EN 0x18) = 0 ∧ bits (b.rd (PG_STAT_BLK 0x18)) 0 8 = a.trkCheck % 256) ∧
    (∀ (ls : Bool), a.mayWrite m 0x18 0xA8 (2 + b2n ls) 0xFFFFFFFF = true → ls ≠ a.actLane → a.trk.out.valid = true →
      (a.lane ls).synced = true → (a.lane ls).base = a.trk.out.base →
      exec (.selReq t m ls) s = .next (a.keep
        (((a.counted m 0x18).wr TRK_LANE_CTRL_SEL_LANE (b2n ls)).modTrk fun z => { z with req := some ls }))) ∧
    (∀ (ls : Bool), a.mayWrite m 0x18 0xA8 (2 + b2n ls) 0xFFFFFFFF = true → ls ≠ a.actLane → a.trk.out.valid = true →
      (a.lane ls).synced = true → (a.lane ls).base = a.trk.out.base →
      ∃ b, exec (.selReq t m ls) s = .next b ∧ b.rd TRK_LANE_CTRL_SEL_LANE = b2n ls ∧ b.trk.req = some ls ∧ b.trk.out = a.trk.out) ∧
    (a.mayRead m 0x18 0xC4 = true →
      exec (.tblDataAccess t m none) s = .next (a.keep
        ((a.counted m 0x18).wr TRK_TBL_CTRL_IDX (a.rd TRK_TBL_CTRL_IDX + 1)))) ∧
    (∀ (v : Word), a.mayWrite m 0x18 0xC4 v.toNat 0xFFFFFFFF = true →
      a.tblHas (a.on TRK_TBL_CTRL_SEL) (a.rd TRK_TBL_CTRL_IDX) = true → v.toNat < 65536 →
      ∃ b, exec (.tblDataAccess t m (some v)) s = .next b ∧ b.rd TRK_TBL_CTRL_IDX = (a.rd TRK_TBL_CTRL_IDX + 1) % 2 ^ (TRK_TBL_CTRL_IDX).w ∧
        tget 0 (if a.on TRK_TBL_CTRL_SEL then b.trk.camshadow else b.trk.cshadow) (a.rd TRK_TBL_CTRL_IDX) = toS 16 v.toNat ∧
        b.trk.ctab = a.trk.ctab ∧ b.trk.camtab = a.trk.camtab) ∧
    (a.mayWrite m 0x18 0xC0 0x80000000 0x80000000 = true → a.on TRK_TBL_CTRL_SEL = true → a.trk.out.valid = false →
      ∃ b, exec (.tblCommit t m) s = .next b ∧ b.trk.camtab = a.trk.camshadow ∧ b.rd TRK_TBL_STAT_PENDING = 0 ∧
        bit (b.rd (PG_IFLAG_FLAG 0x18)) 10 = true) ∧
    (∀ (k : Nat), a.mayWrite m 0x18 0xC0 0x80000000 0x80000000 = true → a.on TRK_TBL_CTRL_SEL = false → a.shadowBad = some k →
      ∃ b, exec (.tblCommit t m) s = .next b ∧ b.rd TRK_TBL_STAT_REFUSED = 1 ∧ b.rd TRK_TBL_STAT_REF_IDX = k % 2 ^ (TRK_TBL_STAT_REF_IDX).w ∧
        b.trk = a.trk) ∧
    (a.mayWrite m 0x18 0xB0 0x80000000 0x80000000 = true → a.maint.run = [] → a.maint.wait = [] →
      ∃ b, exec (.learnReq t m) s = .next b ∧ b.maint.run = [learnTask] ∧ b.trk.learn = some {} ∧ b.rd TRK_LEARN_STAT_RESULT = 1 ∧
        b.rd TRK_LEARN_STAT_CYC_DONE = 0) ∧
    (a.mayWrite m 0x18 0xB0 0x40000000 0x40000000 = true → a.runs learnTask = true →
      ∃ b, exec (.learnAbort t m) s = .next b ∧ b.rd TRK_LEARN_STAT_RESULT = 6 ∧ b.trk.learn = none ∧ b.runs learnTask = false ∧
        b.rd (MAINT_ACT_STAT_RESULT 6) = 6) ∧
    (∀ (x : LearnS), a.trk.learn = some x → a.learnCyc ≤ x.cycles.length → a.runs learnTask = true →
      ((a.learnStats x.cycles).all fun e => decide (e.2.2 ≤ ((a.rd TRK_LEARN_CTRL_LEARN_TOL : Nat) : Rat)) && decide (|e.2.1| ≤ 32767)) = true →
      ∃ b, exec (.learnDone t) s = .next b ∧ b.rd TRK_LEARN_STAT_RESULT = 3 ∧ b.trk.learn = none ∧ b.trk.learnNew.isSome = true ∧
        bit (b.rd (PG_IFLAG_FLAG 0x18)) 9 = true) ∧
    (∀ (x : LearnS), a.trk.learn = some x → x.cycles.length < a.learnCyc →
      exec (.learnDone t) s = .next (a.keep a))

/-- EVT_WORD_STAGE, EVT_COMMIT, EVT_COMMIT_EFFECT, OCCURRENCE_SLOT_ARRIVAL, RUN and EVT_STOP (R190, R192, R203, R214, R218). -/
def Obligations.EventTable : Prop :=
  ∀ (s a : State) (t : Nat) (m : Master) (i : Entry), a = s.advance t → State.core 0 a = true → a.tbOn = true →
    (∀ (w : Fin 3) (v : Word), a.writeCode m (evtBase + 16 * i + 4 * w) v.toNat 0xFFFFFFFF = 0 →
      a.grantable (32 + m) 1 = true →
      ∃ b, exec (.evtWordStage t m i w v) s = .next b ∧ b.mem = a.mem ∧ b.regs = a.regs ∧
        ∃ g, tget none b.evt.stage m = some g ∧ (g.idx = i.val ∧ (if w.val = 0 then g.w0 else if w.val = 1 then g.w1 else g.w2) = some v.toNat)) ∧
    (∀ (v : Word), a.writeCode m (evtBase + 16 * i + 12) v.toNat 0xFFFFFFFF = 0 → a.grantable (32 + m) 1 = true →
      tget none a.evt.stage m = none → a.evtRuns = false → a.evtCheck i { a.committed i with w3 := v.toNat % 2 ^ 28 } = none →
      ∃ b, exec (.evtCommit t m i v) s = .next b ∧ rdWord b.mem (evtBase + 16 * i) = (a.committed i).w0 % 2 ^ 32 ∧
        rdWord b.mem (evtBase + 16 * i + 4) = (a.committed i).w1 % 2 ^ 32 ∧ rdWord b.mem (evtBase + 16 * i + 8) = (a.committed i).w2 % 2 ^ 32 ∧
        rdWord b.mem (evtBase + 16 * i + 12) % 2 ^ 28 = v.toNat % 2 ^ 28 ∧ b.regs = a.regs) ∧
    (∀ (v : Word), a.writeCode m (evtBase + 16 * i + 12) v.toNat 0xFFFFFFFF = 0 → a.grantable (32 + m) 1 = true →
      tget none a.evt.stage m = none → a.evtRuns = true → bit v.toNat 26 = false →
      a.evtCheck i { a.committed i with w3 := v.toNat % 2 ^ 28 } = none →
      ∃ b, exec (.evtCommit t m i v) s = .next b ∧ b.evt.imm = a.evt.imm ++ [(i.val, { a.committed i with w3 := v.toNat % 2 ^ 28 })] ∧ b.mem = a.mem ∧ b.evt.slots = a.evt.slots) ∧
    (∀ (v : Word) (code : Nat), a.writeCode m (evtBase + 16 * i + 12) v.toNat 0xFFFFFFFF = 0 → a.grantable (32 + m) 1 = true →
      tget none a.evt.stage m = none → a.evtCheck i { a.committed i with w3 := v.toNat % 2 ^ 28 } = some code →
      a.on EVT_CMT_ERR_VALID = false →
      ∃ b, exec (.evtCommit t m i v) s = .next b ∧ b.mem = a.mem ∧ b.rd EVT_CMT_ERR_VALID = 1 ∧ b.rd EVT_CMT_ERR_CODE = code % 2 ^ (EVT_CMT_ERR_CODE).w ∧
        b.rd EVT_CMT_ERR_IDX = i.val % 2 ^ (EVT_CMT_ERR_IDX).w ∧ bit (b.rd (PG_IFLAG_FLAG 0x19)) 0 = true) ∧
    (∀ (j : Nat) (e : Entry4), (a.evt.imm.find? fun (x : Nat × Entry4) => x.1 == i.val) = some (j, e) →
      let c := { a.evt with imm := a.evt.imm.erase (j, e) }
      let d : State := { a with evt := c }
      exec (.evtCommitEffect t i) s = .next (a.keep (if a.evtRuns then d.evtDecide i e else d.evtTake i e))) ∧
    (∀ (j : Nat) (e : Entry4), (a.evt.imm.find? fun (x : Nat × Entry4) => x.1 == i.val) = some (j, e) → a.evtRuns = false →
      ∃ b, exec (.evtCommitEffect t i) s = .next b ∧ b.evt.imm = a.evt.imm.erase (j, e) ∧ (b.entry i).w0 = e.w0 % 2 ^ 32 ∧
        (b.entry i).w1 = e.w1 % 2 ^ 32 ∧ (b.entry i).w2 = e.w2 % 2 ^ 32 ∧ (b.entry i).w3 % 2 ^ 28 = e.w3 % 2 ^ 28 ∧
        (b.evt.later.any fun (x : Nat × Nat × Entry4) => x.1 == i.val) = false ∧ b.evt.slots = a.evt.slots) ∧
    (∀ (j : Nat) (e : Entry4), (a.evt.imm.find? fun (x : Nat × Entry4) => x.1 == i.val) = some (j, e) → a.evtRuns = true →
      e.valid = false →
      ∃ b, exec (.evtCommitEffect t i) s = .next b ∧ b.evt.imm = a.evt.imm.erase (j, e) ∧ b.mem = a.mem ∧
        b.evt.later = (a.evt.later.filter fun (x : Nat × Nat × Entry4) => x.1 != i.val) ++ [(i.val, a.dueCycle i + 1, e)]) ∧
    (∀ (x : Occ) (p : Nat), a.domOn 1 = true → (a.evt.slots.find? fun y => y.idx == i.val && !y.here) = some x →
      a.physOf x.e.ch = some p →
      let d := a.setOcc (a.dwellFix a.recNow { x with here := true })
      exec (.occurrenceSlotArrival t i) s = .next (a.keep (d.evtLoad p))) ∧
    (∀ (x : Occ) (p : Nat), a.domOn 1 = true → (a.evt.slots.find? fun y => y.idx == i.val && !y.here) = some x →
      a.physOf x.e.ch = some p → a.logOf p = some x.e.ch → a.on (TILE_CH_CTRL_EN (p / 24) (p % 24)) = true →
      (a.chan p).pipe = none → (a.chan p).act = none → (a.chan p).mhold = false →
      (a.evt.slots.any fun o => o.e.ch == x.e.ch && o.here) = false →
      ∃ b, exec (.occurrenceSlotArrival t i) s = .next b ∧ (b.chan p).pipe = some i.val ∧ b.evt.slots.length = a.evt.slots.length ∧
        (b.evt.slots.any fun o => o.idx == i.val && o.here) = true) ∧
    (∀ (x : Occ), a.domOn 1 = true → (a.evt.slots.find? fun y => y.idx == i.val && !y.here) = some x → a.physOf x.e.ch = none →
      x.e.ch ≠ 0xFF →
      ∃ b, exec (.occurrenceSlotArrival t i) s = .next b ∧ b.evt.slots.length < a.evt.slots.length ∧ bit (b.entry i).w3 28 = true ∧
        b.rd EVT_ABORT_CNT_ABORT = satN 16 (a.rd EVT_ABORT_CNT_ABORT + 1) ∧ bit (b.rd (PG_IFLAG_FLAG 0x19)) 3 = true) ∧
    (a.mayWrite m 0x19 0x44 1 0xFFFFFFFF = true → a.on (PG_CTRL_EN 0x19) = true →
      (a.rd EVT_STAT_STATE = 0 ∨ a.rd EVT_STAT_STATE = 3) → a.ang.base ≠ 2 → a.ang.base ≠ 3 →
      ∃ b, exec (.evtRun t m) s = .next b ∧ b.rd EVT_CTRL_RUN = 1 ∧ b.rd EVT_STAT_STATE = 1 ∧ bit (b.rd (PG_IFLAG_FLAG 0x19)) 8 = true) ∧
    (a.mayWrite m 0x19 0x44 0 0xFFFFFFFF = true → a.rd EVT_STAT_STATE ≠ 0 →
      exec (.evtStop t m) s = .next (a.keep (((a.counted m 0x19).wr EVT_CTRL_RUN 0).evtStop)) ∧
      (((a.counted m 0x19).wr EVT_CTRL_RUN 0).evtStop).rd EVT_STAT_STATE = 0) ∧
    (a.mayWrite m 0x19 0x44 0 0xFFFFFFFF = true → a.rd EVT_STAT_STATE ≠ 0 →
      ∃ b, exec (.evtStop t m) s = .next b ∧ b.rd EVT_STAT_STATE = 0 ∧ b.rd EVT_CTRL_RUN = 0 ∧ b.evt.slots = [] ∧ b.evt.imm = [] ∧
        bit (b.rd (PG_IFLAG_FLAG 0x19)) 8 = true)

/-- PIN_SET, PIN_CLR, PULSE_T, PULSE_T_END, PULSE_A, PULSE_A_END, DWELL, DWELL_SPARK, DWELL_MAX_END, SRQ (R198 to R212, R234). -/
def Obligations.ChannelOccurrences : Prop :=
  ∀ (s a : State) (t : Nat), a = s.advance t → State.tbd 0 a = true → State.tbd 1 a = true →
    (∀ (i : Entry) (p : Nat) (x : Occ) (v : Verdict), a.loaded i 1 = some (p, x) →
      a.judge (a.occPos x) (a.mtLead p) x.e.lateLim (a.tmOn p) (a.amOn p) = some v → v.late = false → v.cancel = false →
      ∃ b, exec (.evtPinSet t i) s = .next b ∧ (b.chan p).env = true ∧ (b.chan p).act = none ∧ b.rd EVT_FIRE_CNT_COUNT = satN 32 (a.rd EVT_FIRE_CNT_COUNT + 1) ∧
        bit (b.entry i).w3 29 = true ∧ b.evt.slots.length < a.evt.slots.length) ∧
    (∀ (i : Entry) (p : Nat) (x : Occ) (v : Verdict), a.loaded i 2 = some (p, x) →
      a.judge (a.occPos x) (a.mtLead p) x.e.lateLim (a.tmOn p) (a.amOn p) = some v → v.late = false → v.cancel = false →
      ∃ b, exec (.evtPinClr t i) s = .next b ∧ (b.chan p).env = false ∧ (b.chan p).act = none ∧ b.rd EVT_FIRE_CNT_COUNT = satN 32 (a.rd EVT_FIRE_CNT_COUNT + 1) ∧
        bit (b.entry i).w3 29 = true ∧ b.evt.slots.length < a.evt.slots.length) ∧
    (∀ (i : Entry) (p : Nat) (x : Occ) (v : Verdict), a.loaded i 1 = some (p, x) →
      a.judge (a.occPos x) (a.mtLead p) x.e.lateLim (a.tmOn p) (a.amOn p) = some v → v.late = true → v.cancel = true →
      ∃ b, exec (.evtPinSet t i) s = .next b ∧ (b.chan p).env = (a.chan p).env ∧ b.rd EVT_FIRE_CNT_COUNT = a.rd EVT_FIRE_CNT_COUNT ∧
        b.rd EVT_LATE_CNT_CANCEL = satN 16 (a.rd EVT_LATE_CNT_CANCEL + 1) ∧ bit (b.rd (PG_IFLAG_FLAG 0x19)) 2 = true ∧
        bit (b.entry i).w3 28 = true ∧ b.evt.slots.length < a.evt.slots.length) ∧
    (∀ (i : Entry) (p : Nat) (x : Occ) (v : Verdict), a.loaded i 2 = some (p, x) →
      a.judge (a.occPos x) (a.mtLead p) x.e.lateLim (a.tmOn p) (a.amOn p) = some v → v.late = true → v.cancel = true →
      ∃ b, exec (.evtPinClr t i) s = .next b ∧ (b.chan p).env = (a.chan p).env ∧ b.rd EVT_FIRE_CNT_COUNT = a.rd EVT_FIRE_CNT_COUNT ∧
        b.rd EVT_LATE_CNT_CANCEL = satN 16 (a.rd EVT_LATE_CNT_CANCEL + 1) ∧ bit (b.rd (PG_IFLAG_FLAG 0x19)) 2 = true ∧
        bit (b.entry i).w3 28 = true ∧ b.evt.slots.length < a.evt.slots.length) ∧
    (∀ (i : Entry) (p : Nat) (x : Occ) (v : Verdict), a.loaded i 3 = some (p, x) →
      a.judge (a.occPos x) (a.mtLead p) x.e.lateLim (a.tmOn p) (a.amOn p) = some v → v.late = true → v.cancel = true →
      ∃ b, exec (.evtPulseT t i) s = .next b ∧ (b.chan p).env = (a.chan p).env ∧ b.rd EVT_FIRE_CNT_COUNT = a.rd EVT_FIRE_CNT_COUNT ∧
        b.rd EVT_LATE_CNT_CANCEL = satN 16 (a.rd EVT_LATE_CNT_CANCEL + 1) ∧ bit (b.rd (PG_IFLAG_FLAG 0x19)) 2 = true ∧
        bit (b.entry i).w3 28 = true ∧ b.evt.slots.length < a.evt.slots.length) ∧
    (∀ (i : Entry) (p : Nat) (x : Occ) (v : Verdict), a.loaded i 4 = some (p, x) →
      a.judge (a.occPos x) (a.mtLead p) x.e.lateLim (a.tmOn p) (a.amOn p) = some v → v.late = true → v.cancel = true →
      ∃ b, exec (.evtPulseA t i) s = .next b ∧ (b.chan p).env = (a.chan p).env ∧ b.rd EVT_FIRE_CNT_COUNT = a.rd EVT_FIRE_CNT_COUNT ∧
        b.rd EVT_LATE_CNT_CANCEL = satN 16 (a.rd EVT_LATE_CNT_CANCEL + 1) ∧ bit (b.rd (PG_IFLAG_FLAG 0x19)) 2 = true ∧
        bit (b.entry i).w3 28 = true ∧ b.evt.slots.length < a.evt.slots.length) ∧
    (∀ (i : Entry) (p : Nat) (x : Occ) (v : Verdict), a.loaded i 8 = some (p, x) →
      a.judge (a.occPos x) (a.mtLead p) x.e.lateLim (a.tmOn p) (a.amOn p) = some v → v.late = true → v.cancel = true →
      ∃ b, exec (.evtSrq t i) s = .next b ∧ (b.chan p).env = (a.chan p).env ∧ b.rd EVT_FIRE_CNT_COUNT = a.rd EVT_FIRE_CNT_COUNT ∧
        b.rd EVT_LATE_CNT_CANCEL = satN 16 (a.rd EVT_LATE_CNT_CANCEL + 1) ∧ bit (b.rd (PG_IFLAG_FLAG 0x19)) 2 = true ∧
        bit (b.entry i).w3 28 = true ∧ b.evt.slots.length < a.evt.slots.length) ∧
    (∀ (i : Entry) (p : Nat) (x : Occ) (v : Verdict), a.loaded i 3 = some (p, x) → x.e.w2 ≠ 0 →
      a.judge (a.occPos x) (a.mtLead p) x.e.lateLim (a.tmOn p) (a.amOn p) = some v → v.late = false → v.cancel = false →
      ∃ b, exec (.evtPulseT t i) s = .next b ∧ (b.chan p).env = true ∧
        (b.chan p).act = some (.pulse x.idx (v.at16 + 16 * x.e.w2)) ∧ b.rd EVT_FIRE_CNT_COUNT = satN 32 (a.rd EVT_FIRE_CNT_COUNT + 1) ∧
        bit (b.entry i).w3 29 = true ∧ b.evt.slots.length < a.evt.slots.length) ∧
    (∀ (p : Channel) (j stop : Nat), a.dead p = false → a.tmOn p = true → (a.chan p).act = some (.pulse j stop) →
      stop ≤ 16 * (a.tb + a.mtLead p) →
      ∃ b, exec (.evtPulseTEnd t p) s = .next b ∧ (b.chan p).env = false ∧ (b.chan p).act = none) ∧
    (∀ (i : Entry) (p : Nat) (x : Occ) (v : Verdict) (d : Nat), a.loaded i 4 = some (p, x) → x.stop = some d →
      a.judge (a.occPos x) (a.mtLead p) x.e.lateLim (a.tmOn p) (a.amOn p) = some v → v.late = false → v.cancel = false →
      ∃ b, exec (.evtPulseA t i) s = .next b ∧ (b.chan p).env = true ∧
        (b.chan p).act = some (.pulseA x.idx (v.at16 + 16 * x.e.w2) (a.occPos x + d)) ∧ b.rd EVT_FIRE_CNT_COUNT = satN 32 (a.rd EVT_FIRE_CNT_COUNT + 1) ∧
        bit (b.entry i).w3 29 = true ∧ b.evt.slots.length < a.evt.slots.length) ∧
    (∀ (p : Channel) (j stop pos : Nat), a.dead p = false → (a.chan p).act = some (.pulseA j stop pos) →
      (a.tmOn p = true ∧ stop ≤ 16 * (a.tb + a.mtLead p) ∨ (a.posComes pos (a.mtLead p) (a.tmOn p) (a.amOn p)).isSome = true) →
      ∃ b, exec (.evtPulseAEnd t p) s = .next b ∧ (b.chan p).env = false ∧ (b.chan p).act = none) ∧
    (∀ (i : Entry) (p f : Nat) (x : Occ), a.loaded i 5 = some (p, x) → x.dwFix = some f → x.started = false → x.short = false →
      a.tmOn p = true → f ≤ 16 * (a.tb + a.mtLead p) → 16 * a.tb < f + 16 →
      ∃ b, exec (.evtDwell t i) s = .next b ∧ (b.chan p).env = true ∧ (b.chan p).pipe = none ∧
        (b.chan p).act = some (.dwell i f (f + 16 * (if x.e.param = 0 then 2 * x.e.w2 else 4000 * x.e.param))) ∧
        b.evt.slots = updOcc x.idx x.cyc (fun _ => some { x with started := true }) a.evt.slots) ∧
    (∀ (i : Entry) (p : Nat) (x : Occ) (v : Verdict), a.dwelling i = some (p, x) →
      a.judge (a.occPos x) (a.mtLead p) x.e.lateLim (a.tmOn p) (a.amOn p) = some v → v.late = false → v.cancel = false →
      ∃ b, exec (.evtDwellSpark t i) s = .next b ∧ (b.chan p).env = false ∧ (b.chan p).act = none ∧ b.rd EVT_FIRE_CNT_COUNT = satN 32 (a.rd EVT_FIRE_CNT_COUNT + 1) ∧
        bit (b.entry i).w3 29 = true ∧ b.evt.slots.length < a.evt.slots.length) ∧
    (∀ (p : Channel) (j : Entry) (st stop q : Nat) (x : Occ), a.dead p = false → (a.chan p).act = some (.dwell j st stop) →
      stop ≤ 16 * a.tb → a.dwelling j = some (q, x) → bit x.e.w3 27 = true →
      ∃ b, exec (.evtDwellMaxEnd t p) s = .next b ∧ (b.chan p).env = false ∧ (b.chan p).act = none ∧
        b.rd EVT_FIRE_CNT_COUNT = satN 32 (a.rd EVT_FIRE_CNT_COUNT + 1) ∧ bit (b.entry j).w3 29 = true ∧ b.evt.slots.length < a.evt.slots.length) ∧
    (∀ (p : Channel) (j : Entry) (st stop q : Nat) (x : Occ), a.dead p = false → (a.chan p).act = some (.dwell j st stop) →
      stop ≤ 16 * a.tb → a.dwelling j = some (q, x) → bit x.e.w3 27 = false →
      ∃ b, exec (.evtDwellMaxEnd t p) s = .next b ∧ (b.chan p).env = false ∧ (b.chan p).act = none ∧
        b.rd EVT_FIRE_CNT_COUNT = a.rd EVT_FIRE_CNT_COUNT ∧ b.evt.slots.length < a.evt.slots.length) ∧
    (∀ (i : Entry) (p : Nat) (x : Occ) (v : Verdict), a.loaded i 8 = some (p, x) → a.evCount p 0 < 3 →
      a.judge (a.occPos x) (a.mtLead p) x.e.lateLim (a.tmOn p) (a.amOn p) = some v → v.late = false → v.cancel = false →
      ∃ b, exec (.evtSrq t i) s = .next b ∧ (b.chan p).srq = (a.chan p).srq ++ [(v.at16 / 16, x.e.param % 65536)] ∧
        b.evCount p 0 = a.evCount p 0 + 1 ∧ b.rd EVT_FIRE_CNT_COUNT = satN 32 (a.rd EVT_FIRE_CNT_COUNT + 1) ∧
        bit (b.entry i).w3 29 = true ∧ b.evt.slots.length < a.evt.slots.length)

/-- CONV_START, CONV_WIN, CMU_MARK, EVT_OUT and LINK_BCAST (R198, R200, R209, R213). -/
def Obligations.SharedOccurrences : Prop :=
  ∀ (s a u : State) (t : Nat) (i : Entry) (x : Occ) (v : Verdict), a = s.advance t → State.tbd 0 a = true → v.late = false →
    v.cancel = false →
    (u = a → (u.evt.slots.find? fun y => y.idx == i.val && y.here) = some x → x.e.op = 0x10 →
      u.judge (u.bndPos x) 0 x.e.lateLim true true = some v → a.domOn 2 = true → x.e.lastBnd ≤ x.bnd →
      ∃ b, exec (.evtConvStart t i) s = .next b ∧ (b.cv (x.e.param % 32)).bnds = (a.cv (x.e.param % 32)).bnds ++
          [{ t := v.at16 / 16, late := false, start := some (bits x.e.param 8 4) }] ∧ b.rd EVT_FIRE_CNT_COUNT = satN 32 (a.rd EVT_FIRE_CNT_COUNT + 1) ∧ bit (b.entry i).w3 29 = true ∧
        b.evt.slots.length < a.evt.slots.length) ∧
    (u = a → (u.evt.slots.find? fun y => y.idx == i.val && y.here) = some x → x.e.op = 0x11 →
      u.judge (u.bndPos x) 0 x.e.lateLim true true = some v → a.domOn 2 = true → x.e.lastBnd ≤ x.bnd →
      ∃ b, exec (.evtConvWin t i) s = .next b ∧ (b.cv (x.e.param % 32)).bnds = (a.cv (x.e.param % 32)).bnds ++
          [{ t := v.at16 / 16, idx := x.bnd, stop := bit x.e.param 15 && x.bnd == x.e.lastBnd, late := false }] ∧ b.rd EVT_FIRE_CNT_COUNT = satN 32 (a.rd EVT_FIRE_CNT_COUNT + 1) ∧ bit (b.entry i).w3 29 = true ∧
        b.evt.slots.length < a.evt.slots.length) ∧
    (u = a → (u.evt.slots.find? fun y => y.idx == i.val && y.here) = some x → x.e.op = 0x12 →
      u.judge (u.occPos x) 0 x.e.lateLim true true = some v → x.e.param % 32 < 24 → bits x.e.param 5 3 ≤ 2 →
      a.cylOn (x.e.param % 32) = true →
      ∃ b, exec (.evtCmuMark t i) s = .next b ∧ (b.cyl (x.e.param % 32)).marks = (a.cyl (x.e.param % 32)).marks ++
          [(bits x.e.param 5 3, v.at16 / 16, false)] ∧ b.rd EVT_FIRE_CNT_COUNT = satN 32 (a.rd EVT_FIRE_CNT_COUNT + 1) ∧ bit (b.entry i).w3 29 = true ∧
        b.evt.slots.length < a.evt.slots.length) ∧
    (u = a → (u.evt.slots.find? fun y => y.idx == i.val && y.here) = some x → x.e.op = 0x18 →
      u.judge (u.occPos x) 0 x.e.lateLim true true = some v →
      ∃ b, exec (.evtOut t i) s = .next b ∧ b.rtr.pulses = a.rtr.pulses ++ [(16 + x.e.param % 16, a.tb)] ∧ b.rd EVT_FIRE_CNT_COUNT = satN 32 (a.rd EVT_FIRE_CNT_COUNT + 1) ∧ bit (b.entry i).w3 29 = true ∧
        b.evt.slots.length < a.evt.slots.length) ∧
    (u = a.linkBegin → (u.evt.slots.find? fun y => y.idx == i.val && y.here) = some x → x.e.op = 0x20 →
      u.judge (u.occPos x) 0 x.e.lateLim true true = some v →
      ∃ b, exec (.evtLinkBcast t i) s = .next b ∧ (u.cascOn = true → b.casc = (u.sendOwn 4 [2 ^ 31 + x.e.param % 65536]).casc) ∧
        (u.cascOn = false → b.casc = u.casc) ∧ b.rd EVT_FIRE_CNT_COUNT = satN 32 (u.rd EVT_FIRE_CNT_COUNT + 1) ∧ bit (b.entry i).w3 29 = true ∧
        b.evt.slots.length < u.evt.slots.length) ∧
    (u = a → (u.evt.slots.find? fun y => y.idx == i.val && y.here) = some x → x.e.op = 0x11 →
      u.judge (u.bndPos x) 0 x.e.lateLim true true = some v → x.bnd < x.e.lastBnd →
      let c := a.bndSend (x.e.param % 32) { t := v.at16 / 16, idx := x.bnd, stop := false, late := false }
      exec (.evtConvWin t i) s = .next (a.keep (c.setOcc { x with bnd := x.bnd + 1, started := true }))) ∧
    (u = a → a.domOn 2 = true → (u.evt.slots.find? fun y => y.idx == i.val && y.here) = some x → x.e.op = 0x11 →
      u.judge (u.bndPos x) 0 x.e.lateLim true true = some v → x.bnd < x.e.lastBnd →
      ∃ b, exec (.evtConvWin t i) s = .next b ∧ (b.cv (x.e.param % 32)).bnds = (a.cv (x.e.param % 32)).bnds ++
          [{ t := v.at16 / 16, idx := x.bnd, stop := false, late := false }] ∧
        b.evt.slots = updOcc x.idx x.cyc (fun _ => some { x with bnd := x.bnd + 1, started := true }) a.evt.slots ∧
        b.rd EVT_FIRE_CNT_COUNT = a.rd EVT_FIRE_CNT_COUNT)

/-- HSRQ, CHANNEL_ENABLE, CHANNEL_DISABLE, CHANNEL_CAPTURE, SOFT_OFF_END (R232 to R236, R254, R266). -/
def Obligations.ChannelCommands : Prop :=
  ∀ (s a : State) (t : Nat), a = s.advance t → State.core 1 a = true → a.tbOn = true →
    (∀ (m : Master) (p : Channel) (v : BitVec 16),
      a.mayWrite m (0x20 + p.val / 24) (0x104 + 0x20 * (p.val % 24)) (v.toNat * 65536 + 2) 0xFFFF0002 = true → a.dead p = false →
      a.evCount p 0 < 3 → a.touch (pageAddr (0x20 + p.val / 24) (0x104 + 0x20 * (p.val % 24))) = a →
      let c := a.counted m (0x20 + p.val / 24)
      let d := c.setChan p { c.chan p with srq := (c.chan p).srq ++ [(c.tb, v.toNat)], nwS := if (c.chan p).srq = [] then (c.chan p).nwS.stamp else (c.chan p).nwS }
      exec (.hostSrq t m p v) s = .next (a.keep (d.chEvent p 0))) ∧
    (∀ (m : Master) (p : Channel) (v : BitVec 16),
      a.mayWrite m (0x20 + p.val / 24) (0x104 + 0x20 * (p.val % 24)) (v.toNat * 65536 + 2) 0xFFFF0002 = true → a.dead p = false →
      a.evCount p 0 < 3 →
      ∃ b, exec (.hostSrq t m p v) s = .next b ∧ (b.chan p).srq = (a.chan p).srq ++ [(a.tb, v.toNat)] ∧ b.evCount p 0 = a.evCount p 0 + 1 ∧
        (b.chan p).env = (a.chan p).env) ∧
    (∀ (m : Master) (p : Channel) (u : State) (d : Option DirEnt),
      a.mayWrite m (0x20 + p.val / 24) (0x104 + 0x20 * (p.val % 24)) 1 1 = true →
      u = a.charged m (0x20 + p.val / 24) (0x104 + 0x20 * (p.val % 24)) →
      u.on (TILE_CH_CTRL_EN (p.val / 24) (p.val % 24)) = false →
      (u.rd (TILE_CH_CFG_FUNC (p.val / 24) (p.val % 24)) = 0 ∧ d = none ∨ u.rd (TILE_CH_CFG_FUNC (p.val / 24) (p.val % 24)) ≠ 0 ∧ d.isSome = true ∧ u.dirFind (u.engineOf p) (u.rd (TILE_CH_CFG_FUNC (p.val / 24) (p.val % 24))) = d ∧ (d.all fun e => Nat.land (u.rd (TILE_CH_CFG_FMASK (p.val / 24) (p.val % 24))) e.kmask == u.rd (TILE_CH_CFG_FMASK (p.val / 24) (p.val % 24))) = true ∧ (u.on (TILE_CH_CFG_SYNC_END (p.val / 24) (p.val % 24)) = true ∨ u.rd (TILE_CH_CFG_FUNC (p.val / 24) (p.val % 24)) ∉ [1, 2, 3, 7])) →
      exec (.channelEnable t m p) s = .next (a.keep
        (((u.setChan p { u.chan p with dir := d }).wr (TILE_CH_CTRL_EN (p.val / 24) (p.val % 24)) 1).chEvent p 7))) ∧
    (∀ (m : Master) (p : Channel) (u : State) (d : Option DirEnt),
      a.mayWrite m (0x20 + p.val / 24) (0x104 + 0x20 * (p.val % 24)) 1 1 = true →
      u = a.charged m (0x20 + p.val / 24) (0x104 + 0x20 * (p.val % 24)) →
      u.on (TILE_CH_CTRL_EN (p.val / 24) (p.val % 24)) = false → u.dead p = false → u.evCount p 7 < 3 →
      (u.rd (TILE_CH_CFG_FUNC (p.val / 24) (p.val % 24)) = 0 ∧ d = none ∨ u.rd (TILE_CH_CFG_FUNC (p.val / 24) (p.val % 24)) ≠ 0 ∧ d.isSome = true ∧ u.dirFind (u.engineOf p) (u.rd (TILE_CH_CFG_FUNC (p.val / 24) (p.val % 24))) = d ∧ (d.all fun e => Nat.land (u.rd (TILE_CH_CFG_FMASK (p.val / 24) (p.val % 24))) e.kmask == u.rd (TILE_CH_CFG_FMASK (p.val / 24) (p.val % 24))) = true ∧ (u.on (TILE_CH_CFG_SYNC_END (p.val / 24) (p.val % 24)) = true ∨ u.rd (TILE_CH_CFG_FUNC (p.val / 24) (p.val % 24)) ∉ [1, 2, 3, 7])) →
      ∃ b, exec (.channelEnable t m p) s = .next b ∧ b.rd (TILE_CH_CTRL_EN (p.val / 24) (p.val % 24)) = 1 ∧ (b.chan p).dir = d ∧ b.evCount p 7 = u.evCount p 7 + 1) ∧
    (∀ (m : Master) (p : Channel) (u : State), a.mayWrite m (0x20 + p.val / 24) (0x104 + 0x20 * (p.val % 24)) 1 1 = true →
      u = a.charged m (0x20 + p.val / 24) (0x104 + 0x20 * (p.val % 24)) →
      u.on (TILE_CH_CTRL_EN (p.val / 24) (p.val % 24)) = false → u.rd (TILE_CH_CFG_FUNC (p.val / 24) (p.val % 24)) ≠ 0 →
      u.dirFind (u.engineOf p) (u.rd (TILE_CH_CFG_FUNC (p.val / 24) (p.val % 24))) = none →
      exec (.channelEnable t m p) s = .next (a.keep (u.cfgRec (srcChannel p) 0 0xFFF))) ∧
    (∀ (m : Master) (p : Channel) (u : State), a.mayWrite m (0x20 + p.val / 24) (0x104 + 0x20 * (p.val % 24)) 0 1 = true →
      u = a.charged m (0x20 + p.val / 24) (0x104 + 0x20 * (p.val % 24)) →
      ∃ b, exec (.channelDisable t m p) s = .next b ∧ b.rd (TILE_CH_CTRL_EN (p.val / 24) (p.val % 24)) = 0 ∧ b.rd (TILE_CH_EVCNT_COUNT (p.val / 24) (p.val % 24)) = 2 ^ 14 ∧
        (b.chan p).yield = none ∧ (b.chan p).srq = [] ∧ (b.chan p).dir = none ∧ (b.chan p).env = false ∧ (b.chan p).car = false ∧
        (b.chan p).mtArm = false ∧ (b.chan p).maArm = false ∧ (b.chan p).safe = true ∧
        (match b.logOf p with | some n => b.threadOn (b.engineOf p) n | none => false) = false) ∧
    (∀ (p : Channel) (x : Fin 9) (i : Fin 32), a.dead p = false → x.val ≠ 0 →
      a.rd (TILE_CH_CAPCFG_CAP0_SRC (p.val / 24) (p.val % 24)) = x.val → a.capSees p 0 x i = true → a.evCount p 3 < 3 →
      ∃ b, exec (.channelCapture t p 0 ⟨x, i⟩) s = .next b ∧
        (b.chan p).cap0 = { t := a.tb, a := if a.ang.valid then a.ang.ang else 0, valid := a.ang.valid } ∧
        b.evCount p 3 = a.evCount p 3 + 1 ∧ (b.chan p).cap1 = (a.chan p).cap1) ∧
    (∀ (p : Channel) (x : Fin 9) (i : Fin 32), a.dead p = false → x.val ≠ 0 →
      a.rd (TILE_CH_CAPCFG_CAP1_SRC (p.val / 24) (p.val % 24)) = x.val → a.capSees p 1 x i = true → a.evCount p 4 < 3 →
      ∃ b, exec (.channelCapture t p 1 ⟨x, i⟩) s = .next b ∧
        (b.chan p).cap1 = { t := a.tb, a := if a.ang.valid then a.ang.ang else 0, valid := a.ang.valid } ∧
        b.evCount p 4 = a.evCount p 4 + 1 ∧ (b.chan p).cap0 = (a.chan p).cap0) ∧
    (∀ (g : Fin 16), a.softRuns g = true → ∀ e ∈ a.out.soft, e.1 = g.val → e.2.2 + a.softT ≤ a.tb →
      ∃ b, exec (.softOffEnd t g) s = .next b ∧ b.softRuns g = false ∧ b.regs = a.regs ∧ b.chans = a.chans ∧
        b.out.soft = a.out.soft.filter fun e => e.1 != g.val)

/-- TIME_MATCH_FIRE, ANGLE_MATCH_FIRE and COUPLED_MATCH_FIRE (R225, R226, R229, R230, R233, R263). -/
def Obligations.MatchFires : Prop :=
  ∀ (s a : State) (t : Nat) (p : Channel), a = s.advance t → State.tbd 1 a = true → a.dead p = false →
    (a.chan p).pipe = none → (a.chan p).act = none →
    ((a.chan p).mtArm = true → (a.chan p).mtFrom ≤ a.tb → (a.chan p).mtT ≤ a.tb + a.mtLead p → a.maDue p = false →
      (a.chan p).mtPassed = false →
      ∃ b, exec (.timeMatchFire t p) s = .next b ∧ (b.chan p).mtArm = false ∧ (b.chan p).mtPassed = false ∧ (b.chan p).maArm = (a.chan p).maArm ∧
        (a.envOn p = true → (b.chan p).car = actOn (a.chan p).mtAct (a.chan p).car ∧ (b.chan p).env = (a.chan p).env) ∧
        (a.envOn p = false → (b.chan p).env = actOn (a.chan p).mtAct (a.chan p).env ∧ (b.chan p).car = (a.chan p).car) ∧
        (a.evCount p 1 < 3 → b.evCount p 1 = a.evCount p 1 + 1)) ∧
    ((a.chan p).mtArm = true → (a.chan p).mtFrom ≤ a.tb → (a.chan p).mtT ≤ a.tb + a.mtLead p → a.maDue p = false →
      (a.chan p).mtPassed = true →
      ∃ b, exec (.timeMatchFire t p) s = .next b ∧ (b.chan p).mtArm = false ∧ (b.chan p).mtPassed = false ∧ (b.chan p).maArm = (a.chan p).maArm ∧
        (a.envOn p = true → (b.chan p).car = actOn (a.chan p).mtAct (a.chan p).car ∧ (b.chan p).env = (a.chan p).env) ∧
        (a.envOn p = false → (b.chan p).env = actOn (a.chan p).mtAct (a.chan p).env ∧ (b.chan p).car = (a.chan p).car) ∧
        (a.evCount p 1 < 3 → b.evCount p 1 = a.evCount p 1 + 1) ∧
        b.rd (TILE_CH_ERR_PASSED (p.val / 24) (p.val % 24)) = satN 8 (a.rd (TILE_CH_ERR_PASSED (p.val / 24) (p.val % 24)) + 1) ∧
        (a.evCount p 5 < 3 → b.evCount p 5 = a.evCount p 5 + 1)) ∧
    ((a.chan p).maArm = true → (a.chan p).maFrom ≤ a.tb → (a.chan p).maCpl = false → a.ang.valid = true →
      a.anglePassed (a.chan p).maA = true → (a.chan p).maPassed = false →
      ∃ b, exec (.angleMatchFire t p) s = .next b ∧ (b.chan p).maArm = false ∧ (b.chan p).maPassed = false ∧ (b.chan p).mtArm = (a.chan p).mtArm ∧
        (a.envOn p = true → (b.chan p).car = actOn (a.chan p).maAct (a.chan p).car ∧ (b.chan p).env = (a.chan p).env) ∧
        (a.envOn p = false → (b.chan p).env = actOn (a.chan p).maAct (a.chan p).env ∧ (b.chan p).car = (a.chan p).car) ∧
        (a.evCount p 2 < 3 → b.evCount p 2 = a.evCount p 2 + 1)) ∧
    ((a.chan p).maArm = true → (a.chan p).maFrom ≤ a.tb → (a.chan p).maCpl = false → a.ang.valid = true →
      a.anglePassed (a.chan p).maA = true → (a.chan p).maPassed = true →
      ∃ b, exec (.angleMatchFire t p) s = .next b ∧ (b.chan p).maArm = false ∧ (b.chan p).maPassed = false ∧ (b.chan p).mtArm = (a.chan p).mtArm ∧
        (a.envOn p = true → (b.chan p).car = actOn (a.chan p).maAct (a.chan p).car ∧ (b.chan p).env = (a.chan p).env) ∧
        (a.envOn p = false → (b.chan p).env = actOn (a.chan p).maAct (a.chan p).env ∧ (b.chan p).car = (a.chan p).car) ∧
        (a.evCount p 2 < 3 → b.evCount p 2 = a.evCount p 2 + 1) ∧
        b.rd (TILE_CH_ERR_PASSED (p.val / 24) (p.val % 24)) = satN 8 (a.rd (TILE_CH_ERR_PASSED (p.val / 24) (p.val % 24)) + 1) ∧
        (a.evCount p 5 < 3 → b.evCount p 5 = a.evCount p 5 + 1)) ∧
    (∀ (f : Nat), (a.chan p).maArm = true → (a.chan p).maFrom ≤ a.tb → (a.chan p).maCpl = true →
      a.fixTime (a.chan p).maA = some f → a.mayFire (a.chan p).maA f (a.mtLead p) = true → (a.chan p).maPassed = false →
      ∃ b, exec (.coupledMatchFire t p) s = .next b ∧ (b.chan p).maArm = false ∧ (b.chan p).maPassed = false ∧ (b.chan p).mtArm = (a.chan p).mtArm ∧
        (a.envOn p = true → (b.chan p).car = actOn (a.chan p).maAct (a.chan p).car ∧ (b.chan p).env = (a.chan p).env) ∧
        (a.envOn p = false → (b.chan p).env = actOn (a.chan p).maAct (a.chan p).env ∧ (b.chan p).car = (a.chan p).car) ∧
        (a.evCount p 2 < 3 → b.evCount p 2 = a.evCount p 2 + 1)) ∧
    (∀ (f : Nat), (a.chan p).maArm = true → (a.chan p).maFrom ≤ a.tb → (a.chan p).maCpl = true →
      a.fixTime (a.chan p).maA = some f → a.mayFire (a.chan p).maA f (a.mtLead p) = true → (a.chan p).maPassed = true →
      ∃ b, exec (.coupledMatchFire t p) s = .next b ∧ (b.chan p).maArm = false ∧ (b.chan p).maPassed = false ∧ (b.chan p).mtArm = (a.chan p).mtArm ∧
        (a.envOn p = true → (b.chan p).car = actOn (a.chan p).maAct (a.chan p).car ∧ (b.chan p).env = (a.chan p).env) ∧
        (a.envOn p = false → (b.chan p).env = actOn (a.chan p).maAct (a.chan p).env ∧ (b.chan p).car = (a.chan p).car) ∧
        (a.evCount p 2 < 3 → b.evCount p 2 = a.evCount p 2 + 1) ∧
        b.rd (TILE_CH_ERR_PASSED (p.val / 24) (p.val % 24)) = satN 8 (a.rd (TILE_CH_ERR_PASSED (p.val / 24) (p.val % 24)) + 1) ∧
        (a.evCount p 5 < 3 → b.evCount p 5 = a.evCount p 5 + 1))

/-- ARM, DISARM, DPERMIT_A_TOGGLE and DPERMIT_B_TOGGLE (R267 to R270). -/
def Obligations.ArmAndPermit : Prop :=
  ∀ (s a : State) (t : Nat), a = s.advance t → State.core 1 a = true → a.tbOn = true →
    (∀ (m : Master) (key : BitVec 8) (u : State), a.mayWrite m 0x38 0x40 (key.toNat * 2 ^ 24 + 1) 0xFFFFFFFF = true →
      u = a.charged m 0x38 0x40 → u.rd OUT_ARM_STAT_STATE = 0 → u.on OUT_ARM_STAT_PENDING = false → u.armCheck key.toNat = none →
      ∃ b, exec (.outArm t m key) s = .next b ∧ b.rd OUT_ARM_STAT_PENDING = 1 ∧ b.rd OUT_ARM_STAT_STATE = 0 ∧ b.out = a.out ∧
        bit (b.rd (PG_IFLAG_FLAG 0x38)) 3 = bit (u.rd (PG_IFLAG_FLAG 0x38)) 3) ∧
    (∀ (m : Master) (key : BitVec 8) (u : State) (r d : Nat),
      a.mayWrite m 0x38 0x40 (key.toNat * 2 ^ 24 + 1) 0xFFFFFFFF = true → u = a.charged m 0x38 0x40 →
      u.rd OUT_ARM_STAT_STATE ≠ 1 → u.on OUT_ARM_STAT_PENDING = false → u.armCheck key.toNat = some (r, d) →
      ∃ b, exec (.outArm t m key) s = .next b ∧ b.rd OUT_ARM_STAT_REFUSE = r % 2 ^ (OUT_ARM_STAT_REFUSE).w ∧
        b.rd OUT_ARM_STAT_DETAIL = d % 2 ^ (OUT_ARM_STAT_DETAIL).w ∧ b.rd OUT_ARM_STAT_STATE = a.rd OUT_ARM_STAT_STATE ∧
        b.rd OUT_ARM_STAT_PENDING = 0 ∧ bit (b.rd (PG_IFLAG_FLAG 0x38)) 3 = true) ∧
    (∀ (m : Master) (key : BitVec 8), a.mayWrite m 0x38 0x40 (key.toNat * 2 ^ 24 + 2) 0xFFFFFFFF = true →
      a.rd OUT_ARM_STAT_STATE = 1 →
      ∃ b, exec (.outDisarm t m key) s = .next b ∧ b.rd OUT_ARM_STAT_STATE = 0 ∧ b.rd OUT_ARM_STAT_PENDING = 0 ∧
        b.rd OUT_ARM_STAT_DPA_ACT = 0 ∧ b.rd OUT_ARM_STAT_DPB_ACT = 0 ∧ bit (b.rd (PG_IFLAG_FLAG 0x38)) 1 = true) ∧
    (a.tb % 2000 = 0 → a.armed = true → a.tb ≤ a.out.dpBAt + 6000 →
      ∃ b, exec (.dpermitAToggle t) s = .next b ∧ b.out.dpA = (!a.out.dpA) ∧ b.out.dpAAt = a.tb ∧ b.rd OUT_ARM_STAT_DPA_ACT = 1 ∧
        b.out.dpB = a.out.dpB ∧ b.rd OUT_ARM_STAT_STATE = a.rd OUT_ARM_STAT_STATE) ∧
    (a.tb % 2000 = 0 → (a.armed = false ∨ a.out.dpBAt + 6000 < a.tb) →
      ∃ b, exec (.dpermitAToggle t) s = .next b ∧ b.out.dpA = (false) ∧ b.out.dpAAt = a.out.dpAAt ∧ b.rd OUT_ARM_STAT_DPA_ACT = 0 ∧
        b.out.dpB = a.out.dpB ∧ b.rd OUT_ARM_STAT_STATE = a.rd OUT_ARM_STAT_STATE) ∧
    (a.armed = true → a.tb ≤ a.out.dpAAt + 6000 →
      ∃ b, exec (.dpermitBToggle t) s = .next b ∧ b.out.dpB = (!a.out.dpB) ∧ b.out.dpBAt = a.tb ∧ b.rd OUT_ARM_STAT_DPB_ACT = 1 ∧
        b.out.dpA = a.out.dpA ∧ b.rd OUT_ARM_STAT_STATE = a.rd OUT_ARM_STAT_STATE) ∧
    ((a.armed = false ∨ a.out.dpAAt + 6000 < a.tb) →
      ∃ b, exec (.dpermitBToggle t) s = .next b ∧ b.out.dpB = (false) ∧ b.out.dpBAt = a.out.dpBAt ∧ b.rd OUT_ARM_STAT_DPB_ACT = 0 ∧
        b.out.dpA = a.out.dpA ∧ b.rd OUT_ARM_STAT_STATE = a.rd OUT_ARM_STAT_STATE)

/-- BANK_ENABLE, the slot commands, comparator edges and slot timeouts (R272 to R281). -/
def Obligations.BankSlots : Prop :=
  ∀ (s a : State) (t : Nat) (k : Bank), a = s.advance t → State.core 1 a = true → a.tbOn = true →
    (∀ (m : Master) (u : State), a.mayWrite m (0x40 + k) 8 1 1 = true → u = a.charged m (0x40 + k) 8 → u.bankOn k = false →
      u.bankCheck k = none →
      ∃ b, exec (.bankEnable t m k) s = .next b ∧ b.rd (PG_CTRL_EN (0x40 + k)) = 1 ∧ b.rd (PG_STAT_BLK (0x40 + k)) = 0 ∧
        b.phase k 0 = a.phase k 0 ∧ b.phase k 1 = a.phase k 1 ∧ (b.slot k 0).cmd = false ∧ (b.slot k 1).cmd = false) ∧
    (∀ (m : Master) (u : State) (f : BankFail), a.mayWrite m (0x40 + k) 8 1 1 = true → u = a.charged m (0x40 + k) 8 →
      u.bankOn k = false → u.bankCheck k = some f →
      ∃ b, exec (.bankEnable t m k) s = .next b ∧ b.bankOn k = false ∧ b.rd (BANK_CHK_REC_CODE k) = f.code % 2 ^ (BANK_CHK_REC_CODE k).w ∧
        b.rd (BANK_CHK_REC_CH_A k) = f.a % 2 ^ (BANK_CHK_REC_CH_A k).w ∧ b.rd (BANK_CHK_REC_CH_B k) = f.b % 2 ^ (BANK_CHK_REC_CH_B k).w ∧
        bit (b.rd (PG_IFLAG_FLAG (0x40 + k))) 0 = true) ∧
    (∀ (i : Slot), a.bankOn k = true → a.slotEn k i = true → (a.slot k i).cmd = false → a.command (a.attach k i) = true →
      a.pageCrimson (0x40 + k) = false → a.on (BANK_SLOT_STAT_LOCK k i) = false → a.slotRuns k (1 - i) = false →
      ¬ (i.val = 1 ∧ a.slotEn k 0 = true ∧ (a.slot k 0).cmd = false ∧ a.command (a.attach k 0) = true) →
      (a.on (BANK_BANK_CFG_WIN_EN k) = false ∨ a.inWindow k i = true) → (a.slot k i).qHold = none →
      a.on (BANK_THR_Q_BOOST_EN k i) = true →
      ∃ b, exec (.slotCommandRise t k i) s = .next b ∧ b.phase k i = 1 ∧ (b.slot k i).since = a.tb ∧ (b.slot k i).hss = false ∧
        (b.slot k i).cmd = true ∧ b.rd (if i.val = 0 then BANK_PULSE_CNT_SLOT0 k else BANK_PULSE_CNT_SLOT1 k) =
          satN (if i.val = 0 then BANK_PULSE_CNT_SLOT0 k else BANK_PULSE_CNT_SLOT1 k).w (a.rd (if i.val = 0 then BANK_PULSE_CNT_SLOT0 k else BANK_PULSE_CNT_SLOT1 k) + 1)) ∧
    (∀ (i : Slot), a.bankOn k = true → a.slotEn k i = true → (a.slot k i).cmd = false → a.command (a.attach k i) = true →
      a.pageCrimson (0x40 + k) = false → a.on (BANK_SLOT_STAT_LOCK k i) = false → a.slotRuns k (1 - i) = false →
      ¬ (i.val = 1 ∧ a.slotEn k 0 = true ∧ (a.slot k 0).cmd = false ∧ a.command (a.attach k 0) = true) →
      (a.on (BANK_BANK_CFG_WIN_EN k) = false ∨ a.inWindow k i = true) → (a.slot k i).qHold = none →
      a.on (BANK_THR_Q_BOOST_EN k i) = false →
      ∃ b, exec (.slotCommandRise t k i) s = .next b ∧ b.phase k i = 2 ∧ (b.slot k i).since = a.tb ∧ (b.slot k i).hss = true ∧
        (b.slot k i).onAt = some a.tb ∧ b.rd (if i.val = 0 then BANK_PULSE_CNT_SLOT0 k else BANK_PULSE_CNT_SLOT1 k) =
          satN (if i.val = 0 then BANK_PULSE_CNT_SLOT0 k else BANK_PULSE_CNT_SLOT1 k).w (a.rd (if i.val = 0 then BANK_PULSE_CNT_SLOT0 k else BANK_PULSE_CNT_SLOT1 k) + 1)) ∧
    (∀ (i : Slot), a.bankOn k = true → a.slotEn k i = true → (a.slot k i).cmd = false → a.command (a.attach k i) = true →
      (a.pageCrimson (0x40 + k) = true ∨ a.on (BANK_SLOT_STAT_LOCK k i) = true) →
      ∃ b, exec (.slotCommandRise t k i) s = .next b ∧ b.phase k i = a.phase k i ∧ (b.slot k i).cmd = true ∧
        b.rd (BANK_PULSE_CNT_SLOT0 k) = a.rd (BANK_PULSE_CNT_SLOT0 k) ∧ b.rd (BANK_PULSE_CNT_SLOT1 k) = a.rd (BANK_PULSE_CNT_SLOT1 k)) ∧
    (∀ (i : Slot), a.bankOn k = true → a.slotEn k i = true → (a.slot k i).cmd = false → a.command (a.attach k i) = true →
      a.pageCrimson (0x40 + k) = false → a.on (BANK_SLOT_STAT_LOCK k i) = false →
      (a.slotRuns k (1 - i) = true ∨ (i.val = 1 ∧ a.slotEn k 0 = true ∧ (a.slot k 0).cmd = false ∧ a.command (a.attach k 0) = true)) →
      ∃ b, exec (.slotCommandRise t k i) s = .next b ∧ b.phase k i = a.phase k i ∧ (b.slot k i).cmd = true ∧
        b.rd (BANK_ERR_CNT0_COLLIDE k) = satN (BANK_ERR_CNT0_COLLIDE k).w (a.rd (BANK_ERR_CNT0_COLLIDE k) + 1) ∧
        bit (b.rd (PG_IFLAG_FLAG (0x40 + k))) 3 = true) ∧
    (∀ (i : Slot), (a.slot k i).cmd = true → a.command (a.attach k i) = false → a.slotRuns k i = true →
      ∃ b, exec (.slotCommandFall t k i) s = .next b ∧ b.phase k i = 4 ∧ (b.slot k i).since = a.tb ∧ (b.slot k i).hss = false ∧
        (b.slot k i).cmd = false ∧ (b.slot k i).qHold = if a.phase k i = 3 then some a.tb else none) ∧
    (∀ (i : Slot) (u : State), a.domOn 2 = true → a.bankOwner k = some i → u = a.cmpLevel (2 * k) true →
      (u.cmp (2 * k)).lvl = true → u.bankSees k false = true → u.bankOwner k = some i → u.tb = a.tb → u.slots = a.slots →
      u.phase k i = 1 → ((u.slot k i).fromOff = false ∨ 40 * u.rd (BANK_T_BOOST_T_BOOST_MIN k i) ≤ u.tb - (u.slot k i).since) →
      ∃ b, exec (.bankCmpARise t k) s = .next b ∧ b.phase k i = 2 ∧ (b.slot k i).hss = false ∧ (b.slot k i).since = a.tb ∧
        b.rd (BANK_SLOT_STAT_T_BOOST_LAST k i) = satN 16 ((a.tb - (a.slot k i).since) / 40)) ∧
    (∀ (i : Slot) (u : State), a.domOn 2 = true → a.bankOwner k = some i → u = a.cmpLevel (2 * k) true →
      (u.cmp (2 * k)).lvl = true → u.bankSees k false = true → u.bankOwner k = some i → u.tb = a.tb → u.slots = a.slots →
      u.phase k i = 1 → (u.slot k i).fromOff = true → u.tb - (u.slot k i).since < 40 * u.rd (BANK_T_BOOST_T_BOOST_MIN k i) →
      ∃ b, exec (.bankCmpARise t k) s = .next b ∧ b.phase k i = 4 ∧ b.rd (BANK_SLOT_STAT_LOCK k i) = 1 ∧
        b.rd (BANK_SLOT_STAT_T_BOOST_LAST k i) = satN 16 ((a.tb - (a.slot k i).since) / 40) ∧
        bit (b.rd (PG_IFLAG_FLAG (0x40 + k))) 1 = true) ∧
    (∀ (i : Slot) (u : State) (o : Nat), a.domOn 2 = true → a.bankOwner k = some i → u = a.cmpLevel (2 * k) true →
      (u.cmp (2 * k)).lvl = true → u.bankSees k false = true → u.bankOwner k = some i → u.tb = a.tb → u.slots = a.slots →
      (u.phase k i = 2 ∨ u.phase k i = 3) → u.hssAt k = some o → (u.slot k i).hss = true →
      o + 4 * u.rd (BANK_BANK_CFG_BLANK k) ≤ u.tb →
      ∃ b, exec (.bankCmpARise t k) s = .next b ∧ b.phase k i = u.phase k i ∧ (b.slot k i).hss = false) ∧
    (∀ (i : Slot) (u : State), a.domOn 2 = true → u = a.cmpLevel (2 * k + 1) false → (u.cmp (2 * k + 1)).lvl = false →
      u.bankSees k true = true → u.bankOwner k = some i → u.tb = a.tb → u.phase k i = 2 → (u.slot k i).hss = false →
      u.hssAt k = none →
      ∃ b, exec (.bankCmpBFall t k) s = .next b ∧ b.phase k i = 2 ∧ (b.slot k i).hss = true ∧ (b.slot k i).onAt = some a.tb) ∧
    (∀ (i : Slot) (u : State), a.domOn 2 = true → u = a.cmpLevel (2 * k + 1) false → (u.cmp (2 * k + 1)).lvl = false →
      u.bankSees k true = true → u.bankOwner k = some i → u.tb = a.tb → u.phase k i = 4 →
      ∃ b, exec (.bankCmpBFall t k) s = .next b ∧ b.phase k i = 0) ∧
    (∀ (i : Slot), a.phase k i = 2 → (a.slot k i).since + 40 * a.rd (BANK_T_PHASE_T_PEAK k i) ≤ a.tb →
      ∃ b, exec (.slotTPeak t k i) s = .next b ∧ b.phase k i = 3 ∧ (b.slot k i).hss = false ∧ (b.slot k i).waitB = true ∧ (b.slot k i).since = a.tb) ∧
    (∀ (i : Slot), a.phase k i = 1 → (a.slot k i).since + 40 * a.rd (BANK_T_BOOST_T_BOOST_MAX k i) ≤ a.tb →
      ∃ b, exec (.slotTBoostMax t k i) s = .next b ∧ b.phase k i = 4 ∧
        b.rd (BANK_ERR_CNT0_OPEN k) = satN (BANK_ERR_CNT0_OPEN k).w (a.rd (BANK_ERR_CNT0_OPEN k) + 1) ∧ bit (b.rd (PG_IFLAG_FLAG (0x40 + k))) 2 = true) ∧
    (∀ (i : Slot), a.phase k i = 4 → (a.slot k i).since + 40 * a.rd (BANK_T_PHASE_T_QMAX k i) ≤ a.tb →
      ∃ b, exec (.slotTQmax t k i) s = .next b ∧ b.phase k i = 0 ∧
        b.rd (BANK_ERR_CNT1_QTO k) = satN (BANK_ERR_CNT1_QTO k).w (a.rd (BANK_ERR_CNT1_QTO k) + 1) ∧ bit (b.rd (PG_IFLAG_FLAG (0x40 + k))) 6 = true) ∧
    (∀ (i : Slot) (o : Nat), a.bankOwner k = some i.val → (a.slot k i).delayed = true → (a.slot k i).chop = true →
      a.bankBLow k = true → a.hssAt k = some o → o + 4 * max 1000 (a.rd (BANK_BANK_CFG_TPER_MIN k)) ≤ a.tb →
      ∃ b, exec (.slotTperMin t k) s = .next b ∧ (b.slot k i).hss = true ∧ (b.slot k i).onAt = some a.tb ∧ (b.slot k i).delayed = false ∧
        b.rd (BANK_CHOP_STAT_LAST_PER k) = satN 16 ((a.tb - o) / 4)) ∧
    (∀ (i : Slot) (o : Nat), a.bankOwner k = some i.val → (a.slot k i).delayed = true → a.bankBLow k = false →
      a.hssAt k = some o → o + 4 * max 1000 (a.rd (BANK_BANK_CFG_TPER_MIN k)) ≤ a.tb →
      ∃ b, exec (.slotTperMin t k) s = .next b ∧ (b.slot k i).hss = (a.slot k i).hss ∧ (b.slot k i).delayed = false) ∧
    (∀ (i : Slot), a.bankOn k = true → a.slotEn k i = true → (a.slot k i).cmd = false → a.command (a.attach k i) = true →
      a.pageCrimson (0x40 + k) = false → a.on (BANK_SLOT_STAT_LOCK k i) = false → a.slotRuns k (1 - i) = false →
      ¬ (i.val = 1 ∧ a.slotEn k 0 = true ∧ (a.slot k 0).cmd = false ∧ a.command (a.attach k 0) = true) →
      a.on (BANK_BANK_CFG_WIN_EN k) = true → a.inWindow k i = false →
      ∃ b, exec (.slotCommandRise t k i) s = .next b ∧ b.phase k i = a.phase k i ∧ (b.slot k i).cmd = true ∧
        b.rd (BANK_ERR_CNT0_WIN k) = satN (BANK_ERR_CNT0_WIN k).w (a.rd (BANK_ERR_CNT0_WIN k) + 1) ∧
        bit (b.rd (PG_IFLAG_FLAG (0x40 + k))) 4 = true) ∧
    (∀ (m : Master) (i : Slot), a.mayWrite m (0x40 + k) (BANK_SLOT_STAT_LOCK k i).off 0x100 0x100 = true →
      tget 0 a.hot (BANK_SLOT_STAT_LOCK k i).key = 0 →
      let c := a.charged m (0x40 + k) (BANK_SLOT_STAT_LOCK k i).off
      exec (.slotLockClear t m k i) s = .next (a.keep (c.wr (BANK_SLOT_STAT_LOCK k i) 0))) ∧
    (∀ (m : Master) (i : Slot), a.mayWrite m (0x40 + k) (BANK_SLOT_STAT_LOCK k i).off 0x100 0x100 = true →
      tget 0 a.hot (BANK_SLOT_STAT_LOCK k i).key = 0 →
      ∃ b, exec (.slotLockClear t m k i) s = .next b ∧ b.rd (BANK_SLOT_STAT_LOCK k i) = 0 ∧ b.phase k i = a.phase k i ∧ b.slots = a.slots) ∧
    (∀ (i : Slot) (o : Nat), (a.cmp (2 * k)).lvl = true → a.bankSees k false = true → a.bankOwner k = some i.val →
      (a.phase k i = 2 ∨ a.phase k i = 3) → (a.slot k i).hss = true → a.hssAt k = some o →
      o + 4 * a.rd (BANK_BANK_CFG_BLANK k) ≤ a.tb →
      ∃ b, exec (.slotBlankEnd t k) s = .next b ∧ b.phase k i = a.phase k i ∧ (b.slot k i).hss = false) ∧
    (∀ (i : Slot), a.bankSees k true = true → (a.cmp (2 * k + 1)).lvl = false → a.bankOwner k = some i.val → a.phase k i = 4 →
      ∃ b, exec (.bankThresholdSettled t k true) s = .next b ∧ b.phase k i = 0) ∧
    (∀ (i : Slot) (o : Nat), (a.cmp (2 * k)).lvl = true → a.bankSees k false = true → a.bankOwner k = some i.val →
      (a.phase k i = 2 ∨ a.phase k i = 3) → (a.slot k i).hss = true → a.hssAt k = some o →
      o + 4 * a.rd (BANK_BANK_CFG_BLANK k) ≤ a.tb →
      ∃ b, exec (.bankThresholdSettled t k false) s = .next b ∧ b.phase k i = a.phase k i ∧ (b.slot k i).hss = false)

/-- ADD, SUB, AND, OR, XOR, SHL, SHR, SAR, MUL, MULQ, MIN, MAX, CMP, MOV, ADDA and LDH (R242 to R244). -/
def Obligations.EngineArithmetic : Prop :=
  ∀ (s a : State) (t : Nat) (g : Engine) (w : Nat) (x : GelS), a = s.advance t → gelOk g a = true →
    a.rd (GEL_GEL_STAT_STATE g) = 2 → a.gelReady g = true → a.atBkpt g = false → a.badFetch g = none → a.fetchBad g = none →
    w = a.gelWord g → x = a.eng g → a.overLimit g (opcCycles (iOpc w) + a.stalledFor g) (opcCycles (iOpc w)) = none →
    (iOpc w = 0x00 →
      let r := (x.reg (iA w) + x.opB w) % 2 ^ 32
      ∃ b, exec (.gelAdd t g) s = .next b ∧ (b.eng g).reg (iD w) = r ∧ (b.eng g).flag 0 = (r == 0) ∧ (b.eng g).flag 1 = bit r 31 ∧
        (b.eng g).flag 2 = decide (2 ^ 32 ≤ x.reg (iA w) + x.opB w) ∧
        (b.eng g).flag 3 = ((bit (x.reg (iA w)) 31 == bit (x.opB w) 31) && (bit r 31 != bit (x.reg (iA w)) 31)) ∧
        b.pc g = (a.pc g + 1) % 2 ^ 13 ∧ (b.eng g).cyc = x.cyc + 1) ∧
    (iOpc w = 0x01 →
      let r := (x.reg (iA w) + (2 ^ 32 - 1 - x.opB w) + 1) % 2 ^ 32
      ∃ b, exec (.gelSub t g) s = .next b ∧ (b.eng g).reg (iD w) = r ∧ (b.eng g).flag 0 = (r == 0) ∧ (b.eng g).flag 1 = bit r 31 ∧
        (b.eng g).flag 2 = decide (2 ^ 32 ≤ x.reg (iA w) + (2 ^ 32 - 1 - x.opB w) + 1) ∧
        (b.eng g).flag 3 = ((bit (x.reg (iA w)) 31 == bit (2 ^ 32 - 1 - x.opB w) 31) && (bit r 31 != bit (x.reg (iA w)) 31)) ∧
        b.pc g = (a.pc g + 1) % 2 ^ 13 ∧ (b.eng g).cyc = x.cyc + 1) ∧
    (iOpc w = 0x0c →
      let r := (x.reg (iA w) + (2 ^ 32 - 1 - x.opB w) + 1) % 2 ^ 32
      ∃ b, exec (.gelCmp t g) s = .next b ∧ (∀ i : Fin 8, (b.eng g).reg i = x.reg i) ∧ (b.eng g).flag 0 = (r == 0) ∧ (b.eng g).flag 1 = bit r 31 ∧
        (b.eng g).flag 2 = decide (2 ^ 32 ≤ x.reg (iA w) + (2 ^ 32 - 1 - x.opB w) + 1) ∧
        (b.eng g).flag 3 = ((bit (x.reg (iA w)) 31 == bit (2 ^ 32 - 1 - x.opB w) 31) && (bit r 31 != bit (x.reg (iA w)) 31)) ∧
        b.pc g = (a.pc g + 1) % 2 ^ 13 ∧ (b.eng g).cyc = x.cyc + 1) ∧
    (iOpc w = 0x02 →
      let r := Nat.land (x.reg (iA w)) (x.opB w) % 2 ^ 32
      ∃ b, exec (.gelAnd t g) s = .next b ∧ (b.eng g).reg (iD w) = r ∧ (b.eng g).flag 0 = (r == 0) ∧ (b.eng g).flag 1 = bit r 31 ∧
        (b.eng g).flag 2 = false ∧ (b.eng g).flag 3 = false ∧ b.pc g = (a.pc g + 1) % 2 ^ 13 ∧ (b.eng g).cyc = x.cyc + 1) ∧
    (iOpc w = 0x03 →
      let r := Nat.lor (x.reg (iA w)) (x.opB w) % 2 ^ 32
      ∃ b, exec (.gelOr t g) s = .next b ∧ (b.eng g).reg (iD w) = r ∧ (b.eng g).flag 0 = (r == 0) ∧ (b.eng g).flag 1 = bit r 31 ∧
        (b.eng g).flag 2 = false ∧ (b.eng g).flag 3 = false ∧ b.pc g = (a.pc g + 1) % 2 ^ 13 ∧ (b.eng g).cyc = x.cyc + 1) ∧
    (iOpc w = 0x04 →
      let r := Nat.xor (x.reg (iA w)) (x.opB w) % 2 ^ 32
      ∃ b, exec (.gelXor t g) s = .next b ∧ (b.eng g).reg (iD w) = r ∧ (b.eng g).flag 0 = (r == 0) ∧ (b.eng g).flag 1 = bit r 31 ∧
        (b.eng g).flag 2 = false ∧ (b.eng g).flag 3 = false ∧ b.pc g = (a.pc g + 1) % 2 ^ 13 ∧ (b.eng g).cyc = x.cyc + 1) ∧
    (iOpc w = 0x05 →
      let r := x.reg (iA w) * 2 ^ (x.opB w % 32) % 2 ^ 32
      ∃ b, exec (.gelShl t g) s = .next b ∧ (b.eng g).reg (iD w) = r ∧ (b.eng g).flag 0 = (r == 0) ∧ (b.eng g).flag 1 = bit r 31 ∧
        (b.eng g).flag 2 = false ∧ (b.eng g).flag 3 = false ∧ b.pc g = (a.pc g + 1) % 2 ^ 13 ∧ (b.eng g).cyc = x.cyc + 1) ∧
    (iOpc w = 0x06 →
      let r := x.reg (iA w) / 2 ^ (x.opB w % 32) % 2 ^ 32
      ∃ b, exec (.gelShr t g) s = .next b ∧ (b.eng g).reg (iD w) = r ∧ (b.eng g).flag 0 = (r == 0) ∧ (b.eng g).flag 1 = bit r 31 ∧
        (b.eng g).flag 2 = false ∧ (b.eng g).flag 3 = false ∧ b.pc g = (a.pc g + 1) % 2 ^ 13 ∧ (b.eng g).cyc = x.cyc + 1) ∧
    (iOpc w = 0x07 →
      let r := ofS 32 (toS 32 (x.reg (iA w)) / 2 ^ (x.opB w % 32)) % 2 ^ 32
      ∃ b, exec (.gelSar t g) s = .next b ∧ (b.eng g).reg (iD w) = r ∧ (b.eng g).flag 0 = (r == 0) ∧ (b.eng g).flag 1 = bit r 31 ∧
        (b.eng g).flag 2 = false ∧ (b.eng g).flag 3 = false ∧ b.pc g = (a.pc g + 1) % 2 ^ 13 ∧ (b.eng g).cyc = x.cyc + 1) ∧
    (iOpc w = 0x08 →
      let r := x.reg (iA w) * x.opB w % 2 ^ 32
      ∃ b, exec (.gelMul t g) s = .next b ∧ (b.eng g).reg (iD w) = r ∧ (b.eng g).flag 0 = (r == 0) ∧ (b.eng g).flag 1 = bit r 31 ∧
        (b.eng g).flag 2 = false ∧ (b.eng g).flag 3 = false ∧ b.pc g = (a.pc g + 1) % 2 ^ 13 ∧ (b.eng g).cyc = x.cyc + 2) ∧
    (iOpc w = 0x09 →
      let r := ofS 32 (toS 32 (x.reg (iA w)) * toS 32 (x.opB w) / 65536) % 2 ^ 32
      ∃ b, exec (.gelMulq t g) s = .next b ∧ (b.eng g).reg (iD w) = r ∧ (b.eng g).flag 0 = (r == 0) ∧ (b.eng g).flag 1 = bit r 31 ∧
        (b.eng g).flag 2 = false ∧ (b.eng g).flag 3 = false ∧ b.pc g = (a.pc g + 1) % 2 ^ 13 ∧ (b.eng g).cyc = x.cyc + 2) ∧
    (iOpc w = 0x0a →
      let r := (if toS 32 (x.reg (iA w)) ≤ toS 32 (x.opB w) then x.reg (iA w) else x.opB w) % 2 ^ 32
      ∃ b, exec (.gelMin t g) s = .next b ∧ (b.eng g).reg (iD w) = r ∧ (b.eng g).flag 0 = (r == 0) ∧ (b.eng g).flag 1 = bit r 31 ∧
        (b.eng g).flag 2 = false ∧ (b.eng g).flag 3 = false ∧ b.pc g = (a.pc g + 1) % 2 ^ 13 ∧ (b.eng g).cyc = x.cyc + 1) ∧
    (iOpc w = 0x0b →
      let r := (if toS 32 (x.reg (iA w)) ≤ toS 32 (x.opB w) then x.opB w else x.reg (iA w)) % 2 ^ 32
      ∃ b, exec (.gelMax t g) s = .next b ∧ (b.eng g).reg (iD w) = r ∧ (b.eng g).flag 0 = (r == 0) ∧ (b.eng g).flag 1 = bit r 31 ∧
        (b.eng g).flag 2 = false ∧ (b.eng g).flag 3 = false ∧ b.pc g = (a.pc g + 1) % 2 ^ 13 ∧ (b.eng g).cyc = x.cyc + 1) ∧
    (iOpc w = 0x0d →
      ∃ b, exec (.gelMov t g) s = .next b ∧ (b.eng g).reg (iD w) = x.opB w % 2 ^ 32 ∧ (b.eng g).cc = x.cc ∧ b.pc g = (a.pc g + 1) % 2 ^ 13 ∧ (b.eng g).cyc = x.cyc + 1) ∧
    (iOpc w = 0x0e →
      let r := (x.reg (iA w) + x.opB w) % 2 ^ 24
      ∃ b, exec (.gelAdda t g) s = .next b ∧ (b.eng g).reg (iD w) = r ∧ (b.eng g).flag 0 = (r == 0) ∧
        (b.eng g).flag 1 = bit r 23 ∧ (b.eng g).flag 2 = false ∧ (b.eng g).flag 3 = false ∧ b.pc g = (a.pc g + 1) % 2 ^ 13 ∧ (b.eng g).cyc = x.cyc + 1) ∧
    (iOpc w = 0x0f →
      ∃ b, exec (.gelLdh t g) s = .next b ∧ (b.eng g).reg (iD w) = (bits w 0 16 * 65536 + x.reg (iD w) % 65536) % 2 ^ 32 ∧
        (b.eng g).cc = x.cc ∧ b.pc g = (a.pc g + 1) % 2 ^ 13 ∧ (b.eng g).cyc = x.cyc + 1)

/-- LDP, STP, LDM, STM, A2T, A2D, QPUT, RDC and RDS (R235, R243 to R248). -/
def Obligations.EngineDataMoves : Prop :=
  ∀ (s a : State) (t : Nat) (g : Engine) (w : Nat) (x : GelS), a = s.advance t → gelOk g a = true →
    a.rd (GEL_GEL_STAT_STATE g) = 2 → a.gelReady g = true → a.atBkpt g = false → a.badFetch g = none → a.fetchBad g = none →
    w = a.gelWord g → x = a.eng g → a.overLimit g (opcCycles (iOpc w) + a.stalledFor g) (opcCycles (iOpc w)) = none →
    (∀ (p : Nat), iOpc w = 0x10 → a.thrPhys g = some p →
      ∃ b, exec (.gelLdp t g) s = .next b ∧ (b.eng g).reg (iD w) = a.rd (paramField p (x.pIdx w)) ∧ (b.eng g).cc = x.cc ∧
        b.pc g = (a.pc g + 1) % 2 ^ 13 ∧ (b.eng g).cyc = x.cyc + 2) ∧
    (∀ (p : Nat), iOpc w = 0x11 → a.thrPhys g = some p →
      ∃ b, exec (.gelStp t g) s = .next b ∧ b.rd (paramField p (x.pIdx w)) = x.reg (iA w) % 2 ^ 32 ∧ (b.eng g).cc = x.cc ∧
        b.pc g = (a.pc g + 1) % 2 ^ 13 ∧ (b.eng g).cyc = x.cyc + 1) ∧
    (iOpc w = 0x12 →
      ∃ b, exec (.gelLdm t g) s = .next b ∧ (b.eng g).mem = some { dst := some (iD w), addr := x.memAddr w, val := 0, since := a.tb } ∧
        (b.eng g).thread = true ∧ b.pc g = (a.pc g + 1) % 2 ^ 13 ∧ (b.eng g).cyc = x.cyc + 8) ∧
    (iOpc w = 0x13 →
      ∃ b, exec (.gelStm t g) s = .next b ∧ (b.eng g).mem = some { dst := none, addr := x.memAddr w, val := x.reg (iB w), since := a.tb } ∧
        (b.eng g).thread = true ∧ b.pc g = (a.pc g + 1) % 2 ^ 13 ∧ (b.eng g).cyc = x.cyc + 8) ∧
    (iOpc w = 0x14 → a.ang.valid = true → a.ang.hasRec = true →
      let d := a.offAngle a.ang.g.r (x.reg (iA w) % 2 ^ 24)
      ∃ b, exec (.gelA2t t g) s = .next b ∧
        (b.eng g).reg (iD w) = ofS 32 ((a.ang.g.r.t : Int) + divNear (d * a.ang.g.r.tp) a.ang.g.r.w) ∧
        (b.eng g).flag 5 = (decide (0 ≤ d) && decide (d < a.ang.g.r.w)) ∧ (b.eng g).flag 6 = decide (d < 0) ∧ (b.eng g).flag 7 = false ∧
        b.pc g = (a.pc g + 1) % 2 ^ 13 ∧ (b.eng g).cyc = x.cyc + 6) ∧
    (iOpc w = 0x14 → (a.ang.valid = false ∨ a.ang.hasRec = false) →
      ∃ b, exec (.gelA2t t g) s = .next b ∧ (b.eng g).reg (iD w) = a.tb % 2 ^ 32 ∧ (b.eng g).flag 5 = false ∧ (b.eng g).flag 6 = false ∧
        (b.eng g).flag 7 = true ∧ b.pc g = (a.pc g + 1) % 2 ^ 13 ∧ (b.eng g).cyc = x.cyc + 6) ∧
    (iOpc w = 0x15 → a.ang.valid = true → a.ang.hasRec = true →
      ∃ b, exec (.gelA2d t g) s = .next b ∧ 
        (b.eng g).reg (iD w) = ofS 32 (divNear (x.reg (iA w) * a.ang.g.r.tp) a.ang.g.r.w) ∧ (b.eng g).flag 7 = false ∧ b.pc g = (a.pc g + 1) % 2 ^ 13 ∧ (b.eng g).cyc = x.cyc + 6) ∧
    (iOpc w = 0x15 → (a.ang.valid = false ∨ a.ang.hasRec = false) →
      ∃ b, exec (.gelA2d t g) s = .next b ∧ (b.eng g).reg (iD w) = 0 ∧ (b.eng g).flag 5 = false ∧ (b.eng g).flag 6 = false ∧
        (b.eng g).flag 7 = true ∧ b.pc g = (a.pc g + 1) % 2 ^ 13 ∧ (b.eng g).cyc = x.cyc + 6) ∧
    (iOpc w = 0x16 → bit w 2 = false → (tget [] x.outlet (bits w 0 2)).length < 8 →
      ∃ b, exec (.gelQput t g) s = .next b ∧ 
        tget [] (b.eng g).outlet (bits w 0 2) = tget [] x.outlet (bits w 0 2) ++ [x.reg (iA w)] ∧ b.mem = a.mem ∧ b.pc g = (a.pc g + 1) % 2 ^ 13 ∧ (b.eng g).cyc = x.cyc + 1) ∧
    (iOpc w = 0x16 → bit w 2 = true → (tget [] x.outlet (bits w 0 2)).length < 8 → a.on (GEL_QOUT_EN g (bits w 0 2)) = true →
      let q := bits w 0 2
      let d := a.mbqAppend (a.rd (GEL_QOUT_PORT g q)) (a.rd (GEL_QOUT_QUEUE g q)) (tget [] x.outlet q ++ [x.reg (iA w)])
      ∃ b, exec (.gelQput t g) s = .next b ∧ tget [] (b.eng g).outlet q = [] ∧ b.mem = d.mem ∧ b.pc g = (a.pc g + 1) % 2 ^ 13 ∧ (b.eng g).cyc = x.cyc + 1) ∧
    (∀ (p : Nat), iOpc w = 0x1c → bits w 0 3 = 0 → a.thrPhys g = some p →
      ∃ b, exec (.gelRdcCap0Time t g) s = .next b ∧ (b.eng g).reg (iD w) = (a.chan p).cap0.t % 2 ^ 32 ∧ b.pc g = (a.pc g + 1) % 2 ^ 13 ∧ (b.eng g).cyc = x.cyc + 2) ∧
    (∀ (p : Nat), iOpc w = 0x1c → bits w 0 3 = 1 → a.thrPhys g = some p →
      ∃ b, exec (.gelRdcCap0Angle t g) s = .next b ∧ (b.eng g).reg (iD w) = (a.chan p).cap0.word % 2 ^ 32 ∧ b.pc g = (a.pc g + 1) % 2 ^ 13 ∧ (b.eng g).cyc = x.cyc + 2) ∧
    (∀ (p : Nat), iOpc w = 0x1c → bits w 0 3 = 2 → a.thrPhys g = some p →
      ∃ b, exec (.gelRdcCap1Time t g) s = .next b ∧ (b.eng g).reg (iD w) = (a.chan p).cap1.t % 2 ^ 32 ∧ b.pc g = (a.pc g + 1) % 2 ^ 13 ∧ (b.eng g).cyc = x.cyc + 2) ∧
    (∀ (p : Nat), iOpc w = 0x1c → bits w 0 3 = 3 → a.thrPhys g = some p →
      ∃ b, exec (.gelRdcCap1Angle t g) s = .next b ∧ (b.eng g).reg (iD w) = (a.chan p).cap1.word % 2 ^ 32 ∧ b.pc g = (a.pc g + 1) % 2 ^ 13 ∧ (b.eng g).cyc = x.cyc + 2) ∧
    (iOpc w = 0x1d → bits w 0 3 = 0 →
      ∃ b, exec (.gelRdsTbvLo t g) s = .next b ∧ (b.eng g).reg (iD w) = a.tb % 2 ^ 32 ∧
        (b.eng g).tbvHi = some (a.tb / 2 ^ 32) ∧ b.pc g = (a.pc g + 1) % 2 ^ 13 ∧ (b.eng g).cyc = x.cyc + 2) ∧
    (iOpc w = 0x1d → bits w 0 3 = 1 →
      ∃ b, exec (.gelRdsTbvHi t g) s = .next b ∧ (b.eng g).reg (iD w) = (x.tbvHi.getD (a.tb / 2 ^ 32)) % 2 ^ 32 ∧
        b.pc g = (a.pc g + 1) % 2 ^ 13 ∧ (b.eng g).cyc = x.cyc + 2) ∧
    (iOpc w = 0x1d → bits w 0 3 = 2 →
      ∃ b, exec (.gelRdsAngle t g) s = .next b ∧ (b.eng g).reg (iD w) = (a.ang.ang + b2n a.ang.valid * 2 ^ 24 + a.ang.st % 8 * 2 ^ 25) % 2 ^ 32 ∧
        b.pc g = (a.pc g + 1) % 2 ^ 13 ∧ (b.eng g).cyc = x.cyc + 2) ∧
    (∀ (p : Nat), iOpc w = 0x1d → bits w 0 3 = 3 → a.thrPhys g = some p →
      ∃ b, exec (.gelRdsSnapshot t g) s = .next b ∧ (b.eng g).reg (iD w) = a.chFlags p % 2 ^ 32 ∧
        (b.eng g).snap = a.chFlags p ∧ b.pc g = (a.pc g + 1) % 2 ^ 13 ∧ (b.eng g).cyc = x.cyc + 2) ∧
    (∀ (p : Nat), iOpc w = 0x1d → bits w 0 3 = 4 → a.thrPhys g = some p →
      ∃ b, exec (.gelRdsChStat t g) s = .next b ∧ (b.eng g).reg (iD w) = a.chStat p / 65536 % 2 ^ 32 ∧
        b.pc g = (a.pc g + 1) % 2 ^ 13 ∧ (b.eng g).cyc = x.cyc + 2) ∧
    (∀ (p : Nat), iOpc w = 0x1d → bits w 0 3 = 5 → a.thrPhys g = some p →
      ∃ b, exec (.gelRdsSrqTime t g) s = .next b ∧ (b.eng g).reg (iD w) = (a.chan p).srqShown.1 % 2 ^ 32 ∧
        b.pc g = (a.pc g + 1) % 2 ^ 13 ∧ (b.eng g).cyc = x.cyc + 2) ∧
    (∀ (p : Nat), iOpc w = 0x1d → bits w 0 3 = 6 → a.thrPhys g = some p →
      ∃ b, exec (.gelRdsSrqParam t g) s = .next b ∧ (b.eng g).reg (iD w) = (a.chan p).srqShown.2 % 2 ^ 32 ∧
        b.pc g = (a.pc g + 1) % 2 ^ 13 ∧ (b.eng g).cyc = x.cyc + 2) ∧
    (iOpc w = 0x1d → bits w 0 3 = 7 →
      ∃ b, exec (.gelRdsCycCnt t g) s = .next b ∧ (b.eng g).reg (iD w) = a.rd EVT_CYC_CNT_COUNT % 2 ^ 32 ∧
        b.pc g = (a.pc g + 1) % 2 ^ 13 ∧ (b.eng g).cyc = x.cyc + 2)

/-- SMT, SMA, SMC, PIN, CHC, LNK, ADJ and CMD_QUEUE_ARRIVAL (R32, R225 to R230, R243 to R249). -/
def Obligations.EngineChannelInstructions : Prop :=
  ∀ (s a : State) (t : Nat) (g : Engine) (w : Nat) (x : GelS), a = s.advance t → gelOk g a = true →
    a.rd (GEL_GEL_STAT_STATE g) = 2 → a.gelReady g = true → a.atBkpt g = false → a.badFetch g = none → a.fetchBad g = none →
    w = a.gelWord g → x = a.eng g → a.overLimit g (opcCycles (iOpc w) + a.stalledFor g) (opcCycles (iOpc w)) = none →
    (iOpc w = 0x18 → x.cq.length < 16 → x.stall = none →
      ∃ b, exec (.gelSmt t g) s = .next b ∧ 
        (b.eng g).cq = x.cq ++ [{ ch := a.rd (GEL_GEL_STAT_CH g), op := .smt (x.reg (iA w)) (bits w 22 2), stamp := a.tb }] ∧
        b.pc g = (a.pc g + 1) % 2 ^ 13 ∧ (b.eng g).cyc = x.cyc + 1) ∧
    (iOpc w = 0x19 → x.cq.length < 16 → x.stall = none →
      ∃ b, exec (.gelSma t g) s = .next b ∧ 
        (b.eng g).cq = x.cq ++ [{ ch := a.rd (GEL_GEL_STAT_CH g), op := .sma (x.reg (iA w) % 2 ^ 24) (bits w 22 2), stamp := a.tb }] ∧
        b.pc g = (a.pc g + 1) % 2 ^ 13 ∧ (b.eng g).cyc = x.cyc + 1) ∧
    (iOpc w = 0x1a → x.cq.length < 16 → x.stall = none →
      ∃ b, exec (.gelSmc t g) s = .next b ∧ 
        (b.eng g).cq = x.cq ++ [{ ch := a.rd (GEL_GEL_STAT_CH g), op := .smc (x.reg (iA w) % 2 ^ 24) (bits w 22 2), stamp := a.tb }] ∧
        b.pc g = (a.pc g + 1) % 2 ^ 13 ∧ (b.eng g).cyc = x.cyc + 1) ∧
    (iOpc w = 0x1b → x.cq.length < 16 → x.stall = none →
      ∃ b, exec (.gelPin t g) s = .next b ∧ 
        (b.eng g).cq = x.cq ++ [{ ch := a.rd (GEL_GEL_STAT_CH g), op := .pin (bits w 22 2), stamp := a.tb }] ∧
        b.pc g = (a.pc g + 1) % 2 ^ 13 ∧ (b.eng g).cyc = x.cyc + 1) ∧
    (iOpc w = 0x17 → x.cq.length < 16 → x.stall = none →
      ∃ b, exec (.gelLnk t g) s = .next b ∧ 
        (b.eng g).cq = x.cq ++ [{ ch := x.reg (iA w) % 256, op := .lnk, stamp := a.tb }] ∧
        b.pc g = (a.pc g + 1) % 2 ^ 13 ∧ (b.eng g).cyc = x.cyc + 1) ∧
    (iOpc w = 0x1e → (bit w 0 = true ∨ bits w 0 8 = 0) → x.cq.length < 16 → x.stall = none →
      ∃ b, exec (.gelChcRel t g) s = .next b ∧ 
        (b.eng g).cq = x.cq ++ [{ ch := a.rd (GEL_GEL_STAT_CH g), op := .chc (bits w 0 8) (bits w 8 2), stamp := a.tb }] ∧
        b.pc g = (a.pc g + 1) % 2 ^ 13 ∧ (b.eng g).cyc = x.cyc + 1) ∧
    (iOpc w = 0x1e → bit w 1 = true → x.cq.length < 16 → x.stall = none →
      ∃ b, exec (.gelChcDisarmTime t g) s = .next b ∧ 
        (b.eng g).cq = x.cq ++ [{ ch := a.rd (GEL_GEL_STAT_CH g), op := .chc (bits w 0 8) (bits w 8 2), stamp := a.tb }] ∧
        b.pc g = (a.pc g + 1) % 2 ^ 13 ∧ (b.eng g).cyc = x.cyc + 1) ∧
    (iOpc w = 0x1e → bit w 2 = true → x.cq.length < 16 → x.stall = none →
      ∃ b, exec (.gelChcDisarmAngle t g) s = .next b ∧ 
        (b.eng g).cq = x.cq ++ [{ ch := a.rd (GEL_GEL_STAT_CH g), op := .chc (bits w 0 8) (bits w 8 2), stamp := a.tb }] ∧
        b.pc g = (a.pc g + 1) % 2 ^ 13 ∧ (b.eng g).cyc = x.cyc + 1) ∧
    (iOpc w = 0x1e → bit w 3 = true → x.cq.length < 16 → x.stall = none →
      ∃ b, exec (.gelChcArmSrqAction t g) s = .next b ∧ 
        (b.eng g).cq = x.cq ++ [{ ch := a.rd (GEL_GEL_STAT_CH g), op := .chc (bits w 0 8) (bits w 8 2), stamp := a.tb }] ∧
        b.pc g = (a.pc g + 1) % 2 ^ 13 ∧ (b.eng g).cyc = x.cyc + 1) ∧
    (iOpc w = 0x1b → 16 ≤ x.cq.length → x.stall = none →
      ∃ b, exec (.gelPin t g) s = .next b ∧ (b.eng g).cq = x.cq ∧ (b.eng g).stall = some a.tb ∧
        b.pc g = a.pc g ∧ (b.eng g).cyc = x.cyc) ∧
    (∀ (u r : State) (p : Nat), u = (a.modEng g fun z => { z with skipBk := false }) → iOpc w = 0x1f → a.thrPhys g = some p →
      u.evtAdj p (toS 32 (x.reg (iA w))) = some r →
      exec (.gelAdj t g) s = .next (a.keep ((r.modEng g fun z => z.setFlag 4 false).gelNext g 2))) ∧
    (∀ (u : State) (p : Nat), u = (a.modEng g fun z => { z with skipBk := false }) → iOpc w = 0x1f → a.thrPhys g = some p →
      u.evtAdj p (toS 32 (x.reg (iA w))) = none →
      ∃ b, exec (.gelAdj t g) s = .next b ∧ (b.eng g).flag 4 = true ∧ b.evt = a.evt ∧ b.chans = a.chans ∧ b.pc g = (a.pc g + 1) % 2 ^ 13 ∧ (b.eng g).cyc = x.cyc + 2)

/-- CMD_QUEUE_ARRIVAL (R32, R36). `w` is the state after what the channel's registers have due in this cycle. -/
def Obligations.CommandQueueArrival : Prop :=
  ∀ (s a w : State) (t : Nat) (g : Engine) (c : CqCmd) (r : List CqCmd) (p : Nat), a = s.advance t → State.tbd 1 a = true →
    (a.eng g).cq = c :: r → a.physOf c.ch = some p → w = (a.setEng g { a.eng g with cq := r }).beforeCmd p →
    w.physOf c.ch = some p → w.dead p = false →
    (∀ (act : Nat), c.op = .pin act → (w.chan p).safe = false →
      ∃ b, exec (.cmdQueueArrival t g) s = .next b ∧ (b.eng g).cq = r ∧ (w.envOn p = true → (b.chan p).car = actOn act (w.chan p).car ∧ (b.chan p).env = (w.chan p).env) ∧
        (w.envOn p = false → (b.chan p).env = actOn act (w.chan p).env ∧ (b.chan p).car = (w.chan p).car)) ∧
    (∀ (act : Nat), c.op = .pin act → (w.chan p).safe = true →
      ∃ b, exec (.cmdQueueArrival t g) s = .next b ∧ (b.eng g).cq = r ∧ (b.chan p).env = (w.chan p).env ∧ (b.chan p).car = (w.chan p).car) ∧
    (∀ (v act : Nat), c.op = .smt v act → c.stamp + 6 ≤ nearCount c.stamp v →
      ∃ b, exec (.cmdQueueArrival t g) s = .next b ∧ (b.eng g).cq = r ∧ (b.chan p).mtT = nearCount c.stamp v ∧ (b.chan p).mtArm = true ∧
        (b.chan p).mtAct = act ∧ (b.chan p).mtPassed = false ∧ (b.chan p).mhold = true ∧ (b.chan p).pipe = none ∧ (b.chan p).env = (w.chan p).env ∧ (b.chan p).car = (w.chan p).car) ∧
    (∀ (v act : Nat), c.op = .smt v act → nearCount c.stamp v < c.stamp + 6 → (w.chan p).mtAt ≠ w.tb + 1 →
      (w.chan p).pipeAt ≠ w.tb + 1 →
      ∃ b, exec (.cmdQueueArrival t g) s = .next b ∧ (b.eng g).cq = r ∧ (b.chan p).mtT = nearCount c.stamp v ∧ (b.chan p).mtArm = false ∧
        (b.chan p).mhold = true ∧ b.rd (TILE_CH_ERR_PASSED (p / 24) (p % 24)) = satN 8 (w.rd (TILE_CH_ERR_PASSED (p / 24) (p % 24)) + 1) ∧
        (w.envOn p = true → (b.chan p).car = actOn act (w.chan p).car ∧ (b.chan p).env = (w.chan p).env) ∧
        (w.envOn p = false → (b.chan p).env = actOn act (w.chan p).env ∧ (b.chan p).car = (w.chan p).car)) ∧
    (∀ (v act : Nat), c.op = .sma v act → (w.ang.valid = false ∨ w.anglePassed (v % 2 ^ 24) = false) →
      ∃ b, exec (.cmdQueueArrival t g) s = .next b ∧ (b.eng g).cq = r ∧ (b.chan p).maA = v % 2 ^ 24 ∧ (b.chan p).maArm = true ∧
        (b.chan p).maCpl = false ∧ (b.chan p).maAct = act ∧ (b.chan p).maPassed = false ∧ (b.chan p).mhold = true ∧ (b.chan p).pipe = none ∧
        (b.chan p).env = (w.chan p).env ∧ (b.chan p).car = (w.chan p).car) ∧
    (∀ (v act : Nat), c.op = .sma v act → w.ang.valid = true → w.anglePassed (v % 2 ^ 24) = true → (w.chan p).maAt ≠ w.tb + 1 →
      (w.chan p).pipeAt ≠ w.tb + 1 →
      ∃ b, exec (.cmdQueueArrival t g) s = .next b ∧ (b.eng g).cq = r ∧ (b.chan p).maA = v % 2 ^ 24 ∧ (b.chan p).maArm = false ∧
        (b.chan p).mhold = true ∧ b.rd (TILE_CH_ERR_PASSED (p / 24) (p % 24)) = satN 8 (w.rd (TILE_CH_ERR_PASSED (p / 24) (p % 24)) + 1) ∧
        (w.envOn p = true → (b.chan p).car = actOn act (w.chan p).car ∧ (b.chan p).env = (w.chan p).env) ∧
        (w.envOn p = false → (b.chan p).env = actOn act (w.chan p).env ∧ (b.chan p).car = (w.chan p).car)) ∧
    (∀ (v act : Nat), c.op = .smc v act → (w.ang.valid = false ∨ w.anglePassed (v % 2 ^ 24) = false) →
      ∃ b, exec (.cmdQueueArrival t g) s = .next b ∧ (b.eng g).cq = r ∧ (b.chan p).maA = v % 2 ^ 24 ∧ (b.chan p).maArm = true ∧
        (b.chan p).maCpl = true ∧ (b.chan p).maAct = act ∧ (b.chan p).maPassed = false ∧ (b.chan p).mhold = true ∧ (b.chan p).pipe = none ∧
        (b.chan p).env = (w.chan p).env ∧ (b.chan p).car = (w.chan p).car) ∧
    (∀ (v act : Nat), c.op = .smc v act → w.ang.valid = true → w.anglePassed (v % 2 ^ 24) = true → (w.chan p).maAt ≠ w.tb + 1 →
      (w.chan p).pipeAt ≠ w.tb + 1 →
      ∃ b, exec (.cmdQueueArrival t g) s = .next b ∧ (b.eng g).cq = r ∧ (b.chan p).maA = v % 2 ^ 24 ∧ (b.chan p).maArm = false ∧
        (b.chan p).mhold = true ∧ b.rd (TILE_CH_ERR_PASSED (p / 24) (p % 24)) = satN 8 (w.rd (TILE_CH_ERR_PASSED (p / 24) (p % 24)) + 1) ∧
        (w.envOn p = true → (b.chan p).car = actOn act (w.chan p).car ∧ (b.chan p).env = (w.chan p).env) ∧
        (w.envOn p = false → (b.chan p).env = actOn act (w.chan p).env ∧ (b.chan p).car = (w.chan p).car)) ∧
    (∀ (ops act : Nat), c.op = .chc ops act →
      ∃ b, exec (.cmdQueueArrival t g) s = .next b ∧ (b.eng g).cq = r ∧ ((bit ops 0 || bit ops 1) = true → (b.chan p).mtArm = false) ∧ ((bit ops 0 || bit ops 2) = true → (b.chan p).maArm = false) ∧
        (b.chan p).mhold = ((w.chan p).mhold && !bit ops 0) ∧ (bit ops 3 = true → (b.chan p).sact = act ∧ (b.chan p).sactArm = true) ∧
        (b.chan p).env = (w.chan p).env ∧ (b.chan p).car = (w.chan p).car) ∧
    (c.op = .lnk → a.dead p = false → a.evCount p 6 < 3 →
      ∃ b, exec (.cmdQueueArrival t g) s = .next b ∧ (b.eng g).cq = r ∧ b.evCount p 6 = a.evCount p 6 + 1 ∧
        (b.chan p).env = (a.chan p).env ∧ (b.chan p).car = (a.chan p).car)

/-- BR, BF, CALL, RET, BRK, YIELD and END (R240 to R255). -/
def Obligations.EngineControlFlow : Prop :=
  ∀ (s a : State) (t : Nat) (g : Engine) (w : Nat) (x : GelS), a = s.advance t → gelOk g a = true →
    a.rd (GEL_GEL_STAT_STATE g) = 2 → a.gelReady g = true → a.atBkpt g = false → a.badFetch g = none → a.fetchBad g = none →
    w = a.gelWord g → x = a.eng g → a.overLimit g (opcCycles (iOpc w) + a.stalledFor g) (opcCycles (iOpc w)) = none →
    (iOpc w = 0x20 → x.cond (bits w 30 4) = true → 0x40 ≤ iTarget w →
      ∃ b, exec (.gelBr t g) s = .next b ∧ b.pc g = iTarget w ∧ (b.eng g).cyc = x.cyc + 2 ∧ (b.eng g).g = x.g ∧ (b.eng g).cc = x.cc) ∧
    (iOpc w = 0x20 → x.cond (bits w 30 4) = false →
      ∃ b, exec (.gelBr t g) s = .next b ∧ (b.eng g).g = x.g ∧ (b.eng g).cc = x.cc ∧ b.pc g = (a.pc g + 1) % 2 ^ 13 ∧ (b.eng g).cyc = x.cyc + 1) ∧
    (iOpc w = 0x21 → (Nat.land (bits w 24 10) x.snap != 0) = bit w 23 → 0x40 ≤ iTarget w →
      ∃ b, exec (.gelBf t g) s = .next b ∧ b.pc g = iTarget w ∧ (b.eng g).cyc = x.cyc + 2 ∧ (b.eng g).g = x.g ∧ (b.eng g).cc = x.cc) ∧
    (iOpc w = 0x21 → (Nat.land (bits w 24 10) x.snap != 0) ≠ bit w 23 →
      ∃ b, exec (.gelBf t g) s = .next b ∧ (b.eng g).g = x.g ∧ (b.eng g).cc = x.cc ∧ b.pc g = (a.pc g + 1) % 2 ^ 13 ∧ (b.eng g).cyc = x.cyc + 1) ∧
    (iOpc w = 0x22 → x.stack.length < 4 → 0x40 ≤ iTarget w →
      ∃ b, exec (.gelCall t g) s = .next b ∧ (b.eng g).stack = (a.pc g + 1) :: x.stack ∧
        b.pc g = iTarget w ∧ (b.eng g).cyc = x.cyc + 2 ∧ (b.eng g).g = x.g ∧ (b.eng g).cc = x.cc) ∧
    (∀ (c : Nat) (r : List Nat), iOpc w = 0x23 → x.stack = c :: r → a.badAt (gelSeg g) 1 r.length = none →
      ∃ b, exec (.gelRet t g) s = .next b ∧ (b.eng g).stack = r ∧ b.pc g = c % 2 ^ 13 ∧ (b.eng g).cyc = x.cyc + 2 ∧ (b.eng g).g = x.g) ∧
    (iOpc w = 0x3c → a.on (GEL_GEL_CTRL_BRK_EN g) = true →
      ∃ b, exec (.gelBrk t g) s = .next b ∧ b.rd (GEL_GEL_STAT_STATE g) = 3 ∧ bit (b.rd (PG_IFLAG_FLAG (0x30 + g))) 1 = true ∧
        (b.eng g).thread = true ∧ b.pc g = (a.pc g + 1) % 2 ^ 13 ∧ (b.eng g).cyc = x.cyc + 1) ∧
    (iOpc w = 0x3c → a.on (GEL_GEL_CTRL_BRK_EN g) = false →
      ∃ b, exec (.gelBrk t g) s = .next b ∧ b.rd (GEL_GEL_STAT_STATE g) = 2 ∧ (b.eng g).thread = true ∧ b.pc g = (a.pc g + 1) % 2 ^ 13 ∧ (b.eng g).cyc = x.cyc + 1) ∧
    (∀ (p : Nat), iOpc w = 0x3e → a.thrPhys g = some p →
      ∃ b, exec (.gelYield t g) s = .next b ∧ 
        (b.chan p).yield = some ((a.pc g + 1) % 8192, [x.reg 0, x.reg 1, x.reg 2, x.reg 3]) ∧ (b.eng g).thread = false ∧
        b.rd (GEL_GEL_STAT_STATE g) = 1) ∧
    (∀ (p : Nat), iOpc w = 0x3f → a.thrPhys g = some p →
      ∃ b, exec (.gelEnd t g) s = .next b ∧ (b.eng g).thread = false ∧ b.rd (GEL_GEL_STAT_STATE g) = 1 ∧
        ∀ k < 10, b.evCount p k = if bit w k && bit x.snap k then a.evCount p k - 1 else a.evCount p k)

/-- THREAD_GRANT, THREAD_TMAX, GEL_ILLEGAL_INSTRUCTION, GEL_STORE_ERROR, HALT, STEP and GEL_RESUME (R56, R238 to R256). -/
def Obligations.EngineThreads : Prop :=
  ∀ (s a : State) (t : Nat) (g : Engine), a = s.advance t → gelOk g a = true →
    (∀ (u : State) (i n c p : Nat) (r : List (Nat × Nat)), a.rd (GEL_GEL_STAT_STATE g) = 1 → (a.eng g).thread = false →
      u = a.gelHold g → u.wheelPick g = some i → tget [] (a.eng g).reqs (a.wheelAt g i) = (n, c) :: r → a.physOf n = some p →
      (a.chan p).yield = none →
      ∃ b, exec (.threadGrant t g) s = .next b ∧ b.pc g = (((a.chan p).dir.map DirEnt.entry).getD 0) % 2 ^ 13 ∧
        (b.eng g).g = [0, 0, 0, 0, 0, ((a.chan p).srq.headD (0, 0)).2, n, a.chFlags p] ∧
        (b.eng g).thread = true ∧ b.rd (GEL_GEL_STAT_STATE g) = 2 ∧ b.rd (GEL_GEL_STAT_CH g) = n % 256 ∧
        (b.eng g).snap = a.chFlags p ∧ (b.eng g).cc = 0 ∧ (b.eng g).stack = [] ∧ (b.eng g).cyc = 3 ∧ (b.chan p).yield = none ∧
        tget [] (b.eng g).reqs (a.wheelAt g i) = r) ∧
    (∀ (u : State) (i n c p : Nat) (r : List (Nat × Nat)) (z : Nat) (h : List Nat), a.rd (GEL_GEL_STAT_STATE g) = 1 →
      (a.eng g).thread = false → u = a.gelHold g → u.wheelPick g = some i →
      tget [] (a.eng g).reqs (a.wheelAt g i) = (n, c) :: r → a.physOf n = some p → (a.chan p).yield = some (z, h) →
      ∃ b, exec (.threadGrant t g) s = .next b ∧ b.pc g = z % 2 ^ 13 ∧
        (b.eng g).g = h ++ [0, ((a.chan p).srq.headD (0, 0)).2, n, a.chFlags p] ∧
        (b.eng g).thread = true ∧ b.rd (GEL_GEL_STAT_STATE g) = 2 ∧ b.rd (GEL_GEL_STAT_CH g) = n % 256 ∧
        (b.eng g).snap = a.chFlags p ∧ (b.eng g).cc = 0 ∧ (b.eng g).stack = [] ∧ (b.eng g).cyc = 3 ∧ (b.chan p).yield = none ∧
        tget [] (b.eng g).reqs (a.wheelAt g i) = r) ∧
    (∀ (p : Nat), a.rd (GEL_GEL_STAT_STATE g) = 2 → (a.eng g).thread = true →
      a.overLimit g ((if a.gelReady g then opcCycles (iOpc (a.gelWord g)) else 0) + a.stalledFor g) (if a.gelReady g then opcCycles (iOpc (a.gelWord g)) else 0) = some 1 →
      a.thrPhys g = some p →
      ∃ b, exec (.threadTmax t g) s = .next b ∧ b.rd (GEL_FLT_CNT_OVERRUN g) = satN 8 (a.rd (GEL_FLT_CNT_OVERRUN g) + 1) ∧
        (b.eng g).thread = false ∧ b.rd (GEL_GEL_STAT_STATE g) = 1 ∧ (b.chan p).yield = none ∧
        (b.chan p).env = false ∧ (b.chan p).car = false ∧ (b.chan p).safe = true ∧
        b.rd (TILE_CH_ERR_ABORT (p / 24) (p % 24)) = satN 8 (a.rd (TILE_CH_ERR_ABORT (p / 24) (p % 24)) + 1)) ∧
    (∀ (p : Nat) (c : Nat), a.rd (GEL_GEL_STAT_STATE g) = 2 → a.gelReady g = true → a.atBkpt g = false → a.fetchBad g = none →
      a.badFetch g = some c → a.thrPhys g = some p →
      ∃ b, exec (.gelIllegal t g) s = .next b ∧ (c = 3 → b.rd (GEL_FLT_CNT_ILLEGAL g) = satN 8 (a.rd (GEL_FLT_CNT_ILLEGAL g) + 1)) ∧
        (c = 4 → b.rd (GEL_FLT_CNT_STACK g) = satN 8 (a.rd (GEL_FLT_CNT_STACK g) + 1)) ∧
        (b.eng g).thread = false ∧ b.rd (GEL_GEL_STAT_STATE g) = 1 ∧ (b.chan p).yield = none ∧
        (b.chan p).env = false ∧ (b.chan p).car = false ∧ (b.chan p).safe = true ∧
        b.rd (TILE_CH_ERR_ABORT (p / 24) (p % 24)) = satN 8 (a.rd (TILE_CH_ERR_ABORT (p / 24) (p % 24)) + 1)) ∧
    (a.rd (GEL_GEL_STAT_STATE g) ≠ 0 → a.rd (GEL_GEL_STAT_STATE g) ≠ 4 → a.gelReady g = true →
      ∃ b, exec (.gelStoreError t g) s = .next b ∧ b.rd (GEL_GEL_STAT_STATE g) = 4 ∧ (b.eng g).thread = false) ∧
    (∀ (m : Master), a.mayWrite m (0x30 + g) 0x40 1 1 = true →
      (a.rd (GEL_GEL_STAT_STATE g) = 1 ∨ a.rd (GEL_GEL_STAT_STATE g) = 2) →
      ∃ b, exec (.gelHalt t g (some m)) s = .next b ∧ b.rd (GEL_GEL_STAT_STATE g) = 3 ∧ b.rd (GEL_GEL_CTRL_HALT g) = 1 ∧
        bit (b.rd (PG_IFLAG_FLAG (0x30 + g))) 1 = true ∧ b.eng g = a.eng g) ∧
    (a.rd (GEL_GEL_STAT_STATE g) = 2 → a.gelReady g = true → a.atBkpt g = true →
      ∃ b, exec (.gelHalt t g none) s = .next b ∧ b.rd (GEL_GEL_STAT_STATE g) = 3 ∧ (b.eng g).skipBk = true ∧
        bit (b.rd (PG_IFLAG_FLAG (0x30 + g))) 2 = true ∧ b.pc g = a.pc g) ∧
    (∀ (m : Master), a.mayWrite m (0x30 + g) 0x40 2 2 = true → a.rd (GEL_GEL_STAT_STATE g) = 3 → a.gelReady g = true →
      a.badFetch g = none → a.fetchBad g = none → iOpc (a.gelWord g) = 0x0d →
      ∃ b, exec (.gelStep t m g) s = .next b ∧ b.rd (GEL_GEL_STAT_STATE g) = 3 ∧
        (b.eng g).reg (iD (a.gelWord g)) = (a.eng g).opB (a.gelWord g) % 2 ^ 32 ∧ (b.eng g).cc = (a.eng g).cc ∧ b.pc g = (a.pc g + 1) % 2 ^ 13) ∧
    (∀ (m : Master), a.mayWrite m (0x30 + g) 0x40 0 1 = true → a.rd (GEL_GEL_STAT_STATE g) = 3 → a.notHalted = true →
      a.on (PG_CTRL_DEBUG_SAFE (0x30 + g)) = false →
      ∃ b, exec (.gelResume t m g) s = .next b ∧ b.rd (GEL_GEL_STAT_STATE g) = (if (a.eng g).thread then 2 else 1) ∧
        b.rd (GEL_GEL_CTRL_HALT g) = 0 ∧ b.eng g = a.eng g ∧ b.pc g = a.pc g) ∧
    (∀ (m : Master), a.mayWrite m (0x30 + g) 0x40 0 1 = true → a.rd (GEL_GEL_STAT_STATE g) = 3 → a.notHalted = true →
      a.on (PG_CTRL_DEBUG_SAFE (0x30 + g)) = true →
      ∃ b, exec (.gelResume t m g) s = .next b ∧ b.rd (GEL_GEL_STAT_STATE g) = 1 ∧ b.rd (GEL_GEL_CTRL_HALT g) = 0 ∧ (b.eng g).thread = false)

/-- GEL_ENABLE and GEL_MEM_COMPLETE (R248, R255). -/
def Obligations.EngineEnableAndMemory : Prop :=
  ∀ (s a : State) (t : Nat) (g : Engine), a = s.advance t → State.core 1 a = true →
    (∀ (m : Master), a.mayWrite m (0x30 + g) 8 1 1 = true → a.on (PG_CTRL_EN (0x30 + g)) = false → (a.eng g).image = true →
      a.wheelOk g = true →
      ∃ b, exec (.gelEnable t m g) s = .next b ∧ b.rd (PG_CTRL_EN (0x30 + g)) = 1 ∧
        b.rd (GEL_GEL_STAT_STATE g) = (if a.notHalted then 1 else 3) ∧ b.eng g = a.eng g) ∧
    (∀ (m : Master), a.mayWrite m (0x30 + g) 8 1 1 = true → a.on (PG_CTRL_EN (0x30 + g)) = false →
      ((a.eng g).image = false ∨ a.wheelOk g = false) →
      let u := a.charged m (0x30 + g) 8
      exec (.gelEnable t m g) s = .next (a.keep (u.cfgRec (srcGel g 0xF) 0 0xFFF))) ∧
    (∀ (z : GelMem) (d v : Nat) (u : State), a.running (0x30 + g) = true → (a.eng g).mem = some z → isRemote z.addr = false →
      z.dst = some d → d < 8 → a.busRead (4 + g) z.addr = (.ok v, u) → u.eng g = a.eng g →
      u.overLimit g (u.stalledFor g) 0 = none →
      ∃ b, exec (.gelMemComplete t g) s = .next b ∧ (b.eng g).mem = none ∧ (b.eng g).reg d = v % 2 ^ 32 ∧ (b.eng g).flag 4 = false ∧
        b.pc g = u.pc g) ∧
    (∀ (z : GelMem) (v : Nat) (u : State), a.running (0x30 + g) = true → (a.eng g).mem = some z → isRemote z.addr = false →
      z.dst = none → a.busWrite (4 + g) z.addr z.val 15 = (.ok v, u) → u.eng g = a.eng g →
      u.overLimit g (u.stalledFor g) 0 = none →
      ∃ b, exec (.gelMemComplete t g) s = .next b ∧ (b.eng g).mem = none ∧ (b.eng g).flag 4 = false ∧ b.mem = u.mem ∧ (b.eng g).g = (a.eng g).g) ∧
    (∀ (z : GelMem) (u : State), a.running (0x30 + g) = true → (a.eng g).mem = some z → isRemote z.addr = false →
      z.dst = none → a.busWrite (4 + g) z.addr z.val 15 = (.err, u) → u.eng g = a.eng g →
      u.overLimit g (u.stalledFor g) 0 = none →
      ∃ b, exec (.gelMemComplete t g) s = .next b ∧ (b.eng g).mem = none ∧ (b.eng g).flag 4 = true ∧ b.mem = u.mem ∧ (b.eng g).g = (a.eng g).g) ∧
    (∀ (z : GelMem) (d : Nat) (u : State), a.running (0x30 + g) = true → (a.eng g).mem = some z → isRemote z.addr = false →
      z.dst = some d → d < 8 → a.busRead (4 + g) z.addr = (.err, u) → u.eng g = a.eng g →
      u.overLimit g (u.stalledFor g) 0 = none →
      ∃ b, exec (.gelMemComplete t g) s = .next b ∧ (b.eng g).mem = none ∧ (b.eng g).reg d = 0 ∧ (b.eng g).flag 4 = true) ∧
    (∀ (z : GelMem) (d : Nat) (r : RemEnd), a.running (0x30 + g) = true → (a.eng g).mem = some z → isRemote z.addr = true →
      z.dst = some d → d < 8 →
      (a.casc.remDone.find? fun y => y.m == 4 + g.val && y.addr == z.addr && y.write == false) = some r →
      a.overLimit g (a.stalledFor g) 0 = none →
      ∃ b, exec (.gelMemComplete t g) s = .next b ∧ (b.eng g).mem = none ∧ (b.eng g).reg d = (if r.status = 0 then r.data % 2 ^ 32 else 0) ∧
        (b.eng g).flag 4 = decide (r.status ≠ 0) ∧ b.casc.remDone = a.casc.remDone.erase r)

/-- CBC_ENABLE, CONV_CTRL_START, URG, CONV_STOP and the router starts (R291 to R309). -/
def Obligations.ConverterStarts : Prop :=
  ∀ (s a : State) (t : Nat) (x : Conv), a = s.advance t → State.corn 2 a = true →
    (∀ (m : Master), a.mayWrite m (0x60 + x) 8 1 1 = true → a.on (PG_CTRL_EN (0x60 + x)) = false → a.cvCheck x = 0 →
      ∃ b, exec (.cbcEnable t m x) s = .next b ∧ b.rd (PG_CTRL_EN (0x60 + x)) = 1 ∧ b.rd (PG_STAT_BLK (0x60 + x)) = 0 ∧
        b.rd (CBC_WC_STAT_OUT x) = 0 ∧ (b.cv x).hist = [] ∧
        (a.on (CBC_CONV_CFG_MODE x) = false → a.on (CBC_CONV_STAT_PEND x) = false → b.cvState x = 1)) ∧
    (∀ (m : Master), a.mayWrite m (0x60 + x) 8 1 1 = true → a.on (PG_CTRL_EN (0x60 + x)) = false → a.cvCheck x ≠ 0 →
      ∃ b, exec (.cbcEnable t m x) s = .next b ∧ b.rd (PG_CTRL_EN (0x60 + x)) = 0 ∧ b.rd (PG_STAT_BLK (0x60 + x)) = a.cvCheck x ∧
        b.cvState x = a.cvState x ∧ b.conv = a.conv) ∧
    (∀ (m : Master) (e : Fin 16), cvOk x a = true → a.mayWrite m (0x60 + x) 0x44 (16 * e + 1) 0xFFFFFFFF = true →
      a.cvState x = 1 → angleKind (a.rd (CBC_ENT_CFG_KIND x e)) (a.rd (CBC_ENT_CFG_LEN x e)) = false →
      ∃ b, exec (.convCtrlStart t m x e) s = .next b ∧ b.cvState x = 3 ∧ b.rd (CBC_CONV_STAT_ENTRY x) = e.val ∧
        (b.cv x).win.map WinO.t0 = some a.tb ∧ (b.cv x).win.map WinO.e = some e.val ∧ (b.cv x).kind = a.rd (CBC_ENT_CFG_KIND x e) ∧
        (b.cv x).left = some (max 1 (a.rd (CBC_ENT_CFG_RPT x e)))) ∧
    (∀ (m : Master) (e : Fin 16), cvOk x a = true → a.mayWrite m (0x60 + x) 0x44 (16 * e + 1) 0xFFFFFFFF = true →
      a.cvState x = 1 → angleKind (a.rd (CBC_ENT_CFG_KIND x e)) (a.rd (CBC_ENT_CFG_LEN x e)) = true →
      ∃ b, exec (.convCtrlStart t m x e) s = .next b ∧ b.cvState x = 2 ∧ b.rd (CBC_CONV_STAT_ENTRY x) = e.val ∧
        (b.cv x).win = (a.cv x).win) ∧
    (∀ (m : Master) (e : Fin 16), cvOk x a = true → a.mayWrite m (0x60 + x) 0x44 (16 * e + 1) 0xFFFFFFFF = true →
      2 ≤ a.cvState x → a.on (CBC_CONV_STAT_PEND x) = false → a.ranAfter x a.tb 4 = none →
      ∃ b, exec (.convCtrlStart t m x e) s = .next b ∧ b.cvState x = a.cvState x ∧ b.rd (CBC_CONV_STAT_PEND x) = 1 ∧
        b.rd (CBC_CONV_STAT_PEND_ENTRY x) = e.val ∧ (b.cv x).win = (a.cv x).win ∧ (b.cv x).left = (a.cv x).left) ∧
    (∀ (m : Master) (e : Fin 16), cvOk x a = true → a.mayWrite m (0x60 + x) 0x44 (16 * e + 1) 0xFFFFFFFF = true →
      2 ≤ a.cvState x → a.on (CBC_CONV_STAT_PEND x) = true → a.ranAfter x a.tb 4 = none → (a.cv x).pendAt.1 ≠ cvCycle a.tb →
      ∃ b, exec (.convCtrlStart t m x e) s = .next b ∧ b.cvState x = a.cvState x ∧
        b.rd (CBC_CNT0_START_DROP x) = satN 8 (a.rd (CBC_CNT0_START_DROP x) + 1) ∧ b.rd (CBC_CONV_STAT_PEND_ENTRY x) = a.rd (CBC_CONV_STAT_PEND_ENTRY x) ∧
        bit (b.rd (PG_IFLAG_FLAG (0x60 + x))) 4 = true ∧ b.cv x = a.cv x) ∧
    (∀ (m : Master) (e : Fin 16) (r : RunO), cvOk x a = true → a.mayWrite m (0x60 + x) 0x44 (16 * e + 1) 0xFFFFFFFF = true →
      a.cvState x = 3 → (a.cv x).ran = some r → r.cyc = cvCycle a.tb → r.rank = 5 →
      angleKind (a.rd (CBC_ENT_CFG_KIND x e)) (a.rd (CBC_ENT_CFG_LEN x e)) = false →
      ∃ b, exec (.convCtrlStart t m x e) s = .next b ∧ b.cvState x = 3 ∧ b.rd (CBC_CONV_STAT_ENTRY x) = e.val ∧
        (b.cv x).win.map WinO.t0 = some a.tb ∧ (b.cv x).win.map WinO.e = some e.val ∧ (b.cv x).urgent = false ∧
        b.rd (CBC_CNT0_URG_DROP x) = satN 8 (a.rd (CBC_CNT0_URG_DROP x) + 1)) ∧
    (∀ (m : Master) (e : Fin 16), cvOk x a = true → a.mayWrite m (0x60 + x) 0x44 (16 * e + 2) 0xFFFFFFFF = true →
      a.cvState x = 1 → a.rd (CBC_ENT_CFG_KIND x e) ≤ 1 →
      ∃ b, exec (.convUrgent t m x e) s = .next b ∧ b.cvState x = 3 ∧ b.rd (CBC_CONV_STAT_ENTRY x) = e.val ∧
        (b.cv x).win.map WinO.t0 = some a.tb ∧ (b.cv x).urgent = true ∧ (b.cv x).left = some 1) ∧
    (∀ (m : Master) (e : Fin 16), cvOk x a = true → a.mayWrite m (0x60 + x) 0x44 (16 * e + 2) 0xFFFFFFFF = true →
      (2 ≤ a.cvState x ∨ (a.cvState x = 1 ∧ 2 ≤ a.rd (CBC_ENT_CFG_KIND x e))) →
      ∃ b, exec (.convUrgent t m x e) s = .next b ∧ b.cvState x = a.cvState x ∧
        b.rd (CBC_CNT0_URG_DROP x) = satN 8 (a.rd (CBC_CNT0_URG_DROP x) + 1) ∧ bit (b.rd (PG_IFLAG_FLAG (0x60 + x))) 3 = true ∧ b.cv x = a.cv x) ∧
    (∀ (m : Master) (w : WinO), cvOk x a = true → a.mayWrite m (0x60 + x) 0x44 4 4 = true → a.cvState x = 3 →
      (a.cv x).win = some w → a.on (CBC_CONV_CFG_MODE x) = false → a.on (CBC_CONV_STAT_PEND x) = false →
      ∃ b, exec (.convStop t m x) s = .next b ∧ b.cvState x = 1 ∧ (b.cv x).win = none ∧
        ((b.cv x).closed.getLast?.map fun k => (k.e, k.t1, k.len, k.cause)) = some (w.e, a.tb, a.tb - w.t0, 2)) ∧
    (cvOk x a = true → (64 + x.val) ∈ a.rtr.destPending → a.cvState x = 1 →
      angleKind (a.rd (CBC_ENT_CFG_KIND x (a.rd (CBC_CONV_CFG_RTR_ENTRY x)))) (a.rd (CBC_ENT_CFG_LEN x (a.rd (CBC_CONV_CFG_RTR_ENTRY x)))) = false →
      ∃ b, exec (.convRouterStart t x) s = .next b ∧ b.cvState x = 3 ∧ b.rd (CBC_CONV_STAT_ENTRY x) = (a.rd (CBC_CONV_CFG_RTR_ENTRY x)) ∧
        (b.cv x).win.map WinO.t0 = some a.tb ∧ (b.cv x).win.map WinO.e = some (a.rd (CBC_CONV_CFG_RTR_ENTRY x)) ∧
        b.rtr.destPending = a.rtr.destPending.erase (64 + x.val)) ∧
    (cvOk x a = true → (64 + x.val) ∈ a.rtr.destPending → 2 ≤ a.cvState x → a.on (CBC_CONV_STAT_PEND x) = false →
      a.ranAfter x a.tb 3 = none →
      ∃ b, exec (.convRouterStart t x) s = .next b ∧ b.cvState x = a.cvState x ∧ b.rd (CBC_CONV_STAT_PEND x) = 1 ∧
        b.rd (CBC_CONV_STAT_PEND_ENTRY x) = (a.rd (CBC_CONV_CFG_RTR_ENTRY x)) ∧ (b.cv x).win = (a.cv x).win ∧ b.rtr.destPending = a.rtr.destPending.erase (64 + x.val)) ∧
    (cvOk x a = true → (64 + x.val) ∈ a.rtr.destPending → 2 ≤ a.cvState x → a.on (CBC_CONV_STAT_PEND x) = true →
      a.ranAfter x a.tb 3 = none → (a.cv x).pendAt = (cvCycle a.tb, 4) →
      ∃ b, exec (.convRouterStart t x) s = .next b ∧ b.cvState x = a.cvState x ∧ b.rd (CBC_CONV_STAT_PEND x) = 1 ∧
        b.rd (CBC_CONV_STAT_PEND_ENTRY x) = (a.rd (CBC_CONV_CFG_RTR_ENTRY x)) ∧ b.rd (CBC_CNT0_START_DROP x) = satN 8 (a.rd (CBC_CNT0_START_DROP x) + 1) ∧
        b.rtr.destPending = a.rtr.destPending.erase (64 + x.val)) ∧
    (cvOk x a = true → (96 + x.val) ∈ a.rtr.destPending → a.cvState x = 1 →
      a.rd (CBC_ENT_CFG_KIND x (a.rd (CBC_CONV_CTRL_ENTRY x))) ≤ 1 →
      ∃ b, exec (.convRouterUrgent t x) s = .next b ∧ b.cvState x = 3 ∧ b.rd (CBC_CONV_STAT_ENTRY x) = (a.rd (CBC_CONV_CTRL_ENTRY x)) ∧
        (b.cv x).win.map WinO.t0 = some a.tb ∧ (b.cv x).urgent = true ∧ (b.cv x).left = some 1 ∧
        b.rtr.destPending = a.rtr.destPending.erase (96 + x.val)) ∧
    (cvOk x a = true → (96 + x.val) ∈ a.rtr.destPending →
      (2 ≤ a.cvState x ∨ (a.cvState x = 1 ∧ 2 ≤ a.rd (CBC_ENT_CFG_KIND x (a.rd (CBC_CONV_CTRL_ENTRY x))))) →
      ∃ b, exec (.convRouterUrgent t x) s = .next b ∧ b.cvState x = a.cvState x ∧
        b.rd (CBC_CNT0_URG_DROP x) = satN 8 (a.rd (CBC_CNT0_URG_DROP x) + 1) ∧ bit (b.rd (PG_IFLAG_FLAG (0x60 + x))) 3 = true ∧ b.cv x = a.cv x ∧
        b.rtr.destPending = a.rtr.destPending.erase (96 + x.val))

/-- CONV_BOUNDARY, CONV_WINDOW_TIME_END, CONV_WINDOW_LONG, CONV_RESULT and RESULT_READ (R296 to R306). -/
def Obligations.ConverterWindows : Prop :=
  ∀ (s a : State) (t : Nat) (x : Conv), a = s.advance t → State.corn 2 a = true →
    (∀ (n : Bnd) (r : List Bnd), (a.cv x).bnds = n :: r → n.t + 20 ≤ a.tb → a.cvState x = 2 → n.start = none → n.stop = false →
      ∃ b, exec (.convBoundary t x) s = .next b ∧ b.cvState x = 3 ∧ (b.cv x).bnds = r ∧ (b.cv x).win.map WinO.t0 = some (n.t + 20)) ∧
    (∀ (n : Bnd) (r : List Bnd) (w : WinO), (a.cv x).bnds = n :: r → n.t + 20 ≤ a.tb → a.cvState x = 3 →
      (a.cv x).angled = true → (a.cv x).win = some w → n.start = none → n.stop = false →
      ((a.cv x).left.map fun l => decide (l ≤ 1)) ≠ some true → a.on (CBC_BAND_TAP_EN x) = false →
      ∃ b, exec (.convBoundary t x) s = .next b ∧ b.cvState x = 3 ∧ (b.cv x).bnds = r ∧ (b.cv x).win.map WinO.t0 = some (n.t + 20) ∧
        ((b.cv x).closed.getLast?.map fun k => (k.e, k.t1, k.len, k.bidx)) = some (w.e, n.t + 20, n.t + 20 - w.t0, n.idx)) ∧
    (∀ (w : WinO) (n : Nat), cvOk x a = true → (a.cv x).win = some w → w.len = some n → w.t0 + n ≤ a.tb →
      ∃ b, exec (.convWindowTimeEnd t x) s = .next b ∧
        ((b.cv x).closed.getLast?.map fun k => (k.e, k.t1, k.len, k.bidx)) = some (w.e, w.t0 + n, n, 0xFFF)) ∧
    (∀ (w : WinO), cvOk x a = true → (a.cv x).win = some w → w.len = none → w.merged = false → w.late = false →
      w.t0 + 400 * max 1 (a.rd (CBC_ANG_LIM_MAX x)) ≤ a.tb →
      ∃ b, exec (.convWindowLong t x) s = .next b ∧
        ((b.cv x).closed.getLast?.map fun k => (k.e, k.t1, k.cause, k.bidx)) = some (w.e, w.t0 + 400 * max 1 (a.rd (CBC_ANG_LIM_MAX x)), 6, 0xFFF)) ∧
    (∀ (raw : Int) (w : WinC) (r : List WinC), cvOk x a = true → (a.cv x).closed = w :: r → w.e < 16 → w.filt = 0 →
      w.band = false → w.len ≠ 0 → w.cause = 0 → w.settle = 0 →
      let v := clampS 24 (divNear ((raw - ((a.cv x).trimOf w.gain).1) * ((a.cv x).trimOf w.gain).2) 32768)
      ∃ b, exec (.convResult t x raw false) s = .next b ∧ b.rd (CBC_RESULT_W x w.e) = (w.e * 2 ^ 27 + 2 ^ 24 + ofS 24 v) % 2 ^ 32 ∧
        b.rd (CBC_RES_INFO_W x w.e) = (w.bidx * 2 ^ 16 + satN 16 (w.len / 40)) % 2 ^ 32 ∧ (b.cv x).closed = r ∧
        b.cmuIn.length = a.cmuIn.length + b2n w.cmu) ∧
    (∀ (m : Master) (e : Fin 16), a.mayRead m (0x60 + x) (0x200 + 4 * e) = true → a.on (PG_CTRL_FREEZE (0x60 + x)) = false →
      ∃ b, exec (.resultRead t m x e) s = .next b ∧ b.regs = a.regs ∧ tget 0 (b.cv x).seen (16 * e.val + m.val) = 1 ∧
        tget none (b.cv x).info (16 * e.val + m.val) = some (a.rd (CBC_RES_INFO_W x e)) ∧ (b.cv x).got = (a.cv x).got)

/-- VREF_ENABLE, VREF_WARM, VREF_OK_CHANGE, MAINS_EDGE, MAINS_TIMEOUT, CAL_REQ, CAL_START, CAL_END and CAL_ABORT (R289, R290, R308, R318). -/
def Obligations.ReferenceMainsCalibration : Prop :=
  ∀ (s a : State) (t : Nat), a = s.advance t → State.corn 2 a = true →
    (∀ (m : Master), a.mayWrite m 0x60 0xF0 1 0xFFFFFFFF = true → a.on (CBC_VREF_CTRL_EN 0) = false →
      ∃ b, exec (.vrefEnable t m true) s = .next b ∧ b.rd (CBC_VREF_CTRL_EN 0) = 1 ∧ b.rd (CBC_VREF_STAT_ON 0) = 1 ∧ b.pwr.vrefSince = a.tb) ∧
    (∀ (m : Master), a.mayWrite m 0x60 0xF0 0 0xFFFFFFFF = true →
      ∃ b, exec (.vrefEnable t m false) s = .next b ∧ b.rd (CBC_VREF_CTRL_EN 0) = 0 ∧ b.rd (CBC_VREF_STAT_ON 0) = 0 ∧ b.rd (CBC_VREF_STAT_WARM 0) = 0) ∧
    (a.on (CBC_VREF_CTRL_EN 0) = true → a.on (CBC_VREF_STAT_WARM 0) = false → a.pwr.vrefSince + 800000 ≤ a.tb →
      ∃ b, exec (.vrefWarm t) s = .next b ∧ b.rd (CBC_VREF_STAT_WARM 0) = 1 ∧ bit (b.rd (PG_IFLAG_FLAG 0x60)) 9 = true ∧
        b.rd (CBC_VREF_CTRL_EN 0) = 1 ∧ b.conv = a.conv) ∧
    (∀ (ok : Bool), a.on (CBC_VREF_STAT_OK 0) ≠ ok →
      ∃ b, exec (.vrefOkChange t ok) s = .next b ∧ b.on (CBC_VREF_STAT_OK 0) = ok ∧ ∀ n : Comp, (b.cmp n).lvl = false ∧ (b.cmp n).unres = true) ∧
    (∀ (l : Nat), a.on (CBC_MAINS_CFG_EN 0) = true → a.mains.last = some l → 5000000 ≤ a.tb - l → a.tb - l ≤ 10000000 →
      3 ≤ a.mains.per.length →
      ∃ b, exec (.mainsEdge t) s = .next b ∧ b.rd (CBC_MAINS_STAT_PRESENT 0) = 1 ∧ b.mains.last = some a.tb ∧
        b.mains.per = (a.tb - l) :: a.mains.per.take 3 ∧ b.rd (CBC_MAINS_STAT_PERIOD 0) = (divNear ((b.mains.per.sum : Nat) : Int) 20).toNat % 2 ^ 24) ∧
    (∀ (l : Nat), a.on (CBC_MAINS_CFG_EN 0) = true → a.mains.last = some l → (a.tb - l < 5000000 ∨ 10000000 < a.tb - l) →
      ∃ b, exec (.mainsEdge t) s = .next b ∧ b.rd (CBC_MAINS_STAT_PRESENT 0) = 0 ∧ b.mains.last = some a.tb ∧
        b.mains.per = [] ∧ b.rd (CBC_MAINS_STAT_PERIOD 0) = (if a.on (CBC_MAINS_CFG_NOM 0) then 1333333 else 1600000)) ∧
    (∀ (l : Nat), a.on (CBC_MAINS_CFG_EN 0) = true → a.mains.last = some l → l + 20000000 ≤ a.tb →
      ∃ b, exec (.mainsTimeout t) s = .next b ∧ b.rd (CBC_MAINS_STAT_PRESENT 0) = 0 ∧ b.mains.last = none ∧ b.mains.per = [] ∧
        b.rd (CBC_MAINS_STAT_PERIOD 0) = (if a.on (CBC_MAINS_CFG_NOM 0) then 1333333 else 1600000)) ∧
    (∀ (x : Conv) (m : Master) (p : Bool), a.mayWrite m (0x60 + x) 0x60 (2 ^ 31 + 256 * b2n p) (2 ^ 31 + 256) = true →
      a.runs (calTask x) = false → a.waits (calTask x) = false → a.maint.run.any (a.blocks (calTask x)) = false →
      a.maint.wait.any (a.blocks (calTask x)) = false →
      ∃ b, exec (.calReq t m x p) s = .next b ∧ b.rd (CBC_CAL_STAT_RESULT x) = 1 ∧ b.runs (calTask x) = true ∧
        b.on (CBC_CAL_CTRL_PREEMPT x) = p ∧ b.cvState x = a.cvState x) ∧
    (∀ (x : Conv) (m : Master) (p : Bool), a.mayWrite m (0x60 + x) 0x60 (2 ^ 31 + 256 * b2n p) (2 ^ 31 + 256) = true →
      a.runs (calTask x) = false → a.waits (calTask x) = false →
      (a.maint.run.any (a.blocks (calTask x)) = true ∨ a.maint.wait.any (a.blocks (calTask x)) = true) →
      ∃ b, exec (.calReq t m x p) s = .next b ∧ b.rd (CBC_CAL_STAT_RESULT x) = 2 ∧ b.waits (calTask x) = true ∧ b.runs (calTask x) = false ∧
        b.cvState x = a.cvState x) ∧
    (∀ (x : Conv), cvOk x a = true → a.runs (calTask x) = true → (a.cv x).calFrom = none →
      (a.cvState x = 1 ∨ a.on (CBC_CAL_CTRL_PREEMPT x) = true ∧ (a.cvState x = 2 ∨ a.cvState x = 3)) →
      ∃ b, exec (.calStart t x) s = .next b ∧ b.cvState x = 4 ∧ b.rd (CBC_CAL_STAT_RESULT x) = 1 ∧ (b.cv x).calFrom = some a.tb ∧ ((a.cv x).win ≠ none → (b.cv x).win = none)) ∧
    (∀ (x : Conv) (f : Nat) (raws : List (Int × Int)), cvOk x a = true → (a.cv x).calFrom = some f → f + 2120000 ≤ a.tb →
      a.cvState x = 4 → a.calBad x raws = none →
      ∃ b, exec (.calEnd t x raws) s = .next b ∧ b.rd (CBC_CAL_STAT_RESULT x) = 3 ∧
        b.rd (CBC_CAL_STAT_COUNT x) = satN 8 (a.rd (CBC_CAL_STAT_COUNT x) + 1) ∧ (b.cv x).calFrom = none ∧ bit (b.rd (PG_IFLAG_FLAG (0x60 + x))) 7 = true ∧
        ∀ g < 5, (b.cv x).trimOf g = ((raws.getD g (0, 0)).1, (calGain (raws.getD g (0, 0)).1 (raws.getD g (0, 0)).2).toNat)) ∧
    (∀ (x : Conv) (f g : Nat) (raws : List (Int × Int)), cvOk x a = true → (a.cv x).calFrom = some f → f + 2120000 ≤ a.tb →
      a.cvState x = 4 → a.calBad x raws = some g →
      ∃ b, exec (.calEnd t x raws) s = .next b ∧ b.rd (CBC_CAL_STAT_RESULT x) = 4 ∧ (b.cv x).calFrom = none ∧ (b.cv x).trim = (a.cv x).trim ∧
        bit (b.rd (PG_IFLAG_FLAG (0x60 + x))) 7 = true) ∧
    (∀ (x : Conv) (m : Master), a.mayWrite m (0x60 + x) 0x60 (2 ^ 30) (2 ^ 30) = true →
      (a.runs (calTask x) = true ∨ a.waits (calTask x) = true) →
      ∃ b, exec (.calAbort t m x) s = .next b ∧ b.rd (CBC_CAL_STAT_RESULT x) = 5 ∧ (b.cv x).calFrom = none ∧ b.runs (calTask x) = false ∧ b.waits (calTask x) = false)

/-- CMP_ENABLE, CMP_REF_WRITE, CMP_LEVEL_CHANGE, CMP_SAMPLE_WINDOW_END, CLEAN_CROSSING, ST_REQ, CMP_SELFTEST_STEP, ST_ABORT (R314 to R324). -/
def Obligations.Comparators : Prop :=
  ∀ (s a : State) (t : Nat), a = s.advance t → State.core 2 a = true → a.tbOn = true →
    (∀ (m : Master) (n : Comp) (v : Word) (i : Bool), a.mayWrite m 0x80 (0x100 + 0x10 * n) v.toNat 0xFFFFFFFF = true →
      a.cmpOwned n = false → a.on (CMP_CMP_CFG_EN n) = false → bit v.toNat 31 = true →
      ∃ b, exec (.cmpEnable t m n v i) s = .next b ∧ b.rd (CMP_CMP_CFG_EN n) = 1 ∧ (b.cmp n).lvl = false ∧ (b.cmp n).raw = false ∧
        (b.cmp n).unres = i ∧ (b.cmp n).win = none) ∧
    (∀ (m : Master) (n : Comp) (v : Word), a.mayWrite m 0x80 (0x104 + 0x10 * n) v.toNat 0xFFFFFFFF = true →
      a.cmpOwned n = false →
      ∃ b, exec (.cmpRefWrite t m n v) s = .next b ∧ b.rd (CMP_CMP_REF_REF n) = v.toNat % 1024 ∧ (b.cmp n).settle = a.tb + 100 ∧ (b.cmp n).lvl = (a.cmp n).lvl) ∧
    (∀ (m : Master) (n : Comp) (v : Word), a.mayWrite m 0x80 (0x104 + 0x10 * n) v.toNat 0xFFFFFFFF = true →
      a.cmpOwned n = true →
      exec (.cmpRefWrite t m n v) s = .next (a.keep (a.counted m 0x80))) ∧
    (∀ (n : Comp), a.cmpLive n = true → a.cmpSampled n = false → (a.cmp n).lvl = false →
      ∃ b, exec (.cmpLevelChange t n true) s = .next b ∧ (b.cmp n).lvl = true ∧ (b.cmp n).unres = false ∧ b.cmpLatch n = true ∧
        b.rd (CMP_CMP_AUX_SETS n) = satN 16 (a.rd (CMP_CMP_AUX_SETS n) + 1) ∧ bit (b.rd (PG_IFLAG_FLAG 0x80)) 0 = true) ∧
    (∀ (n : Comp), a.cmpLive n = true → a.cmpSampled n = false →
      ∃ b, exec (.cmpLevelChange t n false) s = .next b ∧ (b.cmp n).lvl = false ∧ (b.cmp n).unres = false ∧ b.regs = a.regs) ∧
    (∀ (n : Comp) (lvl : Bool) (f : Nat), a.cmpLive n = true → (a.cmp n).win = some f → f + 800 ≤ a.tb →
      ∃ b, exec (.cmpSampleWindowEnd t n lvl) s = .next b ∧ (b.cmp n).lvl = lvl ∧ (b.cmp n).win = none ∧ (b.cmp n).raw = lvl) ∧
    (∀ (n : Comp) (act : Bool), a.cmpRuns n = true → a.on (CBC_VREF_STAT_OK 0) = true → (a.cmp n).unres = true →
      ∃ b, exec (.cleanCrossing t n act) s = .next b ∧ (b.cmp n).unres = false ∧ (b.cmp n).raw = act ∧ (b.cmp n).lvl = (a.cmp n).lvl ∧ b.regs = a.regs) ∧
    (∀ (m : Master), a.mayWrite m 0x80 0x50 0x80000000 0x80000000 = true → a.runs cmpTask = false → a.waits cmpTask = false →
      (a.taskReq cmpTask).runs cmpTask = false →
      ∃ b, exec (.cmpStReq t m) s = .next b ∧ b.rd CMP_ST_STAT_RESULT = 2 ∧ b.waits cmpTask = true ∧ b.cmpTest = a.cmpTest) ∧
    (∀ (m : Master), a.mayWrite m 0x80 0x50 0x80000000 0x80000000 = true → a.runs cmpTask = false → a.waits cmpTask = false →
      (a.taskReq cmpTask).runs cmpTask = true →
      let u := (a.counted m 0x80).taskReq cmpTask
      exec (.cmpStReq t m) s = .next (a.keep ((u.wr CMP_ST_STAT_RESULT 1).cmpNext { queue := (List.range 48).filter u.cmpSel }))) ∧
    (∀ (x : CmpTest) (n : Comp) (raw : Bool), a.cmpTest = some x → x.cur = some n.val → x.since + 400 ≤ a.tb → x.step < 4 →
      a.cmpCheck n x.step raw = true →
      ∃ b, exec (.cmpSelftestStep t raw) s = .next b ∧ b.regs = a.regs ∧ b.cmpTest = some { x with step := x.step + 1, since := x.since + 400 }) ∧
    (∀ (x : CmpTest) (n : Comp) (raw : Bool), a.cmpTest = some x → x.cur = some n.val → x.since + 400 ≤ a.tb → x.step < 4 →
      a.cmpCheck n x.step raw = false → x.bad = false → a.cmpOwned n = false →
      ∃ b, exec (.cmpSelftestStep t raw) s = .next b ∧ b.cmpFailed n = true ∧ b.rd CMP_ST_STAT_LAST_FAIL = n.val ∧ (b.cmp n).lvl = false ∧
        bit (b.rd (PG_IFLAG_FLAG 0x80)) 2 = true ∧ b.cmpTest = some { x with step := x.step + 1, since := x.since + 400, bad := true, anyBad := true }) ∧
    (∀ (m : Master), a.mayWrite m 0x80 0x50 0x40000000 0x40000000 = true → (a.runs cmpTask = true ∨ a.waits cmpTask = true) →
      ∃ b, exec (.cmpStAbort t m) s = .next b ∧ b.cmpTest = none ∧ b.rd CMP_ST_STAT_RESULT = 5 ∧ b.runs cmpTask = false ∧ b.waits cmpTask = false)

/-- CYL_ENABLE, CMU_SAMPLE, PEG_OPEN, PEG_CLOSE, CLOSE, CMU_RECORD_READY, CMU_RECORD_POST, RC_REQ, RECOMPUTE_DONE (R328 to R348). -/
def Obligations.CylinderRecords : Prop :=
  ∀ (s a : State) (t : Nat) (k : Cyl), a = s.advance t → State.corn 2 a = true →
    (∀ (m : Master), a.mayWrite m (cylPage k) 8 1 1 = true → a.cylOn k = false → a.cylCheck k = 0 →
      ∃ b, exec (.cylEnable t m k) s = .next b ∧ b.cylOn k = true ∧ bits (b.rd (PG_STAT_BLK (cylPage k))) 0 4 = 0 ∧ (b.cyl k).open_ = none ∧
        (b.cyl k).next = none ∧ b.rd (loopI false k) = a.loopWord false k ∧ b.rd (loopI true k) = a.loopWord true k) ∧
    (∀ (m : Master), a.mayWrite m (cylPage k) 8 1 1 = true → a.cylOn k = false → a.cylCheck k ≠ 0 →
      ∃ b, exec (.cylEnable t m k) s = .next b ∧ b.cylOn k = false ∧ bits (b.rd (PG_STAT_BLK (cylPage k))) 0 4 = a.cylCheck k ∧ b.cyl k = a.cyl k) ∧
    (∀ (it : CmuIn) (u : State) (n q p : Nat), u = a.macSettle.cmuAbsorb →
      (u.cmuIn.find? fun y => u.cylOf y == some k.val) = some it → n = u.cylN k → it.bidx ≠ 0xFFF → it.bidx < n →
      q = (u.rd (CYL_WIN_B0 k) + it.bidx + n - 1) % n → p = (q + 3 * (n / 4)) % n → u.grantable 60 8 = true →
      (u.cyl k).open_ = none → p ≠ n - 1 →
      ∃ b, exec (.cmuSample t k) s = .next b ∧
        (b.cyl k).open_.map CylRec.smps = some [{ o := p, v := it.v, valid := it.valid, settle := it.settle, cause := it.cause, t := it.t }] ∧
        (b.cyl k).open_.map CylRec.inc = some (u.cyl k).next.isNone ∧ b.rd CMU_CNT_STRAY = a.rd CMU_CNT_STRAY) ∧
    (∀ (it : CmuIn) (u : State) (n q p : Nat) (r : CylRec) (y : Smp) (l : List Smp), u = a.macSettle.cmuAbsorb →
      (u.cmuIn.find? fun y => u.cylOf y == some k.val) = some it → n = u.cylN k → it.bidx ≠ 0xFFF → it.bidx < n →
      q = (u.rd (CYL_WIN_B0 k) + it.bidx + n - 1) % n → p = (q + 3 * (n / 4)) % n → u.grantable 60 8 = true →
      (u.cyl k).open_ = some r → r.smps = y :: l → y.o < p → p ≠ n - 1 →
      ∃ b, exec (.cmuSample t k) s = .next b ∧
        (b.cyl k).open_.map CylRec.smps = some ({ o := p, v := it.v, valid := it.valid, settle := it.settle, cause := it.cause, t := it.t } :: r.smps) ∧
        (b.cyl k).open_.map CylRec.n = some r.n ∧ b.rd CMU_CNT_STRAY = a.rd CMU_CNT_STRAY) ∧
    (∀ (it : CmuIn) (u : State) (n : Nat), u = a.macSettle.cmuAbsorb →
      (u.cmuIn.find? fun y => u.cylOf y == some k.val) = some it → n = u.cylN k → (it.bidx = 0xFFF ∨ n ≤ it.bidx) →
      u.grantable 60 8 = true →
      ∃ b, exec (.cmuSample t k) s = .next b ∧ b.rd CMU_CNT_STRAY = satN CMU_CNT_STRAY.w (a.rd CMU_CNT_STRAY + 1) ∧
        bit (b.rd (PG_IFLAG_FLAG 0x88)) 3 = true ∧ (b.cyl k).next = (u.cyl k).next ∧ (b.cyl k).buf = (u.cyl k).buf) ∧
    (∀ (it : CmuIn) (u : State), u = a.macSettle.cmuAbsorb → (u.cmuIn.find? fun y => u.cylOf y == some k.val) = some it →
      u.grantable 60 8 = false →
      ∃ b, exec (.cmuSample t k) s = .next b ∧ b.cmuIn = u.cmuIn ∧ b.cyls = u.cyls ∧ b.cmu = u.cmu) ∧
    (∀ (f : Nat) (can : Bool) (r : List (Nat × Nat × Bool)), (a.cyl k).marks = (0, f, can) :: r →
      ∃ b, exec (.pegOpen t k) s = .next b ∧ b.cyl k = { a.cyl k with marks := r, pegOpen := some f, pegBad := can } ∧ b.regs = a.regs) ∧
    (∀ (u : State) (f : Nat) (can : Bool) (r : List (Nat × Nat × Bool)), u = a.cmuAbsorb → (u.cyl k).marks = (1, f, can) :: r →
      (can = true ∨ (u.cyl k).pegBad = true) →
      ∃ b, exec (.pegClose t k) s = .next b ∧ (b.cyl k).pegOpen = none ∧ (b.cyl k).marks = r ∧ (b.cyl k).open_.map CylRec.peg = (u.cyl k).open_.map (fun _ => PegR.failed) ∧
        bit (b.rd (PG_IFLAG_FLAG (cylPage k))) 6 = true ∧ b.rd (CYL_PEG_OFS_W k) = a.rd (CYL_PEG_OFS_W k)) ∧
    (∀ (u : State) (f f0 : Nat) (r : List (Nat × Nat × Bool)) (v : Int) (ms ps : List Int), u = a.cmuAbsorb →
      (u.cyl k).marks = (1, f, false) :: r → (u.cyl k).pegBad = false → (u.cyl k).pegOpen = some f0 →
      ms = (u.cmu.map.filter fun e => decide (f0 < e.1) && decide (e.1 ≤ f)).map (·.2) → ps = u.pegSamples k f0 f → ms ≠ [] →
      ps ≠ [] →
      roundDiv (((ms.map fun y => (y - toS 24 (u.rd CMU_MAP_ZERO_ZERO)) * (u.rd CMU_MAP_SCALE_SCALE : Int)).sum) * ps.length - ps.sum * ms.length) (ms.length * ps.length * 2 ^ 8 : Int) = some v →
      -(2 ^ 31 : Int) ≤ v → v < 2 ^ 31 →
      ∃ b, exec (.pegClose t k) s = .next b ∧ b.rd (CYL_PEG_OFS_W k) = ofS 32 v ∧ (b.cyl k).pegAge = 0 ∧ (b.cyl k).pegOpen = none ∧
        (b.cyl k).open_.map CylRec.peg = (u.cyl k).open_.map (fun _ => PegR.ok) ∧ (b.cyl k).open_.map CylRec.ofs = (u.cyl k).open_.map (fun _ => v)) ∧
    (∀ (u : State) (f : Nat) (can : Bool) (r : List (Nat × Nat × Bool)) (d : CylRec) (y : Smp) (l : List Smp),
      u = a.cmuAbsorb → (u.cyl k).marks = (2, f, can) :: r → (u.cyl k).open_ = some d → d.smps = y :: l →
      ∃ b, exec (.cmuClose t k) s = .next b ∧ (b.cyl k).open_ = none ∧ (b.cyl k).marks = r ∧ (b.cyl k).next = some ((y.o + 1) % a.cylN k) ∧
        (b.cyl k).last.map CylRec.last = some y.o ∧ (b.cyl k).last.map CylRec.n = some d.n ∧ (b.cyl k).lastClose = some u.tb ∧
        b.cmu.closeQ.map Prod.fst = u.cmu.closeQ.map Prod.fst ++ [k.val]) ∧
    (∀ (d : CylRec) (r : List (Nat × CylRec)) (u v : State) (y : CylMet), v = a.macSettle → v.cmu.closeQ = (k.val, d) :: r →
      v.cmu.left.headD 0 = 0 → u = State.cylPost { v with cmu := { v.cmu with closeQ := r, left := v.cmu.left.tail } } k →
      y = (u.metrics k d d.scale d.gamma d.hrMin).1 →
      ∃ b, exec (.cmuRecordReady t k) s = .next b ∧ b.cmu.closeQ = r ∧ b.rd (CYL_STATUS_CYC k) = d.cyc % 2 ^ 16 ∧
        b.rd (CYL_IMEP_N_W k) = y.impN % 2 ^ 32 ∧ b.rd (CYL_IMEP_G_W k) = y.impG % 2 ^ 32 ∧ b.rd (CYL_PMAX_W k) = y.pmax % 2 ^ 32 ∧
        b.rd (CYL_MFB50_W k) = y.mfb50 % 2 ^ 32 ∧ b.rd (CYL_HR_TOT_W k) = y.hr % 2 ^ 32 ∧ b.rd (CYL_STATUS_INCOMPLETE k) = b2n d.inc ∧
        b.rd (CYL_STATUS_MISFIRE k) = b2n y.misfire ∧ bit (b.rd (PG_IFLAG_FLAG (cylPage k))) 0 = true) ∧
    (∀ (f w x n : Nat) (r : List Nat), (a.cyl k).post = some (f, w :: r) → a.postDue k = true → x = a.rd CMU_CMU_CFG_PORT →
      n = a.rd CMU_CMU_CFG_QUEUE → a.mbqFits x n (1 + r.length) = true →
      let ws := putBit w 15 (a.on (CYL_STATUS_RESULT_LATE k)) :: r
      ∃ b, exec (.cmuRecordPost t k) s = .next b ∧ (b.cyl k).post = none ∧ b.mem = (a.mbqStore x n ws).mem ∧
        b.rd (HOST_MBQ_PTR_TAIL x n) = (a.rd (HOST_MBQ_PTR_TAIL x n) + 1 + r.length) % 2 ^ 16 ∧ b.rd (HOST_MBQ_STAT_DROP x n) = a.rd (HOST_MBQ_STAT_DROP x n)) ∧
    (∀ (f w x n : Nat) (r : List Nat), (a.cyl k).post = some (f, w :: r) → a.postDue k = true → x = a.rd CMU_CMU_CFG_PORT →
      n = a.rd CMU_CMU_CFG_QUEUE → a.mbqFits x n (1 + r.length) = false →
      ∃ b, exec (.cmuRecordPost t k) s = .next b ∧ (b.cyl k).post = none ∧ b.mem = a.mem ∧
        b.rd (HOST_MBQ_STAT_DROP x n) = satN (HOST_MBQ_STAT_DROP x n).w (a.rd (HOST_MBQ_STAT_DROP x n) + 1) ∧ bit (b.rd (PG_IFLAG_FLAG (8 + x))) 3 = true) ∧
    (∀ (m : Master) (d : CylRec) (i : Fin 32), a.mayWrite m 0x88 0x78 (0x80000000 + i) 0xFFFFFFFF = true → i.val < 24 →
      (a.cyl i).last = some d →
      ∃ b, exec (.rcReq t m i) s = .next b ∧ b.cmu.rc = some (i.val, d) ∧ b.rd CMU_RC_STAT_RESULT = 1) ∧
    (∀ (m : Master) (i : Fin 32), a.mayWrite m 0x88 0x78 (0x80000000 + i) 0xFFFFFFFF = true →
      (24 ≤ i.val ∨ (a.cyl i).last = none) →
      ∃ b, exec (.rcReq t m i) s = .next b ∧ b.cmu.rc = none ∧ b.rd CMU_RC_STAT_RESULT = 4) ∧
    (∀ (d : CylRec) (j : Nat), a.cmu.rc = some (j, d) → a.macSettle.cmu.rcLeft = 0 →
      ((a.cyl j).buf.any fun e => decide (d.n < e.2.1)) = true →
      ∃ b, exec (.recomputeDone t) s = .next b ∧ b.cmu.rc = none ∧ b.rd CMU_RC_STAT_RESULT = 3 ∧ b.mem = a.mem) ∧
    (∀ (d : CylRec) (j : Nat), a.cmu.rc = some (j, d) → a.macSettle.cmu.rcLeft = 0 →
      ((a.cyl j).buf.any fun e => decide (d.n < e.2.1)) = false →
      ∃ b, exec (.recomputeDone t) s = .next b ∧ b.cmu.rc = none ∧ b.rd CMU_RC_STAT_RESULT = 2 ∧ bit (b.rd (PG_IFLAG_FLAG 0x88)) 1 = true ∧
        (a.on CMU_CMU_CFG_REC_EN = false → b.mem = a.mem))

/-- CMU_TRIM_WRITE, LOOP_ENABLE, VOL_DATA_ACCESS, VOL_COMMIT, VOL_TABLE_READY, SBUF_READ and CYL_STATUS_READ (R334 to R349). -/
def Obligations.CylinderLoopsAndTables : Prop :=
  ∀ (s a : State) (t : Nat), a = s.advance t → State.corn 2 a = true →
    (∀ (k : Cyl) (tm : Bool) (q : Trim) (p n : Nat), (a.cyl k).trim tm = some q → q.at_ = .now → a.loopDst tm k = some (p, n) →
      a.paramBusy p = false → a.rd (paramField p n) = a.rd (loopLast tm k) →
      ∃ b, exec (.cmuTrimWrite t k tm) s = .next b ∧ b.rd (paramField p n) = a.rd (loopOut tm k) ∧ b.rd (loopLast tm k) = a.rd (loopOut tm k) ∧
        (b.cyl k).trim tm = none) ∧
    (∀ (k : Cyl) (tm : Bool) (q : Trim) (p n : Nat), (a.cyl k).trim tm = some q → q.at_ = .now → a.loopDst tm k = some (p, n) →
      a.paramBusy p = false → a.rd (paramField p n) ≠ a.rd (loopLast tm k) →
      ∃ b, exec (.cmuTrimWrite t k tm) s = .next b ∧ b.rd (paramField p n) = a.rd (paramField p n) ∧
        b.rd (CYL_LOOP_CNT_DROP k) = satN (CYL_LOOP_CNT_DROP k).w (a.rd (CYL_LOOP_CNT_DROP k) + 1) ∧ (b.cyl k).trim tm = none) ∧
    (∀ (m : Master) (k : Cyl) (v : Word), a.mayWrite m (cylPage k) 0x6C v.toNat 0xFFFFFFFF = true →
      ∃ b, exec (.loopEnable t m k v) s = .next b ∧ b.rd (CYL_LOOP_EN_EN_Q k) = v.toNat % 2 ∧ b.rd (CYL_LOOP_EN_EN_A k) = v.toNat / 2 % 2 ∧
        b.rd (CYL_LOOP_EN_VETO k) = v.toNat / 4 % 2) ∧
    (∀ (m : Master) (v : Word), a.mayWrite m 0x88 0x68 v.toNat 0xFFFFFFFF = true →
      ∃ b, exec (.volDataAccess t m (some v)) s = .next b ∧ b.rd CMU_VOL_CTRL_IDX = (a.rd CMU_VOL_CTRL_IDX + 1) % 2 ^ 11 ∧
        b.cmu.vol = a.cmu.vol ∧ (a.rd CMU_VOL_CTRL_IDX < 1440 → tget 0 b.cmu.shadow (a.rd CMU_VOL_CTRL_IDX) = v.toNat) ∧
        (1440 ≤ a.rd CMU_VOL_CTRL_IDX → b.cmu.shadow = a.cmu.shadow)) ∧
    (∀ (m : Master), a.mayRead m 0x88 0x68 = true →
      ∃ b, exec (.volDataAccess t m none) s = .next b ∧ b.rd CMU_VOL_CTRL_IDX = (a.rd CMU_VOL_CTRL_IDX + 1) % 2 ^ 11 ∧ b.cmu = a.cmu) ∧
    (∀ (m : Master), a.mayWrite m 0x88 0x64 0x80000000 0xFFFFFFFF = true → a.volBad = none → a.rd CMU_VD_VD ≠ 0 →
      ∃ b, exec (.volCommit t m) s = .next b ∧ b.cmu.pend = some a.cmu.shadow ∧ b.rd CMU_VOL_STAT_PENDING = 1 ∧ b.cmu.vol = a.cmu.vol) ∧
    (∀ (m : Master) (i : Nat), a.mayWrite m 0x88 0x64 0x80000000 0xFFFFFFFF = true → a.volBad = some i →
      ∃ b, exec (.volCommit t m) s = .next b ∧ b.rd CMU_VOL_STAT_REFUSED = 1 ∧ b.rd CMU_VOL_STAT_REF_IDX = i % 2 ^ 11 ∧ b.cmu = a.cmu) ∧
    (∀ (v : Tab Nat), a.cmu.pend = some v → a.cmu.closeQ = [] → a.macSettle.cmu.volLeft = 0 →
      ∃ b, exec (.volTableReady t) s = .next b ∧ b.cmu.vol = v ∧ b.cmu.pend = none ∧ b.rd CMU_VOL_STAT_PENDING = 0 ∧ b.rd CMU_VOL_STAT_VALID = 1 ∧
        bit (b.rd (PG_IFLAG_FLAG 0x88)) 0 = true ∧ ∀ k : Cyl, (b.cyl k).open_ = none ∧ (b.cyl k).next = none) ∧
    (∀ (m : Master), a.mayRead m 0x88 0x74 = true →
      ∃ b, exec (.sbufRead t m) s = .next b ∧ b.rd CMU_SBUF_SEL_IDX = (a.rd CMU_SBUF_SEL_IDX + 1) % 2 ^ 11 ∧ b.cyls = a.cyls) ∧
    (∀ (m : Master) (k : Cyl), a.mayRead m (cylPage k) 0x100 = true →
      ∃ b, exec (.cylStatusRead t m k) s = .next b ∧ b.regs = a.regs ∧ tget none (b.cyl k).latch m.val = some (cylLatched.map (a.heldWord (cylPage k))))

/-- ALARM_WRITE, ALARM, GPT_ENABLE, GPT_WRAP, GPT_MATCH, GPT_TRIGGER_RESET, GPT_CMP_WRITE, GPT_CAPTURE, CAPQ_READ, SNAP (R355 to R365). -/
def Obligations.AlarmAndTimers : Prop :=
  ∀ (s a : State) (t : Nat) (n : Gpt), a = s.advance t → State.core 3 a = true → gpOk a = true →
    (∀ (m : Master) (v : Word) (h : Option Nat) (z : State), a.mayWrite m 0xB0 0x4C v.toNat 0xFFFFFFFF = true →
      (a.counted m 0xB0).takeHi m 0xB0 0x4C = (h, z) →
      ∃ b, exec (.alarmWrite t m v) s = .next b ∧ b.rd TB_ALM_LO_T = v.toNat ∧ b.rd TB_TB_STAT_ALM_ARMED = 1 ∧
        b.rd TB_ALM_HI_T = (match h with | some y => y % 2 ^ 32 | none => z.rd TB_ALM_HI_T)) ∧
    (a.on TB_TB_STAT_ALM_ARMED = true → a.alarmAt ≤ a.tb →
      ∃ b, exec (.alarmFire t) s = .next b ∧ b.rd TB_TB_STAT_ALM_ARMED = 0 ∧ bit (b.rd (PG_IFLAG_FLAG 0xB0)) 0 = true ∧
        b.rd TB_ALM_LO_T = a.rd TB_ALM_LO_T ∧ b.rd TB_ALM_HI_T = a.rd TB_ALM_HI_T ∧ b.tb = a.tb) ∧
    ((a.on TB_TB_STAT_ALM_ARMED = false ∨ a.tb < a.alarmAt) →
      ∃ b, exec (.alarmFire t) s = .next b ∧ b.regs = a.regs ∧ b.tb = a.tb) ∧
    (∀ (m : Master) (v : Word), a.mayWrite m 0xB1 (0x100 + 0x20 * n) v.toNat 0xFFFFFFFF = true → a.gpPair n = false →
      a.on (GPT_GPT_CFG_EN n) = false → bit v.toNat 31 = true →
      ∃ b, exec (.gptEnable t m n v) s = .next b ∧ b.rd (GPT_GPT_CFG_EN n) = 1 ∧ (b.gp n).pos = (a.gp n).pos % a.gpLap n ∧ (b.gp n).frac = 0 ∧
        (b.gp n).at_ = a.tb) ∧
    (∀ (m : Master) (v : Word), a.mayWrite m 0xB1 (0x100 + 0x20 * n) v.toNat 0xFFFFFFFF = true → a.gpPair n = false →
      a.on (GPT_GPT_CFG_EN n) = true → bit v.toNat 31 = false →
      ∃ b, exec (.gptEnable t m n v) s = .next b ∧ b.rd (GPT_GPT_CFG_EN n) = 0 ∧ (b.gp n).pos = a.gpCount n) ∧
    (∀ (u : State), u = a.gpSync (a.gpGov n) a.tb → (u.gp n).laps < u.gpLaps n →
      ∃ b, exec (.gptWrap t n) s = .next b ∧ (b.gp n).laps = (u.gp n).laps + 1 ∧ b.rd (GPT_STAT_OVF n) = 1 ∧ b.rd (GPT_STAT_OUTL n) = 0) ∧
    (∀ (u : State) (q : Nat), a.gpGov n = n → u = a.gpSync n a.tb → (u.gp n).forced = false → (u.gp n).tgt = some q →
      q ≤ (u.gp n).pos → q / u.gpLap n ≤ (u.gp n).laps → a.on (GPT_CMP_MODE_ONESHOT n) = false →
      ∃ b, exec (.gptMatch t n) s = .next b ∧ (b.gp n).tgt = some (q + a.gpCmpLap n) ∧ b.rd (GPT_STAT_MATCH n) = 1 ∧ b.rd (GPT_STAT_OUTL n) = 1) ∧
    (∀ (u : State) (q : Nat), a.gpGov n = n → u = a.gpSync n a.tb → (u.gp n).forced = false → (u.gp n).tgt = some q →
      q ≤ (u.gp n).pos → q / u.gpLap n ≤ (u.gp n).laps → a.on (GPT_CMP_MODE_ONESHOT n) = true →
      ∃ b, exec (.gptMatch t n) s = .next b ∧ (b.gp n).tgt = none ∧ (b.gp n).arm = false ∧ b.rd (GPT_STAT_MATCH n) = 1 ∧ b.rd (GPT_STAT_OUTL n) = 1) ∧
    (a.gpGov n = n → a.on (GPT_GPT_CFG_EN n) = true → a.gpMode n = 2 → 0 < (a.gp n).trigs →
      ∃ b, exec (.gptTriggerReset t n) s = .next b ∧ (b.gp n).pos = 0 ∧ (b.gp n).laps = 0 ∧ (b.gp n).trigs = (a.gp n).trigs - 1 ∧ b.regs = a.regs) ∧
    (∀ (m : Master) (v : Word) (u : State), a.mayWrite m 0xB1 (0x110 + 0x20 * n) v.toNat 0xFFFFFFFF = true →
      a.gpPair n = false → u = (a.counted m 0xB1).gpSync n a.tb → (u.gp n).forced = false → (u.gp n).tgt = none →
      let p := (u.gp n).pos
      ∃ b, exec (.gptCmpWrite t m n v) s = .next b ∧ b.rd (GPT_CMP_CMP n) = v.toNat ∧ (b.gp n).arm = true ∧ (b.gp n).pos = p ∧
        (p % a.gpLap n < v.toNat → v.toNat < a.gpLap n → (b.gp n).tgt = some (p - p % a.gpLap n + v.toNat)) ∧
        (a.gpLap n ≤ v.toNat → (b.gp n).tgt = none)) ∧
    (a.gpPair n = false → a.rd (GPT_GPT_CFG_CAP_SRC n) = 4 → (a.gp n).queue.length < 4 →
      ∃ b, exec (.gptCapture t n (some true)) s = .next b ∧ (b.gp n).queue = (a.gp n).queue ++ [a.gpCount n] ∧
        b.rd (GPT_STAT_QLVL n) = (a.gp n).queue.length + 1 ∧ b.rd (GPT_STAT_CAP n) = 1) ∧
    (a.gpPair n = false → a.rd (GPT_GPT_CFG_CAP_SRC n) = 4 → 4 ≤ (a.gp n).queue.length →
      ∃ b, exec (.gptCapture t n (some false)) s = .next b ∧ (b.gp n).queue = (a.gp n).queue ∧ b.rd (GPT_STAT_CAPOVF n) = 1 ∧
        b.rd (GPT_STAT_QOVF n) = satN (GPT_STAT_QOVF n).w (a.rd (GPT_STAT_QOVF n) + 1)) ∧
    (∀ (m : Master), a.mayRead m 0xB1 (0x11C + 0x20 * n) = true → a.on (PG_CTRL_FREEZE 0xB1) = false →
      (a.gp n).queue.length ≤ 4 →
      ∃ b, exec (.capqRead t m n) s = .next b ∧ (b.gp n).queue = (a.gp n).queue.tail ∧ b.rd (GPT_STAT_QLVL n) = (a.gp n).queue.length - 1) ∧
    (∀ (m : Master) (v : Word), a.mayWrite m 0xB1 0x44 v.toNat 0xFFFFFFFF = true →
      ∃ b, exec (.gptSnap t m v) s = .next b ∧ (bit v.toNat n = true → b.rd (GPT_SNAP_CNT_COUNT n) = a.gpCount n % 2 ^ 32) ∧
        (bit v.toNat n = false → b.rd (GPT_SNAP_CNT_COUNT n) = a.rd (GPT_SNAP_CNT_COUNT n)) ∧
        (bit v.toNat 16 = true → b.rd GPT_SNAP_TB_LO_T = a.tb % 2 ^ 32 ∧ b.rd GPT_SNAP_TB_HI_T = a.tb / 2 ^ 32 % 2 ^ 32))

/-- ROUTER_EVENT, DST_CFG_WRITE and SW_TRIG (R368 to R373). -/
def Obligations.EventRouter : Prop :=
  ∀ (s a : State) (t : Nat), a = s.advance t → State.core 3 a = true → rtrOk a = true →
    (∀ (n : Source), a.srcLevel n 0 = some true → a.rtr.active.contains n.val = false →
      ∃ b, exec (.routerEvent t n) s = .next b ∧ b.rtr.active.contains n.val = true ∧ bit (b.rd (ROUTER_SRC_SEEN_SEEN (n / 32))) (n % 32) = true) ∧
    (∀ (n : Source), a.srcLevel n 0 = some false →
      ∃ b, exec (.routerEvent t n) s = .next b ∧ b.rtr.active.contains n.val = false) ∧
    (∀ (n : Source) (f : Nat), a.srcLevel n 0 = none → (a.rtr.pulses.find? fun y => y.1 == n.val) = some (n.val, f) →
      (srcCrosses n = false ∨ (tget none a.rtr.lastPulse n).all (fun l => decide (l + 4 ≤ f)) = true) →
      ∃ b, exec (.routerEvent t n) s = .next b ∧ tget none b.rtr.lastPulse n = some f ∧ bit (b.rd (ROUTER_SRC_SEEN_SEEN (n / 32))) (n % 32) = true) ∧
    (∀ (n : Source) (f l : Nat), a.srcLevel n 0 = none → (a.rtr.pulses.find? fun y => y.1 == n.val) = some (n.val, f) →
      srcCrosses n = true → tget none a.rtr.lastPulse n = some l → f < l + 4 →
      ∃ b, exec (.routerEvent t n) s = .next b ∧ b.rtr.pulses = a.rtr.pulses.erase (n.val, f) ∧
        b.rd ROUTER_MERGE_COUNT = satN (ROUTER_MERGE_COUNT).w (a.rd ROUTER_MERGE_COUNT + 1) ∧ tget none b.rtr.lastPulse n = some l) ∧
    (∀ (m : Master) (d : Dest) (v : Word), a.mayWrite m 6 (0x100 + 4 * d) v.toNat 0xFFFFFFFF = true →
      ∃ b, exec (.dstCfgWrite t m d v) s = .next b ∧ b.rd (ROUTER_DST_CFG_EN d) = bitN v.toNat 31 ∧
        b.rd (ROUTER_DST_CFG_SEL d) = bits v.toNat (ROUTER_DST_CFG_SEL d).lo (ROUTER_DST_CFG_SEL d).w ∧
        b.rd (ROUTER_DST_CFG_MODE d) = bits v.toNat (ROUTER_DST_CFG_MODE d).lo (ROUTER_DST_CFG_MODE d).w ∧ tget 0 b.rtr.div d = 0 ∧
        (b.rd (ROUTER_DST_CFG_EN d) = 0 → b.rtr.level.contains d.val = false)) ∧
    (∀ (m : Master) (v : Word), a.mayWrite m 6 0x70 v.toNat 0xFFFFFFFF = true →
      ∃ b, exec (.swTrig t m v) s = .next b ∧ b.regs = a.regs ∧
        b.rtr.pulses = a.rtr.pulses ++ ((List.range 4).filter (bit v.toNat)).map fun i => (252 + i, a.tb))

/-- DMA_CH_CFG_WRITE, START, STOP, DMA_TRIGGER, DMA_COMPLETE, DMA_DESC_LOAD, DMA_PFB_ERROR, FENCE, FENCE_DONE (R80, R378 to R390). -/
def Obligations.DmaChannels : Prop :=
  ∀ (s a : State) (t : Nat), a = s.advance t → State.corn 3 a = true → a.rstBusy 0xB8 = false → a.pageCrimson 0xB8 = false →
    (∀ (m : Master) (c : DmaCh) (v : Word),
      (a.wr (DMA_CH_STAT_OWNER c) m).mayWrite m 0xB8 (0x100 + 0x20 * c) v.toNat 0xFFFFFFFF = true →
      a.writeCode m (pageAddr 0xB8 (0x100 + 0x20 * c)) v.toNat 0xFFFFFFFF = 0 →
      ∃ b, exec (.dmaChCfgWrite t m c v) s = .next b ∧ b.dmaOwner c = m.val ∧ b.rd (DMA_CH_CFG_PRIO c) = bits v.toNat (DMA_CH_CFG_PRIO c).lo (DMA_CH_CFG_PRIO c).w ∧
        b.rd (DMA_CH_CFG_BURST c) = bits v.toNat (DMA_CH_CFG_BURST c).lo (DMA_CH_CFG_BURST c).w ∧ b.on (DMA_CH_CFG_SRC_INC c) = bit v.toNat (DMA_CH_CFG_SRC_INC c).lo) ∧
    (∀ (m : Master) (c : DmaCh) (v : Word), a.writeCode m (pageAddr 0xB8 (0x100 + 0x20 * c)) v.toNat 0xFFFFFFFF = 4 →
      (a.wr (DMA_CH_STAT_OWNER c) m).writeCode m (pageAddr 0xB8 (0x100 + 0x20 * c)) v.toNat 0xFFFFFFFF = 4 →
      ∃ b, exec (.dmaChCfgWrite t m c v) s = .next b ∧ b.dmaOwner c = m.val ∧ b.rd (DMA_CH_CFG_BURST c) = a.rd (DMA_CH_CFG_BURST c) ∧
        b.dmaSt c = a.dmaSt c ∧ b.mem = a.mem) ∧
    (∀ (m : Master) (c : DmaCh), a.mayWrite m 0xB8 (0x118 + 0x20 * c.val) 1 0xFFFFFFFF = true → a.dmaActive c = false →
      a.dmaCheck c ≠ 0 →
      ∃ b, exec (.dmaStart t m c) s = .next b ∧ b.dmaSt c = 0 ∧ b.rd (DMA_CH_STAT_CAUSE c) = 8 ∧ b.rd (DMA_CH_STAT_CODE c) = a.dmaCheck c) ∧
    (∀ (m : Master) (c : DmaCh), a.mayWrite m 0xB8 (0x118 + 0x20 * c.val) 1 0xFFFFFFFF = true → a.dmaActive c = false →
      a.dmaCheck c = 0 → a.rd (DMA_CH_COUNT_BYTES c) ≠ 0 →
      ∃ b, exec (.dmaStart t m c) s = .next b ∧ b.dmaSt c = (if a.dmaKind c = 0 then 2 else 1) ∧ b.rd (DMA_CH_STAT_CAUSE c) = 0 ∧ b.rd (DMA_CH_STAT_HOPS c) = 0 ∧ b.rd (DMA_CH_STAT_DONE c) = 0 ∧ (b.dmaC c).evs = (if (a.dmaC c).missed = some a.tb then 1 else 0) ∧ (b.dmaC c).fin = false) ∧
    (∀ (m : Master) (c : DmaCh), a.mayWrite m 0xB8 (0x118 + 0x20 * c.val) 1 0xFFFFFFFF = true → a.dmaActive c = false →
      a.dmaCheck c = 0 → a.rd (DMA_CH_COUNT_BYTES c) = 0 →
      ∃ b, exec (.dmaStart t m c) s = .next b ∧ b.dmaSt c = 3 ∧ b.rd (DMA_CH_STAT_CAUSE c) = 0 ∧ b.rd (DMA_CH_STAT_HOPS c) = 0 ∧ b.rd (DMA_CH_STAT_DONE c) = 0 ∧ (b.dmaC c).evs = (if (a.dmaC c).missed = some a.tb then 1 else 0) ∧ (b.dmaC c).fin = false) ∧
    (∀ (m : Master) (c : DmaCh), a.mayWrite m 0xB8 (0x118 + 0x20 * c.val) 2 0xFFFFFFFF = true → a.dmaActive c = true →
      (a.dmaC c).fin = false → a.dmaInBurst c = false →
      ∃ b, exec (.dmaStop t m c) s = .next b ∧ b.dmaSt c = 5 ∧ b.rd (DMA_CH_STAT_CAUSE c) = 1) ∧
    (∀ (m : Master) (c : DmaCh) (x : Burst), a.mayWrite m 0xB8 (0x118 + 0x20 * c.val) 2 0xFFFFFFFF = true →
      a.dmaActive c = true → (a.dmaC c).fin = false → a.dma.burst = some x → x.c = c.val → x.at_ ≠ a.tb →
      ∃ b, exec (.dmaStop t m c) s = .next b ∧ b.dmaSt c = a.dmaSt c ∧ (b.dmaC c).stop = true ∧ b.dma.burst = some x ∧ b.regs = a.regs) ∧
    (∀ (m : Master) (c : DmaCh) (x : Burst), a.mayWrite m 0xB8 (0x118 + 0x20 * c.val) 2 0xFFFFFFFF = true →
      a.dmaActive c = true → (a.dmaC c).fin = false → a.dma.burst = some x → x.c = c.val → x.at_ = a.tb →
      ∃ b, exec (.dmaStop t m c) s = .next b ∧ b.dmaSt c = 5 ∧ b.rd (DMA_CH_STAT_CAUSE c) = 1 ∧ b.dma.burst = none) ∧
    (∀ (c : DmaCh), a.dmaKind c ≠ 3 → 0 < (a.dmaC c).evs → a.dmaSt c = 1 →
      ∃ b, exec (.dmaTrigger t c) s = .next b ∧ b.dmaSt c = 2 ∧ (b.dmaC c).evs = (a.dmaC c).evs - 1) ∧
    (∀ (c : DmaCh), a.dmaKind c ≠ 3 → 0 < (a.dmaC c).evs → (a.dmaSt c = 2 ∨ a.dmaSt c = 3) → (a.dmaC c).held = false →
      ∃ b, exec (.dmaTrigger t c) s = .next b ∧ b.dmaSt c = a.dmaSt c ∧ (b.dmaC c).held = true ∧ (b.dmaC c).evs = (a.dmaC c).evs - 1) ∧
    (∀ (c : DmaCh), a.dmaKind c ≠ 3 → 0 < (a.dmaC c).evs → (a.dmaSt c = 2 ∨ a.dmaSt c = 3) → (a.dmaC c).held = true →
      ∃ b, exec (.dmaTrigger t c) s = .next b ∧ b.dmaSt c = a.dmaSt c ∧ b.rd (DMA_CH_STAT_TRIG_OVR c) = 1 ∧ (b.dmaC c).evs = (a.dmaC c).evs - 1) ∧
    (∀ (c : DmaCh), a.dmaKind c = 3 → a.dmaSt c = 1 → a.dmaReq c = true →
      ∃ b, exec (.dmaTrigger t c) s = .next b ∧ b.dmaSt c = 2 ∧ (b.dmaC c).evs = (a.dmaC c).evs ∧ b.rd (DMA_CH_COUNT_BYTES c) = a.rd (DMA_CH_COUNT_BYTES c)) ∧
    (∀ (c : DmaCh), (a.dmaC c).fin = true → a.dmaSt c = 2 →
      ∃ b, exec (.dmaComplete t c) s = .next b ∧ b.dmaSt c = 4 ∧ b.rd (DMA_CH_STAT_DONE c) = 1 ∧ (b.dmaC c).fin = false ∧
        (a.on (DMA_CH_CFG_IRQ_DONE c) = true → bit (b.rd (PG_IFLAG_FLAG 0xB8)) c = true)) ∧
    (∀ (c : DmaCh), a.dmaSt c = 3 → a.rd (DMA_CH_STAT_HOPS c) + 1 ≤ max 1 (a.rd (DMA_CH_CFG_HOP_LIM c)) →
      a.readCode (a.dmaOwner c) (16 * a.rd (DMA_CH_DESC_ADDR c)) = 0 → a.grantable (a.dmaOwner c) 4 = true →
      bits (rdWord a.mem (16 * a.rd (DMA_CH_DESC_ADDR c) + 8)) 18 12 = 0 →
      let w := fun i : Nat => rdWord a.mem (16 * a.rd (DMA_CH_DESC_ADDR c) + 4 * i)
      ∃ b, exec (.dmaDescLoad t c) s = .next b ∧ b.rd (DMA_CH_SRC_ADDR c) = w 0 ∧ b.rd (DMA_CH_DST_ADDR c) = w 1 ∧ b.rd (DMA_CH_COUNT_BYTES c) = w 2 % 2 ^ 18 ∧
        b.rd (DMA_CH_DESC_ADDR c) = w 3 / 16 ∧ b.rd (DMA_CH_STAT_HOPS c) = (if bit (w 2) 30 then 0 else (a.rd (DMA_CH_STAT_HOPS c) + 1) % 2 ^ (DMA_CH_STAT_HOPS c).w) ∧ b.mem = a.mem) ∧
    (∀ (c : DmaCh), a.dmaSt c = 3 → max 1 (a.rd (DMA_CH_CFG_HOP_LIM c)) < a.rd (DMA_CH_STAT_HOPS c) + 1 →
      ∃ b, exec (.dmaDescLoad t c) s = .next b ∧ b.dmaSt c = 5 ∧ b.rd (DMA_CH_STAT_CAUSE c) = 6 ∧ b.rd (DMA_CH_SRC_ADDR c) = a.rd (DMA_CH_SRC_ADDR c)) ∧
    (∀ (w : State), w = a.dmaSettle →
      ∃ b, exec (.dmaPfbError t) s = .next b ∧ b.rd DMA_DMA_STAT_PFB_ERR = 1 ∧
        ∀ c : DmaCh, (w.dmaActive c = true → b.dmaSt c = 5 ∧ b.rd (DMA_CH_STAT_CAUSE c) = 5) ∧ (w.dmaActive c = false → b.dmaSt c = w.dmaSt c)) ∧
    (∀ (m : Master) (c : DmaCh), a.mayWrite m 0xB8 0x48 (0x100 + c.val) 0xFFFFFFFF = true →
      ∃ b, exec (.dmaFence t m c) s = .next b ∧ b.rd DMA_FENCE_CH = c.val ∧ b.rd DMA_FENCE_BUSY = 1) ∧
    (a.dmaInBurst (a.rd DMA_FENCE_CH) = false →
      ∃ b, exec (.dmaFenceDone t) s = .next b ∧ b.rd DMA_FENCE_BUSY = 0 ∧ b.rd DMA_FENCE_CH = a.rd DMA_FENCE_CH ∧ b.dma = a.dma) ∧
    (a.dmaInBurst (a.rd DMA_FENCE_CH) = true →
      ∃ b, exec (.dmaFenceDone t) s = .next b ∧ b.regs = a.regs ∧ b.dma = a.dma)

/-- DMA_BURST_GRANT, DMA_BURST_WRITTEN and DMA_BEAT_ERROR (R375 to R387). -/
def Obligations.DmaBursts : Prop :=
  ∀ (s a : State) (t : Nat), a = s.advance t → dmaOk a = true →
    (∀ (c : Nat), a.dma.burst = none → a.dmaPick = some c →
      ∃ b, exec (.dmaBurstGrant t) s = .next b ∧ tget none b.dma.last (a.rd (DMA_CH_CFG_PRIO c)) = some c ∧
        (isRemote (a.dmaSrc c 0) = false → b.dma.burst = some { c := c, n := a.dmaBeats c, at_ := a.tb, data := (a.dmaC c).part.getD [] } ∧
          (b.dmaC c).part = none ∧ (b.dmaC c).retry = false ∧ b.dmaSt c = 2)) ∧
    (a.dma.burst = none → a.dmaPick = none →
      ∃ b, exec (.dmaBurstGrant t) s = .next b ∧ b.dma.burst = none ∧ b.dma.last = a.dma.last ∧ b.regs = a.regs) ∧
    (∀ (x : Burst), a.dma.burst = some x →
      ∃ b, exec (.dmaBurstGrant t) s = .next b ∧ b.dma = a.dma ∧ b.regs = a.regs) ∧
    (∀ (x : Burst), a.dma.burst = some x → x.n ≤ x.data.length →
      exec (.dmaBurstWritten t) s = .next (a.keep (a.dmaPut x))) ∧
    (∀ (x : Burst) (w : State), a.dma.burst = some x → x.n ≤ x.data.length → isRemote (a.dmaDst x.c 0) = false →
      State.putBeats (a.dmaOwner x.c) (a.dmaPlan x) 0 a = (x.n, .all, w) → w.dma.burst = some x →
      ∃ b, exec (.dmaBurstWritten t) s = .next b ∧ b = a.keep ((w.dmaAdvance x.c x.n).dmaBurstEnd x.c (a.dmaWithdrawn x.c)) ∧ b.mem = w.mem ∧ b.dma.burst = none) ∧
    (∀ (x : Burst), a.dma.burst = some x → x.data.length = x.n → (a.dmaC x.c).tries < a.rd DMA_DMA_CFG_RETRY_MAX →
      (a.dmaC x.c).stop = false →
      ∃ b, exec (.dmaBeatError t .bus) s = .next b ∧ b.dma.burst = none ∧ (b.dmaC x.c).tries = (a.dmaC x.c).tries + 1 ∧
        (b.dmaC x.c).retry = true ∧ (b.dmaC x.c).part = (if x.data.isEmpty then none else some x.data) ∧ b.regs = a.regs) ∧
    (∀ (x : Burst), a.dma.burst = some x → x.data.length = x.n → x.c < 32 → a.rd DMA_DMA_CFG_RETRY_MAX ≤ (a.dmaC x.c).tries →
      ∃ b, exec (.dmaBeatError t .bus) s = .next b ∧ b.dma.burst = none ∧ b.dmaSt x.c = 5 ∧ b.rd (DMA_CH_STAT_CAUSE x.c) = 4)

/-- DRV, DIR, SHO, SHI, TAKE, TAKE.NB, PUT, PUT.NB and MOVS (R393 to R401). -/
def Obligations.PioShiftInstructions : Prop :=
  ∀ (s a : State) (t : Nat) (x : Engine) (i : PioSlot) (w : Nat) (y : PioS), a = s.advance t → pioOk x a = true →
    a.slRuns x i = true → y = a.sl x i → y.hold = 0 → a.tickDue x i = true → w = a.pioWord x i → a.pioBad x i ≠ some true →
    (pioDecode w = some .drv →
      ∃ b, exec (.pioDrv t x i) s = .next b ∧ 
        bit (b.sl x i).latch 0 = (if bit w 8 then bit w 10 else bit y.latch 0) ∧
        bit (b.sl x i).latch 1 = (if bit w 9 then bit w 11 else bit y.latch 1) ∧ (b.sl x i).sr = y.sr ∧
        b.rd (PIO_SLOT_STAT_PC x i) = (a.rd (PIO_SLOT_STAT_PC x i) + 1) % 2 ^ 8 ∧
        b.rd (PIO_SLOT_STAT_STATE x i) = 1 ∧ (b.sl x i).hold = bits w 0 8) ∧
    (pioDecode w = some .dir →
      ∃ b, exec (.pioDir t x i) s = .next b ∧ 
        bit (b.rd (PIO_SLOT_STAT_DIR x i)) 0 = (if bit w 8 then bit w 10 else bit (a.rd (PIO_SLOT_STAT_DIR x i)) 0) ∧
        bit (b.rd (PIO_SLOT_STAT_DIR x i)) 1 = (if bit w 9 then bit w 11 else bit (a.rd (PIO_SLOT_STAT_DIR x i)) 1) ∧
        (b.sl x i).sr = y.sr ∧ b.rd (PIO_SLOT_STAT_PC x i) = (a.rd (PIO_SLOT_STAT_PC x i) + 1) % 2 ^ 8 ∧
        b.rd (PIO_SLOT_STAT_STATE x i) = 1 ∧ (b.sl x i).hold = bits w 0 8) ∧
    (pioDecode w = some .sho → 0 < a.rd (PIO_SLOT_STAT_BC x i) →
      let m := a.on (PIO_SLOT_CFG_OUT_MSB x i)
      ∃ b, exec (.pioSho t x i) s = .next b ∧ 
        bit (b.sl x i).latch (bitN w 11) = ((if m then bit y.sr 31 else bit y.sr 0) != bit w 10) ∧
        (b.sl x i).sr = (if m then y.sr * 2 % 2 ^ 32 else y.sr / 2) ∧ b.rd (PIO_SLOT_STAT_BC x i) = a.rd (PIO_SLOT_STAT_BC x i) - 1 ∧
        b.rd (PIO_SLOT_STAT_PC x i) = (a.rd (PIO_SLOT_STAT_PC x i) + 1) % 2 ^ 8 ∧
        b.rd (PIO_SLOT_STAT_STATE x i) = 1 ∧ (b.sl x i).hold = bits w 0 8) ∧
    (pioDecode w = some .sho → a.rd (PIO_SLOT_STAT_BC x i) = 0 →
      ∃ b, exec (.pioSho t x i) s = .next b ∧ bit (b.sl x i).latch (bitN w 11) = bit w 10 ∧ (b.sl x i).sr = y.sr ∧ b.rd (PIO_SLOT_STAT_BC x i) = 0 ∧
        b.rd (PIO_SLOT_STAT_PC x i) = (a.rd (PIO_SLOT_STAT_PC x i) + 1) % 2 ^ 8 ∧
        b.rd (PIO_SLOT_STAT_STATE x i) = 1 ∧ (b.sl x i).hold = bits w 0 8) ∧
    (∀ (pins : BitVec 2) (u : State), pioDecode w = some .shi →
      u = (a.modSl x i fun z => { z with ext := some (pins.toNat % 4) }) →
      let v := b2n (u.pioPin x i (bitN w 11) != bit w 10)
      ∃ b, exec (.pioShi t x i pins) s = .next b ∧ 
        (b.sl x i).sr = (if a.on (PIO_SLOT_CFG_IN_MSB x i) then (y.sr * 2 + v) % 2 ^ 32 else y.sr / 2 + v * 2 ^ 31) ∧
        b.rd (PIO_SLOT_STAT_BC x i) = min 32 (a.rd (PIO_SLOT_STAT_BC x i) + 1) ∧ b.rd (PIO_SLOT_STAT_PC x i) = (a.rd (PIO_SLOT_STAT_PC x i) + 1) % 2 ^ 8 ∧
        b.rd (PIO_SLOT_STAT_STATE x i) = 1 ∧ (b.sl x i).hold = bits w 0 8) ∧
    (∀ (v : Nat) (r : List Nat), pioDecode w = some .take → y.txq = v :: r →
      ∃ b, exec (.pioTake t x i) s = .next b ∧ (b.sl x i).sr = v ∧ (b.sl x i).lastTx = v ∧ (b.sl x i).txq = r ∧
        b.rd (PIO_SLOT_STAT_BC x i) = (if bits w 6 5 = 0 then 32 else bits w 6 5) ∧ b.rd (PIO_SLOT_STAT_PC x i) = (a.rd (PIO_SLOT_STAT_PC x i) + 1) % 2 ^ 8 ∧
        b.rd (PIO_SLOT_STAT_STATE x i) = 1 ∧ (b.sl x i).hold = 0) ∧
    (∀ (v : Nat) (r : List Nat), pioDecode w = some .takeNb → y.txq = v :: r →
      ∃ b, exec (.pioTakeNb t x i) s = .next b ∧ (b.sl x i).sr = v ∧ (b.sl x i).lastTx = v ∧ (b.sl x i).txq = r ∧
        b.rd (PIO_SLOT_STAT_BC x i) = (if bits w 6 5 = 0 then 32 else bits w 6 5) ∧ b.rd (PIO_SLOT_STAT_PC x i) = (a.rd (PIO_SLOT_STAT_PC x i) + 1) % 2 ^ 8 ∧
        b.rd (PIO_SLOT_STAT_STATE x i) = 1 ∧ (b.sl x i).hold = 0) ∧
    (pioDecode w = some .take → y.txq = [] →
      ∃ b, exec (.pioTake t x i) s = .next b ∧ (b.sl x i).sr = y.sr ∧ b.rd (PIO_SLOT_STAT_PC x i) = a.rd (PIO_SLOT_STAT_PC x i) ∧ b.rd (PIO_SLOT_STAT_STATE x i) = 2) ∧
    (pioDecode w = some .takeNb → y.txq = [] →
      ∃ b, exec (.pioTakeNb t x i) s = .next b ∧ (b.sl x i).sr = y.lastTx ∧ b.rd (PIO_SLOT_STAT_BC x i) = (if bits w 6 5 = 0 then 32 else bits w 6 5) ∧
        b.rd (PIO_SLOT_CNT0_STALE x i) = satN 16 (a.rd (PIO_SLOT_CNT0_STALE x i) + 1) ∧ bit (b.rd (PG_IFLAG_FLAG (pioPage x))) 12 = true ∧
        b.rd (PIO_SLOT_STAT_PC x i) = (a.rd (PIO_SLOT_STAT_PC x i) + 1) % 2 ^ 8 ∧
        b.rd (PIO_SLOT_STAT_STATE x i) = 1 ∧ (b.sl x i).hold = 0) ∧
    (pioDecode w = some .put → y.rxq.length < a.rxSize x i → a.on (PIO_SLOT_POST_EN x i) = false →
      ∃ b, exec (.pioPut t x i) s = .next b ∧ (b.sl x i).rxq = y.rxq ++ [y.sr] ∧ (b.sl x i).sr = 0 ∧ b.rd (PIO_SLOT_STAT_BC x i) = 0 ∧
        b.rd (PIO_SLOT_STAT_PC x i) = (a.rd (PIO_SLOT_STAT_PC x i) + 1) % 2 ^ 8 ∧
        b.rd (PIO_SLOT_STAT_STATE x i) = 1 ∧ (b.sl x i).hold = 0) ∧
    (pioDecode w = some .put → y.rxq.length < a.rxSize x i → a.on (PIO_SLOT_POST_EN x i) = true →
      ∃ b, exec (.pioPut t x i) s = .next b ∧ (b.sl x i).sr = 0 ∧ b.rd (PIO_SLOT_STAT_BC x i) = 0 ∧
        ((b.sl x i).rxq = y.rxq ++ [y.sr] ∨ (b.sl x i).rxq.length ≤ y.rxq.length) ∧ b.rd (PIO_SLOT_STAT_PC x i) = (a.rd (PIO_SLOT_STAT_PC x i) + 1) % 2 ^ 8 ∧
        b.rd (PIO_SLOT_STAT_STATE x i) = 1 ∧ (b.sl x i).hold = 0) ∧
    (pioDecode w = some .putNb → y.rxq.length < a.rxSize x i → a.on (PIO_SLOT_POST_EN x i) = false →
      ∃ b, exec (.pioPutNb t x i) s = .next b ∧ (b.sl x i).rxq = y.rxq ++ [y.sr] ∧ (b.sl x i).sr = 0 ∧ b.rd (PIO_SLOT_STAT_BC x i) = 0 ∧
        b.rd (PIO_SLOT_STAT_PC x i) = (a.rd (PIO_SLOT_STAT_PC x i) + 1) % 2 ^ 8 ∧
        b.rd (PIO_SLOT_STAT_STATE x i) = 1 ∧ (b.sl x i).hold = 0) ∧
    (pioDecode w = some .putNb → y.rxq.length < a.rxSize x i → a.on (PIO_SLOT_POST_EN x i) = true →
      ∃ b, exec (.pioPutNb t x i) s = .next b ∧ (b.sl x i).sr = 0 ∧ b.rd (PIO_SLOT_STAT_BC x i) = 0 ∧
        ((b.sl x i).rxq = y.rxq ++ [y.sr] ∨ (b.sl x i).rxq.length ≤ y.rxq.length) ∧ b.rd (PIO_SLOT_STAT_PC x i) = (a.rd (PIO_SLOT_STAT_PC x i) + 1) % 2 ^ 8 ∧
        b.rd (PIO_SLOT_STAT_STATE x i) = 1 ∧ (b.sl x i).hold = 0) ∧
    (pioDecode w = some .put → a.rxSize x i ≤ y.rxq.length →
      ∃ b, exec (.pioPut t x i) s = .next b ∧ (b.sl x i).rxq = y.rxq ∧ (b.sl x i).sr = y.sr ∧ b.rd (PIO_SLOT_STAT_PC x i) = a.rd (PIO_SLOT_STAT_PC x i) ∧ b.rd (PIO_SLOT_STAT_STATE x i) = 2) ∧
    (pioDecode w = some .putNb → a.rxSize x i ≤ y.rxq.length →
      ∃ b, exec (.pioPutNb t x i) s = .next b ∧ (b.sl x i).rxq = y.rxq ∧ (b.sl x i).sr = 0 ∧ b.rd (PIO_SLOT_STAT_BC x i) = 0 ∧
        b.rd (PIO_SLOT_CNT0_DROP x i) = satN 16 (a.rd (PIO_SLOT_CNT0_DROP x i) + 1) ∧ bit (b.rd (PG_IFLAG_FLAG (pioPage x))) 13 = true ∧
        b.rd (PIO_SLOT_STAT_PC x i) = (a.rd (PIO_SLOT_STAT_PC x i) + 1) % 2 ^ 8 ∧
        b.rd (PIO_SLOT_STAT_STATE x i) = 1 ∧ (b.sl x i).hold = 0) ∧
    (∀ (pins : BitVec 2), pioDecode w = some .movs →
      let u := a.modSl x i fun z => { z with ext := some (pins.toNat % 4) }
      let v := match bits w 6 3 with
        | 0 => if bit w 5 then 2 ^ 32 - 1 - y.sr % 2 ^ 32 else y.sr
        | 1 => if bit w 5 then 2 ^ 16 - 1 - y.k0 % 2 ^ 16 else y.k0
        | 2 => if bit w 5 then 2 ^ 16 - 1 - y.k1 % 2 ^ 16 else y.k1
        | 3 => if bit w 5 then 2 ^ 6 - 1 - a.rd (PIO_SLOT_STAT_BC x i) else a.rd (PIO_SLOT_STAT_BC x i)
        | 4 => let p := 2 * b2n (u.pioPin x i 1) + b2n (u.pioPin x i 0)
          if bit w 5 then 3 - p else p
        | _ => if bit w 5 then 2 ^ 32 - 1 - a.tb % 2 ^ 32 else a.tb % 2 ^ 32
      ∃ b, exec (.pioMovs t x i pins) s = .next b ∧ 
        (bits w 9 3 = 0 → (b.sl x i).sr = v) ∧ (bits w 9 3 = 1 → (b.sl x i).k0 = v % 65536) ∧ (bits w 9 3 = 2 → (b.sl x i).k1 = v % 65536) ∧
        (bits w 9 3 = 3 → b.rd (PIO_SLOT_STAT_BC x i) = min 32 (v % 64)) ∧ (bits w 9 3 = 4 → b.rd (PIO_SLOT_STAT_DIR x i) = v % 4) ∧
        b.rd (PIO_SLOT_STAT_PC x i) = (a.rd (PIO_SLOT_STAT_PC x i) + 1) % 2 ^ 8 ∧
        b.rd (PIO_SLOT_STAT_STATE x i) = 1 ∧ (b.sl x i).hold = 0)

/-- SETK, LOOP, BR, WAITE, WAITF, SIG, PIO_HOLD_TICK and PIO_SLOT_FAULT (R393 to R409). -/
def Obligations.PioFlowInstructions : Prop :=
  ∀ (s a : State) (t : Nat) (x : Engine) (i : PioSlot) (w : Nat) (y : PioS), a = s.advance t → pioOk x a = true →
    a.slRuns x i = true → y = a.sl x i → a.tickDue x i = true → w = a.pioWord x i → a.pioBad x i ≠ some true →
    (y.hold = 0 → pioDecode w = some .setk →
      ∃ b, exec (.pioSetk t x i) s = .next b ∧ (b.sl x i).k (bit w 11) = bits w 0 11 ∧ (b.sl x i).k (!bit w 11) = y.k (!bit w 11) ∧
        b.rd (PIO_SLOT_STAT_PC x i) = (a.rd (PIO_SLOT_STAT_PC x i) + 1) % 2 ^ 8 ∧
        b.rd (PIO_SLOT_STAT_STATE x i) = 1 ∧ (b.sl x i).hold = 0) ∧
    (y.hold = 0 → pioDecode w = some .loop → y.k (bit w 11) = 0 →
      ∃ b, exec (.pioLoop t x i) s = .next b ∧ (b.sl x i).k (bit w 11) = 0 ∧ b.rd (PIO_SLOT_STAT_PC x i) = (a.rd (PIO_SLOT_STAT_PC x i) + 1) % 2 ^ 8 ∧
        b.rd (PIO_SLOT_STAT_STATE x i) = 1 ∧ (b.sl x i).hold = 0) ∧
    (y.hold = 0 → pioDecode w = some .loop → 0 < y.k (bit w 11) →
      ∃ b, exec (.pioLoop t x i) s = .next b ∧ (b.sl x i).k (bit w 11) = (y.k (bit w 11) - 1) % 65536 ∧
        b.rd (PIO_SLOT_STAT_PC x i) = bits w 0 8 ∧ b.rd (PIO_SLOT_STAT_STATE x i) = 1) ∧
    (∀ (pins : BitVec 2) (u : State), y.hold = 0 → pioDecode w = some .br →
      u = (a.modSl x i fun z => { z with ext := some (pins.toNat % 4) }) → u.brCond x i (bits w 8 4) = true →
      ∃ b, exec (.pioBr t x i pins) s = .next b ∧ b.rd (PIO_SLOT_STAT_PC x i) = bits w 0 8 ∧ b.rd (PIO_SLOT_STAT_STATE x i) = 1 ∧
        (bits w 8 4 = 9 → b.rd (PIO_SLOT_STAT_TRIG x i) = 0)) ∧
    (∀ (pins : BitVec 2) (u : State), y.hold = 0 → pioDecode w = some .br →
      u = (a.modSl x i fun z => { z with ext := some (pins.toNat % 4) }) → u.brCond x i (bits w 8 4) = false →
      ∃ b, exec (.pioBr t x i pins) s = .next b ∧ b.rd (PIO_SLOT_STAT_PC x i) = (a.rd (PIO_SLOT_STAT_PC x i) + 1) % 2 ^ 8 ∧
        b.rd (PIO_SLOT_STAT_STATE x i) = 1 ∧ (b.sl x i).hold = 0) ∧
    (∀ (pins : BitVec 2) (u : State), y.hold = 0 → pioDecode w = some .waite →
      u = (a.modSl x i fun z => { z with ext := some (pins.toNat % 4) }) →
      (match bits w 9 2 with | 0 => !u.pioPin x i (bitN w 11) | 1 => u.pioPin x i (bitN w 11) | 2 => y.prev == some false && u.pioPin x i (bitN w 11) | _ => y.prev == some true && !u.pioPin x i (bitN w 11)) = true →
      ∃ b, exec (.pioWaite t x i pins) s = .next b ∧ b.rd (PIO_SLOT_STAT_CF x i) = 0 ∧ (b.sl x i).k1 = y.k1 ∧ b.rd (PIO_SLOT_STAT_PC x i) = (a.rd (PIO_SLOT_STAT_PC x i) + 1) % 2 ^ 8 ∧
        b.rd (PIO_SLOT_STAT_STATE x i) = 1 ∧ (b.sl x i).hold = 0) ∧
    (∀ (pins : BitVec 2) (u : State), y.hold = 0 → pioDecode w = some .waite →
      u = (a.modSl x i fun z => { z with ext := some (pins.toNat % 4) }) →
      (match bits w 9 2 with | 0 => !u.pioPin x i (bitN w 11) | 1 => u.pioPin x i (bitN w 11) | 2 => y.prev == some false && u.pioPin x i (bitN w 11) | _ => y.prev == some true && !u.pioPin x i (bitN w 11)) = false →
      bit w 8 = true → y.k1 = 0 →
      ∃ b, exec (.pioWaite t x i pins) s = .next b ∧ b.rd (PIO_SLOT_STAT_CF x i) = 1 ∧ b.rd (PIO_SLOT_STAT_PC x i) = bits w 0 8 ∧ b.rd (PIO_SLOT_STAT_STATE x i) = 1) ∧
    (∀ (pins : BitVec 2) (u : State), y.hold = 0 → pioDecode w = some .waite →
      u = (a.modSl x i fun z => { z with ext := some (pins.toNat % 4) }) →
      (match bits w 9 2 with | 0 => !u.pioPin x i (bitN w 11) | 1 => u.pioPin x i (bitN w 11) | 2 => y.prev == some false && u.pioPin x i (bitN w 11) | _ => y.prev == some true && !u.pioPin x i (bitN w 11)) = false →
      (bit w 8 = false ∨ 0 < y.k1) →
      ∃ b, exec (.pioWaite t x i pins) s = .next b ∧ (b.sl x i).k1 = (if bit w 8 then y.k1 - 1 else y.k1) ∧
        (b.sl x i).prev = some (u.pioPin x i (bitN w 11)) ∧ b.rd (PIO_SLOT_STAT_PC x i) = a.rd (PIO_SLOT_STAT_PC x i) ∧ b.rd (PIO_SLOT_STAT_STATE x i) = 2) ∧
    (y.hold = 0 → pioDecode w = some .waitf →
      (if bit w 11 then bit (a.rd (PIO_ENG_STAT_IRQF x)) (bits w 0 3) else a.on (PIO_SLOT_STAT_TRIG x i)) = bit w 10 →
      ∃ b, exec (.pioWaitf t x i) s = .next b ∧ (bit w 11 = false → b.rd (PIO_SLOT_STAT_TRIG x i) = 0) ∧
        b.rd (PIO_SLOT_STAT_PC x i) = (a.rd (PIO_SLOT_STAT_PC x i) + 1) % 2 ^ 8 ∧
        b.rd (PIO_SLOT_STAT_STATE x i) = 1 ∧ (b.sl x i).hold = 0) ∧
    (y.hold = 0 → pioDecode w = some .waitf →
      (if bit w 11 then bit (a.rd (PIO_ENG_STAT_IRQF x)) (bits w 0 3) else a.on (PIO_SLOT_STAT_TRIG x i)) ≠ bit w 10 →
      ∃ b, exec (.pioWaitf t x i) s = .next b ∧ b.rd (PIO_SLOT_STAT_PC x i) = a.rd (PIO_SLOT_STAT_PC x i) ∧ b.rd (PIO_SLOT_STAT_STATE x i) = 2) ∧
    (y.hold = 0 → pioDecode w = some .sigSet →
      ∃ b, exec (.pioSigSet t x i) s = .next b ∧ bit (b.rd (PIO_ENG_STAT_IRQF x)) (bits w 0 3) = (true) ∧
        b.rd (PIO_SLOT_STAT_PC x i) = (a.rd (PIO_SLOT_STAT_PC x i) + 1) % 2 ^ 8 ∧
        b.rd (PIO_SLOT_STAT_STATE x i) = 1 ∧ (b.sl x i).hold = 0) ∧
    (y.hold = 0 → pioDecode w = some .sigClear →
      ∃ b, exec (.pioSigClear t x i) s = .next b ∧ bit (b.rd (PIO_ENG_STAT_IRQF x)) (bits w 0 3) = (false) ∧
        b.rd (PIO_SLOT_STAT_PC x i) = (a.rd (PIO_SLOT_STAT_PC x i) + 1) % 2 ^ 8 ∧
        b.rd (PIO_SLOT_STAT_STATE x i) = 1 ∧ (b.sl x i).hold = 0) ∧
    (y.hold = 0 → pioDecode w = some .sigInv →
      ∃ b, exec (.pioSigInvert t x i) s = .next b ∧ bit (b.rd (PIO_ENG_STAT_IRQF x)) (bits w 0 3) = (!bit (a.rd (PIO_ENG_STAT_IRQF x)) (bits w 0 3)) ∧
        b.rd (PIO_SLOT_STAT_PC x i) = (a.rd (PIO_SLOT_STAT_PC x i) + 1) % 2 ^ 8 ∧
        b.rd (PIO_SLOT_STAT_STATE x i) = 1 ∧ (b.sl x i).hold = 0) ∧
    (y.hold = 0 → pioDecode w = some .sigIrq →
      ∃ b, exec (.pioSigIrq t x i) s = .next b ∧ bit (b.rd (PG_IFLAG_FLAG (pioPage x))) (bits w 0 3) = true ∧
        b.rd (PIO_ENG_STAT_IRQF x) = a.rd (PIO_ENG_STAT_IRQF x) ∧ b.rd (PIO_SLOT_STAT_PC x i) = (a.rd (PIO_SLOT_STAT_PC x i) + 1) % 2 ^ 8 ∧
        b.rd (PIO_SLOT_STAT_STATE x i) = 1 ∧ (b.sl x i).hold = 0) ∧
    (0 < y.hold →
      ∃ b, exec (.pioHoldTick t x i) s = .next b ∧ (b.sl x i).hold = y.hold - 1 ∧ (b.sl x i).sr = y.sr ∧ (b.sl x i).latch = y.latch ∧ b.regs = a.regs) ∧
    (y.hold = 0 → pioDecode w = none →
      ∃ b, exec (.pioSlotFault t x i) s = .next b ∧ b.rd (PIO_SLOT_STAT_STATE x i) = 3 ∧ b.rd (PIO_SLOT_STAT_BC x i) = 0 ∧ (b.sl x i).sr = 0 ∧
        bit (b.rd (PG_IFLAG_FLAG (pioPage x))) 9 = true)

/-- PIO_ENGINE_ENABLE, PIO_ENGINE_STOP, PIO_SLOT_ENABLE, PIO_SLOT_STOP, TXQ_WRITE, RXQ_READ, PTRIG, PIO_PROG_WRITE, PIO_FETCH_ERROR (R399 to R407). -/
def Obligations.PioEnginesAndQueues : Prop :=
  ∀ (s a : State) (t : Nat) (x : Engine), a = s.advance t → State.corn 3 a = true →
    (∀ (m : Master), a.mayWrite m (pioPage x) 8 1 1 = true → a.rd (PIO_ENG_STAT_STATE x) = 0 →
      ((List.range 8).map fun i => a.txSize x i + a.rxSize x i).sum ≤ 64 →
      ∃ b, exec (.pioEngineEnable t m x) s = .next b ∧ b.rd (PG_CTRL_EN (pioPage x)) = 1 ∧ b.rd (PIO_ENG_STAT_STATE x) = 1 ∧
        ∀ i : PioSlot, a.on (PIO_SLOT_CFG_EN x i) = true → b.rd (PIO_SLOT_STAT_STATE x i) = 1 ∧ b.rd (PIO_SLOT_STAT_PC x i) = a.rd (PIO_SLOT_CFG_START x i)) ∧
    (∀ (m : Master), a.mayWrite m (pioPage x) 8 1 1 = true → a.rd (PIO_ENG_STAT_STATE x) = 0 →
      64 < ((List.range 8).map fun i => a.txSize x i + a.rxSize x i).sum →
      ∃ b, exec (.pioEngineEnable t m x) s = .next b ∧ b.rd (PIO_ENG_STAT_STATE x) = 0 ∧ b.rd (PG_CTRL_EN (pioPage x)) = a.rd (PG_CTRL_EN (pioPage x)) ∧
        b.pio = a.pio) ∧
    (∀ (m : Master), a.mayWrite m (pioPage x) 8 0 1 = true →
      ∃ b, exec (.pioEngineStop t m x) s = .next b ∧ b.rd (PG_CTRL_EN (pioPage x)) = 0 ∧ b.rd (PIO_ENG_STAT_STATE x) = 0 ∧
        ∀ i : PioSlot, b.slRuns x i = false) ∧
    (∀ (m : Master) (i : PioSlot), a.mayWrite m (pioPage x) (0x100 + 0x20 * i) (2 ^ 31) (2 ^ 31) = true →
      a.on (PIO_SLOT_CFG_EN x i) = false → a.rd (PIO_ENG_STAT_STATE x) = 1 →
      ∃ b, exec (.pioSlotEnable t m x i) s = .next b ∧ b.rd (PIO_SLOT_CFG_EN x i) = 1 ∧ b.rd (PIO_SLOT_STAT_STATE x i) = 1 ∧
        b.rd (PIO_SLOT_STAT_PC x i) = a.rd (PIO_SLOT_CFG_START x i) ∧ b.rd (PIO_SLOT_STAT_BC x i) = 0 ∧ (b.sl x i).sr = 0 ∧ (b.sl x i).txq = (a.sl x i).txq) ∧
    (∀ (m : Master) (i : PioSlot), a.mayWrite m (pioPage x) (0x100 + 0x20 * i) 0 (2 ^ 31) = true →
      a.on (PIO_SLOT_CFG_EN x i) = true →
      ∃ b, exec (.pioSlotStop t m x i) s = .next b ∧ b.rd (PIO_SLOT_CFG_EN x i) = 0 ∧ b.rd (PIO_SLOT_STAT_STATE x i) = 0 ∧ (b.sl x i).txq = (a.sl x i).txq) ∧
    (∀ (m : Master) (i : PioSlot) (v : Word), a.mayWrite m (pioPage x) (0x114 + 0x20 * i) v.toNat 0xFFFFFFFF = true →
      (a.sl x i).txq.length < a.txSize x i →
      ∃ b, exec (.txqWrite t m x i v) s = .next b ∧ (b.sl x i).txq = (a.sl x i).txq ++ [v.toNat] ∧ (b.sl x i).rxq = (a.sl x i).rxq ∧
        b.rd (PIO_SLOT_STAT_TX_LVL x i) = (a.sl x i).txq.length + 1) ∧
    (∀ (m : Master) (i : PioSlot) (v : Word), a.mayWrite m (pioPage x) (0x114 + 0x20 * i) v.toNat 0xFFFFFFFF = true →
      a.txSize x i ≤ (a.sl x i).txq.length →
      ∃ b, exec (.txqWrite t m x i v) s = .next b ∧ b.sl x i = a.sl x i ∧
        b.rd (PIO_SLOT_CNT1_TX_OVF x i) = satN 8 (a.rd (PIO_SLOT_CNT1_TX_OVF x i) + 1) ∧ bit (b.rd (PG_IFLAG_FLAG (pioPage x))) 10 = true) ∧
    (∀ (m : Master) (i : PioSlot) (v : Nat) (r : List Nat), a.mayRead m (pioPage x) (0x118 + 0x20 * i) = true →
      a.on (PIO_SLOT_POST_EN x i) = false → (a.sl x i).rxq = v :: r →
      ∃ b, exec (.rxqRead t m x i) s = .next b ∧ (b.sl x i).rxq = r ∧ (b.sl x i).txq = (a.sl x i).txq) ∧
    (∀ (m : Master) (i : PioSlot), a.mayRead m (pioPage x) (0x118 + 0x20 * i) = true → a.on (PIO_SLOT_POST_EN x i) = false →
      (a.sl x i).rxq = [] →
      ∃ b, exec (.rxqRead t m x i) s = .next b ∧ b.sl x i = a.sl x i ∧
        b.rd (PIO_SLOT_CNT1_RX_UNF x i) = satN 8 (a.rd (PIO_SLOT_CNT1_RX_UNF x i) + 1)) ∧
    (56 + x.val ∈ a.rtr.destPending →
      ∃ b, exec (.pioPtrig t x) s = .next b ∧ b.rtr.destPending = a.rtr.destPending.erase (56 + x.val) ∧
        ∀ i : PioSlot, b.rd (PIO_SLOT_STAT_TRIG x i) = (if bit (a.rd (PIO_ENG_CFG_TRIG_SLOTS x)) i then 1 else a.rd (PIO_SLOT_STAT_TRIG x i))) ∧
    (∀ (m : Master) (off : BitVec 12) (v : Word), a.mayWrite m (pioPage x) off.toNat v.toNat 0xFFFFFFFF = true →
      0x400 ≤ off.toNat → off.toNat < 0x800 → a.rd (PIO_ENG_STAT_STATE x) = 0 →
      ∃ b, exec (.pioProgWrite t m x off v) s = .next b ∧ b.rd (PIO_PROG_INSTR x ((off.toNat - 0x400) / 4)) = v.toNat % 65536) ∧
    (∀ (m : Master) (off : BitVec 12) (v : Word), a.mayWrite m (pioPage x) off.toNat v.toNat 0xFFFFFFFF = true →
      0x400 ≤ off.toNat → off.toNat < 0x800 → a.rd (PIO_ENG_STAT_STATE x) ≠ 0 →
      ∃ b, exec (.pioProgWrite t m x off v) s = .next b ∧ b.rd (PIO_PROG_INSTR x ((off.toNat - 0x400) / 4)) = a.rd (PIO_PROG_INSTR x ((off.toNat - 0x400) / 4)) ∧
        b.rd (PIO_ENG_STAT_PROG_BUSY x) = 1 ∧ bit (b.rd (PG_IFLAG_FLAG (pioPage x))) 8 = true) ∧
    (∀ (c : BitVec 8), pioOk x a = true →
      ∃ b, exec (.pioFetchError t x c) s = .next b ∧ b.rd (PIO_ENG_STAT_STATE x) = 2 ∧ bit (b.rd (PG_IFLAG_FLAG (pioPage x))) 9 = true ∧
        ∀ i : PioSlot, b.slRuns x i = false)

/-- LINK_ENABLE, LINK_ALIGNED, TRAIN, LINK_TRAIN_TIMEOUT, LINK_DOWN, LINK_FRAME_DISCARD (R413 to R419). -/
def Obligations.LinkTraining : Prop :=
  ∀ (s a u : State) (t : Nat), a = s.advance t → linkOk a = true → u = a.linkBegin →
    (∀ (m : Master) (x : Link), u.mayWrite m (0xC8 + x.val) 8 1 1 = true → u.on (PG_CTRL_EN (0xC8 + x.val)) = false →
      ∃ b, exec (.linkEnable t m x) s = .next b ∧ b.rd (PG_CTRL_EN (0xC8 + x.val)) = 1 ∧ b.linkState x = 1 ∧
        b.rd (LINK_LINK_STAT_FAIL_CODE x) = 0 ∧ (b.lnk x).wait = [] ∧ (b.lnk x).pairs = []) ∧
    (∀ (x : Link), u.linkRuns x = true → u.linkState x = 1 →
      ∃ b, exec (.linkAligned t x) s = .next b ∧ b.linkState x = 2 ∧ b.rd (LINK_LINK_STAT_LOCK x) = 1 ∧
        ((b.casc.sent.any fun q => q.link == x.val && q.t == a.tb && (q.f.typ == 1 && q.f.pay == [u.verOffer x * 2 ^ 24 + u.rd (LINK_LINK_CFG_CAP x) * 2 ^ 16 + u.ownId * 2 ^ 14 + u.rd CASC_CASC_STAT_MEN * 2 ^ 13, 0])) || (b.lnk x.val).wait.any fun q => (q.f.typ == 1 && q.f.pay == [u.verOffer x * 2 ^ 24 + u.rd (LINK_LINK_CFG_CAP x) * 2 ^ 16 + u.ownId * 2 ^ 14 + u.rd CASC_CASC_STAT_MEN * 2 ^ 13, 0])) = true) ∧
    (∀ (x : Link) (w0 w1 : Word) (d : Nat), u.linkRuns x = true → u.linkState x = 2 → bits w0.toNat 14 2 = u.ownId →
      ∃ b, exec (.linkTrain t x w0 w1 d) s = .next b ∧ b.linkState x = 5 ∧ b.rd (LINK_LINK_STAT_FAIL_CODE x) = 1) ∧
    (∀ (x : Link) (w0 w1 : Word) (d : Nat), u.linkRuns x = true → u.linkState x = 2 → bits w0.toNat 14 2 ≠ u.ownId →
      bits w0.toNat 24 8 < 0x10 →
      ∃ b, exec (.linkTrain t x w0 w1 d) s = .next b ∧ b.linkState x = 5 ∧ b.rd (LINK_LINK_STAT_FAIL_CODE x) = 2) ∧
    (∀ (x : Link) (w0 w1 : Word) (d : Nat), u.linkRuns x = true → u.linkState x = 2 → bits w0.toNat 14 2 ≠ u.ownId →
      0x10 ≤ bits w0.toNat 24 8 → bit w0.toNat 12 = true →
      let two := decide (0x20 ≤ bits w0.toNat 24 8) && u.rd (LINK_LINK_CFG_VER_MAX x) != 0x10
      ∃ b, exec (.linkTrain t x w0 w1 d) s = .next b ∧ b.linkState x = 3 ∧
        b.rd (LINK_LINK_STAT_VER x) = (if two then 0x20 else 0x10) ∧
        b.rd (LINK_LINK_STAT_CAP x) = Nat.land (Nat.land (bits w0.toNat 16 8) (u.rd (LINK_LINK_CFG_CAP x))) (if two then 7 else 4) % 8 ∧
        b.rd (LINK_LINK_STAT_PEER_ID x) = bits w0.toNat 14 2 ∧ b.rd (LINK_LINK_STAT_PEER_MEN x) = bitN w0.toNat 13) ∧
    (∀ (x : Link) (w0 w1 : Word) (d : Nat), u.linkRuns x = true → u.linkState x = 2 → bits w0.toNat 14 2 ≠ u.ownId →
      0x10 ≤ bits w0.toNat 24 8 → bit w0.toNat 12 = false →
      ∃ b, exec (.linkTrain t x w0 w1 d) s = .next b ∧ b.linkState x = 2 ∧ b.rd (LINK_LINK_STAT_PEER_ID x) = bits w0.toNat 14 2 ∧
        b.rd (LINK_LINK_STAT_PEER_MEN x) = bitN w0.toNat 13 ∧ (b.lnk x).ack = true ∧ b.rd (LINK_LINK_STAT_FAIL_CODE x) = u.rd (LINK_LINK_STAT_FAIL_CODE x)) ∧
    (∀ (x : Link) (w0 w1 : Word) (d : Nat), u.linkRuns x = true → u.linkState x = 3 → bit w0.toNat 10 = true →
      (u.lnk x).pairs.length < 15 →
      ∃ b, exec (.linkTrain t x w0 w1 d) s = .next b ∧ b.linkState x = 3 ∧ (b.lnk x).pairs = (u.lnk x).pairs ++ [5 * ((d : Int) - w1.toNat) - 256]) ∧
    (∀ (x : Link) (w0 w1 : Word) (d : Nat) (l : List Int), u.linkRuns x = true → u.linkState x = 3 → bit w0.toNat 10 = true →
      l = (u.lnk x).pairs ++ [5 * ((d : Int) - w1.toNat) - 256] → l.length = 16 → l.foldl (· + ·) 0 ≤ 64000 →
      l.foldl max (l.headD 0) - l.foldl min (l.headD 0) ≤ 80 →
      ∃ b, exec (.linkTrain t x w0 w1 d) s = .next b ∧ b.linkState x = 4 ∧ b.rd (LINK_DELAY_DELAY x) = (divNear (l.foldl (· + ·) 0) 160).toNat ∧ bit (b.rd (PG_IFLAG_FLAG (0xC8 + x.val))) 0 = true) ∧
    (∀ (x : Link) (w0 w1 : Word) (d : Nat) (l : List Int), u.linkRuns x = true → u.linkState x = 3 → bit w0.toNat 10 = true →
      l = (u.lnk x).pairs ++ [5 * ((d : Int) - w1.toNat) - 256] → l.length = 16 →
      (64000 < l.foldl (· + ·) 0 ∨ 80 < l.foldl max (l.headD 0) - l.foldl min (l.headD 0)) →
      ∃ b, exec (.linkTrain t x w0 w1 d) s = .next b ∧ b.linkState x = 5 ∧ b.rd (LINK_LINK_STAT_FAIL_CODE x) = 3) ∧
    (∀ (x : Link), u.linkRuns x = true → 1 ≤ u.linkState x → u.linkState x ≤ 3 → (u.lnk x).since + 400000 ≤ a.tb →
      ∃ b, exec (.linkTrainTimeout t x) s = .next b ∧ b.linkState x = 1 ∧ b.rd (LINK_LINK_STAT_LOCK x) = 0 ∧
        b.rd (LINK_TRAIN_CNT_RETRY x) = satN 16 (u.rd (LINK_TRAIN_CNT_RETRY x) + 1)) ∧
    (∀ (x : Link) (c : Fin 4), u.linkRuns x = true → u.linkUp x = true → c.val ≠ 0 →
      (c.val = 3 → (u.lnk x).lastValid + 12000 ≤ a.tb) →
      ∃ b, exec (.linkDown t x c) s = .next b ∧ b.linkState x = 1 ∧ b.rd (LINK_LINK_STAT_LOCK x) = 0 ∧
        b.rd (LINK_ERR_CNT_DOWN x) = satN (LINK_ERR_CNT_DOWN x).w (u.rd (LINK_ERR_CNT_DOWN x) + 1) ∧ bit (b.rd (PG_IFLAG_FLAG (0xC8 + x.val))) 1 = true ∧ (b.lnk x).wait = []) ∧
    (∀ (x : Link) (c : Fin 6) (f : Field), u.linkRuns x = true → 2 ≤ u.linkState x → u.linkState x ≤ 4 →
      (c.val = 1 ∧ f = LINK_ERR_CNT_CV x ∨ c.val = 2 ∧ f = LINK_ERR_CNT_CRC x ∨ 3 ≤ c.val ∧ f = LINK_ERR_CNT_FORMAT x) →
      ∃ b, exec (.linkFrameDiscard t x c) s = .next b ∧ b.linkState x = u.linkState x ∧ b.rd f = satN f.w (u.rd f + 1) ∧
        bit (b.rd (PG_IFLAG_FLAG (0xC8 + x.val))) 3 = true ∧ b.casc = u.casc)

/-- CASC_ENABLE, MASTER_ELECTION, BEACON_SEND, BEACON, STATUS, STATUS_SEND, CLAIM, BEACON_LOSS, CLAIM_WAIT_END (R420 to R435). -/
def Obligations.CascadeRoles : Prop :=
  ∀ (s a u : State) (t : Nat), a = s.advance t → linkOk a = true → u = a.linkBegin →
    (∀ (m : Master), u.mayWrite m 0xCC 8 1 1 = true → u.on (PG_CTRL_EN 0xCC) = false →
      ∃ b, exec (.cascEnable t m) s = .next b ∧ b.rd (PG_CTRL_EN 0xCC) = 1 ∧ b.role = 1 ∧ b.rd CASC_CASC_STAT_MASTER_V = 0 ∧ b.casc.listen = a.tb) ∧
    (u.cascOn = true → u.role = 1 → u.eligible = true → u.casc.listen + 4000 ≤ a.tb →
      (u.casc.lastBcn.all fun l => decide (l + 4000 ≤ a.tb)) = true → (∀ n < u.ownId, n < 4 → u.peerElig n = false) →
      ∃ b, exec (.masterElection t) s = .next b ∧ b.role = 2 ∧ b.rd CASC_CASC_STAT_MASTER_V = 1 ∧ b.rd CASC_CASC_STAT_MASTER = u.ownId ∧
        b.rd CASC_CASC_STAT_EPOCH = (max u.casc.epochMax (u.rd CASC_CASC_STAT_EPOCH) + 1) % 256 ∧ b.follow = none) ∧
    (u.cascOn = true → u.role = 2 → u.eligible = true → (u.casc.bcnAt.all fun l => decide (l / 400 < a.tb / 400)) = true →
      ∃ b, exec (.beaconSend t) s = .next b ∧ b.role = 2 ∧ b.casc.bcnAt = some a.tb ∧
        ∀ x : Link, u.carries x 2 = true → ((b.casc.sent.any fun q => q.link == x.val && q.t == a.tb && (q.f.typ == 2 && q.f.orig == u.ownId)) || (b.lnk x.val).wait.any fun q => (q.f.typ == 2 && q.f.orig == u.ownId)) = true) ∧
    (∀ (x : Link) (h : LinkHdr) (ws : List Word), u.linkRuns x = true → u.carries x 2 = true → bits h.h0.toNat 4 4 = 2 →
      bits h.h0.toNat 0 2 ≠ u.ownId →
      (u.casc.seen.all fun q => !(q.1 == bits h.h0.toNat 0 2 && q.2.1 == h.h1.toNat % 256) || decide (q.2.2 + 4000 ≤ a.tb)) = true →
      u.cascOn = true → ws.length = 10 → u.role = 1 → u.link2 x = true →
      let w (i : Nat) := (ws.getD i 0).toNat
      ∃ b, exec (.linkBeacon t x h ws) s = .next b ∧ b.role = 3 ∧ b.rd CASC_CASC_STAT_MASTER_V = 1 ∧
        b.rd CASC_CASC_STAT_MASTER = bits h.h0.toNat 0 2 ∧ b.rd CASC_CASC_STAT_EPOCH = bits (w 4) 24 8 ∧
        b.rd CASC_F_OFS_LO_OFS + 2 ^ 32 * b.rd CASC_F_OFS_HI_OFS =
          ofS 64 ((a.tb : Int) - (u.rd (LINK_DELAY_DELAY x) + w 3 % 65536 : Nat) - (w 1 * 2 ^ 32 + w 2 : Nat)) ∧
        (u.rd CASC_CASC_CFG_FMODE = 0 → b.follow.isSome = true)) ∧
    (∀ (x : Link) (h : LinkHdr) (w : Word), u.linkRuns x = true → u.carries x 3 = true → bits h.h0.toNat 4 4 = 3 →
      bits h.h0.toNat 0 2 ≠ u.ownId →
      (u.casc.seen.all fun q => !(q.1 == bits h.h0.toNat 0 2 && q.2.1 == h.h1.toNat % 256) || decide (q.2.2 + 4000 ≤ a.tb)) = true →
      u.cascOn = true →
      ∃ b, exec (.linkStatus t x h w) s = .next b ∧
        tget none b.casc.peers (bits w.toNat 30 2) = some ⟨bit w.toNat 29, a.tb⟩ ∧ b.casc.epochMax = max u.casc.epochMax (bits w.toNat 16 8)) ∧
    (u.cascOn = true → u.role ≠ 0 → u.role ≠ 2 →
      (u.casc.statAt.all fun l => decide (l + (if u.dupEn then 400 else 4000) ≤ a.tb)) = true →
      ∃ b, exec (.statusSend t) s = .next b ∧ b.casc.statAt = some a.tb ∧ ∀ x : Link, u.carries x 3 = true →
        ((b.casc.sent.any fun q => q.link == x.val && q.t == a.tb && (q.f.typ == 3 && q.f.orig == u.ownId && q.f.pay == [u.ownId * 2 ^ 30 + b2n u.eligible * 2 ^ 29 + u.rd CASC_DUP_STAT_BLOST * 2 ^ 28 + b2n u.dupEn * 2 ^ 27 + u.role * 2 ^ 24 + u.rd CASC_CASC_STAT_EPOCH * 2 ^ 16 + u.casc.bcnFc])) || (b.lnk x.val).wait.any fun q => (q.f.typ == 3 && q.f.orig == u.ownId && q.f.pay == [u.ownId * 2 ^ 30 + b2n u.eligible * 2 ^ 29 + u.rd CASC_DUP_STAT_BLOST * 2 ^ 28 + b2n u.dupEn * 2 ^ 27 + u.role * 2 ^ 24 + u.rd CASC_CASC_STAT_EPOCH * 2 ^ 16 + u.casc.bcnFc])) = true) ∧
    (∀ (x : Link) (h : LinkHdr) (w : Word), u.linkRuns x = true → u.carries x 7 = true → bits h.h0.toNat 4 4 = 7 →
      bits h.h0.toNat 0 2 ≠ u.ownId →
      (u.casc.seen.all fun q => !(q.1 == bits h.h0.toNat 0 2 && q.2.1 == h.h1.toNat % 256) || decide (q.2.2 + 4000 ≤ a.tb)) = true →
      u.cascOn = true → u.role = 2 → u.dupEn = true → u.rd CASC_CASC_STAT_EPOCH < bits w.toNat 16 8 →
      ∃ b, exec (.linkClaim t x h w) s = .next b ∧
        b.role = 4 ∧ b.rd CASC_CASC_STAT_MASTER_V = 0 ∧ b.casc.epochMax = max u.casc.epochMax (bits w.toNat 16 8)) ∧
    (u.cascOn = true → u.role = 3 → u.casc.claim = none → u.casc.mstBcn + 1200 ≤ a.tb → u.isSucc = true →
      ∃ b, exec (.beaconLoss t) s = .next b ∧ b.role = 3 ∧ b.rd CASC_DUP_STAT_BLOST = 1 ∧ b.rd CASC_CNT0_BLOST = satN 8 (u.rd CASC_CNT0_BLOST + 1) ∧
        b.casc.claim = some (a.tb + 2 * ((links.filter u.linkUp).foldl (fun d x => max d (u.rd (LINK_DELAY_DELAY x))) 0) + 120)) ∧
    (u.cascOn = true → u.role = 3 → u.casc.claim = none → u.casc.mstBcn + 1200 ≤ a.tb → u.isSucc = false →
      ∃ b, exec (.beaconLoss t) s = .next b ∧ b.role = 1 ∧ b.rd CASC_CASC_STAT_MASTER_V = 0 ∧ b.rd CASC_DUP_STAT_BLOST = 1 ∧ b.rd CASC_CNT0_BLOST = satN 8 (u.rd CASC_CNT0_BLOST + 1) ∧ b.casc.claim = none) ∧
    (∀ (e : Nat), u.cascOn = true → u.role = 3 → u.casc.claim = some e → e ≤ a.tb →
      ∃ b, exec (.claimWaitEnd t) s = .next b ∧ b.role = 2 ∧ b.rd CASC_CASC_STAT_MASTER = u.ownId ∧
        b.rd CASC_CASC_STAT_EPOCH = (u.rd CASC_CASC_STAT_EPOCH + 1) % 256 ∧ b.casc.claim = none)

/-- EVENT, RREQ, RRSP, REMOTE_ACCESS, REMOTE_TIMEOUT (R65, R437 to R439). -/
def Obligations.CascadeEventsAndRemoteAccess : Prop :=
  ∀ (s a u : State) (t : Nat), a = s.advance t → linkOk a = true → u = a.linkBegin →
    (∀ (x : Link) (h : LinkHdr) (w : Word), u.linkRuns x = true → u.carries x 4 = true → bits h.h0.toNat 4 4 = 4 →
      bits h.h0.toNat 0 2 ≠ u.ownId →
      (u.casc.seen.all fun q => !(q.1 == bits h.h0.toNat 0 2 && q.2.1 == h.h1.toNat % 256) || decide (q.2.2 + 4000 ≤ a.tb)) = true →
      u.cascOn = true → bits w.toNat 30 2 ≤ 1 →
      ∃ b, exec (.linkEvent t x h w) s = .next b ∧ b.rtr.pulses = u.rtr.pulses ++ [(248 + bits w.toNat 30 2, a.tb)]) ∧
    (∀ (x : Link) (h : LinkHdr) (w : Word), u.linkRuns x = true → u.carries x 4 = true → bits h.h0.toNat 4 4 = 4 →
      bits h.h0.toNat 0 2 ≠ u.ownId →
      (u.casc.seen.all fun q => !(q.1 == bits h.h0.toNat 0 2 && q.2.1 == h.h1.toNat % 256) || decide (q.2.2 + 4000 ≤ a.tb)) = true →
      u.cascOn = true → bits w.toNat 30 2 = 2 →
      ∃ b, exec (.linkEvent t x h w) s = .next b ∧
        b.casc.bq = (if u.casc.bq.length < 8 then u.casc.bq ++ [(bits h.h0.toNat 0 2, bits w.toNat 0 16)] else u.casc.bq) ∧
        b.rd CASC_CNT1_BCAST = satN 16 (u.rd CASC_CNT1_BCAST + 1) ∧ bit (b.rd (PG_IFLAG_FLAG 0xCC)) 4 = true) ∧
    (∀ (m : Master) (d : Bool) (y v : Word), u.remCode m y.toNat d = 0 →
      ∃ b, exec (.remoteAccess t m d y v) s = .next b ∧
        (b.casc.rem.any fun r => r.m == m.val && r.write == d && r.addr == y.toNat && r.v == v.toNat) = true) ∧
    (∀ (m : Master) (d : Bool) (y v : Word), u.remCode m y.toNat d ≠ 0 →
      ∃ b, exec (.remoteAccess t m d y v) s = .next b ∧ b.casc = u.casc ∧
        (u.on SYS_ACC_ERR_VALID = false → b.rd SYS_ACC_ERR_CODE = u.remCode m y.toNat d ∧ b.rd SYS_ACC_ERR_MASTER = m.val ∧ b.rd SYS_ACC_ERR_ADDR_ADDR = y.toNat)) ∧
    (∀ (x : Link) (h : LinkHdr) (w0 w1 : Word) (r : RemReq), u.linkRuns x = true → u.carries x 6 = true →
      bits h.h0.toNat 4 4 = 6 → bits h.h0.toNat 0 2 ≠ u.ownId →
      (u.casc.seen.all fun q => !(q.1 == bits h.h0.toNat 0 2 && q.2.1 == h.h1.toNat % 256) || decide (q.2.2 + 4000 ≤ a.tb)) = true →
      bits w0.toNat 30 2 = u.ownId → u.casc.rem.find? (fun r => r.m == bits w0.toNat 24 4 && r.sent.isSome) = some r →
      ∃ b, exec (.linkRrsp t x h w0 w1) s = .next b ∧
        (⟨r.m, r.write, r.addr, bits w0.toNat 21 2, w1.toNat, bits w0.toNat 16 5⟩ : RemEnd) ∈ b.casc.remDone) ∧
    (∀ (m : Master) (r : RemReq) (l : Nat), u.casc.rem.find? (fun r => r.m == m.val) = some r → r.sent = some l →
      l + 800 ≤ a.tb →
      ∃ b, exec (.remoteTimeout t m) s = .next b ∧ (⟨r.m, r.write, r.addr, 4, 0, 0⟩ : RemEnd) ∈ b.casc.remDone) ∧
    (∀ (x : Link) (h : LinkHdr) (w0 w1 : Word) (z : Nat), u.linkRuns x = true → u.carries x 5 = true →
      bits h.h0.toNat 4 4 = 5 → bits h.h0.toNat 0 2 ≠ u.ownId →
      (u.casc.seen.all fun q => !(q.1 == bits h.h0.toNat 0 2 && q.2.1 == h.h1.toNat % 256) || decide (q.2.2 + 4000 ≤ a.tb)) = true →
      bits w0.toNat 30 2 = u.ownId → 0x100000 ≤ bits w0.toNat 0 24 → bits w0.toNat 0 24 < 0x140000 →
      z = 0x10000000 + (bits w0.toNat 0 24 - 0x100000) → bit w0.toNat 29 = false → u.readCode 10 z = 0 →
      u.grantable 10 1 = true →
      ∃ b, exec (.linkRreq t x h w0 w1) s = .next b ∧
        ∃ y : Link, ((b.casc.sent.any fun q => q.link == y.val && q.t == a.tb && (q.f.typ == 6 && q.f.orig == u.ownId && q.f.pay == [bits h.h0.toNat 0 2 * 2 ^ 30 + bits w0.toNat 24 4 * 2 ^ 24, rdWord u.mem z])) || (b.lnk y).wait.any fun q => (q.f.typ == 6 && q.f.orig == u.ownId && q.f.pay == [bits h.h0.toNat 0 2 * 2 ^ 30 + bits w0.toNat 24 4 * 2 ^ 24, rdWord u.mem z])) = true) ∧
    (∀ (x : Link) (h : LinkHdr) (w0 w1 : Word) (z : Nat), u.linkRuns x = true → u.carries x 5 = true →
      bits h.h0.toNat 4 4 = 5 → bits h.h0.toNat 0 2 ≠ u.ownId →
      (u.casc.seen.all fun q => !(q.1 == bits h.h0.toNat 0 2 && q.2.1 == h.h1.toNat % 256) || decide (q.2.2 + 4000 ≤ a.tb)) = true →
      bits w0.toNat 30 2 = u.ownId → 0x100000 ≤ bits w0.toNat 0 24 → bits w0.toNat 0 24 < 0x140000 →
      z = 0x10000000 + (bits w0.toNat 0 24 - 0x100000) → bit w0.toNat 29 = true → u.putCode 10 z w1.toNat 15 = 0 →
      u.grantable 10 1 = true →
      ∃ b, exec (.linkRreq t x h w0 w1) s = .next b ∧ rdWord b.mem z = w1.toNat ∧
        (∀ y, y < z ∨ z + 4 ≤ y → rdByte b.mem y = rdByte u.mem y) ∧
        ∃ y : Link, ((b.casc.sent.any fun q => q.link == y.val && q.t == a.tb && (q.f.typ == 6 && q.f.orig == u.ownId && q.f.pay == [bits h.h0.toNat 0 2 * 2 ^ 30 + bits w0.toNat 24 4 * 2 ^ 24, 0])) || (b.lnk y).wait.any fun q => (q.f.typ == 6 && q.f.orig == u.ownId && q.f.pay == [bits h.h0.toNat 0 2 * 2 ^ 30 + bits w0.toNat 24 4 * 2 ^ 24, 0])) = true) ∧
    (∀ (x : Link) (h : LinkHdr) (w0 w1 : Word) (z : Nat), u.linkRuns x = true → u.carries x 5 = true →
      bits h.h0.toNat 4 4 = 5 → bits h.h0.toNat 0 2 ≠ u.ownId →
      (u.casc.seen.all fun q => !(q.1 == bits h.h0.toNat 0 2 && q.2.1 == h.h1.toNat % 256) || decide (q.2.2 + 4000 ≤ a.tb)) = true →
      bits w0.toNat 30 2 = u.ownId → 0x100000 ≤ bits w0.toNat 0 24 → bits w0.toNat 0 24 < 0x140000 →
      z = 0x10000000 + (bits w0.toNat 0 24 - 0x100000) → bit w0.toNat 29 = false → u.readCode 10 z ≠ 0 →
      ∃ b, exec (.linkRreq t x h w0 w1) s = .next b ∧ b.mem = u.mem ∧
        ∃ y : Link, ((b.casc.sent.any fun q => q.link == y.val && q.t == a.tb && (q.f.typ == 6 && q.f.orig == u.ownId && q.f.pay == [bits h.h0.toNat 0 2 * 2 ^ 30 + bits w0.toNat 24 4 * 2 ^ 24 + (if u.readCode 10 z = 2 then 2 else 1) * 2 ^ 21, 0])) || (b.lnk y).wait.any fun q => (q.f.typ == 6 && q.f.orig == u.ownId && q.f.pay == [bits h.h0.toNat 0 2 * 2 ^ 30 + bits w0.toNat 24 4 * 2 ^ 24 + (if u.readCode 10 z = 2 then 2 else 1) * 2 ^ 21, 0])) = true)

/-- FAULT_MESSAGE, FAULT_SLOT_SEND, INJ_CTRL, KCFG_WRITE (R445, R455, R456, R469). -/
def Obligations.FaultSenders : Prop :=
  ∀ (s a : State) (t : Nat), a = s.advance t → State.fltOn a = true →
    (∀ (v : BitVec 64) (m : Msg), m = { msgOf v.toNat with sev := (a.kcfg (msgOf v.toNat).kind).sev } →
      (kindReset m.kind).isSome = true → (srcListed m.src && srcListed m.cause && (m.qseg == 0xFF || segOk m.qseg)) = true →
      ownCrimson.contains m.kind = false → (tget {} a.flt.slots m.src).wait = none →
      ((tget {} a.flt.slots m.src).last.all fun l => decide (l + 400 ≤ a.tb)) = true →
      ∃ b, exec (.faultMessage t v) s = .next b ∧ b.flt.arriving = a.flt.arriving ++ [⟨m, 0, false, a.tb⟩] ∧
        (tget {} b.flt.slots m.src).last = some a.tb ∧ (tget {} b.flt.slots m.src).wait = none) ∧
    (∀ (v : BitVec 64) (m : Msg) (l : Nat), m = { msgOf v.toNat with sev := (a.kcfg (msgOf v.toNat).kind).sev } →
      (kindReset m.kind).isSome = true → (srcListed m.src && srcListed m.cause && (m.qseg == 0xFF || segOk m.qseg)) = true →
      ownCrimson.contains m.kind = false → (tget {} a.flt.slots m.src).wait = none → (tget {} a.flt.slots m.src).last = some l →
      a.tb < l + 400 →
      ∃ b, exec (.faultMessage t v) s = .next b ∧ b.flt.arriving = a.flt.arriving ∧ (tget {} b.flt.slots m.src).wait = some (m, false) ∧ (tget {} b.flt.slots m.src).rep = 0) ∧
    (∀ (v : BitVec 64) (m : Msg) (w : Msg) (i : Bool) (l : Nat),
      m = { msgOf v.toNat with sev := (a.kcfg (msgOf v.toNat).kind).sev } → (kindReset m.kind).isSome = true →
      (srcListed m.src && srcListed m.cause && (m.qseg == 0xFF || segOk m.qseg)) = true → ownCrimson.contains m.kind = false →
      (tget {} a.flt.slots m.src).wait = some (w, i) → (tget {} a.flt.slots m.src).last = some l → a.tb < l + 400 →
      m.sev ≤ w.sev → w.cause = m.cause → w.kind = m.kind →
      ∃ b, exec (.faultMessage t v) s = .next b ∧ b.flt.arriving = a.flt.arriving ∧ (tget {} b.flt.slots m.src).wait = some (w, i) ∧
        (tget {} b.flt.slots m.src).rep = (tget {} a.flt.slots m.src).rep + 1) ∧
    (∀ (v : BitVec 64) (m : Msg) (w : Msg) (i : Bool) (l : Nat),
      m = { msgOf v.toNat with sev := (a.kcfg (msgOf v.toNat).kind).sev } → (kindReset m.kind).isSome = true →
      (srcListed m.src && srcListed m.cause && (m.qseg == 0xFF || segOk m.qseg)) = true → ownCrimson.contains m.kind = false →
      (tget {} a.flt.slots m.src).wait = some (w, i) → (tget {} a.flt.slots m.src).last = some l → a.tb < l + 400 →
      m.sev ≤ w.sev → (w.cause ≠ m.cause ∨ w.kind ≠ m.kind) →
      ∃ b, exec (.faultMessage t v) s = .next b ∧ b.flt.arriving = a.flt.arriving ∧ b.flt.slots = a.flt.slots ∧
        bits (b.rd FLT_RL_DROP_CNT) (8 * (m.src / 1024 % 4)) 8 = satN 8 (bits (a.rd FLT_RL_DROP_CNT) (8 * (m.src / 1024 % 4)) 8 + 1)) ∧
    (∀ (v : BitVec 64) (m : Msg) (w : Msg) (i : Bool) (l : Nat),
      m = { msgOf v.toNat with sev := (a.kcfg (msgOf v.toNat).kind).sev } → (kindReset m.kind).isSome = true →
      (srcListed m.src && srcListed m.cause && (m.qseg == 0xFF || segOk m.qseg)) = true → ownCrimson.contains m.kind = false →
      (tget {} a.flt.slots m.src).wait = some (w, i) → (tget {} a.flt.slots m.src).last = some l → a.tb < l + 400 →
      w.sev < m.sev →
      ∃ b, exec (.faultMessage t v) s = .next b ∧ b.flt.arriving = a.flt.arriving ∧ (tget {} b.flt.slots m.src).wait = some (m, false) ∧
        (tget {} b.flt.slots m.src).rep = 0 ∧
        bits (b.rd FLT_RL_DROP_CNT) (8 * (w.src / 1024 % 4)) 8 = satN 8 (bits (a.rd FLT_RL_DROP_CNT) (8 * (w.src / 1024 % 4)) 8 + (1 + (tget {} a.flt.slots m.src).rep))) ∧
    (∀ (v : BitVec 64) (m : Msg), m = { msgOf v.toNat with sev := (a.kcfg (msgOf v.toNat).kind).sev } →
      (kindReset m.kind).isSome = true → (srcListed m.src && srcListed m.cause && (m.qseg == 0xFF || segOk m.qseg)) = true →
      ownCrimson.contains m.kind = true →
      ∃ b, exec (.faultMessage t v) s = .next b ∧ b.flt.crim.contains (crimElem m.cause) = true) ∧
    (∀ (v : BitVec 64) (m : Msg), m = msgOf v.toNat →
      ((kindReset m.kind).isNone = true ∨ (srcListed m.src && srcListed m.cause && (m.qseg == 0xFF || segOk m.qseg)) = false) →
      ∃ b, exec (.faultMessage t v) s = .next b ∧ b.flt = a.flt ∧ b.regs = a.regs) ∧
    (∀ (c : BitVec 12) (w : Msg) (i : Bool) (l : Nat), (tget {} a.flt.slots c.toNat).wait = some (w, i) →
      (tget {} a.flt.slots c.toNat).last = some l → l + 400 ≤ a.tb →
      ∃ b, exec (.faultSlotSend t c) s = .next b ∧ b.flt.arriving = a.flt.arriving ++ [⟨w, (tget {} a.flt.slots c.toNat).rep, i, l + 400⟩] ∧
        tget {} b.flt.slots c.toNat = { last := some (l + 400) }) ∧
    (∀ (c : BitVec 12) (l : Nat), (tget {} a.flt.slots c.toNat).last = some l → a.tb < l + 400 →
      ∃ b, exec (.faultSlotSend t c) s = .next b ∧ b.flt = a.flt ∧ b.regs = a.regs) ∧
    (∀ (x : Master) (y : Word) (u : State), a.mayWrite x 4 0xA4 y.toNat 0xFFFFFFFF = true → u = a.charged x 4 0xA4 →
      bit y.toNat 31 = true → (kindReset (bits y.toNat 20 8)).isSome = true → srcListed (bits y.toNat 0 12) = true →
      (tget {} u.flt.slots (bits y.toNat 0 12)).wait = none →
      ((tget {} u.flt.slots (bits y.toNat 0 12)).last.all fun l => decide (l + 400 ≤ a.tb)) = true →
      ∃ b, exec (.fltInjCtrl t x y) s = .next b ∧ b.flt.arriving = u.flt.arriving ++ [⟨{ src := bits y.toNat 0 12, qseg := qsegOf (bits y.toNat 0 12), kind := bits y.toNat 20 8, sev := if bits y.toNat 28 2 = 0 then (u.kcfg (bits y.toNat 20 8)).sev else bits y.toNat 28 2, cause := bits y.toNat 0 12, detail := 0 }, 0, true, a.tb⟩]) ∧
    (∀ (x : Master) (y : Word) (u : State), a.mayWrite x 4 0x9C y.toNat 0xFFFFFFFF = true → u = a.charged x 4 0x9C →
      (kindReset (u.rd FLT_KCFG_SEL_KIND)).isSome = true → u.rd FLT_KCFG_SEL_KIND ∉ [0x06, 0x08, 0x32, 0x33, 0x5C] →
      ∃ b, exec (.fltKcfgWrite t x y) s = .next b ∧ b.kcfg (u.rd FLT_KCFG_SEL_KIND) = { sev := bits y.toNat 28 2, react := bits y.toNat 24 3, n := bits y.toNat 8 8, preact := bits y.toNat 20 3 } ∧
        (∀ k, k ≠ u.rd FLT_KCFG_SEL_KIND → b.kcfg k = u.kcfg k)) ∧
    (∀ (x : Master) (y : Word) (u : State), a.mayWrite x 4 0x9C y.toNat 0xFFFFFFFF = true → u = a.charged x 4 0x9C →
      u.rd FLT_KCFG_SEL_KIND ∈ [0x06, 0x08, 0x32, 0x33, 0x5C] →
      ∃ b, exec (.fltKcfgWrite t x y) s = .next b ∧ b.flt.kcfg = u.flt.kcfg)

/-- FAULT_MESSAGE_ARRIVAL, COALESCE_CLOSE, PROMO_WINDOW_END, Q_POP, FE_CLEAR (R446 to R454). -/
def Obligations.FaultCollector : Prop :=
  ∀ (s a : State) (t : Nat), a = s.advance t → State.fltOn a = true →
    (∀ (x : Arrival) (c : KindCfg) (v : Nat) (r : Rec), a.nextArrival a.flt.arriving = some x → c = a.kcfg x.msg.kind →
      v = (if x.inj then x.msg.sev else c.sev) → a.coWin = 0 → a.flt.queue.length < 64 →
      (a.flt.counters.filter fun w => !a.winOver w).find? (fun w => w.cause == x.msg.cause && w.kind == x.msg.kind) = none →
      c.n = 0 → c.react = 0 → 1 ≤ v → v ≤ 2 →
      r = { id := a.flt.nextId, msg := { x.msg with sev := v }, rep := satN 8 x.rep, same := a.flt.lastArrival == some x.time, promo := false, inj := x.inj, react := 0, time := x.time } →
      ∃ b, exec (.faultMessageArrival t) s = .next b ∧ b.flt.arriving = a.flt.arriving.erase x ∧ b.flt.queue = a.flt.queue ++ [r] ∧
        b.flt.hist = (r :: a.flt.hist).take 32 ∧ b.rd FLT_FLT_STAT_FE_VALID = 1 ∧
        b.flt.fe = (if a.on FLT_FLT_STAT_FE_VALID then a.flt.fe else r) ∧ b.flt.nextId = a.flt.nextId + 1) ∧
    (∀ (x : Arrival) (c : KindCfg) (v : Nat) (r : Rec) (w : WinCnt), a.nextArrival a.flt.arriving = some x →
      c = a.kcfg x.msg.kind → v = (if x.inj then x.msg.sev else c.sev) → a.coWin = 0 → a.flt.queue.length < 64 →
      (a.flt.counters.filter fun w => !a.winOver w).find? (fun w => w.cause == x.msg.cause && w.kind == x.msg.kind) = some w →
      w.promoted = false → w.n ≤ w.count + (1 + x.rep) → w.preact = 0 → 1 ≤ v →
      r = { id := a.flt.nextId, msg := { x.msg with sev := min 3 (v + 1) }, rep := satN 8 x.rep, same := a.flt.lastArrival == some x.time, promo := true, inj := x.inj, react := 0, time := x.time } →
      ∃ b, exec (.faultMessageArrival t) s = .next b ∧ b.flt.arriving = a.flt.arriving.erase x ∧ b.flt.queue = a.flt.queue ++ [r] ∧
        b.flt.hist = (r :: a.flt.hist).take 32 ∧ b.rd FLT_FLT_STAT_FE_VALID = 1 ∧
        b.flt.fe = (if a.on FLT_FLT_STAT_FE_VALID then a.flt.fe else r) ∧ b.flt.nextId = a.flt.nextId + 1 ∧
        bit (b.rd (PG_IFLAG_FLAG 4)) 5 = true) ∧
    (∀ (x : Arrival), a.nextArrival a.flt.arriving = some x →
      (a.flt.counters.filter fun w => !a.winOver w).find? (fun w => w.cause == x.msg.cause && w.kind == x.msg.kind) = none →
      (a.kcfg x.msg.kind).n = 0 → (a.kcfg x.msg.kind).react = 1 →
      ∃ b, exec (.faultMessageArrival t) s = .next b ∧ b.flt.crim.contains (crimElem x.msg.cause) = true) ∧
    (∀ (x : Arrival), a.nextArrival a.flt.arriving = some x →
      (a.flt.counters.filter fun w => !a.winOver w).find? (fun w => w.cause == x.msg.cause && w.kind == x.msg.kind) = none →
      (a.kcfg x.msg.kind).n = 0 → (a.kcfg x.msg.kind).react = 4 →
      ∃ b, exec (.faultMessageArrival t) s = .next b ∧ b.pkgCrimson = true ∧ b.flt.lfRec.isSome = true) ∧
    (∀ (e : BitVec 12) (k : BitVec 8) (r : Rec),
      a.flt.open_.find? (fun r => r.msg.cause == e.toNat && r.msg.kind == k.toNat && decide (r.time + a.coWin ≤ a.tb)) = some r →
      a.on MAINT_MUART_CFG_EN = true → a.rd MAINT_MUART_CFG_MIN_SEV ≤ r.msg.sev → a.maint.mu.length < 16 →
      ∃ b, exec (.coalesceClose t e k) s = .next b ∧ b.flt.open_ = a.flt.open_.filter (fun y => y.id != r.id) ∧ b.flt.queue = a.flt.queue ∧
        b.maint.mu = a.maint.mu ++ [muartFrame r]) ∧
    (∀ (e : BitVec 12) (k : BitVec 8),
      ∃ b, exec (.promoWindowEnd t e k) s = .next b ∧ b.flt.counters = a.flt.counters.filter fun w =>
        !(w.cause == e.toNat && w.kind == k.toNat && decide (w.start + max 1 (a.rd FLT_FLT_CFG_WIN) ≤ a.tb / 8000))) ∧
    (∀ (m : Master) (u : State), a.mayWrite m 4 0x5C 1 0xFFFFFFFF = true → u = a.charged m 4 0x5C →
      ∃ b, exec (.fltQPop t m) s = .next b ∧ b.flt.queue = a.flt.queue.drop 1 ∧ b.flt.hist = a.flt.hist ∧ b.flt.open_ = a.flt.open_) ∧
    (∀ (m : Master) (u : State), a.mayWrite m 4 0x44 0x80000000 0x80000000 = true → u = a.charged m 4 0x44 →
      ∃ b, exec (.fltFeClear t m) s = .next b ∧ b.rd FLT_FLT_STAT_FE_VALID = 0 ∧ b.flt.fe = {} ∧ b.flt.queue = a.flt.queue)

/-- MIGRATION, MIGRATION_RESUME, TILE_BIST_END (R26, R460 to R463). -/
def Obligations.Migration : Prop :=
  ∀ (s a : State) (t : Nat), a = s.advance t → State.core 3 a = true →
    (∀ (x : Tile) (g : Mig), a.maint.mig = some g → g.src = x.val → g.moved = false → g.dst ≠ g.src → g.dst ≤ 8 →
      (a.regs.map (·.1)).Nodup →
      ∃ b, exec (.migration t x) s = .next b ∧ 
        b.rd MAINT_LMAP0_MAP = moveMap (a.rd MAINT_LMAP0_MAP) g.src g.dst % 2 ^ 32 ∧ b.rd MAINT_LMAP1_SLATE = 0xF ∧
        b.maint.mig = some { g with moved := true } ∧ ∀ i : Fin 24,
          b.chan (24 * g.dst + i) = { a.chan (24 * g.src + i) with pipe := none } ∧ b.chan (24 * g.src + i) = { safe := true } ∧
          b.rd (TILE_CH_CTRL_EN g.dst i) = a.rd (TILE_CH_CTRL_EN g.src i) ∧ b.rd (TILE_CH_CFG_FUNC g.dst i) = a.rd (TILE_CH_CFG_FUNC g.src i)) ∧
    (∀ (g : Mig), a.maint.mig = some g → g.moved = true → g.src ≤ 8 → g.dst ≤ 8 →
      ∃ b, exec (.migrationResume t) s = .next b ∧ 
        b.maint.mig = none ∧ b.rd MAINT_MIG_STAT_FROM = g.src ∧ b.rd MAINT_MIG_STAT_TO = g.dst ∧
        b.rd MAINT_MIG_TIME_COUNT = satN 16 (a.rd MAINT_MIG_TIME_COUNT + 1) ∧ bit (b.rd (PG_IFLAG_FLAG 5)) 2 = true) ∧
    (∀ (x : Tile), a.runs { act := 2, target := x.val } = true →
      ∃ b, exec (.tileBistEnd t x true) s = .next b ∧ b.rd (TILE_TILE_STAT_RSTD x) = 0 ∧
        b.rd MAINT_LMAP1_SLATE = (if 8 < a.rd MAINT_LMAP1_SLATE then x.val else a.rd MAINT_LMAP1_SLATE) ∧
        b.rd (MAINT_ACT_STAT_RESULT 2) = 3 ∧ b.runs { act := 2, target := x.val } = false) ∧
    (∀ (x : Tile), a.runs { act := 2, target := x.val } = true →
      ∃ b, exec (.tileBistEnd t x false) s = .next b ∧ b.rd (TILE_TILE_STAT_RSTD x) = 0 ∧
        b.rd MAINT_LMAP1_SLATE = (if a.rd MAINT_LMAP1_SLATE = x.val then 0xF else a.rd MAINT_LMAP1_SLATE) ∧
        b.rd (MAINT_ACT_STAT_RESULT 2) = 4 ∧ b.runs { act := 2, target := x.val } = false)

/-- ACT_REQ, ACT_ABORT, TOKEN_GRANT, SCRUB_WORD, ROW_REPAIR, MUART_FRAME_SEND, MUART_READ_REQUEST, MUART_RX_TIMEOUT (R464 to R470). -/
def Obligations.MaintenanceTasks : Prop :=
  ∀ (s a : State) (t : Nat), a = s.advance t → State.core 3 a = true →
    (∀ (m : Master) (c : BitVec 12) (k : Task) (u : State),
      a.mayWrite m 5 0x44 (actWord 0x80000000 0 c.toNat) 0xFFFFFFFF = true → u = a.charged m 5 0x44 →
      k = { act := 0, target := c.toNat } → segOk c.toNat = true → (u.runs k || u.waits k) = false →
      (u.maint.run.any (u.blocks k) || u.maint.wait.any (u.blocks k)) = false →
      ∃ b, exec (.actReq t m 0 c) s = .next b ∧ b.maint.run = u.maint.run ++ [k] ∧ b.maint.wait = u.maint.wait ∧
        b.rd (MAINT_ACT_STAT_RESULT 0) = 1 ∧ b.rd (MAINT_ACT_STAT_TARGET 0) = c.toNat) ∧
    (∀ (m : Master) (c : BitVec 12) (k : Task) (u : State),
      a.mayWrite m 5 0x44 (actWord 0x80000000 0 c.toNat) 0xFFFFFFFF = true → u = a.charged m 5 0x44 →
      k = { act := 0, target := c.toNat } → segOk c.toNat = true → (u.runs k || u.waits k) = false →
      (u.maint.run.any (u.blocks k) || u.maint.wait.any (u.blocks k)) = true →
      ∃ b, exec (.actReq t m 0 c) s = .next b ∧ b.maint.run = u.maint.run ∧ b.maint.wait = u.maint.wait ++ [k] ∧
        b.rd (MAINT_ACT_STAT_RESULT 0) = 2 ∧ bit (b.rd (PG_IFLAG_FLAG 5)) 1 = true) ∧
    (∀ (m : Master) (c : BitVec 12) (k : Task) (u : State),
      a.mayWrite m 5 0x44 (actWord 0x80000000 0 c.toNat) 0xFFFFFFFF = true → u = a.charged m 5 0x44 →
      k = { act := 0, target := c.toNat } → segOk c.toNat = false → (u.runs k || u.waits k) = false →
      ∃ b, exec (.actReq t m 0 c) s = .next b ∧ b.maint = u.maint ∧ b.rd (MAINT_ACT_STAT_RESULT 0) = 6) ∧
    (∀ (m : Master) (d : Fin 16) (c : BitVec 12) (k : Task) (u : State),
      a.mayWrite m 5 0x44 (actWord 0x40000000 d c.toNat) 0xFFFFFFFF = true → u = a.charged m 5 0x44 → (d.val = 0 ∨ d.val = 2) →
      k = { act := d.val, target := c.toNat } → (u.runs k || u.waits k) = true →
      ∃ b, exec (.actAbort t m d c) s = .next b ∧ b.runs k = false ∧ b.waits k = false ∧ b.rd (MAINT_ACT_STAT_RESULT d) = 5 ∧
        b.rd (MAINT_ACT_STAT_COUNT d) = u.rd (MAINT_ACT_STAT_COUNT d)) ∧
    (∀ (k : Task), (a.maint.run.all fun j => j.act != 0) = true → a.nextTask [] a.maint.wait = some k → k.act ≤ 2 →
      ∃ b, exec (.tokenGrant t) s = .next b ∧ b.maint.run = a.maint.run ++ [k] ∧ b.waits k = false ∧ b.rd (MAINT_ACT_STAT_RESULT k.act) = 1) ∧
    (∀ (y : MemBank) (n : Nat), segOk y.qseg = true → a.scrubbing y.qseg = true →
      (a.maint.run.any fun j => j.act == 1 && j.target == y.qseg.val && j.row == n) = false →
      ∃ b, exec (.scrubWord t y n .clean) s = .next b ∧ b.regs = a.regs ∧ b.mem = a.mem ∧ b.flt = a.flt ∧ b.maint = a.maint) ∧
    (∀ (y : MemBank) (n : Nat), segOk y.qseg = true → a.scrubbing y.qseg = true →
      ∃ b, exec (.scrubWord t y n .soft) s = .next b ∧ b.rd MAINT_SCRUB_STAT_CORR = satN 16 (a.rd MAINT_SCRUB_STAT_CORR + 1) ∧ b.mem = a.mem) ∧
    (∀ (y : MemBank) (n : Nat), segOk y.qseg = true → a.scrubbing y.qseg = true →
      ∃ b, exec (.scrubWord t y n .hard) s = .next b ∧ b.rd MAINT_SCRUB_STAT_CORR = satN 16 (a.rd MAINT_SCRUB_STAT_CORR + 1) ∧ b.mem = a.mem ∧
        (b.runs { act := 1, target := y.qseg.val, row := n } || b.waits { act := 1, target := y.qseg.val, row := n }) = true) ∧
    (∀ (y : MemBank) (n : Nat), segOk y.qseg = true → a.scrubbing y.qseg = true → y.qseg.val = 0x4D → y.bank.val < 8 →
      n < 4096 →
      ∃ b, exec (.scrubWord t y n .uncorrectable) s = .next b ∧ b.mem = wrWord a.mem (0x10000000 + 16384 * y.bank.val + 4 * n) 0 ∧
        b.rd MAINT_SCRUB_STAT_CORR = a.rd MAINT_SCRUB_STAT_CORR ∧
        (b.runs { act := 1, target := y.qseg.val, row := n } || b.waits { act := 1, target := y.qseg.val, row := n }) = true) ∧
    (∀ (y : MemBank) (w : BitVec 16) (k : Task), a.maint.run.find? (fun j => j.act == 1 && j.target == y.qseg.val) = some k →
      a.copyTime = true → (a.repOf y.qseg y.bank).used < 2 →
      ∃ b, exec (.rowRepair t y w) s = .next b ∧ b.repOf y.qseg y.bank = { a.repOf y.qseg y.bank with used := (a.repOf y.qseg y.bank).used + 1, row := w.toNat } ∧
        b.rd MAINT_REP_CNT_ROWS = satN 16 (a.rd MAINT_REP_CNT_ROWS + 1) ∧ b.rd (MAINT_ACT_STAT_RESULT 1) = 3 ∧ b.runs k = false) ∧
    (∀ (y : MemBank) (w : BitVec 16) (k : Task), a.maint.run.find? (fun j => j.act == 1 && j.target == y.qseg.val) = some k →
      a.copyTime = true → 2 ≤ (a.repOf y.qseg y.bank).used →
      ∃ b, exec (.rowRepair t y w) s = .next b ∧ b.repOf y.qseg y.bank = { a.repOf y.qseg y.bank with exhausted := true } ∧
        b.rd MAINT_REP_CNT_ROWS = a.rd MAINT_REP_CNT_ROWS ∧ b.rd (MAINT_ACT_STAT_RESULT 1) = 4 ∧ bit (b.rd (PG_IFLAG_FLAG 5)) 3 = true ∧ b.runs k = false) ∧
    (∀ (y : MemBank) (w : BitVec 16) (k : Task), a.maint.run.find? (fun j => j.act == 1 && j.target == y.qseg.val) = some k →
      a.copyTime = false →
      ∃ b, exec (.rowRepair t y w) s = .next b ∧ b.maint = a.maint ∧ b.regs = a.regs ∧ b.mem = a.mem) ∧
    (∀ (f : List Nat) (r : List (List Nat)), (a.casc.remDone.all fun r => !(r.m == 2 && !r.write)) = true →
      a.on MAINT_MUART_CFG_EN = true → a.maint.muFree ≤ a.now → a.maint.muAns = f :: r →
      ∃ b, exec (.muartFrameSend t) s = .next b ∧ b.maint.muTx = [f] ∧ b.maint.muFree = a.now + a.muartTicks f.length ∧
        b.maint.muAns = r ∧ b.maint.mu = a.maint.mu) ∧
    (∀ (f : List Nat) (r : List (List Nat)), (a.casc.remDone.all fun r => !(r.m == 2 && !r.write)) = true →
      a.on MAINT_MUART_CFG_EN = true → a.maint.muFree ≤ a.now → a.maint.muAns = [] → a.maint.mu = f :: r →
      ∃ b, exec (.muartFrameSend t) s = .next b ∧ b.maint.muTx = [f] ∧ b.maint.muFree = a.now + a.muartTicks f.length ∧
        b.maint.muAns = [] ∧ b.maint.mu = r) ∧
    ((a.casc.remDone.all fun r => !(r.m == 2 && !r.write)) = true → a.on MAINT_MUART_CFG_EN = true → a.now < a.maint.muFree →
      ∃ b, exec (.muartFrameSend t) s = .next b ∧ b.maint = a.maint ∧ b.regs = a.regs) ∧
    (∀ (l : List (BitVec 8)) (c : List Nat) (z : Nat), a.muartRx = true → c = l.map (·.toNat) → c.length = 8 →
      c.getD 0 0 = 0xA5 → c.getD 1 0 = 0x10 → crc16 ((c.drop 1).take 5) = c.getD 6 0 * 256 + c.getD 7 0 →
      z = c.getD 2 0 + c.getD 3 0 * 256 + c.getD 4 0 * 65536 + c.getD 5 0 * 16777216 → 0x10000000 ≤ z → z < 0x10040000 →
      a.readCode 2 z = 0 → a.grantable 2 1 = true →
      ∃ b, exec (.muartReadRequest t l) s = .next b ∧ b.maint.muAns = a.maint.muAns ++ [0xA5 :: ((0x03 :: 0 :: bytesLE 4 (rdWord a.mem z)) ++ bytesBE 2 (crc16 (0x03 :: 0 :: bytesLE 4 (rdWord a.mem z))))] ∧ b.mem = a.mem) ∧
    (∀ (l : List (BitVec 8)) (c : List Nat), a.muartRx = true → c = l.map (·.toNat) → c.length = 8 → c.getD 0 0 = 0xA5 →
      c.getD 1 0 = 0x10 → crc16 ((c.drop 1).take 5) ≠ c.getD 6 0 * 256 + c.getD 7 0 →
      ∃ b, exec (.muartReadRequest t l) s = .next b ∧ b.maint.muAns = a.maint.muAns ++ [0xA5 :: ((0x03 :: 3 :: bytesLE 4 0) ++ bytesBE 2 (crc16 (0x03 :: 3 :: bytesLE 4 0)))] ∧ b.mem = a.mem) ∧
    (∀ (l : List (BitVec 8)), a.muartRx = true → (l.length ≠ 8 ∨ l.getD 0 0 ≠ 0xA5 ∨ l.getD 1 0 ≠ 0x10) →
      ∃ b, exec (.muartReadRequest t l) s = .next b ∧ b.rd MAINT_MUART_STAT_RX_ERR = satN 8 (a.rd MAINT_MUART_STAT_RX_ERR + 1) ∧ b.maint = a.maint) ∧
    (a.muartRx = true →
      ∃ b, exec (.muartRxTimeout t) s = .next b ∧ b.rd MAINT_MUART_STAT_RX_ERR = satN 8 (a.rd MAINT_MUART_STAT_RX_ERR + 1) ∧ b.maint = a.maint)

/-- BLOCK, END, ABORT, IMAGE_TIMEOUT (R474, R478, R482). -/
def Obligations.ImageStream : Prop :=
  ∀ (s a : State) (t : Nat), a = s.advance t → State.core 3 a = true →
    (∀ (w : Nat) (z : List Nat), (a.bootSt = 0x10 ∨ a.bootSt = 0x11) → w = rdWord a.mem 0x10000000 → bits w 24 8 = 1 →
      bits w 16 8 = (a.boot.seq + 1) % 256 → 1 ≤ bits w 0 16 → bits w 0 16 ≤ 4080 →
      z = a.boot.img ++ (List.range (bits w 0 16)).map (fun i => rdWord a.mem (0x10000040 + 4 * i)) → z.length < 40 →
      ∃ b, exec (.imgBlock t) s = .next b ∧ b.boot.img = z ∧ b.boot.seq = bits w 16 8 ∧ b.bootSt = 0x11 ∧
        b.rd SEC_IMG_WORDS_WORDS = z.length ∧ b.rd SEC_IMG_STAT_SEQ = bits w 16 8 ∧ rdWord b.mem 0x10000004 = w / 65536 * 65536 + 0) ∧
    (∀ (w : Nat) (z : List Nat), (a.bootSt = 0x10 ∨ a.bootSt = 0x11) → w = rdWord a.mem 0x10000000 → bits w 24 8 = 1 →
      bits w 16 8 = (a.boot.seq + 1) % 256 → 1 ≤ bits w 0 16 → bits w 0 16 ≤ 4080 →
      z = a.boot.img ++ (List.range (bits w 0 16)).map (fun i => rdWord a.mem (0x10000040 + 4 * i)) → a.boot.img.length < 40 →
      40 ≤ z.length → a.hdrCheck z ≠ 0 →
      ∃ b, exec (.imgBlock t) s = .next b ∧ b.bootSt = 0x13 ∧ b.rd SEC_IMG_STAT_REASON = a.hdrCheck z ∧ rdWord b.mem 0x10000004 = w / 65536 * 65536 + 256 + a.hdrCheck z) ∧
    (∀ (w : Nat), (a.bootSt = 0x10 ∨ a.bootSt = 0x11) → w = rdWord a.mem 0x10000000 → bits w 24 8 = 2 →
      bits w 16 8 = (a.boot.seq + 1) % 256 → bits w 0 16 = 0 → 40 ≤ a.boot.img.length → a.boot.img.length = imgWords a.boot.img →
      a.safeOk a.boot.img = true →
      ∃ b, exec (.imgEnd t) s = .next b ∧ b.bootSt = 0x12 ∧ b.boot.img = a.boot.img ∧ rdWord b.mem 0x10000004 = w / 65536 * 65536 + 0) ∧
    (∀ (w : Nat), (a.bootSt = 0x10 ∨ a.bootSt = 0x11) → w = rdWord a.mem 0x10000000 → bits w 24 8 = 2 →
      bits w 16 8 = (a.boot.seq + 1) % 256 → bits w 0 16 = 0 → 40 ≤ a.boot.img.length → a.boot.img.length = imgWords a.boot.img →
      a.safeOk a.boot.img = false →
      ∃ b, exec (.imgEnd t) s = .next b ∧ b.bootSt = 0x13 ∧ b.rd SEC_IMG_STAT_REASON = 13 ∧ rdWord b.mem 0x10000004 = w / 65536 * 65536 + 256 + 13) ∧
    (∀ (w : Nat), (a.bootSt = 0x10 ∨ a.bootSt = 0x11) → w = rdWord a.mem 0x10000000 → bits w 24 8 = 2 →
      bits w 16 8 = (a.boot.seq + 1) % 256 → bits w 0 16 = 0 →
      (a.boot.img.length < 40 ∨ a.boot.img.length ≠ imgWords a.boot.img) →
      ∃ b, exec (.imgEnd t) s = .next b ∧ b.bootSt = 0x13 ∧ b.rd SEC_IMG_STAT_REASON = 10 ∧ rdWord b.mem 0x10000004 = w / 65536 * 65536 + 256 + 10) ∧
    (∀ (w : Nat), (a.bootSt = 0x10 ∨ a.bootSt = 0x11) → w = rdWord a.mem 0x10000000 → bits w 24 8 = 3 →
      bits w 16 8 = (a.boot.seq + 1) % 256 → bits w 0 16 = 0 →
      ∃ b, exec (.imgAbort t) s = .next b ∧ b.bootSt = 0x13 ∧ b.rd SEC_IMG_STAT_REASON = 11 ∧ rdWord b.mem 0x10000004 = w / 65536 * 65536 + 256 + 11) ∧
    (∀ (w : Nat), (a.bootSt = 0x10 ∨ a.bootSt = 0x11) → w = rdWord a.mem 0x10000000 → bits w 24 8 = 1 →
      bits w 16 8 ≠ a.boot.seq → bits w 16 8 ≠ (a.boot.seq + 1) % 256 →
      ∃ b, exec (.imgBlock t) s = .next b ∧ b.bootSt = 0x13 ∧ b.rd SEC_IMG_STAT_REASON = 10 ∧ rdWord b.mem 0x10000004 = w / 65536 * 65536 + 256 + 10 ∧ b.boot = a.boot) ∧
    (∀ (w : Nat), (a.bootSt = 0x10 ∨ a.bootSt = 0x11) → w = rdWord a.mem 0x10000000 → bits w 24 8 = 1 →
      bits w 16 8 = a.boot.seq →
      ∃ b, exec (.imgBlock t) s = .next b ∧ b.boot = a.boot ∧ b.regs = a.regs ∧ b.mem = a.mem) ∧
    (a.bootSt = 0x11 → a.boot.lastCmd + 400000000 ≤ a.tb →
      ∃ b, exec (.imgTimeout t) s = .next b ∧ b.bootSt = 0x13 ∧ b.rd SEC_IMG_STAT_REASON = 15)

/-- IMAGE_VERIFIED, CLEARING_DONE (R474, R481, R482). -/
def Obligations.ImageVerification : Prop :=
  ∀ (s a : State) (t : Nat), a = s.advance t → State.core 3 a = true →
    (∀ (on : Bool), a.bootSt = 0x12 → a.imgVerify a.boot.img ≠ 0 →
      ∃ b, exec (.imgVerified t on) s = .next b ∧ b.bootSt = 0x13 ∧ b.rd SEC_IMG_STAT_REASON = a.imgVerify a.boot.img) ∧
    (∀ (u v : State) (y : Bool), a.bootSt = 0x12 → a.imgVerify a.boot.img = 0 → u = a.otpUpdate a.boot.img (fun _ => true) →
      u.applyAll (imgSegs a.boot.img) = (y, v) → y = true →
      ∃ b, exec (.imgVerified t true) s = .next b ∧ 
        b.bootSt = 0x20 ∧ b.rd SEC_IMG_STAT_SIGNER = imgSigner a.boot.img ∧ b.rd SEC_IMG_VER_VER = imgW a.boot.img 5 % 2 ^ 32 ∧
        b.rd SEC_IMG_INFO_ROLLBACK = imgRollback a.boot.img ∧ b.rd SEC_IMG_INFO_SEG_N = imgSegN a.boot.img % 2 ^ (SEC_IMG_INFO_SEG_N).w ∧
        (∀ i : Fin 12, b.rd (SEC_IMG_HASH_HASH i) = (shaWords (a.boot.img.take (imgSigned a.boot.img))).getD i 0 % 2 ^ 32) ∧
        ∀ z, 0x10038000 ≤ z → z < 0x10040000 → rdByte b.mem z = 0) ∧
    (∀ (u v : State) (y : Bool), a.bootSt = 0x12 → a.imgVerify a.boot.img = 0 → u = a.otpUpdate a.boot.img (fun _ => true) →
      u.applyAll (imgSegs a.boot.img) = (y, v) → y = false →
      ∃ b, exec (.imgVerified t true) s = .next b ∧ b.bootSt = 0x84 ∧ b.rd SEC_IMG_STAT_REASON = 16) ∧
    (a.bootSt = 0x13 →
      ∃ b, exec (.imgClearingDone t) s = .next b ∧ b.bootSt = 0x10 ∧ b.boot = {} ∧ b.evt = {} ∧ b.rd SEC_IMG_WORDS_WORDS = 0 ∧
        b.rd SEC_IMG_STAT_REJ_CNT = satN 8 (a.rd SEC_IMG_STAT_REJ_CNT + 1) ∧
        ∀ z, rdByte b.mem z = if 0x10000000 ≤ z ∧ z < 0x10004000 ∨ 0x10038000 ≤ z ∧ z < 0x10040000 ∨ 0x20000000 ≤ z ∧ z < 0x20010000 ∨
          0x30000000 ≤ z ∧ z < 0x30040000 then 0 else rdByte a.mem z)

/-- A step is exec of the front command on the state with the rest of the queue; an empty queue idles (the queue is the model's own, log entry 1). -/
def Obligations.StepRunsTheFront : Prop :=
  (∀ (s : State) (c : Instr) (q : List Instr), s.pending = c :: q → step s = exec c { s with pending := q }) ∧
  (∀ s : State, s.pending = [] → step s = .next s)


/-- The state at reset (R8). The timebase 0, empty memory and OTP, and the values of fields that the spec leaves without one are the model's choice (log entries 4, 6 and 7). -/
def Obligations.StateAtReset : Prop :=
  State.reset.pending = [] ∧ State.reset.tb = 0 ∧ State.reset.tb < 2 ^ 64 ∧ State.reset.mem = [] ∧
  Memory.wf State.reset.mem = true ∧ State.reset.pwr.held = true ∧ State.reset.otp = [] ∧
  (∀ f : Field, State.reset.rd f = f.rst % 2 ^ f.w) ∧ State.reset.rd MAINT_LMAP0_MAP = 0x76543210 ∧
  State.reset.rd MAINT_LMAP1_SLATE = 8 ∧ State.reset.rd FLT_FLT_CFG_COALESCE_WIN = 0x64 ∧
  State.reset.rd FLT_FLT_CFG_WIN = 0xC350 ∧ State.reset.rd SYS_REM_ACL_ACL = 0xEF ∧
  (∀ x : Link, State.reset.linkState x = 0) ∧ State.reset.role = 0


/-- The timebase is a 64-bit count that no other command takes back, and a step takes one command off the queue and adds none (R353). -/
def Obligations.TimebaseInvariant : Prop :=
  ∀ s b : State, s.tb < 2 ^ 64 → step s = .next b →
    b.tb < 2 ^ 64 ∧ b.pending = s.pending.tail ∧
    (match s.pending with
     | .deviceReset .. :: _ | .resetRelease .. :: _ | .lfStep .. :: _ | .trefFail .. :: _ | .tbRestoreSwitch .. :: _ => True
     | _ => s.tb ≤ b.tb)


/-- While the device is held in reset (R471, R495) no command has an effect but the release or a new reset. -/
def Obligations.HeldDeviceDoesNothing : Prop :=
  ∀ (n : Nat) (r : Nat → State), (r 0).pwr.held = true → n ≤ (r 0).pending.length →
    (∀ c ∈ (r 0).pending.take n, match c with | .deviceReset .. | .resetRelease .. => False | _ => True) →
    (∀ k < n, step (r k) = .next (r (k + 1))) → 
      r n = { r 0 with pending := (r 0).pending.drop n, hot := (r n).hot, wrote := (r n).wrote, fine := (r n).fine }


/-- While a domain is held in reset its commands have no effect (R11); which domain a command acts in is the model's reading (log entry 2). -/
def Obligations.HeldDomainsDoNothing : Prop :=
  ∀ (c : Instr) (s : State),
    match c with
     | .posEnable t .. | .posEdge t .. | .posDeferredEdge t .. | .posIndex t .. | .posLoad t .. | .vrArmHalve t ..
     | .speedFallbackWindow t .. | .posStuck t .. | .ssiTrig t .. | .ssiPeriodStart t .. | .ssiWord t .. | .ssiTimeout t ..
     | .sentFrame t .. | .trkEnable t .. | .trkCrankEdge t .. | .trkCamEdge t .. | .camWindowClose t ..
     | .candidateConfirm t .. | .trkHalted t | .haltLimit t .. | .trkStall t | .microTick t | .selReq t ..
     | .tblDataAccess t .. | .tblCommit t .. | .learnReq t .. | .learnAbort t .. | .learnDone t | .evtWordStage t ..
     | .evtCommit t .. | .evtCommitEffect t .. | .evtConvStart t .. | .evtConvWin t .. | .evtCmuMark t .. | .evtOut t ..
     | .evtLinkBcast t .. | .evtRun t .. | .evtStop t .. => s.domOn 0 = false → exec c s = .next (s.advance t)
     | .cmdQueueArrival t .. | .evtPulseTEnd t .. | .evtPulseAEnd t .. | .evtDwellMaxEnd t .. | .hostSrq t ..
     | .channelEnable t .. | .channelDisable t .. | .softOffEnd t .. | .channelCapture t .. | .timeMatchFire t ..
     | .angleMatchFire t .. | .coupledMatchFire t .. | .threadGrant t .. | .threadTmax t .. | .gelAdd t .. | .gelSub t ..
     | .gelAnd t .. | .gelOr t .. | .gelXor t .. | .gelShl t .. | .gelShr t .. | .gelSar t .. | .gelMul t .. | .gelMulq t ..
     | .gelMin t .. | .gelMax t .. | .gelCmp t .. | .gelMov t .. | .gelAdda t .. | .gelLdh t .. | .gelLdp t .. | .gelStp t ..
     | .gelLdm t .. | .gelStm t .. | .gelMemComplete t .. | .gelA2t t .. | .gelA2d t .. | .gelQput t .. | .gelLnk t ..
     | .gelSmt t .. | .gelSma t .. | .gelSmc t .. | .gelPin t .. | .gelRdcCap0Time t .. | .gelRdcCap0Angle t ..
     | .gelRdcCap1Time t .. | .gelRdcCap1Angle t .. | .gelRdsTbvLo t .. | .gelRdsTbvHi t .. | .gelRdsAngle t ..
     | .gelRdsSnapshot t .. | .gelRdsChStat t .. | .gelRdsSrqTime t .. | .gelRdsSrqParam t .. | .gelRdsCycCnt t ..
     | .gelChcRel t .. | .gelChcDisarmTime t .. | .gelChcDisarmAngle t .. | .gelChcArmSrqAction t .. | .gelAdj t ..
     | .gelBr t .. | .gelBf t .. | .gelCall t .. | .gelRet t .. | .gelBrk t .. | .gelYield t .. | .gelEnd t ..
     | .gelIllegal t .. | .gelStoreError t .. | .gelEnable t .. | .gelHalt t .. | .gelStep t .. | .gelResume t ..
     | .outArm t .. | .outDisarm t .. | .dpermitAToggle t | .dpermitBToggle t | .bankEnable t .. | .slotCommandRise t ..
     | .slotCommandFall t .. | .bankCmpARise t .. | .bankCmpBFall t .. | .slotTPeak t .. | .slotTBoostMax t ..
     | .slotTQmax t .. | .slotTperMin t .. | .slotLockClear t .. | .slotBlankEnd t .. | .bankThresholdSettled t .. => s.domOn 1 = false → exec c s = .next (s.advance t)
     | .cbcEnable t .. | .convCtrlStart t .. | .convUrgent t .. | .convStop t .. | .convRouterStart t ..
     | .convRouterUrgent t .. | .convBoundary t .. | .convWindowTimeEnd t .. | .convWindowLong t .. | .convResult t ..
     | .resultRead t .. | .vrefEnable t .. | .vrefWarm t | .vrefOkChange t .. | .mainsEdge t | .mainsTimeout t | .calReq t ..
     | .calStart t .. | .calEnd t .. | .calAbort t .. | .cmpEnable t .. | .cmpRefWrite t .. | .cmpLevelChange t ..
     | .cmpSampleWindowEnd t .. | .cmpStReq t .. | .cmpSelftestStep t .. | .cmpStAbort t .. | .cylEnable t ..
     | .cmuSample t .. | .pegOpen t .. | .pegClose t .. | .cmuClose t .. | .cmuRecordReady t .. | .cmuTrimWrite t ..
     | .cmuRecordPost t .. | .volDataAccess t .. | .volCommit t .. | .volTableReady t | .rcReq t .. | .recomputeDone t
     | .loopEnable t .. | .sbufRead t .. | .cylStatusRead t .. | .cleanCrossing t .. => s.domOn 2 = false → exec c s = .next (s.advance t)
     | .regWrite t .. | .freezeWrite t .. | .pgFaultClear t .. | .pageLock t .. | .accessTableWrite t .. | .wideLowRead t ..
     | .wideHighWrite t .. | .wideLowWrite t .. | .softRst t .. | .pageDisable t .. | .selftestDone t .. | .trefFail t ..
     | .dlCalDone t | .tbRestore t .. | .sleepRequest t .. | .dhaltEnter t .. | .dhaltExit t .. | .frameBoundary t
     | .commit t .. | .hostCsFall t .. | .laneBreak t .. | .hello t .. | .hostRead t .. | .hostWrite t ..
     | .hostMaskWrite t .. | .hostStream t .. | .hostSnap64 t .. | .hostAttest t .. | .hostUnknown t .. | .responseReady t ..
     | .responseSendEnd t .. | .attnPulse t .. | .hostSilence t .. | .ipendClear t .. | .mbqRelease t .. | .mbqConfigure t ..
     | .alarmWrite t .. | .alarmFire t | .gptEnable t .. | .gptWrap t .. | .gptMatch t .. | .gptTriggerReset t ..
     | .gptCmpWrite t .. | .gptCapture t .. | .capqRead t .. | .gptSnap t .. | .routerEvent t .. | .dstCfgWrite t ..
     | .swTrig t .. | .dmaChCfgWrite t .. | .dmaStart t .. | .dmaStop t .. | .dmaTrigger t .. | .dmaBurstGrant t
     | .dmaBurstWritten t | .dmaComplete t .. | .dmaDescLoad t .. | .dmaBeatError t .. | .dmaPfbError t | .dmaFence t ..
     | .dmaFenceDone t | .pioEngineEnable t .. | .pioEngineStop t .. | .pioSlotEnable t .. | .pioSlotStop t .. | .pioDrv t ..
     | .pioDir t .. | .pioSho t .. | .pioShi t .. | .pioTake t .. | .pioTakeNb t .. | .pioPut t .. | .pioPutNb t ..
     | .pioSetk t .. | .pioLoop t .. | .pioBr t .. | .pioWaite t .. | .pioWaitf t .. | .pioSigSet t .. | .pioSigClear t ..
     | .pioSigInvert t .. | .pioSigIrq t .. | .pioMovs t .. | .pioHoldTick t .. | .pioSlotFault t .. | .pioFetchError t ..
     | .txqWrite t .. | .rxqRead t .. | .pioPtrig t .. | .pioProgWrite t .. | .linkEnable t .. | .linkAligned t ..
     | .linkTrain t .. | .linkTrainTimeout t .. | .linkDown t .. | .beaconSend t | .linkBeacon t .. | .linkStatus t ..
     | .statusSend t | .linkEvent t .. | .linkClaim t .. | .linkRreq t .. | .linkRrsp t .. | .remoteAccess t ..
     | .remoteTimeout t .. | .cascEnable t .. | .masterElection t | .beaconLoss t | .claimWaitEnd t | .faultMessageArrival t
     | .coalesceClose t .. | .promoWindowEnd t .. | .fltQPop t .. | .fltFeClear t .. | .fltInjCtrl t .. | .fltKcfgWrite t ..
     | .migration t .. | .migrationResume t | .actReq t .. | .actAbort t .. | .tokenGrant t | .tileBistEnd t ..
     | .scrubWord t .. | .rowRepair t .. | .muartFrameSend t | .muartReadRequest t .. | .muartRxTimeout t | .imgBlock t
     | .imgEnd t | .imgAbort t | .imgTimeout t | .imgVerified t .. | .imgClearingDone t | .linkFrameDiscard t ..
     | .trefOkRise t => s.domOn 3 = false → exec c s = .next (s.advance t)
     | .occurrenceSlotArrival t .. | .evtPinSet t .. | .evtPinClr t .. | .evtPulseT t .. | .evtPulseA t .. | .evtDwell t ..
     | .evtDwellSpark t .. | .evtSrq t .. => (s.domOn 0 = false ∨ s.domOn 1 = false) → exec c s = .next (s.advance t)
     | _ => True


/-- The frame of the commands of the position ports, tracker, event table, channels, engines, banks, comparators, converters and combustion units: the parts of the state they leave as they were. -/
def Obligations.FramesOfTheBlocks : Prop :=
  ∀ (s b : State) (c : Instr), exec c s = .next b →
    (match c with
     | .cleanCrossing .. =>
         b = { s with tb := b.tb, hot := b.hot, wrote := b.wrote, fine := b.fine, cmps := b.cmps }
     | .pegOpen .. =>
         b = { s with tb := b.tb, hot := b.hot, wrote := b.wrote, fine := b.fine, cyls := b.cyls }
     | .softOffEnd .. =>
         b = { s with tb := b.tb, hot := b.hot, wrote := b.wrote, fine := b.fine, out := b.out }
     | .vrefWarm .. =>
         b = { s with tb := b.tb, hot := b.hot, wrote := b.wrote, fine := b.fine, regs := b.regs } ∧ ∀ f : Field, (∃ i : Nat, f.key ∈ [
           (CBC_VREF_STAT_WARM i).key, (PG_IFLAG_FLAG i).key]) ∨ b.rd f = s.rd f
     | .cmpLevelChange .. | .cmpSampleWindowEnd .. =>
         b = { s with tb := b.tb, hot := b.hot, wrote := b.wrote, fine := b.fine, cmps := b.cmps, regs := b.regs }
     | .convBoundary .. | .convWindowTimeEnd .. | .convWindowLong .. | .calStart .. =>
         b = { s with tb := b.tb, hot := b.hot, wrote := b.wrote, fine := b.fine, conv := b.conv, regs := b.regs } ∧ ∀ f : Field, (∃ i : Nat, f.key ∈ [
           (CBC_CAL_STAT_RESULT i).key, (CBC_CNT0_START_DROP i).key, (CBC_CNT0_STRAY i).key, (CBC_CNT0_URG_DROP i).key,
           (CBC_CONV_STAT_ENTRY i).key, (CBC_CONV_STAT_PEND i).key, (CBC_CONV_STAT_PEND_ENTRY i).key,
           (CBC_CONV_STAT_SETTLE_LEFT i).key, (CBC_CONV_STAT_STATE i).key, (PG_IFLAG_FLAG i).key]) ∨ b.rd f = s.rd f
     | .mainsEdge .. | .mainsTimeout .. =>
         b = { s with tb := b.tb, hot := b.hot, wrote := b.wrote, fine := b.fine, mains := b.mains, regs := b.regs } ∧ ∀ f : Field, (∃ i : Nat, f.key ∈ [
           (CBC_MAINS_STAT_PERIOD i).key, (CBC_MAINS_STAT_PRESENT i).key, (PG_IFLAG_FLAG i).key]) ∨ b.rd f = s.rd f
     | .dpermitAToggle .. | .dpermitBToggle .. =>
         b = { s with tb := b.tb, hot := b.hot, wrote := b.wrote, fine := b.fine, out := b.out, regs := b.regs } ∧ ∀ f : Field, (f.key ∈ [
           OUT_ARM_STAT_DPA_ACT.key, OUT_ARM_STAT_DPB_ACT.key]) ∨ b.rd f = s.rd f
     | .vrArmHalve .. | .speedFallbackWindow .. =>
         b = { s with tb := b.tb, hot := b.hot, wrote := b.wrote, fine := b.fine, pos := b.pos, regs := b.regs } ∧ ∀ f : Field, (∃ i : Nat, f.key ∈ [
           (POS_SPEED_VALUE i).key, (POS_VR_STAT_ARM i).key]) ∨ b.rd f = s.rd f
     | .sbufRead .. =>
         b = { s with tb := b.tb, hot := b.hot, wrote := b.wrote, fine := b.fine, budg := b.budg, flt := b.flt, regs := b.regs }
     | .vrefOkChange .. =>
         b = { s with tb := b.tb, hot := b.hot, wrote := b.wrote, fine := b.fine, cmps := b.cmps, flt := b.flt, regs := b.regs }
     | .convRouterStart .. | .convRouterUrgent .. =>
         b = { s with tb := b.tb, hot := b.hot, wrote := b.wrote, fine := b.fine, conv := b.conv, regs := b.regs, rtr := b.rtr } ∧ ∀ f : Field, (∃ i : Nat, f.key ∈ [
           (CBC_CNT0_START_DROP i).key, (CBC_CNT0_STRAY i).key, (CBC_CNT0_URG_DROP i).key, (CBC_CONV_STAT_ENTRY i).key,
           (CBC_CONV_STAT_PEND i).key, (CBC_CONV_STAT_PEND_ENTRY i).key, (CBC_CONV_STAT_SETTLE_LEFT i).key,
           (CBC_CONV_STAT_STATE i).key, (PG_IFLAG_FLAG i).key]) ∨ b.rd f = s.rd f
     | .cmuRecordPost .. =>
         b = { s with tb := b.tb, hot := b.hot, wrote := b.wrote, fine := b.fine, cyls := b.cyls, mem := b.mem, regs := b.regs } ∧ ∀ f : Field, (∃ i j : Nat, f.key ∈ [
           (HOST_MBQ_PTR_TAIL i j).key, (HOST_MBQ_STAT_DROP i j).key, (PG_IFLAG_FLAG i).key]) ∨ b.rd f = s.rd f
     | .posIndex .. | .ssiTimeout .. =>
         b = { s with tb := b.tb, hot := b.hot, wrote := b.wrote, fine := b.fine, flt := b.flt, pos := b.pos, regs := b.regs }
     | .slotTperMin .. =>
         b = { s with tb := b.tb, hot := b.hot, wrote := b.wrote, fine := b.fine, out := b.out, regs := b.regs, slots := b.slots } ∧ ∀ f : Field, (∃ i : Nat, f.key ∈ [
           (BANK_CHOP_STAT_LAST_PER i).key, (BANK_CHOP_STAT_MIN_PER i).key, (BANK_ERR_CNT1_CHOP_DLY i).key]) ∨ b.rd f = s.rd f
     | .volTableReady .. =>
         b = { s with tb := b.tb, hot := b.hot, wrote := b.wrote, fine := b.fine, budg := b.budg, cmu := b.cmu, cyls := b.cyls, regs := b.regs }
     | .resultRead .. =>
         b = { s with tb := b.tb, hot := b.hot, wrote := b.wrote, fine := b.fine, budg := b.budg, conv := b.conv, flt := b.flt, regs := b.regs }
     | .cylStatusRead .. =>
         b = { s with tb := b.tb, hot := b.hot, wrote := b.wrote, fine := b.fine, budg := b.budg, cyls := b.cyls, flt := b.flt, regs := b.regs }
     | .trkEnable .. | .outArm .. | .slotLockClear .. =>
         b = { s with tb := b.tb, hot := b.hot, wrote := b.wrote, fine := b.fine, budg := b.budg, flt := b.flt, gpt := b.gpt, regs := b.regs }
     | .cmuTrimWrite .. =>
         b = { s with tb := b.tb, hot := b.hot, wrote := b.wrote, fine := b.fine, chans := b.chans, cyls := b.cyls, maint := b.maint, regs := b.regs }
     | .slotCommandFall .. | .bankCmpBFall .. | .slotTPeak .. =>
         b = { s with tb := b.tb, hot := b.hot, wrote := b.wrote, fine := b.fine, cmps := b.cmps, out := b.out, regs := b.regs, slots := b.slots }
     | .calEnd .. =>
         b = { s with tb := b.tb, hot := b.hot, wrote := b.wrote, fine := b.fine, conv := b.conv, flt := b.flt, maint := b.maint, regs := b.regs }
     | .learnDone .. =>
         b = { s with tb := b.tb, hot := b.hot, wrote := b.wrote, fine := b.fine, flt := b.flt, maint := b.maint, regs := b.regs, trk := b.trk }
     | .ssiWord .. | .sentFrame .. =>
         b = { s with tb := b.tb, hot := b.hot, wrote := b.wrote, fine := b.fine, flt := b.flt, pos := b.pos, regs := b.regs, rtr := b.rtr }
     | .threadGrant .. =>
         b = { s with tb := b.tb, hot := b.hot, wrote := b.wrote, fine := b.fine, budg := b.budg, chans := b.chans, gel := b.gel, maint := b.maint, regs := b.regs }
     | .cmpEnable .. | .cmpRefWrite .. =>
         b = { s with tb := b.tb, hot := b.hot, wrote := b.wrote, fine := b.fine, budg := b.budg, cmps := b.cmps, flt := b.flt, gpt := b.gpt, regs := b.regs }
     | .cmuSample .. | .cmuClose .. =>
         b = { s with tb := b.tb, hot := b.hot, wrote := b.wrote, fine := b.fine, budg := b.budg, cmu := b.cmu, cmuIn := b.cmuIn, cyls := b.cyls, regs := b.regs }
     | .volDataAccess .. =>
         b = { s with tb := b.tb, hot := b.hot, wrote := b.wrote, fine := b.fine, budg := b.budg, cmu := b.cmu, flt := b.flt, gpt := b.gpt, regs := b.regs }
     | .recomputeDone .. =>
         b = { s with tb := b.tb, hot := b.hot, wrote := b.wrote, fine := b.fine, budg := b.budg, cmu := b.cmu, mem := b.mem, nonce := b.nonce, regs := b.regs }
     | .cbcEnable .. | .convCtrlStart .. | .convUrgent .. | .convStop .. =>
         b = { s with tb := b.tb, hot := b.hot, wrote := b.wrote, fine := b.fine, budg := b.budg, conv := b.conv, flt := b.flt, gpt := b.gpt, regs := b.regs }
     | .evtWordStage .. | .evtRun .. =>
         b = { s with tb := b.tb, hot := b.hot, wrote := b.wrote, fine := b.fine, budg := b.budg, evt := b.evt, flt := b.flt, gpt := b.gpt, regs := b.regs }
     | .calReq .. =>
         b = { s with tb := b.tb, hot := b.hot, wrote := b.wrote, fine := b.fine, budg := b.budg, flt := b.flt, gpt := b.gpt, maint := b.maint, regs := b.regs }
     | .posEnable .. | .posLoad .. | .ssiTrig .. =>
         b = { s with tb := b.tb, hot := b.hot, wrote := b.wrote, fine := b.fine, budg := b.budg, flt := b.flt, gpt := b.gpt, pos := b.pos, regs := b.regs }
     | .vrefEnable .. =>
         b = { s with tb := b.tb, hot := b.hot, wrote := b.wrote, fine := b.fine, budg := b.budg, flt := b.flt, gpt := b.gpt, pwr := b.pwr, regs := b.regs }
     | .selReq .. | .tblDataAccess .. | .tblCommit .. =>
         b = { s with tb := b.tb, hot := b.hot, wrote := b.wrote, fine := b.fine, budg := b.budg, flt := b.flt, gpt := b.gpt, regs := b.regs, trk := b.trk }
     | .occurrenceSlotArrival .. =>
         b = { s with tb := b.tb, hot := b.hot, wrote := b.wrote, fine := b.fine, chans := b.chans, evt := b.evt, maint := b.maint, mem := b.mem, regs := b.regs } ∧ ∀ f : Field, (∃ i : Nat, f.key ∈ [
           EVT_ABORT_CNT_ABORT.key, (PG_IFLAG_FLAG i).key]) ∨ b.rd f = s.rd f
     | .bankCmpARise .. | .slotTBoostMax .. | .slotTQmax .. | .slotBlankEnd .. | .bankThresholdSettled .. =>
         b = { s with tb := b.tb, hot := b.hot, wrote := b.wrote, fine := b.fine, cmps := b.cmps, flt := b.flt, out := b.out, regs := b.regs, slots := b.slots }
     | .pegClose .. =>
         b = { s with tb := b.tb, hot := b.hot, wrote := b.wrote, fine := b.fine, cmu := b.cmu, cmuIn := b.cmuIn, cyls := b.cyls, nonce := b.nonce, regs := b.regs } ∧ ∀ f : Field, (∃ i : Nat, f.key ∈ [
           (CYL_PEG_OFS_W i).key, (PG_IFLAG_FLAG i).key]) ∨ b.rd f = s.rd f
     | .convResult .. =>
         b = { s with tb := b.tb, hot := b.hot, wrote := b.wrote, fine := b.fine, cmuIn := b.cmuIn, conv := b.conv, flt := b.flt, nonce := b.nonce, regs := b.regs }
     | .posEdge .. | .posDeferredEdge .. =>
         b = { s with tb := b.tb, hot := b.hot, wrote := b.wrote, fine := b.fine, flt := b.flt, pos := b.pos, regs := b.regs, rtr := b.rtr, trkIn := b.trkIn }
     | .cylEnable .. | .loopEnable .. =>
         b = { s with tb := b.tb, hot := b.hot, wrote := b.wrote, fine := b.fine, budg := b.budg, chans := b.chans, cyls := b.cyls, flt := b.flt, gpt := b.gpt, regs := b.regs }
     | .cmpStReq .. =>
         b = { s with tb := b.tb, hot := b.hot, wrote := b.wrote, fine := b.fine, budg := b.budg, cmpTest := b.cmpTest, flt := b.flt, gpt := b.gpt, maint := b.maint, regs := b.regs }
     | .bankEnable .. =>
         b = { s with tb := b.tb, hot := b.hot, wrote := b.wrote, fine := b.fine, budg := b.budg, cmps := b.cmps, flt := b.flt, gpt := b.gpt, regs := b.regs, slots := b.slots }
     | .volCommit .. | .rcReq .. =>
         b = { s with tb := b.tb, hot := b.hot, wrote := b.wrote, fine := b.fine, budg := b.budg, cmu := b.cmu, flt := b.flt, gpt := b.gpt, nonce := b.nonce, regs := b.regs }
     | .calAbort .. =>
         b = { s with tb := b.tb, hot := b.hot, wrote := b.wrote, fine := b.fine, budg := b.budg, conv := b.conv, flt := b.flt, gpt := b.gpt, maint := b.maint, regs := b.regs }
     | .gelHalt .. =>
         b = { s with tb := b.tb, hot := b.hot, wrote := b.wrote, fine := b.fine, budg := b.budg, flt := b.flt, gel := b.gel, gpt := b.gpt, out := b.out, regs := b.regs }
     | .learnReq .. | .learnAbort .. =>
         b = { s with tb := b.tb, hot := b.hot, wrote := b.wrote, fine := b.fine, budg := b.budg, flt := b.flt, gpt := b.gpt, maint := b.maint, regs := b.regs, trk := b.trk }
     | .gelEnable .. =>
         b = { s with tb := b.tb, hot := b.hot, wrote := b.wrote, fine := b.fine, budg := b.budg, flt := b.flt, gpt := b.gpt, out := b.out, pwr := b.pwr, regs := b.regs }
     | .evtCommitEffect .. =>
         b = { s with tb := b.tb, hot := b.hot, wrote := b.wrote, fine := b.fine, chans := b.chans, evt := b.evt, flt := b.flt, maint := b.maint, mem := b.mem, regs := b.regs }
     | .channelCapture .. =>
         b = { s with tb := b.tb, hot := b.hot, wrote := b.wrote, fine := b.fine, chans := b.chans, flt := b.flt, gel := b.gel, maint := b.maint, regs := b.regs, rtr := b.rtr }
     | .slotCommandRise .. =>
         b = { s with tb := b.tb, hot := b.hot, wrote := b.wrote, fine := b.fine, cmpTest := b.cmpTest, cmps := b.cmps, flt := b.flt, out := b.out, regs := b.regs, slots := b.slots }
     | .cmuRecordReady .. =>
         b = { s with tb := b.tb, hot := b.hot, wrote := b.wrote, fine := b.fine, budg := b.budg, chans := b.chans, cmu := b.cmu, cyls := b.cyls, mem := b.mem, nonce := b.nonce, regs := b.regs }
     | .cmpStAbort .. =>
         b = { s with tb := b.tb, hot := b.hot, wrote := b.wrote, fine := b.fine, budg := b.budg, cmpTest := b.cmpTest, cmps := b.cmps, flt := b.flt, gpt := b.gpt, maint := b.maint, regs := b.regs }
     | .outDisarm .. =>
         b = { s with tb := b.tb, hot := b.hot, wrote := b.wrote, fine := b.fine, budg := b.budg, cmps := b.cmps, flt := b.flt, gpt := b.gpt, out := b.out, regs := b.regs, slots := b.slots }
     | .evtOut .. =>
         b = { s with tb := b.tb, hot := b.hot, wrote := b.wrote, fine := b.fine, evt := b.evt, flt := b.flt, gel := b.gel, maint := b.maint, mem := b.mem, regs := b.regs, rtr := b.rtr }
     | .evtCommit .. =>
         b = { s with tb := b.tb, hot := b.hot, wrote := b.wrote, fine := b.fine, budg := b.budg, chans := b.chans, evt := b.evt, flt := b.flt, gpt := b.gpt, maint := b.maint, mem := b.mem, regs := b.regs }
     | .hostSrq .. | .channelEnable .. =>
         b = { s with tb := b.tb, hot := b.hot, wrote := b.wrote, fine := b.fine, budg := b.budg, chans := b.chans, flt := b.flt, gel := b.gel, gpt := b.gpt, maint := b.maint, regs := b.regs, rtr := b.rtr }
     | .evtDwell .. =>
         b = { s with tb := b.tb, hot := b.hot, wrote := b.wrote, fine := b.fine, chans := b.chans, evt := b.evt, flt := b.flt, gel := b.gel, maint := b.maint, out := b.out, regs := b.regs, rtr := b.rtr }
     | .evtConvStart .. | .evtConvWin .. =>
         b = { s with tb := b.tb, hot := b.hot, wrote := b.wrote, fine := b.fine, conv := b.conv, evt := b.evt, flt := b.flt, gel := b.gel, maint := b.maint, mem := b.mem, regs := b.regs, rtr := b.rtr }
     | .evtCmuMark .. =>
         b = { s with tb := b.tb, hot := b.hot, wrote := b.wrote, fine := b.fine, cyls := b.cyls, evt := b.evt, flt := b.flt, gel := b.gel, maint := b.maint, mem := b.mem, regs := b.regs, rtr := b.rtr }
     | _ => True)


/-- The frame of the commands of the SYSTEM domain: the parts of the state they leave as they were. -/
def Obligations.FramesOfTheSystem : Prop :=
  ∀ (s b : State) (c : Instr), exec c s = .next b →
    (match c with
     | .faultSlotSend .. | .promoWindowEnd .. =>
         b = { s with tb := b.tb, hot := b.hot, wrote := b.wrote, fine := b.fine, flt := b.flt }
     | .gptTriggerReset .. =>
         b = { s with tb := b.tb, hot := b.hot, wrote := b.wrote, fine := b.fine, gpt := b.gpt }
     | .attnPulse .. =>
         b = { s with tb := b.tb, hot := b.hot, wrote := b.wrote, fine := b.fine, host := b.host }
     | .pioHoldTick .. =>
         b = { s with tb := b.tb, hot := b.hot, wrote := b.wrote, fine := b.fine, pio := b.pio }
     | .dlCalDone .. | .hostCsFall .. | .alarmFire .. | .dmaFenceDone .. | .muartRxTimeout .. | .imgTimeout .. =>
         b = { s with tb := b.tb, hot := b.hot, wrote := b.wrote, fine := b.fine, regs := b.regs } ∧ ∀ f : Field, (∃ i : Nat, f.key ∈ [
           CLK_CLK_STAT_DL_CAL.key, DMA_FENCE_BUSY.key, (HOST_BOOT_STAT_STATE i).key, (HOST_ERR_CNT_PROTO i).key,
           (HOST_PORT_STAT_STATE i).key, MAINT_MUART_STAT_RX_ERR.key, (PG_IFLAG_FLAG i).key, SEC_IMG_STAT_REASON.key,
           TB_TB_STAT_ALM_ARMED.key]) ∨ b.rd f = s.rd f
     | .muartFrameSend .. =>
         b = { s with tb := b.tb, hot := b.hot, wrote := b.wrote, fine := b.fine, casc := b.casc, maint := b.maint }
     | .beaconSend .. | .statusSend .. =>
         b = { s with tb := b.tb, hot := b.hot, wrote := b.wrote, fine := b.fine, casc := b.casc, regs := b.regs } ∧ ∀ f : Field, (∃ i : Nat, f.key ∈ [
           CASC_CASC_STAT_MASTER.key, CASC_CASC_STAT_MASTER_V.key, CASC_CASC_STAT_ROLE.key, CASC_CASC_STAT_SUCC.key,
           CASC_CASC_STAT_SUCC_V.key, (LINK_FRM_CNT_TX i).key, (PG_IFLAG_FLAG i).key]) ∨ b.rd f = s.rd f
     | .dmaTrigger .. =>
         b = { s with tb := b.tb, hot := b.hot, wrote := b.wrote, fine := b.fine, dma := b.dma, regs := b.regs } ∧ ∀ f : Field, (∃ i : Nat, f.key ∈ [
           (DMA_CH_STAT_STATE i).key, (DMA_CH_STAT_TRIG_OVR i).key]) ∨ b.rd f = s.rd f
     | .laneBreak .. | .responseSendEnd .. =>
         b = { s with tb := b.tb, hot := b.hot, wrote := b.wrote, fine := b.fine, host := b.host, regs := b.regs } ∧ ∀ f : Field, (∃ i : Nat, f.key ∈ [
           (HOST_ERR_CNT_PROTO i).key, (HOST_PORT_STAT_QUAD i).key, (HOST_PORT_STAT_STATE i).key, (HOST_PORT_STAT_VER i).key,
           (HOST_RESP_CNT_SHORT i).key, (PG_IFLAG_FLAG i).key]) ∨ b.rd f = s.rd f
     | .resetRelease .. | .wake .. | .trefOkRise .. | .lfOkRise .. =>
         b = { s with tb := b.tb, hot := b.hot, wrote := b.wrote, fine := b.fine, pwr := b.pwr, regs := b.regs }
     | .pioPtrig .. =>
         b = { s with tb := b.tb, hot := b.hot, wrote := b.wrote, fine := b.fine, regs := b.regs, rtr := b.rtr } ∧ ∀ f : Field, (∃ i j : Nat, f.key ∈ [
           (PIO_SLOT_STAT_TRIG i j).key]) ∨ b.rd f = s.rd f
     | .imgEnd .. | .imgAbort .. =>
         b = { s with tb := b.tb, hot := b.hot, wrote := b.wrote, fine := b.fine, boot := b.boot, mem := b.mem, regs := b.regs } ∧ ∀ f : Field, (∃ i : Nat, f.key ∈ [
           (HOST_BOOT_STAT_STATE i).key, SEC_IMG_STAT_REASON.key, SEC_IMG_STAT_SEQ.key]) ∨ b.rd f = s.rd f
     | .linkAligned .. | .linkTrain .. | .linkTrainTimeout .. | .linkDown .. | .remoteAccess .. | .remoteTimeout ..
     | .linkFrameDiscard .. =>
         b = { s with tb := b.tb, hot := b.hot, wrote := b.wrote, fine := b.fine, casc := b.casc, flt := b.flt, regs := b.regs }
     | .linkStatus .. | .linkClaim .. =>
         b = { s with tb := b.tb, hot := b.hot, wrote := b.wrote, fine := b.fine, casc := b.casc, nonce := b.nonce, regs := b.regs } ∧ ∀ f : Field, (∃ i : Nat, f.key ∈ [
           CASC_CASC_STAT_MASTER.key, CASC_CASC_STAT_MASTER_V.key, CASC_CASC_STAT_ROLE.key, CASC_CASC_STAT_SUCC.key,
           CASC_CASC_STAT_SUCC_V.key, CASC_DUP_STAT_BLOST.key, (LINK_FRM_CNT_RX i).key, (LINK_FRM_CNT_TX i).key,
           (PG_IFLAG_FLAG i).key]) ∨ b.rd f = s.rd f
     | .dmaComplete .. =>
         b = { s with tb := b.tb, hot := b.hot, wrote := b.wrote, fine := b.fine, dma := b.dma, regs := b.regs, rtr := b.rtr } ∧ ∀ f : Field, (∃ i : Nat, f.key ∈ [
           (DMA_CH_STAT_DONE i).key, (DMA_CH_STAT_STATE i).key, (PG_IFLAG_FLAG i).key]) ∨ b.rd f = s.rd f
     | .hostSilence .. =>
         b = { s with tb := b.tb, hot := b.hot, wrote := b.wrote, fine := b.fine, flt := b.flt, host := b.host, regs := b.regs }
     | .tileBistEnd .. =>
         b = { s with tb := b.tb, hot := b.hot, wrote := b.wrote, fine := b.fine, flt := b.flt, maint := b.maint, regs := b.regs }
     | .pioDrv .. | .pioDir .. | .pioSho .. | .pioShi .. | .pioTake .. | .pioTakeNb .. | .pioSetk .. | .pioLoop ..
     | .pioBr .. | .pioWaite .. | .pioWaitf .. | .pioSigSet .. | .pioSigClear .. | .pioSigInvert .. | .pioSigIrq ..
     | .pioMovs .. | .pioSlotFault .. | .pioFetchError .. =>
         b = { s with tb := b.tb, hot := b.hot, wrote := b.wrote, fine := b.fine, flt := b.flt, pio := b.pio, regs := b.regs }
     | .lfLoss .. =>
         b = { s with tb := b.tb, hot := b.hot, wrote := b.wrote, fine := b.fine, flt := b.flt, pwr := b.pwr, regs := b.regs }
     | .lfModeExit .. =>
         b = { s with tb := b.tb, hot := b.hot, wrote := b.wrote, fine := b.fine, gpt := b.gpt, pwr := b.pwr, regs := b.regs } ∧ ∀ f : Field, (∃ i : Nat, f.key ∈ [
           CLK_CLK_STAT_PLL_TB_LOCK.key, CLK_CLK_STAT_TB_SRC.key, (PG_IFLAG_FLAG i).key,
           TB_TB_STAT_LFMODE.key]) ∨ b.rd f = s.rd f
     | .gptCapture .. =>
         b = { s with tb := b.tb, hot := b.hot, wrote := b.wrote, fine := b.fine, gpt := b.gpt, regs := b.regs, rtr := b.rtr } ∧ ∀ f : Field, (∃ i : Nat, f.key ∈ [
           (GPT_STAT_CAP i).key, (GPT_STAT_CAPOVF i).key, (GPT_STAT_QLVL i).key, (GPT_STAT_QOVF i).key,
           (PG_IFLAG_FLAG i).key]) ∨ b.rd f = s.rd f
     | .dmaDescLoad .. =>
         b = { s with tb := b.tb, hot := b.hot, wrote := b.wrote, fine := b.fine, budg := b.budg, dma := b.dma, flt := b.flt, regs := b.regs }
     | .commit .. | .mbqRelease .. | .mbqConfigure .. | .gptEnable .. | .capqRead .. | .gptSnap .. | .dmaChCfgWrite ..
     | .dmaFence .. | .fltQPop .. | .fltFeClear .. | .fltInjCtrl .. | .fltKcfgWrite .. =>
         b = { s with tb := b.tb, hot := b.hot, wrote := b.wrote, fine := b.fine, budg := b.budg, flt := b.flt, gpt := b.gpt, regs := b.regs }
     | .rxqRead .. =>
         b = { s with tb := b.tb, hot := b.hot, wrote := b.wrote, fine := b.fine, budg := b.budg, flt := b.flt, pio := b.pio, regs := b.regs }
     | .linkRrsp .. =>
         b = { s with tb := b.tb, hot := b.hot, wrote := b.wrote, fine := b.fine, casc := b.casc, flt := b.flt, nonce := b.nonce, regs := b.regs }
     | .migration .. =>
         b = { s with tb := b.tb, hot := b.hot, wrote := b.wrote, fine := b.fine, chans := b.chans, maint := b.maint, out := b.out, regs := b.regs }
     | .gptWrap .. | .gptMatch .. =>
         b = { s with tb := b.tb, hot := b.hot, wrote := b.wrote, fine := b.fine, cmps := b.cmps, gpt := b.gpt, regs := b.regs, rtr := b.rtr } ∧ ∀ f : Field, (∃ i : Nat, f.key ∈ [
           (GPT_STAT_MATCH i).key, (GPT_STAT_OUTL i).key, (GPT_STAT_OVF i).key, (PG_IFLAG_FLAG i).key]) ∨ b.rd f = s.rd f
     | .coalesceClose .. =>
         b = { s with tb := b.tb, hot := b.hot, wrote := b.wrote, fine := b.fine, flt := b.flt, maint := b.maint, mem := b.mem, regs := b.regs }
     | .pioPut .. | .pioPutNb .. =>
         b = { s with tb := b.tb, hot := b.hot, wrote := b.wrote, fine := b.fine, flt := b.flt, mem := b.mem, pio := b.pio, regs := b.regs }
     | .trefFail .. | .tbRestoreSwitch .. =>
         b = { s with tb := b.tb, hot := b.hot, wrote := b.wrote, fine := b.fine, flt := b.flt, nonce := b.nonce, pwr := b.pwr, regs := b.regs }
     | .ssiPeriodStart .. =>
         b = { s with tb := b.tb, hot := b.hot, wrote := b.wrote, fine := b.fine, flt := b.flt, pos := b.pos, regs := b.regs, rtr := b.rtr }
     | .alarmWrite .. =>
         b = { s with tb := b.tb, hot := b.hot, wrote := b.wrote, fine := b.fine, acc := b.acc, budg := b.budg, flt := b.flt, gpt := b.gpt, regs := b.regs }
     | .imgClearingDone .. =>
         b = { s with tb := b.tb, hot := b.hot, wrote := b.wrote, fine := b.fine, boot := b.boot, evt := b.evt, flt := b.flt, mem := b.mem, regs := b.regs }
     | .dmaBurstGrant .. =>
         b = { s with tb := b.tb, hot := b.hot, wrote := b.wrote, fine := b.fine, budg := b.budg, casc := b.casc, dma := b.dma, flt := b.flt, regs := b.regs }
     | .linkEnable .. | .cascEnable .. =>
         b = { s with tb := b.tb, hot := b.hot, wrote := b.wrote, fine := b.fine, budg := b.budg, casc := b.casc, flt := b.flt, gpt := b.gpt, regs := b.regs }
     | .ipendClear .. =>
         b = { s with tb := b.tb, hot := b.hot, wrote := b.wrote, fine := b.fine, budg := b.budg, flt := b.flt, gpt := b.gpt, host := b.host, regs := b.regs }
     | .pioEngineEnable .. | .pioEngineStop .. | .pioSlotEnable .. | .pioSlotStop .. | .txqWrite .. | .pioProgWrite .. =>
         b = { s with tb := b.tb, hot := b.hot, wrote := b.wrote, fine := b.fine, budg := b.budg, flt := b.flt, gpt := b.gpt, pio := b.pio, regs := b.regs }
     | .tbRestore .. =>
         b = { s with tb := b.tb, hot := b.hot, wrote := b.wrote, fine := b.fine, budg := b.budg, flt := b.flt, gpt := b.gpt, pwr := b.pwr, regs := b.regs }
     | .dstCfgWrite .. | .swTrig .. =>
         b = { s with tb := b.tb, hot := b.hot, wrote := b.wrote, fine := b.fine, budg := b.budg, flt := b.flt, gpt := b.gpt, regs := b.regs, rtr := b.rtr }
     | .wakeComplete .. =>
         b = { s with tb := b.tb, hot := b.hot, wrote := b.wrote, fine := b.fine, casc := b.casc, flt := b.flt, host := b.host, pwr := b.pwr, regs := b.regs }
     | .selftestDone .. =>
         b = { s with tb := b.tb, hot := b.hot, wrote := b.wrote, fine := b.fine, flt := b.flt, host := b.host, mem := b.mem, regs := b.regs, rtr := b.rtr }
     | .dmaStart .. | .dmaStop .. =>
         b = { s with tb := b.tb, hot := b.hot, wrote := b.wrote, fine := b.fine, budg := b.budg, casc := b.casc, dma := b.dma, flt := b.flt, gpt := b.gpt, regs := b.regs }
     | .gptCmpWrite .. =>
         b = { s with tb := b.tb, hot := b.hot, wrote := b.wrote, fine := b.fine, budg := b.budg, cmps := b.cmps, flt := b.flt, gpt := b.gpt, regs := b.regs, rtr := b.rtr }
     | .routerEvent .. =>
         b = { s with tb := b.tb, hot := b.hot, wrote := b.wrote, fine := b.fine, casc := b.casc, dma := b.dma, gpt := b.gpt, host := b.host, regs := b.regs, rtr := b.rtr }
     | .xinLoss .. =>
         b = { s with tb := b.tb, hot := b.hot, wrote := b.wrote, fine := b.fine, cmps := b.cmps, flt := b.flt, out := b.out, pwr := b.pwr, regs := b.regs, slots := b.slots }
     | .imgBlock .. =>
         b = { s with tb := b.tb, hot := b.hot, wrote := b.wrote, fine := b.fine, boot := b.boot, chans := b.chans, evt := b.evt, flt := b.flt, maint := b.maint, mem := b.mem, regs := b.regs }
     | .lfStep .. =>
         b = { s with tb := b.tb, hot := b.hot, wrote := b.wrote, fine := b.fine, budg := b.budg, cmps := b.cmps, cmu := b.cmu, dma := b.dma, gpt := b.gpt, pwr := b.pwr, regs := b.regs, rtr := b.rtr }
     | .evtLinkBcast .. =>
         b = { s with tb := b.tb, hot := b.hot, wrote := b.wrote, fine := b.fine, casc := b.casc, evt := b.evt, flt := b.flt, gel := b.gel, maint := b.maint, mem := b.mem, regs := b.regs, rtr := b.rtr }
     | .dmaBeatError .. | .dmaPfbError .. =>
         b = { s with tb := b.tb, hot := b.hot, wrote := b.wrote, fine := b.fine, acc := b.acc, budg := b.budg, casc := b.casc, chans := b.chans, conv := b.conv, cyls := b.cyls, dma := b.dma, flt := b.flt, gpt := b.gpt, maint := b.maint, nonce := b.nonce, pio := b.pio, pos := b.pos, regs := b.regs, trk := b.trk }
     | .faultMessage .. =>
         b = { s with tb := b.tb, hot := b.hot, wrote := b.wrote, fine := b.fine, casc := b.casc, chans := b.chans, cmps := b.cmps, cmuIn := b.cmuIn, conv := b.conv, cyls := b.cyls, evt := b.evt, flt := b.flt, follow := b.follow, gel := b.gel, host := b.host, maint := b.maint, mem := b.mem, out := b.out, pio := b.pio, regs := b.regs, rtr := b.rtr, slots := b.slots, trk := b.trk }
     | .scrubWord .. | .rowRepair .. =>
         b = { s with tb := b.tb, hot := b.hot, wrote := b.wrote, fine := b.fine, bad := b.bad, casc := b.casc, chans := b.chans, cmps := b.cmps, cmuIn := b.cmuIn, conv := b.conv, cyls := b.cyls, evt := b.evt, flt := b.flt, follow := b.follow, gel := b.gel, host := b.host, maint := b.maint, mem := b.mem, out := b.out, pio := b.pio, regs := b.regs, rtr := b.rtr, slots := b.slots, trk := b.trk }
     | .frameBoundary .. =>
         b = { s with tb := b.tb, hot := b.hot, wrote := b.wrote, fine := b.fine, acc := b.acc, budg := b.budg, casc := b.casc, chans := b.chans, cmpTest := b.cmpTest, cmps := b.cmps, cmu := b.cmu, cmuIn := b.cmuIn, conv := b.conv, cyls := b.cyls, dma := b.dma, evt := b.evt, flt := b.flt, follow := b.follow, gel := b.gel, gpt := b.gpt, host := b.host, mains := b.mains, maint := b.maint, mem := b.mem, nonce := b.nonce, out := b.out, pio := b.pio, pos := b.pos, pwr := b.pwr, regs := b.regs, rtr := b.rtr, slots := b.slots, trk := b.trk, trkIn := b.trkIn }
     | _ => True) ∧
    (match c with
     | .pioDrv _ x i | .pioDir _ x i | .pioSho _ x i | .pioShi _ x i _ | .pioTake _ x i | .pioTakeNb _ x i | .pioSetk _ x i
     | .pioLoop _ x i | .pioBr _ x i _ | .pioWaite _ x i _ | .pioWaitf _ x i | .pioSigSet _ x i | .pioSigClear _ x i
     | .pioSigInvert _ x i | .pioSigIrq _ x i | .pioMovs _ x i _ =>
         s.pioBad x i = none →
         (∀ f : Field, f.key / 131072 ≠ pioPage x → b.rd f = s.rd f) ∧ b.flt = s.flt ∧ ∀ y : Engine, y ≠ x → ∀ j : PioSlot, b.sl y j = s.sl y j
     | _ => True)


/-- R405. -/
def Obligations.SlotStart : Prop :=
  ∀ (s a : State) (t : Nat) (m : Master) (x : Engine) (i : PioSlot), a = s.advance t → State.corn 3 a = true →
    a.mayWrite m (pioPage x) (0x100 + 0x20 * i) (2 ^ 31) (2 ^ 31) = true → a.on (PIO_SLOT_CFG_EN x i) = false →
    a.rd (PIO_ENG_STAT_STATE x) = 1 →
    (∃ b, exec (.pioSlotEnable t m x i) s = .next b ∧ b.rd (PIO_SLOT_STAT_STATE x i) = 1 ∧
        b.rd (PIO_SLOT_STAT_PC x i) = a.rd (PIO_SLOT_CFG_START x i) ∧ b.rd (PIO_SLOT_STAT_DIR x i) = a.rd (PIO_SLOT_CFG_DIR x i) ∧
        b.rd (PIO_SLOT_STAT_BC x i) = 0 ∧ b.rd (PIO_SLOT_STAT_CF x i) = 0 ∧ b.rd (PIO_SLOT_STAT_TRIG x i) = 0 ∧ (b.sl x i).sr = 0 ∧
        (b.sl x i).k0 = 0 ∧ (b.sl x i).k1 = 0 ∧ (b.sl x i).phi = 0 ∧ (b.sl x i).tickAt = a.lastTurn i ∧
        (b.sl x i).lastTx = 0 ∧ (b.sl x i).txq = (a.sl x i).txq ∧ (b.sl x i).rxq = (a.sl x i).rxq)

/-- R401. -/
def Obligations.NonBlockingQueues : Prop :=
  ∀ (s a : State) (t : Nat) (x : Engine) (i : PioSlot) (w : Nat) (y : PioS), a = s.advance t → pioOk x a = true →
    a.slRuns x i = true → y = a.sl x i → y.hold = 0 → a.tickDue x i = true → w = a.pioWord x i → a.pioBad x i ≠ some true →
    (pioDecode w = some .takeNb → y.txq = [] →
      ∃ b, exec (.pioTakeNb t x i) s = .next b ∧ (b.sl x i).sr = y.lastTx ∧ (b.sl x i).lastTx = y.lastTx ∧
        b.rd (PIO_SLOT_STAT_BC x i) = (if bits w 6 5 = 0 then 32 else bits w 6 5) ∧ b.rd (PIO_SLOT_CNT0_STALE x i) = satN 16 (a.rd (PIO_SLOT_CNT0_STALE x i) + 1) ∧
        bit (b.rd (PG_IFLAG_FLAG (pioPage x))) 12 = true ∧ b.rd (PIO_SLOT_STAT_PC x i) = (a.rd (PIO_SLOT_STAT_PC x i) + 1) % 2 ^ 8 ∧ b.rd (PIO_SLOT_STAT_STATE x i) = 1) ∧
    (∀ (v : Nat) (r : List Nat), pioDecode w = some .take → y.txq = v :: r →
      ∃ b, exec (.pioTake t x i) s = .next b ∧ (b.sl x i).sr = v ∧ (b.sl x i).lastTx = v ∧ (b.sl x i).txq = r) ∧
    (∀ (v : Nat) (r : List Nat), pioDecode w = some .takeNb → y.txq = v :: r →
      ∃ b, exec (.pioTakeNb t x i) s = .next b ∧ (b.sl x i).sr = v ∧ (b.sl x i).lastTx = v ∧ (b.sl x i).txq = r) ∧
    (pioDecode w = some .putNb → a.rxSize x i ≤ y.rxq.length →
      ∃ b, exec (.pioPutNb t x i) s = .next b ∧ (b.sl x i).rxq = y.rxq ∧ (b.sl x i).sr = 0 ∧ b.rd (PIO_SLOT_STAT_BC x i) = 0 ∧
        b.rd (PIO_SLOT_CNT0_DROP x i) = satN 16 (a.rd (PIO_SLOT_CNT0_DROP x i) + 1) ∧
        bit (b.rd (PG_IFLAG_FLAG (pioPage x))) 13 = true ∧ b.rd (PIO_SLOT_STAT_PC x i) = (a.rd (PIO_SLOT_STAT_PC x i) + 1) % 2 ^ 8 ∧ b.rd (PIO_SLOT_STAT_STATE x i) = 1)

/-- The frame of the instructions with opcodes 0x00 to 0x10, 0x14 and 0x15 (R243, R245). -/
def Obligations.EngineFrame : Prop :=
  ∀ (s a : State) (t : Nat) (g : Engine) (w : Nat) (x : GelS), a = s.advance t → gelOk g a = true →
    a.rd (GEL_GEL_STAT_STATE g) = 2 → a.gelReady g = true → a.atBkpt g = false → a.badFetch g = none → a.fetchBad g = none →
    w = a.gelWord g → x = a.eng g → a.overLimit g (opcCycles (iOpc w) + a.stalledFor g) (opcCycles (iOpc w)) = none →
    (∀ (k : Nat) (c : Instr),
      (k, c) ∈ [(0x00, .gelAdd t g), (0x01, .gelSub t g), (0x02, .gelAnd t g), (0x03, .gelOr t g), (0x04, .gelXor t g),
      (0x05, .gelShl t g), (0x06, .gelShr t g), (0x07, .gelSar t g), (0x08, .gelMul t g), (0x09, .gelMulq t g),
      (0x0A, .gelMin t g), (0x0B, .gelMax t g), (0x0C, .gelCmp t g), (0x0D, .gelMov t g), (0x0E, .gelAdda t g),
      (0x0F, .gelLdh t g), (0x10, .gelLdp t g), (0x14, .gelA2t t g), (0x15, .gelA2d t g)] →
      iOpc w = k →
      ∃ b, exec c s = .next b ∧ b = { a with gel := b.gel, regs := b.regs, budg := { a.budg with use := b.budg.use } } ∧
        (∀ f : Field, f.key = (GEL_GEL_STAT_PC g).key ∨ b.rd f = a.rd f) ∧ (∀ h, h ≠ g.val → b.eng h = a.eng h) ∧
        (∀ i < 8, i ≠ iD w → (b.eng g).reg i = x.reg i) ∧
        b.eng g = { x with g := (b.eng g).g, cc := (b.eng g).cc, cyc := (b.eng g).cyc, cycNs := (b.eng g).cycNs, skipBk := (b.eng g).skipBk })
end

