-- ==== Sys2Proof/Laws/State.lean ====
section
/-! SUPPORT. Small lemmas of the state: tables, register fields, time, and the shape of a command. -/

namespace Sys2Proof.Machine

open Reg

/-! ### Tables -/

section Tables

variable {α : Type}

@[simp] theorem tget_nil (d : α) (n : Nat) : tget d [] n = d := rfl

theorem tget_tdrop (d : α) (t : Tab α) (n m : Nat) : tget d (tdrop t n) m = if m = n then d else tget d t m := by
  induction t with
  | nil => simp [tdrop]
  | cons e r ih =>
    obtain ⟨k, v⟩ := e
    by_cases hk : k = n
    · simp only [tdrop, hk, if_true, ih, tget]
      by_cases hm : m = n
      · simp [hm]
      · simp [hm, Ne.symm hm]
    · simp only [tdrop, hk, if_false, tget, ih]
      by_cases hm : m = n
      · subst hm; simp [hk]
      · simp [hm]

theorem tget_tins (d : α) (t : Tab α) (n m : Nat) (a : α) :
    tget d (tins t n a) m = if m = n then a else tget d t m := by
  induction t with
  | nil => simp only [tins, tget]; by_cases h : n = m <;> simp [h, eq_comm]
  | cons e r ih =>
    obtain ⟨k, v⟩ := e
    simp only [tins]
    by_cases h1 : n < k
    · simp only [h1, if_true, tget]
      by_cases h : m = n
      · simp [h]
      · simp [h, Ne.symm h]
    · by_cases h2 : k = n
      · subst h2
        simp only [h1, if_false, if_true, tget]
        by_cases h : m = k
        · simp [h]
        · simp [h, Ne.symm h]
      · simp only [h1, h2, if_false, tget, ih]
        by_cases h : m = n
        · subst h; simp [h2]
        · simp [h]

/-- What a table reads after a write: the value at the key, every other key as before. -/
theorem tget_tput [DecidableEq α] (d : α) (t : Tab α) (n m : Nat) (v : α) :
    tget d (tput d t n v) m = if m = n then v else tget d t m := by
  unfold tput
  split
  · rename_i h; rw [tget_tdrop, h]
  · rw [tget_tins]

@[simp] theorem tget_tput_self [DecidableEq α] (d : α) (t : Tab α) (n : Nat) (v : α) :
    tget d (tput d t n v) n = v := by rw [tget_tput, if_pos rfl]

theorem tget_tput_ne [DecidableEq α] (d : α) (t : Tab α) {n m : Nat} (v : α) (h : m ≠ n) :
    tget d (tput d t n v) m = tget d t m := by rw [tget_tput, if_neg h]

/-- Every key of a table is above `n`. -/
def above (n : Nat) (t : Tab α) : Prop := ∀ e ∈ t, n < e.1

/-- The canonical form, read from the front. -/
theorem twf_cons [DecidableEq α] (d : α) (k : Nat) (v : α) (r : Tab α) :
    twf d ((k, v) :: r) = true ↔ v ≠ d ∧ above k r ∧ twf d r = true := by
  induction r generalizing k v with
  | nil => simp [twf, above]
  | cons e r ih =>
    obtain ⟨k', v'⟩ := e
    simp only [twf, Bool.and_eq_true, decide_eq_true_eq, above, List.forall_mem_cons]
    constructor
    · rintro ⟨⟨hv, hk⟩, hr⟩
      refine ⟨hv, ⟨hk, fun e he => ?_⟩, hr⟩
      have := ((ih k' v').1 hr).2.1 e he
      omega
    · rintro ⟨hv, ⟨hk, _⟩, hr⟩
      exact ⟨⟨hv, hk⟩, hr⟩

theorem above_tdrop {n k : Nat} {t : Tab α} (h : above k t) : above k (tdrop t n) := by
  induction t with
  | nil => exact h
  | cons e r ih =>
    obtain ⟨k', v'⟩ := e
    have hr : above k r := fun x hx => h x (List.mem_cons_of_mem _ hx)
    simp only [tdrop]
    split
    · exact ih hr
    · intro x hx
      rcases List.mem_cons.1 hx with rfl | hx
      · exact h _ List.mem_cons_self
      · exact ih hr x hx

theorem above_tins {n k : Nat} {t : Tab α} {v : α} (h : above k t) (hn : k < n) : above k (tins t n v) := by
  induction t with
  | nil => intro x hx; simp only [tins, List.mem_singleton] at hx; subst hx; exact hn
  | cons e r ih =>
    obtain ⟨k', v'⟩ := e
    have hr : above k r := fun x hx => h x (List.mem_cons_of_mem _ hx)
    have hk := h _ List.mem_cons_self
    simp only [tins]
    split
    · intro x hx
      rcases List.mem_cons.1 hx with rfl | hx
      · exact hn
      · exact h x hx
    · split
      · intro x hx
        rcases List.mem_cons.1 hx with rfl | hx
        · exact hn
        · exact hr x hx
      · intro x hx
        rcases List.mem_cons.1 hx with rfl | hx
        · exact hk
        · exact ih hr x hx

theorem twf_tdrop [DecidableEq α] (d : α) (t : Tab α) (n : Nat) (h : twf d t = true) : twf d (tdrop t n) = true := by
  induction t with
  | nil => exact h
  | cons e r ih =>
    obtain ⟨k, v⟩ := e
    obtain ⟨hv, ha, hr⟩ := (twf_cons d k v r).1 h
    simp only [tdrop]
    split
    · exact ih hr
    · exact (twf_cons d _ _ _).2 ⟨hv, above_tdrop ha, ih hr⟩

theorem twf_tins [DecidableEq α] (d : α) (t : Tab α) (n : Nat) (v : α) (hv : v ≠ d) (h : twf d t = true) :
    twf d (tins t n v) = true := by
  induction t with
  | nil => simpa [tins, twf] using hv
  | cons e r ih =>
    obtain ⟨k, w⟩ := e
    obtain ⟨hw, ha, hr⟩ := (twf_cons d k w r).1 h
    simp only [tins]
    split
    · rename_i hk
      refine (twf_cons d _ _ _).2 ⟨hv, fun x hx => ?_, h⟩
      rcases List.mem_cons.1 hx with rfl | hx
      · exact hk
      · have := ha x hx; omega
    · split
      · rename_i hk; subst hk
        exact (twf_cons d _ _ _).2 ⟨hv, ha, hr⟩
      · exact (twf_cons d _ _ _).2 ⟨hw, above_tins ha (by omega), ih hr⟩

/-- Writing keeps the canonical form. -/
theorem twf_tput [DecidableEq α] (d : α) (t : Tab α) (n : Nat) (v : α) (h : twf d t = true) :
    twf d (tput d t n v) = true := by
  unfold tput
  split
  · exact twf_tdrop d t n h
  · rename_i hv; exact twf_tins d t n v hv h

end Tables

/-! ### Memory -/

@[simp] theorem rdByte_wrByte (m : List Host.Cell) (a b : Nat) (v : BitVec 8) :
    rdByte (wrByte m a v) b = if b = a then v else rdByte m b := tget_tput 0 m a b v

theorem wf_wrByte (m : List Host.Cell) (a : Nat) (v : BitVec 8) (h : Memory.wf m = true) :
    Memory.wf (wrByte m a v) = true := twf_tput 0 m a v h

theorem wf_wrWordBe (m : List Host.Cell) (a v be : Nat) (h : Memory.wf m = true) :
    Memory.wf (wrWordBe m a v be) = true := by
  unfold wrWordBe
  generalize List.range 4 = l
  induction l generalizing m with
  | nil => exact h
  | cons i l ih =>
    simp only [List.foldl_cons]
    apply ih
    split
    · exact wf_wrByte _ _ _ h
    · exact h

theorem wf_wrWord (m : List Host.Cell) (a v : Nat) (h : Memory.wf m = true) : Memory.wf (wrWord m a v) = true :=
  wf_wrWordBe m a v 15 h

theorem reset_mem_wf : Memory.wf State.reset.mem = true := rfl

/-! ### Register fields -/

theorem rd_wr (s : State) (f g : Field) (v : Nat) (hk : g.key = f.key) (hw : g.w = f.w) (hr : g.rst = f.rst) :
    (s.wr f v).rd g = v % 2 ^ f.w := by
  simp only [State.rd, State.wr, hk, hw, hr]
  unfold tput
  split
  · rename_i h; rw [tget_tdrop, if_pos rfl, h]
  · rw [tget_tins, if_pos rfl, Nat.mod_mod]

/-- A field just written reads as what was written, in its width. -/
@[simp] theorem rd_wr_self (s : State) (f : Field) (v : Nat) : (s.wr f v).rd f = v % 2 ^ f.w := rd_wr s f f v rfl rfl rfl

/-- A field with another key is not touched. -/
theorem rd_wr_ne (s : State) (f g : Field) (v : Nat) (h : g.key ≠ f.key) : (s.wr f v).rd g = s.rd g := by
  simp only [State.rd, State.wr]
  unfold tput
  split
  · rw [tget_tdrop, if_neg h]
  · rw [tget_tins, if_neg h]

@[simp] theorem wr_pending (s : State) (f : Field) (v : Nat) : (s.wr f v).pending = s.pending := rfl
@[simp] theorem wr_tb (s : State) (f : Field) (v : Nat) : (s.wr f v).tb = s.tb := rfl
@[simp] theorem wr_mem (s : State) (f : Field) (v : Nat) : (s.wr f v).mem = s.mem := rfl
@[simp] theorem wr_pwr (s : State) (f : Field) (v : Nat) : (s.wr f v).pwr = s.pwr := rfl
@[simp] theorem wr_flt (s : State) (f : Field) (v : Nat) : (s.wr f v).flt = s.flt := rfl
@[simp] theorem wr_budg (s : State) (f : Field) (v : Nat) : (s.wr f v).budg = s.budg := rfl
@[simp] theorem wr_acc (s : State) (f : Field) (v : Nat) : (s.wr f v).acc = s.acc := rfl
@[simp] theorem wr_rtr (s : State) (f : Field) (v : Nat) : (s.wr f v).rtr = s.rtr := rfl
@[simp] theorem wr_pos (s : State) (f : Field) (v : Nat) : (s.wr f v).pos = s.pos := rfl
@[simp] theorem wr_chans (s : State) (f : Field) (v : Nat) : (s.wr f v).chans = s.chans := rfl
@[simp] theorem wr_gel (s : State) (f : Field) (v : Nat) : (s.wr f v).gel = s.gel := rfl
@[simp] theorem wr_evt (s : State) (f : Field) (v : Nat) : (s.wr f v).evt = s.evt := rfl
@[simp] theorem wr_trk (s : State) (f : Field) (v : Nat) : (s.wr f v).trk = s.trk := rfl
@[simp] theorem wr_out (s : State) (f : Field) (v : Nat) : (s.wr f v).out = s.out := rfl
@[simp] theorem wr_slots (s : State) (f : Field) (v : Nat) : (s.wr f v).slots = s.slots := rfl
@[simp] theorem wr_cmps (s : State) (f : Field) (v : Nat) : (s.wr f v).cmps = s.cmps := rfl
@[simp] theorem wr_conv (s : State) (f : Field) (v : Nat) : (s.wr f v).conv = s.conv := rfl
@[simp] theorem wr_cmu (s : State) (f : Field) (v : Nat) : (s.wr f v).cmu = s.cmu := rfl
@[simp] theorem wr_cyls (s : State) (f : Field) (v : Nat) : (s.wr f v).cyls = s.cyls := rfl
@[simp] theorem wr_gpt (s : State) (f : Field) (v : Nat) : (s.wr f v).gpt = s.gpt := rfl
@[simp] theorem wr_pio (s : State) (f : Field) (v : Nat) : (s.wr f v).pio = s.pio := rfl
@[simp] theorem wr_casc (s : State) (f : Field) (v : Nat) : (s.wr f v).casc = s.casc := rfl
@[simp] theorem wr_dma (s : State) (f : Field) (v : Nat) : (s.wr f v).dma = s.dma := rfl
@[simp] theorem wr_host (s : State) (f : Field) (v : Nat) : (s.wr f v).host = s.host := rfl
@[simp] theorem wr_boot (s : State) (f : Field) (v : Nat) : (s.wr f v).boot = s.boot := rfl
@[simp] theorem wr_maint (s : State) (f : Field) (v : Nat) : (s.wr f v).maint = s.maint := rfl
@[simp] theorem wr_otp (s : State) (f : Field) (v : Nat) : (s.wr f v).otp = s.otp := rfl

@[simp] theorem wr_hot (s : State) (f : Field) (v : Nat) : (s.wr f v).hot = s.hot := rfl
@[simp] theorem wr_wrote (s : State) (f : Field) (v : Nat) : (s.wr f v).wrote = s.wrote := rfl
@[simp] theorem wr_fine (s : State) (f : Field) (v : Nat) : (s.wr f v).fine = s.fine := rfl
@[simp] theorem wr_bad (s : State) (f : Field) (v : Nat) : (s.wr f v).bad = s.bad := rfl

/-! ### Bits that the hardware sets or a write clears (R71) -/

@[simp] theorem setBits_rd (s : State) (f : Field) (b : Nat) (g : Field) :
    (s.setBits f b).rd g = (s.wr f (Nat.lor (s.rd f) b)).rd g := rfl
@[simp] theorem setBits_tb (s : State) (f : Field) (b : Nat) : (s.setBits f b).tb = s.tb := rfl
@[simp] theorem setBits_mem (s : State) (f : Field) (b : Nat) : (s.setBits f b).mem = s.mem := rfl
@[simp] theorem setBits_flt (s : State) (f : Field) (b : Nat) : (s.setBits f b).flt = s.flt := rfl
@[simp] theorem setBits_wrote (s : State) (f : Field) (b : Nat) : (s.setBits f b).wrote = s.wrote := rfl

/-- Bits that nothing has set at this count all clear. -/
theorem clearable_cold {s : State} {f : Field} (b : Nat) (h : tget 0 s.hot f.key = 0) : s.clearable f b = Nat.land (s.rd f) b := by
  unfold State.clearable; rw [h]; exact congrArg _ (Nat.and_zero _)

/-! ### Time -/

@[simp] theorem advance_regs (s : State) (t : Nat) : (s.advance t).regs = s.regs := by
  unfold State.advance; split
  · rfl
  · split <;> rfl
@[simp] theorem advance_pending (s : State) (t : Nat) : (s.advance t).pending = s.pending := by
  unfold State.advance; split
  · rfl
  · split <;> rfl
@[simp] theorem advance_pwr (s : State) (t : Nat) : (s.advance t).pwr = s.pwr := by
  unfold State.advance; split
  · rfl
  · split <;> rfl
@[simp] theorem advance_mem (s : State) (t : Nat) : (s.advance t).mem = s.mem := by
  unfold State.advance; split
  · rfl
  · split <;> rfl
@[simp] theorem advance_rd (s : State) (t : Nat) (f : Field) : (s.advance t).rd f = s.rd f := by simp [State.rd]
@[simp] theorem advance_on (s : State) (t : Nat) (f : Field) : (s.advance t).on f = s.on f := by simp [State.on]

theorem advance_tb_lt (s : State) (t : Nat) (h : s.tb < 2 ^ 64) : (s.advance t).tb < 2 ^ 64 := by
  unfold State.advance
  split
  · exact h
  · split
    · exact Nat.mod_lt _ (by decide)
    · exact h

/-- The timebase never runs back (R353). -/
theorem advance_tb_le (s : State) (t : Nat) : s.tb ≤ (s.advance t).tb := by
  unfold State.advance
  split
  · exact Nat.le_refl _
  · split
    · exact Nat.le_of_lt ‹_›
    · exact Nat.le_refl _

/-! ### The shape of a command -/

/-- Everything a command of this shape does: at its instant `s.advance t`, its effect where its condition holds, else nothing. -/
theorem act_eq (s : State) (t : Nat) (ok : State → Bool) (f : State → State) :
    s.act t ok f = .next (if ok (s.advance t) then (s.advance t).keep (f (s.advance t)) else s.advance t) := rfl

theorem act_on {s : State} {t : Nat} {ok : State → Bool} {f : State → State} (h : ok (s.advance t) = true) :
    s.act t ok f = .next ((s.advance t).keep (f (s.advance t))) := by rw [act_eq, if_pos h]

theorem act_off {s : State} {t : Nat} {ok : State → Bool} {f : State → State} (h : ok (s.advance t) = false) :
    s.act t ok f = .next (s.advance t) := by rw [act_eq, h]; rfl

@[simp] theorem keep_tb (a b : State) : (a.keep b).tb = a.tb := rfl
@[simp] theorem keep_pending (a b : State) : (a.keep b).pending = a.pending := rfl
@[simp] theorem keep_rd (a b : State) (f : Field) : (a.keep b).rd f = b.rd f := rfl
@[simp] theorem keep_mem (a b : State) : (a.keep b).mem = b.mem := rfl

/-! ### Register commands -/

theorem pageAddr_div {p o : Nat} (ho : o < 4096) : (pageAddr p o - 0x40000000) / 0x1000 = p := by
  unfold pageAddr; omega
theorem pageAddr_mod {p o : Nat} (ho : o < 4096) : pageAddr p o % 0x1000 = o := by
  unfold pageAddr; omega

/-- The region of a page address whose decision is to proceed. -/
theorem region_page {p o : Nat} (hp : p < 256) (ho : o < 4096) (h : regionOf (pageAddr p o) ≠ .bad) :
    regionOf (pageAddr p o) = .page p o := by
  have hd := pageAddr_div (p := p) ho
  have hm := pageAddr_mod (p := p) ho
  have h1 : 0x40000000 ≤ pageAddr p o := by unfold pageAddr; omega
  have h2 : pageAddr p o < 0x40100000 := by unfold pageAddr; omega
  generalize hA : pageAddr p o = A at *
  unfold regionOf at h ⊢
  simp only [hd, hm] at h ⊢
  have e1 : ¬ A < 0x10000 := by omega
  have e2 : ¬ (0x10000000 ≤ A ∧ A < 0x10040000) := by omega
  have e3 : ¬ (0x20000000 ≤ A ∧ A < 0x20010000) := by omega
  have e4 : ¬ (0x30000000 ≤ A ∧ A < 0x30040000) := by omega
  have e5 : 0x40000000 ≤ A ∧ A < 0x40100000 := ⟨h1, h2⟩
  simp only [e1, e2, e3, e4, e5, if_false, and_self, if_true] at h ⊢
  split
  · rename_i h4; simp [h4] at h
  · rename_i h4
    simp only [h4, if_false] at h
    split
    · rfl
    · rename_i hf; simp [hf] at h

theorem target_page {p o : Nat} (hp : p < 256) (ho : o < 4096) : targetOf (pageAddr p o) = some 1 := by
  have h1 : 0x40000000 ≤ pageAddr p o := by unfold pageAddr; omega
  have h2 : pageAddr p o < 0x40100000 := by unfold pageAddr; omega
  unfold targetOf
  rw [if_neg (by omega), if_pos ⟨h1, h2⟩]

theorem writeCode_bad {a : State} {m A v mk : Nat} (h : a.writeCode m A v mk = 0) : regionOf A ≠ .bad := by
  intro hb; simp [State.writeCode, hb] at h

theorem readCode_bad {a : State} {m A : Nat} (h : a.readCode m A = 0) : regionOf A ≠ .bad := by
  intro hb; simp [State.readCode, hb] at h

/-- Everything a register command that may write does: it is counted, and acts. -/
theorem guardedTo_may {a : State} {m p o v mk : Nat} {f : State → State} (hp : p < 256) (ho : o < 4096)
    (h : a.mayWrite m p o v mk = true) : a.guardedTo m (pageAddr p o) v mk f = f (a.charged m p o) := by
  simp only [State.mayWrite, Bool.and_eq_true, beq_iff_eq, Bool.not_eq_true'] at h
  obtain ⟨⟨hc, hb⟩, hg⟩ := h
  unfold State.guardedTo
  simp only [hc, region_page hp ho (writeCode_bad hc), target_page hp ho, hb, hg, ne_eq, not_true, if_false,
    Bool.false_eq_true, if_true, State.charged, State.counted, Nat.mul_one]

/-- Everything a register command that may read does. -/
theorem guardedRead_may {a : State} {m p o : Nat} {f : State → State} (hp : p < 256) (ho : o < 4096)
    (h : a.mayRead m p o = true) : a.guardedRead m (pageAddr p o) f = f (a.counted m p) := by
  simp only [State.mayRead, Bool.and_eq_true, beq_iff_eq, Bool.not_eq_true'] at h
  obtain ⟨⟨hc, hb⟩, hg⟩ := h
  unfold State.guardedRead
  simp only [hc, region_page hp ho (readCode_bad hc), target_page hp ho, hb, hg, ne_eq, not_true, if_false,
    Bool.false_eq_true, if_true, State.counted, Nat.mul_one]

/-- A refused write is captured and does nothing else (R75). -/
theorem guardedTo_refused {a : State} {m A v mk : Nat} {f : State → State} (h : a.writeCode m A v mk ≠ 0) :
    a.guardedTo m A v mk f = a.refuse m A true (a.writeCode m A v mk) := by
  unfold State.guardedTo; simp [h]

@[simp] theorem counted_regs (a : State) (m p : Nat) : (a.counted m p).regs = a.regs := rfl
@[simp] theorem counted_rd (a : State) (m p : Nat) (f : Field) : (a.counted m p).rd f = a.rd f := rfl

end Sys2Proof.Machine
end

