-- ==== Sys2Proof/Laws/Frame.lean ====
section
/-! SUPPORT. What each shared operation leaves alone: it answers the state it was given with only the named fields changed. A
field not named is as before, by congruence. -/

namespace Sys2Proof.Machine

open Reg

/-- Only registers, the marks of R71 on them, and the fault collector's record differ. -/
def FltFrame (s s' : State) : Prop := s' = { s with regs := s'.regs, hot := s'.hot, wrote := s'.wrote, flt := s'.flt }

/-- Only registers, the marks of R71 on them, the budgets' counts and the fault collector's record differ. -/
def GuardFrame (s s' : State) : Prop :=
  s' = { s with regs := s'.regs, hot := s'.hot, wrote := s'.wrote, flt := s'.flt, budg := s'.budg }

theorem FltFrame.refl (s : State) : FltFrame s s := rfl

theorem FltFrame.trans {a b c : State} (h : FltFrame a b) (k : FltFrame b c) : FltFrame a c := by
  unfold FltFrame at *; rw [k, h]

theorem FltFrame.guard {a b : State} (h : FltFrame a b) : GuardFrame a b := by
  unfold FltFrame GuardFrame at *; rw [h]

theorem GuardFrame.trans {a b c : State} (h : GuardFrame a b) (k : GuardFrame b c) : GuardFrame a c := by
  unfold GuardFrame at *; rw [k, h]

/-- A chain of operations keeps what each keeps. -/
theorem FltFrame.foldl {α : Type} {f : State → α → State} (h : ∀ s x, FltFrame s (f s x)) (l : List α) (s : State) :
    FltFrame s (l.foldl f s) := by
  induction l generalizing s with
  | nil => exact .refl s
  | cons x l ih => exact (h s x).trans (ih (f s x))

theorem wr_frame (s : State) (f : Field) (v : Nat) : FltFrame s (s.wr f v) := rfl
theorem bump_frame (s : State) (f : Field) (n : Nat) : FltFrame s (s.bump f n) := rfl
theorem inc_frame (s : State) (f : Field) : FltFrame s (s.inc f) := rfl
theorem iflag_frame (s : State) (p i : Nat) : FltFrame s (s.iflag p i) := rfl
theorem bumpDomain_frame (s : State) (f : Field) (d n : Nat) : FltFrame s (s.bumpDomain f d n) := rfl
theorem clearLive_frame (s : State) (p : Nat) : FltFrame s (s.clearLive p) := rfl
theorem setAmber_frame (s : State) (p : Nat) (on : Bool) : FltFrame s (s.setAmber p on) := rfl

theorem setBits_frame (s : State) (f : Field) (b : Nat) : FltFrame s (s.setBits f b) := rfl
theorem clearBits_frame (s : State) (f : Field) (b : Nat) : FltFrame s (s.clearBits f b) := rfl

theorem sendAt_frame (s : State) (m : Msg) (rep : Nat) (inj : Bool) (t : Nat) : FltFrame s (s.sendAt m rep inj t) := by
  unfold State.sendAt; split <;> rfl

theorem sendMsg_frame (s : State) (m : Msg) (rep : Nat) (inj : Bool) : FltFrame s (s.sendMsg m rep inj) := sendAt_frame _ _ _ _ _

theorem slotDue_frame (s : State) (src : Nat) : FltFrame s (s.slotDue src) := by
  unfold State.slotDue
  simp only
  split
  · split
    · rfl
    · exact FltFrame.trans (b := { s with flt := { s.flt with slots := tput {} s.flt.slots src _ } }) rfl (sendAt_frame _ _ _ _ _)
  · rfl

theorem raiseMsg_frame (s : State) (m : Msg) (inj : Bool) : FltFrame s (s.raiseMsg m inj) := by
  unfold State.raiseMsg
  refine (slotDue_frame s m.src).trans ?_
  generalize s.slotDue m.src = s
  simp only
  split
  · split
    · rfl
    · split <;> rfl
  · split
    · split
      · rfl
      · exact FltFrame.trans (b := { s with flt := { s.flt with slots := tput {} s.flt.slots m.src _ } }) rfl (sendMsg_frame _ _ _ _)
    · exact FltFrame.trans (b := { s with flt := { s.flt with slots := tput {} s.flt.slots m.src _ } }) rfl (sendMsg_frame _ _ _ _)

theorem pgFault_frame (s : State) (p : Nat) (m : Msg) : FltFrame s (s.pgFault p m) := by
  unfold State.pgFault
  split
  · split <;> rfl
  · rfl

/-- Raising a message changes registers and the collector's record, nothing else. -/
theorem raise_frame (s : State) (src kind detail : Nat) : FltFrame s (s.raise src kind detail) :=
  (FltFrame.foldl (fun s p => pgFault_frame s p _) _ s).trans (raiseMsg_frame _ _ _)

theorem raiseLive_frame (s : State) (src kind detail : Nat) : FltFrame s (s.raiseLive src kind detail) :=
  FltFrame.trans (b := { s with flt := { s.flt with live := _ } }) rfl (raise_frame _ src kind detail)

theorem cfgRec_frame (s : State) (src code idx : Nat) : FltFrame s (s.cfgRec src code idx) := raise_frame s _ _ _

/-- A refused access is captured and reported, nothing else (R75). -/
theorem refuse_frame (s : State) (m a : Nat) (wr : Bool) (code : Nat) : FltFrame s (s.refuse m a wr code) := by
  unfold State.refuse
  refine FltFrame.trans ?_ (raise_frame _ _ _ _)
  split <;> rfl

theorem touch_frame (s : State) (a : Nat) : FltFrame s (s.touch a) := by
  unfold State.touch
  split
  · split <;> rfl
  · rfl

theorem charged_frame (s : State) (m p o : Nat) : GuardFrame s (s.charged m p o) :=
  GuardFrame.trans (b := s.counted m p) rfl (touch_frame _ _).guard

/-- An access that its budget refuses is counted, nothing else (R54, R57). -/
theorem refuseBudget_frame (s : State) (t m : Nat) : GuardFrame s (s.refuseBudget t m) := by
  unfold State.refuseBudget
  split
  · rfl
  · unfold State.waitBudget
    split <;> rfl

theorem holdPage_frame (s : State) (p : Nat) : GuardFrame s (s.holdPage p) := rfl

/-- A register command whose effect changes only registers and the collector's record changes no more than the counts besides. -/
theorem guardedTo_frame {s : State} {m a v mk : Nat} {f : State → State} (h : ∀ s, FltFrame s (f s)) :
    GuardFrame s (s.guardedTo m a v mk f) := by
  unfold State.guardedTo
  simp only
  split
  · exact (refuse_frame s m a true _).guard
  · split
    · split
      · rfl
      · split
        · refine GuardFrame.trans ?_ (h _).guard
          refine GuardFrame.trans ?_ (touch_frame _ _).guard
          rfl
        · exact (refuseBudget_frame _ _ _).trans (holdPage_frame _ _)
    · split
      · exact GuardFrame.trans (b := State.useBudget _ _ _) rfl (h _).guard
      · exact refuseBudget_frame _ _ _
    · exact (h s).guard

theorem FltFrame.mem {a b : State} (h : FltFrame a b) : b.mem = a.mem := by rw [h]
theorem FltFrame.tb {a b : State} (h : FltFrame a b) : b.tb = a.tb := by rw [h]
theorem FltFrame.pending {a b : State} (h : FltFrame a b) : b.pending = a.pending := by rw [h]
theorem FltFrame.pwr {a b : State} (h : FltFrame a b) : b.pwr = a.pwr := by rw [h]
theorem GuardFrame.mem {a b : State} (h : GuardFrame a b) : b.mem = a.mem := by rw [h]
theorem GuardFrame.tb {a b : State} (h : GuardFrame a b) : b.tb = a.tb := by rw [h]
theorem GuardFrame.pending {a b : State} (h : GuardFrame a b) : b.pending = a.pending := by rw [h]
theorem GuardFrame.pwr {a b : State} (h : GuardFrame a b) : b.pwr = a.pwr := by rw [h]

end Sys2Proof.Machine
end

