-- ==== Sys2Proof/Laws/Dispatch.lean ====
section
/-! SUPPORT. One equation per command: `exec` of it is its meaning. They spare a proof the reduction of the whole dispatch. -/

namespace Sys2Proof.Machine

theorem exec_regWrite (t : Nat) (m : Master) (addr : Word) (v : Word) (s : State) :
    exec (.regWrite t m addr v) s = execRegWrite t m addr v s := rfl
theorem exec_freezeWrite (t : Nat) (m : Master) (page : Page) (on : Bool) (s : State) :
    exec (.freezeWrite t m page on) s = execFreezeWrite t m page on s := rfl
theorem exec_pgFaultClear (t : Nat) (m : Master) (page : Page) (s : State) :
    exec (.pgFaultClear t m page) s = execPgFaultClear t m page s := rfl
theorem exec_pageLock (t : Nat) (m : Master) (page : Page) (s : State) :
    exec (.pageLock t m page) s = execPageLock t m page s := rfl
theorem exec_accessTableWrite (t : Nat) (m : Master) (addr : Word) (v : Word) (s : State) :
    exec (.accessTableWrite t m addr v) s = execAccessTableWrite t m addr v s := rfl
theorem exec_wideLowRead (t : Nat) (m : Master) (addr : Word) (s : State) :
    exec (.wideLowRead t m addr) s = execWideLowRead t m addr s := rfl
theorem exec_wideHighWrite (t : Nat) (m : Master) (addr : Word) (v : Word) (s : State) :
    exec (.wideHighWrite t m addr v) s = execWideHighWrite t m addr v s := rfl
theorem exec_wideLowWrite (t : Nat) (m : Master) (addr : Word) (v : Word) (s : State) :
    exec (.wideLowWrite t m addr v) s = execWideLowWrite t m addr v s := rfl
theorem exec_softRst (t : Nat) (m : Master) (page : Page) (v : Word) (s : State) :
    exec (.softRst t m page v) s = execSoftRst t m page v s := rfl
theorem exec_unitResetComplete (t : Nat) (page : Page) (s : State) :
    exec (.unitResetComplete t page) s = execUnitResetComplete t page s := rfl
theorem exec_pageDisable (t : Nat) (m : Master) (page : Page) (s : State) :
    exec (.pageDisable t m page) s = execPageDisable t m page s := rfl
theorem exec_domainDroop (t : Nat) (d : Domain) (s : State) : exec (.domainDroop t d) s = execDomainDroop t d s := rfl
theorem exec_domainDroopRelease (t : Nat) (d : Domain) (s : State) :
    exec (.domainDroopRelease t d) s = execDomainDroopRelease t d s := rfl
theorem exec_deviceReset (t : Nat) (s : State) : exec (.deviceReset t) s = execDeviceReset t s := rfl
theorem exec_resetRelease (t : Nat) (cascId : Fin 4) (men : Bool) (s : State) :
    exec (.resetRelease t cascId men) s = execResetRelease t cascId men s := rfl
theorem exec_selftestDone (t : Nat) (lbistOk : Bool) (mbistOk : Bool) (otpOk : Bool) (s : State) :
    exec (.selftestDone t lbistOk mbistOk otpOk) s = execSelftestDone t lbistOk mbistOk otpOk s := rfl
theorem exec_trefFail (t : Nat) (criterion : Fin 5) (s : State) :
    exec (.trefFail t criterion) s = execTrefFail t criterion s := rfl
theorem exec_dlCalDone (t : Nat) (s : State) : exec (.dlCalDone t) s = execDlCalDone t s := rfl
theorem exec_tbRestore (t : Nat) (m : Master) (s : State) : exec (.tbRestore t m) s = execTbRestore t m s := rfl
theorem exec_tbRestoreSwitch (t : Nat) (s : State) : exec (.tbRestoreSwitch t) s = execTbRestoreSwitch t s := rfl
theorem exec_xinLoss (t : Nat) (s : State) : exec (.xinLoss t) s = execXinLoss t s := rfl
theorem exec_lfLoss (t : Nat) (s : State) : exec (.lfLoss t) s = execLfLoss t s := rfl
theorem exec_sleepRequest (t : Nat) (m : Master) (v : Word) (s : State) :
    exec (.sleepRequest t m v) s = execSleepRequest t m v s := rfl
theorem exec_dhaltEnter (t : Nat) (m : Master) (tck : Bool) (v : Word) (s : State) :
    exec (.dhaltEnter t m tck v) s = execDhaltEnter t m tck v s := rfl
theorem exec_dhaltExit (t : Nat) (m : Master) (tck : Bool) (v : Word) (s : State) :
    exec (.dhaltExit t m tck v) s = execDhaltExit t m tck v s := rfl
theorem exec_lfModeEntry (t : Nat) (s : State) : exec (.lfModeEntry t) s = execLfModeEntry t s := rfl
theorem exec_lfModeExit (t : Nat) (s : State) : exec (.lfModeExit t) s = execLfModeExit t s := rfl
theorem exec_lfStep (t : Nat) (s : State) : exec (.lfStep t) s = execLfStep t s := rfl
theorem exec_wake (t : Nat) (w : WakeIn) (s : State) : exec (.wake t w) s = execWake t w s := rfl
theorem exec_wakeComplete (t : Nat) (s : State) : exec (.wakeComplete t) s = execWakeComplete t s := rfl
theorem exec_frameBoundary (t : Nat) (s : State) : exec (.frameBoundary t) s = execFrameBoundary t s := rfl
theorem exec_commit (t : Nat) (m : Master) (s : State) : exec (.commit t m) s = execCommit t m s := rfl
theorem exec_cmdQueueArrival (t : Nat) (g : Engine) (s : State) :
    exec (.cmdQueueArrival t g) s = execCmdQueueArrival t g s := rfl
theorem exec_hostCsFall (t : Nat) (x : Port) (s : State) : exec (.hostCsFall t x) s = execHostCsFall t x s := rfl
theorem exec_laneBreak (t : Nat) (x : Port) (s : State) : exec (.laneBreak t x) s = execLaneBreak t x s := rfl
theorem exec_hello (t : Nat) (x : Port) (f : Frame) (s : State) : exec (.hello t x f) s = execHello t x f s := rfl
theorem exec_hostRead (t : Nat) (x : Port) (f : Frame) (s : State) : exec (.hostRead t x f) s = execHostRead t x f s := rfl
theorem exec_hostWrite (t : Nat) (x : Port) (f : Frame) (s : State) : exec (.hostWrite t x f) s = execHostWrite t x f s := rfl
theorem exec_hostMaskWrite (t : Nat) (x : Port) (f : Frame) (s : State) :
    exec (.hostMaskWrite t x f) s = execHostMaskWrite t x f s := rfl
theorem exec_hostStream (t : Nat) (x : Port) (f : Frame) (s : State) :
    exec (.hostStream t x f) s = execHostStream t x f s := rfl
theorem exec_hostSnap64 (t : Nat) (x : Port) (f : Frame) (s : State) :
    exec (.hostSnap64 t x f) s = execHostSnap64 t x f s := rfl
theorem exec_hostAttest (t : Nat) (x : Port) (f : Frame) (s : State) :
    exec (.hostAttest t x f) s = execHostAttest t x f s := rfl
theorem exec_hostUnknown (t : Nat) (x : Port) (f : Frame) (s : State) :
    exec (.hostUnknown t x f) s = execHostUnknown t x f s := rfl
theorem exec_responseReady (t : Nat) (x : Port) (s : State) : exec (.responseReady t x) s = execResponseReady t x s := rfl
theorem exec_responseSendEnd (t : Nat) (x : Port) (complete : Bool) (s : State) :
    exec (.responseSendEnd t x complete) s = execResponseSendEnd t x complete s := rfl
theorem exec_attnPulse (t : Nat) (x : Port) (s : State) : exec (.attnPulse t x) s = execAttnPulse t x s := rfl
theorem exec_hostSilence (t : Nat) (x : Port) (s : State) : exec (.hostSilence t x) s = execHostSilence t x s := rfl
theorem exec_ipendClear (t : Nat) (m : Master) (x : Port) (k : Fin 8) (v : Word) (s : State) :
    exec (.ipendClear t m x k v) s = execIpendClear t m x k v s := rfl
theorem exec_mbqRelease (t : Nat) (m : Master) (x : Port) (n : Fin 8) (s : State) :
    exec (.mbqRelease t m x n) s = execMbqRelease t m x n s := rfl
theorem exec_mbqConfigure (t : Nat) (m : Master) (x : Port) (n : Fin 8) (v : Word) (s : State) :
    exec (.mbqConfigure t m x n v) s = execMbqConfigure t m x n v s := rfl
theorem exec_posEnable (t : Nat) (m : Master) (p : PosPort) (s : State) :
    exec (.posEnable t m p) s = execPosEnable t m p s := rfl
theorem exec_posEdge (t : Nat) (p : PosPort) (pin : Fin 3) (lvl : Bool) (mv : PinMove) (s : State) :
    exec (.posEdge t p pin lvl mv) s = execPosEdge t p pin lvl mv s := rfl
theorem exec_posDeferredEdge (t : Nat) (p : PosPort) (pin : Fin 3) (s : State) :
    exec (.posDeferredEdge t p pin) s = execPosDeferredEdge t p pin s := rfl
theorem exec_posIndex (t : Nat) (p : PosPort) (s : State) : exec (.posIndex t p) s = execPosIndex t p s := rfl
theorem exec_posLoad (t : Nat) (m : Master) (p : PosPort) (s : State) : exec (.posLoad t m p) s = execPosLoad t m p s := rfl
theorem exec_vrArmHalve (t : Nat) (p : PosPort) (s : State) : exec (.vrArmHalve t p) s = execVrArmHalve t p s := rfl
theorem exec_speedFallbackWindow (t : Nat) (p : PosPort) (s : State) :
    exec (.speedFallbackWindow t p) s = execSpeedFallbackWindow t p s := rfl
theorem exec_posStuck (t : Nat) (p : PosPort) (s : State) : exec (.posStuck t p) s = execPosStuck t p s := rfl
theorem exec_ssiTrig (t : Nat) (m : Master) (p : PosPort) (aHigh : Bool) (s : State) :
    exec (.ssiTrig t m p aHigh) s = execSsiTrig t m p aHigh s := rfl
theorem exec_ssiPeriodStart (t : Nat) (p : PosPort) (router : Bool) (aHigh : Bool) (s : State) :
    exec (.ssiPeriodStart t p router aHigh) s = execSsiPeriodStart t p router aHigh s := rfl
theorem exec_ssiWord (t : Nat) (p : PosPort) (bits : List Bool) (s : State) :
    exec (.ssiWord t p bits) s = execSsiWord t p bits s := rfl
theorem exec_ssiTimeout (t : Nat) (p : PosPort) (s : State) : exec (.ssiTimeout t p) s = execSsiTimeout t p s := rfl
theorem exec_sentFrame (t : Nat) (p : PosPort) (sync : Nat) (nibbles : List Nat) (pause : Option Nat) (extra : Bool) (s : State) :
    exec (.sentFrame t p sync nibbles pause extra) s = execSentFrame t p sync nibbles pause extra s := rfl
theorem exec_trkEnable (t : Nat) (m : Master) (s : State) : exec (.trkEnable t m) s = execTrkEnable t m s := rfl
theorem exec_trkCrankEdge (t : Nat) (b : Bool) (s : State) : exec (.trkCrankEdge t b) s = execTrkCrankEdge t b s := rfl
theorem exec_trkCamEdge (t : Nat) (pos3 : Bool) (s : State) : exec (.trkCamEdge t pos3) s = execTrkCamEdge t pos3 s := rfl
theorem exec_camWindowClose (t : Nat) (j : Fin 24) (s : State) :
    exec (.camWindowClose t j) s = execCamWindowClose t j s := rfl
theorem exec_candidateConfirm (t : Nat) (laneS : Bool) (s : State) :
    exec (.candidateConfirm t laneS) s = execCandidateConfirm t laneS s := rfl
theorem exec_trkHalted (t : Nat) (s : State) : exec (.trkHalted t) s = execTrkHalted t s := rfl
theorem exec_haltLimit (t : Nat) (laneS : Bool) (s : State) : exec (.haltLimit t laneS) s = execHaltLimit t laneS s := rfl
theorem exec_trkStall (t : Nat) (s : State) : exec (.trkStall t) s = execTrkStall t s := rfl
theorem exec_microTick (t : Nat) (s : State) : exec (.microTick t) s = execMicroTick t s := rfl
theorem exec_selReq (t : Nat) (m : Master) (laneS : Bool) (s : State) :
    exec (.selReq t m laneS) s = execSelReq t m laneS s := rfl
theorem exec_tblDataAccess (t : Nat) (m : Master) (w : Option Word) (s : State) :
    exec (.tblDataAccess t m w) s = execTblDataAccess t m w s := rfl
theorem exec_tblCommit (t : Nat) (m : Master) (s : State) : exec (.tblCommit t m) s = execTblCommit t m s := rfl
theorem exec_learnReq (t : Nat) (m : Master) (s : State) : exec (.learnReq t m) s = execLearnReq t m s := rfl
theorem exec_learnAbort (t : Nat) (m : Master) (s : State) : exec (.learnAbort t m) s = execLearnAbort t m s := rfl
theorem exec_learnDone (t : Nat) (s : State) : exec (.learnDone t) s = execLearnDone t s := rfl
theorem exec_evtWordStage (t : Nat) (m : Master) (i : Entry) (w : Fin 3) (v : Word) (s : State) :
    exec (.evtWordStage t m i w v) s = execEvtWordStage t m i w v s := rfl
theorem exec_evtCommit (t : Nat) (m : Master) (i : Entry) (v : Word) (s : State) :
    exec (.evtCommit t m i v) s = execEvtCommit t m i v s := rfl
theorem exec_evtCommitEffect (t : Nat) (i : Entry) (s : State) :
    exec (.evtCommitEffect t i) s = execEvtCommitEffect t i s := rfl
theorem exec_occurrenceSlotArrival (t : Nat) (i : Entry) (s : State) :
    exec (.occurrenceSlotArrival t i) s = execOccurrenceSlotArrival t i s := rfl
theorem exec_evtPinSet (t : Nat) (i : Entry) (s : State) : exec (.evtPinSet t i) s = execEvtPinSet t i s := rfl
theorem exec_evtPinClr (t : Nat) (i : Entry) (s : State) : exec (.evtPinClr t i) s = execEvtPinClr t i s := rfl
theorem exec_evtPulseT (t : Nat) (i : Entry) (s : State) : exec (.evtPulseT t i) s = execEvtPulseT t i s := rfl
theorem exec_evtPulseTEnd (t : Nat) (ch : Channel) (s : State) : exec (.evtPulseTEnd t ch) s = execEvtPulseTEnd t ch s := rfl
theorem exec_evtPulseA (t : Nat) (i : Entry) (s : State) : exec (.evtPulseA t i) s = execEvtPulseA t i s := rfl
theorem exec_evtPulseAEnd (t : Nat) (ch : Channel) (s : State) : exec (.evtPulseAEnd t ch) s = execEvtPulseAEnd t ch s := rfl
theorem exec_evtDwell (t : Nat) (i : Entry) (s : State) : exec (.evtDwell t i) s = execEvtDwell t i s := rfl
theorem exec_evtDwellSpark (t : Nat) (i : Entry) (s : State) : exec (.evtDwellSpark t i) s = execEvtDwellSpark t i s := rfl
theorem exec_evtDwellMaxEnd (t : Nat) (ch : Channel) (s : State) :
    exec (.evtDwellMaxEnd t ch) s = execEvtDwellMaxEnd t ch s := rfl
theorem exec_evtSrq (t : Nat) (i : Entry) (s : State) : exec (.evtSrq t i) s = execEvtSrq t i s := rfl
theorem exec_evtConvStart (t : Nat) (i : Entry) (s : State) : exec (.evtConvStart t i) s = execEvtConvStart t i s := rfl
theorem exec_evtConvWin (t : Nat) (i : Entry) (s : State) : exec (.evtConvWin t i) s = execEvtConvWin t i s := rfl
theorem exec_evtCmuMark (t : Nat) (i : Entry) (s : State) : exec (.evtCmuMark t i) s = execEvtCmuMark t i s := rfl
theorem exec_evtOut (t : Nat) (i : Entry) (s : State) : exec (.evtOut t i) s = execEvtOut t i s := rfl
theorem exec_evtLinkBcast (t : Nat) (i : Entry) (s : State) : exec (.evtLinkBcast t i) s = execEvtLinkBcast t i s := rfl
theorem exec_evtRun (t : Nat) (m : Master) (s : State) : exec (.evtRun t m) s = execEvtRun t m s := rfl
theorem exec_evtStop (t : Nat) (m : Master) (s : State) : exec (.evtStop t m) s = execEvtStop t m s := rfl
theorem exec_hostSrq (t : Nat) (m : Master) (p : Channel) (param : BitVec 16) (s : State) :
    exec (.hostSrq t m p param) s = execHostSrq t m p param s := rfl
theorem exec_channelEnable (t : Nat) (m : Master) (p : Channel) (s : State) :
    exec (.channelEnable t m p) s = execChannelEnable t m p s := rfl
theorem exec_channelDisable (t : Nat) (m : Master) (p : Channel) (s : State) :
    exec (.channelDisable t m p) s = execChannelDisable t m p s := rfl
theorem exec_softOffEnd (t : Nat) (g : Fin 16) (s : State) : exec (.softOffEnd t g) s = execSoftOffEnd t g s := rfl
theorem exec_channelCapture (t : Nat) (p : Channel) (k : Fin 2) (ev : CapEvent) (s : State) :
    exec (.channelCapture t p k ev) s = execChannelCapture t p k ev s := rfl
theorem exec_timeMatchFire (t : Nat) (p : Channel) (s : State) : exec (.timeMatchFire t p) s = execTimeMatchFire t p s := rfl
theorem exec_angleMatchFire (t : Nat) (p : Channel) (s : State) :
    exec (.angleMatchFire t p) s = execAngleMatchFire t p s := rfl
theorem exec_coupledMatchFire (t : Nat) (p : Channel) (s : State) :
    exec (.coupledMatchFire t p) s = execCoupledMatchFire t p s := rfl
theorem exec_threadGrant (t : Nat) (g : Engine) (s : State) : exec (.threadGrant t g) s = execThreadGrant t g s := rfl
theorem exec_threadTmax (t : Nat) (g : Engine) (s : State) : exec (.threadTmax t g) s = execThreadTmax t g s := rfl
theorem exec_gelAdd (t : Nat) (g : Engine) (s : State) : exec (.gelAdd t g) s = execGelAdd t g s := rfl
theorem exec_gelSub (t : Nat) (g : Engine) (s : State) : exec (.gelSub t g) s = execGelSub t g s := rfl
theorem exec_gelAnd (t : Nat) (g : Engine) (s : State) : exec (.gelAnd t g) s = execGelAnd t g s := rfl
theorem exec_gelOr (t : Nat) (g : Engine) (s : State) : exec (.gelOr t g) s = execGelOr t g s := rfl
theorem exec_gelXor (t : Nat) (g : Engine) (s : State) : exec (.gelXor t g) s = execGelXor t g s := rfl
theorem exec_gelShl (t : Nat) (g : Engine) (s : State) : exec (.gelShl t g) s = execGelShl t g s := rfl
theorem exec_gelShr (t : Nat) (g : Engine) (s : State) : exec (.gelShr t g) s = execGelShr t g s := rfl
theorem exec_gelSar (t : Nat) (g : Engine) (s : State) : exec (.gelSar t g) s = execGelSar t g s := rfl
theorem exec_gelMul (t : Nat) (g : Engine) (s : State) : exec (.gelMul t g) s = execGelMul t g s := rfl
theorem exec_gelMulq (t : Nat) (g : Engine) (s : State) : exec (.gelMulq t g) s = execGelMulq t g s := rfl
theorem exec_gelMin (t : Nat) (g : Engine) (s : State) : exec (.gelMin t g) s = execGelMin t g s := rfl
theorem exec_gelMax (t : Nat) (g : Engine) (s : State) : exec (.gelMax t g) s = execGelMax t g s := rfl
theorem exec_gelCmp (t : Nat) (g : Engine) (s : State) : exec (.gelCmp t g) s = execGelCmp t g s := rfl
theorem exec_gelMov (t : Nat) (g : Engine) (s : State) : exec (.gelMov t g) s = execGelMov t g s := rfl
theorem exec_gelAdda (t : Nat) (g : Engine) (s : State) : exec (.gelAdda t g) s = execGelAdda t g s := rfl
theorem exec_gelLdh (t : Nat) (g : Engine) (s : State) : exec (.gelLdh t g) s = execGelLdh t g s := rfl
theorem exec_gelLdp (t : Nat) (g : Engine) (s : State) : exec (.gelLdp t g) s = execGelLdp t g s := rfl
theorem exec_gelStp (t : Nat) (g : Engine) (s : State) : exec (.gelStp t g) s = execGelStp t g s := rfl
theorem exec_gelLdm (t : Nat) (g : Engine) (s : State) : exec (.gelLdm t g) s = execGelLdm t g s := rfl
theorem exec_gelStm (t : Nat) (g : Engine) (s : State) : exec (.gelStm t g) s = execGelStm t g s := rfl
theorem exec_gelMemComplete (t : Nat) (g : Engine) (s : State) :
    exec (.gelMemComplete t g) s = execGelMemComplete t g s := rfl
theorem exec_gelA2t (t : Nat) (g : Engine) (s : State) : exec (.gelA2t t g) s = execGelA2t t g s := rfl
theorem exec_gelA2d (t : Nat) (g : Engine) (s : State) : exec (.gelA2d t g) s = execGelA2d t g s := rfl
theorem exec_gelQput (t : Nat) (g : Engine) (s : State) : exec (.gelQput t g) s = execGelQput t g s := rfl
theorem exec_gelLnk (t : Nat) (g : Engine) (s : State) : exec (.gelLnk t g) s = execGelLnk t g s := rfl
theorem exec_gelSmt (t : Nat) (g : Engine) (s : State) : exec (.gelSmt t g) s = execGelSmt t g s := rfl
theorem exec_gelSma (t : Nat) (g : Engine) (s : State) : exec (.gelSma t g) s = execGelSma t g s := rfl
theorem exec_gelSmc (t : Nat) (g : Engine) (s : State) : exec (.gelSmc t g) s = execGelSmc t g s := rfl
theorem exec_gelPin (t : Nat) (g : Engine) (s : State) : exec (.gelPin t g) s = execGelPin t g s := rfl
theorem exec_gelRdcCap0Time (t : Nat) (g : Engine) (s : State) :
    exec (.gelRdcCap0Time t g) s = execGelRdcCap0Time t g s := rfl
theorem exec_gelRdcCap0Angle (t : Nat) (g : Engine) (s : State) :
    exec (.gelRdcCap0Angle t g) s = execGelRdcCap0Angle t g s := rfl
theorem exec_gelRdcCap1Time (t : Nat) (g : Engine) (s : State) :
    exec (.gelRdcCap1Time t g) s = execGelRdcCap1Time t g s := rfl
theorem exec_gelRdcCap1Angle (t : Nat) (g : Engine) (s : State) :
    exec (.gelRdcCap1Angle t g) s = execGelRdcCap1Angle t g s := rfl
theorem exec_gelRdsTbvLo (t : Nat) (g : Engine) (s : State) : exec (.gelRdsTbvLo t g) s = execGelRdsTbvLo t g s := rfl
theorem exec_gelRdsTbvHi (t : Nat) (g : Engine) (s : State) : exec (.gelRdsTbvHi t g) s = execGelRdsTbvHi t g s := rfl
theorem exec_gelRdsAngle (t : Nat) (g : Engine) (s : State) : exec (.gelRdsAngle t g) s = execGelRdsAngle t g s := rfl
theorem exec_gelRdsSnapshot (t : Nat) (g : Engine) (s : State) :
    exec (.gelRdsSnapshot t g) s = execGelRdsSnapshot t g s := rfl
theorem exec_gelRdsChStat (t : Nat) (g : Engine) (s : State) : exec (.gelRdsChStat t g) s = execGelRdsChStat t g s := rfl
theorem exec_gelRdsSrqTime (t : Nat) (g : Engine) (s : State) : exec (.gelRdsSrqTime t g) s = execGelRdsSrqTime t g s := rfl
theorem exec_gelRdsSrqParam (t : Nat) (g : Engine) (s : State) :
    exec (.gelRdsSrqParam t g) s = execGelRdsSrqParam t g s := rfl
theorem exec_gelRdsCycCnt (t : Nat) (g : Engine) (s : State) : exec (.gelRdsCycCnt t g) s = execGelRdsCycCnt t g s := rfl
theorem exec_gelChcRel (t : Nat) (g : Engine) (s : State) : exec (.gelChcRel t g) s = execGelChcRel t g s := rfl
theorem exec_gelChcDisarmTime (t : Nat) (g : Engine) (s : State) :
    exec (.gelChcDisarmTime t g) s = execGelChcDisarmTime t g s := rfl
theorem exec_gelChcDisarmAngle (t : Nat) (g : Engine) (s : State) :
    exec (.gelChcDisarmAngle t g) s = execGelChcDisarmAngle t g s := rfl
theorem exec_gelChcArmSrqAction (t : Nat) (g : Engine) (s : State) :
    exec (.gelChcArmSrqAction t g) s = execGelChcArmSrqAction t g s := rfl
theorem exec_gelAdj (t : Nat) (g : Engine) (s : State) : exec (.gelAdj t g) s = execGelAdj t g s := rfl
theorem exec_gelBr (t : Nat) (g : Engine) (s : State) : exec (.gelBr t g) s = execGelBr t g s := rfl
theorem exec_gelBf (t : Nat) (g : Engine) (s : State) : exec (.gelBf t g) s = execGelBf t g s := rfl
theorem exec_gelCall (t : Nat) (g : Engine) (s : State) : exec (.gelCall t g) s = execGelCall t g s := rfl
theorem exec_gelRet (t : Nat) (g : Engine) (s : State) : exec (.gelRet t g) s = execGelRet t g s := rfl
theorem exec_gelBrk (t : Nat) (g : Engine) (s : State) : exec (.gelBrk t g) s = execGelBrk t g s := rfl
theorem exec_gelYield (t : Nat) (g : Engine) (s : State) : exec (.gelYield t g) s = execGelYield t g s := rfl
theorem exec_gelEnd (t : Nat) (g : Engine) (s : State) : exec (.gelEnd t g) s = execGelEnd t g s := rfl
theorem exec_gelIllegal (t : Nat) (g : Engine) (s : State) : exec (.gelIllegal t g) s = execGelIllegal t g s := rfl
theorem exec_gelStoreError (t : Nat) (g : Engine) (s : State) : exec (.gelStoreError t g) s = execGelStoreError t g s := rfl
theorem exec_gelEnable (t : Nat) (m : Master) (g : Engine) (s : State) :
    exec (.gelEnable t m g) s = execGelEnable t m g s := rfl
theorem exec_gelHalt (t : Nat) (g : Engine) (m : Option Master) (s : State) :
    exec (.gelHalt t g m) s = execGelHalt t g m s := rfl
theorem exec_gelStep (t : Nat) (m : Master) (g : Engine) (s : State) : exec (.gelStep t m g) s = execGelStep t m g s := rfl
theorem exec_gelResume (t : Nat) (m : Master) (g : Engine) (s : State) :
    exec (.gelResume t m g) s = execGelResume t m g s := rfl
theorem exec_outArm (t : Nat) (m : Master) (key : BitVec 8) (s : State) :
    exec (.outArm t m key) s = execOutArm t m key s := rfl
theorem exec_outDisarm (t : Nat) (m : Master) (key : BitVec 8) (s : State) :
    exec (.outDisarm t m key) s = execOutDisarm t m key s := rfl
theorem exec_dpermitAToggle (t : Nat) (s : State) : exec (.dpermitAToggle t) s = execDpermitAToggle t s := rfl
theorem exec_dpermitBToggle (t : Nat) (s : State) : exec (.dpermitBToggle t) s = execDpermitBToggle t s := rfl
theorem exec_bankEnable (t : Nat) (m : Master) (k : Bank) (s : State) :
    exec (.bankEnable t m k) s = execBankEnable t m k s := rfl
theorem exec_slotCommandRise (t : Nat) (k : Bank) (sl : Slot) (s : State) :
    exec (.slotCommandRise t k sl) s = execSlotCommandRise t k sl s := rfl
theorem exec_slotCommandFall (t : Nat) (k : Bank) (sl : Slot) (s : State) :
    exec (.slotCommandFall t k sl) s = execSlotCommandFall t k sl s := rfl
theorem exec_bankCmpARise (t : Nat) (k : Bank) (s : State) : exec (.bankCmpARise t k) s = execBankCmpARise t k s := rfl
theorem exec_bankCmpBFall (t : Nat) (k : Bank) (s : State) : exec (.bankCmpBFall t k) s = execBankCmpBFall t k s := rfl
theorem exec_slotTPeak (t : Nat) (k : Bank) (sl : Slot) (s : State) :
    exec (.slotTPeak t k sl) s = execSlotTPeak t k sl s := rfl
theorem exec_slotTBoostMax (t : Nat) (k : Bank) (sl : Slot) (s : State) :
    exec (.slotTBoostMax t k sl) s = execSlotTBoostMax t k sl s := rfl
theorem exec_slotTQmax (t : Nat) (k : Bank) (sl : Slot) (s : State) :
    exec (.slotTQmax t k sl) s = execSlotTQmax t k sl s := rfl
theorem exec_slotTperMin (t : Nat) (k : Bank) (s : State) : exec (.slotTperMin t k) s = execSlotTperMin t k s := rfl
theorem exec_slotLockClear (t : Nat) (m : Master) (k : Bank) (sl : Slot) (s : State) :
    exec (.slotLockClear t m k sl) s = execSlotLockClear t m k sl s := rfl
theorem exec_cbcEnable (t : Nat) (m : Master) (x : Conv) (s : State) :
    exec (.cbcEnable t m x) s = execCbcEnable t m x s := rfl
theorem exec_convCtrlStart (t : Nat) (m : Master) (x : Conv) (e : Fin 16) (s : State) :
    exec (.convCtrlStart t m x e) s = execConvCtrlStart t m x e s := rfl
theorem exec_convUrgent (t : Nat) (m : Master) (x : Conv) (e : Fin 16) (s : State) :
    exec (.convUrgent t m x e) s = execConvUrgent t m x e s := rfl
theorem exec_convStop (t : Nat) (m : Master) (x : Conv) (s : State) : exec (.convStop t m x) s = execConvStop t m x s := rfl
theorem exec_convRouterStart (t : Nat) (x : Conv) (s : State) :
    exec (.convRouterStart t x) s = execConvRouterStart t x s := rfl
theorem exec_convRouterUrgent (t : Nat) (x : Conv) (s : State) :
    exec (.convRouterUrgent t x) s = execConvRouterUrgent t x s := rfl
theorem exec_convBoundary (t : Nat) (x : Conv) (s : State) : exec (.convBoundary t x) s = execConvBoundary t x s := rfl
theorem exec_convWindowTimeEnd (t : Nat) (x : Conv) (s : State) :
    exec (.convWindowTimeEnd t x) s = execConvWindowTimeEnd t x s := rfl
theorem exec_convWindowLong (t : Nat) (x : Conv) (s : State) : exec (.convWindowLong t x) s = execConvWindowLong t x s := rfl
theorem exec_convResult (t : Nat) (x : Conv) (raw : Int) (ovr : Bool) (s : State) :
    exec (.convResult t x raw ovr) s = execConvResult t x raw ovr s := rfl
theorem exec_resultRead (t : Nat) (m : Master) (x : Conv) (e : Fin 16) (s : State) :
    exec (.resultRead t m x e) s = execResultRead t m x e s := rfl
theorem exec_vrefEnable (t : Nat) (m : Master) (on : Bool) (s : State) :
    exec (.vrefEnable t m on) s = execVrefEnable t m on s := rfl
theorem exec_vrefWarm (t : Nat) (s : State) : exec (.vrefWarm t) s = execVrefWarm t s := rfl
theorem exec_vrefOkChange (t : Nat) (ok : Bool) (s : State) : exec (.vrefOkChange t ok) s = execVrefOkChange t ok s := rfl
theorem exec_mainsEdge (t : Nat) (s : State) : exec (.mainsEdge t) s = execMainsEdge t s := rfl
theorem exec_mainsTimeout (t : Nat) (s : State) : exec (.mainsTimeout t) s = execMainsTimeout t s := rfl
theorem exec_calReq (t : Nat) (m : Master) (x : Conv) (preempt : Bool) (s : State) :
    exec (.calReq t m x preempt) s = execCalReq t m x preempt s := rfl
theorem exec_calStart (t : Nat) (x : Conv) (s : State) : exec (.calStart t x) s = execCalStart t x s := rfl
theorem exec_calEnd (t : Nat) (x : Conv) (raws : List (Int × Int)) (s : State) :
    exec (.calEnd t x raws) s = execCalEnd t x raws s := rfl
theorem exec_calAbort (t : Nat) (m : Master) (x : Conv) (s : State) : exec (.calAbort t m x) s = execCalAbort t m x s := rfl
theorem exec_cmpEnable (t : Nat) (m : Master) (n : Comp) (v : Word) (inBand : Bool) (s : State) :
    exec (.cmpEnable t m n v inBand) s = execCmpEnable t m n v inBand s := rfl
theorem exec_cmpRefWrite (t : Nat) (m : Master) (n : Comp) (v : Word) (s : State) :
    exec (.cmpRefWrite t m n v) s = execCmpRefWrite t m n v s := rfl
theorem exec_cmpLevelChange (t : Nat) (n : Comp) (lvl : Bool) (s : State) :
    exec (.cmpLevelChange t n lvl) s = execCmpLevelChange t n lvl s := rfl
theorem exec_cmpSampleWindowEnd (t : Nat) (n : Comp) (lvl : Bool) (s : State) :
    exec (.cmpSampleWindowEnd t n lvl) s = execCmpSampleWindowEnd t n lvl s := rfl
theorem exec_cmpStReq (t : Nat) (m : Master) (s : State) : exec (.cmpStReq t m) s = execCmpStReq t m s := rfl
theorem exec_cmpSelftestStep (t : Nat) (raw : Bool) (s : State) :
    exec (.cmpSelftestStep t raw) s = execCmpSelftestStep t raw s := rfl
theorem exec_cmpStAbort (t : Nat) (m : Master) (s : State) : exec (.cmpStAbort t m) s = execCmpStAbort t m s := rfl
theorem exec_cylEnable (t : Nat) (m : Master) (k : Cyl) (s : State) : exec (.cylEnable t m k) s = execCylEnable t m k s := rfl
theorem exec_cmuSample (t : Nat) (k : Cyl) (s : State) : exec (.cmuSample t k) s = execCmuSample t k s := rfl
theorem exec_pegOpen (t : Nat) (k : Cyl) (s : State) : exec (.pegOpen t k) s = execPegOpen t k s := rfl
theorem exec_pegClose (t : Nat) (k : Cyl) (s : State) : exec (.pegClose t k) s = execPegClose t k s := rfl
theorem exec_cmuClose (t : Nat) (k : Cyl) (s : State) : exec (.cmuClose t k) s = execCmuClose t k s := rfl
theorem exec_cmuRecordReady (t : Nat) (k : Cyl) (s : State) : exec (.cmuRecordReady t k) s = execCmuRecordReady t k s := rfl
theorem exec_cmuTrimWrite (t : Nat) (k : Cyl) (timing : Bool) (s : State) :
    exec (.cmuTrimWrite t k timing) s = execCmuTrimWrite t k timing s := rfl
theorem exec_cmuRecordPost (t : Nat) (k : Cyl) (s : State) : exec (.cmuRecordPost t k) s = execCmuRecordPost t k s := rfl
theorem exec_volDataAccess (t : Nat) (m : Master) (w : Option Word) (s : State) :
    exec (.volDataAccess t m w) s = execVolDataAccess t m w s := rfl
theorem exec_volCommit (t : Nat) (m : Master) (s : State) : exec (.volCommit t m) s = execVolCommit t m s := rfl
theorem exec_volTableReady (t : Nat) (s : State) : exec (.volTableReady t) s = execVolTableReady t s := rfl
theorem exec_rcReq (t : Nat) (m : Master) (k : Fin 32) (s : State) : exec (.rcReq t m k) s = execRcReq t m k s := rfl
theorem exec_recomputeDone (t : Nat) (s : State) : exec (.recomputeDone t) s = execRecomputeDone t s := rfl
theorem exec_loopEnable (t : Nat) (m : Master) (k : Cyl) (v : Word) (s : State) :
    exec (.loopEnable t m k v) s = execLoopEnable t m k v s := rfl
theorem exec_sbufRead (t : Nat) (m : Master) (s : State) : exec (.sbufRead t m) s = execSbufRead t m s := rfl
theorem exec_cylStatusRead (t : Nat) (m : Master) (k : Cyl) (s : State) :
    exec (.cylStatusRead t m k) s = execCylStatusRead t m k s := rfl
theorem exec_alarmWrite (t : Nat) (m : Master) (v : Word) (s : State) :
    exec (.alarmWrite t m v) s = execAlarmWrite t m v s := rfl
theorem exec_alarmFire (t : Nat) (s : State) : exec (.alarmFire t) s = execAlarmFire t s := rfl
theorem exec_gptEnable (t : Nat) (m : Master) (n : Gpt) (v : Word) (s : State) :
    exec (.gptEnable t m n v) s = execGptEnable t m n v s := rfl
theorem exec_gptWrap (t : Nat) (n : Gpt) (s : State) : exec (.gptWrap t n) s = execGptWrap t n s := rfl
theorem exec_gptMatch (t : Nat) (n : Gpt) (s : State) : exec (.gptMatch t n) s = execGptMatch t n s := rfl
theorem exec_gptTriggerReset (t : Nat) (n : Gpt) (s : State) :
    exec (.gptTriggerReset t n) s = execGptTriggerReset t n s := rfl
theorem exec_gptCmpWrite (t : Nat) (m : Master) (n : Gpt) (v : Word) (s : State) :
    exec (.gptCmpWrite t m n v) s = execGptCmpWrite t m n v s := rfl
theorem exec_gptCapture (t : Nat) (n : Gpt) (ti : Option Bool) (s : State) :
    exec (.gptCapture t n ti) s = execGptCapture t n ti s := rfl
theorem exec_capqRead (t : Nat) (m : Master) (n : Gpt) (s : State) : exec (.capqRead t m n) s = execCapqRead t m n s := rfl
theorem exec_gptSnap (t : Nat) (m : Master) (v : Word) (s : State) : exec (.gptSnap t m v) s = execGptSnap t m v s := rfl
theorem exec_routerEvent (t : Nat) (src : Source) (s : State) : exec (.routerEvent t src) s = execRouterEvent t src s := rfl
theorem exec_dstCfgWrite (t : Nat) (m : Master) (d : Dest) (v : Word) (s : State) :
    exec (.dstCfgWrite t m d v) s = execDstCfgWrite t m d v s := rfl
theorem exec_swTrig (t : Nat) (m : Master) (v : Word) (s : State) : exec (.swTrig t m v) s = execSwTrig t m v s := rfl
theorem exec_dmaChCfgWrite (t : Nat) (m : Master) (c : DmaCh) (v : Word) (s : State) :
    exec (.dmaChCfgWrite t m c v) s = execDmaChCfgWrite t m c v s := rfl
theorem exec_dmaStart (t : Nat) (m : Master) (c : DmaCh) (s : State) : exec (.dmaStart t m c) s = execDmaStart t m c s := rfl
theorem exec_dmaStop (t : Nat) (m : Master) (c : DmaCh) (s : State) : exec (.dmaStop t m c) s = execDmaStop t m c s := rfl
theorem exec_dmaTrigger (t : Nat) (c : DmaCh) (s : State) : exec (.dmaTrigger t c) s = execDmaTrigger t c s := rfl
theorem exec_dmaBurstGrant (t : Nat) (s : State) : exec (.dmaBurstGrant t) s = execDmaBurstGrant t s := rfl
theorem exec_dmaBurstWritten (t : Nat) (s : State) : exec (.dmaBurstWritten t) s = execDmaBurstWritten t s := rfl
theorem exec_dmaComplete (t : Nat) (c : DmaCh) (s : State) : exec (.dmaComplete t c) s = execDmaComplete t c s := rfl
theorem exec_dmaDescLoad (t : Nat) (c : DmaCh) (s : State) : exec (.dmaDescLoad t c) s = execDmaDescLoad t c s := rfl
theorem exec_dmaBeatError (t : Nat) (kind : BeatError) (s : State) :
    exec (.dmaBeatError t kind) s = execDmaBeatError t kind s := rfl
theorem exec_dmaPfbError (t : Nat) (s : State) : exec (.dmaPfbError t) s = execDmaPfbError t s := rfl
theorem exec_dmaFence (t : Nat) (m : Master) (c : DmaCh) (s : State) : exec (.dmaFence t m c) s = execDmaFence t m c s := rfl
theorem exec_dmaFenceDone (t : Nat) (s : State) : exec (.dmaFenceDone t) s = execDmaFenceDone t s := rfl
theorem exec_pioEngineEnable (t : Nat) (m : Master) (x : Engine) (s : State) :
    exec (.pioEngineEnable t m x) s = execPioEngineEnable t m x s := rfl
theorem exec_pioEngineStop (t : Nat) (m : Master) (x : Engine) (s : State) :
    exec (.pioEngineStop t m x) s = execPioEngineStop t m x s := rfl
theorem exec_pioSlotEnable (t : Nat) (m : Master) (x : Engine) (sl : PioSlot) (s : State) :
    exec (.pioSlotEnable t m x sl) s = execPioSlotEnable t m x sl s := rfl
theorem exec_pioSlotStop (t : Nat) (m : Master) (x : Engine) (sl : PioSlot) (s : State) :
    exec (.pioSlotStop t m x sl) s = execPioSlotStop t m x sl s := rfl
theorem exec_pioDrv (t : Nat) (x : Engine) (sl : PioSlot) (s : State) : exec (.pioDrv t x sl) s = execPioDrv t x sl s := rfl
theorem exec_pioDir (t : Nat) (x : Engine) (sl : PioSlot) (s : State) : exec (.pioDir t x sl) s = execPioDir t x sl s := rfl
theorem exec_pioSho (t : Nat) (x : Engine) (sl : PioSlot) (s : State) : exec (.pioSho t x sl) s = execPioSho t x sl s := rfl
theorem exec_pioShi (t : Nat) (x : Engine) (sl : PioSlot) (pins : BitVec 2) (s : State) :
    exec (.pioShi t x sl pins) s = execPioShi t x sl pins s := rfl
theorem exec_pioTake (t : Nat) (x : Engine) (sl : PioSlot) (s : State) :
    exec (.pioTake t x sl) s = execPioTake t x sl s := rfl
theorem exec_pioTakeNb (t : Nat) (x : Engine) (sl : PioSlot) (s : State) :
    exec (.pioTakeNb t x sl) s = execPioTakeNb t x sl s := rfl
theorem exec_pioPut (t : Nat) (x : Engine) (sl : PioSlot) (s : State) : exec (.pioPut t x sl) s = execPioPut t x sl s := rfl
theorem exec_pioPutNb (t : Nat) (x : Engine) (sl : PioSlot) (s : State) :
    exec (.pioPutNb t x sl) s = execPioPutNb t x sl s := rfl
theorem exec_pioSetk (t : Nat) (x : Engine) (sl : PioSlot) (s : State) :
    exec (.pioSetk t x sl) s = execPioSetk t x sl s := rfl
theorem exec_pioLoop (t : Nat) (x : Engine) (sl : PioSlot) (s : State) :
    exec (.pioLoop t x sl) s = execPioLoop t x sl s := rfl
theorem exec_pioBr (t : Nat) (x : Engine) (sl : PioSlot) (pins : BitVec 2) (s : State) :
    exec (.pioBr t x sl pins) s = execPioBr t x sl pins s := rfl
theorem exec_pioWaite (t : Nat) (x : Engine) (sl : PioSlot) (pins : BitVec 2) (s : State) :
    exec (.pioWaite t x sl pins) s = execPioWaite t x sl pins s := rfl
theorem exec_pioWaitf (t : Nat) (x : Engine) (sl : PioSlot) (s : State) :
    exec (.pioWaitf t x sl) s = execPioWaitf t x sl s := rfl
theorem exec_pioSigSet (t : Nat) (x : Engine) (sl : PioSlot) (s : State) :
    exec (.pioSigSet t x sl) s = execPioSigSet t x sl s := rfl
theorem exec_pioSigClear (t : Nat) (x : Engine) (sl : PioSlot) (s : State) :
    exec (.pioSigClear t x sl) s = execPioSigClear t x sl s := rfl
theorem exec_pioSigInvert (t : Nat) (x : Engine) (sl : PioSlot) (s : State) :
    exec (.pioSigInvert t x sl) s = execPioSigInvert t x sl s := rfl
theorem exec_pioSigIrq (t : Nat) (x : Engine) (sl : PioSlot) (s : State) :
    exec (.pioSigIrq t x sl) s = execPioSigIrq t x sl s := rfl
theorem exec_pioMovs (t : Nat) (x : Engine) (sl : PioSlot) (pins : BitVec 2) (s : State) :
    exec (.pioMovs t x sl pins) s = execPioMovs t x sl pins s := rfl
theorem exec_pioHoldTick (t : Nat) (x : Engine) (sl : PioSlot) (s : State) :
    exec (.pioHoldTick t x sl) s = execPioHoldTick t x sl s := rfl
theorem exec_pioSlotFault (t : Nat) (x : Engine) (sl : PioSlot) (s : State) :
    exec (.pioSlotFault t x sl) s = execPioSlotFault t x sl s := rfl
theorem exec_pioFetchError (t : Nat) (x : Engine) (addr : BitVec 8) (s : State) :
    exec (.pioFetchError t x addr) s = execPioFetchError t x addr s := rfl
theorem exec_txqWrite (t : Nat) (m : Master) (x : Engine) (sl : PioSlot) (v : Word) (s : State) :
    exec (.txqWrite t m x sl v) s = execTxqWrite t m x sl v s := rfl
theorem exec_rxqRead (t : Nat) (m : Master) (x : Engine) (sl : PioSlot) (s : State) :
    exec (.rxqRead t m x sl) s = execRxqRead t m x sl s := rfl
theorem exec_pioPtrig (t : Nat) (x : Engine) (s : State) : exec (.pioPtrig t x) s = execPioPtrig t x s := rfl
theorem exec_pioProgWrite (t : Nat) (m : Master) (x : Engine) (off : BitVec 12) (v : Word) (s : State) :
    exec (.pioProgWrite t m x off v) s = execPioProgWrite t m x off v s := rfl
theorem exec_linkEnable (t : Nat) (m : Master) (x : Link) (s : State) :
    exec (.linkEnable t m x) s = execLinkEnable t m x s := rfl
theorem exec_linkAligned (t : Nat) (x : Link) (s : State) : exec (.linkAligned t x) s = execLinkAligned t x s := rfl
theorem exec_linkTrain (t : Nat) (x : Link) (w0 : Word) (w1 : Word) (roundTrip : Nat) (s : State) :
    exec (.linkTrain t x w0 w1 roundTrip) s = execLinkTrain t x w0 w1 roundTrip s := rfl
theorem exec_linkTrainTimeout (t : Nat) (x : Link) (s : State) :
    exec (.linkTrainTimeout t x) s = execLinkTrainTimeout t x s := rfl
theorem exec_linkDown (t : Nat) (x : Link) (cause : Fin 4) (s : State) :
    exec (.linkDown t x cause) s = execLinkDown t x cause s := rfl
theorem exec_beaconSend (t : Nat) (s : State) : exec (.beaconSend t) s = execBeaconSend t s := rfl
theorem exec_linkBeacon (t : Nat) (x : Link) (h : LinkHdr) (ws : List Word) (s : State) :
    exec (.linkBeacon t x h ws) s = execLinkBeacon t x h ws s := rfl
theorem exec_linkStatus (t : Nat) (x : Link) (h : LinkHdr) (w : Word) (s : State) :
    exec (.linkStatus t x h w) s = execLinkStatus t x h w s := rfl
theorem exec_statusSend (t : Nat) (s : State) : exec (.statusSend t) s = execStatusSend t s := rfl
theorem exec_linkEvent (t : Nat) (x : Link) (h : LinkHdr) (w : Word) (s : State) :
    exec (.linkEvent t x h w) s = execLinkEvent t x h w s := rfl
theorem exec_linkClaim (t : Nat) (x : Link) (h : LinkHdr) (w : Word) (s : State) :
    exec (.linkClaim t x h w) s = execLinkClaim t x h w s := rfl
theorem exec_linkRreq (t : Nat) (x : Link) (h : LinkHdr) (w0 : Word) (w1 : Word) (s : State) :
    exec (.linkRreq t x h w0 w1) s = execLinkRreq t x h w0 w1 s := rfl
theorem exec_linkRrsp (t : Nat) (x : Link) (h : LinkHdr) (w0 : Word) (w1 : Word) (s : State) :
    exec (.linkRrsp t x h w0 w1) s = execLinkRrsp t x h w0 w1 s := rfl
theorem exec_remoteAccess (t : Nat) (m : Master) (write : Bool) (addr : Word) (v : Word) (s : State) :
    exec (.remoteAccess t m write addr v) s = execRemoteAccess t m write addr v s := rfl
theorem exec_remoteTimeout (t : Nat) (m : Master) (s : State) : exec (.remoteTimeout t m) s = execRemoteTimeout t m s := rfl
theorem exec_cascEnable (t : Nat) (m : Master) (s : State) : exec (.cascEnable t m) s = execCascEnable t m s := rfl
theorem exec_masterElection (t : Nat) (s : State) : exec (.masterElection t) s = execMasterElection t s := rfl
theorem exec_beaconLoss (t : Nat) (s : State) : exec (.beaconLoss t) s = execBeaconLoss t s := rfl
theorem exec_claimWaitEnd (t : Nat) (s : State) : exec (.claimWaitEnd t) s = execClaimWaitEnd t s := rfl
theorem exec_faultMessage (t : Nat) (msg : BitVec 64) (s : State) :
    exec (.faultMessage t msg) s = execFaultMessage t msg s := rfl
theorem exec_faultSlotSend (t : Nat) (src : BitVec 12) (s : State) :
    exec (.faultSlotSend t src) s = execFaultSlotSend t src s := rfl
theorem exec_faultMessageArrival (t : Nat) (s : State) : exec (.faultMessageArrival t) s = execFaultMessageArrival t s := rfl
theorem exec_coalesceClose (t : Nat) (cause : BitVec 12) (kind : BitVec 8) (s : State) :
    exec (.coalesceClose t cause kind) s = execCoalesceClose t cause kind s := rfl
theorem exec_promoWindowEnd (t : Nat) (cause : BitVec 12) (kind : BitVec 8) (s : State) :
    exec (.promoWindowEnd t cause kind) s = execPromoWindowEnd t cause kind s := rfl
theorem exec_fltQPop (t : Nat) (m : Master) (s : State) : exec (.fltQPop t m) s = execFltQPop t m s := rfl
theorem exec_fltFeClear (t : Nat) (m : Master) (s : State) : exec (.fltFeClear t m) s = execFltFeClear t m s := rfl
theorem exec_fltInjCtrl (t : Nat) (m : Master) (v : Word) (s : State) :
    exec (.fltInjCtrl t m v) s = execFltInjCtrl t m v s := rfl
theorem exec_fltKcfgWrite (t : Nat) (m : Master) (v : Word) (s : State) :
    exec (.fltKcfgWrite t m v) s = execFltKcfgWrite t m v s := rfl
theorem exec_migration (t : Nat) (tile : Tile) (s : State) : exec (.migration t tile) s = execMigration t tile s := rfl
theorem exec_migrationResume (t : Nat) (s : State) : exec (.migrationResume t) s = execMigrationResume t s := rfl
theorem exec_actReq (t : Nat) (m : Master) (act : Fin 16) (target : BitVec 12) (s : State) :
    exec (.actReq t m act target) s = execActReq t m act target s := rfl
theorem exec_actAbort (t : Nat) (m : Master) (act : Fin 16) (target : BitVec 12) (s : State) :
    exec (.actAbort t m act target) s = execActAbort t m act target s := rfl
theorem exec_tokenGrant (t : Nat) (s : State) : exec (.tokenGrant t) s = execTokenGrant t s := rfl
theorem exec_tileBistEnd (t : Nat) (tile : Tile) (pass : Bool) (s : State) :
    exec (.tileBistEnd t tile pass) s = execTileBistEnd t tile pass s := rfl
theorem exec_scrubWord (t : Nat) (bank : MemBank) (addr : Nat) (found : ScrubFind) (s : State) :
    exec (.scrubWord t bank addr found) s = execScrubWord t bank addr found s := rfl
theorem exec_rowRepair (t : Nat) (bank : MemBank) (row : BitVec 16) (s : State) :
    exec (.rowRepair t bank row) s = execRowRepair t bank row s := rfl
theorem exec_muartFrameSend (t : Nat) (s : State) : exec (.muartFrameSend t) s = execMuartFrameSend t s := rfl
theorem exec_muartReadRequest (t : Nat) (bytes : List (BitVec 8)) (s : State) :
    exec (.muartReadRequest t bytes) s = execMuartReadRequest t bytes s := rfl
theorem exec_muartRxTimeout (t : Nat) (s : State) : exec (.muartRxTimeout t) s = execMuartRxTimeout t s := rfl
theorem exec_imgBlock (t : Nat) (s : State) : exec (.imgBlock t) s = execImgBlock t s := rfl
theorem exec_imgEnd (t : Nat) (s : State) : exec (.imgEnd t) s = execImgEnd t s := rfl
theorem exec_imgAbort (t : Nat) (s : State) : exec (.imgAbort t) s = execImgAbort t s := rfl
theorem exec_imgTimeout (t : Nat) (s : State) : exec (.imgTimeout t) s = execImgTimeout t s := rfl
theorem exec_imgVerified (t : Nat) (otpOk : Bool) (s : State) :
    exec (.imgVerified t otpOk) s = execImgVerified t otpOk s := rfl
theorem exec_imgClearingDone (t : Nat) (s : State) : exec (.imgClearingDone t) s = execImgClearingDone t s := rfl
theorem exec_slotBlankEnd (t : Nat) (k : Bank) (s : State) : exec (.slotBlankEnd t k) s = execSlotBlankEnd t k s := rfl
theorem exec_bankThresholdSettled (t : Nat) (k : Bank) (compB : Bool) (s : State) :
    exec (.bankThresholdSettled t k compB) s = execBankThresholdSettled t k compB s := rfl
theorem exec_cleanCrossing (t : Nat) (n : Comp) (active : Bool) (s : State) :
    exec (.cleanCrossing t n active) s = execCleanCrossing t n active s := rfl
theorem exec_linkFrameDiscard (t : Nat) (x : Link) (cause : Fin 6) (s : State) :
    exec (.linkFrameDiscard t x cause) s = execLinkFrameDiscard t x cause s := rfl
theorem exec_trefOkRise (t : Nat) (s : State) : exec (.trefOkRise t) s = execTrefOkRise t s := rfl
theorem exec_lfOkRise (t : Nat) (s : State) : exec (.lfOkRise t) s = execLfOkRise t s := rfl

end Sys2Proof.Machine
end

