-- ==== Sys2Proof/Laws/Update.lean ====
section
/-! SUPPORT. What the updates of one record of the state show: the record itself, and the rest as it was. -/

namespace Sys2Proof.Machine

/-! `State.setPort` -/

@[simp] theorem setPort_port (s : State) (p : Nat) (x : PosS) : (s.setPort p x).port p = x := by
  simp [State.setPort, State.port]
@[simp] theorem setPort_regs (s : State) (p : Nat) (x : PosS) : (s.setPort p x).regs = s.regs := rfl
@[simp] theorem setPort_tb (s : State) (p : Nat) (x : PosS) : (s.setPort p x).tb = s.tb := rfl
@[simp] theorem setPort_mem (s : State) (p : Nat) (x : PosS) : (s.setPort p x).mem = s.mem := rfl
@[simp] theorem setPort_pending (s : State) (p : Nat) (x : PosS) : (s.setPort p x).pending = s.pending := rfl
@[simp] theorem setPort_nonce (s : State) (p : Nat) (x : PosS) : (s.setPort p x).nonce = s.nonce := rfl
@[simp] theorem setPort_pwr (s : State) (p : Nat) (x : PosS) : (s.setPort p x).pwr = s.pwr := rfl
@[simp] theorem setPort_flt (s : State) (p : Nat) (x : PosS) : (s.setPort p x).flt = s.flt := rfl
@[simp] theorem setPort_out (s : State) (p : Nat) (x : PosS) : (s.setPort p x).out = s.out := rfl
@[simp] theorem setPort_chans (s : State) (p : Nat) (x : PosS) : (s.setPort p x).chans = s.chans := rfl
@[simp] theorem setPort_evt (s : State) (p : Nat) (x : PosS) : (s.setPort p x).evt = s.evt := rfl
@[simp] theorem setPort_maint (s : State) (p : Nat) (x : PosS) : (s.setPort p x).maint = s.maint := rfl
@[simp] theorem setPort_rd (s : State) (p : Nat) (x : PosS) (r : Field) : (s.setPort p x).rd r = s.rd r := rfl
@[simp] theorem setPort_on (s : State) (p : Nat) (x : PosS) (r : Field) : (s.setPort p x).on r = s.on r := rfl

/-! `State.setCmp` -/

@[simp] theorem setCmp_cmp (s : State) (n : Nat) (x : CmpS) : (s.setCmp n x).cmp n = x := by
  simp [State.setCmp, State.cmp]
@[simp] theorem setCmp_regs (s : State) (n : Nat) (x : CmpS) : (s.setCmp n x).regs = s.regs := rfl
@[simp] theorem setCmp_tb (s : State) (n : Nat) (x : CmpS) : (s.setCmp n x).tb = s.tb := rfl
@[simp] theorem setCmp_mem (s : State) (n : Nat) (x : CmpS) : (s.setCmp n x).mem = s.mem := rfl
@[simp] theorem setCmp_pending (s : State) (n : Nat) (x : CmpS) : (s.setCmp n x).pending = s.pending := rfl
@[simp] theorem setCmp_nonce (s : State) (n : Nat) (x : CmpS) : (s.setCmp n x).nonce = s.nonce := rfl
@[simp] theorem setCmp_pwr (s : State) (n : Nat) (x : CmpS) : (s.setCmp n x).pwr = s.pwr := rfl
@[simp] theorem setCmp_flt (s : State) (n : Nat) (x : CmpS) : (s.setCmp n x).flt = s.flt := rfl
@[simp] theorem setCmp_out (s : State) (n : Nat) (x : CmpS) : (s.setCmp n x).out = s.out := rfl
@[simp] theorem setCmp_chans (s : State) (n : Nat) (x : CmpS) : (s.setCmp n x).chans = s.chans := rfl
@[simp] theorem setCmp_evt (s : State) (n : Nat) (x : CmpS) : (s.setCmp n x).evt = s.evt := rfl
@[simp] theorem setCmp_maint (s : State) (n : Nat) (x : CmpS) : (s.setCmp n x).maint = s.maint := rfl
@[simp] theorem setCmp_rd (s : State) (n : Nat) (x : CmpS) (r : Field) : (s.setCmp n x).rd r = s.rd r := rfl
@[simp] theorem setCmp_on (s : State) (n : Nat) (x : CmpS) (r : Field) : (s.setCmp n x).on r = s.on r := rfl

/-! `State.setSlot` -/

@[simp] theorem setSlot_slot (s : State) (k i : Nat) (x : SlotS) : (s.setSlot k i x).slot k i = x := by
  simp [State.setSlot, State.slot]
@[simp] theorem setSlot_regs (s : State) (k i : Nat) (x : SlotS) : (s.setSlot k i x).regs = s.regs := rfl
@[simp] theorem setSlot_tb (s : State) (k i : Nat) (x : SlotS) : (s.setSlot k i x).tb = s.tb := rfl
@[simp] theorem setSlot_mem (s : State) (k i : Nat) (x : SlotS) : (s.setSlot k i x).mem = s.mem := rfl
@[simp] theorem setSlot_pending (s : State) (k i : Nat) (x : SlotS) : (s.setSlot k i x).pending = s.pending := rfl
@[simp] theorem setSlot_nonce (s : State) (k i : Nat) (x : SlotS) : (s.setSlot k i x).nonce = s.nonce := rfl
@[simp] theorem setSlot_pwr (s : State) (k i : Nat) (x : SlotS) : (s.setSlot k i x).pwr = s.pwr := rfl
@[simp] theorem setSlot_flt (s : State) (k i : Nat) (x : SlotS) : (s.setSlot k i x).flt = s.flt := rfl
@[simp] theorem setSlot_out (s : State) (k i : Nat) (x : SlotS) : (s.setSlot k i x).out = s.out := rfl
@[simp] theorem setSlot_chans (s : State) (k i : Nat) (x : SlotS) : (s.setSlot k i x).chans = s.chans := rfl
@[simp] theorem setSlot_evt (s : State) (k i : Nat) (x : SlotS) : (s.setSlot k i x).evt = s.evt := rfl
@[simp] theorem setSlot_maint (s : State) (k i : Nat) (x : SlotS) : (s.setSlot k i x).maint = s.maint := rfl
@[simp] theorem setSlot_rd (s : State) (k i : Nat) (x : SlotS) (r : Field) : (s.setSlot k i x).rd r = s.rd r := rfl
@[simp] theorem setSlot_on (s : State) (k i : Nat) (x : SlotS) (r : Field) : (s.setSlot k i x).on r = s.on r := rfl

/-! `State.setChan` -/

@[simp] theorem setChan_chan (s : State) (p : Nat) (x : Chan) : (s.setChan p x).chan p = x := by
  simp [State.setChan, State.chan]

/-! `State.setEng` -/

@[simp] theorem setEng_eng (s : State) (g : Nat) (x : GelS) : (s.setEng g x).eng g = x := by
  simp [State.setEng, State.eng]
@[simp] theorem setEng_regs (s : State) (g : Nat) (x : GelS) : (s.setEng g x).regs = s.regs := rfl
@[simp] theorem setEng_tb (s : State) (g : Nat) (x : GelS) : (s.setEng g x).tb = s.tb := rfl
@[simp] theorem setEng_mem (s : State) (g : Nat) (x : GelS) : (s.setEng g x).mem = s.mem := rfl
@[simp] theorem setEng_pending (s : State) (g : Nat) (x : GelS) : (s.setEng g x).pending = s.pending := rfl
@[simp] theorem setEng_nonce (s : State) (g : Nat) (x : GelS) : (s.setEng g x).nonce = s.nonce := rfl
@[simp] theorem setEng_pwr (s : State) (g : Nat) (x : GelS) : (s.setEng g x).pwr = s.pwr := rfl
@[simp] theorem setEng_flt (s : State) (g : Nat) (x : GelS) : (s.setEng g x).flt = s.flt := rfl
@[simp] theorem setEng_out (s : State) (g : Nat) (x : GelS) : (s.setEng g x).out = s.out := rfl
@[simp] theorem setEng_chans (s : State) (g : Nat) (x : GelS) : (s.setEng g x).chans = s.chans := rfl
@[simp] theorem setEng_evt (s : State) (g : Nat) (x : GelS) : (s.setEng g x).evt = s.evt := rfl
@[simp] theorem setEng_maint (s : State) (g : Nat) (x : GelS) : (s.setEng g x).maint = s.maint := rfl
@[simp] theorem setEng_rd (s : State) (g : Nat) (x : GelS) (r : Field) : (s.setEng g x).rd r = s.rd r := rfl
@[simp] theorem setEng_on (s : State) (g : Nat) (x : GelS) (r : Field) : (s.setEng g x).on r = s.on r := rfl

/-! `State.setCv` -/

@[simp] theorem setCv_cv (s : State) (n : Nat) (x : ConvS) : (s.setCv n x).cv n = x := by
  simp [State.setCv, State.cv]
@[simp] theorem setCv_regs (s : State) (n : Nat) (x : ConvS) : (s.setCv n x).regs = s.regs := rfl
@[simp] theorem setCv_tb (s : State) (n : Nat) (x : ConvS) : (s.setCv n x).tb = s.tb := rfl
@[simp] theorem setCv_mem (s : State) (n : Nat) (x : ConvS) : (s.setCv n x).mem = s.mem := rfl
@[simp] theorem setCv_pending (s : State) (n : Nat) (x : ConvS) : (s.setCv n x).pending = s.pending := rfl
@[simp] theorem setCv_nonce (s : State) (n : Nat) (x : ConvS) : (s.setCv n x).nonce = s.nonce := rfl
@[simp] theorem setCv_pwr (s : State) (n : Nat) (x : ConvS) : (s.setCv n x).pwr = s.pwr := rfl
@[simp] theorem setCv_flt (s : State) (n : Nat) (x : ConvS) : (s.setCv n x).flt = s.flt := rfl
@[simp] theorem setCv_out (s : State) (n : Nat) (x : ConvS) : (s.setCv n x).out = s.out := rfl
@[simp] theorem setCv_chans (s : State) (n : Nat) (x : ConvS) : (s.setCv n x).chans = s.chans := rfl
@[simp] theorem setCv_evt (s : State) (n : Nat) (x : ConvS) : (s.setCv n x).evt = s.evt := rfl
@[simp] theorem setCv_maint (s : State) (n : Nat) (x : ConvS) : (s.setCv n x).maint = s.maint := rfl
@[simp] theorem setCv_rd (s : State) (n : Nat) (x : ConvS) (r : Field) : (s.setCv n x).rd r = s.rd r := rfl
@[simp] theorem setCv_on (s : State) (n : Nat) (x : ConvS) (r : Field) : (s.setCv n x).on r = s.on r := rfl

/-! `State.modCyl` -/

@[simp] theorem modCyl_cyl (s : State) (k : Nat) (f : CylS → CylS) : (s.modCyl k f).cyl k = f (s.cyl k) := by
  simp [State.modCyl, State.cyl]
@[simp] theorem modCyl_regs (s : State) (k : Nat) (f : CylS → CylS) : (s.modCyl k f).regs = s.regs := rfl
@[simp] theorem modCyl_tb (s : State) (k : Nat) (f : CylS → CylS) : (s.modCyl k f).tb = s.tb := rfl
@[simp] theorem modCyl_mem (s : State) (k : Nat) (f : CylS → CylS) : (s.modCyl k f).mem = s.mem := rfl
@[simp] theorem modCyl_pending (s : State) (k : Nat) (f : CylS → CylS) : (s.modCyl k f).pending = s.pending := rfl
@[simp] theorem modCyl_nonce (s : State) (k : Nat) (f : CylS → CylS) : (s.modCyl k f).nonce = s.nonce := rfl
@[simp] theorem modCyl_pwr (s : State) (k : Nat) (f : CylS → CylS) : (s.modCyl k f).pwr = s.pwr := rfl
@[simp] theorem modCyl_flt (s : State) (k : Nat) (f : CylS → CylS) : (s.modCyl k f).flt = s.flt := rfl
@[simp] theorem modCyl_out (s : State) (k : Nat) (f : CylS → CylS) : (s.modCyl k f).out = s.out := rfl
@[simp] theorem modCyl_chans (s : State) (k : Nat) (f : CylS → CylS) : (s.modCyl k f).chans = s.chans := rfl
@[simp] theorem modCyl_evt (s : State) (k : Nat) (f : CylS → CylS) : (s.modCyl k f).evt = s.evt := rfl
@[simp] theorem modCyl_maint (s : State) (k : Nat) (f : CylS → CylS) : (s.modCyl k f).maint = s.maint := rfl
@[simp] theorem modCyl_rd (s : State) (k : Nat) (f : CylS → CylS) (r : Field) : (s.modCyl k f).rd r = s.rd r := rfl
@[simp] theorem modCyl_on (s : State) (k : Nat) (f : CylS → CylS) (r : Field) : (s.modCyl k f).on r = s.on r := rfl

/-! `State.modGp` -/

@[simp] theorem modGp_gp (s : State) (n : Nat) (f : GptS → GptS) : (s.modGp n f).gp n = f (s.gp n) := by
  simp [State.modGp, State.gp]
@[simp] theorem modGp_regs (s : State) (n : Nat) (f : GptS → GptS) : (s.modGp n f).regs = s.regs := rfl
@[simp] theorem modGp_tb (s : State) (n : Nat) (f : GptS → GptS) : (s.modGp n f).tb = s.tb := rfl
@[simp] theorem modGp_mem (s : State) (n : Nat) (f : GptS → GptS) : (s.modGp n f).mem = s.mem := rfl
@[simp] theorem modGp_pending (s : State) (n : Nat) (f : GptS → GptS) : (s.modGp n f).pending = s.pending := rfl
@[simp] theorem modGp_nonce (s : State) (n : Nat) (f : GptS → GptS) : (s.modGp n f).nonce = s.nonce := rfl
@[simp] theorem modGp_pwr (s : State) (n : Nat) (f : GptS → GptS) : (s.modGp n f).pwr = s.pwr := rfl
@[simp] theorem modGp_flt (s : State) (n : Nat) (f : GptS → GptS) : (s.modGp n f).flt = s.flt := rfl
@[simp] theorem modGp_out (s : State) (n : Nat) (f : GptS → GptS) : (s.modGp n f).out = s.out := rfl
@[simp] theorem modGp_chans (s : State) (n : Nat) (f : GptS → GptS) : (s.modGp n f).chans = s.chans := rfl
@[simp] theorem modGp_evt (s : State) (n : Nat) (f : GptS → GptS) : (s.modGp n f).evt = s.evt := rfl
@[simp] theorem modGp_maint (s : State) (n : Nat) (f : GptS → GptS) : (s.modGp n f).maint = s.maint := rfl
@[simp] theorem modGp_rd (s : State) (n : Nat) (f : GptS → GptS) (r : Field) : (s.modGp n f).rd r = s.rd r := rfl
@[simp] theorem modGp_on (s : State) (n : Nat) (f : GptS → GptS) (r : Field) : (s.modGp n f).on r = s.on r := rfl

/-! `State.modHs` -/

@[simp] theorem modHs_hs (s : State) (x : Nat) (f : HostS → HostS) : (s.modHs x f).hs x = f (s.hs x) := by
  simp [State.modHs, State.hs]
@[simp] theorem modHs_regs (s : State) (x : Nat) (f : HostS → HostS) : (s.modHs x f).regs = s.regs := rfl
@[simp] theorem modHs_tb (s : State) (x : Nat) (f : HostS → HostS) : (s.modHs x f).tb = s.tb := rfl
@[simp] theorem modHs_mem (s : State) (x : Nat) (f : HostS → HostS) : (s.modHs x f).mem = s.mem := rfl
@[simp] theorem modHs_pending (s : State) (x : Nat) (f : HostS → HostS) : (s.modHs x f).pending = s.pending := rfl
@[simp] theorem modHs_nonce (s : State) (x : Nat) (f : HostS → HostS) : (s.modHs x f).nonce = s.nonce := rfl
@[simp] theorem modHs_pwr (s : State) (x : Nat) (f : HostS → HostS) : (s.modHs x f).pwr = s.pwr := rfl
@[simp] theorem modHs_flt (s : State) (x : Nat) (f : HostS → HostS) : (s.modHs x f).flt = s.flt := rfl
@[simp] theorem modHs_out (s : State) (x : Nat) (f : HostS → HostS) : (s.modHs x f).out = s.out := rfl
@[simp] theorem modHs_chans (s : State) (x : Nat) (f : HostS → HostS) : (s.modHs x f).chans = s.chans := rfl
@[simp] theorem modHs_evt (s : State) (x : Nat) (f : HostS → HostS) : (s.modHs x f).evt = s.evt := rfl
@[simp] theorem modHs_maint (s : State) (x : Nat) (f : HostS → HostS) : (s.modHs x f).maint = s.maint := rfl
@[simp] theorem modHs_rd (s : State) (x : Nat) (f : HostS → HostS) (r : Field) : (s.modHs x f).rd r = s.rd r := rfl
@[simp] theorem modHs_on (s : State) (x : Nat) (f : HostS → HostS) (r : Field) : (s.modHs x f).on r = s.on r := rfl

/-! `State.modBoot` -/

@[simp] theorem modBoot_boot (s : State) (f : BootS → BootS) : (s.modBoot f).boot = f s.boot := rfl
@[simp] theorem modBoot_regs (s : State) (f : BootS → BootS) : (s.modBoot f).regs = s.regs := rfl
@[simp] theorem modBoot_tb (s : State) (f : BootS → BootS) : (s.modBoot f).tb = s.tb := rfl
@[simp] theorem modBoot_mem (s : State) (f : BootS → BootS) : (s.modBoot f).mem = s.mem := rfl
@[simp] theorem modBoot_pending (s : State) (f : BootS → BootS) : (s.modBoot f).pending = s.pending := rfl
@[simp] theorem modBoot_nonce (s : State) (f : BootS → BootS) : (s.modBoot f).nonce = s.nonce := rfl
@[simp] theorem modBoot_pwr (s : State) (f : BootS → BootS) : (s.modBoot f).pwr = s.pwr := rfl
@[simp] theorem modBoot_flt (s : State) (f : BootS → BootS) : (s.modBoot f).flt = s.flt := rfl
@[simp] theorem modBoot_out (s : State) (f : BootS → BootS) : (s.modBoot f).out = s.out := rfl
@[simp] theorem modBoot_chans (s : State) (f : BootS → BootS) : (s.modBoot f).chans = s.chans := rfl
@[simp] theorem modBoot_evt (s : State) (f : BootS → BootS) : (s.modBoot f).evt = s.evt := rfl
@[simp] theorem modBoot_maint (s : State) (f : BootS → BootS) : (s.modBoot f).maint = s.maint := rfl
@[simp] theorem modBoot_rd (s : State) (f : BootS → BootS) (r : Field) : (s.modBoot f).rd r = s.rd r := rfl
@[simp] theorem modBoot_on (s : State) (f : BootS → BootS) (r : Field) : (s.modBoot f).on r = s.on r := rfl

/-! `State.modPwr` -/

@[simp] theorem modPwr_pwr (s : State) (f : Pwr → Pwr) : (s.modPwr f).pwr = f s.pwr := rfl
@[simp] theorem modPwr_regs (s : State) (f : Pwr → Pwr) : (s.modPwr f).regs = s.regs := rfl
@[simp] theorem modPwr_tb (s : State) (f : Pwr → Pwr) : (s.modPwr f).tb = s.tb := rfl
@[simp] theorem modPwr_mem (s : State) (f : Pwr → Pwr) : (s.modPwr f).mem = s.mem := rfl
@[simp] theorem modPwr_pending (s : State) (f : Pwr → Pwr) : (s.modPwr f).pending = s.pending := rfl
@[simp] theorem modPwr_nonce (s : State) (f : Pwr → Pwr) : (s.modPwr f).nonce = s.nonce := rfl
@[simp] theorem modPwr_flt (s : State) (f : Pwr → Pwr) : (s.modPwr f).flt = s.flt := rfl
@[simp] theorem modPwr_out (s : State) (f : Pwr → Pwr) : (s.modPwr f).out = s.out := rfl
@[simp] theorem modPwr_chans (s : State) (f : Pwr → Pwr) : (s.modPwr f).chans = s.chans := rfl
@[simp] theorem modPwr_evt (s : State) (f : Pwr → Pwr) : (s.modPwr f).evt = s.evt := rfl
@[simp] theorem modPwr_maint (s : State) (f : Pwr → Pwr) : (s.modPwr f).maint = s.maint := rfl
@[simp] theorem modPwr_rd (s : State) (f : Pwr → Pwr) (r : Field) : (s.modPwr f).rd r = s.rd r := rfl
@[simp] theorem modPwr_on (s : State) (f : Pwr → Pwr) (r : Field) : (s.modPwr f).on r = s.on r := rfl

/-! `State.modFlt` -/

@[simp] theorem modFlt_flt (s : State) (f : Flt → Flt) : (s.modFlt f).flt = f s.flt := rfl
@[simp] theorem modFlt_regs (s : State) (f : Flt → Flt) : (s.modFlt f).regs = s.regs := rfl
@[simp] theorem modFlt_tb (s : State) (f : Flt → Flt) : (s.modFlt f).tb = s.tb := rfl
@[simp] theorem modFlt_mem (s : State) (f : Flt → Flt) : (s.modFlt f).mem = s.mem := rfl
@[simp] theorem modFlt_pending (s : State) (f : Flt → Flt) : (s.modFlt f).pending = s.pending := rfl
@[simp] theorem modFlt_nonce (s : State) (f : Flt → Flt) : (s.modFlt f).nonce = s.nonce := rfl
@[simp] theorem modFlt_pwr (s : State) (f : Flt → Flt) : (s.modFlt f).pwr = s.pwr := rfl
@[simp] theorem modFlt_out (s : State) (f : Flt → Flt) : (s.modFlt f).out = s.out := rfl
@[simp] theorem modFlt_chans (s : State) (f : Flt → Flt) : (s.modFlt f).chans = s.chans := rfl
@[simp] theorem modFlt_evt (s : State) (f : Flt → Flt) : (s.modFlt f).evt = s.evt := rfl
@[simp] theorem modFlt_maint (s : State) (f : Flt → Flt) : (s.modFlt f).maint = s.maint := rfl
@[simp] theorem modFlt_rd (s : State) (f : Flt → Flt) (r : Field) : (s.modFlt f).rd r = s.rd r := rfl
@[simp] theorem modFlt_on (s : State) (f : Flt → Flt) (r : Field) : (s.modFlt f).on r = s.on r := rfl

/-! `State.modCasc` -/

@[simp] theorem modCasc_casc (s : State) (f : CascS → CascS) : (s.modCasc f).casc = f s.casc := rfl
@[simp] theorem modCasc_regs (s : State) (f : CascS → CascS) : (s.modCasc f).regs = s.regs := rfl
@[simp] theorem modCasc_tb (s : State) (f : CascS → CascS) : (s.modCasc f).tb = s.tb := rfl
@[simp] theorem modCasc_mem (s : State) (f : CascS → CascS) : (s.modCasc f).mem = s.mem := rfl
@[simp] theorem modCasc_pending (s : State) (f : CascS → CascS) : (s.modCasc f).pending = s.pending := rfl
@[simp] theorem modCasc_nonce (s : State) (f : CascS → CascS) : (s.modCasc f).nonce = s.nonce := rfl
@[simp] theorem modCasc_pwr (s : State) (f : CascS → CascS) : (s.modCasc f).pwr = s.pwr := rfl
@[simp] theorem modCasc_flt (s : State) (f : CascS → CascS) : (s.modCasc f).flt = s.flt := rfl
@[simp] theorem modCasc_out (s : State) (f : CascS → CascS) : (s.modCasc f).out = s.out := rfl
@[simp] theorem modCasc_chans (s : State) (f : CascS → CascS) : (s.modCasc f).chans = s.chans := rfl
@[simp] theorem modCasc_evt (s : State) (f : CascS → CascS) : (s.modCasc f).evt = s.evt := rfl
@[simp] theorem modCasc_maint (s : State) (f : CascS → CascS) : (s.modCasc f).maint = s.maint := rfl
@[simp] theorem modCasc_rd (s : State) (f : CascS → CascS) (r : Field) : (s.modCasc f).rd r = s.rd r := rfl
@[simp] theorem modCasc_on (s : State) (f : CascS → CascS) (r : Field) : (s.modCasc f).on r = s.on r := rfl

/-! `State.modMaint` -/

@[simp] theorem modMaint_maint (s : State) (f : MaintS → MaintS) : (s.modMaint f).maint = f s.maint := rfl
@[simp] theorem modMaint_regs (s : State) (f : MaintS → MaintS) : (s.modMaint f).regs = s.regs := rfl
@[simp] theorem modMaint_tb (s : State) (f : MaintS → MaintS) : (s.modMaint f).tb = s.tb := rfl
@[simp] theorem modMaint_mem (s : State) (f : MaintS → MaintS) : (s.modMaint f).mem = s.mem := rfl
@[simp] theorem modMaint_pending (s : State) (f : MaintS → MaintS) : (s.modMaint f).pending = s.pending := rfl
@[simp] theorem modMaint_nonce (s : State) (f : MaintS → MaintS) : (s.modMaint f).nonce = s.nonce := rfl
@[simp] theorem modMaint_pwr (s : State) (f : MaintS → MaintS) : (s.modMaint f).pwr = s.pwr := rfl
@[simp] theorem modMaint_flt (s : State) (f : MaintS → MaintS) : (s.modMaint f).flt = s.flt := rfl
@[simp] theorem modMaint_out (s : State) (f : MaintS → MaintS) : (s.modMaint f).out = s.out := rfl
@[simp] theorem modMaint_chans (s : State) (f : MaintS → MaintS) : (s.modMaint f).chans = s.chans := rfl
@[simp] theorem modMaint_evt (s : State) (f : MaintS → MaintS) : (s.modMaint f).evt = s.evt := rfl
@[simp] theorem modMaint_rd (s : State) (f : MaintS → MaintS) (r : Field) : (s.modMaint f).rd r = s.rd r := rfl
@[simp] theorem modMaint_on (s : State) (f : MaintS → MaintS) (r : Field) : (s.modMaint f).on r = s.on r := rfl

/-! `State.modTrk` -/

@[simp] theorem modTrk_trk (s : State) (f : TrkS → TrkS) : (s.modTrk f).trk = f s.trk := rfl
@[simp] theorem modTrk_regs (s : State) (f : TrkS → TrkS) : (s.modTrk f).regs = s.regs := rfl
@[simp] theorem modTrk_tb (s : State) (f : TrkS → TrkS) : (s.modTrk f).tb = s.tb := rfl
@[simp] theorem modTrk_mem (s : State) (f : TrkS → TrkS) : (s.modTrk f).mem = s.mem := rfl
@[simp] theorem modTrk_pending (s : State) (f : TrkS → TrkS) : (s.modTrk f).pending = s.pending := rfl
@[simp] theorem modTrk_nonce (s : State) (f : TrkS → TrkS) : (s.modTrk f).nonce = s.nonce := rfl
@[simp] theorem modTrk_pwr (s : State) (f : TrkS → TrkS) : (s.modTrk f).pwr = s.pwr := rfl
@[simp] theorem modTrk_flt (s : State) (f : TrkS → TrkS) : (s.modTrk f).flt = s.flt := rfl
@[simp] theorem modTrk_out (s : State) (f : TrkS → TrkS) : (s.modTrk f).out = s.out := rfl
@[simp] theorem modTrk_chans (s : State) (f : TrkS → TrkS) : (s.modTrk f).chans = s.chans := rfl
@[simp] theorem modTrk_evt (s : State) (f : TrkS → TrkS) : (s.modTrk f).evt = s.evt := rfl
@[simp] theorem modTrk_maint (s : State) (f : TrkS → TrkS) : (s.modTrk f).maint = s.maint := rfl
@[simp] theorem modTrk_rd (s : State) (f : TrkS → TrkS) (r : Field) : (s.modTrk f).rd r = s.rd r := rfl
@[simp] theorem modTrk_on (s : State) (f : TrkS → TrkS) (r : Field) : (s.modTrk f).on r = s.on r := rfl

end Sys2Proof.Machine
end

