-- ==== Sys2Proof/WellFormed.lean ====
section
/-! DEFINITION. Which commands are well formed: operands that the types leave wider than the machine's own ranges. -/

namespace Sys2Proof

/-- A master that issues accesses (R72): IDs 11 to 15 are reserved and never issued. -/
def Master.issued (m : Master) : Bool := decide (m.val ≤ 10)

/-- A count that the timebase can reach (R353). -/
def okTime (t : Nat) : Bool := decide (t < 2 ^ 64)

/-- A command is well formed: its count is one of the timebase, the master that issues it exists, and a beacon has the ten words of
its payload (R413, R421). -/
def Instr.wf (i : Instr) : Bool :=
  match i with
  | .regWrite t m _ _ | .freezeWrite t m _ _ | .pgFaultClear t m _ | .pageLock t m _ | .accessTableWrite t m _ _
  | .wideLowRead t m _ | .wideHighWrite t m _ _ | .wideLowWrite t m _ _ | .softRst t m _ _ | .pageDisable t m _
  | .tbRestore t m | .sleepRequest t m _ | .dhaltEnter t m _ _ | .dhaltExit t m _ _ | .commit t m
  | .ipendClear t m _ _ _ | .mbqRelease t m _ _ | .mbqConfigure t m _ _ _ | .posEnable t m _ | .posLoad t m _
  | .ssiTrig t m _ _ | .trkEnable t m | .selReq t m _ | .tblDataAccess t m _ | .tblCommit t m | .learnReq t m
  | .learnAbort t m | .evtWordStage t m _ _ _ | .evtCommit t m _ _ | .evtRun t m | .evtStop t m | .hostSrq t m _ _
  | .channelEnable t m _ | .channelDisable t m _ | .gelEnable t m _ | .gelStep t m _ | .gelResume t m _ | .outArm t m _
  | .outDisarm t m _ | .bankEnable t m _ | .slotLockClear t m _ _ | .cbcEnable t m _ | .convCtrlStart t m _ _
  | .convUrgent t m _ _ | .convStop t m _ | .resultRead t m _ _ | .vrefEnable t m _ | .calReq t m _ _ | .calAbort t m _
  | .cmpEnable t m _ _ _ | .cmpRefWrite t m _ _ | .cmpStReq t m | .cmpStAbort t m | .cylEnable t m _
  | .volDataAccess t m _ | .volCommit t m | .rcReq t m _ | .loopEnable t m _ _ | .sbufRead t m | .cylStatusRead t m _
  | .alarmWrite t m _ | .gptEnable t m _ _ | .gptCmpWrite t m _ _ | .capqRead t m _ | .gptSnap t m _
  | .dstCfgWrite t m _ _ | .swTrig t m _ | .dmaChCfgWrite t m _ _ | .dmaStart t m _ | .dmaStop t m _ | .dmaFence t m _
  | .pioEngineEnable t m _ | .pioEngineStop t m _ | .pioSlotEnable t m _ _ | .pioSlotStop t m _ _ | .txqWrite t m _ _ _
  | .rxqRead t m _ _ | .pioProgWrite t m _ _ _ | .linkEnable t m _ | .remoteAccess t m _ _ _ | .remoteTimeout t m
  | .cascEnable t m | .fltQPop t m | .fltFeClear t m | .fltInjCtrl t m _ | .fltKcfgWrite t m _ | .actReq t m _ _
  | .actAbort t m _ _ =>
    okTime t && m.issued
  | .gelHalt t _ m =>
    okTime t && (m.all Master.issued)
  | .linkBeacon t _ _ ws =>
    okTime t && decide (ws.length = 10)
  | .unitResetComplete t _ | .domainDroop t _ | .domainDroopRelease t _ | .deviceReset t | .resetRelease t _ _
  | .selftestDone t _ _ _ | .trefFail t _ | .dlCalDone t | .tbRestoreSwitch t | .xinLoss t | .lfLoss t | .lfModeEntry t
  | .lfModeExit t | .lfStep t | .wake t _ | .wakeComplete t | .frameBoundary t | .cmdQueueArrival t _ | .hostCsFall t _
  | .laneBreak t _ | .hello t _ _ | .hostRead t _ _ | .hostWrite t _ _ | .hostMaskWrite t _ _ | .hostStream t _ _
  | .hostSnap64 t _ _ | .hostAttest t _ _ | .hostUnknown t _ _ | .responseReady t _ | .responseSendEnd t _ _
  | .attnPulse t _ | .hostSilence t _ | .posEdge t _ _ _ _ | .posDeferredEdge t _ _ | .posIndex t _ | .vrArmHalve t _
  | .speedFallbackWindow t _ | .posStuck t _ | .ssiPeriodStart t _ _ _ | .ssiWord t _ _ | .ssiTimeout t _
  | .sentFrame t _ _ _ _ _ | .trkCrankEdge t _ | .trkCamEdge t _ | .camWindowClose t _ | .candidateConfirm t _
  | .trkHalted t | .haltLimit t _ | .trkStall t | .microTick t | .learnDone t | .evtCommitEffect t _
  | .occurrenceSlotArrival t _ | .evtPinSet t _ | .evtPinClr t _ | .evtPulseT t _ | .evtPulseTEnd t _ | .evtPulseA t _
  | .evtPulseAEnd t _ | .evtDwell t _ | .evtDwellSpark t _ | .evtDwellMaxEnd t _ | .evtSrq t _ | .evtConvStart t _
  | .evtConvWin t _ | .evtCmuMark t _ | .evtOut t _ | .evtLinkBcast t _ | .softOffEnd t _ | .channelCapture t _ _ _
  | .timeMatchFire t _ | .angleMatchFire t _ | .coupledMatchFire t _ | .threadGrant t _ | .threadTmax t _ | .gelAdd t _
  | .gelSub t _ | .gelAnd t _ | .gelOr t _ | .gelXor t _ | .gelShl t _ | .gelShr t _ | .gelSar t _ | .gelMul t _
  | .gelMulq t _ | .gelMin t _ | .gelMax t _ | .gelCmp t _ | .gelMov t _ | .gelAdda t _ | .gelLdh t _ | .gelLdp t _
  | .gelStp t _ | .gelLdm t _ | .gelStm t _ | .gelMemComplete t _ | .gelA2t t _ | .gelA2d t _ | .gelQput t _
  | .gelLnk t _ | .gelSmt t _ | .gelSma t _ | .gelSmc t _ | .gelPin t _ | .gelRdcCap0Time t _ | .gelRdcCap0Angle t _
  | .gelRdcCap1Time t _ | .gelRdcCap1Angle t _ | .gelRdsTbvLo t _ | .gelRdsTbvHi t _ | .gelRdsAngle t _
  | .gelRdsSnapshot t _ | .gelRdsChStat t _ | .gelRdsSrqTime t _ | .gelRdsSrqParam t _ | .gelRdsCycCnt t _
  | .gelChcRel t _ | .gelChcDisarmTime t _ | .gelChcDisarmAngle t _ | .gelChcArmSrqAction t _ | .gelAdj t _
  | .gelBr t _ | .gelBf t _ | .gelCall t _ | .gelRet t _ | .gelBrk t _ | .gelYield t _ | .gelEnd t _ | .gelIllegal t _
  | .gelStoreError t _ | .dpermitAToggle t | .dpermitBToggle t | .slotCommandRise t _ _ | .slotCommandFall t _ _
  | .bankCmpARise t _ | .bankCmpBFall t _ | .slotTPeak t _ _ | .slotTBoostMax t _ _ | .slotTQmax t _ _
  | .slotTperMin t _ | .convRouterStart t _ | .convRouterUrgent t _ | .convBoundary t _ | .convWindowTimeEnd t _
  | .convWindowLong t _ | .convResult t _ _ _ | .vrefWarm t | .vrefOkChange t _ | .mainsEdge t | .mainsTimeout t
  | .calStart t _ | .calEnd t _ _ | .cmpLevelChange t _ _ | .cmpSampleWindowEnd t _ _ | .cmpSelftestStep t _
  | .cmuSample t _ | .pegOpen t _ | .pegClose t _ | .cmuClose t _ | .cmuRecordReady t _ | .cmuTrimWrite t _ _
  | .cmuRecordPost t _ | .volTableReady t | .recomputeDone t | .alarmFire t | .gptWrap t _ | .gptMatch t _
  | .gptTriggerReset t _ | .gptCapture t _ _ | .routerEvent t _ | .dmaTrigger t _ | .dmaBurstGrant t
  | .dmaBurstWritten t | .dmaComplete t _ | .dmaDescLoad t _ | .dmaBeatError t _ | .dmaPfbError t | .dmaFenceDone t
  | .pioDrv t _ _ | .pioDir t _ _ | .pioSho t _ _ | .pioShi t _ _ _ | .pioTake t _ _ | .pioTakeNb t _ _ | .pioPut t _ _
  | .pioPutNb t _ _ | .pioSetk t _ _ | .pioLoop t _ _ | .pioBr t _ _ _ | .pioWaite t _ _ _ | .pioWaitf t _ _
  | .pioSigSet t _ _ | .pioSigClear t _ _ | .pioSigInvert t _ _ | .pioSigIrq t _ _ | .pioMovs t _ _ _
  | .pioHoldTick t _ _ | .pioSlotFault t _ _ | .pioFetchError t _ _ | .pioPtrig t _ | .linkAligned t _
  | .linkTrain t _ _ _ _ | .linkTrainTimeout t _ | .linkDown t _ _ | .beaconSend t | .linkStatus t _ _ _
  | .statusSend t | .linkEvent t _ _ _ | .linkClaim t _ _ _ | .linkRreq t _ _ _ _ | .linkRrsp t _ _ _ _
  | .masterElection t | .beaconLoss t | .claimWaitEnd t | .faultMessage t _ | .faultSlotSend t _
  | .faultMessageArrival t | .coalesceClose t _ _ | .promoWindowEnd t _ _ | .migration t _ | .migrationResume t
  | .tokenGrant t | .tileBistEnd t _ _ | .scrubWord t _ _ _ | .rowRepair t _ _ | .muartFrameSend t
  | .muartReadRequest t _ | .muartRxTimeout t | .imgBlock t | .imgEnd t | .imgAbort t | .imgTimeout t
  | .imgVerified t _ | .imgClearingDone t | .slotBlankEnd t _ | .bankThresholdSettled t _ _ | .cleanCrossing t _ _
  | .linkFrameDiscard t _ _ | .trefOkRise t | .lfOkRise t =>
    okTime t

end Sys2Proof
end

