-- ==== Sys2Proof/Tests/Slice0.lean ====
section
/-! SUPPORT. Tests: the well-formedness check on ill-formed commands, single steps on the examples of the spec, and for each
statement of Certificates/Slice0/Obligations.lean states and operands that meet its hypotheses. -/

set_option Elab.async false

open Sys2Proof Sys2Proof.Machine Sys2Proof.Machine.Reg

/-! ### The well-formedness check: a term that each of its tests refuses -/

theorem test_wf_master_reserved : (Instr.regWrite 0 11 0#32 0#32).wf = false := by decide +kernel
theorem test_wf_master_issued : (Instr.regWrite 0 10 0#32 0#32).wf = true := by decide +kernel
theorem test_wf_time : (Instr.microTick (2 ^ 64)).wf = false := by decide +kernel
theorem test_wf_time_last : (Instr.microTick (2 ^ 64 - 1)).wf = true := by decide +kernel
theorem test_wf_halt_master : (Instr.gelHalt 0 0 (some 15)).wf = false := by decide +kernel
theorem test_wf_beacon_length : (Instr.linkBeacon 0 0 ⟨0#32, 0#32⟩ (List.replicate 9 0#32)).wf = false := by decide +kernel
theorem test_wf_beacon : (Instr.linkBeacon 0 0 ⟨0#32, 0#32⟩ (List.replicate 10 0#32)).wf = true := by decide +kernel

/-! ### The interface -/

theorem test_no_word_spells_a_command : decodeTableWord 32 0 = none := by decide +kernel
theorem test_empty_queue_idles : step State.reset = .next State.reset := rfl


/-- The device up and awake, every register at its reset value. -/
def up : State := { pwr := { held := false } }
/-- The device up, its clocks found (R471). -/
def upc : State := ((((up.wr CLK_CLK_STAT_XIN_OK 1).wr CLK_CLK_STAT_TREF_OK 1).wr CLK_CLK_STAT_LF_OK 1).wr
  CLK_CLK_STAT_PLL_SYS_LOCK 1).wr CLK_CLK_STAT_PLL_TB_LOCK 1
/-- The device with an image in force, its host ports in RECV. -/
def uph : State := [0, 1].foldl (fun s x => ((s.modHs x fun h => { h with enabled := true }).hostTo x 2).wr
  (HOST_BOOT_STAT_STATE x) 0x20) upc
/-- A request frame. -/
def mkFrame (op len addr flags : Nat) (pay : List Word) : Frame :=
  let h := op * 2 ^ 56 + len * 2 ^ 48 + addr * 2 ^ 16 + flags * 256
  let n := pay.length
  { hdr := BitVec.ofNat 64 (h + hdrCrc8 h), payload := pay, trailer := BitVec.ofNat 16 (trailerCrc (pay.map (·.toNat)))
    bits := frameBits n }
/-- The device up, position port 0 running as STEP_DIR, limits wide. -/
def upp : State := ((upc.wr (PG_CTRL_EN 0x10) 1).wr (POS_CFG_MODE 0) 2).wr (POS_SOFT_MAX_VALUE 0) 1000
/-- The tracker running on port 0. -/
def upt : State := upp.wr (PG_CTRL_EN 0x18) 1
/-- The tracker in CYCLE_SYNC with a cam of one tooth, past the end of the tooth's window. -/
def uptc : State := { ((upt.wr TRK_CAM_CFG_CAM_EN 1).wr TRK_CAM_CFG_N_TEETH 1) with
  trk := { out := { st := 3, ang := 1000000 }, odo := 100000000 } }
/-- The output in CYCLE_SYNC on a record of tick 4990, the pipeline RUNNING with an occurrence of entry 5 with the words 1 to 3
given, loaded on channel `ch` where that is a channel. -/
def upe (w1 w2 w3 ch : Nat) : State := { (upt.wr EVT_STAT_STATE 2) with
  trk := { out := { st := 3, b23u := false, hasRec := true, g := { r := { t := 4990, w := 1000, tp := 1000 }, at_ := 5000 } } }
  evt := { ncyc := 1, slots := [{ idx := 5, e := ⟨0, w1, w2, w3⟩, cyc := 1, ang := 0, here := true }] }
  chans := if ch < 216 then [(ch, { pipe := some 5 })] else [] }
/-- Bank 2 enabled, its slot 0 attached to channel 0, whose level is active, and in phase `ph`. -/
def upb (ph : Nat) : State :=
  let r := [(PG_CTRL_EN 0x42, 1), (BANK_BANK_CFG_SLOT_EN 2, 1), (BANK_THR_PK_PK_HI 2 0, 400), (BANK_THR_PK_PK_LO 2 0, 300),
    (BANK_THR_H_H_HI 2 0, 200), (BANK_THR_H_H_LO 2 0, 100), (BANK_THR_Q_Q_END 2 0, 50), (BANK_T_PHASE_T_QMAX 2 0, 1),
    (BANK_ATTACH_CH0 2, 0), (BANK_BANK_CFG_WIN_EN 2, 0), (BANK_THR_Q_BOOST_EN 2 0, 0), (BANK_T_BOOST_T_BOOST_MAX 2 0, 10),
    (CBC_VREF_STAT_OK 0, 1), (BANK_SLOT_STAT_PHASE 2 0, ph)]
  { (r.foldl (fun s x => s.wr x.1 x.2) upc) with chans := [(0, { env := true, car := true })] }
/-- Engine 0 running a thread of channel 0 with the record `x`, the instruction `w` at its program counter 0x40. -/
def upi (w : Nat) (x : GelS) : State :=
  let r := [(PG_CTRL_EN 0x30, 1), (GEL_GEL_STAT_STATE 0, 2), (GEL_GEL_STAT_PC 0, 0x40), (TILE_CH_CTRL_EN 0 0, 1)]
  { (r.foldl (fun s x => s.wr x.1 x.2) upt) with
    mem := wrWord (wrWord [] 0x30000200 (w % 2 ^ 32)) 0x30000204 (w / 2 ^ 32), gel := [(0, { x with thread := true })] }
/-- Converter 0 running, IDLE (state 1) or in state `st` with the record `c`. -/
def upv (st : Nat) (c : ConvS) : State :=
  { ((((upc.wr (PG_CTRL_EN 0x60) 1).wr (CBC_VREF_STAT_OK 0) 1).wr (CBC_VREF_STAT_WARM 0) 1).wr (CBC_CONV_STAT_STATE 0) st) with
    conv := [(0, c)] }
/-- A device whose volume table's shadow holds 5 in every entry. -/
def upVol : State := { (upc.wr CMU_VD_VD 9) with cmu := { shadow := (List.range 1440).map fun i => (i, 5) } }
theorem tget_const (l : List Nat) (i v : Nat) (h : i ∈ l) : tget 0 (l.map fun j => (j, v)) i = v := by
  induction l with
  | nil => simp at h
  | cons k r ih =>
    simp only [List.map_cons, tget]
    split
    · rfl
    · rename_i hk
      exact ih (by rcases List.mem_cons.1 h with h | h; exacts [absurd h.symm hk, h])
theorem upVol_ok (a : State) (h : a.cmu = upVol.cmu) : a.volBad = none := by
  unfold State.volBad
  rw [h, List.find?_eq_none]
  intro i hi
  simp [upVol, tget_const _ i 5 hi]
/-- General timer 1 enabled, with the record `x`. -/
def upg (x : GptS) : State := { (upc.wr (GPT_GPT_CFG_EN 1) 1) with gpt := [(1, x)] }
/-- DMA channel 1 in state `st`, with `n` bytes to copy in mailbox SRAM. -/
def upd (n st : Nat) : State :=
  let r := [(DMA_CH_CFG_SRC_INC 1, 1), (DMA_CH_CFG_DST_INC 1, 1), (DMA_CH_SRC_ADDR 1, 0x10000000), (DMA_CH_DST_ADDR 1, 0x10000100),
    (DMA_CH_COUNT_BYTES 1, n), (DMA_CH_STAT_STATE 1, st)]
  r.foldl (fun s x => s.wr x.1 x.2) upc
/-- Engine 0 RUNNING, its slot 0 executing the word `w` at address 0, with the record `y`. -/
def upo (w : Nat) (y : PioS) : State :=
  let r := [(PG_CTRL_EN 0xC0, 1), (PIO_ENG_STAT_STATE 0, 1), (PIO_SLOT_CFG_EN 0 0, 1), (PIO_SLOT_STAT_STATE 0 0, 1), (PIO_PROG_INSTR 0 0, w)]
  { (r.foldl (fun s x => s.wr x.1 x.2) upc) with pio := [(0, y)] }
/-- Link 0 in training state `st`, the cascade in role `r` on the output's own record. -/
def upl (st r : Nat) : State :=
  let q := [(PG_CTRL_EN 0xC8, 1), (LINK_LINK_STAT_STATE 0, st), (LINK_LINK_STAT_VER 0, 0x20), (LINK_LINK_STAT_CAP 0, 1),
    (PG_CTRL_EN 0xCC, 1), (CASC_CASC_STAT_ROLE, r), (CASC_CASC_STAT_MEN, 1), (CASC_CASC_STAT_ID, 1), (LINK_LINK_STAT_PEER_ID 0, 2)]
  { (q.foldl (fun s x => s.wr x.1 x.2) upt) with trk := { out := { st := 3, b23u := false } } }
/-- A signed image of one segment, SAFETY, with the words `seg`; its key is the base point, the private key and the nonce 1, and the
second half of its signature `x`. -/
def wImg (seg : List Nat) (x : Nat) : List Nat :=
  let ws (n k : Nat) : List Nat := (List.range k).map fun i => n / 2 ^ (32 * (k - 1 - i)) % 2 ^ 32
  [0, 0, 0, 0, 0x100] ++ List.replicate 11 0 ++ ws ecGx 12 ++ ws ecGy 12 ++ [0x05000000, 56, seg.length, 0] ++ shaWords seg ++
    seg ++ ws (ecGx % ecN) 12 ++ ws x 12
/-- The boot sequence in state `st` with the image words `img` and the command word `cmd`. -/
def upq (st cmd : Nat) (img : List Nat) : State := { (upc.bootTo st) with mem := wrWord [] 0x10000000 cmd, boot := { img } }
/-- A verified image without words in its segment, and one that writes where nothing is. -/
def upw : State := upq 0x12 0 (wImg []
  0x5bf1551428ab7a7852cf26f32d70da168bc34887b915a649682da9bf26484245e05b31373d223238f3819be29df4c0d)
def upx : State := upq 0x12 0 (wImg [0, 0]
  0x46e2da3f369eb552cdf1e791b6a4e4d7f1f0d3bfd1ef16d4ee14ddff8e8b88abb9d81b3bc72a968f3d584428a971af90)

/-! ### The spec's examples -/

/-- Chapter 1: physical channel 77 is channel 5 of TILE3, in quarter 0, UNIT 12, SUB 5, SRC_ID 0x4C5. -/
theorem test_src_of_channel_77 : srcChannel 77 = 0x4C5 := by decide +kernel
/-- Chapter 3: CBC17 is page 0x071; its register at offset 040 lies at 0x4007_1040. -/
theorem test_address_of_page : pageAddr 0x71 0x40 = 0x40071040 ∧ regionOf 0x40071040 = .page 0x71 0x40 := by decide +kernel
/-- R64: the last word of the event table. -/
theorem test_address_of_entry : regionOf 0x2000FFFC = .evt 4095 3 := by decide +kernel
/-- R62: an address between two regions, and one that is no word's, are not decoded. -/
theorem test_address_of_nothing : regionOf 0x10040000 = .bad ∧ regionOf 0x10000002 = .bad := by decide +kernel
/-- R102: the highest version that both sides know. -/
theorem test_version_agreed : agreed 0x15 = 0x11 ∧ agreed 0x21 = 0x20 ∧ agreed 0 = 0x10 := by decide +kernel
/-- R376: the byte enables of six bytes to 0x1000_1003. -/
theorem test_dma_byte_enables :
    (let s := (upc.wr (DMA_CH_DST_ADDR 2) 0x10001003).wr (DMA_CH_COUNT_BYTES 2) 6
     [s.dmaBe 2 0, s.dmaBe 2 1, s.dmaBe 2 2]) = [8, 15, 1] := by decide +kernel
/-- Chapter 15: the codes of the trim link's program. -/
theorem test_pio_program : [0x4400, 0x600F, 0x0200, 0x2000, 0x7002, 0x8000].map pioDecode =
    [some .take, some .setk, some .drv, some .sho, some .loop, some .br] := by decide +kernel
/-- Chapter 8, the two-pulse function: 0x01_2300_0000 is ADD G2, G2, G3. -/
theorem test_gel_add_registers : (match exec (.gelAdd 400 0) (upi 0x0123000000 { g := [0, 0, 5, 7, 0, 0, 0, 0] }) with
    | .next b => (b.eng 0).g == [0, 0, 12, 7, 0, 0, 0, 0]
    | _ => false) = true := by decide +kernel
/-- Chapter 8: 0x01_B800_0001 is ADD G3, G3, #1; the sum wraps, Z and C are set. -/
theorem test_gel_add_immediate : (match exec (.gelAdd 400 0) (upi 0x01B8000001 { g := [0, 0, 5, 2 ^ 32 - 1, 0, 0, 0, 0] }) with
    | .next b => (b.eng 0).g == [0, 0, 5, 0, 0, 0, 0, 0] && (b.eng 0).cc == 5
    | _ => false) = true := by decide +kernel
/-- Chapter 9: 0x643E_8063 in BANK_CFG is BLANK 1 µs, TPER_MIN 10 µs, 5 filter samples, WIN_EN, both slots. -/
theorem test_bank_configuration : (match exec (.regWrite 0 3 0x40045040#32 0x643E8063#32) upc with
    | .next b => [b.rd (BANK_BANK_CFG_BLANK 5), b.rd (BANK_BANK_CFG_TPER_MIN 5), b.rd (BANK_BANK_CFG_CMP_F 5),
        b.rd (BANK_BANK_CFG_WIN_EN 5), b.rd (BANK_BANK_CFG_SLOT_EN 5)] == [100, 1000, 1, 1, 3]
    | _ => false) = true := by decide +kernel
/-- Bank 5 as chapter 9 sets it for cylinder 5, with the main window from `st` over `sp`. -/
def upBank5 (st sp : Nat) : State :=
  let slot (i : Nat) : List (Field × Nat) := [(BANK_THR_PK_PK_HI 5 i, 500), (BANK_THR_PK_PK_LO 5 i, 450), (BANK_THR_H_H_HI 5 i, 250),
    (BANK_THR_H_H_LO 5 i, 225), (BANK_THR_Q_Q_END 5 i, 12), (BANK_T_PHASE_T_QMAX 5 i, 2000)]
  ([(BANK_BANK_CFG_SLOT_EN 5, 3), (BANK_ATTACH_CH0 5, 54), (BANK_ATTACH_CH1 5, 55), (BANK_WIN_START_START 5 0, st),
    (BANK_WIN_SPAN_SPAN 5 0, sp), (BANK_WIN_START_START 5 1, 3821477), (BANK_WIN_SPAN_SPAN 5 1, 128159)] ++ slot 0 ++
    slot 1).foldl (fun s x => s.wr x.1 x.2) upc
/-- Chapter 9: the windows of the example pass the check. -/
theorem test_bank_windows_pass : (upBank5 3972938 687400).bankCheck 5 = none := by decide +kernel
/-- Chapter 9: a main window from 167.5 °CA overlaps the pilot's and is refused with CHK_REC 0x6FFF_3637. -/
theorem test_bank_windows_overlap : (match exec (.bankEnable 0 3 5) (upBank5 3903033 757305) with
    | .next b => b.on (PG_CTRL_EN 0x45) == false && b.liveWord 3 0x45 0x4C == 0x6FFF3637
    | _ => false) = true := by decide +kernel
/-- Chapter 13: 0x2050_0000 in CMP41's CMP_CFG selects sampled mode and SAMP_SRC 5. -/
theorem test_comparator_configuration : (match exec (.regWrite 0 3 0x40080390#32 0x20500000#32) upc with
    | .next b => b.rd (CMP_CMP_CFG_MODE 41) == 1 && b.rd (CMP_CMP_CFG_SAMP_SRC 41) == 5 && b.rd (CMP_CMP_CFG_EN 41) == 0
    | _ => false) = true := by decide +kernel
/-- Chapter 12: the quantity loop with Q_ERR 1,489 goes from I 849 and LAST 1,600 to I 1,594 and OUT 1,966. -/
theorem test_quantity_loop :
    (let s := ([(CYL_Q_GAIN_KP 5, 0x40), (CYL_Q_GAIN_KI 5, 0x80), (CYL_Q_LIM_LIM 5, 0x2000), (CYL_Q_LIM_STEP 5, 0x400),
       (CYL_Q_I_W 5, 849), (CYL_Q_LAST_W 5, 1600)].foldl (fun s x => s.wr x.1 x.2) upc)
     let b := s.loopUpdate false 5 1489
     [b.rd (CYL_Q_I_W 5), b.rd (CYL_Q_P_W 5), b.rd (CYL_Q_OUT_W 5)]) = [1594, 372, 1966] := by decide +kernel
/-- Chapter 12: the timing loop with A_ERR −27,962 goes from I −10,000 to −13,495. -/
theorem test_timing_loop :
    (let s := ([(CYL_A_GAIN_KI 5, 0x20), (CYL_A_LIM_LIM 5, 0x16C17), (CYL_A_STEP_STEP 5, 0x2D83), (CYL_A_I_W 5, ofS 32 (-10000)),
       (CYL_A_LAST_W 5, ofS 32 (-10000))].foldl (fun s x => s.wr x.1 x.2) upc)
     let b := s.loopUpdate true 5 (-27962)
     [toS 32 (b.rd (CYL_A_I_W 5)), toS 32 (b.rd (CYL_A_OUT_W 5))]) = [-13495, -13495] := by decide +kernel
/-- FIPS 180-4: the digest of the three bytes abc begins cb00753f and ends 58baeca1 34c825a7. -/
theorem test_sha384_abc :
    (let d := sha384 [0x61, 0x62, 0x63]
     d.take 4 ++ d.drop 40) = [0xcb, 0x00, 0x75, 0x3f, 0x58, 0xba, 0xec, 0xa1, 0x34, 0xc8, 0x25, 0xa7] := by decide +kernel
/-- RFC 5639: the order of the base point. -/
theorem test_curve_order : (ecMul ecN ecGx ecGy).pt = none := by decide +kernel
/-- R12: a register write while its domain is held does nothing but pass time. -/
theorem test_held_domain : (match exec (.regWrite 7 3 0x40045040#32 0x643E8063#32) (upc.wr SYS_DOM_STAT_RST 2) with
    | .next b => b.rd (BANK_BANK_CFG_TPER_MIN 5) == 1000 && b.tb == 7 && b.rd (BANK_BANK_CFG_SLOT_EN 5) == 0
    | _ => false) = true := by decide +kernel

/-! ### The statements' hypotheses can be met -/


/-- States and operands that meet every hypothesis of each clause of PageHeaderCommands. -/
theorem witness_PageHeaderCommands :
  (∃ (s a : State) (t : Nat) (m : Master) (p : Page) (on : Bool),
    a = s.advance t ∧ State.core 3 a = true ∧ a.domOn (domOf p) = true ∧ a.mayWrite m p 0x08 (4 * b2n on) 4 = true ∧ capFrz p = true ∧ a.on (PG_CTRL_FREEZE p) = !on) ∧
  (∃ (s a : State) (t : Nat) (m : Master) (p : Page),
    a = s.advance t ∧ State.core 3 a = true ∧ a.domOn (domOf p) = true ∧ a.mayWrite m p 0x1C 0x40000000 0x40000000 = true ∧ a.on (PG_FAULT_VALID p) = true ∧ tget 0 a.hot (PG_FAULT_VALID p).key = 0 ∧ tget none a.flt.live p = none) ∧
  (∃ (s a : State) (t : Nat) (m : Master) (p : Page) (f : Msg),
    a = s.advance t ∧ State.core 3 a = true ∧ a.domOn (domOf p) = true ∧ a.mayWrite m p 0x1C 0x40000000 0x40000000 = true ∧ a.on (PG_FAULT_VALID p) = true ∧ tget 0 a.hot (PG_FAULT_VALID p).key = 0 ∧ tget none a.flt.live p = some f ∧ f.sev < 4 ∧ f.kind < 256) ∧
  (∃ (s a : State) (t : Nat) (m : Master) (p : Page),
    a = s.advance t ∧ State.core 3 a = true ∧ a.domOn (domOf p) = true ∧ a.mayWrite m p 0x2C 1 1 = true ∧ a.on (PG_ACLK_LOCK p) = false) ∧
  (∃ (s a : State) (t : Nat) (m : Master) (p : Page) (v addr : Word),
    a = s.advance t ∧ State.core 3 a = true ∧ a.domOn (domOf p) = true ∧ addr.toNat = pageAddr p 0x28 ∧ a.mayWrite m p 0x28 v.toNat 0xFFFFFFFF = true) ∧
  (∃ (s a : State) (t : Nat) (m : Master) (p : Page) (v addr : Word) (i : Nat),
    a = s.advance t ∧ State.core 3 a = true ∧ a.domOn (domOf p) = true ∧ p.val = 0 ∧ i < 16 ∧ addr.toNat = pageAddr 0 (0x80 + 4 * i) ∧ a.mayWrite m 0 (0x80 + 4 * i) v.toNat 0xFFFFFFFF = true) :=
  ⟨⟨up, (up).advance 5, 5, 3, 0xB1, true, by decide +kernel⟩,
   ⟨up.wr (PG_FAULT_VALID 0xB1) 1, (up.wr (PG_FAULT_VALID 0xB1) 1).advance 5, 5, 3, 0xB1, by decide +kernel⟩,
   ⟨({ up with flt := { live := [(0xB1, some { kind := 3, sev := 2, detail := 7 })] } } : State).wr (PG_FAULT_VALID 0xB1) 1, (({ up with flt := { live := [(0xB1, some { kind := 3, sev := 2, detail := 7 })] } } : State).wr (PG_FAULT_VALID 0xB1) 1).advance 5, 5, 3, 0xB1, { kind := 3, sev := 2, detail := 7 }, by decide +kernel⟩,
   ⟨up, (up).advance 5, 5, 3, 0xB1, by decide +kernel⟩,
   ⟨up, (up).advance 5, 5, 3, 0xB1, 0x12345678, 0x400B1028, by decide +kernel⟩,
   ⟨up, (up).advance 5, 5, 3, 0, 0x12345678, 0x400000BC, 15, by decide +kernel⟩⟩

/-- States and operands that meet every hypothesis of each clause of UnitResetAndDisable. -/
theorem witness_UnitResetAndDisable :
  (∃ (s a : State) (t : Nat) (m : Master) (p : Page),
    a = s.advance t ∧ State.core 3 a = true ∧ a.domOn (domOf p) = true ∧ a.mayWrite m p 0x08 0 1 = true ∧ enReset p = 0 ∧ a.on (PG_CTRL_EN p) = true) ∧
  (∃ (s a : State) (t : Nat) (m : Master) (p : Page),
    a = s.advance t ∧ State.core 3 a = true ∧ a.domOn (domOf p) = true ∧ a.mayWrite m p 0x08 0 1 = true ∧ enReset p = 0 ∧ a.on (PG_CTRL_EN p) = true) ∧
  (∃ (s a : State) (t : Nat) (m : Master) (p : Page) (v : Word),
    a = s.advance t ∧ State.core 3 a = true ∧ a.domOn (domOf p) = true ∧ a.mayWrite m p 0x08 v.toNat 0xFFFFFFFF = true ∧ bit v.toNat 8 = true ∧ bits v.toNat 24 8 = 0xB6 ∧ bit v.toNat 3 = false ∧ m ≠ 2 ∧ bit v.toNat 2 = a.on (PG_CTRL_FREEZE p) ∧ bit v.toNat 0 = a.on (PG_CTRL_EN p) ∧ capRst p = true ∧ ((0x20 ≤ p.val → p.val ≤ 0x28 → a.inService (p.val - 0x20) = false)) ∧ a.pkgCrimson = false) ∧
  (∃ (s a : State) (t : Nat) (m : Master) (p : Page) (v : Word),
    a = s.advance t ∧ State.core 3 a = true ∧ a.domOn (domOf p) = true ∧ a.mayWrite m p 0x08 v.toNat 0xFFFFFFFF = true ∧ bit v.toNat 8 = true ∧ bits v.toNat 24 8 = 0xB6 ∧ bit v.toNat 3 = false ∧ m ≠ 2 ∧ bit v.toNat 2 = a.on (PG_CTRL_FREEZE p) ∧ bit v.toNat 0 = a.on (PG_CTRL_EN p) ∧ capRst p = true ∧ ((0x20 ≤ p.val → p.val ≤ 0x28 → a.inService (p.val - 0x20) = false)) ∧ a.pkgCrimson = false) ∧
  (∃ (s a : State) (t : Nat) (m : Master) (p : Page) (v : Word),
    a = s.advance t ∧ State.core 3 a = true ∧ a.domOn (domOf p) = true ∧ a.mayWrite m p 0x08 v.toNat 0xFFFFFFFF = true ∧ bit v.toNat 8 = true ∧ bits v.toNat 24 8 = 0xB6 ∧ bit v.toNat 3 = false ∧ m ≠ 2 ∧ bit v.toNat 2 = a.on (PG_CTRL_FREEZE p) ∧ bit v.toNat 0 = a.on (PG_CTRL_EN p) ∧ capRst p = true ∧ ((0x20 ≤ p.val → p.val ≤ 0x28 → a.inService (p.val - 0x20) = false)) ∧ a.pkgCrimson = false ∧ (p.val = 6 ∨ p.val = 0xB1)) ∧
  (∃ (s a : State) (t : Nat) (m : Master) (p : Page) (v : Word),
    a = s.advance t ∧ State.core 3 a = true ∧ a.domOn (domOf p) = true ∧ a.mayWrite m p 0x08 v.toNat 0xFFFFFFFF = true ∧ bit v.toNat 8 = true ∧ bits v.toNat 24 8 ≠ 0xB6 ∧ bit v.toNat 3 = false ∧ m ≠ 2 ∧ bit v.toNat 2 = a.on (PG_CTRL_FREEZE p) ∧ bit v.toNat 0 = a.on (PG_CTRL_EN p)) ∧
  (∃ (s a : State) (t : Nat) (m : Master) (p : Page),
    a = s.advance t ∧ State.core 3 a = true ∧ a.domOn (domOf p) = true ∧ a.rstBusy p = true) ∧
  (∃ (s a : State) (t : Nat) (m : Master) (p : Page),
    a = s.advance t ∧ State.core 3 a = true ∧ a.domOn (domOf p) = true ∧ a.rstBusy p = true) ∧
  (∃ (s a : State) (t : Nat) (m : Master) (p : Page) (v : Word),
    a = s.advance t ∧ State.core 3 a = true ∧ a.domOn (domOf p) = true ∧ a.mayWrite m p 0x08 v.toNat 0xFFFFFFFF = true ∧ bit v.toNat 8 = true ∧ bits v.toNat 24 8 ≠ 0xB6 ∧ bit v.toNat 3 = false ∧ m ≠ 2 ∧ bit v.toNat 2 = a.on (PG_CTRL_FREEZE p) ∧ bit v.toNat 0 = a.on (PG_CTRL_EN p)) :=
  ⟨⟨up.wr (PG_CTRL_EN 0x60) 1, (up.wr (PG_CTRL_EN 0x60) 1).advance 5, 5, 3, 0x60, by decide +kernel⟩,
   ⟨up.wr (PG_CTRL_EN 0x60) 1, (up.wr (PG_CTRL_EN 0x60) 1).advance 5, 5, 3, 0x60, by decide +kernel⟩,
   ⟨up, (up).advance 5, 5, 3, 0x60, 0xB6000100, by decide +kernel⟩,
   ⟨up, (up).advance 5, 5, 3, 0x60, 0xB6000100, by decide +kernel⟩,
   ⟨up, (up).advance 5, 5, 3, 0xB1, 0xB6000101, by decide +kernel⟩,
   ⟨up, (up).advance 5, 5, 3, 0x60, 0xB5000100, by decide +kernel⟩,
   ⟨{ up with acc := { rstBusy := [0x60] } }, ({ up with acc := { rstBusy := [0x60] } }).advance 5, 5, 3, 0x60, by decide +kernel⟩,
   ⟨(({ up with acc := { rstBusy := [0x60] } } : State).wr (PG_CTRL_EN 0x60) 1).wr (PG_IFLAG_FLAG 0x60) 5, ((({ up with acc := { rstBusy := [0x60] } } : State).wr (PG_CTRL_EN 0x60) 1).wr (PG_IFLAG_FLAG 0x60) 5).advance 5, 5, 3, 0x60, by decide +kernel⟩,
   ⟨up, (up).advance 5, 5, 3, 0x60, 0xB5000100, by decide +kernel⟩⟩

/-- States and operands that meet every hypothesis of each clause of RegisterWriteEffect. -/
theorem witness_RegisterWriteEffect :
  (∃ (s a : State) (t : Nat) (m : Master) (addr v : Word) (p o : Nat),
    a = s.advance t ∧ State.core 3 a = true ∧ regionOf addr.toNat = .page p o ∧ a.writeCode m addr.toNat v.toNat 0xFFFFFFFF = 0 ∧ a.pageDown p = false ∧ a.grantable (16 + m) 1 = true) ∧
  (∃ (s a : State) (t : Nat) (m : Master) (addr v : Word) (p : Nat),
    a = s.advance t ∧ State.core 3 a = true ∧ regionOf addr.toNat = .page p 0x14 ∧ a.writeCode m addr.toNat v.toNat 0xFFFFFFFF = 0 ∧ a.pageDown p = false ∧ a.grantable (16 + m) 1 = true) ∧
  (∃ (s a : State) (t : Nat) (m : Master) (addr v : Word) (n : Nat),
    a = s.advance t ∧ State.core 3 a = true ∧ regionOf addr.toNat = .mbx n ∧ a.writeCode m addr.toNat v.toNat 0xFFFFFFFF = 0 ∧ a.grantable m 1 = true) ∧
  (∃ (s a : State) (t : Nat) (m : Master) (addr v : Word),
    a = s.advance t ∧ State.core 3 a = true ∧ isRemote addr.toNat = false ∧ a.writeCode m addr.toNat v.toNat 0xFFFFFFFF ≠ 0 ∧ ((a.writeCode m addr.toNat v.toNat 0xFFFFFFFF ≠ 4 ∨ addr.toNat < 0x400B8000 ∨ 0x400B9000 ≤ addr.toNat))) :=
  ⟨⟨up, (up).advance 5, 5, 3, 0x400B1014, 0xDEADBEEF, 0xB1, 0x14, by decide +kernel⟩,
   ⟨up, (up).advance 5, 5, 3, 0x400B1014, 0xDEADBEEF, 0xB1, by decide +kernel⟩,
   ⟨up, (up).advance 5, 5, 3, 0x10000004, 0xDEADBEEF, 0, by decide +kernel⟩,
   ⟨up, (up).advance 5, 5, 5, 0x40000000, 0xDEADBEEF, by decide +kernel⟩⟩

/-- States and operands that meet every hypothesis of each clause of WideValues. -/
theorem witness_WideValues :
  (∃ (s a : State) (t : Nat) (m : Master) (addr : Word) (p : Page) (o : Nat),
    a = s.advance t ∧ State.core 3 a = true ∧ addr.toNat = pageAddr p o ∧ a.domOn (domOf p) = true ∧ wideOf p o = some o ∧ ownLatch p o = false ∧ a.mayRead m p o = true ∧ a.rightIn (.page p o) m ≠ 0) ∧
  (∃ (s a : State) (t : Nat) (m : Master) (addr : Word) (p : Page) (o : Nat) (v : Word),
    a = s.advance t ∧ State.core 3 a = true ∧ addr.toNat = pageAddr p o ∧ a.domOn (domOf p) = true ∧ 4 ≤ o ∧ wideRw p (o - 4) = true ∧ a.mayWrite m p o v.toNat 0xFFFFFFFF = true) ∧
  (∃ (s a : State) (t : Nat) (m : Master) (addr : Word) (p : Page) (o : Nat) (v : Word),
    a = s.advance t ∧ State.core 3 a = true ∧ addr.toNat = pageAddr p o ∧ a.domOn (domOf p) = true ∧ p.val = 0xB0 ∧ o = 0x4C ∧ a.mayWrite m p o v.toNat 0xFFFFFFFF = true) ∧
  (∃ (s a : State) (t : Nat) (m : Master) (addr : Word) (p : Page) (o : Nat) (v : Word) (i : Nat),
    a = s.advance t ∧ State.core 3 a = true ∧ addr.toNat = pageAddr p o ∧ a.domOn (domOf p) = true ∧ p.val = 0xB1 ∧ i < 8 ∧ o = 0x300 + 8 * i ∧ a.mayWrite m p o v.toNat 0xFFFFFFFF = true) :=
  ⟨⟨up, (up).advance 5, 5, 3, 0x400B0040, 0xB0, 0x40, by decide +kernel⟩,
   ⟨up, (up).advance 5, 5, 3, 0x400B1304, 0xB1, 0x304, 77, by decide +kernel⟩,
   ⟨up, (up).advance 5, 5, 3, 0x400B004C, 0xB0, 0x4C, 77, by decide +kernel⟩,
   ⟨up, (up).advance 5, 5, 3, 0x400B1308, 0xB1, 0x308, 77, 1, by decide +kernel⟩⟩

/-- States and operands that meet every hypothesis of each clause of ResetAndDomains. -/
theorem witness_ResetAndDomains :
  (∃ (s a : State) (t : Nat),
    a = s.advance t) ∧
  (∃ (s a : State) (t : Nat) (id : Fin 4) (men : Bool),
    a = s.advance t ∧ a.pwr.held = true) ∧
  (∃ (s a : State) (t : Nat) (lb mb otp : Bool),
    a = s.advance t ∧ State.core 3 a = true ∧ a.rd (HOST_BOOT_STAT_STATE 0) = 1) ∧
  (∃ (s a : State) (t : Nat) (d : Domain),
    a = s.advance t ∧ a.pwr.held = false ∧ a.domOn d = true) ∧
  (∃ (s a : State) (t : Nat) (d : Domain),
    a = s.advance t ∧ a.pwr.held = false ∧ a.domOn d = false) :=
  ⟨⟨up, (up).advance 5, 5, by decide +kernel⟩,
   ⟨(State.reset), ((State.reset)).advance 5, 5, 2, true, by decide +kernel⟩,
   ⟨up.wr (HOST_BOOT_STAT_STATE 0) 1, (up.wr (HOST_BOOT_STAT_STATE 0) 1).advance 5, 5, true, true, true, by decide +kernel⟩,
   ⟨up, (up).advance 5, 5, 2, by decide +kernel⟩,
   ⟨up.wr SYS_DOM_STAT_RST 4, (up.wr SYS_DOM_STAT_RST 4).advance 5, 5, 2, by decide +kernel⟩⟩

/-- States and operands that meet every hypothesis of each clause of TimebaseClock. -/
theorem witness_TimebaseClock :
  (∃ (s a : State) (t : Nat) (crit : Fin 5),
    a = s.advance t ∧ State.core 3 a = true ∧ a.on TB_TB_STAT_LFMODE = false ∧ crit.val ≠ 0 ∧ a.on CLK_CLK_STAT_TREF_OK = true ∧ a.rd CLK_CLK_STAT_TB_SRC = 0 ∧ a.tb + 2 < 2 ^ 64) ∧
  (∃ (s a : State) (t : Nat),
    a = s.advance t ∧ State.tbd 3 a = true) ∧
  (∃ (s a : State) (t : Nat) (m : Master),
    a = s.advance t ∧ State.core 3 a = true ∧ a.mayWrite m 1 0x40 1 1 = true ∧ a.rd CLK_CLK_STAT_TB_SRC = 1 ∧ a.on CLK_CLK_STAT_TREF_OK = true) ∧
  (∃ (s a : State) (t : Nat) (n : Nat),
    a = s.advance t ∧ State.core 3 a = true ∧ a.tbOn = true ∧ a.rd CLK_CLK_STAT_TB_SRC = 1 ∧ a.pwr.restore = some n ∧ n < a.tb / 8000 ∧ a.tb + 2 < 2 ^ 64) ∧
  (∃ (s a : State) (t : Nat),
    a = s.advance t ∧ State.core 3 a = true ∧ a.on TB_TB_STAT_LFMODE = false ∧ a.on CLK_CLK_STAT_TREF_OK = false) ∧
  (∃ (s a : State) (t : Nat),
    a = s.advance t ∧ a.pwr.held = false) ∧
  (∃ (s a : State) (t : Nat),
    a = s.advance t ∧ a.pwr.held = false ∧ a.pwr.lfLost = false) ∧
  (∃ (s a : State) (t : Nat),
    a = s.advance t ∧ a.pwr.held = false ∧ a.pwr.lfLost = false) ∧
  (∃ (s a : State) (t : Nat),
    a = s.advance t ∧ a.coreOn = true ∧ a.domOn 3 = true) :=
  ⟨⟨upc, (upc).advance 5, 5, 1, by decide +kernel⟩,
   ⟨upc, (upc).advance 5, 5, by decide +kernel⟩,
   ⟨upc.wr CLK_CLK_STAT_TB_SRC 1, (upc.wr CLK_CLK_STAT_TB_SRC 1).advance 4000000, 4000000, 3, by decide +kernel⟩,
   ⟨(upc.modPwr fun p => { p with restore := some 3 }).wr CLK_CLK_STAT_TB_SRC 1, ((upc.modPwr fun p => { p with restore := some 3 }).wr CLK_CLK_STAT_TB_SRC 1).advance 80000, 80000, 3, by decide +kernel⟩,
   ⟨up, (up).advance 5, 5, by decide +kernel⟩,
   ⟨upc, (upc).advance 5, 5, by decide +kernel⟩,
   ⟨upc, (upc).advance 5, 5, by decide +kernel⟩,
   ⟨upc, (upc).advance 5, 5, by decide +kernel⟩,
   ⟨upc, (upc).advance 5, 5, by decide +kernel⟩⟩

/-- States and operands that meet every hypothesis of each clause of SleepAndDebugHalt. -/
theorem witness_SleepAndDebugHalt :
  (∃ (s a : State) (t : Nat) (m : Master) (v : Word),
    a = s.advance t ∧ State.core 3 a = true ∧ a.mayWrite m 1 0x50 v.toNat 0xFFFFFFFF = true ∧ a.rd CLK_PWR_STAT_STATE ≠ 2 ∧ a.pwr.sleep = .awake ∧ bit v.toNat 0 = true ∧ (a.counted m 1).pwrCheck (m == 2) v.toNat = none) ∧
  (∃ (s a : State) (t : Nat) (m : Master) (v : Word),
    a = s.advance t ∧ State.core 3 a = true ∧ a.mayWrite m 1 0x50 v.toNat 0xFFFFFFFF = true ∧ a.rd CLK_PWR_STAT_STATE ≠ 2 ∧ a.pwr.sleep = .awake ∧ bit v.toNat 0 = true ∧ (a.counted m 1).pwrCheck (m == 2) v.toNat = none) ∧
  (∃ (s a : State) (t : Nat) (m : Master) (v : Word) (code : Nat),
    a = s.advance t ∧ State.core 3 a = true ∧ a.mayWrite m 1 0x50 v.toNat 0xFFFFFFFF = true ∧ a.rd CLK_PWR_STAT_STATE ≠ 2 ∧ a.pwr.sleep = .awake ∧ (bit v.toNat 0 || bit v.toNat 1) = true ∧ (a.counted m 1).pwrCheck (m == 2) v.toNat = some code) ∧
  (∃ (s a : State) (t : Nat) (m : Master) (v : Word),
    a = s.advance t ∧ State.core 3 a = true ∧ a.on SEC_LIFE_FIELD = false ∧ a.rd CLK_PWR_STAT_STATE ≠ 2 ∧ a.pwr.sleep = .awake ∧ bit v.toNat 0 = false ∧ bit v.toNat 1 = true ∧ a.pwrCheck true v.toNat = none) ∧
  (∃ (s a : State) (t : Nat) (m : Master) (v : Word),
    a = s.advance t ∧ State.core 3 a = true ∧ a.on SEC_LIFE_FIELD = false ∧ a.rd CLK_PWR_STAT_STATE ≠ 2 ∧ a.pwr.sleep = .awake ∧ bit v.toNat 0 = false ∧ bit v.toNat 1 = true ∧ a.pwrCheck true v.toNat = none) ∧
  (∃ (s a : State) (t : Nat) (v : Word),
    a = s.advance t ∧ State.core 3 a = true ∧ a.mayWrite 2 1 0x50 v.toNat 0xFFFFFFFF = true ∧ a.rd CLK_PWR_STAT_STATE ≠ 2 ∧ a.pwr.sleep = .awake ∧ bit v.toNat 0 = false ∧ bit v.toNat 1 = true ∧ (a.counted 2 1).pwrCheck true v.toNat = none) ∧
  (∃ (s a : State) (t : Nat) (v : Word),
    a = s.advance t ∧ State.core 3 a = true ∧ a.mayWrite 2 1 0x50 v.toNat 0xFFFFFFFF = true ∧ a.rd CLK_PWR_STAT_STATE = 2 ∧ bits v.toNat 24 8 = 0x5A ∧ bit v.toNat 0 = false ∧ bit v.toNat 1 = false) ∧
  (∃ (s a : State) (t : Nat) (v : Word),
    a = s.advance t ∧ State.core 3 a = true ∧ a.mayWrite 2 1 0x50 v.toNat 0xFFFFFFFF = true ∧ a.rd CLK_PWR_STAT_STATE = 2 ∧ bits v.toNat 24 8 = 0x5A ∧ bit v.toNat 0 = false ∧ bit v.toNat 1 = false) ∧
  (∃ (s a : State) (t : Nat),
    a = s.advance t ∧ a.pwr.held = false ∧ a.on TB_TB_STAT_LFMODE = false ∧ ((a.pwr.sleep = .entering ∨ a.rd CLK_PWR_STAT_STATE = 2))) ∧
  (∃ (s a : State) (t : Nat),
    a = s.advance t ∧ a.pwr.held = false ∧ a.on TB_TB_STAT_LFMODE = true ∧ a.pwr.lfLost = false) ∧
  (∃ (s a : State) (t : Nat),
    a = s.advance t ∧ a.pwr.held = false ∧ a.on TB_TB_STAT_LFMODE = true ∧ a.pwr.lfEnding = true ∧ a.pwr.tbFrom < 2) ∧
  (∃ (s a : State) (t : Nat) (p held mv : Nat) (src : Fin 4),
    a = s.advance t ∧ a.pwr.held = false ∧ a.pwr.sleep = .asleep ∧ p = 2 * src.val ∧ src.val < 2 ∧ a.on (POS_CFG_WAKE_EN p) = true ∧ a.usesPin p 0 = true ∧ 781250 ≤ 32 * held ∧ ((a.posMode p ≠ 3 ∨ 4 * a.rd (POS_VR_CFG_ARM_MIN p) < mv))) ∧
  (∃ (s a : State) (t : Nat) (src : Fin 4) (held mv : Nat),
    a = s.advance t ∧ a.pwr.held = false ∧ a.pwr.sleep = .asleep ∧ 2 ≤ src.val) ∧
  (∃ (s a : State) (t : Nat) (src : Nat),
    a = s.advance t ∧ a.pwr.held = false ∧ a.pwr.sleep = .waking src) :=
  ⟨⟨upc, (upc).advance 5, 5, 3, 0x5A000001, by decide +kernel⟩,
   ⟨upc, (upc).advance 5, 5, 3, 0x5A000001, by decide +kernel⟩,
   ⟨upc, (upc).advance 5, 5, 3, 0x5B000001, 1, by decide +kernel⟩,
   ⟨upc, (upc).advance 5, 5, 3, 0x5A000002, by decide +kernel⟩,
   ⟨upi 5 {}, (upi 5 {}).advance 5, 5, 3, 0x5A000002, by decide +kernel⟩,
   ⟨upc, (upc).advance 5, 5, 0x5A000002, by decide +kernel⟩,
   ⟨upc.wr CLK_PWR_STAT_STATE 2, (upc.wr CLK_PWR_STAT_STATE 2).advance 5, 5, 0x5A000000, by decide +kernel⟩,
   ⟨upc.wr CLK_PWR_STAT_STATE 2, (upc.wr CLK_PWR_STAT_STATE 2).advance 5, 5, 0x5A000000, by decide +kernel⟩,
   ⟨upc.modPwr fun p => { p with sleep := .entering }, (upc.modPwr fun p => { p with sleep := .entering }).advance 5, 5, by decide +kernel⟩,
   ⟨upc.wr TB_TB_STAT_LFMODE 1, (upc.wr TB_TB_STAT_LFMODE 1).advance 5, 5, by decide +kernel⟩,
   ⟨(upc.wr TB_TB_STAT_LFMODE 1).modPwr fun p => { p with lfEnding := true }, ((upc.wr TB_TB_STAT_LFMODE 1).modPwr fun p => { p with lfEnding := true }).advance 5, 5, by decide +kernel⟩,
   ⟨(((upc.modPwr fun p => { p with sleep := .asleep }).wr (POS_CFG_WAKE_EN 2) 1).wr (PG_CTRL_EN 0x12) 1).wr (POS_CFG_MODE 2) 1, ((((upc.modPwr fun p => { p with sleep := .asleep }).wr (POS_CFG_WAKE_EN 2) 1).wr (PG_CTRL_EN 0x12) 1).wr (POS_CFG_MODE 2) 1).advance 5, 5, 2, 24415, 0, 1, by decide +kernel⟩,
   ⟨upc.modPwr fun p => { p with sleep := .asleep }, (upc.modPwr fun p => { p with sleep := .asleep }).advance 5, 5, 2, 0, 0, by decide +kernel⟩,
   ⟨upc.modPwr fun p => { p with sleep := .waking 1 }, (upc.modPwr fun p => { p with sleep := .waking 1 }).advance 5, 5, 1, by decide +kernel⟩⟩

/-- States and operands that meet every hypothesis of each clause of BudgetFrame. -/
theorem witness_BudgetFrame :
  (∃ (s a : State) (t : Nat),
    a = s.advance t ∧ State.core 3 a = true ∧ a.tbOn = true ∧ a.tb / 8000 ≠ a.pwr.frame) ∧
  (∃ (s a : State) (t : Nat) (m : Master),
    a = s.advance t ∧ State.core 3 a = true ∧ a.mayWrite m 2 0x40 1 0xFFFFFFFF = true ∧ lowest a.offenders = none) ∧
  (∃ (s a : State) (t : Nat) (m : Master) (n : Nat),
    a = s.advance t ∧ State.core 3 a = true ∧ a.mayWrite m 2 0x40 1 0xFFFFFFFF = true ∧ lowest a.offenders = some n) :=
  ⟨⟨upc, (upc).advance 8000, 8000, by decide +kernel⟩,
   ⟨upc, (upc).advance 8000, 8000, 3, by decide +kernel⟩,
   ⟨upc.wr (BUDG_BCFG_CEIL 3) 0 |>.wr (BUDG_BCFG_FLOOR 3) 1, (upc.wr (BUDG_BCFG_CEIL 3) 0 |>.wr (BUDG_BCFG_FLOOR 3) 1).advance 8000, 8000, 3, 3, by decide +kernel⟩⟩

/-- States and operands that meet every hypothesis of each clause of HostFrames. -/
theorem witness_HostFrames :
  (∃ (s a : State) (t : Nat) (x : Port) (r : Frame),
    a = s.advance t ∧ hostOk a = true ∧ a.hostState x = 2 ∧ frameSound r (a.rd (HOST_PORT_STAT_VER x)) = true ∧ bits r.hdr.toNat 56 8 = 0x01 ∧ bits r.hdr.toNat 16 32 = 0 ∧ 0x10 ≤ bits ((r.payload.getD 0 0).toNat) 24 8) ∧
  (∃ (s a : State) (t : Nat) (x : Port) (r : Frame) (k : Nat),
    a = s.advance t ∧ hostOk a = true ∧ a.hostState x = 2 ∧ frameSound r (a.rd (HOST_PORT_STAT_VER x)) = true ∧ bits r.hdr.toNat 56 8 = 0x10 ∧ bits r.hdr.toNat 48 8 = 1 ∧ regionOf (bits r.hdr.toNat 16 32) = .mbx k ∧ a.readCode x (bits r.hdr.toNat 16 32) = 0 ∧ a.oneWord x = true) ∧
  (∃ (s a : State) (t : Nat) (x : Port) (r : Frame) (k : Nat) (v : Word),
    a = s.advance t ∧ hostOk a = true ∧ a.hostState x = 2 ∧ frameSound r (a.rd (HOST_PORT_STAT_VER x)) = true ∧ bits r.hdr.toNat 56 8 = 0x11 ∧ bits r.hdr.toNat 48 8 = 1 ∧ regionOf (bits r.hdr.toNat 16 32) = .mbx k ∧ r.payload = [v] ∧ a.writeCode x (bits r.hdr.toNat 16 32) v.toNat 0xFFFFFFFF = 0 ∧ a.oneWord x = true) ∧
  (∃ (s a : State) (t : Nat) (x : Port) (r : Frame) (k : Nat) (mk v : Word),
    a = s.advance t ∧ hostOk a = true ∧ a.hostState x = 2 ∧ frameSound r (a.rd (HOST_PORT_STAT_VER x)) = true ∧ bits r.hdr.toNat 56 8 = 0x12 ∧ bits r.hdr.toNat 48 8 = 1 ∧ regionOf (bits r.hdr.toNat 16 32) = .mbx k ∧ r.payload = [mk, v] ∧ a.writeCode x (bits r.hdr.toNat 16 32) v.toNat mk.toNat = 0 ∧ a.oneWord x = true) ∧
  (∃ (s a : State) (t : Nat) (x : Port) (r : Frame) (k : Nat),
    a = s.advance t ∧ hostOk a = true ∧ a.hostState x = 2 ∧ frameSound r (a.rd (HOST_PORT_STAT_VER x)) = true ∧ bits r.hdr.toNat 56 8 = 0x20 ∧ bits r.hdr.toNat 48 8 = 1 ∧ bits r.hdr.toNat 16 32 < 8 ∧ a.mbqUsable x (bits r.hdr.toNat 16 32) = true ∧ a.rd (HOST_MBQ_STAT_RSVD_W x (bits r.hdr.toNat 16 32)) = 0 ∧ 0 < a.mbqLevel x (bits r.hdr.toNat 16 32) ∧ regionOf (a.mbqAddr x (bits r.hdr.toNat 16 32) (a.rd (HOST_MBQ_PTR_HEAD x (bits r.hdr.toNat 16 32)))) = .mbx k ∧ a.readCode x (a.mbqAddr x (bits r.hdr.toNat 16 32) (a.rd (HOST_MBQ_PTR_HEAD x (bits r.hdr.toNat 16 32)))) = 0 ∧ a.oneWord x = true) ∧
  (∃ (s a : State) (t : Nat) (x : Port) (r : Frame) (k : Nat),
    a = s.advance t ∧ hostOk a = true ∧ a.hostState x = 2 ∧ frameSound r (a.rd (HOST_PORT_STAT_VER x)) = true ∧ bits r.hdr.toNat 56 8 = 0x30 ∧ bits r.hdr.toNat 48 8 = 1 ∧ bits r.hdr.toNat 16 32 % 8 = 0 ∧ regionOf (bits r.hdr.toNat 16 32) = .mbx k ∧ a.readCode x (bits r.hdr.toNat 16 32) = 0 ∧ a.readCode x (bits r.hdr.toNat 16 32 + 4) = 0 ∧ a.grantable x 2 = true ∧ 2 ≤ (if (a.bset x).slack then (a.bset x).ceil else (a.bset x).floor)) ∧
  (∃ (s a : State) (t : Nat) (x : Port) (r : Frame),
    a = s.advance t ∧ hostOk a = true ∧ a.hostState x = 2 ∧ frameSound r (a.rd (HOST_PORT_STAT_VER x)) = true ∧ bits r.hdr.toNat 56 8 = 0x40 ∧ bits r.hdr.toNat 16 32 = 0) ∧
  (∃ (s a : State) (t : Nat) (x : Port) (r : Frame),
    a = s.advance t ∧ hostOk a = true ∧ a.hostState x = 2 ∧ opInfo (bits r.hdr.toNat 56 8) = none ∧ hdrCrc8 r.hdr.toNat = r.hdr.toNat % 256 ∧ r.bits = 64 ∧ r.payload = []) :=
  ⟨⟨uph, (uph).advance 5, 5, 0, mkFrame 1 1 0 0 [0x20000000], by decide +kernel⟩,
   ⟨uph, (uph).advance 5, 5, 0, mkFrame 0x10 1 0x10000004 0 [], 0, by decide +kernel⟩,
   ⟨uph, (uph).advance 5, 5, 0, mkFrame 0x11 1 0x10000004 0 [77], 0, 77, by decide +kernel⟩,
   ⟨uph, (uph).advance 5, 5, 0, mkFrame 0x12 1 0x10000004 0 [0xFF, 77], 0, 0xFF, 77, by decide +kernel⟩,
   ⟨((((uph.wr (HOST_MBQ_CFG_EN 0 2) 1).wr (HOST_MBQ_CFG_LOG2 0 2) 4).wr (HOST_MBQ_PTR_TAIL 0 2) 3).wr (HOST_PORT_STAT_VER 0) 0x20), (((((uph.wr (HOST_MBQ_CFG_EN 0 2) 1).wr (HOST_MBQ_CFG_LOG2 0 2) 4).wr (HOST_MBQ_PTR_TAIL 0 2) 3).wr (HOST_PORT_STAT_VER 0) 0x20)).advance 5, 5, 0, mkFrame 0x20 1 2 0 [], 0, by decide +kernel⟩,
   ⟨uph.wr (HOST_PORT_STAT_VER 0) 0x20, (uph.wr (HOST_PORT_STAT_VER 0) 0x20).advance 5, 5, 0, mkFrame 0x30 1 0x10000008 0 [], 0, by decide +kernel⟩,
   ⟨uph, (uph).advance 5, 5, 0, mkFrame 0x40 12 0 0 (List.replicate 12 7), by decide +kernel⟩,
   ⟨uph, (uph).advance 5, 5, 0, mkFrame 0x55 0 0 0 [], by decide +kernel⟩⟩

/-- States and operands that meet every hypothesis of each clause of HostPorts. -/
theorem witness_HostPorts :
  (∃ (s a : State) (t : Nat) (x : Port),
    a = s.advance t ∧ hostOk a = true ∧ a.hostState x = 1) ∧
  (∃ (s a : State) (t : Nat) (x : Port),
    a = s.advance t ∧ hostOk a = true ∧ a.hostState x = 4) ∧
  (∃ (s a : State) (t : Nat) (x : Port),
    a = s.advance t ∧ hostOk a = true ∧ a.hostState x = 3) ∧
  (∃ (s a : State) (t : Nat) (x : Port),
    a = s.advance t ∧ hostOk a = true ∧ ((a.hostState x = 1 ∨ a.hostState x = 2 ∨ a.hostState x = 4 ∨ a.hostState x = 5))) ∧
  (∃ (s a : State) (t : Nat) (x : Port) (f : HFrame),
    a = s.advance t ∧ hostOk a = true ∧ a.hostState x = 3 ∧ (a.hs x).frame = some f ∧ f.fin = true ∧ (a.hs x).brk = false ∧ ((f.op = 0x40 → f.status ≠ 0))) ∧
  (∃ (s a : State) (t : Nat) (x : Port) (f : HFrame),
    a = s.advance t ∧ hostOk a = true ∧ a.hostState x = 3 ∧ (a.hs x).frame = some f ∧ f.fin = true ∧ (a.hs x).brk = false ∧ f.op = 0x40 ∧ f.status = 0 ∧ a.hostState (1 - x.val) ≠ 3) ∧
  (∃ (s a : State) (t : Nat) (x : Port),
    a = s.advance t ∧ hostOk a = true ∧ a.hostState x = 5) ∧
  (∃ (s a : State) (t : Nat) (x : Port),
    a = s.advance t ∧ hostOk a = true ∧ a.hostState x = 5 ∧ (a.hs x).hello = none) ∧
  (∃ (s a : State) (t : Nat) (x : Port) (v : Nat) (q : Bool),
    a = s.advance t ∧ hostOk a = true ∧ a.hostState x = 5 ∧ (a.hs x).hello = some (v, q)) ∧
  (∃ (s a : State) (t : Nat) (x : Port),
    a = s.advance t ∧ hostOk a = true ∧ a.hostState x = 1 ∧ a.on (HOST_PORT_CFG_ATTN_EN x) = true ∧ (a.vec x).isSome = true ∧ (a.hs x).seq = true ∧ (a.hs x).pulse = none ∧ (a.hs x).idleAt + 40 ≤ a.tb) ∧
  (∃ (s a : State) (t : Nat) (x : Port),
    a = s.advance t ∧ hostOk a = true ∧ 0 < a.rd (HOST_PORT_CFG_HWD x) ∧ (a.hs x).heard + 400000 * a.rd (HOST_PORT_CFG_HWD x) ≤ a.tb) ∧
  (∃ (s a : State) (t : Nat) (x : Port) (m : Master) (k : Fin 8) (v : Word),
    a = s.advance t ∧ hostOk a = true ∧ a.mayWrite m (8 + x) (0x80 + 4 * k) v.toNat 0xFFFFFFFF = true ∧ tget 0 a.hot (HOST_IPEND_PEND x k).key = 0) ∧
  (∃ (s a : State) (t : Nat) (x : Port) (m : Master) (n : Fin 8),
    a = s.advance t ∧ hostOk a = true ∧ a.mayWrite m (8 + x) (0x10C + 0x10 * n) 1 0xFFFFFFFF = true) ∧
  (∃ (s a : State) (t : Nat) (x : Port) (m : Master) (n : Fin 8) (v : Word),
    a = s.advance t ∧ hostOk a = true ∧ a.mayWrite m (8 + x) (0x100 + 0x10 * n) v.toNat 0xFFFFFFFF = true ∧ bit v.toNat 31 = true) :=
  ⟨⟨uph.hostTo 0 1, (uph.hostTo 0 1).advance 5, 5, 0, by decide +kernel⟩,
   ⟨uph.hostTo 0 4, (uph.hostTo 0 4).advance 5, 5, 0, by decide +kernel⟩,
   ⟨uph.hostTo 0 3, (uph.hostTo 0 3).advance 5, 5, 0, by decide +kernel⟩,
   ⟨uph, (uph).advance 5, 5, 0, by decide +kernel⟩,
   ⟨(uph.hostTo 0 3).modHs 0 fun h => { h with frame := some { op := 0x11, len := 1, addr := 0, fin := true } }, ((uph.hostTo 0 3).modHs 0 fun h => { h with frame := some { op := 0x11, len := 1, addr := 0, fin := true } }).advance 5, 5, 0, { op := 0x11, len := 1, addr := 0, fin := true }, by decide +kernel⟩,
   ⟨(uph.hostTo 0 3).modHs 0 fun h => { h with frame := some { op := 0x40, len := 12, addr := 0, fin := true } }, ((uph.hostTo 0 3).modHs 0 fun h => { h with frame := some { op := 0x40, len := 12, addr := 0, fin := true } }).advance 5, 5, 0, { op := 0x40, len := 12, addr := 0, fin := true }, by decide +kernel⟩,
   ⟨uph.hostTo 0 5, (uph.hostTo 0 5).advance 5, 5, 0, by decide +kernel⟩,
   ⟨uph.hostTo 0 5, (uph.hostTo 0 5).advance 5, 5, 0, by decide +kernel⟩,
   ⟨(uph.hostTo 0 5).modHs 0 fun h => { h with hello := some (0x20, true) }, ((uph.hostTo 0 5).modHs 0 fun h => { h with hello := some (0x20, true) }).advance 5, 5, 0, 0x20, true, by decide +kernel⟩,
   ⟨(((uph.wr (PG_IFLAG_FLAG 8) 1).wr (PG_IEN_A_EN_A 8) 1).hostIdle 0).wr (HOST_IPEND_PEND 0 0) 0xFFFFFFFF |>.wr (.mk 8 0x60 0 32 .rw 0) 0xFFFFFFFF, ((((uph.wr (PG_IFLAG_FLAG 8) 1).wr (PG_IEN_A_EN_A 8) 1).hostIdle 0).wr (HOST_IPEND_PEND 0 0) 0xFFFFFFFF |>.wr (.mk 8 0x60 0 32 .rw 0) 0xFFFFFFFF).advance 50, 50, 0, by decide +kernel⟩,
   ⟨uph.wr (HOST_PORT_CFG_HWD 0) 1, (uph.wr (HOST_PORT_CFG_HWD 0) 1).advance 400000, 400000, 0, by decide +kernel⟩,
   ⟨uph.wr (HOST_IPEND_PEND 0 1) 7, (uph.wr (HOST_IPEND_PEND 0 1) 7).advance 5, 5, 0, 0, 1, 5, by decide +kernel⟩,
   ⟨uph, (uph).advance 5, 5, 0, 0, 1, by decide +kernel⟩,
   ⟨uph, (uph).advance 5, 5, 0, 0, 1, 0x80100040, by decide +kernel⟩⟩

/-- States and operands that meet every hypothesis of each clause of PositionPortEdges. -/
theorem witness_PositionPortEdges :
  (∃ (s a : State) (t : Nat) (p : PosPort) (held peak : Nat) (mv : Int),
    a = s.advance t ∧ State.tbd 0 a = true ∧ a.running (0x10 + p) = true ∧ a.rd (POS_CFG_FILT p) ≤ held ∧ (a.port p).loadAt.map (·.at_) ≠ some a.tb ∧ (a.port p).ixUndo.map (·.at_) ≠ some a.tb ∧ a.on (POS_CFG_A_INV p) = false ∧ a.posMode p = 2 ∧ a.posTrk p = false ∧ a.on (POS_CFG_B_DIR p) = false ∧ a.on (POS_CFG_DIR_INV p) = false ∧ a.posActEdge p = 0 ∧ a.posLvl p 0 = false ∧ (a.port p).lastA = none ∧ (a.port p).dir ≠ some true ∧ a.posMin p ≤ a.posCount p + 1 ∧ a.posCount p + 1 ≤ a.posMax p) ∧
  (∃ (s a : State) (t : Nat) (p : PosPort) (i : Fin 3) (lvl : Bool) (held peak l : Nat) (mv : Int),
    a = s.advance t ∧ State.tbd 0 a = true ∧ a.running (0x10 + p) = true ∧ a.rd (POS_CFG_FILT p) ≤ held ∧ a.edgePin p i = true ∧ a.posMode p ≠ 3 ∧ a.posLvl p i = !lvl ∧ (if i.val = 0 then (a.port p).lastA else (a.port p).lastB) = some l ∧ a.tb - held < l + a.posMinEdge p) ∧
  (∃ (s a : State) (t : Nat) (p : PosPort) (i : Fin 3) (l : Nat),
    a = s.advance t ∧ State.tbd 0 a = true ∧ a.running (0x10 + p) = true ∧ a.edgePin p i = true ∧ a.posLvl p i = !a.posIn p i ∧ (if i.val = 0 then (a.port p).lastA else (a.port p).lastB) = some l ∧ l + a.posMinEdge p ≤ a.tb) ∧
  (∃ (s a : State) (t : Nat) (p : PosPort) (l : Nat),
    a = s.advance t ∧ State.tbd 0 a = true ∧ a.running (0x10 + p) = true ∧ (a.port p).loadAt.map (·.at_) ≠ some a.tb ∧ (a.port p).ixUndo.map (·.at_) ≠ some a.tb ∧ a.posIn p 0 = true ∧ a.posMode p = 2 ∧ a.posTrk p = false ∧ a.on (POS_CFG_B_DIR p) = false ∧ a.on (POS_CFG_DIR_INV p) = false ∧ a.posActEdge p = 0 ∧ a.posLvl p 0 = false ∧ (a.port p).lastA = some l ∧ l + a.posMinEdge p ≤ a.tb ∧ (a.port p).dir ≠ some true ∧ a.posMin p ≤ a.posCount p + 1 ∧ a.posCount p + 1 ≤ a.posMax p) ∧
  (∃ (s a : State) (t : Nat) (p : PosPort),
    a = s.advance t ∧ State.tbd 0 a = true ∧ a.running (0x10 + p) = true ∧ a.on (POS_CFG_Z_EN p) = true ∧ ((a.posMode p = 1 ∨ a.posMode p = 2 ∨ a.posMode p = 4)) ∧ a.posLvl p 2 = false ∧ (a.port p).loadAt.map (·.at_) ≠ some a.tb) ∧
  (∃ (s a : State) (t : Nat) (p : PosPort) (t1 t0 w1 w0 : Nat) (l : List (Nat × Nat)),
    a = s.advance t ∧ State.tbd 0 a = true ∧ a.running (0x10 + p) = true ∧ a.posMode p = 3 ∧ a.on (POS_VR_CFG_ADAPT p) = true ∧ (a.port p).armed = false ∧ (a.port p).edges = (t1, w1) :: (t0, w0) :: l ∧ t1 + (3 + (a.port p).halved) * (t1 - t0) ≤ a.tb) ∧
  (∃ (s a : State) (t : Nat) (p : PosPort),
    a = s.advance t ∧ State.tbd 0 a = true ∧ a.running (0x10 + p) = true ∧ a.rd (POS_SPD_STAT_PATH p) = 2 ∧ (a.port p).fb.1 + 400 * max 1 (a.rd (POS_SPD_WIN_FB_WIN p)) ≤ a.tb) ∧
  (∃ (s a : State) (t : Nat) (p : PosPort),
    a = s.advance t ∧ State.tbd 0 a = true ∧ a.running (0x10 + p) = true ∧ 1 ≤ a.posMode p ∧ a.posMode p ≤ 4 ∧ 0 < a.rd (POS_STUCK_CFG_STUCK_T p) ∧ a.on (POS_STAT_STUCK p) = false ∧ (a.port p).since + 400000 * a.rd (POS_STUCK_CFG_STUCK_T p) ≤ a.tb) :=
  ⟨⟨upp, (upp).advance 5000, 5000, 0, 7, 0, 0, by decide +kernel⟩,
   ⟨upp.setPort 0 { lastA := some 4900 }, (upp.setPort 0 { lastA := some 4900 }).advance 5000, 5000, 0, 0, true, 7, 0, 4900, 0, by decide +kernel⟩,
   ⟨upp.setPort 0 { lastA := some 4000, filt := 1 }, (upp.setPort 0 { lastA := some 4000, filt := 1 }).advance 5000, 5000, 0, 0, 4000, by decide +kernel⟩,
   ⟨upp.setPort 0 { lastA := some 4000, filt := 1 }, (upp.setPort 0 { lastA := some 4000, filt := 1 }).advance 5000, 5000, 0, 4000, by decide +kernel⟩,
   ⟨upp.wr (POS_CFG_Z_EN 0) 1, (upp.wr (POS_CFG_Z_EN 0) 1).advance 5000, 5000, 0, by decide +kernel⟩,
   ⟨((upp.wr (POS_CFG_MODE 0) 3).wr (POS_VR_CFG_ADAPT 0) 1).setPort 0 { edges := [(2000, 64), (1000, 64)] }, (((upp.wr (POS_CFG_MODE 0) 3).wr (POS_VR_CFG_ADAPT 0) 1).setPort 0 { edges := [(2000, 64), (1000, 64)] }).advance 5000, 5000, 0, 2000, 1000, 64, 64, [], by decide +kernel⟩,
   ⟨upp.wr (POS_SPD_STAT_PATH 0) 2, (upp.wr (POS_SPD_STAT_PATH 0) 2).advance 500000000, 500000000, 0, by decide +kernel⟩,
   ⟨upp.wr (POS_STUCK_CFG_STUCK_T 0) 1, (upp.wr (POS_STUCK_CFG_STUCK_T 0) 1).advance 400000, 400000, 0, by decide +kernel⟩⟩

/-- States and operands that meet every hypothesis of each clause of PositionPortWords. -/
theorem witness_PositionPortWords :
  (∃ (s a : State) (t : Nat) (p : PosPort) (m : Master),
    a = s.advance t ∧ State.core 0 a = true ∧ a.tbOn = true ∧ a.mayWrite m (0x10 + p) 8 1 1 = true ∧ a.on (PG_CTRL_EN (0x10 + p)) = false ∧ a.posMin p ≤ a.posMax p) ∧
  (∃ (s a : State) (t : Nat) (p : PosPort) (m : Master),
    a = s.advance t ∧ State.core 0 a = true ∧ a.tbOn = true ∧ a.mayWrite m (0x10 + p) 8 1 1 = true ∧ a.on (PG_CTRL_EN (0x10 + p)) = false ∧ a.posMax p < a.posMin p) ∧
  (∃ (s a : State) (t : Nat) (p : PosPort) (m : Master),
    a = s.advance t ∧ State.core 0 a = true ∧ a.tbOn = true ∧ a.mayWrite m (0x10 + p) 0x48 1 1 = true ∧ a.posTrk p = false) ∧
  (∃ (s a : State) (t : Nat) (p : PosPort) (m : Master),
    a = s.advance t ∧ State.core 0 a = true ∧ a.tbOn = true ∧ a.mayWrite m (0x10 + p) 0x48 2 2 = true ∧ a.running (0x10 + p) = true ∧ a.posMode p = 5 ∧ a.on (POS_STAT_SSI_BUSY p) = false ∧ a.on TB_TB_STAT_LFMODE = false) ∧
  (∃ (s a : State) (t : Nat) (p : PosPort) (m : Master),
    a = s.advance t ∧ State.core 0 a = true ∧ a.tbOn = true ∧ a.mayWrite m (0x10 + p) 0x48 2 2 = true ∧ a.running (0x10 + p) = true ∧ a.posMode p = 5 ∧ a.on (POS_STAT_SSI_BUSY p) = false ∧ a.on TB_TB_STAT_LFMODE = false) ∧
  (∃ (s a : State) (t : Nat) (p : PosPort) (m : Master),
    a = s.advance t ∧ State.core 0 a = true ∧ a.tbOn = true ∧ a.mayWrite m (0x10 + p) 0x48 2 2 = true ∧ a.running (0x10 + p) = true ∧ a.posMode p = 5 ∧ a.on (POS_STAT_SSI_BUSY p) = false ∧ a.on TB_TB_STAT_LFMODE = false) ∧
  (∃ (s a : State) (t : Nat) (p : PosPort),
    a = s.advance t ∧ State.core 0 a = true ∧ a.tbOn = true ∧ a.running (0x10 + p) = true ∧ a.posMode p = 5 ∧ a.on (POS_STAT_SSI_BUSY p) = false ∧ a.on TB_TB_STAT_LFMODE = false ∧ 0 < a.rd (POS_SSI_TIM_PERIOD p) ∧ (a.port p).ssiAt + 400 * a.rd (POS_SSI_TIM_PERIOD p) ≤ a.tb) ∧
  (∃ (s a : State) (t : Nat) (p : PosPort) (bs : List Bool) (r : SsiRead),
    a = s.advance t ∧ State.core 0 a = true ∧ a.tbOn = true ∧ (a.port p).ssi = some r ∧ a.ssiLast p r ≤ a.tb ∧ a.tb ≤ a.ssiUntil p r ∧ bs.length = a.ssiData p + a.ssiErrBits p ∧ a.ssiCrcBits p = 0 ∧ ((bs.drop (a.ssiData p)).any (· == a.on (POS_SSI_CFG_ERR_LVL p))) = false ∧ a.on (POS_SSI_CFG_GRAY p) = false) ∧
  (∃ (s a : State) (t : Nat) (p : PosPort) (r : SsiRead),
    a = s.advance t ∧ State.core 0 a = true ∧ a.tbOn = true ∧ (a.port p).ssi = some r ∧ a.ssiUntil p r ≤ a.tb) ∧
  (∃ (s a : State) (t : Nat) (p : PosPort) (r : SsiRead),
    a = s.advance t ∧ State.core 0 a = true ∧ a.tbOn = true ∧ (a.port p).ssi = some r ∧ a.ssiUntil p r ≤ a.tb) ∧
  (∃ (s a : State) (t : Nat) (p : PosPort) (sync : Nat) (nibs : List Nat),
    a = s.advance t ∧ State.core 0 a = true ∧ a.tbOn = true ∧ a.running (0x10 + p) = true ∧ a.posMode p = 6 ∧ sync = 2240 * a.rd (POS_SENT_CFG_TICK p) ∧ 0 < sync ∧ (a.port p).sync = none ∧ a.rd (POS_SENT_CFG_NIBBLES p) = 6 ∧ a.on (POS_SENT_CFG_PAUSE p) = false ∧ a.on (POS_SENT_CFG_SER_EN p) = false ∧ nibs.length = 8 ∧ nibs.any (nibbleBad sync) = false ∧ (nibs.map (nibbleOf sync)).getLastD 0 = sentCrc (a.on (POS_SENT_CFG_CRC_LEGACY p)) (((nibs.map (nibbleOf sync)).drop 1).take 6)) ∧
  (∃ (s a : State) (t : Nat) (p : PosPort) (sync : Nat) (nibs : List Nat) (q : Option Nat) (e : Bool),
    a = s.advance t ∧ State.core 0 a = true ∧ a.tbOn = true ∧ a.running (0x10 + p) = true ∧ a.posMode p = 6 ∧ 2240 * a.rd (POS_SENT_CFG_TICK p) * (10 + 5 * a.rd (POS_SENT_CFG_TICK_TOL p)) < (sync - 2240 * a.rd (POS_SENT_CFG_TICK p)) * 100) :=
  ⟨⟨upc, (upc).advance 5000, 5000, 0, 3, by decide +kernel⟩,
   ⟨(upc.wr (POS_SOFT_MAX_VALUE 0) 1).wr (POS_SOFT_MIN_VALUE 0) 2, ((upc.wr (POS_SOFT_MAX_VALUE 0) 1).wr (POS_SOFT_MIN_VALUE 0) 2).advance 5000, 5000, 0, 3, by decide +kernel⟩,
   ⟨upp.wr (POS_PRESET_VALUE 0) 99, (upp.wr (POS_PRESET_VALUE 0) 99).advance 5000, 5000, 0, 3, by decide +kernel⟩,
   ⟨upp.wr (POS_CFG_MODE 0) 5, (upp.wr (POS_CFG_MODE 0) 5).advance 5000, 5000, 0, 3, by decide +kernel⟩,
   ⟨upp.wr (POS_CFG_MODE 0) 5, (upp.wr (POS_CFG_MODE 0) 5).advance 5000, 5000, 0, 3, by decide +kernel⟩,
   ⟨upp.wr (POS_CFG_MODE 0) 5, (upp.wr (POS_CFG_MODE 0) 5).advance 5000, 5000, 0, 3, by decide +kernel⟩,
   ⟨(upp.wr (POS_CFG_MODE 0) 5).wr (POS_SSI_TIM_PERIOD 0) 3, ((upp.wr (POS_CFG_MODE 0) 5).wr (POS_SSI_TIM_PERIOD 0) 3).advance 5000, 5000, 0, by decide +kernel⟩,
   ⟨(((upp.wr (POS_CFG_MODE 0) 5).wr (POS_SSI_CFG_DATA_LEN 0) 3).wr (POS_SSI_CFG_DIV 0) 0).setPort 0 { ssi := some ⟨4000⟩ }, ((((upp.wr (POS_CFG_MODE 0) 5).wr (POS_SSI_CFG_DATA_LEN 0) 3).wr (POS_SSI_CFG_DIV 0) 0).setPort 0 { ssi := some ⟨4000⟩ }).advance 4300, 4300, 0, [true, false, true], ⟨4000⟩, by decide +kernel⟩,
   ⟨upp.setPort 0 { ssi := some ⟨4000⟩ }, (upp.setPort 0 { ssi := some ⟨4000⟩ }).advance 50000, 50000, 0, ⟨4000⟩, by decide +kernel⟩,
   ⟨(upp.setPort 0 { ssi := some ⟨4000⟩ }).wr (POS_STAT_SSI_BUSY 0) 1, ((upp.setPort 0 { ssi := some ⟨4000⟩ }).wr (POS_STAT_SSI_BUSY 0) 1).advance 50000, 50000, 0, ⟨4000⟩, by decide +kernel⟩,
   ⟨((upp.wr (POS_CFG_MODE 0) 6).wr (POS_SENT_CFG_TICK 0) 3).wr (POS_SENT_CFG_NIBBLES 0) 6, (((upp.wr (POS_CFG_MODE 0) 6).wr (POS_SENT_CFG_TICK 0) 3).wr (POS_SENT_CFG_NIBBLES 0) 6).advance 5000, 5000, 0, 6720, [1440, 1440, 1440, 1440, 1440, 1440, 1440, 1440 + 120 * sentCrc false [0, 0, 0, 0, 0, 0]], by decide +kernel⟩,
   ⟨((upp.wr (POS_CFG_MODE 0) 6).wr (POS_SENT_CFG_TICK 0) 3).wr (POS_SENT_CFG_NIBBLES 0) 6, (((upp.wr (POS_CFG_MODE 0) 6).wr (POS_SENT_CFG_TICK 0) 3).wr (POS_SENT_CFG_NIBBLES 0) 6).advance 5000, 5000, 0, 9000, [], none, false, by decide +kernel⟩⟩

/-- States and operands that meet every hypothesis of each clause of TrackerEdges. -/
theorem witness_TrackerEdges :
  (∃ (s a : State) (t : Nat) (cb : Bool) (e : Nat),
    a = s.advance t ∧ trkOk a = true ∧ (a.trkTake (b2n cb)).1 = some e) ∧
  (∃ (s a : State) (t : Nat) (e : Nat),
    a = s.advance t ∧ trkOk a = true ∧ (a.trkTake 0).1 = some e ∧ a.actLane = false ∧ a.crankB = false ∧ a.on TRK_LANE_CFG_S_EN = false ∧ ((a.trk.p.st = 0 ∨ a.trk.p.st = 5)) ∧ ((a.trk.out.st = 0 ∨ a.trk.out.st = 5)) ∧ a.follow = none) ∧
  (∃ (s a : State) (t : Nat) (e : Nat) (u : State),
    a = s.advance t ∧ trkOk a = true ∧ (a.trkTake 0).1 = some e ∧ u = (a.trkTake 0).2.trkTickBefore ∧ u.actLane = false ∧ u.crankB = false ∧ u.on TRK_LANE_CFG_S_EN = false ∧ ((u.trk.out.st = 2 ∨ u.trk.out.st = 3)) ∧ u.trk.failed = none ∧ ((u.trk.p.st = 2 ∨ u.trk.p.st = 3)) ∧ u.trk.p.cand = none ∧ u.follow = none ∧ u.extraTooth = false ∧ u.trk.p.g.r.half = false ∧ u.trk.p.g.r.pos + 1 ≤ u.lastPos ∧ u.cranking = false ∧ u.rd TRK_WIN_WIN_LO * u.trk.p.g.r.tp ≤ 64 * (e - u.trk.p.g.r.t) ∧ u.rd TRK_CONF_CONF_LO * u.trk.p.g.r.tp ≤ 64 * (e - u.trk.p.g.r.t) ∧ 64 * (e - u.trk.p.g.r.t) ≤ u.rd TRK_WIN_WIN_HI * u.trk.p.g.r.tp ∧ u.stallRpm * ((e - u.trk.p.g.r.t) * 2 ^ 23) ≤ 16 * 60 * 400000000 * u.trk.p.g.r.w) ∧
  (∃ (s a : State) (t : Nat) (cb : Bool) (e : Nat) (u : State),
    a = s.advance t ∧ trkOk a = true ∧ (a.trkTake (2 + b2n cb)).1 = some e ∧ u = (a.trkTake (2 + b2n cb)).2.trkTick ∧ u.camOn = true ∧ u.camPos3 = cb ∧ u.trk.out.valid = false) ∧
  (∃ (s a : State) (t : Nat) (cb : Bool) (e : Nat),
    a = s.advance t ∧ trkOk a = true ∧ (a.trkTake (2 + b2n cb)).1 = some e) ∧
  (∃ (s a : State) (t : Nat) (u : State) (j : Fin 24),
    a = s.advance t ∧ trkOk a = true ∧ u = a.trkTick ∧ u.camOn = true ∧ u.trk.out.base = 3 ∧ u.camTeeth.contains j.val = true ∧ u.trk.met.contains j.val = false ∧ subMod (2 ^ 24) u.trk.out.ang ((u.camC j + u.camWin) % 2 ^ 24) < 2 ^ 23 ∧ 0 < subMod (2 ^ 24) u.trk.out.ang ((u.camC j + u.camWin) % 2 ^ 24) ∧ u.trk.camFrom < u.trk.odo - subMod (2 ^ 24) u.trk.out.ang ((u.camC j + u.camWin) % 2 ^ 24) ∧ tget 0 u.trk.closed j + 2 ^ 22 < u.trk.odo - subMod (2 ^ 24) u.trk.out.ang ((u.camC j + u.camWin) % 2 ^ 24)) ∧
  (∃ (s a : State) (t : Nat) (u : State) (ls : Bool) (tc : Nat),
    a = s.advance t ∧ trkOk a = true ∧ u = a.trkTickBefore ∧ (u.lane ls).cand = some tc ∧ (u.lane ls).synced = true ∧ u.rd TRK_CONF_MERGE_HI * (u.lane ls).g.r.tp ≤ 64 * (u.tb - (u.lane ls).g.r.t)) ∧
  (∃ (s a : State) (t : Nat) (u : State) (ls : Bool) (tc : Nat),
    a = s.advance t ∧ trkOk a = true ∧ u = a.trkTickBefore ∧ (u.lane ls).cand = some tc ∧ (u.lane ls).synced = true ∧ u.rd TRK_CONF_MERGE_HI * (u.lane ls).g.r.tp ≤ 64 * (u.tb - (u.lane ls).g.r.t) ∧ u.stallRpm * ((tc - (u.lane ls).g.r.t) * 2 ^ 23) ≤ 16 * 60 * 400000000 * (u.lane ls).g.r.w) ∧
  (∃ (s a : State) (t : Nat) (u : State),
    a = s.advance t ∧ trkOk a = true ∧ u = a.trkTick ∧ ((u.trk.out.st = 2 ∨ u.trk.out.st = 3)) ∧ u.trk.out.e = 0 ∧ u.trk.out.ahead = 0 ∧ u.trk.out.g.held u.trk.out.eAt u.tb = true) ∧
  (∃ (s a : State) (t : Nat) (u : State) (ls : Bool),
    a = s.advance t ∧ trkOk a = true ∧ u = a.trkTickBefore ∧ u.limitPassed ls = true) ∧
  (∃ (s a : State) (t : Nat) (u : State) (ls : Bool),
    a = s.advance t ∧ trkOk a = true ∧ u = a.trkTickBefore ∧ u.limitPassed ls = true ∧ u.missTol ≤ (u.lane ls).miss ∧ u.gapAfter (u.nextElem ((u.lane ls).base == 3) ((u.lane ls).g.r.pos, (u.lane ls).g.r.half)) = false ∧ (u.nextElem ((u.lane ls).base == 3) ((u.lane ls).g.r.pos, (u.lane ls).g.r.half)).1 % u.wheelN ≠ 0 ∧ ls = u.actLane ∧ (u.lane (!ls)).synced = false) ∧
  (∃ (s a : State) (t : Nat) (u : State) (ls : Bool),
    a = s.advance t ∧ trkOk a = true ∧ u = a.trkTickBefore ∧ u.limitPassed ls = true ∧ (u.lane ls).miss < u.missTol ∧ u.gapAfter (u.nextElem ((u.lane ls).base == 3) ((u.lane ls).g.r.pos, (u.lane ls).g.r.half)) = false ∧ (u.nextElem ((u.lane ls).base == 3) ((u.lane ls).g.r.pos, (u.lane ls).g.r.half)).1 % u.wheelN ≠ 0 ∧ u.laneCounts ls = true) ∧
  (∃ (s a : State) (t : Nat) (u v : State),
    a = s.advance t ∧ trkOk a = true ∧ u = a.trkTickBefore ∧ v = u.trkTick ∧ u.limitPassed u.actLane = false ∧ u.trk.out.st ≠ 5 ∧ v.stalled = true) ∧
  (∃ (s a : State) (t : Nat) (u v : State),
    a = s.advance t ∧ trkOk a = true ∧ u = a.trkTickBefore ∧ v = u.trkTick ∧ u.limitPassed u.actLane = false ∧ u.trk.out.st ≠ 5 ∧ v.stalled = true) ∧
  (∃ (s a : State) (t : Nat),
    a = s.advance t ∧ trkOk a = true ∧ a.follow = none) ∧
  (∃ (s a : State) (t : Nat) (n x : Nat),
    a = s.advance t ∧ trkOk a = true ∧ a.follow = none ∧ ((a.trk.out.st = 2 ∨ a.trk.out.st = 3)) ∧ a.trk.out.e = 0 ∧ a.trk.out.ahead = 0 ∧ n = (a.tb - a.trk.out.g.at_) / 4 ∧ x = min (a.trk.out.g.d + n * a.trk.out.g.inc) ((a.trk.out.g.r.w - 1) * 2 ^ 24) ∧ a.trk.out.g.d ≤ (a.trk.out.g.r.w - 1) * 2 ^ 24 ∧ a.trk.out.ang + x / 2 ^ 24 < a.outM) :=
  ⟨⟨{ (upt.wr TRK_LANE_CFG_S_EN 0) with trkIn := [(0, 4990)] }, ({ (upt.wr TRK_LANE_CFG_S_EN 0) with trkIn := [(0, 4990)] }).advance 5000, 5000, false, 4990, by decide +kernel⟩,
   ⟨{ (upt.wr TRK_LANE_CFG_S_EN 0) with trkIn := [(0, 4990)] }, ({ (upt.wr TRK_LANE_CFG_S_EN 0) with trkIn := [(0, 4990)] }).advance 5000, 5000, 4990, by decide +kernel⟩,
   ⟨{ (((upt.wr TRK_CRANK_CFG_N_POS 60).wr TRK_LANE_CFG_S_EN 0).wr TRK_SPEED_R_RPM 16000) with trkIn := [(0, 5000)], trk := { p := { st := 2, g := { r := { pos := 7, t := 4000, tp := 1000, w := 139810 } } }, out := { st := 2, hasRec := true, g := { r := { pos := 7, t := 4000, tp := 1000, w := 139810 }, at_ := 4000 } } } }, ({ (((upt.wr TRK_CRANK_CFG_N_POS 60).wr TRK_LANE_CFG_S_EN 0).wr TRK_SPEED_R_RPM 16000) with trkIn := [(0, 5000)], trk := { p := { st := 2, g := { r := { pos := 7, t := 4000, tp := 1000, w := 139810 } } }, out := { st := 2, hasRec := true, g := { r := { pos := 7, t := 4000, tp := 1000, w := 139810 }, at_ := 4000 } } } }).advance 5000, 5000, 5000, (({ (((upt.wr TRK_CRANK_CFG_N_POS 60).wr TRK_LANE_CFG_S_EN 0).wr TRK_SPEED_R_RPM 16000) with trkIn := [(0, 5000)], trk := { p := { st := 2, g := { r := { pos := 7, t := 4000, tp := 1000, w := 139810 } } }, out := { st := 2, hasRec := true, g := { r := { pos := 7, t := 4000, tp := 1000, w := 139810 }, at_ := 4000 } } } }.advance 5000).trkTake 0).2.trkTickBefore, by decide +kernel⟩,
   ⟨{ (upt.wr TRK_CAM_CFG_CAM_EN 1) with trkIn := [(2, 4990)] }, ({ (upt.wr TRK_CAM_CFG_CAM_EN 1) with trkIn := [(2, 4990)] }).advance 5000, 5000, false, 4990, ((({ (upt.wr TRK_CAM_CFG_CAM_EN 1) with trkIn := [(2, 4990)] } : State).advance 5000).trkTake 2).2.trkTick, by decide +kernel⟩,
   ⟨{ upt with trkIn := [(2, 4990)] }, ({ upt with trkIn := [(2, 4990)] }).advance 5000, 5000, false, 4990, by decide +kernel⟩,
   ⟨uptc, (uptc).advance 5000, 5000, (uptc.advance 5000).trkTick, 0, by decide +kernel⟩,
   ⟨{ upt with trk := { p := { st := 2, cand := some 10, g := { r := { t := 5, tp := 10, w := 139810 } } } } }, ({ upt with trk := { p := { st := 2, cand := some 10, g := { r := { t := 5, tp := 10, w := 139810 } } } } }).advance 5000, 5000, ({ upt with trk := { p := { st := 2, cand := some 10, g := { r := { t := 5, tp := 10, w := 139810 } } } } }.advance 5000).trkTickBefore, false, 10, by decide +kernel⟩,
   ⟨{ upt with trk := { p := { st := 2, cand := some 10, g := { r := { t := 5, tp := 10, w := 139810 } } } } }, ({ upt with trk := { p := { st := 2, cand := some 10, g := { r := { t := 5, tp := 10, w := 139810 } } } } }).advance 5000, 5000, ({ upt with trk := { p := { st := 2, cand := some 10, g := { r := { t := 5, tp := 10, w := 139810 } } } } }.advance 5000).trkTickBefore, false, 10, by decide +kernel⟩,
   ⟨{ upt with trk := { out := { st := 2, g := { r := { w := 1, tp := 1 }, haltAt := some 3000 } } } }, ({ upt with trk := { out := { st := 2, g := { r := { w := 1, tp := 1 }, haltAt := some 3000 } } } }).advance 5000, 5000, ({ upt with trk := { out := { st := 2, g := { r := { w := 1, tp := 1 }, haltAt := some 3000 } } } }.advance 5000).trkTick, by decide +kernel⟩,
   ⟨{ upt with trk := { p := { st := 2, g := { r := { tp := 1, w := 1 } } } } }, ({ upt with trk := { p := { st := 2, g := { r := { tp := 1, w := 1 } } } } }).advance 5000, 5000, ({ upt with trk := { p := { st := 2, g := { r := { tp := 1, w := 1 } } } } }.advance 5000).trkTickBefore, false, by decide +kernel⟩,
   ⟨{ (upt.wr TRK_CRANK_CFG_N_POS 60) with trk := { p := { st := 2, g := { r := { tp := 1, w := 1 } } } } }, ({ (upt.wr TRK_CRANK_CFG_N_POS 60) with trk := { p := { st := 2, g := { r := { tp := 1, w := 1 } } } } }).advance 5000, 5000, ({ (upt.wr TRK_CRANK_CFG_N_POS 60) with trk := { p := { st := 2, g := { r := { tp := 1, w := 1 } } } } }.advance 5000).trkTickBefore, false, by decide +kernel⟩,
   ⟨{ ((upt.wr TRK_CRANK_CFG_N_POS 60).wr TRK_PRED_CFG_MISS_TOL 1) with trk := { p := { st := 2, g := { r := { pos := 7, t := 4000, tp := 100, w := 100 } } } } }, ({ ((upt.wr TRK_CRANK_CFG_N_POS 60).wr TRK_PRED_CFG_MISS_TOL 1) with trk := { p := { st := 2, g := { r := { pos := 7, t := 4000, tp := 100, w := 100 } } } } }).advance 5000, 5000, ({ ((upt.wr TRK_CRANK_CFG_N_POS 60).wr TRK_PRED_CFG_MISS_TOL 1) with trk := { p := { st := 2, g := { r := { pos := 7, t := 4000, tp := 100, w := 100 } } } } }.advance 5000).trkTickBefore, false, by decide +kernel⟩,
   ⟨{ (upt.wr TRK_CRANK_CFG_N_POS 60) with trk := { p := { st := 1, hist := [5] }, out := { st := 1 }, lastAcc := some 5 } }, ({ (upt.wr TRK_CRANK_CFG_N_POS 60) with trk := { p := { st := 1, hist := [5] }, out := { st := 1 }, lastAcc := some 5 } }).advance 400000000000, 400000000000, ({ (upt.wr TRK_CRANK_CFG_N_POS 60) with trk := { p := { st := 1, hist := [5] }, out := { st := 1 }, lastAcc := some 5 } }.advance 400000000000).trkTickBefore, ({ (upt.wr TRK_CRANK_CFG_N_POS 60) with trk := { p := { st := 1, hist := [5] }, out := { st := 1 }, lastAcc := some 5 } }.advance 400000000000).trkTickBefore.trkTick, by decide +kernel⟩,
   ⟨{ (upt.wr TRK_CRANK_CFG_N_POS 60) with trk := { p := { st := 1, hist := [5] }, out := { st := 1 }, lastAcc := some 5 } }, ({ (upt.wr TRK_CRANK_CFG_N_POS 60) with trk := { p := { st := 1, hist := [5] }, out := { st := 1 }, lastAcc := some 5 } }).advance 400000000000, 400000000000, ({ (upt.wr TRK_CRANK_CFG_N_POS 60) with trk := { p := { st := 1, hist := [5] }, out := { st := 1 }, lastAcc := some 5 } }.advance 400000000000).trkTickBefore, ({ (upt.wr TRK_CRANK_CFG_N_POS 60) with trk := { p := { st := 1, hist := [5] }, out := { st := 1 }, lastAcc := some 5 } }.advance 400000000000).trkTickBefore.trkTick, by decide +kernel⟩,
   ⟨upt, (upt).advance 5000, 5000, by decide +kernel⟩,
   ⟨{ upt with trk := { p := { st := 2 }, out := { st := 2, ang := 1000, g := { r := { t := 4000, w := 139810, tp := 10000 }, inc := 20000000, at_ := 4000 } } } }, ({ upt with trk := { p := { st := 2 }, out := { st := 2, ang := 1000, g := { r := { t := 4000, w := 139810, tp := 10000 }, inc := 20000000, at_ := 4000 } } } }).advance 5000, 5000, 250, 5000000000, by decide +kernel⟩⟩

/-- States and operands that meet every hypothesis of each clause of TrackerCommands. -/
theorem witness_TrackerCommands :
  (∃ (s a : State) (t : Nat) (m : Master),
    a = s.advance t ∧ State.core 0 a = true ∧ a.mayWrite m 0x18 8 1 0xFFFFFFFF = true ∧ a.on (PG_CTRL_EN 0x18) = false ∧ a.trkCheck = 0) ∧
  (∃ (s a : State) (t : Nat) (m : Master),
    a = s.advance t ∧ State.core 0 a = true ∧ a.mayWrite m 0x18 8 1 0xFFFFFFFF = true ∧ a.on (PG_CTRL_EN 0x18) = false ∧ a.trkCheck ≠ 0) ∧
  (∃ (s a : State) (t : Nat) (m : Master) (ls : Bool),
    a = s.advance t ∧ State.core 0 a = true ∧ a.mayWrite m 0x18 0xA8 (2 + b2n ls) 0xFFFFFFFF = true ∧ ls ≠ a.actLane ∧ a.trk.out.valid = true ∧ (a.lane ls).synced = true ∧ (a.lane ls).base = a.trk.out.base) ∧
  (∃ (s a : State) (t : Nat) (m : Master) (ls : Bool),
    a = s.advance t ∧ State.core 0 a = true ∧ a.mayWrite m 0x18 0xA8 (2 + b2n ls) 0xFFFFFFFF = true ∧ ls ≠ a.actLane ∧ a.trk.out.valid = true ∧ (a.lane ls).synced = true ∧ (a.lane ls).base = a.trk.out.base) ∧
  (∃ (s a : State) (t : Nat) (m : Master),
    a = s.advance t ∧ State.core 0 a = true ∧ a.mayRead m 0x18 0xC4 = true) ∧
  (∃ (s a : State) (t : Nat) (m : Master) (v : Word),
    a = s.advance t ∧ State.core 0 a = true ∧ a.mayWrite m 0x18 0xC4 v.toNat 0xFFFFFFFF = true ∧ a.tblHas (a.on TRK_TBL_CTRL_SEL) (a.rd TRK_TBL_CTRL_IDX) = true ∧ v.toNat < 65536) ∧
  (∃ (s a : State) (t : Nat) (m : Master),
    a = s.advance t ∧ State.core 0 a = true ∧ a.mayWrite m 0x18 0xC0 0x80000000 0x80000000 = true ∧ a.on TRK_TBL_CTRL_SEL = true ∧ a.trk.out.valid = false) ∧
  (∃ (s a : State) (t : Nat) (m : Master) (k : Nat),
    a = s.advance t ∧ State.core 0 a = true ∧ a.mayWrite m 0x18 0xC0 0x80000000 0x80000000 = true ∧ a.on TRK_TBL_CTRL_SEL = false ∧ a.shadowBad = some k) ∧
  (∃ (s a : State) (t : Nat) (m : Master),
    a = s.advance t ∧ State.core 0 a = true ∧ a.mayWrite m 0x18 0xB0 0x80000000 0x80000000 = true ∧ a.maint.run = [] ∧ a.maint.wait = []) ∧
  (∃ (s a : State) (t : Nat) (m : Master),
    a = s.advance t ∧ State.core 0 a = true ∧ a.mayWrite m 0x18 0xB0 0x40000000 0x40000000 = true ∧ a.runs learnTask = true) ∧
  (∃ (s a : State) (t : Nat) (m : Master) (x : LearnS),
    a = s.advance t ∧ State.core 0 a = true ∧ a.trk.learn = some x ∧ a.learnCyc ≤ x.cycles.length ∧ a.runs learnTask = true ∧ ((a.learnStats x.cycles).all fun e => decide (e.2.2 ≤ ((a.rd TRK_LEARN_CTRL_LEARN_TOL : Nat) : Rat)) && decide (|e.2.1| ≤ 32767)) = true) ∧
  (∃ (s a : State) (t : Nat) (m : Master) (x : LearnS),
    a = s.advance t ∧ State.core 0 a = true ∧ a.trk.learn = some x ∧ x.cycles.length < a.learnCyc) :=
  ⟨⟨(((((upp.wr (POS_CFG_TRK 0) 1).wr TRK_CRANK_CFG_N_POS 60).wr TRK_CRANK_CFG_GAP_N 2).wr TRK_WIN_WIN_LO 48).wr TRK_WIN_WIN_HI 80), ((((((upp.wr (POS_CFG_TRK 0) 1).wr TRK_CRANK_CFG_N_POS 60).wr TRK_CRANK_CFG_GAP_N 2).wr TRK_WIN_WIN_LO 48).wr TRK_WIN_WIN_HI 80)).advance 5000, 5000, 3, by decide +kernel⟩,
   ⟨upc, (upc).advance 5000, 5000, 3, by decide +kernel⟩,
   ⟨{ upt with trk := { s := { st := 2 }, out := { st := 2 } } }, ({ upt with trk := { s := { st := 2 }, out := { st := 2 } } }).advance 5000, 5000, 3, true, by decide +kernel⟩,
   ⟨{ upt with trk := { s := { st := 2 }, out := { st := 2 } } }, ({ upt with trk := { s := { st := 2 }, out := { st := 2 } } }).advance 5000, 5000, 3, true, by decide +kernel⟩,
   ⟨upt, (upt).advance 5000, 5000, 3, by decide +kernel⟩,
   ⟨upt.wr TRK_TBL_CTRL_SEL 1, (upt.wr TRK_TBL_CTRL_SEL 1).advance 5000, 5000, 3, 0xFFFE, by decide +kernel⟩,
   ⟨upt.wr TRK_TBL_CTRL_SEL 1, (upt.wr TRK_TBL_CTRL_SEL 1).advance 5000, 5000, 3, by decide +kernel⟩,
   ⟨upt.wr TRK_CRANK_CFG_N_POS 0, (upt.wr TRK_CRANK_CFG_N_POS 0).advance 5000, 5000, 3, 0x3FF, by decide +kernel⟩,
   ⟨upt, (upt).advance 5000, 5000, 3, by decide +kernel⟩,
   ⟨{ upt with maint := { run := [learnTask] }, trk := { learn := some {} } }, ({ upt with maint := { run := [learnTask] }, trk := { learn := some {} } }).advance 5000, 5000, 3, by decide +kernel⟩,
   ⟨{ upt with maint := { run := [learnTask] }, trk := { learn := some { cycles := List.replicate 16 [] } } }, ({ upt with maint := { run := [learnTask] }, trk := { learn := some { cycles := List.replicate 16 [] } } }).advance 5000, 5000, 3, { cycles := List.replicate 16 [] }, by decide +kernel⟩,
   ⟨{ upt with maint := { run := [learnTask] }, trk := { learn := some {} } }, ({ upt with maint := { run := [learnTask] }, trk := { learn := some {} } }).advance 5000, 5000, 3, {}, by decide +kernel⟩⟩

/-- States and operands that meet every hypothesis of each clause of EventTable. -/
theorem witness_EventTable :
  (∃ (s a : State) (t : Nat) (m : Master) (i : Entry) (w : Fin 3) (v : Word),
    a = s.advance t ∧ State.core 0 a = true ∧ a.tbOn = true ∧ a.writeCode m (evtBase + 16 * i + 4 * w) v.toNat 0xFFFFFFFF = 0 ∧ a.grantable (32 + m) 1 = true) ∧
  (∃ (s a : State) (t : Nat) (m : Master) (i : Entry) (v : Word),
    a = s.advance t ∧ State.core 0 a = true ∧ a.tbOn = true ∧ a.writeCode m (evtBase + 16 * i + 12) v.toNat 0xFFFFFFFF = 0 ∧ a.grantable (32 + m) 1 = true ∧ tget none a.evt.stage m = none ∧ a.evtRuns = false ∧ a.evtCheck i { a.committed i with w3 := v.toNat % 2 ^ 28 } = none) ∧
  (∃ (s a : State) (t : Nat) (m : Master) (i : Entry) (v : Word),
    a = s.advance t ∧ State.core 0 a = true ∧ a.tbOn = true ∧ a.writeCode m (evtBase + 16 * i + 12) v.toNat 0xFFFFFFFF = 0 ∧ a.grantable (32 + m) 1 = true ∧ tget none a.evt.stage m = none ∧ a.evtRuns = true ∧ bit v.toNat 26 = false ∧ a.evtCheck i { a.committed i with w3 := v.toNat % 2 ^ 28 } = none) ∧
  (∃ (s a : State) (t : Nat) (m : Master) (i : Entry) (v : Word) (code : Nat),
    a = s.advance t ∧ State.core 0 a = true ∧ a.tbOn = true ∧ a.writeCode m (evtBase + 16 * i + 12) v.toNat 0xFFFFFFFF = 0 ∧ a.grantable (32 + m) 1 = true ∧ tget none a.evt.stage m = none ∧ a.evtCheck i { a.committed i with w3 := v.toNat % 2 ^ 28 } = some code ∧ a.on EVT_CMT_ERR_VALID = false) ∧
  (∃ (s a : State) (t : Nat) (m : Master) (i : Entry) (j : Nat) (e : Entry4),
    a = s.advance t ∧ State.core 0 a = true ∧ a.tbOn = true ∧ (a.evt.imm.find? fun (x : Nat × Entry4) => x.1 == i.val) = some (j, e)) ∧
  (∃ (s a : State) (t : Nat) (m : Master) (i : Entry) (j : Nat) (e : Entry4),
    a = s.advance t ∧ State.core 0 a = true ∧ a.tbOn = true ∧ (a.evt.imm.find? fun (x : Nat × Entry4) => x.1 == i.val) = some (j, e) ∧ a.evtRuns = false) ∧
  (∃ (s a : State) (t : Nat) (m : Master) (i : Entry) (j : Nat) (e : Entry4),
    a = s.advance t ∧ State.core 0 a = true ∧ a.tbOn = true ∧ (a.evt.imm.find? fun (x : Nat × Entry4) => x.1 == i.val) = some (j, e) ∧ a.evtRuns = true ∧ e.valid = false) ∧
  (∃ (s a : State) (t : Nat) (m : Master) (i : Entry) (x : Occ) (p : Nat),
    a = s.advance t ∧ State.core 0 a = true ∧ a.tbOn = true ∧ a.domOn 1 = true ∧ (a.evt.slots.find? fun y => y.idx == i.val && !y.here) = some x ∧ a.physOf x.e.ch = some p) ∧
  (∃ (s a : State) (t : Nat) (m : Master) (i : Entry) (x : Occ) (p : Nat),
    a = s.advance t ∧ State.core 0 a = true ∧ a.tbOn = true ∧ a.domOn 1 = true ∧ (a.evt.slots.find? fun y => y.idx == i.val && !y.here) = some x ∧ a.physOf x.e.ch = some p ∧ a.logOf p = some x.e.ch ∧ a.on (TILE_CH_CTRL_EN (p / 24) (p % 24)) = true ∧ (a.chan p).pipe = none ∧ (a.chan p).act = none ∧ (a.chan p).mhold = false ∧ (a.evt.slots.any fun o => o.e.ch == x.e.ch && o.here) = false) ∧
  (∃ (s a : State) (t : Nat) (m : Master) (i : Entry) (x : Occ),
    a = s.advance t ∧ State.core 0 a = true ∧ a.tbOn = true ∧ a.domOn 1 = true ∧ (a.evt.slots.find? fun y => y.idx == i.val && !y.here) = some x ∧ a.physOf x.e.ch = none ∧ x.e.ch ≠ 0xFF) ∧
  (∃ (s a : State) (t : Nat) (m : Master) (i : Entry),
    a = s.advance t ∧ State.core 0 a = true ∧ a.tbOn = true ∧ a.mayWrite m 0x19 0x44 1 0xFFFFFFFF = true ∧ a.on (PG_CTRL_EN 0x19) = true ∧ ((a.rd EVT_STAT_STATE = 0 ∨ a.rd EVT_STAT_STATE = 3)) ∧ a.ang.base ≠ 2 ∧ a.ang.base ≠ 3) ∧
  (∃ (s a : State) (t : Nat) (m : Master) (i : Entry),
    a = s.advance t ∧ State.core 0 a = true ∧ a.tbOn = true ∧ a.mayWrite m 0x19 0x44 0 0xFFFFFFFF = true ∧ a.rd EVT_STAT_STATE ≠ 0) ∧
  (∃ (s a : State) (t : Nat) (m : Master) (i : Entry),
    a = s.advance t ∧ State.core 0 a = true ∧ a.tbOn = true ∧ a.mayWrite m 0x19 0x44 0 0xFFFFFFFF = true ∧ a.rd EVT_STAT_STATE ≠ 0) :=
  ⟨⟨upt, (upt).advance 5000, 5000, 3, 5, 1, 77, by decide +kernel⟩,
   ⟨upt, (upt).advance 5000, 5000, 3, 5, 0, by decide +kernel⟩,
   ⟨upt.wr EVT_STAT_STATE 2, (upt.wr EVT_STAT_STATE 2).advance 5000, 5000, 3, 5, 0, by decide +kernel⟩,
   ⟨upt, (upt).advance 5000, 5000, 3, 5, 0x01000000, 2, by decide +kernel⟩,
   ⟨{ upt with evt := { imm := [(5, {})] } }, ({ upt with evt := { imm := [(5, {})] } }).advance 5000, 5000, 3, 5, 5, {}, by decide +kernel⟩,
   ⟨{ upt with evt := { imm := [(5, ⟨1, 2, 3, 4⟩)] } }, ({ upt with evt := { imm := [(5, ⟨1, 2, 3, 4⟩)] } }).advance 5000, 5000, 3, 5, 5, ⟨1, 2, 3, 4⟩, by decide +kernel⟩,
   ⟨{ (upt.wr EVT_STAT_STATE 2) with evt := { imm := [(5, ⟨1, 2, 3, 4⟩)] } }, ({ (upt.wr EVT_STAT_STATE 2) with evt := { imm := [(5, ⟨1, 2, 3, 4⟩)] } }).advance 5000, 5000, 3, 5, 5, ⟨1, 2, 3, 4⟩, by decide +kernel⟩,
   ⟨{ upt with evt := { slots := [{ idx := 5, e := ⟨0, 0x0103, 0, 0x01000000⟩, cyc := 1, ang := 0 }] } }, ({ upt with evt := { slots := [{ idx := 5, e := ⟨0, 0x0103, 0, 0x01000000⟩, cyc := 1, ang := 0 }] } }).advance 5000, 5000, 3, 5, { idx := 5, e := ⟨0, 0x0103, 0, 0x01000000⟩, cyc := 1, ang := 0 }, 3, by decide +kernel⟩,
   ⟨(({ upt with evt := { slots := [{ idx := 5, e := ⟨0, 0x0103, 0, 0x01000000⟩, cyc := 1, ang := 0 }] } } : State).wr (TILE_CH_CTRL_EN 0 3) 1), ((({ upt with evt := { slots := [{ idx := 5, e := ⟨0, 0x0103, 0, 0x01000000⟩, cyc := 1, ang := 0 }] } } : State).wr (TILE_CH_CTRL_EN 0 3) 1)).advance 5000, 5000, 3, 5, { idx := 5, e := ⟨0, 0x0103, 0, 0x01000000⟩, cyc := 1, ang := 0 }, 3, by decide +kernel⟩,
   ⟨{ upt with evt := { slots := [{ idx := 5, e := ⟨0, 0x01D8, 0, 0x01000000⟩, cyc := 1, ang := 0 }] } }, ({ upt with evt := { slots := [{ idx := 5, e := ⟨0, 0x01D8, 0, 0x01000000⟩, cyc := 1, ang := 0 }] } }).advance 5000, 5000, 3, 5, { idx := 5, e := ⟨0, 0x01D8, 0, 0x01000000⟩, cyc := 1, ang := 0 }, by decide +kernel⟩,
   ⟨upt.wr (PG_CTRL_EN 0x19) 1, (upt.wr (PG_CTRL_EN 0x19) 1).advance 5000, 5000, 3, 5, by decide +kernel⟩,
   ⟨upt.wr EVT_STAT_STATE 1, (upt.wr EVT_STAT_STATE 1).advance 5000, 5000, 3, 5, by decide +kernel⟩,
   ⟨(upe 259 0 0x01000000 3), ((upe 259 0 0x01000000 3)).advance 5000, 5000, 3, 5, by decide +kernel⟩⟩

/-- States and operands that meet every hypothesis of each clause of ChannelOccurrences. -/
theorem witness_ChannelOccurrences :
  (∃ (s a : State) (t : Nat) (i : Entry) (p : Nat) (x : Occ) (v : Verdict),
    a = s.advance t ∧ State.tbd 0 a = true ∧ State.tbd 1 a = true ∧ a.loaded i 1 = some (p, x) ∧ a.judge (a.occPos x) (a.mtLead p) x.e.lateLim (a.tmOn p) (a.amOn p) = some v ∧ v.late = false ∧ v.cancel = false) ∧
  (∃ (s a : State) (t : Nat) (i : Entry) (p : Nat) (x : Occ) (v : Verdict),
    a = s.advance t ∧ State.tbd 0 a = true ∧ State.tbd 1 a = true ∧ a.loaded i 2 = some (p, x) ∧ a.judge (a.occPos x) (a.mtLead p) x.e.lateLim (a.tmOn p) (a.amOn p) = some v ∧ v.late = false ∧ v.cancel = false) ∧
  (∃ (s a : State) (t : Nat) (i : Entry) (p : Nat) (x : Occ) (v : Verdict),
    a = s.advance t ∧ State.tbd 0 a = true ∧ State.tbd 1 a = true ∧ a.loaded i 1 = some (p, x) ∧ a.judge (a.occPos x) (a.mtLead p) x.e.lateLim (a.tmOn p) (a.amOn p) = some v ∧ v.late = true ∧ v.cancel = true) ∧
  (∃ (s a : State) (t : Nat) (i : Entry) (p : Nat) (x : Occ) (v : Verdict),
    a = s.advance t ∧ State.tbd 0 a = true ∧ State.tbd 1 a = true ∧ a.loaded i 2 = some (p, x) ∧ a.judge (a.occPos x) (a.mtLead p) x.e.lateLim (a.tmOn p) (a.amOn p) = some v ∧ v.late = true ∧ v.cancel = true) ∧
  (∃ (s a : State) (t : Nat) (i : Entry) (p : Nat) (x : Occ) (v : Verdict),
    a = s.advance t ∧ State.tbd 0 a = true ∧ State.tbd 1 a = true ∧ a.loaded i 3 = some (p, x) ∧ a.judge (a.occPos x) (a.mtLead p) x.e.lateLim (a.tmOn p) (a.amOn p) = some v ∧ v.late = true ∧ v.cancel = true) ∧
  (∃ (s a : State) (t : Nat) (i : Entry) (p : Nat) (x : Occ) (v : Verdict),
    a = s.advance t ∧ State.tbd 0 a = true ∧ State.tbd 1 a = true ∧ a.loaded i 4 = some (p, x) ∧ a.judge (a.occPos x) (a.mtLead p) x.e.lateLim (a.tmOn p) (a.amOn p) = some v ∧ v.late = true ∧ v.cancel = true) ∧
  (∃ (s a : State) (t : Nat) (i : Entry) (p : Nat) (x : Occ) (v : Verdict),
    a = s.advance t ∧ State.tbd 0 a = true ∧ State.tbd 1 a = true ∧ a.loaded i 8 = some (p, x) ∧ a.judge (a.occPos x) (a.mtLead p) x.e.lateLim (a.tmOn p) (a.amOn p) = some v ∧ v.late = true ∧ v.cancel = true) ∧
  (∃ (s a : State) (t : Nat) (i : Entry) (p : Nat) (x : Occ) (v : Verdict),
    a = s.advance t ∧ State.tbd 0 a = true ∧ State.tbd 1 a = true ∧ a.loaded i 3 = some (p, x) ∧ x.e.w2 ≠ 0 ∧ a.judge (a.occPos x) (a.mtLead p) x.e.lateLim (a.tmOn p) (a.amOn p) = some v ∧ v.late = false ∧ v.cancel = false) ∧
  (∃ (s a : State) (t : Nat) (p : Channel) (j stop : Nat),
    a = s.advance t ∧ State.tbd 0 a = true ∧ State.tbd 1 a = true ∧ a.dead p = false ∧ a.tmOn p = true ∧ (a.chan p).act = some (.pulse j stop) ∧ stop ≤ 16 * (a.tb + a.mtLead p)) ∧
  (∃ (s a : State) (t : Nat) (i : Entry) (p : Nat) (x : Occ) (v : Verdict) (d : Nat),
    a = s.advance t ∧ State.tbd 0 a = true ∧ State.tbd 1 a = true ∧ a.loaded i 4 = some (p, x) ∧ x.stop = some d ∧ a.judge (a.occPos x) (a.mtLead p) x.e.lateLim (a.tmOn p) (a.amOn p) = some v ∧ v.late = false ∧ v.cancel = false) ∧
  (∃ (s a : State) (t : Nat) (p : Channel) (j stop pos : Nat),
    a = s.advance t ∧ State.tbd 0 a = true ∧ State.tbd 1 a = true ∧ a.dead p = false ∧ (a.chan p).act = some (.pulseA j stop pos) ∧ ((a.tmOn p = true ∧ stop ≤ 16 * (a.tb + a.mtLead p) ∨ (a.posComes pos (a.mtLead p) (a.tmOn p) (a.amOn p)).isSome = true))) ∧
  (∃ (s a : State) (t : Nat) (i : Entry) (p f : Nat) (x : Occ),
    a = s.advance t ∧ State.tbd 0 a = true ∧ State.tbd 1 a = true ∧ a.loaded i 5 = some (p, x) ∧ x.dwFix = some f ∧ x.started = false ∧ x.short = false ∧ a.tmOn p = true ∧ f ≤ 16 * (a.tb + a.mtLead p) ∧ 16 * a.tb < f + 16) ∧
  (∃ (s a : State) (t : Nat) (i : Entry) (p : Nat) (x : Occ) (v : Verdict),
    a = s.advance t ∧ State.tbd 0 a = true ∧ State.tbd 1 a = true ∧ a.dwelling i = some (p, x) ∧ a.judge (a.occPos x) (a.mtLead p) x.e.lateLim (a.tmOn p) (a.amOn p) = some v ∧ v.late = false ∧ v.cancel = false) ∧
  (∃ (s a : State) (t : Nat) (p : Channel) (j : Entry) (st stop q : Nat) (x : Occ),
    a = s.advance t ∧ State.tbd 0 a = true ∧ State.tbd 1 a = true ∧ a.dead p = false ∧ (a.chan p).act = some (.dwell j st stop) ∧ stop ≤ 16 * a.tb ∧ a.dwelling j = some (q, x) ∧ bit x.e.w3 27 = true) ∧
  (∃ (s a : State) (t : Nat) (p : Channel) (j : Entry) (st stop q : Nat) (x : Occ),
    a = s.advance t ∧ State.tbd 0 a = true ∧ State.tbd 1 a = true ∧ a.dead p = false ∧ (a.chan p).act = some (.dwell j st stop) ∧ stop ≤ 16 * a.tb ∧ a.dwelling j = some (q, x) ∧ bit x.e.w3 27 = false) ∧
  (∃ (s a : State) (t : Nat) (i : Entry) (p : Nat) (x : Occ) (v : Verdict),
    a = s.advance t ∧ State.tbd 0 a = true ∧ State.tbd 1 a = true ∧ a.loaded i 8 = some (p, x) ∧ a.evCount p 0 < 3 ∧ a.judge (a.occPos x) (a.mtLead p) x.e.lateLim (a.tmOn p) (a.amOn p) = some v ∧ v.late = false ∧ v.cancel = false) :=
  ⟨⟨upe 259 0 0x01000000 3, (upe 259 0 0x01000000 3).advance 5000, 5000, 5, 3, { idx := 5, e := ⟨0, 259, 0, 16777216⟩, cyc := 1, ang := 0, here := true }, { at16 := 80000, late := false, cancel := false, lam := 0 }, by decide +kernel⟩,
   ⟨upe 515 0 0x01000000 3, (upe 515 0 0x01000000 3).advance 5000, 5000, 5, 3, { idx := 5, e := ⟨0, 515, 0, 16777216⟩, cyc := 1, ang := 0, here := true }, { at16 := 80000, late := false, cancel := false, lam := 0 }, by decide +kernel⟩,
   ⟨upe 259 0 0x01000001 3, (upe 259 0 0x01000001 3).advance 6000, 6000, 5, 3, { idx := 5, e := ⟨0, 259, 0, 16777217⟩, cyc := 1, ang := 0, here := true }, { at16 := 96000, late := true, cancel := true, lam := 4 }, by decide +kernel⟩,
   ⟨upe 515 0 0x01000001 3, (upe 515 0 0x01000001 3).advance 6000, 6000, 5, 3, { idx := 5, e := ⟨0, 515, 0, 16777217⟩, cyc := 1, ang := 0, here := true }, { at16 := 96000, late := true, cancel := true, lam := 4 }, by decide +kernel⟩,
   ⟨upe 771 100 0x01000001 3, (upe 771 100 0x01000001 3).advance 6000, 6000, 5, 3, { idx := 5, e := ⟨0, 771, 100, 16777217⟩, cyc := 1, ang := 0, here := true }, { at16 := 96000, late := true, cancel := true, lam := 4 }, by decide +kernel⟩,
   ⟨upe 1027 100 0x01000001 3, (upe 1027 100 0x01000001 3).advance 6000, 6000, 5, 3, { idx := 5, e := ⟨0, 1027, 100, 16777217⟩, cyc := 1, ang := 0, here := true }, { at16 := 96000, late := true, cancel := true, lam := 4 }, by decide +kernel⟩,
   ⟨upe 2051 0 0x01000001 3, (upe 2051 0 0x01000001 3).advance 6000, 6000, 5, 3, { idx := 5, e := ⟨0, 2051, 0, 16777217⟩, cyc := 1, ang := 0, here := true }, { at16 := 96000, late := true, cancel := true, lam := 4 }, by decide +kernel⟩,
   ⟨upe 0x0303 100 0x01000000 3, (upe 0x0303 100 0x01000000 3).advance 5000, 5000, 5, 3, { idx := 5, e := ⟨0, 771, 100, 16777216⟩, cyc := 1, ang := 0, here := true }, { at16 := 80000, late := false, cancel := false, lam := 0 }, by decide +kernel⟩,
   ⟨{ upt with chans := [(3, { act := some (.pulse 5 1000), env := true })] }, ({ upt with chans := [(3, { act := some (.pulse 5 1000), env := true })] }).advance 5000, 5000, 3, 5, 1000, by decide +kernel⟩,
   ⟨(fun z : State => { z with evt := { z.evt with slots := [{ idx := 5, e := ⟨0, 1027, 100, 16777216⟩, cyc := 1, ang := 0, here := true, stop := some 9 }] } }) (upe 0x0403 100 0x01000000 3), ((fun z : State => { z with evt := { z.evt with slots := [{ idx := 5, e := ⟨0, 1027, 100, 16777216⟩, cyc := 1, ang := 0, here := true, stop := some 9 }] } }) (upe 0x0403 100 0x01000000 3)).advance 5000, 5000, 5, 3, { idx := 5, e := ⟨0, 1027, 100, 16777216⟩, cyc := 1, ang := 0, here := true, stop := some 9 }, { at16 := 80000, late := false, cancel := false, lam := 0 }, 9, by decide +kernel⟩,
   ⟨{ upt with chans := [(3, { act := some (.pulseA 5 1000 7), env := true })] }, ({ upt with chans := [(3, { act := some (.pulseA 5 1000 7), env := true })] }).advance 5000, 5000, 3, 5, 1000, 7, by decide +kernel⟩,
   ⟨(fun z : State => { z with evt := { z.evt with slots := [{ idx := 5, e := ⟨0, 1283, 100, 16777216⟩, cyc := 1, ang := 0, here := true, dwFix := some 79990 }] } }) (upe 0x0503 100 0x01000000 3), ((fun z : State => { z with evt := { z.evt with slots := [{ idx := 5, e := ⟨0, 1283, 100, 16777216⟩, cyc := 1, ang := 0, here := true, dwFix := some 79990 }] } }) (upe 0x0503 100 0x01000000 3)).advance 5000, 5000, 5, 3, 79990, { idx := 5, e := ⟨0, 1283, 100, 16777216⟩, cyc := 1, ang := 0, here := true, dwFix := some 79990 }, by decide +kernel⟩,
   ⟨(fun z : State => { z with evt := { z.evt with slots := [{ idx := 5, e := ⟨0, 1283, 100, 16777216⟩, cyc := 1, ang := 0, here := true, started := true }] } }) (upe 0x0503 100 0x01000000 3), ((fun z : State => { z with evt := { z.evt with slots := [{ idx := 5, e := ⟨0, 1283, 100, 16777216⟩, cyc := 1, ang := 0, here := true, started := true }] } }) (upe 0x0503 100 0x01000000 3)).advance 5000, 5000, 5, 3, { idx := 5, e := ⟨0, 1283, 100, 16777216⟩, cyc := 1, ang := 0, here := true, started := true }, { at16 := 80000, late := false, cancel := false, lam := 0 }, by decide +kernel⟩,
   ⟨(fun z : State => { z with evt := { z.evt with slots := [{ idx := 5, e := ⟨0, 1283, 100, 150994944⟩, cyc := 1, ang := 0, here := true, started := true }] }, chans := [(3, { act := some (.dwell 5 100 200), env := true })] }) (upe 0x0503 100 0x01000000 3), ((fun z : State => { z with evt := { z.evt with slots := [{ idx := 5, e := ⟨0, 1283, 100, 150994944⟩, cyc := 1, ang := 0, here := true, started := true }] }, chans := [(3, { act := some (.dwell 5 100 200), env := true })] }) (upe 0x0503 100 0x01000000 3)).advance 5000, 5000, 3, 5, 100, 200, 3, { idx := 5, e := ⟨0, 1283, 100, 150994944⟩, cyc := 1, ang := 0, here := true, started := true }, by decide +kernel⟩,
   ⟨(fun z : State => { z with evt := { z.evt with slots := [{ idx := 5, e := ⟨0, 1283, 100, 16777216⟩, cyc := 1, ang := 0, here := true, started := true }] }, chans := [(3, { act := some (.dwell 5 100 200), env := true })] }) (upe 0x0503 100 0x01000000 3), ((fun z : State => { z with evt := { z.evt with slots := [{ idx := 5, e := ⟨0, 1283, 100, 16777216⟩, cyc := 1, ang := 0, here := true, started := true }] }, chans := [(3, { act := some (.dwell 5 100 200), env := true })] }) (upe 0x0503 100 0x01000000 3)).advance 5000, 5000, 3, 5, 100, 200, 3, { idx := 5, e := ⟨0, 1283, 100, 16777216⟩, cyc := 1, ang := 0, here := true, started := true }, by decide +kernel⟩,
   ⟨upe 0x0803 0 0x01000000 3, (upe 0x0803 0 0x01000000 3).advance 5000, 5000, 5, 3, { idx := 5, e := ⟨0, 2051, 0, 16777216⟩, cyc := 1, ang := 0, here := true }, { at16 := 80000, late := false, cancel := false, lam := 0 }, by decide +kernel⟩⟩

/-- States and operands that meet every hypothesis of each clause of SharedOccurrences. -/
theorem witness_SharedOccurrences :
  (∃ (s a u : State) (t : Nat) (i : Entry) (x : Occ) (v : Verdict),
    a = s.advance t ∧ State.tbd 0 a = true ∧ v.late = false ∧ v.cancel = false ∧ u = a ∧ (u.evt.slots.find? fun y => y.idx == i.val && y.here) = some x ∧ x.e.op = 0x10 ∧ u.judge (u.bndPos x) 0 x.e.lateLim true true = some v ∧ a.domOn 2 = true ∧ x.e.lastBnd ≤ x.bnd) ∧
  (∃ (s a u : State) (t : Nat) (i : Entry) (x : Occ) (v : Verdict),
    a = s.advance t ∧ State.tbd 0 a = true ∧ v.late = false ∧ v.cancel = false ∧ u = a ∧ (u.evt.slots.find? fun y => y.idx == i.val && y.here) = some x ∧ x.e.op = 0x11 ∧ u.judge (u.bndPos x) 0 x.e.lateLim true true = some v ∧ a.domOn 2 = true ∧ x.e.lastBnd ≤ x.bnd) ∧
  (∃ (s a u : State) (t : Nat) (i : Entry) (x : Occ) (v : Verdict),
    a = s.advance t ∧ State.tbd 0 a = true ∧ v.late = false ∧ v.cancel = false ∧ u = a ∧ (u.evt.slots.find? fun y => y.idx == i.val && y.here) = some x ∧ x.e.op = 0x12 ∧ u.judge (u.occPos x) 0 x.e.lateLim true true = some v ∧ x.e.param % 32 < 24 ∧ bits x.e.param 5 3 ≤ 2 ∧ a.cylOn (x.e.param % 32) = true) ∧
  (∃ (s a u : State) (t : Nat) (i : Entry) (x : Occ) (v : Verdict),
    a = s.advance t ∧ State.tbd 0 a = true ∧ v.late = false ∧ v.cancel = false ∧ u = a ∧ (u.evt.slots.find? fun y => y.idx == i.val && y.here) = some x ∧ x.e.op = 0x18 ∧ u.judge (u.occPos x) 0 x.e.lateLim true true = some v) ∧
  (∃ (s a u : State) (t : Nat) (i : Entry) (x : Occ) (v : Verdict),
    a = s.advance t ∧ State.tbd 0 a = true ∧ v.late = false ∧ v.cancel = false ∧ u = a.linkBegin ∧ (u.evt.slots.find? fun y => y.idx == i.val && y.here) = some x ∧ x.e.op = 0x20 ∧ u.judge (u.occPos x) 0 x.e.lateLim true true = some v) ∧
  (∃ (s a u : State) (t : Nat) (i : Entry) (x : Occ) (v : Verdict),
    a = s.advance t ∧ State.tbd 0 a = true ∧ v.late = false ∧ v.cancel = false ∧ u = a ∧ (u.evt.slots.find? fun y => y.idx == i.val && y.here) = some x ∧ x.e.op = 0x11 ∧ u.judge (u.bndPos x) 0 x.e.lateLim true true = some v ∧ x.bnd < x.e.lastBnd) ∧
  (∃ (s a u : State) (t : Nat) (i : Entry) (x : Occ) (v : Verdict),
    a = s.advance t ∧ State.tbd 0 a = true ∧ v.late = false ∧ v.cancel = false ∧ u = a ∧ a.domOn 2 = true ∧ (u.evt.slots.find? fun y => y.idx == i.val && y.here) = some x ∧ x.e.op = 0x11 ∧ u.judge (u.bndPos x) 0 x.e.lateLim true true = some v ∧ x.bnd < x.e.lastBnd) :=
  ⟨⟨upe 4351 0 0x01000000 255, (upe 4351 0 0x01000000 255).advance 5000, (upe 4351 0 0x01000000 255).advance 5000, 5000, 5, { idx := 5, e := ⟨0, 4351, 0, 16777216⟩, cyc := 1, ang := 0, here := true }, { at16 := 80000, late := false, cancel := false, lam := 0 }, by decide +kernel⟩,
   ⟨upe 4607 0 0x01000000 255, (upe 4607 0 0x01000000 255).advance 5000, (upe 4607 0 0x01000000 255).advance 5000, 5000, 5, { idx := 5, e := ⟨0, 4607, 0, 16777216⟩, cyc := 1, ang := 0, here := true }, { at16 := 80000, late := false, cancel := false, lam := 0 }, by decide +kernel⟩,
   ⟨(upe 4863 0 0x01000000 255).wr (PG_CTRL_EN 0x90) 1, ((upe 4863 0 0x01000000 255).wr (PG_CTRL_EN 0x90) 1).advance 5000, ((upe 4863 0 0x01000000 255).wr (PG_CTRL_EN 0x90) 1).advance 5000, 5000, 5, { idx := 5, e := ⟨0, 4863, 0, 16777216⟩, cyc := 1, ang := 0, here := true }, { at16 := 80000, late := false, cancel := false, lam := 0 }, by decide +kernel⟩,
   ⟨upe 6399 0 0x01000000 255, (upe 6399 0 0x01000000 255).advance 5000, (upe 6399 0 0x01000000 255).advance 5000, 5000, 5, { idx := 5, e := ⟨0, 6399, 0, 16777216⟩, cyc := 1, ang := 0, here := true }, { at16 := 80000, late := false, cancel := false, lam := 0 }, by decide +kernel⟩,
   ⟨upe 8447 0 0x01000000 255, (upe 8447 0 0x01000000 255).advance 5000, (upe 8447 0 0x01000000 255).advance 5000 |>.linkBegin, 5000, 5, { idx := 5, e := ⟨0, 8447, 0, 16777216⟩, cyc := 1, ang := 0, here := true }, { at16 := 80000, late := false, cancel := false, lam := 0 }, by decide +kernel⟩,
   ⟨upe 0x11FF 0x10000003 0x01000000 255, (upe 0x11FF 0x10000003 0x01000000 255).advance 5000, (upe 0x11FF 0x10000003 0x01000000 255).advance 5000, 5000, 5, { idx := 5, e := ⟨0, 4607, 268435459, 16777216⟩, cyc := 1, ang := 0, here := true }, { at16 := 80000, late := false, cancel := false, lam := 0 }, by decide +kernel⟩,
   ⟨upe 0x11FF 0x10000003 0x01000000 255, (upe 0x11FF 0x10000003 0x01000000 255).advance 5000, (upe 0x11FF 0x10000003 0x01000000 255).advance 5000, 5000, 5, { idx := 5, e := ⟨0, 4607, 268435459, 16777216⟩, cyc := 1, ang := 0, here := true }, { at16 := 80000, late := false, cancel := false, lam := 0 }, by decide +kernel⟩⟩

/-- States and operands that meet every hypothesis of each clause of ChannelCommands. -/
theorem witness_ChannelCommands :
  (∃ (s a : State) (t : Nat) (m : Master) (p : Channel) (v : BitVec 16),
    a = s.advance t ∧ State.core 1 a = true ∧ a.tbOn = true ∧ a.mayWrite m (0x20 + p.val / 24) (0x104 + 0x20 * (p.val % 24)) (v.toNat * 65536 + 2) 0xFFFF0002 = true ∧ a.dead p = false ∧ a.evCount p 0 < 3 ∧ a.touch (pageAddr (0x20 + p.val / 24) (0x104 + 0x20 * (p.val % 24))) = a) ∧
  (∃ (s a : State) (t : Nat) (m : Master) (p : Channel) (v : BitVec 16),
    a = s.advance t ∧ State.core 1 a = true ∧ a.tbOn = true ∧ a.mayWrite m (0x20 + p.val / 24) (0x104 + 0x20 * (p.val % 24)) (v.toNat * 65536 + 2) 0xFFFF0002 = true ∧ a.dead p = false ∧ a.evCount p 0 < 3) ∧
  (∃ (s a : State) (t : Nat) (m : Master) (p : Channel) (u : State) (d : Option DirEnt),
    a = s.advance t ∧ State.core 1 a = true ∧ a.tbOn = true ∧ a.mayWrite m (0x20 + p.val / 24) (0x104 + 0x20 * (p.val % 24)) 1 1 = true ∧ u = a.charged m (0x20 + p.val / 24) (0x104 + 0x20 * (p.val % 24)) ∧ u.on (TILE_CH_CTRL_EN (p.val / 24) (p.val % 24)) = false ∧ ((u.rd (TILE_CH_CFG_FUNC (p.val / 24) (p.val % 24)) = 0 ∧ d = none ∨ u.rd (TILE_CH_CFG_FUNC (p.val / 24) (p.val % 24)) ≠ 0 ∧ d.isSome = true ∧ u.dirFind (u.engineOf p) (u.rd (TILE_CH_CFG_FUNC (p.val / 24) (p.val % 24))) = d ∧ (d.all fun e => Nat.land (u.rd (TILE_CH_CFG_FMASK (p.val / 24) (p.val % 24))) e.kmask == u.rd (TILE_CH_CFG_FMASK (p.val / 24) (p.val % 24))) = true ∧ (u.on (TILE_CH_CFG_SYNC_END (p.val / 24) (p.val % 24)) = true ∨ u.rd (TILE_CH_CFG_FUNC (p.val / 24) (p.val % 24)) ∉ [1, 2, 3, 7])))) ∧
  (∃ (s a : State) (t : Nat) (m : Master) (p : Channel) (u : State) (d : Option DirEnt),
    a = s.advance t ∧ State.core 1 a = true ∧ a.tbOn = true ∧ a.mayWrite m (0x20 + p.val / 24) (0x104 + 0x20 * (p.val % 24)) 1 1 = true ∧ u = a.charged m (0x20 + p.val / 24) (0x104 + 0x20 * (p.val % 24)) ∧ u.on (TILE_CH_CTRL_EN (p.val / 24) (p.val % 24)) = false ∧ u.dead p = false ∧ u.evCount p 7 < 3 ∧ ((u.rd (TILE_CH_CFG_FUNC (p.val / 24) (p.val % 24)) = 0 ∧ d = none ∨ u.rd (TILE_CH_CFG_FUNC (p.val / 24) (p.val % 24)) ≠ 0 ∧ d.isSome = true ∧ u.dirFind (u.engineOf p) (u.rd (TILE_CH_CFG_FUNC (p.val / 24) (p.val % 24))) = d ∧ (d.all fun e => Nat.land (u.rd (TILE_CH_CFG_FMASK (p.val / 24) (p.val % 24))) e.kmask == u.rd (TILE_CH_CFG_FMASK (p.val / 24) (p.val % 24))) = true ∧ (u.on (TILE_CH_CFG_SYNC_END (p.val / 24) (p.val % 24)) = true ∨ u.rd (TILE_CH_CFG_FUNC (p.val / 24) (p.val % 24)) ∉ [1, 2, 3, 7])))) ∧
  (∃ (s a : State) (t : Nat) (m : Master) (p : Channel) (u : State),
    a = s.advance t ∧ State.core 1 a = true ∧ a.tbOn = true ∧ a.mayWrite m (0x20 + p.val / 24) (0x104 + 0x20 * (p.val % 24)) 1 1 = true ∧ u = a.charged m (0x20 + p.val / 24) (0x104 + 0x20 * (p.val % 24)) ∧ u.on (TILE_CH_CTRL_EN (p.val / 24) (p.val % 24)) = false ∧ u.rd (TILE_CH_CFG_FUNC (p.val / 24) (p.val % 24)) ≠ 0 ∧ u.dirFind (u.engineOf p) (u.rd (TILE_CH_CFG_FUNC (p.val / 24) (p.val % 24))) = none) ∧
  (∃ (s a : State) (t : Nat) (m : Master) (p : Channel) (u : State),
    a = s.advance t ∧ State.core 1 a = true ∧ a.tbOn = true ∧ a.mayWrite m (0x20 + p.val / 24) (0x104 + 0x20 * (p.val % 24)) 0 1 = true ∧ u = a.charged m (0x20 + p.val / 24) (0x104 + 0x20 * (p.val % 24))) ∧
  (∃ (s a : State) (t : Nat) (p : Channel) (x : Fin 9) (i : Fin 32),
    a = s.advance t ∧ State.core 1 a = true ∧ a.tbOn = true ∧ a.dead p = false ∧ x.val ≠ 0 ∧ a.rd (TILE_CH_CAPCFG_CAP0_SRC (p.val / 24) (p.val % 24)) = x.val ∧ a.capSees p 0 x i = true ∧ a.evCount p 3 < 3) ∧
  (∃ (s a : State) (t : Nat) (p : Channel) (x : Fin 9) (i : Fin 32),
    a = s.advance t ∧ State.core 1 a = true ∧ a.tbOn = true ∧ a.dead p = false ∧ x.val ≠ 0 ∧ a.rd (TILE_CH_CAPCFG_CAP1_SRC (p.val / 24) (p.val % 24)) = x.val ∧ a.capSees p 1 x i = true ∧ a.evCount p 4 < 3) ∧
  (∃ (s a : State) (t : Nat) (g : Fin 16),
    a = s.advance t ∧ State.core 1 a = true ∧ a.tbOn = true ∧ a.softRuns g = true ∧ (∀ e ∈ a.out.soft, e.1 = g.val → e.2.2 + a.softT ≤ a.tb)) :=
  ⟨⟨upc.touch (pageAddr 0x20 0x164), (upc.touch (pageAddr 0x20 0x164)).advance 5000, 5000, 3, 3, 77, by decide +kernel⟩,
   ⟨upc, (upc).advance 5000, 5000, 3, 3, 77, by decide +kernel⟩,
   ⟨upc, (upc).advance 5000, 5000, 3, 3, (upc.advance 5000).charged 3 0x20 0x164, none, by decide +kernel⟩,
   ⟨upc, (upc).advance 5000, 5000, 3, 3, (upc.advance 5000).charged 3 0x20 0x164, none, by decide +kernel⟩,
   ⟨upc.wr (TILE_CH_CFG_FUNC 0 3) 0x40, (upc.wr (TILE_CH_CFG_FUNC 0 3) 0x40).advance 5000, 5000, 3, 3, ((upc.wr (TILE_CH_CFG_FUNC 0 3) 0x40).advance 5000).charged 3 0x20 0x164, by decide +kernel⟩,
   ⟨upc.wr (TILE_CH_CTRL_EN 0 3) 1, (upc.wr (TILE_CH_CTRL_EN 0 3) 1).advance 5000, 5000, 3, 3, ((upc.wr (TILE_CH_CTRL_EN 0 3) 1).advance 5000).charged 3 0x20 0x164, by decide +kernel⟩,
   ⟨upc.wr (TILE_CH_CAPCFG_CAP0_SRC 0 3) 2, (upc.wr (TILE_CH_CAPCFG_CAP0_SRC 0 3) 2).advance 5000, 5000, 3, 2, 0, by decide +kernel⟩,
   ⟨upc.wr (TILE_CH_CAPCFG_CAP1_SRC 0 3) 2, (upc.wr (TILE_CH_CAPCFG_CAP1_SRC 0 3) 2).advance 5000, 5000, 3, 2, 0, by decide +kernel⟩,
   ⟨{ upc with out := { soft := [(2, 3, 100)] } }, ({ upc with out := { soft := [(2, 3, 100)] } }).advance 10000000, 10000000, 2, by decide +kernel⟩⟩

/-- States and operands that meet every hypothesis of each clause of MatchFires. -/
theorem witness_MatchFires :
  (∃ (s a : State) (t : Nat) (p : Channel),
    a = s.advance t ∧ State.tbd 1 a = true ∧ a.dead p = false ∧ (a.chan p).pipe = none ∧ (a.chan p).act = none ∧ (a.chan p).mtArm = true ∧ (a.chan p).mtFrom ≤ a.tb ∧ (a.chan p).mtT ≤ a.tb + a.mtLead p ∧ a.maDue p = false ∧ (a.chan p).mtPassed = false) ∧
  (∃ (s a : State) (t : Nat) (p : Channel),
    a = s.advance t ∧ State.tbd 1 a = true ∧ a.dead p = false ∧ (a.chan p).pipe = none ∧ (a.chan p).act = none ∧ (a.chan p).mtArm = true ∧ (a.chan p).mtFrom ≤ a.tb ∧ (a.chan p).mtT ≤ a.tb + a.mtLead p ∧ a.maDue p = false ∧ (a.chan p).mtPassed = true) ∧
  (∃ (s a : State) (t : Nat) (p : Channel),
    a = s.advance t ∧ State.tbd 1 a = true ∧ a.dead p = false ∧ (a.chan p).pipe = none ∧ (a.chan p).act = none ∧ (a.chan p).maArm = true ∧ (a.chan p).maFrom ≤ a.tb ∧ (a.chan p).maCpl = false ∧ a.ang.valid = true ∧ a.anglePassed (a.chan p).maA = true ∧ (a.chan p).maPassed = false) ∧
  (∃ (s a : State) (t : Nat) (p : Channel),
    a = s.advance t ∧ State.tbd 1 a = true ∧ a.dead p = false ∧ (a.chan p).pipe = none ∧ (a.chan p).act = none ∧ (a.chan p).maArm = true ∧ (a.chan p).maFrom ≤ a.tb ∧ (a.chan p).maCpl = false ∧ a.ang.valid = true ∧ a.anglePassed (a.chan p).maA = true ∧ (a.chan p).maPassed = true) ∧
  (∃ (s a : State) (t : Nat) (p : Channel) (f : Nat),
    a = s.advance t ∧ State.tbd 1 a = true ∧ a.dead p = false ∧ (a.chan p).pipe = none ∧ (a.chan p).act = none ∧ (a.chan p).maArm = true ∧ (a.chan p).maFrom ≤ a.tb ∧ (a.chan p).maCpl = true ∧ a.fixTime (a.chan p).maA = some f ∧ a.mayFire (a.chan p).maA f (a.mtLead p) = true ∧ (a.chan p).maPassed = false) ∧
  (∃ (s a : State) (t : Nat) (p : Channel) (f : Nat),
    a = s.advance t ∧ State.tbd 1 a = true ∧ a.dead p = false ∧ (a.chan p).pipe = none ∧ (a.chan p).act = none ∧ (a.chan p).maArm = true ∧ (a.chan p).maFrom ≤ a.tb ∧ (a.chan p).maCpl = true ∧ a.fixTime (a.chan p).maA = some f ∧ a.mayFire (a.chan p).maA f (a.mtLead p) = true ∧ (a.chan p).maPassed = true) :=
  ⟨⟨{ upc with chans := [(3, { mtArm := true, mtT := 4000, mtAct := 1 })] }, ({ upc with chans := [(3, { mtArm := true, mtT := 4000, mtAct := 1 })] }).advance 5000, 5000, 3, by decide +kernel⟩,
   ⟨{ upc with chans := [(3, { mtArm := true, mtT := 4000, mtAct := 1, mtPassed := true })] }, ({ upc with chans := [(3, { mtArm := true, mtT := 4000, mtAct := 1, mtPassed := true })] }).advance 5000, 5000, 3, by decide +kernel⟩,
   ⟨{ (upe 0 0 0 255) with chans := [(3, { maArm := true, maA := 0, maAct := 2, env := true })] }, ({ (upe 0 0 0 255) with chans := [(3, { maArm := true, maA := 0, maAct := 2, env := true })] }).advance 5000, 5000, 3, by decide +kernel⟩,
   ⟨{ (upe 0 0 0 255) with chans := [(3, { maArm := true, maA := 0, maAct := 2, env := true, maPassed := true })] }, ({ (upe 0 0 0 255) with chans := [(3, { maArm := true, maA := 0, maAct := 2, env := true, maPassed := true })] }).advance 5000, 5000, 3, by decide +kernel⟩,
   ⟨{ (upe 0 0 0 255) with chans := [(3, { maArm := true, maCpl := true, maA := 10, maAct := 2, env := true })] }, ({ (upe 0 0 0 255) with chans := [(3, { maArm := true, maCpl := true, maA := 10, maAct := 2, env := true })] }).advance 5000, 5000, 3, 80000, by decide +kernel⟩,
   ⟨{ (upe 0 0 0 255) with chans := [(3, { maArm := true, maCpl := true, maA := 10, maAct := 2, env := true, maPassed := true })] }, ({ (upe 0 0 0 255) with chans := [(3, { maArm := true, maCpl := true, maA := 10, maAct := 2, env := true, maPassed := true })] }).advance 5000, 5000, 3, 80000, by decide +kernel⟩⟩

/-- States and operands that meet every hypothesis of each clause of ArmAndPermit. -/
theorem witness_ArmAndPermit :
  (∃ (s a : State) (t : Nat) (m : Master) (key : BitVec 8) (u : State),
    a = s.advance t ∧ State.core 1 a = true ∧ a.tbOn = true ∧ a.mayWrite m 0x38 0x40 (key.toNat * 2 ^ 24 + 1) 0xFFFFFFFF = true ∧ u = a.charged m 0x38 0x40 ∧ u.rd OUT_ARM_STAT_STATE = 0 ∧ u.on OUT_ARM_STAT_PENDING = false ∧ u.armCheck key.toNat = none) ∧
  (∃ (s a : State) (t : Nat) (m : Master) (key : BitVec 8) (u : State) (r d : Nat),
    a = s.advance t ∧ State.core 1 a = true ∧ a.tbOn = true ∧ a.mayWrite m 0x38 0x40 (key.toNat * 2 ^ 24 + 1) 0xFFFFFFFF = true ∧ u = a.charged m 0x38 0x40 ∧ u.rd OUT_ARM_STAT_STATE ≠ 1 ∧ u.on OUT_ARM_STAT_PENDING = false ∧ u.armCheck key.toNat = some (r, d)) ∧
  (∃ (s a : State) (t : Nat) (m : Master) (key : BitVec 8),
    a = s.advance t ∧ State.core 1 a = true ∧ a.tbOn = true ∧ a.mayWrite m 0x38 0x40 (key.toNat * 2 ^ 24 + 2) 0xFFFFFFFF = true ∧ a.rd OUT_ARM_STAT_STATE = 1) ∧
  (∃ (s a : State) (t : Nat),
    a = s.advance t ∧ State.core 1 a = true ∧ a.tbOn = true ∧ a.tb % 2000 = 0 ∧ a.armed = true ∧ a.tb ≤ a.out.dpBAt + 6000) ∧
  (∃ (s a : State) (t : Nat),
    a = s.advance t ∧ State.core 1 a = true ∧ a.tbOn = true ∧ a.tb % 2000 = 0 ∧ ((a.armed = false ∨ a.out.dpBAt + 6000 < a.tb))) ∧
  (∃ (s a : State) (t : Nat),
    a = s.advance t ∧ State.core 1 a = true ∧ a.tbOn = true ∧ a.armed = true ∧ a.tb ≤ a.out.dpAAt + 6000) ∧
  (∃ (s a : State) (t : Nat),
    a = s.advance t ∧ State.core 1 a = true ∧ a.tbOn = true ∧ ((a.armed = false ∨ a.out.dpAAt + 6000 < a.tb))) :=
  ⟨⟨uph, (uph).advance 6000, 6000, 3, 0xC3, (uph.advance 6000).charged 3 0x38 0x40, by decide +kernel⟩,
   ⟨upc, (upc).advance 6000, 6000, 3, 0xC3, (upc.advance 6000).charged 3 0x38 0x40, 1, 0, by decide +kernel⟩,
   ⟨uph.wr OUT_ARM_STAT_STATE 1, (uph.wr OUT_ARM_STAT_STATE 1).advance 6000, 6000, 3, 0xC3, by decide +kernel⟩,
   ⟨uph.wr OUT_ARM_STAT_STATE 1, (uph.wr OUT_ARM_STAT_STATE 1).advance 6000, 6000, by decide +kernel⟩,
   ⟨uph, (uph).advance 6000, 6000, by decide +kernel⟩,
   ⟨uph.wr OUT_ARM_STAT_STATE 1, (uph.wr OUT_ARM_STAT_STATE 1).advance 6000, 6000, by decide +kernel⟩,
   ⟨uph, (uph).advance 6000, 6000, by decide +kernel⟩⟩

/-- States and operands that meet every hypothesis of each clause of BankSlots. -/
theorem witness_BankSlots :
  (∃ (s a : State) (t : Nat) (k : Bank) (m : Master) (u : State),
    a = s.advance t ∧ State.core 1 a = true ∧ a.tbOn = true ∧ a.mayWrite m (0x40 + k) 8 1 1 = true ∧ u = a.charged m (0x40 + k) 8 ∧ u.bankOn k = false ∧ u.bankCheck k = none) ∧
  (∃ (s a : State) (t : Nat) (k : Bank) (m : Master) (u : State) (f : BankFail),
    a = s.advance t ∧ State.core 1 a = true ∧ a.tbOn = true ∧ a.mayWrite m (0x40 + k) 8 1 1 = true ∧ u = a.charged m (0x40 + k) 8 ∧ u.bankOn k = false ∧ u.bankCheck k = some f) ∧
  (∃ (s a : State) (t : Nat) (k : Bank) (i : Slot),
    a = s.advance t ∧ State.core 1 a = true ∧ a.tbOn = true ∧ a.bankOn k = true ∧ a.slotEn k i = true ∧ (a.slot k i).cmd = false ∧ a.command (a.attach k i) = true ∧ a.pageCrimson (0x40 + k) = false ∧ a.on (BANK_SLOT_STAT_LOCK k i) = false ∧ a.slotRuns k (1 - i) = false ∧ ¬ (i.val = 1 ∧ a.slotEn k 0 = true ∧ (a.slot k 0).cmd = false ∧ a.command (a.attach k 0) = true) ∧ ((a.on (BANK_BANK_CFG_WIN_EN k) = false ∨ a.inWindow k i = true)) ∧ (a.slot k i).qHold = none ∧ a.on (BANK_THR_Q_BOOST_EN k i) = true) ∧
  (∃ (s a : State) (t : Nat) (k : Bank) (i : Slot),
    a = s.advance t ∧ State.core 1 a = true ∧ a.tbOn = true ∧ a.bankOn k = true ∧ a.slotEn k i = true ∧ (a.slot k i).cmd = false ∧ a.command (a.attach k i) = true ∧ a.pageCrimson (0x40 + k) = false ∧ a.on (BANK_SLOT_STAT_LOCK k i) = false ∧ a.slotRuns k (1 - i) = false ∧ ¬ (i.val = 1 ∧ a.slotEn k 0 = true ∧ (a.slot k 0).cmd = false ∧ a.command (a.attach k 0) = true) ∧ ((a.on (BANK_BANK_CFG_WIN_EN k) = false ∨ a.inWindow k i = true)) ∧ (a.slot k i).qHold = none ∧ a.on (BANK_THR_Q_BOOST_EN k i) = false) ∧
  (∃ (s a : State) (t : Nat) (k : Bank) (i : Slot),
    a = s.advance t ∧ State.core 1 a = true ∧ a.tbOn = true ∧ a.bankOn k = true ∧ a.slotEn k i = true ∧ (a.slot k i).cmd = false ∧ a.command (a.attach k i) = true ∧ ((a.pageCrimson (0x40 + k) = true ∨ a.on (BANK_SLOT_STAT_LOCK k i) = true))) ∧
  (∃ (s a : State) (t : Nat) (k : Bank) (i : Slot),
    a = s.advance t ∧ State.core 1 a = true ∧ a.tbOn = true ∧ a.bankOn k = true ∧ a.slotEn k i = true ∧ (a.slot k i).cmd = false ∧ a.command (a.attach k i) = true ∧ a.pageCrimson (0x40 + k) = false ∧ a.on (BANK_SLOT_STAT_LOCK k i) = false ∧ ((a.slotRuns k (1 - i) = true ∨ (i.val = 1 ∧ a.slotEn k 0 = true ∧ (a.slot k 0).cmd = false ∧ a.command (a.attach k 0) = true)))) ∧
  (∃ (s a : State) (t : Nat) (k : Bank) (i : Slot),
    a = s.advance t ∧ State.core 1 a = true ∧ a.tbOn = true ∧ (a.slot k i).cmd = true ∧ a.command (a.attach k i) = false ∧ a.slotRuns k i = true) ∧
  (∃ (s a : State) (t : Nat) (k : Bank) (i : Slot) (u : State),
    a = s.advance t ∧ State.core 1 a = true ∧ a.tbOn = true ∧ a.domOn 2 = true ∧ a.bankOwner k = some i ∧ u = a.cmpLevel (2 * k) true ∧ (u.cmp (2 * k)).lvl = true ∧ u.bankSees k false = true ∧ u.bankOwner k = some i ∧ u.tb = a.tb ∧ u.slots = a.slots ∧ u.phase k i = 1 ∧ (((u.slot k i).fromOff = false ∨ 40 * u.rd (BANK_T_BOOST_T_BOOST_MIN k i) ≤ u.tb - (u.slot k i).since))) ∧
  (∃ (s a : State) (t : Nat) (k : Bank) (i : Slot) (u : State),
    a = s.advance t ∧ State.core 1 a = true ∧ a.tbOn = true ∧ a.domOn 2 = true ∧ a.bankOwner k = some i ∧ u = a.cmpLevel (2 * k) true ∧ (u.cmp (2 * k)).lvl = true ∧ u.bankSees k false = true ∧ u.bankOwner k = some i ∧ u.tb = a.tb ∧ u.slots = a.slots ∧ u.phase k i = 1 ∧ (u.slot k i).fromOff = true ∧ u.tb - (u.slot k i).since < 40 * u.rd (BANK_T_BOOST_T_BOOST_MIN k i)) ∧
  (∃ (s a : State) (t : Nat) (k : Bank) (i : Slot) (u : State) (o : Nat),
    a = s.advance t ∧ State.core 1 a = true ∧ a.tbOn = true ∧ a.domOn 2 = true ∧ a.bankOwner k = some i ∧ u = a.cmpLevel (2 * k) true ∧ (u.cmp (2 * k)).lvl = true ∧ u.bankSees k false = true ∧ u.bankOwner k = some i ∧ u.tb = a.tb ∧ u.slots = a.slots ∧ ((u.phase k i = 2 ∨ u.phase k i = 3)) ∧ u.hssAt k = some o ∧ (u.slot k i).hss = true ∧ o + 4 * u.rd (BANK_BANK_CFG_BLANK k) ≤ u.tb) ∧
  (∃ (s a : State) (t : Nat) (k : Bank) (i : Slot) (u : State),
    a = s.advance t ∧ State.core 1 a = true ∧ a.tbOn = true ∧ a.domOn 2 = true ∧ u = a.cmpLevel (2 * k + 1) false ∧ (u.cmp (2 * k + 1)).lvl = false ∧ u.bankSees k true = true ∧ u.bankOwner k = some i ∧ u.tb = a.tb ∧ u.phase k i = 2 ∧ (u.slot k i).hss = false ∧ u.hssAt k = none) ∧
  (∃ (s a : State) (t : Nat) (k : Bank) (i : Slot) (u : State),
    a = s.advance t ∧ State.core 1 a = true ∧ a.tbOn = true ∧ a.domOn 2 = true ∧ u = a.cmpLevel (2 * k + 1) false ∧ (u.cmp (2 * k + 1)).lvl = false ∧ u.bankSees k true = true ∧ u.bankOwner k = some i ∧ u.tb = a.tb ∧ u.phase k i = 4) ∧
  (∃ (s a : State) (t : Nat) (k : Bank) (i : Slot),
    a = s.advance t ∧ State.core 1 a = true ∧ a.tbOn = true ∧ a.phase k i = 2 ∧ (a.slot k i).since + 40 * a.rd (BANK_T_PHASE_T_PEAK k i) ≤ a.tb) ∧
  (∃ (s a : State) (t : Nat) (k : Bank) (i : Slot),
    a = s.advance t ∧ State.core 1 a = true ∧ a.tbOn = true ∧ a.phase k i = 1 ∧ (a.slot k i).since + 40 * a.rd (BANK_T_BOOST_T_BOOST_MAX k i) ≤ a.tb) ∧
  (∃ (s a : State) (t : Nat) (k : Bank) (i : Slot),
    a = s.advance t ∧ State.core 1 a = true ∧ a.tbOn = true ∧ a.phase k i = 4 ∧ (a.slot k i).since + 40 * a.rd (BANK_T_PHASE_T_QMAX k i) ≤ a.tb) ∧
  (∃ (s a : State) (t : Nat) (k : Bank) (i : Slot) (o : Nat),
    a = s.advance t ∧ State.core 1 a = true ∧ a.tbOn = true ∧ a.bankOwner k = some i.val ∧ (a.slot k i).delayed = true ∧ (a.slot k i).chop = true ∧ a.bankBLow k = true ∧ a.hssAt k = some o ∧ o + 4 * max 1000 (a.rd (BANK_BANK_CFG_TPER_MIN k)) ≤ a.tb) ∧
  (∃ (s a : State) (t : Nat) (k : Bank) (i : Slot) (o : Nat),
    a = s.advance t ∧ State.core 1 a = true ∧ a.tbOn = true ∧ a.bankOwner k = some i.val ∧ (a.slot k i).delayed = true ∧ a.bankBLow k = false ∧ a.hssAt k = some o ∧ o + 4 * max 1000 (a.rd (BANK_BANK_CFG_TPER_MIN k)) ≤ a.tb) ∧
  (∃ (s a : State) (t : Nat) (k : Bank) (i : Slot),
    a = s.advance t ∧ State.core 1 a = true ∧ a.tbOn = true ∧ a.bankOn k = true ∧ a.slotEn k i = true ∧ (a.slot k i).cmd = false ∧ a.command (a.attach k i) = true ∧ a.pageCrimson (0x40 + k) = false ∧ a.on (BANK_SLOT_STAT_LOCK k i) = false ∧ a.slotRuns k (1 - i) = false ∧ ¬ (i.val = 1 ∧ a.slotEn k 0 = true ∧ (a.slot k 0).cmd = false ∧ a.command (a.attach k 0) = true) ∧ a.on (BANK_BANK_CFG_WIN_EN k) = true ∧ a.inWindow k i = false) ∧
  (∃ (s a : State) (t : Nat) (k : Bank) (m : Master) (i : Slot),
    a = s.advance t ∧ State.core 1 a = true ∧ a.tbOn = true ∧ a.mayWrite m (0x40 + k) (BANK_SLOT_STAT_LOCK k i).off 0x100 0x100 = true ∧ tget 0 a.hot (BANK_SLOT_STAT_LOCK k i).key = 0) ∧
  (∃ (s a : State) (t : Nat) (k : Bank) (m : Master) (i : Slot),
    a = s.advance t ∧ State.core 1 a = true ∧ a.tbOn = true ∧ a.mayWrite m (0x40 + k) (BANK_SLOT_STAT_LOCK k i).off 0x100 0x100 = true ∧ tget 0 a.hot (BANK_SLOT_STAT_LOCK k i).key = 0) ∧
  (∃ (s a : State) (t : Nat) (k : Bank) (i : Slot) (o : Nat),
    a = s.advance t ∧ State.core 1 a = true ∧ a.tbOn = true ∧ (a.cmp (2 * k)).lvl = true ∧ a.bankSees k false = true ∧ a.bankOwner k = some i.val ∧ ((a.phase k i = 2 ∨ a.phase k i = 3)) ∧ (a.slot k i).hss = true ∧ a.hssAt k = some o ∧ o + 4 * a.rd (BANK_BANK_CFG_BLANK k) ≤ a.tb) ∧
  (∃ (s a : State) (t : Nat) (k : Bank) (i : Slot),
    a = s.advance t ∧ State.core 1 a = true ∧ a.tbOn = true ∧ a.bankSees k true = true ∧ (a.cmp (2 * k + 1)).lvl = false ∧ a.bankOwner k = some i.val ∧ a.phase k i = 4) ∧
  (∃ (s a : State) (t : Nat) (k : Bank) (i : Slot) (o : Nat),
    a = s.advance t ∧ State.core 1 a = true ∧ a.tbOn = true ∧ (a.cmp (2 * k)).lvl = true ∧ a.bankSees k false = true ∧ a.bankOwner k = some i.val ∧ ((a.phase k i = 2 ∨ a.phase k i = 3)) ∧ (a.slot k i).hss = true ∧ a.hssAt k = some o ∧ o + 4 * a.rd (BANK_BANK_CFG_BLANK k) ≤ a.tb) :=
  ⟨⟨(upb 0).wr (PG_CTRL_EN 0x42) 0, ((upb 0).wr (PG_CTRL_EN 0x42) 0).advance 5000, 5000, 2, 3, (((upb 0).wr (PG_CTRL_EN 0x42) 0).advance 5000).charged 3 0x42 8, by decide +kernel⟩,
   ⟨upc.wr (BANK_BANK_CFG_SLOT_EN 2) 1, (upc.wr (BANK_BANK_CFG_SLOT_EN 2) 1).advance 5000, 5000, 2, 3, ((upc.wr (BANK_BANK_CFG_SLOT_EN 2) 1).advance 5000).charged 3 0x42 8, (((upc.wr (BANK_BANK_CFG_SLOT_EN 2) 1).advance 5000).bankCheck 2).getD { code := 9 }, by decide +kernel⟩,
   ⟨(upb 0).wr (BANK_THR_Q_BOOST_EN 2 0) 1, ((upb 0).wr (BANK_THR_Q_BOOST_EN 2 0) 1).advance 5000, 5000, 2, 0, by decide +kernel⟩,
   ⟨upb 0, (upb 0).advance 5000, 5000, 2, 0, by decide +kernel⟩,
   ⟨(upb 0).wr (BANK_SLOT_STAT_LOCK 2 0) 1, ((upb 0).wr (BANK_SLOT_STAT_LOCK 2 0) 1).advance 5000, 5000, 2, 0, by decide +kernel⟩,
   ⟨((upb 0).wr (BANK_BANK_CFG_SLOT_EN 2) 3).wr (BANK_SLOT_STAT_PHASE 2 1) 3, (((upb 0).wr (BANK_BANK_CFG_SLOT_EN 2) 3).wr (BANK_SLOT_STAT_PHASE 2 1) 3).advance 5000, 5000, 2, 0, by decide +kernel⟩,
   ⟨(upb 3).setSlot 2 0 { cmd := true } |>.setChan 0 {}, ((upb 3).setSlot 2 0 { cmd := true } |>.setChan 0 {}).advance 5000, 5000, 2, 0, by decide +kernel⟩,
   ⟨upb 1, (upb 1).advance 5000, 5000, 2, 0, ((upb 1).advance 5000).cmpLevel 4 true, by decide +kernel⟩,
   ⟨((upb 1).setSlot 2 0 { fromOff := true, since := 4990 }).wr (BANK_T_BOOST_T_BOOST_MIN 2 0) 5, (((upb 1).setSlot 2 0 { fromOff := true, since := 4990 }).wr (BANK_T_BOOST_T_BOOST_MIN 2 0) 5).advance 5000, 5000, 2, 0, ((((upb 1).setSlot 2 0 { fromOff := true, since := 4990 }).wr (BANK_T_BOOST_T_BOOST_MIN 2 0) 5).advance 5000).cmpLevel 4 true, by decide +kernel⟩,
   ⟨(upb 2).setSlot 2 0 { hss := true, onAt := some 100 }, ((upb 2).setSlot 2 0 { hss := true, onAt := some 100 }).advance 5000, 5000, 2, 0, (((upb 2).setSlot 2 0 { hss := true, onAt := some 100 }).advance 5000).cmpLevel 4 true, 100, by decide +kernel⟩,
   ⟨upb 2, (upb 2).advance 5000, 5000, 2, 0, ((upb 2).advance 5000).cmpLevel 5 false, by decide +kernel⟩,
   ⟨upb 4, (upb 4).advance 5000, 5000, 2, 0, ((upb 4).advance 5000).cmpLevel 5 false, by decide +kernel⟩,
   ⟨upb 2, (upb 2).advance 5000, 5000, 2, 0, by decide +kernel⟩,
   ⟨upb 1, (upb 1).advance 5000, 5000, 2, 0, by decide +kernel⟩,
   ⟨upb 4, (upb 4).advance 5000, 5000, 2, 0, by decide +kernel⟩,
   ⟨(upb 3).setSlot 2 0 { delayed := true, chop := true, onAt := some 100 }, ((upb 3).setSlot 2 0 { delayed := true, chop := true, onAt := some 100 }).advance 5000, 5000, 2, 0, 100, by decide +kernel⟩,
   ⟨((upb 3).setSlot 2 0 { delayed := true, onAt := some 100 }).setCmp 5 { lvl := true }, (((upb 3).setSlot 2 0 { delayed := true, onAt := some 100 }).setCmp 5 { lvl := true }).advance 5000, 5000, 2, 0, 100, by decide +kernel⟩,
   ⟨(upb 0).wr (BANK_BANK_CFG_WIN_EN 2) 1, ((upb 0).wr (BANK_BANK_CFG_WIN_EN 2) 1).advance 5000, 5000, 2, 0, by decide +kernel⟩,
   ⟨(upb 0).wr (BANK_SLOT_STAT_LOCK 2 0) 1, ((upb 0).wr (BANK_SLOT_STAT_LOCK 2 0) 1).advance 5000, 5000, 2, 3, 0, by decide +kernel⟩,
   ⟨(upb 0).wr (BANK_SLOT_STAT_LOCK 2 0) 1, ((upb 0).wr (BANK_SLOT_STAT_LOCK 2 0) 1).advance 5000, 5000, 2, 3, 0, by decide +kernel⟩,
   ⟨((upb 3).setSlot 2 0 { hss := true, onAt := some 100 }).setCmp 4 { lvl := true }, (((upb 3).setSlot 2 0 { hss := true, onAt := some 100 }).setCmp 4 { lvl := true }).advance 5000, 5000, 2, 0, 100, by decide +kernel⟩,
   ⟨upb 4, (upb 4).advance 5000, 5000, 2, 0, by decide +kernel⟩,
   ⟨((upb 3).setSlot 2 0 { hss := true, onAt := some 100 }).setCmp 4 { lvl := true }, (((upb 3).setSlot 2 0 { hss := true, onAt := some 100 }).setCmp 4 { lvl := true }).advance 5000, 5000, 2, 0, 100, by decide +kernel⟩⟩

/-- States and operands that meet every hypothesis of each clause of EngineArithmetic. -/
theorem witness_EngineArithmetic :
  (∃ (s a : State) (t : Nat) (g : Engine) (w : Nat) (x : GelS),
    a = s.advance t ∧ gelOk g a = true ∧ a.rd (GEL_GEL_STAT_STATE g) = 2 ∧ a.gelReady g = true ∧ a.atBkpt g = false ∧ a.badFetch g = none ∧ a.fetchBad g = none ∧ w = a.gelWord g ∧ x = a.eng g ∧ a.overLimit g (opcCycles (iOpc w) + a.stalledFor g) (opcCycles (iOpc w)) = none ∧ iOpc w = 0x00) ∧
  (∃ (s a : State) (t : Nat) (g : Engine) (w : Nat) (x : GelS),
    a = s.advance t ∧ gelOk g a = true ∧ a.rd (GEL_GEL_STAT_STATE g) = 2 ∧ a.gelReady g = true ∧ a.atBkpt g = false ∧ a.badFetch g = none ∧ a.fetchBad g = none ∧ w = a.gelWord g ∧ x = a.eng g ∧ a.overLimit g (opcCycles (iOpc w) + a.stalledFor g) (opcCycles (iOpc w)) = none ∧ iOpc w = 0x01) ∧
  (∃ (s a : State) (t : Nat) (g : Engine) (w : Nat) (x : GelS),
    a = s.advance t ∧ gelOk g a = true ∧ a.rd (GEL_GEL_STAT_STATE g) = 2 ∧ a.gelReady g = true ∧ a.atBkpt g = false ∧ a.badFetch g = none ∧ a.fetchBad g = none ∧ w = a.gelWord g ∧ x = a.eng g ∧ a.overLimit g (opcCycles (iOpc w) + a.stalledFor g) (opcCycles (iOpc w)) = none ∧ iOpc w = 0x0c) ∧
  (∃ (s a : State) (t : Nat) (g : Engine) (w : Nat) (x : GelS),
    a = s.advance t ∧ gelOk g a = true ∧ a.rd (GEL_GEL_STAT_STATE g) = 2 ∧ a.gelReady g = true ∧ a.atBkpt g = false ∧ a.badFetch g = none ∧ a.fetchBad g = none ∧ w = a.gelWord g ∧ x = a.eng g ∧ a.overLimit g (opcCycles (iOpc w) + a.stalledFor g) (opcCycles (iOpc w)) = none ∧ iOpc w = 0x02) ∧
  (∃ (s a : State) (t : Nat) (g : Engine) (w : Nat) (x : GelS),
    a = s.advance t ∧ gelOk g a = true ∧ a.rd (GEL_GEL_STAT_STATE g) = 2 ∧ a.gelReady g = true ∧ a.atBkpt g = false ∧ a.badFetch g = none ∧ a.fetchBad g = none ∧ w = a.gelWord g ∧ x = a.eng g ∧ a.overLimit g (opcCycles (iOpc w) + a.stalledFor g) (opcCycles (iOpc w)) = none ∧ iOpc w = 0x03) ∧
  (∃ (s a : State) (t : Nat) (g : Engine) (w : Nat) (x : GelS),
    a = s.advance t ∧ gelOk g a = true ∧ a.rd (GEL_GEL_STAT_STATE g) = 2 ∧ a.gelReady g = true ∧ a.atBkpt g = false ∧ a.badFetch g = none ∧ a.fetchBad g = none ∧ w = a.gelWord g ∧ x = a.eng g ∧ a.overLimit g (opcCycles (iOpc w) + a.stalledFor g) (opcCycles (iOpc w)) = none ∧ iOpc w = 0x04) ∧
  (∃ (s a : State) (t : Nat) (g : Engine) (w : Nat) (x : GelS),
    a = s.advance t ∧ gelOk g a = true ∧ a.rd (GEL_GEL_STAT_STATE g) = 2 ∧ a.gelReady g = true ∧ a.atBkpt g = false ∧ a.badFetch g = none ∧ a.fetchBad g = none ∧ w = a.gelWord g ∧ x = a.eng g ∧ a.overLimit g (opcCycles (iOpc w) + a.stalledFor g) (opcCycles (iOpc w)) = none ∧ iOpc w = 0x05) ∧
  (∃ (s a : State) (t : Nat) (g : Engine) (w : Nat) (x : GelS),
    a = s.advance t ∧ gelOk g a = true ∧ a.rd (GEL_GEL_STAT_STATE g) = 2 ∧ a.gelReady g = true ∧ a.atBkpt g = false ∧ a.badFetch g = none ∧ a.fetchBad g = none ∧ w = a.gelWord g ∧ x = a.eng g ∧ a.overLimit g (opcCycles (iOpc w) + a.stalledFor g) (opcCycles (iOpc w)) = none ∧ iOpc w = 0x06) ∧
  (∃ (s a : State) (t : Nat) (g : Engine) (w : Nat) (x : GelS),
    a = s.advance t ∧ gelOk g a = true ∧ a.rd (GEL_GEL_STAT_STATE g) = 2 ∧ a.gelReady g = true ∧ a.atBkpt g = false ∧ a.badFetch g = none ∧ a.fetchBad g = none ∧ w = a.gelWord g ∧ x = a.eng g ∧ a.overLimit g (opcCycles (iOpc w) + a.stalledFor g) (opcCycles (iOpc w)) = none ∧ iOpc w = 0x07) ∧
  (∃ (s a : State) (t : Nat) (g : Engine) (w : Nat) (x : GelS),
    a = s.advance t ∧ gelOk g a = true ∧ a.rd (GEL_GEL_STAT_STATE g) = 2 ∧ a.gelReady g = true ∧ a.atBkpt g = false ∧ a.badFetch g = none ∧ a.fetchBad g = none ∧ w = a.gelWord g ∧ x = a.eng g ∧ a.overLimit g (opcCycles (iOpc w) + a.stalledFor g) (opcCycles (iOpc w)) = none ∧ iOpc w = 0x08) ∧
  (∃ (s a : State) (t : Nat) (g : Engine) (w : Nat) (x : GelS),
    a = s.advance t ∧ gelOk g a = true ∧ a.rd (GEL_GEL_STAT_STATE g) = 2 ∧ a.gelReady g = true ∧ a.atBkpt g = false ∧ a.badFetch g = none ∧ a.fetchBad g = none ∧ w = a.gelWord g ∧ x = a.eng g ∧ a.overLimit g (opcCycles (iOpc w) + a.stalledFor g) (opcCycles (iOpc w)) = none ∧ iOpc w = 0x09) ∧
  (∃ (s a : State) (t : Nat) (g : Engine) (w : Nat) (x : GelS),
    a = s.advance t ∧ gelOk g a = true ∧ a.rd (GEL_GEL_STAT_STATE g) = 2 ∧ a.gelReady g = true ∧ a.atBkpt g = false ∧ a.badFetch g = none ∧ a.fetchBad g = none ∧ w = a.gelWord g ∧ x = a.eng g ∧ a.overLimit g (opcCycles (iOpc w) + a.stalledFor g) (opcCycles (iOpc w)) = none ∧ iOpc w = 0x0a) ∧
  (∃ (s a : State) (t : Nat) (g : Engine) (w : Nat) (x : GelS),
    a = s.advance t ∧ gelOk g a = true ∧ a.rd (GEL_GEL_STAT_STATE g) = 2 ∧ a.gelReady g = true ∧ a.atBkpt g = false ∧ a.badFetch g = none ∧ a.fetchBad g = none ∧ w = a.gelWord g ∧ x = a.eng g ∧ a.overLimit g (opcCycles (iOpc w) + a.stalledFor g) (opcCycles (iOpc w)) = none ∧ iOpc w = 0x0b) ∧
  (∃ (s a : State) (t : Nat) (g : Engine) (w : Nat) (x : GelS),
    a = s.advance t ∧ gelOk g a = true ∧ a.rd (GEL_GEL_STAT_STATE g) = 2 ∧ a.gelReady g = true ∧ a.atBkpt g = false ∧ a.badFetch g = none ∧ a.fetchBad g = none ∧ w = a.gelWord g ∧ x = a.eng g ∧ a.overLimit g (opcCycles (iOpc w) + a.stalledFor g) (opcCycles (iOpc w)) = none ∧ iOpc w = 0x0d) ∧
  (∃ (s a : State) (t : Nat) (g : Engine) (w : Nat) (x : GelS),
    a = s.advance t ∧ gelOk g a = true ∧ a.rd (GEL_GEL_STAT_STATE g) = 2 ∧ a.gelReady g = true ∧ a.atBkpt g = false ∧ a.badFetch g = none ∧ a.fetchBad g = none ∧ w = a.gelWord g ∧ x = a.eng g ∧ a.overLimit g (opcCycles (iOpc w) + a.stalledFor g) (opcCycles (iOpc w)) = none ∧ iOpc w = 0x0e) ∧
  (∃ (s a : State) (t : Nat) (g : Engine) (w : Nat) (x : GelS),
    a = s.advance t ∧ gelOk g a = true ∧ a.rd (GEL_GEL_STAT_STATE g) = 2 ∧ a.gelReady g = true ∧ a.atBkpt g = false ∧ a.badFetch g = none ∧ a.fetchBad g = none ∧ w = a.gelWord g ∧ x = a.eng g ∧ a.overLimit g (opcCycles (iOpc w) + a.stalledFor g) (opcCycles (iOpc w)) = none ∧ iOpc w = 0x0f) :=
  ⟨⟨upi 4563402752 { g := [3, 2147483653, 7, 1, 5, 6, 4096, 9] }, (upi 4563402752 { g := [3, 2147483653, 7, 1, 5, 6, 4096, 9] }).advance 5000, 5000, 0, 4563402752, { g := [3, 2147483653, 7, 1, 5, 6, 4096, 9], thread := true }, by decide +kernel⟩,
   ⟨upi 21743271936 { g := [3, 2147483653, 7, 1, 5, 6, 4096, 9] }, (upi 21743271936 { g := [3, 2147483653, 7, 1, 5, 6, 4096, 9] }).advance 5000, 5000, 0, 21743271936, { g := [3, 2147483653, 7, 1, 5, 6, 4096, 9], thread := true }, by decide +kernel⟩,
   ⟨upi 206426865664 { g := [3, 2147483653, 7, 1, 5, 6, 4096, 9] }, (upi 206426865664 { g := [3, 2147483653, 7, 1, 5, 6, 4096, 9] }).advance 5000, 5000, 0, 206426865664, { g := [3, 2147483653, 7, 1, 5, 6, 4096, 9], thread := true }, by decide +kernel⟩,
   ⟨upi 38973472768 { g := [3, 2147483653, 7, 1, 5, 6, 4096, 9] }, (upi 38973472768 { g := [3, 2147483653, 7, 1, 5, 6, 4096, 9] }).advance 5000, 5000, 0, 38973472768, { g := [3, 2147483653, 7, 1, 5, 6, 4096, 9], thread := true }, by decide +kernel⟩,
   ⟨upi 56153341952 { g := [3, 2147483653, 7, 1, 5, 6, 4096, 9] }, (upi 56153341952 { g := [3, 2147483653, 7, 1, 5, 6, 4096, 9] }).advance 5000, 5000, 0, 56153341952, { g := [3, 2147483653, 7, 1, 5, 6, 4096, 9], thread := true }, by decide +kernel⟩,
   ⟨upi 73333211136 { g := [3, 2147483653, 7, 1, 5, 6, 4096, 9] }, (upi 73333211136 { g := [3, 2147483653, 7, 1, 5, 6, 4096, 9] }).advance 5000, 5000, 0, 73333211136, { g := [3, 2147483653, 7, 1, 5, 6, 4096, 9], thread := true }, by decide +kernel⟩,
   ⟨upi 90513080320 { g := [3, 2147483653, 7, 1, 5, 6, 4096, 9] }, (upi 90513080320 { g := [3, 2147483653, 7, 1, 5, 6, 4096, 9] }).advance 5000, 5000, 0, 90513080320, { g := [3, 2147483653, 7, 1, 5, 6, 4096, 9], thread := true }, by decide +kernel⟩,
   ⟨upi 107692949504 { g := [3, 2147483653, 7, 1, 5, 6, 4096, 9] }, (upi 107692949504 { g := [3, 2147483653, 7, 1, 5, 6, 4096, 9] }).advance 5000, 5000, 0, 107692949504, { g := [3, 2147483653, 7, 1, 5, 6, 4096, 9], thread := true }, by decide +kernel⟩,
   ⟨upi 124872818688 { g := [3, 2147483653, 7, 1, 5, 6, 4096, 9] }, (upi 124872818688 { g := [3, 2147483653, 7, 1, 5, 6, 4096, 9] }).advance 5000, 5000, 0, 124872818688, { g := [3, 2147483653, 7, 1, 5, 6, 4096, 9], thread := true }, by decide +kernel⟩,
   ⟨upi 142052687872 { g := [3, 2147483653, 7, 1, 5, 6, 4096, 9] }, (upi 142052687872 { g := [3, 2147483653, 7, 1, 5, 6, 4096, 9] }).advance 5000, 5000, 0, 142052687872, { g := [3, 2147483653, 7, 1, 5, 6, 4096, 9], thread := true }, by decide +kernel⟩,
   ⟨upi 159232557056 { g := [3, 2147483653, 7, 1, 5, 6, 4096, 9] }, (upi 159232557056 { g := [3, 2147483653, 7, 1, 5, 6, 4096, 9] }).advance 5000, 5000, 0, 159232557056, { g := [3, 2147483653, 7, 1, 5, 6, 4096, 9], thread := true }, by decide +kernel⟩,
   ⟨upi 176412426240 { g := [3, 2147483653, 7, 1, 5, 6, 4096, 9] }, (upi 176412426240 { g := [3, 2147483653, 7, 1, 5, 6, 4096, 9] }).advance 5000, 5000, 0, 176412426240, { g := [3, 2147483653, 7, 1, 5, 6, 4096, 9], thread := true }, by decide +kernel⟩,
   ⟨upi 193592295424 { g := [3, 2147483653, 7, 1, 5, 6, 4096, 9] }, (upi 193592295424 { g := [3, 2147483653, 7, 1, 5, 6, 4096, 9] }).advance 5000, 5000, 0, 193592295424, { g := [3, 2147483653, 7, 1, 5, 6, 4096, 9], thread := true }, by decide +kernel⟩,
   ⟨upi 227784261630 { g := [3, 2147483653, 7, 1, 5, 6, 4096, 9] }, (upi 227784261630 { g := [3, 2147483653, 7, 1, 5, 6, 4096, 9] }).advance 5000, 5000, 0, 227784261630, { g := [3, 2147483653, 7, 1, 5, 6, 4096, 9], thread := true }, by decide +kernel⟩,
   ⟨upi 245131902976 { g := [3, 2147483653, 7, 1, 5, 6, 4096, 9] }, (upi 245131902976 { g := [3, 2147483653, 7, 1, 5, 6, 4096, 9] }).advance 5000, 5000, 0, 245131902976, { g := [3, 2147483653, 7, 1, 5, 6, 4096, 9], thread := true }, by decide +kernel⟩,
   ⟨upi 262127227444 { g := [3, 2147483653, 7, 1, 5, 6, 4096, 9] }, (upi 262127227444 { g := [3, 2147483653, 7, 1, 5, 6, 4096, 9] }).advance 5000, 5000, 0, 262127227444, { g := [3, 2147483653, 7, 1, 5, 6, 4096, 9], thread := true }, by decide +kernel⟩⟩

/-- States and operands that meet every hypothesis of each clause of EngineDataMoves. -/
theorem witness_EngineDataMoves :
  (∃ (s a : State) (t : Nat) (g : Engine) (w : Nat) (x : GelS) (p : Nat),
    a = s.advance t ∧ gelOk g a = true ∧ a.rd (GEL_GEL_STAT_STATE g) = 2 ∧ a.gelReady g = true ∧ a.atBkpt g = false ∧ a.badFetch g = none ∧ a.fetchBad g = none ∧ w = a.gelWord g ∧ x = a.eng g ∧ a.overLimit g (opcCycles (iOpc w) + a.stalledFor g) (opcCycles (iOpc w)) = none ∧ iOpc w = 0x10 ∧ a.thrPhys g = some p) ∧
  (∃ (s a : State) (t : Nat) (g : Engine) (w : Nat) (x : GelS) (p : Nat),
    a = s.advance t ∧ gelOk g a = true ∧ a.rd (GEL_GEL_STAT_STATE g) = 2 ∧ a.gelReady g = true ∧ a.atBkpt g = false ∧ a.badFetch g = none ∧ a.fetchBad g = none ∧ w = a.gelWord g ∧ x = a.eng g ∧ a.overLimit g (opcCycles (iOpc w) + a.stalledFor g) (opcCycles (iOpc w)) = none ∧ iOpc w = 0x11 ∧ a.thrPhys g = some p) ∧
  (∃ (s a : State) (t : Nat) (g : Engine) (w : Nat) (x : GelS),
    a = s.advance t ∧ gelOk g a = true ∧ a.rd (GEL_GEL_STAT_STATE g) = 2 ∧ a.gelReady g = true ∧ a.atBkpt g = false ∧ a.badFetch g = none ∧ a.fetchBad g = none ∧ w = a.gelWord g ∧ x = a.eng g ∧ a.overLimit g (opcCycles (iOpc w) + a.stalledFor g) (opcCycles (iOpc w)) = none ∧ iOpc w = 0x12) ∧
  (∃ (s a : State) (t : Nat) (g : Engine) (w : Nat) (x : GelS),
    a = s.advance t ∧ gelOk g a = true ∧ a.rd (GEL_GEL_STAT_STATE g) = 2 ∧ a.gelReady g = true ∧ a.atBkpt g = false ∧ a.badFetch g = none ∧ a.fetchBad g = none ∧ w = a.gelWord g ∧ x = a.eng g ∧ a.overLimit g (opcCycles (iOpc w) + a.stalledFor g) (opcCycles (iOpc w)) = none ∧ iOpc w = 0x13) ∧
  (∃ (s a : State) (t : Nat) (g : Engine) (w : Nat) (x : GelS),
    a = s.advance t ∧ gelOk g a = true ∧ a.rd (GEL_GEL_STAT_STATE g) = 2 ∧ a.gelReady g = true ∧ a.atBkpt g = false ∧ a.badFetch g = none ∧ a.fetchBad g = none ∧ w = a.gelWord g ∧ x = a.eng g ∧ a.overLimit g (opcCycles (iOpc w) + a.stalledFor g) (opcCycles (iOpc w)) = none ∧ iOpc w = 0x14 ∧ a.ang.valid = true ∧ a.ang.hasRec = true) ∧
  (∃ (s a : State) (t : Nat) (g : Engine) (w : Nat) (x : GelS),
    a = s.advance t ∧ gelOk g a = true ∧ a.rd (GEL_GEL_STAT_STATE g) = 2 ∧ a.gelReady g = true ∧ a.atBkpt g = false ∧ a.badFetch g = none ∧ a.fetchBad g = none ∧ w = a.gelWord g ∧ x = a.eng g ∧ a.overLimit g (opcCycles (iOpc w) + a.stalledFor g) (opcCycles (iOpc w)) = none ∧ iOpc w = 0x14 ∧ ((a.ang.valid = false ∨ a.ang.hasRec = false))) ∧
  (∃ (s a : State) (t : Nat) (g : Engine) (w : Nat) (x : GelS),
    a = s.advance t ∧ gelOk g a = true ∧ a.rd (GEL_GEL_STAT_STATE g) = 2 ∧ a.gelReady g = true ∧ a.atBkpt g = false ∧ a.badFetch g = none ∧ a.fetchBad g = none ∧ w = a.gelWord g ∧ x = a.eng g ∧ a.overLimit g (opcCycles (iOpc w) + a.stalledFor g) (opcCycles (iOpc w)) = none ∧ iOpc w = 0x15 ∧ a.ang.valid = true ∧ a.ang.hasRec = true) ∧
  (∃ (s a : State) (t : Nat) (g : Engine) (w : Nat) (x : GelS),
    a = s.advance t ∧ gelOk g a = true ∧ a.rd (GEL_GEL_STAT_STATE g) = 2 ∧ a.gelReady g = true ∧ a.atBkpt g = false ∧ a.badFetch g = none ∧ a.fetchBad g = none ∧ w = a.gelWord g ∧ x = a.eng g ∧ a.overLimit g (opcCycles (iOpc w) + a.stalledFor g) (opcCycles (iOpc w)) = none ∧ iOpc w = 0x15 ∧ ((a.ang.valid = false ∨ a.ang.hasRec = false))) ∧
  (∃ (s a : State) (t : Nat) (g : Engine) (w : Nat) (x : GelS),
    a = s.advance t ∧ gelOk g a = true ∧ a.rd (GEL_GEL_STAT_STATE g) = 2 ∧ a.gelReady g = true ∧ a.atBkpt g = false ∧ a.badFetch g = none ∧ a.fetchBad g = none ∧ w = a.gelWord g ∧ x = a.eng g ∧ a.overLimit g (opcCycles (iOpc w) + a.stalledFor g) (opcCycles (iOpc w)) = none ∧ iOpc w = 0x16 ∧ bit w 2 = false ∧ (tget [] x.outlet (bits w 0 2)).length < 8) ∧
  (∃ (s a : State) (t : Nat) (g : Engine) (w : Nat) (x : GelS),
    a = s.advance t ∧ gelOk g a = true ∧ a.rd (GEL_GEL_STAT_STATE g) = 2 ∧ a.gelReady g = true ∧ a.atBkpt g = false ∧ a.badFetch g = none ∧ a.fetchBad g = none ∧ w = a.gelWord g ∧ x = a.eng g ∧ a.overLimit g (opcCycles (iOpc w) + a.stalledFor g) (opcCycles (iOpc w)) = none ∧ iOpc w = 0x16 ∧ bit w 2 = true ∧ (tget [] x.outlet (bits w 0 2)).length < 8 ∧ a.on (GEL_QOUT_EN g (bits w 0 2)) = true) ∧
  (∃ (s a : State) (t : Nat) (g : Engine) (w : Nat) (x : GelS) (p : Nat),
    a = s.advance t ∧ gelOk g a = true ∧ a.rd (GEL_GEL_STAT_STATE g) = 2 ∧ a.gelReady g = true ∧ a.atBkpt g = false ∧ a.badFetch g = none ∧ a.fetchBad g = none ∧ w = a.gelWord g ∧ x = a.eng g ∧ a.overLimit g (opcCycles (iOpc w) + a.stalledFor g) (opcCycles (iOpc w)) = none ∧ iOpc w = 0x1c ∧ bits w 0 3 = 0 ∧ a.thrPhys g = some p) ∧
  (∃ (s a : State) (t : Nat) (g : Engine) (w : Nat) (x : GelS) (p : Nat),
    a = s.advance t ∧ gelOk g a = true ∧ a.rd (GEL_GEL_STAT_STATE g) = 2 ∧ a.gelReady g = true ∧ a.atBkpt g = false ∧ a.badFetch g = none ∧ a.fetchBad g = none ∧ w = a.gelWord g ∧ x = a.eng g ∧ a.overLimit g (opcCycles (iOpc w) + a.stalledFor g) (opcCycles (iOpc w)) = none ∧ iOpc w = 0x1c ∧ bits w 0 3 = 1 ∧ a.thrPhys g = some p) ∧
  (∃ (s a : State) (t : Nat) (g : Engine) (w : Nat) (x : GelS) (p : Nat),
    a = s.advance t ∧ gelOk g a = true ∧ a.rd (GEL_GEL_STAT_STATE g) = 2 ∧ a.gelReady g = true ∧ a.atBkpt g = false ∧ a.badFetch g = none ∧ a.fetchBad g = none ∧ w = a.gelWord g ∧ x = a.eng g ∧ a.overLimit g (opcCycles (iOpc w) + a.stalledFor g) (opcCycles (iOpc w)) = none ∧ iOpc w = 0x1c ∧ bits w 0 3 = 2 ∧ a.thrPhys g = some p) ∧
  (∃ (s a : State) (t : Nat) (g : Engine) (w : Nat) (x : GelS) (p : Nat),
    a = s.advance t ∧ gelOk g a = true ∧ a.rd (GEL_GEL_STAT_STATE g) = 2 ∧ a.gelReady g = true ∧ a.atBkpt g = false ∧ a.badFetch g = none ∧ a.fetchBad g = none ∧ w = a.gelWord g ∧ x = a.eng g ∧ a.overLimit g (opcCycles (iOpc w) + a.stalledFor g) (opcCycles (iOpc w)) = none ∧ iOpc w = 0x1c ∧ bits w 0 3 = 3 ∧ a.thrPhys g = some p) ∧
  (∃ (s a : State) (t : Nat) (g : Engine) (w : Nat) (x : GelS),
    a = s.advance t ∧ gelOk g a = true ∧ a.rd (GEL_GEL_STAT_STATE g) = 2 ∧ a.gelReady g = true ∧ a.atBkpt g = false ∧ a.badFetch g = none ∧ a.fetchBad g = none ∧ w = a.gelWord g ∧ x = a.eng g ∧ a.overLimit g (opcCycles (iOpc w) + a.stalledFor g) (opcCycles (iOpc w)) = none ∧ iOpc w = 0x1d ∧ bits w 0 3 = 0) ∧
  (∃ (s a : State) (t : Nat) (g : Engine) (w : Nat) (x : GelS),
    a = s.advance t ∧ gelOk g a = true ∧ a.rd (GEL_GEL_STAT_STATE g) = 2 ∧ a.gelReady g = true ∧ a.atBkpt g = false ∧ a.badFetch g = none ∧ a.fetchBad g = none ∧ w = a.gelWord g ∧ x = a.eng g ∧ a.overLimit g (opcCycles (iOpc w) + a.stalledFor g) (opcCycles (iOpc w)) = none ∧ iOpc w = 0x1d ∧ bits w 0 3 = 1) ∧
  (∃ (s a : State) (t : Nat) (g : Engine) (w : Nat) (x : GelS),
    a = s.advance t ∧ gelOk g a = true ∧ a.rd (GEL_GEL_STAT_STATE g) = 2 ∧ a.gelReady g = true ∧ a.atBkpt g = false ∧ a.badFetch g = none ∧ a.fetchBad g = none ∧ w = a.gelWord g ∧ x = a.eng g ∧ a.overLimit g (opcCycles (iOpc w) + a.stalledFor g) (opcCycles (iOpc w)) = none ∧ iOpc w = 0x1d ∧ bits w 0 3 = 2) ∧
  (∃ (s a : State) (t : Nat) (g : Engine) (w : Nat) (x : GelS) (p : Nat),
    a = s.advance t ∧ gelOk g a = true ∧ a.rd (GEL_GEL_STAT_STATE g) = 2 ∧ a.gelReady g = true ∧ a.atBkpt g = false ∧ a.badFetch g = none ∧ a.fetchBad g = none ∧ w = a.gelWord g ∧ x = a.eng g ∧ a.overLimit g (opcCycles (iOpc w) + a.stalledFor g) (opcCycles (iOpc w)) = none ∧ iOpc w = 0x1d ∧ bits w 0 3 = 3 ∧ a.thrPhys g = some p) ∧
  (∃ (s a : State) (t : Nat) (g : Engine) (w : Nat) (x : GelS) (p : Nat),
    a = s.advance t ∧ gelOk g a = true ∧ a.rd (GEL_GEL_STAT_STATE g) = 2 ∧ a.gelReady g = true ∧ a.atBkpt g = false ∧ a.badFetch g = none ∧ a.fetchBad g = none ∧ w = a.gelWord g ∧ x = a.eng g ∧ a.overLimit g (opcCycles (iOpc w) + a.stalledFor g) (opcCycles (iOpc w)) = none ∧ iOpc w = 0x1d ∧ bits w 0 3 = 4 ∧ a.thrPhys g = some p) ∧
  (∃ (s a : State) (t : Nat) (g : Engine) (w : Nat) (x : GelS) (p : Nat),
    a = s.advance t ∧ gelOk g a = true ∧ a.rd (GEL_GEL_STAT_STATE g) = 2 ∧ a.gelReady g = true ∧ a.atBkpt g = false ∧ a.badFetch g = none ∧ a.fetchBad g = none ∧ w = a.gelWord g ∧ x = a.eng g ∧ a.overLimit g (opcCycles (iOpc w) + a.stalledFor g) (opcCycles (iOpc w)) = none ∧ iOpc w = 0x1d ∧ bits w 0 3 = 5 ∧ a.thrPhys g = some p) ∧
  (∃ (s a : State) (t : Nat) (g : Engine) (w : Nat) (x : GelS) (p : Nat),
    a = s.advance t ∧ gelOk g a = true ∧ a.rd (GEL_GEL_STAT_STATE g) = 2 ∧ a.gelReady g = true ∧ a.atBkpt g = false ∧ a.badFetch g = none ∧ a.fetchBad g = none ∧ w = a.gelWord g ∧ x = a.eng g ∧ a.overLimit g (opcCycles (iOpc w) + a.stalledFor g) (opcCycles (iOpc w)) = none ∧ iOpc w = 0x1d ∧ bits w 0 3 = 6 ∧ a.thrPhys g = some p) ∧
  (∃ (s a : State) (t : Nat) (g : Engine) (w : Nat) (x : GelS),
    a = s.advance t ∧ gelOk g a = true ∧ a.rd (GEL_GEL_STAT_STATE g) = 2 ∧ a.gelReady g = true ∧ a.atBkpt g = false ∧ a.badFetch g = none ∧ a.fetchBad g = none ∧ w = a.gelWord g ∧ x = a.eng g ∧ a.overLimit g (opcCycles (iOpc w) + a.stalledFor g) (opcCycles (iOpc w)) = none ∧ iOpc w = 0x1d ∧ bits w 0 3 = 7) :=
  ⟨⟨upi 279172874247 { g := [3, 2147483653, 7, 1, 5, 6, 4096, 9] }, (upi 279172874247 { g := [3, 2147483653, 7, 1, 5, 6, 4096, 9] }).advance 5000, 5000, 0, 279172874247, { g := [3, 2147483653, 7, 1, 5, 6, 4096, 9], thread := true }, 0, by decide +kernel⟩,
   ⟨upi 292326211591 { g := [3, 2147483653, 7, 1, 5, 6, 4096, 9] }, (upi 292326211591 { g := [3, 2147483653, 7, 1, 5, 6, 4096, 9] }).advance 5000, 5000, 0, 292326211591, { g := [3, 2147483653, 7, 1, 5, 6, 4096, 9], thread := true }, 0, by decide +kernel⟩,
   ⟨upi 313801048071 { g := [3, 2147483653, 7, 1, 5, 6, 4096, 9] }, (upi 313801048071 { g := [3, 2147483653, 7, 1, 5, 6, 4096, 9] }).advance 5000, 5000, 0, 313801048071, { g := [3, 2147483653, 7, 1, 5, 6, 4096, 9], thread := true }, by decide +kernel⟩,
   ⟨upi 326719504391 { g := [3, 2147483653, 7, 1, 5, 6, 4096, 9] }, (upi 326719504391 { g := [3, 2147483653, 7, 1, 5, 6, 4096, 9] }).advance 5000, 5000, 0, 326719504391, { g := [3, 2147483653, 7, 1, 5, 6, 4096, 9], thread := true }, by decide +kernel⟩,
   ⟨{ (upi 348160786432 { g := [3, 2147483653, 7, 1, 5, 6, 4096, 9] }) with trk := (upe 0 0 0 255).trk }, ({ (upi 348160786432 { g := [3, 2147483653, 7, 1, 5, 6, 4096, 9] }) with trk := (upe 0 0 0 255).trk }).advance 5000, 5000, 0, 348160786432, { g := [3, 2147483653, 7, 1, 5, 6, 4096, 9], thread := true }, by decide +kernel⟩,
   ⟨upi 348160786432 { g := [3, 2147483653, 7, 1, 5, 6, 4096, 9] }, (upi 348160786432 { g := [3, 2147483653, 7, 1, 5, 6, 4096, 9] }).advance 5000, 5000, 0, 348160786432, { g := [3, 2147483653, 7, 1, 5, 6, 4096, 9], thread := true }, by decide +kernel⟩,
   ⟨{ (upi 365340655616 { g := [3, 2147483653, 7, 1, 5, 6, 4096, 9] }) with trk := (upe 0 0 0 255).trk }, ({ (upi 365340655616 { g := [3, 2147483653, 7, 1, 5, 6, 4096, 9] }) with trk := (upe 0 0 0 255).trk }).advance 5000, 5000, 0, 365340655616, { g := [3, 2147483653, 7, 1, 5, 6, 4096, 9], thread := true }, by decide +kernel⟩,
   ⟨upi 365340655616 { g := [3, 2147483653, 7, 1, 5, 6, 4096, 9] }, (upi 365340655616 { g := [3, 2147483653, 7, 1, 5, 6, 4096, 9] }).advance 5000, 5000, 0, 365340655616, { g := [3, 2147483653, 7, 1, 5, 6, 4096, 9], thread := true }, by decide +kernel⟩,
   ⟨upi 378225557505 { g := [3, 2147483653, 7, 1, 5, 6, 4096, 9] }, (upi 378225557505 { g := [3, 2147483653, 7, 1, 5, 6, 4096, 9] }).advance 5000, 5000, 0, 378225557505, { g := [3, 2147483653, 7, 1, 5, 6, 4096, 9], thread := true }, by decide +kernel⟩,
   ⟨(upi 378225557509 { g := [3, 2147483653, 7, 1, 5, 6, 4096, 9] }).wr (GEL_QOUT_EN 0 1) 1, ((upi 378225557509 { g := [3, 2147483653, 7, 1, 5, 6, 4096, 9] }).wr (GEL_QOUT_EN 0 1) 1).advance 5000, 5000, 0, 378225557509, { g := [3, 2147483653, 7, 1, 5, 6, 4096, 9], thread := true }, by decide +kernel⟩,
   ⟨upi 485331304448 { g := [3, 2147483653, 7, 1, 5, 6, 4096, 9] }, (upi 485331304448 { g := [3, 2147483653, 7, 1, 5, 6, 4096, 9] }).advance 5000, 5000, 0, 485331304448, { g := [3, 2147483653, 7, 1, 5, 6, 4096, 9], thread := true }, 0, by decide +kernel⟩,
   ⟨upi 485331304449 { g := [3, 2147483653, 7, 1, 5, 6, 4096, 9] }, (upi 485331304449 { g := [3, 2147483653, 7, 1, 5, 6, 4096, 9] }).advance 5000, 5000, 0, 485331304449, { g := [3, 2147483653, 7, 1, 5, 6, 4096, 9], thread := true }, 0, by decide +kernel⟩,
   ⟨upi 485331304450 { g := [3, 2147483653, 7, 1, 5, 6, 4096, 9] }, (upi 485331304450 { g := [3, 2147483653, 7, 1, 5, 6, 4096, 9] }).advance 5000, 5000, 0, 485331304450, { g := [3, 2147483653, 7, 1, 5, 6, 4096, 9], thread := true }, 0, by decide +kernel⟩,
   ⟨upi 485331304451 { g := [3, 2147483653, 7, 1, 5, 6, 4096, 9] }, (upi 485331304451 { g := [3, 2147483653, 7, 1, 5, 6, 4096, 9] }).advance 5000, 5000, 0, 485331304451, { g := [3, 2147483653, 7, 1, 5, 6, 4096, 9], thread := true }, 0, by decide +kernel⟩,
   ⟨upi 502511173632 { g := [3, 2147483653, 7, 1, 5, 6, 4096, 9] }, (upi 502511173632 { g := [3, 2147483653, 7, 1, 5, 6, 4096, 9] }).advance 5000, 5000, 0, 502511173632, { g := [3, 2147483653, 7, 1, 5, 6, 4096, 9], thread := true }, by decide +kernel⟩,
   ⟨upi 502511173633 { g := [3, 2147483653, 7, 1, 5, 6, 4096, 9] }, (upi 502511173633 { g := [3, 2147483653, 7, 1, 5, 6, 4096, 9] }).advance 5000, 5000, 0, 502511173633, { g := [3, 2147483653, 7, 1, 5, 6, 4096, 9], thread := true }, by decide +kernel⟩,
   ⟨upi 502511173634 { g := [3, 2147483653, 7, 1, 5, 6, 4096, 9] }, (upi 502511173634 { g := [3, 2147483653, 7, 1, 5, 6, 4096, 9] }).advance 5000, 5000, 0, 502511173634, { g := [3, 2147483653, 7, 1, 5, 6, 4096, 9], thread := true }, by decide +kernel⟩,
   ⟨upi 502511173635 { g := [3, 2147483653, 7, 1, 5, 6, 4096, 9] }, (upi 502511173635 { g := [3, 2147483653, 7, 1, 5, 6, 4096, 9] }).advance 5000, 5000, 0, 502511173635, { g := [3, 2147483653, 7, 1, 5, 6, 4096, 9], thread := true }, 0, by decide +kernel⟩,
   ⟨upi 502511173636 { g := [3, 2147483653, 7, 1, 5, 6, 4096, 9] }, (upi 502511173636 { g := [3, 2147483653, 7, 1, 5, 6, 4096, 9] }).advance 5000, 5000, 0, 502511173636, { g := [3, 2147483653, 7, 1, 5, 6, 4096, 9], thread := true }, 0, by decide +kernel⟩,
   ⟨upi 502511173637 { g := [3, 2147483653, 7, 1, 5, 6, 4096, 9] }, (upi 502511173637 { g := [3, 2147483653, 7, 1, 5, 6, 4096, 9] }).advance 5000, 5000, 0, 502511173637, { g := [3, 2147483653, 7, 1, 5, 6, 4096, 9], thread := true }, 0, by decide +kernel⟩,
   ⟨upi 502511173638 { g := [3, 2147483653, 7, 1, 5, 6, 4096, 9] }, (upi 502511173638 { g := [3, 2147483653, 7, 1, 5, 6, 4096, 9] }).advance 5000, 5000, 0, 502511173638, { g := [3, 2147483653, 7, 1, 5, 6, 4096, 9], thread := true }, 0, by decide +kernel⟩,
   ⟨upi 502511173639 { g := [3, 2147483653, 7, 1, 5, 6, 4096, 9] }, (upi 502511173639 { g := [3, 2147483653, 7, 1, 5, 6, 4096, 9] }).advance 5000, 5000, 0, 502511173639, { g := [3, 2147483653, 7, 1, 5, 6, 4096, 9], thread := true }, by decide +kernel⟩⟩

/-- States and operands that meet every hypothesis of each clause of EngineChannelInstructions. -/
theorem witness_EngineChannelInstructions :
  (∃ (s a : State) (t : Nat) (g : Engine) (w : Nat) (x : GelS),
    a = s.advance t ∧ gelOk g a = true ∧ a.rd (GEL_GEL_STAT_STATE g) = 2 ∧ a.gelReady g = true ∧ a.atBkpt g = false ∧ a.badFetch g = none ∧ a.fetchBad g = none ∧ w = a.gelWord g ∧ x = a.eng g ∧ a.overLimit g (opcCycles (iOpc w) + a.stalledFor g) (opcCycles (iOpc w)) = none ∧ iOpc w = 0x18 ∧ x.cq.length < 16 ∧ x.stall = none) ∧
  (∃ (s a : State) (t : Nat) (g : Engine) (w : Nat) (x : GelS),
    a = s.advance t ∧ gelOk g a = true ∧ a.rd (GEL_GEL_STAT_STATE g) = 2 ∧ a.gelReady g = true ∧ a.atBkpt g = false ∧ a.badFetch g = none ∧ a.fetchBad g = none ∧ w = a.gelWord g ∧ x = a.eng g ∧ a.overLimit g (opcCycles (iOpc w) + a.stalledFor g) (opcCycles (iOpc w)) = none ∧ iOpc w = 0x19 ∧ x.cq.length < 16 ∧ x.stall = none) ∧
  (∃ (s a : State) (t : Nat) (g : Engine) (w : Nat) (x : GelS),
    a = s.advance t ∧ gelOk g a = true ∧ a.rd (GEL_GEL_STAT_STATE g) = 2 ∧ a.gelReady g = true ∧ a.atBkpt g = false ∧ a.badFetch g = none ∧ a.fetchBad g = none ∧ w = a.gelWord g ∧ x = a.eng g ∧ a.overLimit g (opcCycles (iOpc w) + a.stalledFor g) (opcCycles (iOpc w)) = none ∧ iOpc w = 0x1a ∧ x.cq.length < 16 ∧ x.stall = none) ∧
  (∃ (s a : State) (t : Nat) (g : Engine) (w : Nat) (x : GelS),
    a = s.advance t ∧ gelOk g a = true ∧ a.rd (GEL_GEL_STAT_STATE g) = 2 ∧ a.gelReady g = true ∧ a.atBkpt g = false ∧ a.badFetch g = none ∧ a.fetchBad g = none ∧ w = a.gelWord g ∧ x = a.eng g ∧ a.overLimit g (opcCycles (iOpc w) + a.stalledFor g) (opcCycles (iOpc w)) = none ∧ iOpc w = 0x1b ∧ x.cq.length < 16 ∧ x.stall = none) ∧
  (∃ (s a : State) (t : Nat) (g : Engine) (w : Nat) (x : GelS),
    a = s.advance t ∧ gelOk g a = true ∧ a.rd (GEL_GEL_STAT_STATE g) = 2 ∧ a.gelReady g = true ∧ a.atBkpt g = false ∧ a.badFetch g = none ∧ a.fetchBad g = none ∧ w = a.gelWord g ∧ x = a.eng g ∧ a.overLimit g (opcCycles (iOpc w) + a.stalledFor g) (opcCycles (iOpc w)) = none ∧ iOpc w = 0x17 ∧ x.cq.length < 16 ∧ x.stall = none) ∧
  (∃ (s a : State) (t : Nat) (g : Engine) (w : Nat) (x : GelS),
    a = s.advance t ∧ gelOk g a = true ∧ a.rd (GEL_GEL_STAT_STATE g) = 2 ∧ a.gelReady g = true ∧ a.atBkpt g = false ∧ a.badFetch g = none ∧ a.fetchBad g = none ∧ w = a.gelWord g ∧ x = a.eng g ∧ a.overLimit g (opcCycles (iOpc w) + a.stalledFor g) (opcCycles (iOpc w)) = none ∧ iOpc w = 0x1e ∧ ((bit w 0 = true ∨ bits w 0 8 = 0)) ∧ x.cq.length < 16 ∧ x.stall = none) ∧
  (∃ (s a : State) (t : Nat) (g : Engine) (w : Nat) (x : GelS),
    a = s.advance t ∧ gelOk g a = true ∧ a.rd (GEL_GEL_STAT_STATE g) = 2 ∧ a.gelReady g = true ∧ a.atBkpt g = false ∧ a.badFetch g = none ∧ a.fetchBad g = none ∧ w = a.gelWord g ∧ x = a.eng g ∧ a.overLimit g (opcCycles (iOpc w) + a.stalledFor g) (opcCycles (iOpc w)) = none ∧ iOpc w = 0x1e ∧ bit w 1 = true ∧ x.cq.length < 16 ∧ x.stall = none) ∧
  (∃ (s a : State) (t : Nat) (g : Engine) (w : Nat) (x : GelS),
    a = s.advance t ∧ gelOk g a = true ∧ a.rd (GEL_GEL_STAT_STATE g) = 2 ∧ a.gelReady g = true ∧ a.atBkpt g = false ∧ a.badFetch g = none ∧ a.fetchBad g = none ∧ w = a.gelWord g ∧ x = a.eng g ∧ a.overLimit g (opcCycles (iOpc w) + a.stalledFor g) (opcCycles (iOpc w)) = none ∧ iOpc w = 0x1e ∧ bit w 2 = true ∧ x.cq.length < 16 ∧ x.stall = none) ∧
  (∃ (s a : State) (t : Nat) (g : Engine) (w : Nat) (x : GelS),
    a = s.advance t ∧ gelOk g a = true ∧ a.rd (GEL_GEL_STAT_STATE g) = 2 ∧ a.gelReady g = true ∧ a.atBkpt g = false ∧ a.badFetch g = none ∧ a.fetchBad g = none ∧ w = a.gelWord g ∧ x = a.eng g ∧ a.overLimit g (opcCycles (iOpc w) + a.stalledFor g) (opcCycles (iOpc w)) = none ∧ iOpc w = 0x1e ∧ bit w 3 = true ∧ x.cq.length < 16 ∧ x.stall = none) ∧
  (∃ (s a : State) (t : Nat) (g : Engine) (w : Nat) (x : GelS),
    a = s.advance t ∧ gelOk g a = true ∧ a.rd (GEL_GEL_STAT_STATE g) = 2 ∧ a.gelReady g = true ∧ a.atBkpt g = false ∧ a.badFetch g = none ∧ a.fetchBad g = none ∧ w = a.gelWord g ∧ x = a.eng g ∧ a.overLimit g (opcCycles (iOpc w) + a.stalledFor g) (opcCycles (iOpc w)) = none ∧ iOpc w = 0x1b ∧ 16 ≤ x.cq.length ∧ x.stall = none) ∧
  (∃ (s a : State) (t : Nat) (g : Engine) (w : Nat) (x : GelS) (u r : State) (p : Nat),
    a = s.advance t ∧ gelOk g a = true ∧ a.rd (GEL_GEL_STAT_STATE g) = 2 ∧ a.gelReady g = true ∧ a.atBkpt g = false ∧ a.badFetch g = none ∧ a.fetchBad g = none ∧ w = a.gelWord g ∧ x = a.eng g ∧ a.overLimit g (opcCycles (iOpc w) + a.stalledFor g) (opcCycles (iOpc w)) = none ∧ u = (a.modEng g fun z => { z with skipBk := false }) ∧ iOpc w = 0x1f ∧ a.thrPhys g = some p ∧ u.evtAdj p (toS 32 (x.reg (iA w))) = some r) ∧
  (∃ (s a : State) (t : Nat) (g : Engine) (w : Nat) (x : GelS) (u : State) (p : Nat),
    a = s.advance t ∧ gelOk g a = true ∧ a.rd (GEL_GEL_STAT_STATE g) = 2 ∧ a.gelReady g = true ∧ a.atBkpt g = false ∧ a.badFetch g = none ∧ a.fetchBad g = none ∧ w = a.gelWord g ∧ x = a.eng g ∧ a.overLimit g (opcCycles (iOpc w) + a.stalledFor g) (opcCycles (iOpc w)) = none ∧ u = (a.modEng g fun z => { z with skipBk := false }) ∧ iOpc w = 0x1f ∧ a.thrPhys g = some p ∧ u.evtAdj p (toS 32 (x.reg (iA w))) = none) :=
  ⟨⟨upi 412589490176 { g := [3, 2147483653, 7, 1, 5, 6, 4096, 9] }, (upi 412589490176 { g := [3, 2147483653, 7, 1, 5, 6, 4096, 9] }).advance 5000, 5000, 0, 412589490176, { g := [3, 2147483653, 7, 1, 5, 6, 4096, 9], thread := true }, by decide +kernel⟩,
   ⟨upi 429769359360 { g := [3, 2147483653, 7, 1, 5, 6, 4096, 9] }, (upi 429769359360 { g := [3, 2147483653, 7, 1, 5, 6, 4096, 9] }).advance 5000, 5000, 0, 429769359360, { g := [3, 2147483653, 7, 1, 5, 6, 4096, 9], thread := true }, by decide +kernel⟩,
   ⟨upi 446949228544 { g := [3, 2147483653, 7, 1, 5, 6, 4096, 9] }, (upi 446949228544 { g := [3, 2147483653, 7, 1, 5, 6, 4096, 9] }).advance 5000, 5000, 0, 446949228544, { g := [3, 2147483653, 7, 1, 5, 6, 4096, 9], thread := true }, by decide +kernel⟩,
   ⟨upi 463860662272 { g := [3, 2147483653, 7, 1, 5, 6, 4096, 9] }, (upi 463860662272 { g := [3, 2147483653, 7, 1, 5, 6, 4096, 9] }).advance 5000, 5000, 0, 463860662272, { g := [3, 2147483653, 7, 1, 5, 6, 4096, 9], thread := true }, by decide +kernel⟩,
   ⟨upi 395405426688 { g := [3, 2147483653, 7, 1, 5, 6, 4096, 9] }, (upi 395405426688 { g := [3, 2147483653, 7, 1, 5, 6, 4096, 9] }).advance 5000, 5000, 0, 395405426688, { g := [3, 2147483653, 7, 1, 5, 6, 4096, 9], thread := true }, by decide +kernel⟩,
   ⟨upi 515396075521 { g := [3, 2147483653, 7, 1, 5, 6, 4096, 9] }, (upi 515396075521 { g := [3, 2147483653, 7, 1, 5, 6, 4096, 9] }).advance 5000, 5000, 0, 515396075521, { g := [3, 2147483653, 7, 1, 5, 6, 4096, 9], thread := true }, by decide +kernel⟩,
   ⟨upi 515396075522 { g := [3, 2147483653, 7, 1, 5, 6, 4096, 9] }, (upi 515396075522 { g := [3, 2147483653, 7, 1, 5, 6, 4096, 9] }).advance 5000, 5000, 0, 515396075522, { g := [3, 2147483653, 7, 1, 5, 6, 4096, 9], thread := true }, by decide +kernel⟩,
   ⟨upi 515396075524 { g := [3, 2147483653, 7, 1, 5, 6, 4096, 9] }, (upi 515396075524 { g := [3, 2147483653, 7, 1, 5, 6, 4096, 9] }).advance 5000, 5000, 0, 515396075524, { g := [3, 2147483653, 7, 1, 5, 6, 4096, 9], thread := true }, by decide +kernel⟩,
   ⟨upi 515396075784 { g := [3, 2147483653, 7, 1, 5, 6, 4096, 9] }, (upi 515396075784 { g := [3, 2147483653, 7, 1, 5, 6, 4096, 9] }).advance 5000, 5000, 0, 515396075784, { g := [3, 2147483653, 7, 1, 5, 6, 4096, 9], thread := true }, by decide +kernel⟩,
   ⟨upi 463860662272 { g := [3, 2147483653, 7, 1, 5, 6, 4096, 9], cq := List.replicate 16 { ch := 0, op := .pin 1, stamp := 0 } }, (upi 463860662272 { g := [3, 2147483653, 7, 1, 5, 6, 4096, 9], cq := List.replicate 16 { ch := 0, op := .pin 1, stamp := 0 } }).advance 5000, 5000, 0, 463860662272, { g := [3, 2147483653, 7, 1, 5, 6, 4096, 9], cq := List.replicate 16 { ch := 0, op := .pin 1, stamp := 0 }, thread := true }, by decide +kernel⟩,
   ⟨{ (upi 534454992896 { g := [3, 2147483653, 7, 1, 5, 6, 4096, 9] }) with evt := { ncyc := 1, slots := [{ idx := 5, e := ⟨0, 0x0100, 0, 0x01000000⟩, cyc := 1, ang := 100000, here := true }] } }, ({ (upi 534454992896 { g := [3, 2147483653, 7, 1, 5, 6, 4096, 9] }) with evt := { ncyc := 1, slots := [{ idx := 5, e := ⟨0, 0x0100, 0, 0x01000000⟩, cyc := 1, ang := 100000, here := true }] } }).advance 5000, 5000, 0, 534454992896, { g := [3, 2147483653, 7, 1, 5, 6, 4096, 9], thread := true }, (({ (upi 534454992896 { g := [3, 2147483653, 7, 1, 5, 6, 4096, 9] }) with evt := { ncyc := 1, slots := [{ idx := 5, e := ⟨0, 0x0100, 0, 0x01000000⟩, cyc := 1, ang := 100000, here := true }] } } : State).advance 5000).modEng 0 fun z => { z with skipBk := false }, (((({ (upi 534454992896 { g := [3, 2147483653, 7, 1, 5, 6, 4096, 9] }) with evt := { ncyc := 1, slots := [{ idx := 5, e := ⟨0, 0x0100, 0, 0x01000000⟩, cyc := 1, ang := 100000, here := true }] } } : State).advance 5000).modEng 0 fun z => { z with skipBk := false }).evtAdj 0 9).getD {}, 0, by decide +kernel⟩,
   ⟨upi 534454992896 { g := [3, 2147483653, 7, 1, 5, 6, 4096, 9] }, (upi 534454992896 { g := [3, 2147483653, 7, 1, 5, 6, 4096, 9] }).advance 5000, 5000, 0, 534454992896, { g := [3, 2147483653, 7, 1, 5, 6, 4096, 9], thread := true }, ((upi 534454992896 { g := [3, 2147483653, 7, 1, 5, 6, 4096, 9] }).advance 5000).modEng 0 fun z => { z with skipBk := false }, 0, by decide +kernel⟩⟩

/-- States and operands that meet every hypothesis of each clause of CommandQueueArrival. -/
theorem witness_CommandQueueArrival :
  (∃ (s a w : State) (t : Nat) (g : Engine) (c : CqCmd) (r : List CqCmd) (p : Nat) (act : Nat),
    a = s.advance t ∧ State.tbd 1 a = true ∧ (a.eng g).cq = c :: r ∧ a.physOf c.ch = some p ∧ w = (a.setEng g { a.eng g with cq := r }).beforeCmd p ∧ w.physOf c.ch = some p ∧ w.dead p = false ∧ c.op = .pin act ∧ (w.chan p).safe = false) ∧
  (∃ (s a w : State) (t : Nat) (g : Engine) (c : CqCmd) (r : List CqCmd) (p : Nat) (act : Nat),
    a = s.advance t ∧ State.tbd 1 a = true ∧ (a.eng g).cq = c :: r ∧ a.physOf c.ch = some p ∧ w = (a.setEng g { a.eng g with cq := r }).beforeCmd p ∧ w.physOf c.ch = some p ∧ w.dead p = false ∧ c.op = .pin act ∧ (w.chan p).safe = true) ∧
  (∃ (s a w : State) (t : Nat) (g : Engine) (c : CqCmd) (r : List CqCmd) (p : Nat) (v act : Nat),
    a = s.advance t ∧ State.tbd 1 a = true ∧ (a.eng g).cq = c :: r ∧ a.physOf c.ch = some p ∧ w = (a.setEng g { a.eng g with cq := r }).beforeCmd p ∧ w.physOf c.ch = some p ∧ w.dead p = false ∧ c.op = .smt v act ∧ c.stamp + 6 ≤ nearCount c.stamp v) ∧
  (∃ (s a w : State) (t : Nat) (g : Engine) (c : CqCmd) (r : List CqCmd) (p : Nat) (v act : Nat),
    a = s.advance t ∧ State.tbd 1 a = true ∧ (a.eng g).cq = c :: r ∧ a.physOf c.ch = some p ∧ w = (a.setEng g { a.eng g with cq := r }).beforeCmd p ∧ w.physOf c.ch = some p ∧ w.dead p = false ∧ c.op = .smt v act ∧ nearCount c.stamp v < c.stamp + 6 ∧ (w.chan p).mtAt ≠ w.tb + 1 ∧ (w.chan p).pipeAt ≠ w.tb + 1) ∧
  (∃ (s a w : State) (t : Nat) (g : Engine) (c : CqCmd) (r : List CqCmd) (p : Nat) (v act : Nat),
    a = s.advance t ∧ State.tbd 1 a = true ∧ (a.eng g).cq = c :: r ∧ a.physOf c.ch = some p ∧ w = (a.setEng g { a.eng g with cq := r }).beforeCmd p ∧ w.physOf c.ch = some p ∧ w.dead p = false ∧ c.op = .sma v act ∧ ((w.ang.valid = false ∨ w.anglePassed (v % 2 ^ 24) = false))) ∧
  (∃ (s a w : State) (t : Nat) (g : Engine) (c : CqCmd) (r : List CqCmd) (p : Nat) (v act : Nat),
    a = s.advance t ∧ State.tbd 1 a = true ∧ (a.eng g).cq = c :: r ∧ a.physOf c.ch = some p ∧ w = (a.setEng g { a.eng g with cq := r }).beforeCmd p ∧ w.physOf c.ch = some p ∧ w.dead p = false ∧ c.op = .sma v act ∧ w.ang.valid = true ∧ w.anglePassed (v % 2 ^ 24) = true ∧ (w.chan p).maAt ≠ w.tb + 1 ∧ (w.chan p).pipeAt ≠ w.tb + 1) ∧
  (∃ (s a w : State) (t : Nat) (g : Engine) (c : CqCmd) (r : List CqCmd) (p : Nat) (v act : Nat),
    a = s.advance t ∧ State.tbd 1 a = true ∧ (a.eng g).cq = c :: r ∧ a.physOf c.ch = some p ∧ w = (a.setEng g { a.eng g with cq := r }).beforeCmd p ∧ w.physOf c.ch = some p ∧ w.dead p = false ∧ c.op = .smc v act ∧ ((w.ang.valid = false ∨ w.anglePassed (v % 2 ^ 24) = false))) ∧
  (∃ (s a w : State) (t : Nat) (g : Engine) (c : CqCmd) (r : List CqCmd) (p : Nat) (v act : Nat),
    a = s.advance t ∧ State.tbd 1 a = true ∧ (a.eng g).cq = c :: r ∧ a.physOf c.ch = some p ∧ w = (a.setEng g { a.eng g with cq := r }).beforeCmd p ∧ w.physOf c.ch = some p ∧ w.dead p = false ∧ c.op = .smc v act ∧ w.ang.valid = true ∧ w.anglePassed (v % 2 ^ 24) = true ∧ (w.chan p).maAt ≠ w.tb + 1 ∧ (w.chan p).pipeAt ≠ w.tb + 1) ∧
  (∃ (s a w : State) (t : Nat) (g : Engine) (c : CqCmd) (r : List CqCmd) (p : Nat) (ops act : Nat),
    a = s.advance t ∧ State.tbd 1 a = true ∧ (a.eng g).cq = c :: r ∧ a.physOf c.ch = some p ∧ w = (a.setEng g { a.eng g with cq := r }).beforeCmd p ∧ w.physOf c.ch = some p ∧ w.dead p = false ∧ c.op = .chc ops act) ∧
  (∃ (s a w : State) (t : Nat) (g : Engine) (c : CqCmd) (r : List CqCmd) (p : Nat),
    a = s.advance t ∧ State.tbd 1 a = true ∧ (a.eng g).cq = c :: r ∧ a.physOf c.ch = some p ∧ w = (a.setEng g { a.eng g with cq := r }).beforeCmd p ∧ w.physOf c.ch = some p ∧ w.dead p = false ∧ c.op = .lnk ∧ a.dead p = false ∧ a.evCount p 6 < 3) :=
  ⟨⟨upi 0 { cq := [{ ch := 0, op := .pin 1, stamp := 100 }] }, (upi 0 { cq := [{ ch := 0, op := .pin 1, stamp := 100 }] }).advance 5000, (((upi 0 { cq := [{ ch := 0, op := .pin 1, stamp := 100 }] }).advance 5000).setEng 0 { ((upi 0 { cq := [{ ch := 0, op := .pin 1, stamp := 100 }] }).advance 5000).eng 0 with cq := [] }).beforeCmd 0, 5000, 0, { ch := 0, op := .pin 1, stamp := 100 }, [], 0, 1, by decide +kernel⟩,
   ⟨{ (upi 0 { cq := [{ ch := 0, op := .pin 1, stamp := 100 }] }) with chans := [(0, { safe := true })] }, ({ (upi 0 { cq := [{ ch := 0, op := .pin 1, stamp := 100 }] }) with chans := [(0, { safe := true })] }).advance 5000, ((({ (upi 0 { cq := [{ ch := 0, op := .pin 1, stamp := 100 }] }) with chans := [(0, { safe := true })] }).advance 5000).setEng 0 { (({ (upi 0 { cq := [{ ch := 0, op := .pin 1, stamp := 100 }] }) with chans := [(0, { safe := true })] }).advance 5000).eng 0 with cq := [] }).beforeCmd 0, 5000, 0, { ch := 0, op := .pin 1, stamp := 100 }, [], 0, 1, by decide +kernel⟩,
   ⟨upi 0 { cq := [{ ch := 0, op := .smt 9000 1, stamp := 100 }] }, (upi 0 { cq := [{ ch := 0, op := .smt 9000 1, stamp := 100 }] }).advance 5000, (((upi 0 { cq := [{ ch := 0, op := .smt 9000 1, stamp := 100 }] }).advance 5000).setEng 0 { ((upi 0 { cq := [{ ch := 0, op := .smt 9000 1, stamp := 100 }] }).advance 5000).eng 0 with cq := [] }).beforeCmd 0, 5000, 0, { ch := 0, op := .smt 9000 1, stamp := 100 }, [], 0, 9000, 1, by decide +kernel⟩,
   ⟨upi 0 { cq := [{ ch := 0, op := .smt 100 1, stamp := 100 }] }, (upi 0 { cq := [{ ch := 0, op := .smt 100 1, stamp := 100 }] }).advance 5000, (((upi 0 { cq := [{ ch := 0, op := .smt 100 1, stamp := 100 }] }).advance 5000).setEng 0 { ((upi 0 { cq := [{ ch := 0, op := .smt 100 1, stamp := 100 }] }).advance 5000).eng 0 with cq := [] }).beforeCmd 0, 5000, 0, { ch := 0, op := .smt 100 1, stamp := 100 }, [], 0, 100, 1, by decide +kernel⟩,
   ⟨upi 0 { cq := [{ ch := 0, op := .sma 100 1, stamp := 100 }] }, (upi 0 { cq := [{ ch := 0, op := .sma 100 1, stamp := 100 }] }).advance 5000, (((upi 0 { cq := [{ ch := 0, op := .sma 100 1, stamp := 100 }] }).advance 5000).setEng 0 { ((upi 0 { cq := [{ ch := 0, op := .sma 100 1, stamp := 100 }] }).advance 5000).eng 0 with cq := [] }).beforeCmd 0, 5000, 0, { ch := 0, op := .sma 100 1, stamp := 100 }, [], 0, 100, 1, by decide +kernel⟩,
   ⟨{ (upi 0 { cq := [{ ch := 0, op := .sma 0 1, stamp := 100 }] }) with trk := (upe 0 0 0 255).trk }, ({ (upi 0 { cq := [{ ch := 0, op := .sma 0 1, stamp := 100 }] }) with trk := (upe 0 0 0 255).trk }).advance 5000, ((({ (upi 0 { cq := [{ ch := 0, op := .sma 0 1, stamp := 100 }] }) with trk := (upe 0 0 0 255).trk }).advance 5000).setEng 0 { (({ (upi 0 { cq := [{ ch := 0, op := .sma 0 1, stamp := 100 }] }) with trk := (upe 0 0 0 255).trk }).advance 5000).eng 0 with cq := [] }).beforeCmd 0, 5000, 0, { ch := 0, op := .sma 0 1, stamp := 100 }, [], 0, 0, 1, by decide +kernel⟩,
   ⟨upi 0 { cq := [{ ch := 0, op := .smc 100 1, stamp := 100 }] }, (upi 0 { cq := [{ ch := 0, op := .smc 100 1, stamp := 100 }] }).advance 5000, (((upi 0 { cq := [{ ch := 0, op := .smc 100 1, stamp := 100 }] }).advance 5000).setEng 0 { ((upi 0 { cq := [{ ch := 0, op := .smc 100 1, stamp := 100 }] }).advance 5000).eng 0 with cq := [] }).beforeCmd 0, 5000, 0, { ch := 0, op := .smc 100 1, stamp := 100 }, [], 0, 100, 1, by decide +kernel⟩,
   ⟨{ (upi 0 { cq := [{ ch := 0, op := .smc 0 1, stamp := 100 }] }) with trk := (upe 0 0 0 255).trk }, ({ (upi 0 { cq := [{ ch := 0, op := .smc 0 1, stamp := 100 }] }) with trk := (upe 0 0 0 255).trk }).advance 5000, ((({ (upi 0 { cq := [{ ch := 0, op := .smc 0 1, stamp := 100 }] }) with trk := (upe 0 0 0 255).trk }).advance 5000).setEng 0 { (({ (upi 0 { cq := [{ ch := 0, op := .smc 0 1, stamp := 100 }] }) with trk := (upe 0 0 0 255).trk }).advance 5000).eng 0 with cq := [] }).beforeCmd 0, 5000, 0, { ch := 0, op := .smc 0 1, stamp := 100 }, [], 0, 0, 1, by decide +kernel⟩,
   ⟨{ (upi 0 { cq := [{ ch := 0, op := .chc 9 1, stamp := 100 }] }) with chans := [(0, { mhold := true, mtArm := true, mtT := 9000 })] }, ({ (upi 0 { cq := [{ ch := 0, op := .chc 9 1, stamp := 100 }] }) with chans := [(0, { mhold := true, mtArm := true, mtT := 9000 })] }).advance 5000, ((({ (upi 0 { cq := [{ ch := 0, op := .chc 9 1, stamp := 100 }] }) with chans := [(0, { mhold := true, mtArm := true, mtT := 9000 })] }).advance 5000).setEng 0 { (({ (upi 0 { cq := [{ ch := 0, op := .chc 9 1, stamp := 100 }] }) with chans := [(0, { mhold := true, mtArm := true, mtT := 9000 })] }).advance 5000).eng 0 with cq := [] }).beforeCmd 0, 5000, 0, { ch := 0, op := .chc 9 1, stamp := 100 }, [], 0, 9, 1, by decide +kernel⟩,
   ⟨upi 0 { cq := [{ ch := 0, op := .lnk, stamp := 100 }] }, (upi 0 { cq := [{ ch := 0, op := .lnk, stamp := 100 }] }).advance 5000, (((upi 0 { cq := [{ ch := 0, op := .lnk, stamp := 100 }] }).advance 5000).setEng 0 { ((upi 0 { cq := [{ ch := 0, op := .lnk, stamp := 100 }] }).advance 5000).eng 0 with cq := [] }).beforeCmd 0, 5000, 0, { ch := 0, op := .lnk, stamp := 100 }, [], 0, by decide +kernel⟩⟩

/-- States and operands that meet every hypothesis of each clause of EngineControlFlow. -/
theorem witness_EngineControlFlow :
  (∃ (s a : State) (t : Nat) (g : Engine) (w : Nat) (x : GelS),
    a = s.advance t ∧ gelOk g a = true ∧ a.rd (GEL_GEL_STAT_STATE g) = 2 ∧ a.gelReady g = true ∧ a.atBkpt g = false ∧ a.badFetch g = none ∧ a.fetchBad g = none ∧ w = a.gelWord g ∧ x = a.eng g ∧ a.overLimit g (opcCycles (iOpc w) + a.stalledFor g) (opcCycles (iOpc w)) = none ∧ iOpc w = 0x20 ∧ x.cond (bits w 30 4) = true ∧ 0x40 ≤ iTarget w) ∧
  (∃ (s a : State) (t : Nat) (g : Engine) (w : Nat) (x : GelS),
    a = s.advance t ∧ gelOk g a = true ∧ a.rd (GEL_GEL_STAT_STATE g) = 2 ∧ a.gelReady g = true ∧ a.atBkpt g = false ∧ a.badFetch g = none ∧ a.fetchBad g = none ∧ w = a.gelWord g ∧ x = a.eng g ∧ a.overLimit g (opcCycles (iOpc w) + a.stalledFor g) (opcCycles (iOpc w)) = none ∧ iOpc w = 0x20 ∧ x.cond (bits w 30 4) = false) ∧
  (∃ (s a : State) (t : Nat) (g : Engine) (w : Nat) (x : GelS),
    a = s.advance t ∧ gelOk g a = true ∧ a.rd (GEL_GEL_STAT_STATE g) = 2 ∧ a.gelReady g = true ∧ a.atBkpt g = false ∧ a.badFetch g = none ∧ a.fetchBad g = none ∧ w = a.gelWord g ∧ x = a.eng g ∧ a.overLimit g (opcCycles (iOpc w) + a.stalledFor g) (opcCycles (iOpc w)) = none ∧ iOpc w = 0x21 ∧ (Nat.land (bits w 24 10) x.snap != 0) = bit w 23 ∧ 0x40 ≤ iTarget w) ∧
  (∃ (s a : State) (t : Nat) (g : Engine) (w : Nat) (x : GelS),
    a = s.advance t ∧ gelOk g a = true ∧ a.rd (GEL_GEL_STAT_STATE g) = 2 ∧ a.gelReady g = true ∧ a.atBkpt g = false ∧ a.badFetch g = none ∧ a.fetchBad g = none ∧ w = a.gelWord g ∧ x = a.eng g ∧ a.overLimit g (opcCycles (iOpc w) + a.stalledFor g) (opcCycles (iOpc w)) = none ∧ iOpc w = 0x21 ∧ (Nat.land (bits w 24 10) x.snap != 0) ≠ bit w 23) ∧
  (∃ (s a : State) (t : Nat) (g : Engine) (w : Nat) (x : GelS),
    a = s.advance t ∧ gelOk g a = true ∧ a.rd (GEL_GEL_STAT_STATE g) = 2 ∧ a.gelReady g = true ∧ a.atBkpt g = false ∧ a.badFetch g = none ∧ a.fetchBad g = none ∧ w = a.gelWord g ∧ x = a.eng g ∧ a.overLimit g (opcCycles (iOpc w) + a.stalledFor g) (opcCycles (iOpc w)) = none ∧ iOpc w = 0x22 ∧ x.stack.length < 4 ∧ 0x40 ≤ iTarget w) ∧
  (∃ (s a : State) (t : Nat) (g : Engine) (w : Nat) (x : GelS) (c : Nat) (r : List Nat),
    a = s.advance t ∧ gelOk g a = true ∧ a.rd (GEL_GEL_STAT_STATE g) = 2 ∧ a.gelReady g = true ∧ a.atBkpt g = false ∧ a.badFetch g = none ∧ a.fetchBad g = none ∧ w = a.gelWord g ∧ x = a.eng g ∧ a.overLimit g (opcCycles (iOpc w) + a.stalledFor g) (opcCycles (iOpc w)) = none ∧ iOpc w = 0x23 ∧ x.stack = c :: r ∧ a.badAt (gelSeg g) 1 r.length = none) ∧
  (∃ (s a : State) (t : Nat) (g : Engine) (w : Nat) (x : GelS),
    a = s.advance t ∧ gelOk g a = true ∧ a.rd (GEL_GEL_STAT_STATE g) = 2 ∧ a.gelReady g = true ∧ a.atBkpt g = false ∧ a.badFetch g = none ∧ a.fetchBad g = none ∧ w = a.gelWord g ∧ x = a.eng g ∧ a.overLimit g (opcCycles (iOpc w) + a.stalledFor g) (opcCycles (iOpc w)) = none ∧ iOpc w = 0x3c ∧ a.on (GEL_GEL_CTRL_BRK_EN g) = true) ∧
  (∃ (s a : State) (t : Nat) (g : Engine) (w : Nat) (x : GelS),
    a = s.advance t ∧ gelOk g a = true ∧ a.rd (GEL_GEL_STAT_STATE g) = 2 ∧ a.gelReady g = true ∧ a.atBkpt g = false ∧ a.badFetch g = none ∧ a.fetchBad g = none ∧ w = a.gelWord g ∧ x = a.eng g ∧ a.overLimit g (opcCycles (iOpc w) + a.stalledFor g) (opcCycles (iOpc w)) = none ∧ iOpc w = 0x3c ∧ a.on (GEL_GEL_CTRL_BRK_EN g) = false) ∧
  (∃ (s a : State) (t : Nat) (g : Engine) (w : Nat) (x : GelS) (p : Nat),
    a = s.advance t ∧ gelOk g a = true ∧ a.rd (GEL_GEL_STAT_STATE g) = 2 ∧ a.gelReady g = true ∧ a.atBkpt g = false ∧ a.badFetch g = none ∧ a.fetchBad g = none ∧ w = a.gelWord g ∧ x = a.eng g ∧ a.overLimit g (opcCycles (iOpc w) + a.stalledFor g) (opcCycles (iOpc w)) = none ∧ iOpc w = 0x3e ∧ a.thrPhys g = some p) ∧
  (∃ (s a : State) (t : Nat) (g : Engine) (w : Nat) (x : GelS) (p : Nat),
    a = s.advance t ∧ gelOk g a = true ∧ a.rd (GEL_GEL_STAT_STATE g) = 2 ∧ a.gelReady g = true ∧ a.atBkpt g = false ∧ a.badFetch g = none ∧ a.fetchBad g = none ∧ w = a.gelWord g ∧ x = a.eng g ∧ a.overLimit g (opcCycles (iOpc w) + a.stalledFor g) (opcCycles (iOpc w)) = none ∧ iOpc w = 0x3f ∧ a.thrPhys g = some p) :=
  ⟨⟨upi 549755813968 { g := [3, 2147483653, 7, 1, 5, 6, 4096, 9] }, (upi 549755813968 { g := [3, 2147483653, 7, 1, 5, 6, 4096, 9] }).advance 5000, 5000, 0, 549755813968, { g := [3, 2147483653, 7, 1, 5, 6, 4096, 9], thread := true }, by decide +kernel⟩,
   ⟨upi 550829555792 { g := [3, 2147483653, 7, 1, 5, 6, 4096, 9] }, (upi 550829555792 { g := [3, 2147483653, 7, 1, 5, 6, 4096, 9] }).advance 5000, 5000, 0, 550829555792, { g := [3, 2147483653, 7, 1, 5, 6, 4096, 9], thread := true }, by decide +kernel⟩,
   ⟨upi 566952460368 { g := [3, 2147483653, 7, 1, 5, 6, 4096, 9] }, (upi 566952460368 { g := [3, 2147483653, 7, 1, 5, 6, 4096, 9] }).advance 5000, 5000, 0, 566952460368, { g := [3, 2147483653, 7, 1, 5, 6, 4096, 9], thread := true }, by decide +kernel⟩,
   ⟨upi 566960848976 { g := [3, 2147483653, 7, 1, 5, 6, 4096, 9] }, (upi 566960848976 { g := [3, 2147483653, 7, 1, 5, 6, 4096, 9] }).advance 5000, 5000, 0, 566960848976, { g := [3, 2147483653, 7, 1, 5, 6, 4096, 9], thread := true }, by decide +kernel⟩,
   ⟨upi 584115552336 { g := [3, 2147483653, 7, 1, 5, 6, 4096, 9] }, (upi 584115552336 { g := [3, 2147483653, 7, 1, 5, 6, 4096, 9] }).advance 5000, 5000, 0, 584115552336, { g := [3, 2147483653, 7, 1, 5, 6, 4096, 9], thread := true }, by decide +kernel⟩,
   ⟨upi 601295421440 { g := [3, 2147483653, 7, 1, 5, 6, 4096, 9], stack := [80] }, (upi 601295421440 { g := [3, 2147483653, 7, 1, 5, 6, 4096, 9], stack := [80] }).advance 5000, 5000, 0, 601295421440, { g := [3, 2147483653, 7, 1, 5, 6, 4096, 9], stack := [80], thread := true }, 80, [], by decide +kernel⟩,
   ⟨(upi 1030792151040 { g := [3, 2147483653, 7, 1, 5, 6, 4096, 9] }).wr (GEL_GEL_CTRL_BRK_EN 0) 1, ((upi 1030792151040 { g := [3, 2147483653, 7, 1, 5, 6, 4096, 9] }).wr (GEL_GEL_CTRL_BRK_EN 0) 1).advance 5000, 5000, 0, 1030792151040, { g := [3, 2147483653, 7, 1, 5, 6, 4096, 9], thread := true }, by decide +kernel⟩,
   ⟨(upi 1030792151040 { g := [3, 2147483653, 7, 1, 5, 6, 4096, 9] }).wr (GEL_GEL_CTRL_BRK_EN 0) 0, ((upi 1030792151040 { g := [3, 2147483653, 7, 1, 5, 6, 4096, 9] }).wr (GEL_GEL_CTRL_BRK_EN 0) 0).advance 5000, 5000, 0, 1030792151040, { g := [3, 2147483653, 7, 1, 5, 6, 4096, 9], thread := true }, by decide +kernel⟩,
   ⟨upi 1065151889408 { g := [3, 2147483653, 7, 1, 5, 6, 4096, 9] }, (upi 1065151889408 { g := [3, 2147483653, 7, 1, 5, 6, 4096, 9] }).advance 5000, 5000, 0, 1065151889408, { g := [3, 2147483653, 7, 1, 5, 6, 4096, 9], thread := true }, 0, by decide +kernel⟩,
   ⟨upi 1082331758597 { g := [3, 2147483653, 7, 1, 5, 6, 4096, 9] }, (upi 1082331758597 { g := [3, 2147483653, 7, 1, 5, 6, 4096, 9] }).advance 5000, 5000, 0, 1082331758597, { g := [3, 2147483653, 7, 1, 5, 6, 4096, 9], thread := true }, 0, by decide +kernel⟩⟩

/-- States and operands that meet every hypothesis of each clause of EngineThreads. -/
theorem witness_EngineThreads :
  (∃ (s a : State) (t : Nat) (g : Engine) (u : State) (i n c p : Nat) (r : List (Nat × Nat)),
    a = s.advance t ∧ gelOk g a = true ∧ a.rd (GEL_GEL_STAT_STATE g) = 1 ∧ (a.eng g).thread = false ∧ u = a.gelHold g ∧ u.wheelPick g = some i ∧ tget [] (a.eng g).reqs (a.wheelAt g i) = (n, c) :: r ∧ a.physOf n = some p ∧ (a.chan p).yield = none) ∧
  (∃ (s a : State) (t : Nat) (g : Engine) (u : State) (i n c p : Nat) (r : List (Nat × Nat)) (z : Nat) (h : List Nat),
    a = s.advance t ∧ gelOk g a = true ∧ a.rd (GEL_GEL_STAT_STATE g) = 1 ∧ (a.eng g).thread = false ∧ u = a.gelHold g ∧ u.wheelPick g = some i ∧ tget [] (a.eng g).reqs (a.wheelAt g i) = (n, c) :: r ∧ a.physOf n = some p ∧ (a.chan p).yield = some (z, h)) ∧
  (∃ (s a : State) (t : Nat) (g : Engine) (p : Nat),
    a = s.advance t ∧ gelOk g a = true ∧ a.rd (GEL_GEL_STAT_STATE g) = 2 ∧ (a.eng g).thread = true ∧ a.overLimit g ((if a.gelReady g then opcCycles (iOpc (a.gelWord g)) else 0) + a.stalledFor g) (if a.gelReady g then opcCycles (iOpc (a.gelWord g)) else 0) = some 1 ∧ a.thrPhys g = some p) ∧
  (∃ (s a : State) (t : Nat) (g : Engine) (p : Nat) (c : Nat),
    a = s.advance t ∧ gelOk g a = true ∧ a.rd (GEL_GEL_STAT_STATE g) = 2 ∧ a.gelReady g = true ∧ a.atBkpt g = false ∧ a.fetchBad g = none ∧ a.badFetch g = some c ∧ a.thrPhys g = some p) ∧
  (∃ (s a : State) (t : Nat) (g : Engine),
    a = s.advance t ∧ gelOk g a = true ∧ a.rd (GEL_GEL_STAT_STATE g) ≠ 0 ∧ a.rd (GEL_GEL_STAT_STATE g) ≠ 4 ∧ a.gelReady g = true) ∧
  (∃ (s a : State) (t : Nat) (g : Engine) (m : Master),
    a = s.advance t ∧ gelOk g a = true ∧ a.mayWrite m (0x30 + g) 0x40 1 1 = true ∧ ((a.rd (GEL_GEL_STAT_STATE g) = 1 ∨ a.rd (GEL_GEL_STAT_STATE g) = 2))) ∧
  (∃ (s a : State) (t : Nat) (g : Engine),
    a = s.advance t ∧ gelOk g a = true ∧ a.rd (GEL_GEL_STAT_STATE g) = 2 ∧ a.gelReady g = true ∧ a.atBkpt g = true) ∧
  (∃ (s a : State) (t : Nat) (g : Engine) (m : Master),
    a = s.advance t ∧ gelOk g a = true ∧ a.mayWrite m (0x30 + g) 0x40 2 2 = true ∧ a.rd (GEL_GEL_STAT_STATE g) = 3 ∧ a.gelReady g = true ∧ a.badFetch g = none ∧ a.fetchBad g = none ∧ iOpc (a.gelWord g) = 0x0d) ∧
  (∃ (s a : State) (t : Nat) (g : Engine) (m : Master),
    a = s.advance t ∧ gelOk g a = true ∧ a.mayWrite m (0x30 + g) 0x40 0 1 = true ∧ a.rd (GEL_GEL_STAT_STATE g) = 3 ∧ a.notHalted = true ∧ a.on (PG_CTRL_DEBUG_SAFE (0x30 + g)) = false) ∧
  (∃ (s a : State) (t : Nat) (g : Engine) (m : Master),
    a = s.advance t ∧ gelOk g a = true ∧ a.mayWrite m (0x30 + g) 0x40 0 1 = true ∧ a.rd (GEL_GEL_STAT_STATE g) = 3 ∧ a.notHalted = true ∧ a.on (PG_CTRL_DEBUG_SAFE (0x30 + g)) = true) :=
  ⟨⟨(upi 0 { reqs := [(0, [(0, 100)])] }).setEng 0 { reqs := [(0, [(0, 100)])] } |>.wr (GEL_GEL_STAT_STATE 0) 1, ((upi 0 { reqs := [(0, [(0, 100)])] }).setEng 0 { reqs := [(0, [(0, 100)])] } |>.wr (GEL_GEL_STAT_STATE 0) 1).advance 5000, 5000, 0, (((upi 0 { reqs := [(0, [(0, 100)])] }).setEng 0 { reqs := [(0, [(0, 100)])] } |>.wr (GEL_GEL_STAT_STATE 0) 1).advance 5000).gelHold 0, 0, 0, 100, 0, [], by decide +kernel⟩,
   ⟨{ ((upi 0 { reqs := [(0, [(0, 100)])] }).setEng 0 { reqs := [(0, [(0, 100)])] } |>.wr (GEL_GEL_STAT_STATE 0) 1) with chans := [(0, { yield := some (0x77, [1, 2, 3, 4]) })] }, ({ ((upi 0 { reqs := [(0, [(0, 100)])] }).setEng 0 { reqs := [(0, [(0, 100)])] } |>.wr (GEL_GEL_STAT_STATE 0) 1) with chans := [(0, { yield := some (0x77, [1, 2, 3, 4]) })] }).advance 5000, 5000, 0, (({ ((upi 0 { reqs := [(0, [(0, 100)])] }).setEng 0 { reqs := [(0, [(0, 100)])] } |>.wr (GEL_GEL_STAT_STATE 0) 1) with chans := [(0, { yield := some (0x77, [1, 2, 3, 4]) })] } : State).advance 5000).gelHold 0, 0, 0, 100, 0, [], 0x77, [1, 2, 3, 4], by decide +kernel⟩,
   ⟨upi 0 { cyc := 2000 }, (upi 0 { cyc := 2000 }).advance 5000, 5000, 0, 0, by decide +kernel⟩,
   ⟨upi 824633720832 {}, (upi 824633720832 {}).advance 5000, 5000, 0, 0, 3, by decide +kernel⟩,
   ⟨upi 0 {}, (upi 0 {}).advance 5000, 5000, 0, by decide +kernel⟩,
   ⟨upi 0 {}, (upi 0 {}).advance 5000, 5000, 0, 3, by decide +kernel⟩,
   ⟨((upi 0 {}).wr (GEL_BKPT0_EN 0) 1).wr (GEL_BKPT0_ADDR 0) 0x40, (((upi 0 {}).wr (GEL_BKPT0_EN 0) 1).wr (GEL_BKPT0_ADDR 0) 0x40).advance 5000, 5000, 0, by decide +kernel⟩,
   ⟨(upi 227767484423 {}).wr (GEL_GEL_STAT_STATE 0) 3, ((upi 227767484423 {}).wr (GEL_GEL_STAT_STATE 0) 3).advance 5000, 5000, 0, 3, by decide +kernel⟩,
   ⟨((upi 0 {}).wr (GEL_GEL_STAT_STATE 0) 3).wr (PG_CTRL_DEBUG_SAFE 0x30) 0, (((upi 0 {}).wr (GEL_GEL_STAT_STATE 0) 3).wr (PG_CTRL_DEBUG_SAFE 0x30) 0).advance 5000, 5000, 0, 3, by decide +kernel⟩,
   ⟨((upi 0 {}).wr (GEL_GEL_STAT_STATE 0) 3).wr (PG_CTRL_DEBUG_SAFE 0x30) 1, (((upi 0 {}).wr (GEL_GEL_STAT_STATE 0) 3).wr (PG_CTRL_DEBUG_SAFE 0x30) 1).advance 5000, 5000, 0, 3, by decide +kernel⟩⟩

/-- States and operands that meet every hypothesis of each clause of EngineEnableAndMemory. -/
theorem witness_EngineEnableAndMemory :
  (∃ (s a : State) (t : Nat) (g : Engine) (m : Master),
    a = s.advance t ∧ State.core 1 a = true ∧ a.mayWrite m (0x30 + g) 8 1 1 = true ∧ a.on (PG_CTRL_EN (0x30 + g)) = false ∧ (a.eng g).image = true ∧ a.wheelOk g = true) ∧
  (∃ (s a : State) (t : Nat) (g : Engine) (m : Master),
    a = s.advance t ∧ State.core 1 a = true ∧ a.mayWrite m (0x30 + g) 8 1 1 = true ∧ a.on (PG_CTRL_EN (0x30 + g)) = false ∧ (((a.eng g).image = false ∨ a.wheelOk g = false))) ∧
  (∃ (s a : State) (t : Nat) (g : Engine) (z : GelMem) (d v : Nat) (u : State),
    a = s.advance t ∧ State.core 1 a = true ∧ a.running (0x30 + g) = true ∧ (a.eng g).mem = some z ∧ isRemote z.addr = false ∧ z.dst = some d ∧ d < 8 ∧ a.busRead (4 + g) z.addr = (.ok v, u) ∧ u.eng g = a.eng g ∧ u.overLimit g (u.stalledFor g) 0 = none) ∧
  (∃ (s a : State) (t : Nat) (g : Engine) (z : GelMem) (v : Nat) (u : State),
    a = s.advance t ∧ State.core 1 a = true ∧ a.running (0x30 + g) = true ∧ (a.eng g).mem = some z ∧ isRemote z.addr = false ∧ z.dst = none ∧ a.busWrite (4 + g) z.addr z.val 15 = (.ok v, u) ∧ u.eng g = a.eng g ∧ u.overLimit g (u.stalledFor g) 0 = none) ∧
  (∃ (s a : State) (t : Nat) (g : Engine) (z : GelMem) (u : State),
    a = s.advance t ∧ State.core 1 a = true ∧ a.running (0x30 + g) = true ∧ (a.eng g).mem = some z ∧ isRemote z.addr = false ∧ z.dst = none ∧ a.busWrite (4 + g) z.addr z.val 15 = (.err, u) ∧ u.eng g = a.eng g ∧ u.overLimit g (u.stalledFor g) 0 = none) ∧
  (∃ (s a : State) (t : Nat) (g : Engine) (z : GelMem) (d : Nat) (u : State),
    a = s.advance t ∧ State.core 1 a = true ∧ a.running (0x30 + g) = true ∧ (a.eng g).mem = some z ∧ isRemote z.addr = false ∧ z.dst = some d ∧ d < 8 ∧ a.busRead (4 + g) z.addr = (.err, u) ∧ u.eng g = a.eng g ∧ u.overLimit g (u.stalledFor g) 0 = none) ∧
  (∃ (s a : State) (t : Nat) (g : Engine) (z : GelMem) (d : Nat) (r : RemEnd),
    a = s.advance t ∧ State.core 1 a = true ∧ a.running (0x30 + g) = true ∧ (a.eng g).mem = some z ∧ isRemote z.addr = true ∧ z.dst = some d ∧ d < 8 ∧ (a.casc.remDone.find? fun y => y.m == 4 + g.val && y.addr == z.addr && y.write == false) = some r ∧ a.overLimit g (a.stalledFor g) 0 = none) :=
  ⟨⟨(upt.setEng 0 { image := true }).wr (GEL_WHEEL0_ENT 0) 0x24, ((upt.setEng 0 { image := true }).wr (GEL_WHEEL0_ENT 0) 0x24).advance 5000, 5000, 0, 3, by decide +kernel⟩,
   ⟨upt, (upt).advance 5000, 5000, 0, 3, by decide +kernel⟩,
   ⟨upi 0 { mem := some { dst := some 2, addr := 0x10000000, val := 0, since := 4990 } }, (upi 0 { mem := some { dst := some 2, addr := 0x10000000, val := 0, since := 4990 } }).advance 5000, 5000, 0, { dst := some 2, addr := 0x10000000, val := 0, since := 4990 }, 2, 0, (((upi 0 { mem := some { dst := some 2, addr := 0x10000000, val := 0, since := 4990 } }).advance 5000).busRead 4 0x10000000).2, by decide +kernel⟩,
   ⟨upi 0 { mem := some { dst := none, addr := 0x10000000, val := 5, since := 4990 } }, (upi 0 { mem := some { dst := none, addr := 0x10000000, val := 5, since := 4990 } }).advance 5000, 5000, 0, { dst := none, addr := 0x10000000, val := 5, since := 4990 }, 0, (((upi 0 { mem := some { dst := none, addr := 0x10000000, val := 5, since := 4990 } }).advance 5000).busWrite 4 0x10000000 5 15).2, by decide +kernel⟩,
   ⟨upi 0 { mem := some { dst := none, addr := 0x60000000, val := 5, since := 4990 } }, (upi 0 { mem := some { dst := none, addr := 0x60000000, val := 5, since := 4990 } }).advance 5000, 5000, 0, { dst := none, addr := 0x60000000, val := 5, since := 4990 }, (((upi 0 { mem := some { dst := none, addr := 0x60000000, val := 5, since := 4990 } }).advance 5000).busWrite 4 0x60000000 5 15).2, by decide +kernel⟩,
   ⟨upi 0 { mem := some { dst := some 2, addr := 0x60000000, val := 0, since := 4990 } }, (upi 0 { mem := some { dst := some 2, addr := 0x60000000, val := 0, since := 4990 } }).advance 5000, 5000, 0, { dst := some 2, addr := 0x60000000, val := 0, since := 4990 }, 2, (((upi 0 { mem := some { dst := some 2, addr := 0x60000000, val := 0, since := 4990 } }).advance 5000).busRead 4 0x60000000).2, by decide +kernel⟩,
   ⟨{ (upi 0 { mem := some { dst := some 2, addr := 0x50000000, val := 0, since := 4990 } }) with casc := { remDone := [{ m := 4, write := false, addr := 0x50000000, status := 0, data := 9 }] } }, ({ (upi 0 { mem := some { dst := some 2, addr := 0x50000000, val := 0, since := 4990 } }) with casc := { remDone := [{ m := 4, write := false, addr := 0x50000000, status := 0, data := 9 }] } }).advance 5000, 5000, 0, { dst := some 2, addr := 0x50000000, val := 0, since := 4990 }, 2, { m := 4, write := false, addr := 0x50000000, status := 0, data := 9 }, by decide +kernel⟩⟩

/-- States and operands that meet every hypothesis of each clause of ConverterStarts. -/
theorem witness_ConverterStarts :
  (∃ (s a : State) (t : Nat) (x : Conv) (m : Master),
    a = s.advance t ∧ State.corn 2 a = true ∧ a.mayWrite m (0x60 + x) 8 1 1 = true ∧ a.on (PG_CTRL_EN (0x60 + x)) = false ∧ a.cvCheck x = 0) ∧
  (∃ (s a : State) (t : Nat) (x : Conv) (m : Master),
    a = s.advance t ∧ State.corn 2 a = true ∧ a.mayWrite m (0x60 + x) 8 1 1 = true ∧ a.on (PG_CTRL_EN (0x60 + x)) = false ∧ a.cvCheck x ≠ 0) ∧
  (∃ (s a : State) (t : Nat) (x : Conv) (m : Master) (e : Fin 16),
    a = s.advance t ∧ State.corn 2 a = true ∧ cvOk x a = true ∧ a.mayWrite m (0x60 + x) 0x44 (16 * e + 1) 0xFFFFFFFF = true ∧ a.cvState x = 1 ∧ angleKind (a.rd (CBC_ENT_CFG_KIND x e)) (a.rd (CBC_ENT_CFG_LEN x e)) = false) ∧
  (∃ (s a : State) (t : Nat) (x : Conv) (m : Master) (e : Fin 16),
    a = s.advance t ∧ State.corn 2 a = true ∧ cvOk x a = true ∧ a.mayWrite m (0x60 + x) 0x44 (16 * e + 1) 0xFFFFFFFF = true ∧ a.cvState x = 1 ∧ angleKind (a.rd (CBC_ENT_CFG_KIND x e)) (a.rd (CBC_ENT_CFG_LEN x e)) = true) ∧
  (∃ (s a : State) (t : Nat) (x : Conv) (m : Master) (e : Fin 16),
    a = s.advance t ∧ State.corn 2 a = true ∧ cvOk x a = true ∧ a.mayWrite m (0x60 + x) 0x44 (16 * e + 1) 0xFFFFFFFF = true ∧ 2 ≤ a.cvState x ∧ a.on (CBC_CONV_STAT_PEND x) = false ∧ a.ranAfter x a.tb 4 = none) ∧
  (∃ (s a : State) (t : Nat) (x : Conv) (m : Master) (e : Fin 16),
    a = s.advance t ∧ State.corn 2 a = true ∧ cvOk x a = true ∧ a.mayWrite m (0x60 + x) 0x44 (16 * e + 1) 0xFFFFFFFF = true ∧ 2 ≤ a.cvState x ∧ a.on (CBC_CONV_STAT_PEND x) = true ∧ a.ranAfter x a.tb 4 = none ∧ (a.cv x).pendAt.1 ≠ cvCycle a.tb) ∧
  (∃ (s a : State) (t : Nat) (x : Conv) (m : Master) (e : Fin 16) (r : RunO),
    a = s.advance t ∧ State.corn 2 a = true ∧ cvOk x a = true ∧ a.mayWrite m (0x60 + x) 0x44 (16 * e + 1) 0xFFFFFFFF = true ∧ a.cvState x = 3 ∧ (a.cv x).ran = some r ∧ r.cyc = cvCycle a.tb ∧ r.rank = 5 ∧ angleKind (a.rd (CBC_ENT_CFG_KIND x e)) (a.rd (CBC_ENT_CFG_LEN x e)) = false) ∧
  (∃ (s a : State) (t : Nat) (x : Conv) (m : Master) (e : Fin 16),
    a = s.advance t ∧ State.corn 2 a = true ∧ cvOk x a = true ∧ a.mayWrite m (0x60 + x) 0x44 (16 * e + 2) 0xFFFFFFFF = true ∧ a.cvState x = 1 ∧ a.rd (CBC_ENT_CFG_KIND x e) ≤ 1) ∧
  (∃ (s a : State) (t : Nat) (x : Conv) (m : Master) (e : Fin 16),
    a = s.advance t ∧ State.corn 2 a = true ∧ cvOk x a = true ∧ a.mayWrite m (0x60 + x) 0x44 (16 * e + 2) 0xFFFFFFFF = true ∧ ((2 ≤ a.cvState x ∨ (a.cvState x = 1 ∧ 2 ≤ a.rd (CBC_ENT_CFG_KIND x e))))) ∧
  (∃ (s a : State) (t : Nat) (x : Conv) (m : Master) (w : WinO),
    a = s.advance t ∧ State.corn 2 a = true ∧ cvOk x a = true ∧ a.mayWrite m (0x60 + x) 0x44 4 4 = true ∧ a.cvState x = 3 ∧ (a.cv x).win = some w ∧ a.on (CBC_CONV_CFG_MODE x) = false ∧ a.on (CBC_CONV_STAT_PEND x) = false) ∧
  (∃ (s a : State) (t : Nat) (x : Conv),
    a = s.advance t ∧ State.corn 2 a = true ∧ cvOk x a = true ∧ (64 + x.val) ∈ a.rtr.destPending ∧ a.cvState x = 1 ∧ angleKind (a.rd (CBC_ENT_CFG_KIND x (a.rd (CBC_CONV_CFG_RTR_ENTRY x)))) (a.rd (CBC_ENT_CFG_LEN x (a.rd (CBC_CONV_CFG_RTR_ENTRY x)))) = false) ∧
  (∃ (s a : State) (t : Nat) (x : Conv),
    a = s.advance t ∧ State.corn 2 a = true ∧ cvOk x a = true ∧ (64 + x.val) ∈ a.rtr.destPending ∧ 2 ≤ a.cvState x ∧ a.on (CBC_CONV_STAT_PEND x) = false ∧ a.ranAfter x a.tb 3 = none) ∧
  (∃ (s a : State) (t : Nat) (x : Conv),
    a = s.advance t ∧ State.corn 2 a = true ∧ cvOk x a = true ∧ (64 + x.val) ∈ a.rtr.destPending ∧ 2 ≤ a.cvState x ∧ a.on (CBC_CONV_STAT_PEND x) = true ∧ a.ranAfter x a.tb 3 = none ∧ (a.cv x).pendAt = (cvCycle a.tb, 4)) ∧
  (∃ (s a : State) (t : Nat) (x : Conv),
    a = s.advance t ∧ State.corn 2 a = true ∧ cvOk x a = true ∧ (96 + x.val) ∈ a.rtr.destPending ∧ a.cvState x = 1 ∧ a.rd (CBC_ENT_CFG_KIND x (a.rd (CBC_CONV_CTRL_ENTRY x))) ≤ 1) ∧
  (∃ (s a : State) (t : Nat) (x : Conv),
    a = s.advance t ∧ State.corn 2 a = true ∧ cvOk x a = true ∧ (96 + x.val) ∈ a.rtr.destPending ∧ ((2 ≤ a.cvState x ∨ (a.cvState x = 1 ∧ 2 ≤ a.rd (CBC_ENT_CFG_KIND x (a.rd (CBC_CONV_CTRL_ENTRY x))))))) :=
  ⟨⟨upc, (upc).advance 5000, 5000, 0, 3, by decide +kernel⟩,
   ⟨upc.wr (CBC_CONV_CFG_WIN_ENTRY 0) 5, (upc.wr (CBC_CONV_CFG_WIN_ENTRY 0) 5).advance 5000, 5000, 0, 3, by decide +kernel⟩,
   ⟨upv 1 {}, (upv 1 {}).advance 5000, 5000, 0, 3, 2, by decide +kernel⟩,
   ⟨(upv 1 {}).wr (CBC_ENT_CFG_KIND 0 2) 2, ((upv 1 {}).wr (CBC_ENT_CFG_KIND 0 2) 2).advance 5000, 5000, 0, 3, 2, by decide +kernel⟩,
   ⟨upv 3 {}, (upv 3 {}).advance 5000, 5000, 0, 3, 2, by decide +kernel⟩,
   ⟨(upv 3 {}).wr (CBC_CONV_STAT_PEND 0) 1, ((upv 3 {}).wr (CBC_CONV_STAT_PEND 0) 1).advance 5000, 5000, 0, 3, 2, by decide +kernel⟩,
   ⟨upv 3 { win := some { e := 1, t0 := 5000, len := some 400 }, urgent := true, ran := some { cyc := 1000, rank := 5, e := 1 } }, (upv 3 { win := some { e := 1, t0 := 5000, len := some 400 }, urgent := true, ran := some { cyc := 1000, rank := 5, e := 1 } }).advance 5000, 5000, 0, 3, 2, { cyc := 1000, rank := 5, e := 1 }, by decide +kernel⟩,
   ⟨upv 1 {}, (upv 1 {}).advance 5000, 5000, 0, 3, 2, by decide +kernel⟩,
   ⟨upv 3 {}, (upv 3 {}).advance 5000, 5000, 0, 3, 2, by decide +kernel⟩,
   ⟨upv 3 { win := some { e := 2, t0 := 4000 } }, (upv 3 { win := some { e := 2, t0 := 4000 } }).advance 5000, 5000, 0, 3, { e := 2, t0 := 4000 }, by decide +kernel⟩,
   ⟨{ (upv 1 {}) with rtr := { destPending := [64] } }, ({ (upv 1 {}) with rtr := { destPending := [64] } }).advance 5000, 5000, 0, by decide +kernel⟩,
   ⟨{ (upv 3 {}) with rtr := { destPending := [64] } }, ({ (upv 3 {}) with rtr := { destPending := [64] } }).advance 5000, 5000, 0, by decide +kernel⟩,
   ⟨{ ((upv 3 { pendAt := (1000, 4) }).wr (CBC_CONV_STAT_PEND 0) 1) with rtr := { destPending := [64] } }, ({ ((upv 3 { pendAt := (1000, 4) }).wr (CBC_CONV_STAT_PEND 0) 1) with rtr := { destPending := [64] } }).advance 5000, 5000, 0, by decide +kernel⟩,
   ⟨{ (upv 1 {}) with rtr := { destPending := [96] } }, ({ (upv 1 {}) with rtr := { destPending := [96] } }).advance 5000, 5000, 0, by decide +kernel⟩,
   ⟨{ (upv 3 {}) with rtr := { destPending := [96] } }, ({ (upv 3 {}) with rtr := { destPending := [96] } }).advance 5000, 5000, 0, by decide +kernel⟩⟩

/-- States and operands that meet every hypothesis of each clause of ConverterWindows. -/
theorem witness_ConverterWindows :
  (∃ (s a : State) (t : Nat) (x : Conv) (n : Bnd) (r : List Bnd),
    a = s.advance t ∧ State.corn 2 a = true ∧ (a.cv x).bnds = n :: r ∧ n.t + 20 ≤ a.tb ∧ a.cvState x = 2 ∧ n.start = none ∧ n.stop = false) ∧
  (∃ (s a : State) (t : Nat) (x : Conv) (n : Bnd) (r : List Bnd) (w : WinO),
    a = s.advance t ∧ State.corn 2 a = true ∧ (a.cv x).bnds = n :: r ∧ n.t + 20 ≤ a.tb ∧ a.cvState x = 3 ∧ (a.cv x).angled = true ∧ (a.cv x).win = some w ∧ n.start = none ∧ n.stop = false ∧ ((a.cv x).left.map fun l => decide (l ≤ 1)) ≠ some true ∧ a.on (CBC_BAND_TAP_EN x) = false) ∧
  (∃ (s a : State) (t : Nat) (x : Conv) (w : WinO) (n : Nat),
    a = s.advance t ∧ State.corn 2 a = true ∧ cvOk x a = true ∧ (a.cv x).win = some w ∧ w.len = some n ∧ w.t0 + n ≤ a.tb) ∧
  (∃ (s a : State) (t : Nat) (x : Conv) (w : WinO),
    a = s.advance t ∧ State.corn 2 a = true ∧ cvOk x a = true ∧ (a.cv x).win = some w ∧ w.len = none ∧ w.merged = false ∧ w.late = false ∧ w.t0 + 400 * max 1 (a.rd (CBC_ANG_LIM_MAX x)) ≤ a.tb) ∧
  (∃ (s a : State) (t : Nat) (x : Conv) (raw : Int) (w : WinC) (r : List WinC),
    a = s.advance t ∧ State.corn 2 a = true ∧ cvOk x a = true ∧ (a.cv x).closed = w :: r ∧ w.e < 16 ∧ w.filt = 0 ∧ w.band = false ∧ w.len ≠ 0 ∧ w.cause = 0 ∧ w.settle = 0) ∧
  (∃ (s a : State) (t : Nat) (x : Conv) (m : Master) (e : Fin 16),
    a = s.advance t ∧ State.corn 2 a = true ∧ a.mayRead m (0x60 + x) (0x200 + 4 * e) = true ∧ a.on (PG_CTRL_FREEZE (0x60 + x)) = false) :=
  ⟨⟨upv 2 { kind := 2, bnds := [{ t := 4000 }] }, (upv 2 { kind := 2, bnds := [{ t := 4000 }] }).advance 500000, 500000, 0, { t := 4000 }, [], by decide +kernel⟩,
   ⟨upv 3 { kind := 2, bnds := [{ t := 4000, idx := 7 }], win := some { e := 2, t0 := 1000 } }, (upv 3 { kind := 2, bnds := [{ t := 4000, idx := 7 }], win := some { e := 2, t0 := 1000 } }).advance 500000, 500000, 0, { t := 4000, idx := 7 }, [], { e := 2, t0 := 1000 }, by decide +kernel⟩,
   ⟨upv 3 { left := some 1, win := some { e := 2, t0 := 1000, len := some 400 } }, (upv 3 { left := some 1, win := some { e := 2, t0 := 1000, len := some 400 } }).advance 500000, 500000, 0, { e := 2, t0 := 1000, len := some 400 }, 400, by decide +kernel⟩,
   ⟨(upv 3 { kind := 2, win := some { e := 2, t0 := 1000 } }).wr (CBC_ANG_LIM_MAX 0) 10, ((upv 3 { kind := 2, win := some { e := 2, t0 := 1000 } }).wr (CBC_ANG_LIM_MAX 0) 10).advance 500000, 500000, 0, { e := 2, t0 := 1000 }, by decide +kernel⟩,
   ⟨upv 1 { closed := [{ e := 2, bidx := 3, t1 := 400000, len := 4000, cause := 0 }] }, (upv 1 { closed := [{ e := 2, bidx := 3, t1 := 400000, len := 4000, cause := 0 }] }).advance 500000, 500000, 0, 1000, { e := 2, bidx := 3, t1 := 400000, len := 4000, cause := 0 }, [], by decide +kernel⟩,
   ⟨upv 1 {}, (upv 1 {}).advance 500000, 500000, 0, 3, 2, by decide +kernel⟩⟩

/-- States and operands that meet every hypothesis of each clause of ReferenceMainsCalibration. -/
theorem witness_ReferenceMainsCalibration :
  (∃ (s a : State) (t : Nat) (m : Master),
    a = s.advance t ∧ State.corn 2 a = true ∧ a.mayWrite m 0x60 0xF0 1 0xFFFFFFFF = true ∧ a.on (CBC_VREF_CTRL_EN 0) = false) ∧
  (∃ (s a : State) (t : Nat) (m : Master),
    a = s.advance t ∧ State.corn 2 a = true ∧ a.mayWrite m 0x60 0xF0 0 0xFFFFFFFF = true) ∧
  (∃ (s a : State) (t : Nat),
    a = s.advance t ∧ State.corn 2 a = true ∧ a.on (CBC_VREF_CTRL_EN 0) = true ∧ a.on (CBC_VREF_STAT_WARM 0) = false ∧ a.pwr.vrefSince + 800000 ≤ a.tb) ∧
  (∃ (s a : State) (t : Nat) (ok : Bool),
    a = s.advance t ∧ State.corn 2 a = true ∧ a.on (CBC_VREF_STAT_OK 0) ≠ ok) ∧
  (∃ (s a : State) (t : Nat) (l : Nat),
    a = s.advance t ∧ State.corn 2 a = true ∧ a.on (CBC_MAINS_CFG_EN 0) = true ∧ a.mains.last = some l ∧ 5000000 ≤ a.tb - l ∧ a.tb - l ≤ 10000000 ∧ 3 ≤ a.mains.per.length) ∧
  (∃ (s a : State) (t : Nat) (l : Nat),
    a = s.advance t ∧ State.corn 2 a = true ∧ a.on (CBC_MAINS_CFG_EN 0) = true ∧ a.mains.last = some l ∧ ((a.tb - l < 5000000 ∨ 10000000 < a.tb - l))) ∧
  (∃ (s a : State) (t : Nat) (l : Nat),
    a = s.advance t ∧ State.corn 2 a = true ∧ a.on (CBC_MAINS_CFG_EN 0) = true ∧ a.mains.last = some l ∧ l + 20000000 ≤ a.tb) ∧
  (∃ (s a : State) (t : Nat) (x : Conv) (m : Master) (p : Bool),
    a = s.advance t ∧ State.corn 2 a = true ∧ a.mayWrite m (0x60 + x) 0x60 (2 ^ 31 + 256 * b2n p) (2 ^ 31 + 256) = true ∧ a.runs (calTask x) = false ∧ a.waits (calTask x) = false ∧ a.maint.run.any (a.blocks (calTask x)) = false ∧ a.maint.wait.any (a.blocks (calTask x)) = false) ∧
  (∃ (s a : State) (t : Nat) (x : Conv) (m : Master) (p : Bool),
    a = s.advance t ∧ State.corn 2 a = true ∧ a.mayWrite m (0x60 + x) 0x60 (2 ^ 31 + 256 * b2n p) (2 ^ 31 + 256) = true ∧ a.runs (calTask x) = false ∧ a.waits (calTask x) = false ∧ ((a.maint.run.any (a.blocks (calTask x)) = true ∨ a.maint.wait.any (a.blocks (calTask x)) = true))) ∧
  (∃ (s a : State) (t : Nat) (x : Conv),
    a = s.advance t ∧ State.corn 2 a = true ∧ cvOk x a = true ∧ a.runs (calTask x) = true ∧ (a.cv x).calFrom = none ∧ ((a.cvState x = 1 ∨ a.on (CBC_CAL_CTRL_PREEMPT x) = true ∧ (a.cvState x = 2 ∨ a.cvState x = 3)))) ∧
  (∃ (s a : State) (t : Nat) (x : Conv) (f : Nat) (raws : List (Int × Int)),
    a = s.advance t ∧ State.corn 2 a = true ∧ cvOk x a = true ∧ (a.cv x).calFrom = some f ∧ f + 2120000 ≤ a.tb ∧ a.cvState x = 4 ∧ a.calBad x raws = none) ∧
  (∃ (s a : State) (t : Nat) (x : Conv) (f g : Nat) (raws : List (Int × Int)),
    a = s.advance t ∧ State.corn 2 a = true ∧ cvOk x a = true ∧ (a.cv x).calFrom = some f ∧ f + 2120000 ≤ a.tb ∧ a.cvState x = 4 ∧ a.calBad x raws = some g) ∧
  (∃ (s a : State) (t : Nat) (x : Conv) (m : Master),
    a = s.advance t ∧ State.corn 2 a = true ∧ a.mayWrite m (0x60 + x) 0x60 (2 ^ 30) (2 ^ 30) = true ∧ ((a.runs (calTask x) = true ∨ a.waits (calTask x) = true))) :=
  ⟨⟨upv 1 {}, (upv 1 {}).advance 25000000, 25000000, 3, by decide +kernel⟩,
   ⟨upv 1 {}, (upv 1 {}).advance 25000000, 25000000, 3, by decide +kernel⟩,
   ⟨upc.wr (CBC_VREF_CTRL_EN 0) 1, (upc.wr (CBC_VREF_CTRL_EN 0) 1).advance 25000000, 25000000, by decide +kernel⟩,
   ⟨upv 1 {}, (upv 1 {}).advance 25000000, 25000000, false, by decide +kernel⟩,
   ⟨{ (upc.wr (CBC_MAINS_CFG_EN 0) 1) with mains := { last := some 17000000, per := [8000000, 8000000, 8000000] } }, ({ (upc.wr (CBC_MAINS_CFG_EN 0) 1) with mains := { last := some 17000000, per := [8000000, 8000000, 8000000] } }).advance 25000000, 25000000, 17000000, by decide +kernel⟩,
   ⟨{ (upc.wr (CBC_MAINS_CFG_EN 0) 1) with mains := { last := some 1000 } }, ({ (upc.wr (CBC_MAINS_CFG_EN 0) 1) with mains := { last := some 1000 } }).advance 25000000, 25000000, 1000, by decide +kernel⟩,
   ⟨{ (upc.wr (CBC_MAINS_CFG_EN 0) 1) with mains := { last := some 1000 } }, ({ (upc.wr (CBC_MAINS_CFG_EN 0) 1) with mains := { last := some 1000 } }).advance 25000000, 25000000, 1000, by decide +kernel⟩,
   ⟨upv 1 {}, (upv 1 {}).advance 25000000, 25000000, 0, 3, true, by decide +kernel⟩,
   ⟨{ (upv 1 {}) with maint := { run := [{ act := 5, target := 0 }] } }, ({ (upv 1 {}) with maint := { run := [{ act := 5, target := 0 }] } }).advance 25000000, 25000000, 0, 3, true, by decide +kernel⟩,
   ⟨{ (upv 1 {}) with maint := { run := [{ act := 4, target := 0 }] } }, ({ (upv 1 {}) with maint := { run := [{ act := 4, target := 0 }] } }).advance 25000000, 25000000, 0, by decide +kernel⟩,
   ⟨{ (upv 4 { calFrom := some 1000 }) with maint := { run := [{ act := 4, target := 0 }] } }, ({ (upv 4 { calFrom := some 1000 }) with maint := { run := [{ act := 4, target := 0 }] } }).advance 25000000, 25000000, 0, 1000, List.replicate 5 (0, 6710886), by decide +kernel⟩,
   ⟨{ (upv 4 { calFrom := some 1000 }) with maint := { run := [{ act := 4, target := 0 }] } }, ({ (upv 4 { calFrom := some 1000 }) with maint := { run := [{ act := 4, target := 0 }] } }).advance 25000000, 25000000, 0, 1000, 0, [], by decide +kernel⟩,
   ⟨{ (upv 4 { calFrom := some 1000 }) with maint := { run := [{ act := 4, target := 0 }] } }, ({ (upv 4 { calFrom := some 1000 }) with maint := { run := [{ act := 4, target := 0 }] } }).advance 25000000, 25000000, 0, 3, by decide +kernel⟩⟩

/-- States and operands that meet every hypothesis of each clause of Comparators. -/
theorem witness_Comparators :
  (∃ (s a : State) (t : Nat) (m : Master) (n : Comp) (v : Word) (i : Bool),
    a = s.advance t ∧ State.core 2 a = true ∧ a.tbOn = true ∧ a.mayWrite m 0x80 (0x100 + 0x10 * n) v.toNat 0xFFFFFFFF = true ∧ a.cmpOwned n = false ∧ a.on (CMP_CMP_CFG_EN n) = false ∧ bit v.toNat 31 = true) ∧
  (∃ (s a : State) (t : Nat) (m : Master) (n : Comp) (v : Word),
    a = s.advance t ∧ State.core 2 a = true ∧ a.tbOn = true ∧ a.mayWrite m 0x80 (0x104 + 0x10 * n) v.toNat 0xFFFFFFFF = true ∧ a.cmpOwned n = false) ∧
  (∃ (s a : State) (t : Nat) (m : Master) (n : Comp) (v : Word),
    a = s.advance t ∧ State.core 2 a = true ∧ a.tbOn = true ∧ a.mayWrite m 0x80 (0x104 + 0x10 * n) v.toNat 0xFFFFFFFF = true ∧ a.cmpOwned n = true) ∧
  (∃ (s a : State) (t : Nat) (n : Comp),
    a = s.advance t ∧ State.core 2 a = true ∧ a.tbOn = true ∧ a.cmpLive n = true ∧ a.cmpSampled n = false ∧ (a.cmp n).lvl = false) ∧
  (∃ (s a : State) (t : Nat) (n : Comp),
    a = s.advance t ∧ State.core 2 a = true ∧ a.tbOn = true ∧ a.cmpLive n = true ∧ a.cmpSampled n = false) ∧
  (∃ (s a : State) (t : Nat) (n : Comp) (lvl : Bool) (f : Nat),
    a = s.advance t ∧ State.core 2 a = true ∧ a.tbOn = true ∧ a.cmpLive n = true ∧ (a.cmp n).win = some f ∧ f + 800 ≤ a.tb) ∧
  (∃ (s a : State) (t : Nat) (n : Comp) (act : Bool),
    a = s.advance t ∧ State.core 2 a = true ∧ a.tbOn = true ∧ a.cmpRuns n = true ∧ a.on (CBC_VREF_STAT_OK 0) = true ∧ (a.cmp n).unres = true) ∧
  (∃ (s a : State) (t : Nat) (m : Master),
    a = s.advance t ∧ State.core 2 a = true ∧ a.tbOn = true ∧ a.mayWrite m 0x80 0x50 0x80000000 0x80000000 = true ∧ a.runs cmpTask = false ∧ a.waits cmpTask = false ∧ (a.taskReq cmpTask).runs cmpTask = false) ∧
  (∃ (s a : State) (t : Nat) (m : Master),
    a = s.advance t ∧ State.core 2 a = true ∧ a.tbOn = true ∧ a.mayWrite m 0x80 0x50 0x80000000 0x80000000 = true ∧ a.runs cmpTask = false ∧ a.waits cmpTask = false ∧ (a.taskReq cmpTask).runs cmpTask = true) ∧
  (∃ (s a : State) (t : Nat) (x : CmpTest) (n : Comp) (raw : Bool),
    a = s.advance t ∧ State.core 2 a = true ∧ a.tbOn = true ∧ a.cmpTest = some x ∧ x.cur = some n.val ∧ x.since + 400 ≤ a.tb ∧ x.step < 4 ∧ a.cmpCheck n x.step raw = true) ∧
  (∃ (s a : State) (t : Nat) (x : CmpTest) (n : Comp) (raw : Bool),
    a = s.advance t ∧ State.core 2 a = true ∧ a.tbOn = true ∧ a.cmpTest = some x ∧ x.cur = some n.val ∧ x.since + 400 ≤ a.tb ∧ x.step < 4 ∧ a.cmpCheck n x.step raw = false ∧ x.bad = false ∧ a.cmpOwned n = false) ∧
  (∃ (s a : State) (t : Nat) (m : Master),
    a = s.advance t ∧ State.core 2 a = true ∧ a.tbOn = true ∧ a.mayWrite m 0x80 0x50 0x40000000 0x40000000 = true ∧ ((a.runs cmpTask = true ∨ a.waits cmpTask = true))) :=
  ⟨⟨upv 1 {}, (upv 1 {}).advance 5000, 5000, 3, 1, 0x80000000, true, by decide +kernel⟩,
   ⟨upv 1 {}, (upv 1 {}).advance 5000, 5000, 3, 1, 300, by decide +kernel⟩,
   ⟨(upv 1 {}).wr (PG_CTRL_EN 0x40) 1, ((upv 1 {}).wr (PG_CTRL_EN 0x40) 1).advance 5000, 5000, 3, 1, 300, by decide +kernel⟩,
   ⟨((upv 1 {}).wr (CMP_CMP_CFG_EN 1) 1), (((upv 1 {}).wr (CMP_CMP_CFG_EN 1) 1)).advance 5000, 5000, 1, by decide +kernel⟩,
   ⟨((upv 1 {}).wr (CMP_CMP_CFG_EN 1) 1), (((upv 1 {}).wr (CMP_CMP_CFG_EN 1) 1)).advance 5000, 5000, 1, by decide +kernel⟩,
   ⟨(((upv 1 {}).wr (CMP_CMP_CFG_EN 1) 1)).setCmp 1 { win := some 1000 }, ((((upv 1 {}).wr (CMP_CMP_CFG_EN 1) 1)).setCmp 1 { win := some 1000 }).advance 5000, 5000, 1, true, 1000, by decide +kernel⟩,
   ⟨(((upv 1 {}).wr (CMP_CMP_CFG_EN 1) 1)).setCmp 1 { unres := true }, ((((upv 1 {}).wr (CMP_CMP_CFG_EN 1) 1)).setCmp 1 { unres := true }).advance 5000, 5000, 1, true, by decide +kernel⟩,
   ⟨{ (upv 1 {}) with maint := { run := [{ act := 4, target := 0 }] } }, ({ (upv 1 {}) with maint := { run := [{ act := 4, target := 0 }] } }).advance 5000, 5000, 3, by decide +kernel⟩,
   ⟨((upv 1 {}).wr (CMP_CMP_CFG_EN 1) 1), (((upv 1 {}).wr (CMP_CMP_CFG_EN 1) 1)).advance 5000, 5000, 3, by decide +kernel⟩,
   ⟨{ ((upv 1 {}).wr (CMP_CMP_CFG_EN 1) 1) with cmpTest := some { queue := [], cur := some 1, step := 1, since := 4000 } }, ({ ((upv 1 {}).wr (CMP_CMP_CFG_EN 1) 1) with cmpTest := some { queue := [], cur := some 1, step := 1, since := 4000 } }).advance 5000, 5000, { queue := [], cur := some 1, step := 1, since := 4000 }, 1, false, by decide +kernel⟩,
   ⟨{ (((upv 1 {}).wr (CMP_CMP_CFG_EN 1) 1).wr (CMP_CMP_REF_REF 1) 500) with cmpTest := some { queue := [], cur := some 1, step := 1, since := 4000 } }, ({ (((upv 1 {}).wr (CMP_CMP_CFG_EN 1) 1).wr (CMP_CMP_REF_REF 1) 500) with cmpTest := some { queue := [], cur := some 1, step := 1, since := 4000 } }).advance 5000, 5000, { queue := [], cur := some 1, step := 1, since := 4000 }, 1, true, by decide +kernel⟩,
   ⟨{ ((upv 1 {}).wr (CMP_CMP_CFG_EN 1) 1) with cmpTest := some { queue := [], cur := some 1, step := 1, since := 4000 }, maint := { run := [{ act := 5, target := 0 }] } }, ({ ((upv 1 {}).wr (CMP_CMP_CFG_EN 1) 1) with cmpTest := some { queue := [], cur := some 1, step := 1, since := 4000 }, maint := { run := [{ act := 5, target := 0 }] } }).advance 5000, 5000, 3, by decide +kernel⟩⟩

/-- States and operands that meet every hypothesis of each clause of CylinderRecords. -/
theorem witness_CylinderRecords :
  (∃ (s a : State) (t : Nat) (k : Cyl) (m : Master),
    a = s.advance t ∧ State.corn 2 a = true ∧ a.mayWrite m (cylPage k) 8 1 1 = true ∧ a.cylOn k = false ∧ a.cylCheck k = 0) ∧
  (∃ (s a : State) (t : Nat) (k : Cyl) (m : Master),
    a = s.advance t ∧ State.corn 2 a = true ∧ a.mayWrite m (cylPage k) 8 1 1 = true ∧ a.cylOn k = false ∧ a.cylCheck k ≠ 0) ∧
  (∃ (s a : State) (t : Nat) (k : Cyl) (it : CmuIn) (u : State) (n q p : Nat),
    a = s.advance t ∧ State.corn 2 a = true ∧ u = a.macSettle.cmuAbsorb ∧ (u.cmuIn.find? fun y => u.cylOf y == some k.val) = some it ∧ n = u.cylN k ∧ it.bidx ≠ 0xFFF ∧ it.bidx < n ∧ q = (u.rd (CYL_WIN_B0 k) + it.bidx + n - 1) % n ∧ p = (q + 3 * (n / 4)) % n ∧ u.grantable 60 8 = true ∧ (u.cyl k).open_ = none ∧ p ≠ n - 1) ∧
  (∃ (s a : State) (t : Nat) (k : Cyl) (it : CmuIn) (u : State) (n q p : Nat) (r : CylRec) (y : Smp) (l : List Smp),
    a = s.advance t ∧ State.corn 2 a = true ∧ u = a.macSettle.cmuAbsorb ∧ (u.cmuIn.find? fun y => u.cylOf y == some k.val) = some it ∧ n = u.cylN k ∧ it.bidx ≠ 0xFFF ∧ it.bidx < n ∧ q = (u.rd (CYL_WIN_B0 k) + it.bidx + n - 1) % n ∧ p = (q + 3 * (n / 4)) % n ∧ u.grantable 60 8 = true ∧ (u.cyl k).open_ = some r ∧ r.smps = y :: l ∧ y.o < p ∧ p ≠ n - 1) ∧
  (∃ (s a : State) (t : Nat) (k : Cyl) (it : CmuIn) (u : State) (n : Nat),
    a = s.advance t ∧ State.corn 2 a = true ∧ u = a.macSettle.cmuAbsorb ∧ (u.cmuIn.find? fun y => u.cylOf y == some k.val) = some it ∧ n = u.cylN k ∧ ((it.bidx = 0xFFF ∨ n ≤ it.bidx)) ∧ u.grantable 60 8 = true) ∧
  (∃ (s a : State) (t : Nat) (k : Cyl) (it : CmuIn) (u : State),
    a = s.advance t ∧ State.corn 2 a = true ∧ u = a.macSettle.cmuAbsorb ∧ (u.cmuIn.find? fun y => u.cylOf y == some k.val) = some it ∧ u.grantable 60 8 = false) ∧
  (∃ (s a : State) (t : Nat) (k : Cyl) (f : Nat) (can : Bool) (r : List (Nat × Nat × Bool)),
    a = s.advance t ∧ State.corn 2 a = true ∧ (a.cyl k).marks = (0, f, can) :: r) ∧
  (∃ (s a : State) (t : Nat) (k : Cyl) (u : State) (f : Nat) (can : Bool) (r : List (Nat × Nat × Bool)),
    a = s.advance t ∧ State.corn 2 a = true ∧ u = a.cmuAbsorb ∧ (u.cyl k).marks = (1, f, can) :: r ∧ ((can = true ∨ (u.cyl k).pegBad = true))) ∧
  (∃ (s a : State) (t : Nat) (k : Cyl) (u : State) (f f0 : Nat) (r : List (Nat × Nat × Bool)) (v : Int) (ms ps : List Int),
    a = s.advance t ∧ State.corn 2 a = true ∧ u = a.cmuAbsorb ∧ (u.cyl k).marks = (1, f, false) :: r ∧ (u.cyl k).pegBad = false ∧ (u.cyl k).pegOpen = some f0 ∧ ms = (u.cmu.map.filter fun e => decide (f0 < e.1) && decide (e.1 ≤ f)).map (·.2) ∧ ps = u.pegSamples k f0 f ∧ ms ≠ [] ∧ ps ≠ [] ∧ roundDiv (((ms.map fun y => (y - toS 24 (u.rd CMU_MAP_ZERO_ZERO)) * (u.rd CMU_MAP_SCALE_SCALE : Int)).sum) * ps.length - ps.sum * ms.length) (ms.length * ps.length * 2 ^ 8 : Int) = some v ∧ -(2 ^ 31 : Int) ≤ v ∧ v < 2 ^ 31) ∧
  (∃ (s a : State) (t : Nat) (k : Cyl) (u : State) (f : Nat) (can : Bool) (r : List (Nat × Nat × Bool)) (d : CylRec) (y : Smp) (l : List Smp),
    a = s.advance t ∧ State.corn 2 a = true ∧ u = a.cmuAbsorb ∧ (u.cyl k).marks = (2, f, can) :: r ∧ (u.cyl k).open_ = some d ∧ d.smps = y :: l) ∧
  (∃ (s a : State) (t : Nat) (k : Cyl) (d : CylRec) (r : List (Nat × CylRec)) (u v : State) (y : CylMet),
    a = s.advance t ∧ State.corn 2 a = true ∧ v = a.macSettle ∧ v.cmu.closeQ = (k.val, d) :: r ∧ v.cmu.left.headD 0 = 0 ∧ u = State.cylPost { v with cmu := { v.cmu with closeQ := r, left := v.cmu.left.tail } } k ∧ y = (u.metrics k d d.scale d.gamma d.hrMin).1) ∧
  (∃ (s a : State) (t : Nat) (k : Cyl) (f w x n : Nat) (r : List Nat),
    a = s.advance t ∧ State.corn 2 a = true ∧ (a.cyl k).post = some (f, w :: r) ∧ a.postDue k = true ∧ x = a.rd CMU_CMU_CFG_PORT ∧ n = a.rd CMU_CMU_CFG_QUEUE ∧ a.mbqFits x n (1 + r.length) = true) ∧
  (∃ (s a : State) (t : Nat) (k : Cyl) (f w x n : Nat) (r : List Nat),
    a = s.advance t ∧ State.corn 2 a = true ∧ (a.cyl k).post = some (f, w :: r) ∧ a.postDue k = true ∧ x = a.rd CMU_CMU_CFG_PORT ∧ n = a.rd CMU_CMU_CFG_QUEUE ∧ a.mbqFits x n (1 + r.length) = false) ∧
  (∃ (s a : State) (t : Nat) (k : Cyl) (m : Master) (d : CylRec) (i : Fin 32),
    a = s.advance t ∧ State.corn 2 a = true ∧ a.mayWrite m 0x88 0x78 (0x80000000 + i) 0xFFFFFFFF = true ∧ i.val < 24 ∧ (a.cyl i).last = some d) ∧
  (∃ (s a : State) (t : Nat) (k : Cyl) (m : Master) (i : Fin 32),
    a = s.advance t ∧ State.corn 2 a = true ∧ a.mayWrite m 0x88 0x78 (0x80000000 + i) 0xFFFFFFFF = true ∧ ((24 ≤ i.val ∨ (a.cyl i).last = none))) ∧
  (∃ (s a : State) (t : Nat) (k : Cyl) (d : CylRec) (j : Nat),
    a = s.advance t ∧ State.corn 2 a = true ∧ a.cmu.rc = some (j, d) ∧ a.macSettle.cmu.rcLeft = 0 ∧ ((a.cyl j).buf.any fun e => decide (d.n < e.2.1)) = true) ∧
  (∃ (s a : State) (t : Nat) (k : Cyl) (d : CylRec) (j : Nat),
    a = s.advance t ∧ State.corn 2 a = true ∧ a.cmu.rc = some (j, d) ∧ a.macSettle.cmu.rcLeft = 0 ∧ ((a.cyl j).buf.any fun e => decide (d.n < e.2.1)) = false) :=
  ⟨⟨[(CYL_CFG_CBC 1, 3), (CYL_CFG_GRID 1, 4), (CYL_WIN_ANA_LO 1, 0xFFD0), (CYL_HRW_HR_LO 1, 0xFFE0), (CYL_HRW_HR_HI 1, 20), (CYL_GAMMA_GAMMA 1, 20000), (CYL_Q_LIM_STEP 1, 5), (CYL_A_STEP_STEP 1, 5), (CYL_Q_LIM_LIM 1, 50), (CYL_A_LIM_LIM 1, 50), (CMU_VOL_STAT_VALID, 1), (CYL_DST_Q_CH 1, 255), (CYL_DST_A_CH 1, 255)].foldl (fun z y => z.wr y.1 y.2) upc, ([(CYL_CFG_CBC 1, 3), (CYL_CFG_GRID 1, 4), (CYL_WIN_ANA_LO 1, 0xFFD0), (CYL_HRW_HR_LO 1, 0xFFE0), (CYL_HRW_HR_HI 1, 20), (CYL_GAMMA_GAMMA 1, 20000), (CYL_Q_LIM_STEP 1, 5), (CYL_A_STEP_STEP 1, 5), (CYL_Q_LIM_LIM 1, 50), (CYL_A_LIM_LIM 1, 50), (CMU_VOL_STAT_VALID, 1), (CYL_DST_Q_CH 1, 255), (CYL_DST_A_CH 1, 255)].foldl (fun z y => z.wr y.1 y.2) upc).advance 5000, 5000, 1, 3, by decide +kernel⟩,
   ⟨upc, (upc).advance 5000, 5000, 1, 3, by decide +kernel⟩,
   ⟨[(CYL_CFG_CBC 1, 3), (CYL_CFG_ENT 1, 2), (CYL_CFG_GRID 1, 4), (PG_CTRL_EN 0x91, 1)].foldl (fun z y => z.wr y.1 y.2) ({ upc with cmuIn := [{ x := 3, e := 2, bidx := 9, valid := true, settle := 0, cause := 0, wlen := 9, v := 5, t := 100 }] } : State), ([(CYL_CFG_CBC 1, 3), (CYL_CFG_ENT 1, 2), (CYL_CFG_GRID 1, 4), (PG_CTRL_EN 0x91, 1)].foldl (fun z y => z.wr y.1 y.2) ({ upc with cmuIn := [{ x := 3, e := 2, bidx := 9, valid := true, settle := 0, cause := 0, wlen := 9, v := 5, t := 100 }] } : State)).advance 5000, 5000, 1, { x := 3, e := 2, bidx := 9, valid := true, settle := 0, cause := 0, wlen := 9, v := 5, t := 100 }, ((([(CYL_CFG_CBC 1, 3), (CYL_CFG_ENT 1, 2), (CYL_CFG_GRID 1, 4), (PG_CTRL_EN 0x91, 1)].foldl (fun z y => z.wr y.1 y.2) ({ upc with cmuIn := [{ x := 3, e := 2, bidx := 9, valid := true, settle := 0, cause := 0, wlen := 9, v := 5, t := 100 }] } : State)).advance 5000).macSettle.cmuAbsorb), (((([(CYL_CFG_CBC 1, 3), (CYL_CFG_ENT 1, 2), (CYL_CFG_GRID 1, 4), (PG_CTRL_EN 0x91, 1)].foldl (fun z y => z.wr y.1 y.2) ({ upc with cmuIn := [{ x := 3, e := 2, bidx := 9, valid := true, settle := 0, cause := 0, wlen := 9, v := 5, t := 100 }] } : State)).advance 5000).macSettle.cmuAbsorb).cylN 1), ((((([(CYL_CFG_CBC 1, 3), (CYL_CFG_ENT 1, 2), (CYL_CFG_GRID 1, 4), (PG_CTRL_EN 0x91, 1)].foldl (fun z y => z.wr y.1 y.2) ({ upc with cmuIn := [{ x := 3, e := 2, bidx := 9, valid := true, settle := 0, cause := 0, wlen := 9, v := 5, t := 100 }] } : State)).advance 5000).macSettle.cmuAbsorb).rd (CYL_WIN_B0 1) + 9 + (((([(CYL_CFG_CBC 1, 3), (CYL_CFG_ENT 1, 2), (CYL_CFG_GRID 1, 4), (PG_CTRL_EN 0x91, 1)].foldl (fun z y => z.wr y.1 y.2) ({ upc with cmuIn := [{ x := 3, e := 2, bidx := 9, valid := true, settle := 0, cause := 0, wlen := 9, v := 5, t := 100 }] } : State)).advance 5000).macSettle.cmuAbsorb).cylN 1) - 1) % (((([(CYL_CFG_CBC 1, 3), (CYL_CFG_ENT 1, 2), (CYL_CFG_GRID 1, 4), (PG_CTRL_EN 0x91, 1)].foldl (fun z y => z.wr y.1 y.2) ({ upc with cmuIn := [{ x := 3, e := 2, bidx := 9, valid := true, settle := 0, cause := 0, wlen := 9, v := 5, t := 100 }] } : State)).advance 5000).macSettle.cmuAbsorb).cylN 1)), ((((((([(CYL_CFG_CBC 1, 3), (CYL_CFG_ENT 1, 2), (CYL_CFG_GRID 1, 4), (PG_CTRL_EN 0x91, 1)].foldl (fun z y => z.wr y.1 y.2) ({ upc with cmuIn := [{ x := 3, e := 2, bidx := 9, valid := true, settle := 0, cause := 0, wlen := 9, v := 5, t := 100 }] } : State)).advance 5000).macSettle.cmuAbsorb).rd (CYL_WIN_B0 1) + 9 + (((([(CYL_CFG_CBC 1, 3), (CYL_CFG_ENT 1, 2), (CYL_CFG_GRID 1, 4), (PG_CTRL_EN 0x91, 1)].foldl (fun z y => z.wr y.1 y.2) ({ upc with cmuIn := [{ x := 3, e := 2, bidx := 9, valid := true, settle := 0, cause := 0, wlen := 9, v := 5, t := 100 }] } : State)).advance 5000).macSettle.cmuAbsorb).cylN 1) - 1) % (((([(CYL_CFG_CBC 1, 3), (CYL_CFG_ENT 1, 2), (CYL_CFG_GRID 1, 4), (PG_CTRL_EN 0x91, 1)].foldl (fun z y => z.wr y.1 y.2) ({ upc with cmuIn := [{ x := 3, e := 2, bidx := 9, valid := true, settle := 0, cause := 0, wlen := 9, v := 5, t := 100 }] } : State)).advance 5000).macSettle.cmuAbsorb).cylN 1)) + 3 * ((((([(CYL_CFG_CBC 1, 3), (CYL_CFG_ENT 1, 2), (CYL_CFG_GRID 1, 4), (PG_CTRL_EN 0x91, 1)].foldl (fun z y => z.wr y.1 y.2) ({ upc with cmuIn := [{ x := 3, e := 2, bidx := 9, valid := true, settle := 0, cause := 0, wlen := 9, v := 5, t := 100 }] } : State)).advance 5000).macSettle.cmuAbsorb).cylN 1) / 4)) % (((([(CYL_CFG_CBC 1, 3), (CYL_CFG_ENT 1, 2), (CYL_CFG_GRID 1, 4), (PG_CTRL_EN 0x91, 1)].foldl (fun z y => z.wr y.1 y.2) ({ upc with cmuIn := [{ x := 3, e := 2, bidx := 9, valid := true, settle := 0, cause := 0, wlen := 9, v := 5, t := 100 }] } : State)).advance 5000).macSettle.cmuAbsorb).cylN 1)), by decide +kernel⟩,
   ⟨(([(CYL_CFG_CBC 1, 3), (CYL_CFG_ENT 1, 2), (CYL_CFG_GRID 1, 4), (PG_CTRL_EN 0x91, 1)].foldl (fun z y => z.wr y.1 y.2) ({ upc with cmuIn := [{ x := 3, e := 2, bidx := 9, valid := true, settle := 0, cause := 0, wlen := 9, v := 5, t := 100 }] } : State)) : State).modCyl 1 fun z => { z with open_ := some { n := 1, first := 0, inc := false, scale := 256, hrMin := 0, knkLim := 0, smps := [{ o := 1, v := 1, valid := true, settle := 0, cause := 0 }] } }, ((([(CYL_CFG_CBC 1, 3), (CYL_CFG_ENT 1, 2), (CYL_CFG_GRID 1, 4), (PG_CTRL_EN 0x91, 1)].foldl (fun z y => z.wr y.1 y.2) ({ upc with cmuIn := [{ x := 3, e := 2, bidx := 9, valid := true, settle := 0, cause := 0, wlen := 9, v := 5, t := 100 }] } : State)) : State).modCyl 1 fun z => { z with open_ := some { n := 1, first := 0, inc := false, scale := 256, hrMin := 0, knkLim := 0, smps := [{ o := 1, v := 1, valid := true, settle := 0, cause := 0 }] } }).advance 5000, 5000, 1, { x := 3, e := 2, bidx := 9, valid := true, settle := 0, cause := 0, wlen := 9, v := 5, t := 100 }, ((((([(CYL_CFG_CBC 1, 3), (CYL_CFG_ENT 1, 2), (CYL_CFG_GRID 1, 4), (PG_CTRL_EN 0x91, 1)].foldl (fun z y => z.wr y.1 y.2) ({ upc with cmuIn := [{ x := 3, e := 2, bidx := 9, valid := true, settle := 0, cause := 0, wlen := 9, v := 5, t := 100 }] } : State)) : State).modCyl 1 fun z => { z with open_ := some { n := 1, first := 0, inc := false, scale := 256, hrMin := 0, knkLim := 0, smps := [{ o := 1, v := 1, valid := true, settle := 0, cause := 0 }] } }).advance 5000).macSettle.cmuAbsorb), (((((([(CYL_CFG_CBC 1, 3), (CYL_CFG_ENT 1, 2), (CYL_CFG_GRID 1, 4), (PG_CTRL_EN 0x91, 1)].foldl (fun z y => z.wr y.1 y.2) ({ upc with cmuIn := [{ x := 3, e := 2, bidx := 9, valid := true, settle := 0, cause := 0, wlen := 9, v := 5, t := 100 }] } : State)) : State).modCyl 1 fun z => { z with open_ := some { n := 1, first := 0, inc := false, scale := 256, hrMin := 0, knkLim := 0, smps := [{ o := 1, v := 1, valid := true, settle := 0, cause := 0 }] } }).advance 5000).macSettle.cmuAbsorb).cylN 1), ((((((([(CYL_CFG_CBC 1, 3), (CYL_CFG_ENT 1, 2), (CYL_CFG_GRID 1, 4), (PG_CTRL_EN 0x91, 1)].foldl (fun z y => z.wr y.1 y.2) ({ upc with cmuIn := [{ x := 3, e := 2, bidx := 9, valid := true, settle := 0, cause := 0, wlen := 9, v := 5, t := 100 }] } : State)) : State).modCyl 1 fun z => { z with open_ := some { n := 1, first := 0, inc := false, scale := 256, hrMin := 0, knkLim := 0, smps := [{ o := 1, v := 1, valid := true, settle := 0, cause := 0 }] } }).advance 5000).macSettle.cmuAbsorb).rd (CYL_WIN_B0 1) + 9 + (((((([(CYL_CFG_CBC 1, 3), (CYL_CFG_ENT 1, 2), (CYL_CFG_GRID 1, 4), (PG_CTRL_EN 0x91, 1)].foldl (fun z y => z.wr y.1 y.2) ({ upc with cmuIn := [{ x := 3, e := 2, bidx := 9, valid := true, settle := 0, cause := 0, wlen := 9, v := 5, t := 100 }] } : State)) : State).modCyl 1 fun z => { z with open_ := some { n := 1, first := 0, inc := false, scale := 256, hrMin := 0, knkLim := 0, smps := [{ o := 1, v := 1, valid := true, settle := 0, cause := 0 }] } }).advance 5000).macSettle.cmuAbsorb).cylN 1) - 1) % (((((([(CYL_CFG_CBC 1, 3), (CYL_CFG_ENT 1, 2), (CYL_CFG_GRID 1, 4), (PG_CTRL_EN 0x91, 1)].foldl (fun z y => z.wr y.1 y.2) ({ upc with cmuIn := [{ x := 3, e := 2, bidx := 9, valid := true, settle := 0, cause := 0, wlen := 9, v := 5, t := 100 }] } : State)) : State).modCyl 1 fun z => { z with open_ := some { n := 1, first := 0, inc := false, scale := 256, hrMin := 0, knkLim := 0, smps := [{ o := 1, v := 1, valid := true, settle := 0, cause := 0 }] } }).advance 5000).macSettle.cmuAbsorb).cylN 1)), ((((((((([(CYL_CFG_CBC 1, 3), (CYL_CFG_ENT 1, 2), (CYL_CFG_GRID 1, 4), (PG_CTRL_EN 0x91, 1)].foldl (fun z y => z.wr y.1 y.2) ({ upc with cmuIn := [{ x := 3, e := 2, bidx := 9, valid := true, settle := 0, cause := 0, wlen := 9, v := 5, t := 100 }] } : State)) : State).modCyl 1 fun z => { z with open_ := some { n := 1, first := 0, inc := false, scale := 256, hrMin := 0, knkLim := 0, smps := [{ o := 1, v := 1, valid := true, settle := 0, cause := 0 }] } }).advance 5000).macSettle.cmuAbsorb).rd (CYL_WIN_B0 1) + 9 + (((((([(CYL_CFG_CBC 1, 3), (CYL_CFG_ENT 1, 2), (CYL_CFG_GRID 1, 4), (PG_CTRL_EN 0x91, 1)].foldl (fun z y => z.wr y.1 y.2) ({ upc with cmuIn := [{ x := 3, e := 2, bidx := 9, valid := true, settle := 0, cause := 0, wlen := 9, v := 5, t := 100 }] } : State)) : State).modCyl 1 fun z => { z with open_ := some { n := 1, first := 0, inc := false, scale := 256, hrMin := 0, knkLim := 0, smps := [{ o := 1, v := 1, valid := true, settle := 0, cause := 0 }] } }).advance 5000).macSettle.cmuAbsorb).cylN 1) - 1) % (((((([(CYL_CFG_CBC 1, 3), (CYL_CFG_ENT 1, 2), (CYL_CFG_GRID 1, 4), (PG_CTRL_EN 0x91, 1)].foldl (fun z y => z.wr y.1 y.2) ({ upc with cmuIn := [{ x := 3, e := 2, bidx := 9, valid := true, settle := 0, cause := 0, wlen := 9, v := 5, t := 100 }] } : State)) : State).modCyl 1 fun z => { z with open_ := some { n := 1, first := 0, inc := false, scale := 256, hrMin := 0, knkLim := 0, smps := [{ o := 1, v := 1, valid := true, settle := 0, cause := 0 }] } }).advance 5000).macSettle.cmuAbsorb).cylN 1)) + 3 * ((((((([(CYL_CFG_CBC 1, 3), (CYL_CFG_ENT 1, 2), (CYL_CFG_GRID 1, 4), (PG_CTRL_EN 0x91, 1)].foldl (fun z y => z.wr y.1 y.2) ({ upc with cmuIn := [{ x := 3, e := 2, bidx := 9, valid := true, settle := 0, cause := 0, wlen := 9, v := 5, t := 100 }] } : State)) : State).modCyl 1 fun z => { z with open_ := some { n := 1, first := 0, inc := false, scale := 256, hrMin := 0, knkLim := 0, smps := [{ o := 1, v := 1, valid := true, settle := 0, cause := 0 }] } }).advance 5000).macSettle.cmuAbsorb).cylN 1) / 4)) % (((((([(CYL_CFG_CBC 1, 3), (CYL_CFG_ENT 1, 2), (CYL_CFG_GRID 1, 4), (PG_CTRL_EN 0x91, 1)].foldl (fun z y => z.wr y.1 y.2) ({ upc with cmuIn := [{ x := 3, e := 2, bidx := 9, valid := true, settle := 0, cause := 0, wlen := 9, v := 5, t := 100 }] } : State)) : State).modCyl 1 fun z => { z with open_ := some { n := 1, first := 0, inc := false, scale := 256, hrMin := 0, knkLim := 0, smps := [{ o := 1, v := 1, valid := true, settle := 0, cause := 0 }] } }).advance 5000).macSettle.cmuAbsorb).cylN 1)), { n := 1, first := 0, inc := false, scale := 256, hrMin := 0, knkLim := 0, smps := [{ o := 1, v := 1, valid := true, settle := 0, cause := 0 }] }, { o := 1, v := 1, valid := true, settle := 0, cause := 0 }, [], by decide +kernel⟩,
   ⟨[(CYL_CFG_CBC 1, 3), (CYL_CFG_ENT 1, 2), (CYL_CFG_GRID 1, 4), (PG_CTRL_EN 0x91, 1)].foldl (fun z y => z.wr y.1 y.2) ({ upc with cmuIn := [{ x := 3, e := 2, bidx := 0xFFF, valid := true, settle := 0, cause := 0, wlen := 9, v := 5, t := 100 }] } : State), ([(CYL_CFG_CBC 1, 3), (CYL_CFG_ENT 1, 2), (CYL_CFG_GRID 1, 4), (PG_CTRL_EN 0x91, 1)].foldl (fun z y => z.wr y.1 y.2) ({ upc with cmuIn := [{ x := 3, e := 2, bidx := 0xFFF, valid := true, settle := 0, cause := 0, wlen := 9, v := 5, t := 100 }] } : State)).advance 5000, 5000, 1, { x := 3, e := 2, bidx := 0xFFF, valid := true, settle := 0, cause := 0, wlen := 9, v := 5, t := 100 }, (([(CYL_CFG_CBC 1, 3), (CYL_CFG_ENT 1, 2), (CYL_CFG_GRID 1, 4), (PG_CTRL_EN 0x91, 1)].foldl (fun z y => z.wr y.1 y.2) ({ upc with cmuIn := [{ x := 3, e := 2, bidx := 0xFFF, valid := true, settle := 0, cause := 0, wlen := 9, v := 5, t := 100 }] } : State)).advance 5000).macSettle.cmuAbsorb, ((([(CYL_CFG_CBC 1, 3), (CYL_CFG_ENT 1, 2), (CYL_CFG_GRID 1, 4), (PG_CTRL_EN 0x91, 1)].foldl (fun z y => z.wr y.1 y.2) ({ upc with cmuIn := [{ x := 3, e := 2, bidx := 0xFFF, valid := true, settle := 0, cause := 0, wlen := 9, v := 5, t := 100 }] } : State)).advance 5000).macSettle.cmuAbsorb).cylN 1, by decide +kernel⟩,
   ⟨[(CYL_CFG_CBC 1, 3), (CYL_CFG_ENT 1, 2), (CYL_CFG_GRID 1, 4), (PG_CTRL_EN 0x91, 1)].foldl (fun z y => z.wr y.1 y.2) ({ upc with budg := { wait := [60] }, cmuIn := [{ x := 3, e := 2, bidx := 9, valid := true, settle := 0, cause := 0, wlen := 9, v := 5, t := 100 }] } : State), ([(CYL_CFG_CBC 1, 3), (CYL_CFG_ENT 1, 2), (CYL_CFG_GRID 1, 4), (PG_CTRL_EN 0x91, 1)].foldl (fun z y => z.wr y.1 y.2) ({ upc with budg := { wait := [60] }, cmuIn := [{ x := 3, e := 2, bidx := 9, valid := true, settle := 0, cause := 0, wlen := 9, v := 5, t := 100 }] } : State)).advance 5000, 5000, 1, { x := 3, e := 2, bidx := 9, valid := true, settle := 0, cause := 0, wlen := 9, v := 5, t := 100 }, (([(CYL_CFG_CBC 1, 3), (CYL_CFG_ENT 1, 2), (CYL_CFG_GRID 1, 4), (PG_CTRL_EN 0x91, 1)].foldl (fun z y => z.wr y.1 y.2) ({ upc with budg := { wait := [60] }, cmuIn := [{ x := 3, e := 2, bidx := 9, valid := true, settle := 0, cause := 0, wlen := 9, v := 5, t := 100 }] } : State)).advance 5000).macSettle.cmuAbsorb, by decide +kernel⟩,
   ⟨upc.modCyl 1 fun x => { x with marks := [(0, 100, false)] }, (upc.modCyl 1 fun x => { x with marks := [(0, 100, false)] }).advance 5000, 5000, 1, 100, false, [], by decide +kernel⟩,
   ⟨upc.modCyl 1 fun x => { x with marks := [(1, 100, true)] }, (upc.modCyl 1 fun x => { x with marks := [(1, 100, true)] }).advance 5000, 5000, 1, ((upc.modCyl 1 fun x => { x with marks := [(1, 100, true)] }).advance 5000).cmuAbsorb, 100, true, [], by decide +kernel⟩,
   ⟨{ (upc.modCyl 1 fun x => { x with marks := [(1, 900, false)], pegOpen := some 100, pegS := [(500, 7)], open_ := some { n := 1, first := 0, inc := false, scale := 256, hrMin := 0, knkLim := 0 } }) with cmu := { map := [(400, 9)] } }, ({ (upc.modCyl 1 fun x => { x with marks := [(1, 900, false)], pegOpen := some 100, pegS := [(500, 7)], open_ := some { n := 1, first := 0, inc := false, scale := 256, hrMin := 0, knkLim := 0 } }) with cmu := { map := [(400, 9)] } }).advance 5000, 5000, 1, (({ (upc.modCyl 1 fun x => { x with marks := [(1, 900, false)], pegOpen := some 100, pegS := [(500, 7)], open_ := some { n := 1, first := 0, inc := false, scale := 256, hrMin := 0, knkLim := 0 } }) with cmu := { map := [(400, 9)] } } : State).advance 5000).cmuAbsorb, 900, 100, [], (roundDiv ((([9].map fun y => (y - toS 24 ((({ (upc.modCyl 1 fun x => { x with marks := [(1, 900, false)], pegOpen := some 100, pegS := [(500, 7)], open_ := some { n := 1, first := 0, inc := false, scale := 256, hrMin := 0, knkLim := 0 } }) with cmu := { map := [(400, 9)] } } : State).advance 5000).cmuAbsorb.rd CMU_MAP_ZERO_ZERO)) * ((({ (upc.modCyl 1 fun x => { x with marks := [(1, 900, false)], pegOpen := some 100, pegS := [(500, 7)], open_ := some { n := 1, first := 0, inc := false, scale := 256, hrMin := 0, knkLim := 0 } }) with cmu := { map := [(400, 9)] } } : State).advance 5000).cmuAbsorb.rd CMU_MAP_SCALE_SCALE : Int)).sum) * 1 - 7 * 1) (1 * 1 * 2 ^ 8 : Int)).getD 0, [9], [7], by decide +kernel⟩,
   ⟨upc.modCyl 1 fun x => { x with marks := [(2, 900, false)], open_ := some { n := 1, first := 0, inc := false, scale := 256, hrMin := 0, knkLim := 0, smps := [{ o := 5, v := 1, valid := true, settle := 0, cause := 0 }] } }, (upc.modCyl 1 fun x => { x with marks := [(2, 900, false)], open_ := some { n := 1, first := 0, inc := false, scale := 256, hrMin := 0, knkLim := 0, smps := [{ o := 5, v := 1, valid := true, settle := 0, cause := 0 }] } }).advance 5000, 5000, 1, ((upc.modCyl 1 fun x => { x with marks := [(2, 900, false)], open_ := some { n := 1, first := 0, inc := false, scale := 256, hrMin := 0, knkLim := 0, smps := [{ o := 5, v := 1, valid := true, settle := 0, cause := 0 }] } }).advance 5000).cmuAbsorb, 900, false, [], { n := 1, first := 0, inc := false, scale := 256, hrMin := 0, knkLim := 0, smps := [{ o := 5, v := 1, valid := true, settle := 0, cause := 0 }] }, { o := 5, v := 1, valid := true, settle := 0, cause := 0 }, [], by decide +kernel⟩,
   ⟨{ upc with cmu := { closeQ := [(1, { n := 1, first := 0, inc := false, scale := 256, hrMin := 0, knkLim := 0, cyc := 7 })] } }, ({ upc with cmu := { closeQ := [(1, { n := 1, first := 0, inc := false, scale := 256, hrMin := 0, knkLim := 0, cyc := 7 })] } }).advance 5000, 5000, 1, { n := 1, first := 0, inc := false, scale := 256, hrMin := 0, knkLim := 0, cyc := 7 }, [], State.cylPost { (({ upc with cmu := { closeQ := [(1, { n := 1, first := 0, inc := false, scale := 256, hrMin := 0, knkLim := 0, cyc := 7 })] } } : State).advance 5000) with cmu := {} } 1, (({ upc with cmu := { closeQ := [(1, { n := 1, first := 0, inc := false, scale := 256, hrMin := 0, knkLim := 0, cyc := 7 })] } } : State).advance 5000).macSettle, ((State.cylPost { (({ upc with cmu := { closeQ := [(1, { n := 1, first := 0, inc := false, scale := 256, hrMin := 0, knkLim := 0, cyc := 7 })] } } : State).advance 5000) with cmu := {} } 1).metrics 1 ({ n := 1, first := 0, inc := false, scale := 256, hrMin := 0, knkLim := 0, cyc := 7 }) 256 0 0).1, by decide +kernel⟩,
   ⟨([(HOST_MBQ_CFG_EN 0 0, 1), (HOST_MBQ_CFG_LOG2 0 0, 4)].foldl (fun z y => z.wr y.1 y.2) upc).modCyl 1 fun x => { x with post := some (100, [7, 8]) }, (([(HOST_MBQ_CFG_EN 0 0, 1), (HOST_MBQ_CFG_LOG2 0 0, 4)].foldl (fun z y => z.wr y.1 y.2) upc).modCyl 1 fun x => { x with post := some (100, [7, 8]) }).advance 5000, 5000, 1, 100, 7, 0, 0, [8], by decide +kernel⟩,
   ⟨upc.modCyl 1 fun x => { x with post := some (100, [7, 8]) }, (upc.modCyl 1 fun x => { x with post := some (100, [7, 8]) }).advance 5000, 5000, 1, 100, 7, 0, 0, [8], by decide +kernel⟩,
   ⟨upc.modCyl 1 fun x => { x with last := some { n := 1, first := 0, inc := false, scale := 256, hrMin := 0, knkLim := 0 } }, (upc.modCyl 1 fun x => { x with last := some { n := 1, first := 0, inc := false, scale := 256, hrMin := 0, knkLim := 0 } }).advance 5000, 5000, 1, 3, { n := 1, first := 0, inc := false, scale := 256, hrMin := 0, knkLim := 0 }, 1, by decide +kernel⟩,
   ⟨upc, (upc).advance 5000, 5000, 1, 3, 1, by decide +kernel⟩,
   ⟨{ (upc.modCyl 1 fun x => { x with buf := [(0, (2, 5))] }) with cmu := { rc := some (1, { n := 1, first := 0, inc := false, scale := 256, hrMin := 0, knkLim := 0 }) } }, ({ (upc.modCyl 1 fun x => { x with buf := [(0, (2, 5))] }) with cmu := { rc := some (1, { n := 1, first := 0, inc := false, scale := 256, hrMin := 0, knkLim := 0 }) } }).advance 5000, 5000, 1, { n := 1, first := 0, inc := false, scale := 256, hrMin := 0, knkLim := 0 }, 1, by decide +kernel⟩,
   ⟨{ (upc.modCyl 1 fun x => { x with buf := [(0, (1, 5))] }) with cmu := { rc := some (1, { n := 1, first := 0, inc := false, scale := 256, hrMin := 0, knkLim := 0 }) } }, ({ (upc.modCyl 1 fun x => { x with buf := [(0, (1, 5))] }) with cmu := { rc := some (1, { n := 1, first := 0, inc := false, scale := 256, hrMin := 0, knkLim := 0 }) } }).advance 5000, 5000, 1, { n := 1, first := 0, inc := false, scale := 256, hrMin := 0, knkLim := 0 }, 1, by decide +kernel⟩⟩

/-- States and operands that meet every hypothesis of each clause of CylinderLoopsAndTables. -/
theorem witness_CylinderLoopsAndTables :
  (∃ (s a : State) (t : Nat) (k : Cyl) (tm : Bool) (q : Trim) (p n : Nat),
    a = s.advance t ∧ State.corn 2 a = true ∧ (a.cyl k).trim tm = some q ∧ q.at_ = .now ∧ a.loopDst tm k = some (p, n) ∧ a.paramBusy p = false ∧ a.rd (paramField p n) = a.rd (loopLast tm k)) ∧
  (∃ (s a : State) (t : Nat) (k : Cyl) (tm : Bool) (q : Trim) (p n : Nat),
    a = s.advance t ∧ State.corn 2 a = true ∧ (a.cyl k).trim tm = some q ∧ q.at_ = .now ∧ a.loopDst tm k = some (p, n) ∧ a.paramBusy p = false ∧ a.rd (paramField p n) ≠ a.rd (loopLast tm k)) ∧
  (∃ (s a : State) (t : Nat) (m : Master) (k : Cyl) (v : Word),
    a = s.advance t ∧ State.corn 2 a = true ∧ a.mayWrite m (cylPage k) 0x6C v.toNat 0xFFFFFFFF = true) ∧
  (∃ (s a : State) (t : Nat) (m : Master) (v : Word),
    a = s.advance t ∧ State.corn 2 a = true ∧ a.mayWrite m 0x88 0x68 v.toNat 0xFFFFFFFF = true) ∧
  (∃ (s a : State) (t : Nat) (m : Master),
    a = s.advance t ∧ State.corn 2 a = true ∧ a.mayRead m 0x88 0x68 = true) ∧
  (∃ (s a : State) (t : Nat) (m : Master),
    a = s.advance t ∧ State.corn 2 a = true ∧ a.mayWrite m 0x88 0x64 0x80000000 0xFFFFFFFF = true ∧ a.volBad = none ∧ a.rd CMU_VD_VD ≠ 0) ∧
  (∃ (s a : State) (t : Nat) (m : Master) (i : Nat),
    a = s.advance t ∧ State.corn 2 a = true ∧ a.mayWrite m 0x88 0x64 0x80000000 0xFFFFFFFF = true ∧ a.volBad = some i) ∧
  (∃ (s a : State) (t : Nat) (v : Tab Nat),
    a = s.advance t ∧ State.corn 2 a = true ∧ a.cmu.pend = some v ∧ a.cmu.closeQ = [] ∧ a.macSettle.cmu.volLeft = 0) ∧
  (∃ (s a : State) (t : Nat) (m : Master),
    a = s.advance t ∧ State.corn 2 a = true ∧ a.mayRead m 0x88 0x74 = true) ∧
  (∃ (s a : State) (t : Nat) (m : Master) (k : Cyl),
    a = s.advance t ∧ State.corn 2 a = true ∧ a.mayRead m (cylPage k) 0x100 = true) :=
  ⟨⟨(([(CYL_DST_Q_CH 1, 3), (CYL_DST_Q_WORD 1, 4), (CYL_Q_OUT_W 1, 77)].foldl (fun z y => z.wr y.1 y.2) upc).modCyl 1 fun x => { x with trimQ := some { at_ := .now, i0 := 0, out0 := 0 } }), ((([(CYL_DST_Q_CH 1, 3), (CYL_DST_Q_WORD 1, 4), (CYL_Q_OUT_W 1, 77)].foldl (fun z y => z.wr y.1 y.2) upc).modCyl 1 fun x => { x with trimQ := some { at_ := .now, i0 := 0, out0 := 0 } })).advance 5000, 5000, 1, false, { at_ := .now, i0 := 0, out0 := 0 }, 3, 4, by decide +kernel⟩,
   ⟨(([(CYL_DST_Q_CH 1, 3), (CYL_DST_Q_WORD 1, 4), (CYL_Q_OUT_W 1, 77), (CYL_Q_LAST_W 1, 5)].foldl (fun z y => z.wr y.1 y.2) upc).modCyl 1 fun x => { x with trimQ := some { at_ := .now, i0 := 0, out0 := 0 } }), ((([(CYL_DST_Q_CH 1, 3), (CYL_DST_Q_WORD 1, 4), (CYL_Q_OUT_W 1, 77), (CYL_Q_LAST_W 1, 5)].foldl (fun z y => z.wr y.1 y.2) upc).modCyl 1 fun x => { x with trimQ := some { at_ := .now, i0 := 0, out0 := 0 } })).advance 5000, 5000, 1, false, { at_ := .now, i0 := 0, out0 := 0 }, 3, 4, by decide +kernel⟩,
   ⟨upc, (upc).advance 5000, 5000, 3, 1, 7, by decide +kernel⟩,
   ⟨upc, (upc).advance 5000, 5000, 3, 77, by decide +kernel⟩,
   ⟨upc, (upc).advance 5000, 5000, 3, by decide +kernel⟩,
   ⟨upVol, (upVol).advance 5000, 5000, 3, ⟨rfl, by decide +kernel, by decide +kernel, upVol_ok _ rfl, by decide +kernel⟩⟩,
   ⟨upc, (upc).advance 5000, 5000, 3, 0, by decide +kernel⟩,
   ⟨{ upc with cmu := { pend := some [(3, 4)] } }, ({ upc with cmu := { pend := some [(3, 4)] } }).advance 5000, 5000, [(3, 4)], by decide +kernel⟩,
   ⟨upc, (upc).advance 5000, 5000, 3, by decide +kernel⟩,
   ⟨upc, (upc).advance 5000, 5000, 3, 1, by decide +kernel⟩⟩

/-- States and operands that meet every hypothesis of each clause of AlarmAndTimers. -/
theorem witness_AlarmAndTimers :
  (∃ (s a : State) (t : Nat) (n : Gpt) (m : Master) (v : Word) (h : Option Nat) (z : State),
    a = s.advance t ∧ State.core 3 a = true ∧ gpOk a = true ∧ a.mayWrite m 0xB0 0x4C v.toNat 0xFFFFFFFF = true ∧ (a.counted m 0xB0).takeHi m 0xB0 0x4C = (h, z)) ∧
  (∃ (s a : State) (t : Nat) (n : Gpt),
    a = s.advance t ∧ State.core 3 a = true ∧ gpOk a = true ∧ a.on TB_TB_STAT_ALM_ARMED = true ∧ a.alarmAt ≤ a.tb) ∧
  (∃ (s a : State) (t : Nat) (n : Gpt),
    a = s.advance t ∧ State.core 3 a = true ∧ gpOk a = true ∧ ((a.on TB_TB_STAT_ALM_ARMED = false ∨ a.tb < a.alarmAt))) ∧
  (∃ (s a : State) (t : Nat) (n : Gpt) (m : Master) (v : Word),
    a = s.advance t ∧ State.core 3 a = true ∧ gpOk a = true ∧ a.mayWrite m 0xB1 (0x100 + 0x20 * n) v.toNat 0xFFFFFFFF = true ∧ a.gpPair n = false ∧ a.on (GPT_GPT_CFG_EN n) = false ∧ bit v.toNat 31 = true) ∧
  (∃ (s a : State) (t : Nat) (n : Gpt) (m : Master) (v : Word),
    a = s.advance t ∧ State.core 3 a = true ∧ gpOk a = true ∧ a.mayWrite m 0xB1 (0x100 + 0x20 * n) v.toNat 0xFFFFFFFF = true ∧ a.gpPair n = false ∧ a.on (GPT_GPT_CFG_EN n) = true ∧ bit v.toNat 31 = false) ∧
  (∃ (s a : State) (t : Nat) (n : Gpt) (u : State),
    a = s.advance t ∧ State.core 3 a = true ∧ gpOk a = true ∧ u = a.gpSync (a.gpGov n) a.tb ∧ (u.gp n).laps < u.gpLaps n) ∧
  (∃ (s a : State) (t : Nat) (n : Gpt) (u : State) (q : Nat),
    a = s.advance t ∧ State.core 3 a = true ∧ gpOk a = true ∧ a.gpGov n = n ∧ u = a.gpSync n a.tb ∧ (u.gp n).forced = false ∧ (u.gp n).tgt = some q ∧ q ≤ (u.gp n).pos ∧ q / u.gpLap n ≤ (u.gp n).laps ∧ a.on (GPT_CMP_MODE_ONESHOT n) = false) ∧
  (∃ (s a : State) (t : Nat) (n : Gpt) (u : State) (q : Nat),
    a = s.advance t ∧ State.core 3 a = true ∧ gpOk a = true ∧ a.gpGov n = n ∧ u = a.gpSync n a.tb ∧ (u.gp n).forced = false ∧ (u.gp n).tgt = some q ∧ q ≤ (u.gp n).pos ∧ q / u.gpLap n ≤ (u.gp n).laps ∧ a.on (GPT_CMP_MODE_ONESHOT n) = true) ∧
  (∃ (s a : State) (t : Nat) (n : Gpt),
    a = s.advance t ∧ State.core 3 a = true ∧ gpOk a = true ∧ a.gpGov n = n ∧ a.on (GPT_GPT_CFG_EN n) = true ∧ a.gpMode n = 2 ∧ 0 < (a.gp n).trigs) ∧
  (∃ (s a : State) (t : Nat) (n : Gpt) (m : Master) (v : Word) (u : State),
    a = s.advance t ∧ State.core 3 a = true ∧ gpOk a = true ∧ a.mayWrite m 0xB1 (0x110 + 0x20 * n) v.toNat 0xFFFFFFFF = true ∧ a.gpPair n = false ∧ u = (a.counted m 0xB1).gpSync n a.tb ∧ (u.gp n).forced = false ∧ (u.gp n).tgt = none) ∧
  (∃ (s a : State) (t : Nat) (n : Gpt),
    a = s.advance t ∧ State.core 3 a = true ∧ gpOk a = true ∧ a.gpPair n = false ∧ a.rd (GPT_GPT_CFG_CAP_SRC n) = 4 ∧ (a.gp n).queue.length < 4) ∧
  (∃ (s a : State) (t : Nat) (n : Gpt),
    a = s.advance t ∧ State.core 3 a = true ∧ gpOk a = true ∧ a.gpPair n = false ∧ a.rd (GPT_GPT_CFG_CAP_SRC n) = 4 ∧ 4 ≤ (a.gp n).queue.length) ∧
  (∃ (s a : State) (t : Nat) (n : Gpt) (m : Master),
    a = s.advance t ∧ State.core 3 a = true ∧ gpOk a = true ∧ a.mayRead m 0xB1 (0x11C + 0x20 * n) = true ∧ a.on (PG_CTRL_FREEZE 0xB1) = false ∧ (a.gp n).queue.length ≤ 4) ∧
  (∃ (s a : State) (t : Nat) (n : Gpt) (m : Master) (v : Word),
    a = s.advance t ∧ State.core 3 a = true ∧ gpOk a = true ∧ a.mayWrite m 0xB1 0x44 v.toNat 0xFFFFFFFF = true) :=
  ⟨⟨upg {}, (upg {}).advance 5000, 5000, 1, 3, 77, none, ((upg {}).advance 5000).counted 3 0xB0, by decide +kernel⟩,
   ⟨(upg {}).wr TB_TB_STAT_ALM_ARMED 1, ((upg {}).wr TB_TB_STAT_ALM_ARMED 1).advance 5000, 5000, 1, by decide +kernel⟩,
   ⟨(upg {}).wr TB_TB_STAT_ALM_ARMED 0, ((upg {}).wr TB_TB_STAT_ALM_ARMED 0).advance 5000, 5000, 1, by decide +kernel⟩,
   ⟨(upg { pos := 9 }).wr (GPT_GPT_CFG_EN 1) 0, ((upg { pos := 9 }).wr (GPT_GPT_CFG_EN 1) 0).advance 5000, 5000, 1, 3, 0x80000000, by decide +kernel⟩,
   ⟨upg {}, (upg {}).advance 5000, 5000, 1, 3, 0, by decide +kernel⟩,
   ⟨(upg {}).wr (GPT_TOP_TOP 1) 99, ((upg {}).wr (GPT_TOP_TOP 1) 99).advance 5000, 5000, 1, (((upg {}).wr (GPT_TOP_TOP 1) 99).advance 5000).gpSync 1 5000, by decide +kernel⟩,
   ⟨upg { arm := true, tgt := some 500 }, (upg { arm := true, tgt := some 500 }).advance 5000, 5000, 1, ((upg { arm := true, tgt := some 500 }).advance 5000).gpSync 1 5000, 500, by decide +kernel⟩,
   ⟨(upg { arm := true, tgt := some 500 }).wr (GPT_CMP_MODE_ONESHOT 1) 1, ((upg { arm := true, tgt := some 500 }).wr (GPT_CMP_MODE_ONESHOT 1) 1).advance 5000, 5000, 1, (((upg { arm := true, tgt := some 500 }).wr (GPT_CMP_MODE_ONESHOT 1) 1).advance 5000).gpSync 1 5000, 500, by decide +kernel⟩,
   ⟨(upg { trigs := 1 }).wr (GPT_GPT_CFG_SMODE 1) 2, ((upg { trigs := 1 }).wr (GPT_GPT_CFG_SMODE 1) 2).advance 5000, 5000, 1, by decide +kernel⟩,
   ⟨upg {}, (upg {}).advance 5000, 5000, 1, 3, 900000, (((upg {}).advance 5000).counted 3 0xB1).gpSync 1 5000, by decide +kernel⟩,
   ⟨(upg {}).wr (GPT_GPT_CFG_CAP_SRC 1) 4, ((upg {}).wr (GPT_GPT_CFG_CAP_SRC 1) 4).advance 5000, 5000, 1, by decide +kernel⟩,
   ⟨(upg { queue := [1, 2, 3, 4] }).wr (GPT_GPT_CFG_CAP_SRC 1) 4, ((upg { queue := [1, 2, 3, 4] }).wr (GPT_GPT_CFG_CAP_SRC 1) 4).advance 5000, 5000, 1, by decide +kernel⟩,
   ⟨upg { queue := [1, 2] }, (upg { queue := [1, 2] }).advance 5000, 5000, 1, 3, by decide +kernel⟩,
   ⟨upg {}, (upg {}).advance 5000, 5000, 1, 3, 0x10002, by decide +kernel⟩⟩

/-- States and operands that meet every hypothesis of each clause of EventRouter. -/
theorem witness_EventRouter :
  (∃ (s a : State) (t : Nat) (n : Source),
    a = s.advance t ∧ State.core 3 a = true ∧ rtrOk a = true ∧ a.srcLevel n 0 = some true ∧ a.rtr.active.contains n.val = false) ∧
  (∃ (s a : State) (t : Nat) (n : Source),
    a = s.advance t ∧ State.core 3 a = true ∧ rtrOk a = true ∧ a.srcLevel n 0 = some false) ∧
  (∃ (s a : State) (t : Nat) (n : Source) (f : Nat),
    a = s.advance t ∧ State.core 3 a = true ∧ rtrOk a = true ∧ a.srcLevel n 0 = none ∧ (a.rtr.pulses.find? fun y => y.1 == n.val) = some (n.val, f) ∧ ((srcCrosses n = false ∨ (tget none a.rtr.lastPulse n).all (fun l => decide (l + 4 ≤ f)) = true))) ∧
  (∃ (s a : State) (t : Nat) (n : Source) (f l : Nat),
    a = s.advance t ∧ State.core 3 a = true ∧ rtrOk a = true ∧ a.srcLevel n 0 = none ∧ (a.rtr.pulses.find? fun y => y.1 == n.val) = some (n.val, f) ∧ srcCrosses n = true ∧ tget none a.rtr.lastPulse n = some l ∧ f < l + 4) ∧
  (∃ (s a : State) (t : Nat) (m : Master) (d : Dest) (v : Word),
    a = s.advance t ∧ State.core 3 a = true ∧ rtrOk a = true ∧ a.mayWrite m 6 (0x100 + 4 * d) v.toNat 0xFFFFFFFF = true) ∧
  (∃ (s a : State) (t : Nat) (m : Master) (v : Word),
    a = s.advance t ∧ State.core 3 a = true ∧ rtrOk a = true ∧ a.mayWrite m 6 0x70 v.toNat 0xFFFFFFFF = true) :=
  ⟨⟨{ upc with trk := (upe 0 0 0 255).trk }, ({ upc with trk := (upe 0 0 0 255).trk }).advance 5000, 5000, 13, by decide +kernel⟩,
   ⟨upc, (upc).advance 5000, 5000, 13, by decide +kernel⟩,
   ⟨{ upc with rtr := { pulses := [(252, 4000)] } }, ({ upc with rtr := { pulses := [(252, 4000)] } }).advance 5000, 5000, 252, 4000, by decide +kernel⟩,
   ⟨{ upc with rtr := { pulses := [(252, 4000)], lastPulse := [(252, some 3999)] } }, ({ upc with rtr := { pulses := [(252, 4000)], lastPulse := [(252, some 3999)] } }).advance 5000, 5000, 252, 4000, 3999, by decide +kernel⟩,
   ⟨upc, (upc).advance 5000, 5000, 3, 7, 0x80000005, by decide +kernel⟩,
   ⟨upc, (upc).advance 5000, 5000, 3, 5, by decide +kernel⟩⟩

/-- States and operands that meet every hypothesis of each clause of DmaChannels. -/
theorem witness_DmaChannels :
  (∃ (s a : State) (t : Nat) (m : Master) (c : DmaCh) (v : Word),
    a = s.advance t ∧ State.corn 3 a = true ∧ a.rstBusy 0xB8 = false ∧ a.pageCrimson 0xB8 = false ∧ (a.wr (DMA_CH_STAT_OWNER c) m).mayWrite m 0xB8 (0x100 + 0x20 * c) v.toNat 0xFFFFFFFF = true ∧ a.writeCode m (pageAddr 0xB8 (0x100 + 0x20 * c)) v.toNat 0xFFFFFFFF = 0) ∧
  (∃ (s a : State) (t : Nat) (m : Master) (c : DmaCh) (v : Word),
    a = s.advance t ∧ State.corn 3 a = true ∧ a.rstBusy 0xB8 = false ∧ a.pageCrimson 0xB8 = false ∧ a.writeCode m (pageAddr 0xB8 (0x100 + 0x20 * c)) v.toNat 0xFFFFFFFF = 4 ∧ (a.wr (DMA_CH_STAT_OWNER c) m).writeCode m (pageAddr 0xB8 (0x100 + 0x20 * c)) v.toNat 0xFFFFFFFF = 4) ∧
  (∃ (s a : State) (t : Nat) (m : Master) (c : DmaCh),
    a = s.advance t ∧ State.corn 3 a = true ∧ a.rstBusy 0xB8 = false ∧ a.pageCrimson 0xB8 = false ∧ a.mayWrite m 0xB8 (0x118 + 0x20 * c.val) 1 0xFFFFFFFF = true ∧ a.dmaActive c = false ∧ a.dmaCheck c ≠ 0) ∧
  (∃ (s a : State) (t : Nat) (m : Master) (c : DmaCh),
    a = s.advance t ∧ State.corn 3 a = true ∧ a.rstBusy 0xB8 = false ∧ a.pageCrimson 0xB8 = false ∧ a.mayWrite m 0xB8 (0x118 + 0x20 * c.val) 1 0xFFFFFFFF = true ∧ a.dmaActive c = false ∧ a.dmaCheck c = 0 ∧ a.rd (DMA_CH_COUNT_BYTES c) ≠ 0) ∧
  (∃ (s a : State) (t : Nat) (m : Master) (c : DmaCh),
    a = s.advance t ∧ State.corn 3 a = true ∧ a.rstBusy 0xB8 = false ∧ a.pageCrimson 0xB8 = false ∧ a.mayWrite m 0xB8 (0x118 + 0x20 * c.val) 1 0xFFFFFFFF = true ∧ a.dmaActive c = false ∧ a.dmaCheck c = 0 ∧ a.rd (DMA_CH_COUNT_BYTES c) = 0) ∧
  (∃ (s a : State) (t : Nat) (m : Master) (c : DmaCh),
    a = s.advance t ∧ State.corn 3 a = true ∧ a.rstBusy 0xB8 = false ∧ a.pageCrimson 0xB8 = false ∧ a.mayWrite m 0xB8 (0x118 + 0x20 * c.val) 2 0xFFFFFFFF = true ∧ a.dmaActive c = true ∧ (a.dmaC c).fin = false ∧ a.dmaInBurst c = false) ∧
  (∃ (s a : State) (t : Nat) (m : Master) (c : DmaCh) (x : Burst),
    a = s.advance t ∧ State.corn 3 a = true ∧ a.rstBusy 0xB8 = false ∧ a.pageCrimson 0xB8 = false ∧ a.mayWrite m 0xB8 (0x118 + 0x20 * c.val) 2 0xFFFFFFFF = true ∧ a.dmaActive c = true ∧ (a.dmaC c).fin = false ∧ a.dma.burst = some x ∧ x.c = c.val ∧ x.at_ ≠ a.tb) ∧
  (∃ (s a : State) (t : Nat) (m : Master) (c : DmaCh) (x : Burst),
    a = s.advance t ∧ State.corn 3 a = true ∧ a.rstBusy 0xB8 = false ∧ a.pageCrimson 0xB8 = false ∧ a.mayWrite m 0xB8 (0x118 + 0x20 * c.val) 2 0xFFFFFFFF = true ∧ a.dmaActive c = true ∧ (a.dmaC c).fin = false ∧ a.dma.burst = some x ∧ x.c = c.val ∧ x.at_ = a.tb) ∧
  (∃ (s a : State) (t : Nat) (c : DmaCh),
    a = s.advance t ∧ State.corn 3 a = true ∧ a.rstBusy 0xB8 = false ∧ a.pageCrimson 0xB8 = false ∧ a.dmaKind c ≠ 3 ∧ 0 < (a.dmaC c).evs ∧ a.dmaSt c = 1) ∧
  (∃ (s a : State) (t : Nat) (c : DmaCh),
    a = s.advance t ∧ State.corn 3 a = true ∧ a.rstBusy 0xB8 = false ∧ a.pageCrimson 0xB8 = false ∧ a.dmaKind c ≠ 3 ∧ 0 < (a.dmaC c).evs ∧ ((a.dmaSt c = 2 ∨ a.dmaSt c = 3)) ∧ (a.dmaC c).held = false) ∧
  (∃ (s a : State) (t : Nat) (c : DmaCh),
    a = s.advance t ∧ State.corn 3 a = true ∧ a.rstBusy 0xB8 = false ∧ a.pageCrimson 0xB8 = false ∧ a.dmaKind c ≠ 3 ∧ 0 < (a.dmaC c).evs ∧ ((a.dmaSt c = 2 ∨ a.dmaSt c = 3)) ∧ (a.dmaC c).held = true) ∧
  (∃ (s a : State) (t : Nat) (c : DmaCh),
    a = s.advance t ∧ State.corn 3 a = true ∧ a.rstBusy 0xB8 = false ∧ a.pageCrimson 0xB8 = false ∧ a.dmaKind c = 3 ∧ a.dmaSt c = 1 ∧ a.dmaReq c = true) ∧
  (∃ (s a : State) (t : Nat) (c : DmaCh),
    a = s.advance t ∧ State.corn 3 a = true ∧ a.rstBusy 0xB8 = false ∧ a.pageCrimson 0xB8 = false ∧ (a.dmaC c).fin = true ∧ a.dmaSt c = 2) ∧
  (∃ (s a : State) (t : Nat) (c : DmaCh),
    a = s.advance t ∧ State.corn 3 a = true ∧ a.rstBusy 0xB8 = false ∧ a.pageCrimson 0xB8 = false ∧ a.dmaSt c = 3 ∧ a.rd (DMA_CH_STAT_HOPS c) + 1 ≤ max 1 (a.rd (DMA_CH_CFG_HOP_LIM c)) ∧ a.readCode (a.dmaOwner c) (16 * a.rd (DMA_CH_DESC_ADDR c)) = 0 ∧ a.grantable (a.dmaOwner c) 4 = true ∧ bits (rdWord a.mem (16 * a.rd (DMA_CH_DESC_ADDR c) + 8)) 18 12 = 0) ∧
  (∃ (s a : State) (t : Nat) (c : DmaCh),
    a = s.advance t ∧ State.corn 3 a = true ∧ a.rstBusy 0xB8 = false ∧ a.pageCrimson 0xB8 = false ∧ a.dmaSt c = 3 ∧ max 1 (a.rd (DMA_CH_CFG_HOP_LIM c)) < a.rd (DMA_CH_STAT_HOPS c) + 1) ∧
  (∃ (s a : State) (t : Nat) (w : State),
    a = s.advance t ∧ State.corn 3 a = true ∧ a.rstBusy 0xB8 = false ∧ a.pageCrimson 0xB8 = false ∧ w = a.dmaSettle) ∧
  (∃ (s a : State) (t : Nat) (m : Master) (c : DmaCh),
    a = s.advance t ∧ State.corn 3 a = true ∧ a.rstBusy 0xB8 = false ∧ a.pageCrimson 0xB8 = false ∧ a.mayWrite m 0xB8 0x48 (0x100 + c.val) 0xFFFFFFFF = true) ∧
  (∃ (s a : State) (t : Nat),
    a = s.advance t ∧ State.corn 3 a = true ∧ a.rstBusy 0xB8 = false ∧ a.pageCrimson 0xB8 = false ∧ a.dmaInBurst (a.rd DMA_FENCE_CH) = false) ∧
  (∃ (s a : State) (t : Nat),
    a = s.advance t ∧ State.corn 3 a = true ∧ a.rstBusy 0xB8 = false ∧ a.pageCrimson 0xB8 = false ∧ a.dmaInBurst (a.rd DMA_FENCE_CH) = true) :=
  ⟨⟨upd 0 0, (upd 0 0).advance 5000, 5000, 3, 1, 0x70000003, by decide +kernel⟩,
   ⟨(upd 0 2).wr (DMA_CH_STAT_OWNER 1) 2, ((upd 0 2).wr (DMA_CH_STAT_OWNER 1) 2).advance 5000, 5000, 3, 1, 0x70000003, by decide +kernel⟩,
   ⟨upd 0 0, (upd 0 0).advance 5000, 5000, 3, 1, by decide +kernel⟩,
   ⟨upd 16 0, (upd 16 0).advance 5000, 5000, 3, 1, by decide +kernel⟩,
   ⟨(upd 0 0).wr (DMA_CH_DESC_ADDR 1) 0x1000010, ((upd 0 0).wr (DMA_CH_DESC_ADDR 1) 0x1000010).advance 5000, 5000, 3, 1, by decide +kernel⟩,
   ⟨upd 16 2, (upd 16 2).advance 5000, 5000, 3, 1, by decide +kernel⟩,
   ⟨{ (upd 16 2) with dma := { burst := some { c := 1, n := 1, data := [] } } }, ({ (upd 16 2) with dma := { burst := some { c := 1, n := 1, data := [] } } }).advance 5000, 5000, 3, 1, { c := 1, n := 1, data := [] }, by decide +kernel⟩,
   ⟨{ (upd 16 2) with dma := { burst := some { c := 1, n := 1, at_ := 5000, data := [] } } }, ({ (upd 16 2) with dma := { burst := some { c := 1, n := 1, at_ := 5000, data := [] } } }).advance 5000, 5000, 3, 1, { c := 1, n := 1, at_ := 5000, data := [] }, by decide +kernel⟩,
   ⟨(upd 16 1).modDma 1 fun x => { x with evs := 1 }, ((upd 16 1).modDma 1 fun x => { x with evs := 1 }).advance 5000, 5000, 1, by decide +kernel⟩,
   ⟨(upd 16 2).modDma 1 fun x => { x with evs := 1 }, ((upd 16 2).modDma 1 fun x => { x with evs := 1 }).advance 5000, 5000, 1, by decide +kernel⟩,
   ⟨(upd 16 2).modDma 1 fun x => { x with evs := 1, held := true }, ((upd 16 2).modDma 1 fun x => { x with evs := 1, held := true }).advance 5000, 5000, 1, by decide +kernel⟩,
   ⟨(((upd 16 1).wr (DMA_CH_TRIG_KIND 1) 3).wr (DMA_CH_TRIG_SEL 1) 32).wr (PG_CTRL_EN 0xC0) 1, ((((upd 16 1).wr (DMA_CH_TRIG_KIND 1) 3).wr (DMA_CH_TRIG_SEL 1) 32).wr (PG_CTRL_EN 0xC0) 1).advance 5000, 5000, 1, by decide +kernel⟩,
   ⟨((upd 0 2).modDma 1 fun x => { x with fin := true }).wr (DMA_CH_CFG_IRQ_DONE 1) 1, (((upd 0 2).modDma 1 fun x => { x with fin := true }).wr (DMA_CH_CFG_IRQ_DONE 1) 1).advance 5000, 5000, 1, by decide +kernel⟩,
   ⟨{ ((upd 0 3).wr (DMA_CH_DESC_ADDR 1) 0x1000010) with mem := [(0x10000109, 1)] }, ({ ((upd 0 3).wr (DMA_CH_DESC_ADDR 1) 0x1000010) with mem := [(0x10000109, 1)] }).advance 5000, 5000, 1, by decide +kernel⟩,
   ⟨((upd 0 3).wr (DMA_CH_STAT_HOPS 1) 1).wr (DMA_CH_CFG_HOP_LIM 1) 1, (((upd 0 3).wr (DMA_CH_STAT_HOPS 1) 1).wr (DMA_CH_CFG_HOP_LIM 1) 1).advance 5000, 5000, 1, by decide +kernel⟩,
   ⟨upd 16 2, (upd 16 2).advance 5000, 5000, ((upd 16 2).advance 5000).dmaSettle, by decide +kernel⟩,
   ⟨upd 0 0, (upd 0 0).advance 5000, 5000, 3, 1, by decide +kernel⟩,
   ⟨(upd 16 2).wr DMA_FENCE_BUSY 1, ((upd 16 2).wr DMA_FENCE_BUSY 1).advance 5000, 5000, by decide +kernel⟩,
   ⟨{ ((upd 16 2).wr DMA_FENCE_CH 1) with dma := { burst := some { c := 1, n := 1, data := [] } } }, ({ ((upd 16 2).wr DMA_FENCE_CH 1) with dma := { burst := some { c := 1, n := 1, data := [] } } }).advance 5000, 5000, by decide +kernel⟩⟩

/-- States and operands that meet every hypothesis of each clause of DmaBursts. -/
theorem witness_DmaBursts :
  (∃ (s a : State) (t : Nat) (c : Nat),
    a = s.advance t ∧ dmaOk a = true ∧ a.dma.burst = none ∧ a.dmaPick = some c) ∧
  (∃ (s a : State) (t : Nat),
    a = s.advance t ∧ dmaOk a = true ∧ a.dma.burst = none ∧ a.dmaPick = none) ∧
  (∃ (s a : State) (t : Nat) (x : Burst),
    a = s.advance t ∧ dmaOk a = true ∧ a.dma.burst = some x) ∧
  (∃ (s a : State) (t : Nat) (x : Burst),
    a = s.advance t ∧ dmaOk a = true ∧ a.dma.burst = some x ∧ x.n ≤ x.data.length) ∧
  (∃ (s a : State) (t : Nat) (x : Burst) (w : State),
    a = s.advance t ∧ dmaOk a = true ∧ a.dma.burst = some x ∧ x.n ≤ x.data.length ∧ isRemote (a.dmaDst x.c 0) = false ∧ State.putBeats (a.dmaOwner x.c) (a.dmaPlan x) 0 a = (x.n, .all, w) ∧ w.dma.burst = some x) ∧
  (∃ (s a : State) (t : Nat) (x : Burst),
    a = s.advance t ∧ dmaOk a = true ∧ a.dma.burst = some x ∧ x.data.length = x.n ∧ (a.dmaC x.c).tries < a.rd DMA_DMA_CFG_RETRY_MAX ∧ (a.dmaC x.c).stop = false) ∧
  (∃ (s a : State) (t : Nat) (x : Burst),
    a = s.advance t ∧ dmaOk a = true ∧ a.dma.burst = some x ∧ x.data.length = x.n ∧ x.c < 32 ∧ a.rd DMA_DMA_CFG_RETRY_MAX ≤ (a.dmaC x.c).tries) :=
  ⟨⟨upd 16 2, (upd 16 2).advance 5000, 5000, 1, by decide +kernel⟩,
   ⟨upd 16 1, (upd 16 1).advance 5000, 5000, by decide +kernel⟩,
   ⟨{ (upd 4 2) with dma := { burst := some { c := 1, n := 1, data := [7] } } }, ({ (upd 4 2) with dma := { burst := some { c := 1, n := 1, data := [7] } } }).advance 5000, 5000, { c := 1, n := 1, data := [7] }, by decide +kernel⟩,
   ⟨{ (upd 4 2) with dma := { burst := some { c := 1, n := 1, data := [7] } } }, ({ (upd 4 2) with dma := { burst := some { c := 1, n := 1, data := [7] } } }).advance 5000, 5000, { c := 1, n := 1, data := [7] }, by decide +kernel⟩,
   ⟨{ (upd 4 2) with dma := { burst := some { c := 1, n := 1, data := [7] } } }, ({ (upd 4 2) with dma := { burst := some { c := 1, n := 1, data := [7] } } }).advance 5000, 5000, { c := 1, n := 1, data := [7] }, (State.putBeats 0 ((({ (upd 4 2) with dma := { burst := some { c := 1, n := 1, data := [7] } } } : State).advance 5000).dmaPlan { c := 1, n := 1, data := [7] }) 0 (({ (upd 4 2) with dma := { burst := some { c := 1, n := 1, data := [7] } } } : State).advance 5000)).2.2, by decide +kernel⟩,
   ⟨({ (upd 4 2) with dma := { burst := some { c := 1, n := 1, data := [7] } } } : State).wr DMA_DMA_CFG_RETRY_MAX 3, (({ (upd 4 2) with dma := { burst := some { c := 1, n := 1, data := [7] } } } : State).wr DMA_DMA_CFG_RETRY_MAX 3).advance 5000, 5000, { c := 1, n := 1, data := [7] }, by decide +kernel⟩,
   ⟨({ (upd 4 2) with dma := { burst := some { c := 1, n := 1, data := [7] } } } : State).wr DMA_DMA_CFG_RETRY_MAX 0, (({ (upd 4 2) with dma := { burst := some { c := 1, n := 1, data := [7] } } } : State).wr DMA_DMA_CFG_RETRY_MAX 0).advance 5000, 5000, { c := 1, n := 1, data := [7] }, by decide +kernel⟩⟩

/-- States and operands that meet every hypothesis of each clause of PioShiftInstructions. -/
theorem witness_PioShiftInstructions :
  (∃ (s a : State) (t : Nat) (x : Engine) (i : PioSlot) (w : Nat) (y : PioS),
    a = s.advance t ∧ pioOk x a = true ∧ a.slRuns x i = true ∧ y = a.sl x i ∧ y.hold = 0 ∧ a.tickDue x i = true ∧ w = a.pioWord x i ∧ a.pioBad x i ≠ some true ∧ pioDecode w = some .drv) ∧
  (∃ (s a : State) (t : Nat) (x : Engine) (i : PioSlot) (w : Nat) (y : PioS),
    a = s.advance t ∧ pioOk x a = true ∧ a.slRuns x i = true ∧ y = a.sl x i ∧ y.hold = 0 ∧ a.tickDue x i = true ∧ w = a.pioWord x i ∧ a.pioBad x i ≠ some true ∧ pioDecode w = some .dir) ∧
  (∃ (s a : State) (t : Nat) (x : Engine) (i : PioSlot) (w : Nat) (y : PioS),
    a = s.advance t ∧ pioOk x a = true ∧ a.slRuns x i = true ∧ y = a.sl x i ∧ y.hold = 0 ∧ a.tickDue x i = true ∧ w = a.pioWord x i ∧ a.pioBad x i ≠ some true ∧ pioDecode w = some .sho ∧ 0 < a.rd (PIO_SLOT_STAT_BC x i)) ∧
  (∃ (s a : State) (t : Nat) (x : Engine) (i : PioSlot) (w : Nat) (y : PioS),
    a = s.advance t ∧ pioOk x a = true ∧ a.slRuns x i = true ∧ y = a.sl x i ∧ y.hold = 0 ∧ a.tickDue x i = true ∧ w = a.pioWord x i ∧ a.pioBad x i ≠ some true ∧ pioDecode w = some .sho ∧ a.rd (PIO_SLOT_STAT_BC x i) = 0) ∧
  (∃ (s a : State) (t : Nat) (x : Engine) (i : PioSlot) (w : Nat) (y : PioS) (pins : BitVec 2) (u : State),
    a = s.advance t ∧ pioOk x a = true ∧ a.slRuns x i = true ∧ y = a.sl x i ∧ y.hold = 0 ∧ a.tickDue x i = true ∧ w = a.pioWord x i ∧ a.pioBad x i ≠ some true ∧ pioDecode w = some .shi ∧ u = (a.modSl x i fun z => { z with ext := some (pins.toNat % 4) })) ∧
  (∃ (s a : State) (t : Nat) (x : Engine) (i : PioSlot) (w : Nat) (y : PioS) (v : Nat) (r : List Nat),
    a = s.advance t ∧ pioOk x a = true ∧ a.slRuns x i = true ∧ y = a.sl x i ∧ y.hold = 0 ∧ a.tickDue x i = true ∧ w = a.pioWord x i ∧ a.pioBad x i ≠ some true ∧ pioDecode w = some .take ∧ y.txq = v :: r) ∧
  (∃ (s a : State) (t : Nat) (x : Engine) (i : PioSlot) (w : Nat) (y : PioS) (v : Nat) (r : List Nat),
    a = s.advance t ∧ pioOk x a = true ∧ a.slRuns x i = true ∧ y = a.sl x i ∧ y.hold = 0 ∧ a.tickDue x i = true ∧ w = a.pioWord x i ∧ a.pioBad x i ≠ some true ∧ pioDecode w = some .takeNb ∧ y.txq = v :: r) ∧
  (∃ (s a : State) (t : Nat) (x : Engine) (i : PioSlot) (w : Nat) (y : PioS),
    a = s.advance t ∧ pioOk x a = true ∧ a.slRuns x i = true ∧ y = a.sl x i ∧ y.hold = 0 ∧ a.tickDue x i = true ∧ w = a.pioWord x i ∧ a.pioBad x i ≠ some true ∧ pioDecode w = some .take ∧ y.txq = []) ∧
  (∃ (s a : State) (t : Nat) (x : Engine) (i : PioSlot) (w : Nat) (y : PioS),
    a = s.advance t ∧ pioOk x a = true ∧ a.slRuns x i = true ∧ y = a.sl x i ∧ y.hold = 0 ∧ a.tickDue x i = true ∧ w = a.pioWord x i ∧ a.pioBad x i ≠ some true ∧ pioDecode w = some .takeNb ∧ y.txq = []) ∧
  (∃ (s a : State) (t : Nat) (x : Engine) (i : PioSlot) (w : Nat) (y : PioS),
    a = s.advance t ∧ pioOk x a = true ∧ a.slRuns x i = true ∧ y = a.sl x i ∧ y.hold = 0 ∧ a.tickDue x i = true ∧ w = a.pioWord x i ∧ a.pioBad x i ≠ some true ∧ pioDecode w = some .put ∧ y.rxq.length < a.rxSize x i ∧ a.on (PIO_SLOT_POST_EN x i) = false) ∧
  (∃ (s a : State) (t : Nat) (x : Engine) (i : PioSlot) (w : Nat) (y : PioS),
    a = s.advance t ∧ pioOk x a = true ∧ a.slRuns x i = true ∧ y = a.sl x i ∧ y.hold = 0 ∧ a.tickDue x i = true ∧ w = a.pioWord x i ∧ a.pioBad x i ≠ some true ∧ pioDecode w = some .put ∧ y.rxq.length < a.rxSize x i ∧ a.on (PIO_SLOT_POST_EN x i) = true) ∧
  (∃ (s a : State) (t : Nat) (x : Engine) (i : PioSlot) (w : Nat) (y : PioS),
    a = s.advance t ∧ pioOk x a = true ∧ a.slRuns x i = true ∧ y = a.sl x i ∧ y.hold = 0 ∧ a.tickDue x i = true ∧ w = a.pioWord x i ∧ a.pioBad x i ≠ some true ∧ pioDecode w = some .putNb ∧ y.rxq.length < a.rxSize x i ∧ a.on (PIO_SLOT_POST_EN x i) = false) ∧
  (∃ (s a : State) (t : Nat) (x : Engine) (i : PioSlot) (w : Nat) (y : PioS),
    a = s.advance t ∧ pioOk x a = true ∧ a.slRuns x i = true ∧ y = a.sl x i ∧ y.hold = 0 ∧ a.tickDue x i = true ∧ w = a.pioWord x i ∧ a.pioBad x i ≠ some true ∧ pioDecode w = some .putNb ∧ y.rxq.length < a.rxSize x i ∧ a.on (PIO_SLOT_POST_EN x i) = true) ∧
  (∃ (s a : State) (t : Nat) (x : Engine) (i : PioSlot) (w : Nat) (y : PioS),
    a = s.advance t ∧ pioOk x a = true ∧ a.slRuns x i = true ∧ y = a.sl x i ∧ y.hold = 0 ∧ a.tickDue x i = true ∧ w = a.pioWord x i ∧ a.pioBad x i ≠ some true ∧ pioDecode w = some .put ∧ a.rxSize x i ≤ y.rxq.length) ∧
  (∃ (s a : State) (t : Nat) (x : Engine) (i : PioSlot) (w : Nat) (y : PioS),
    a = s.advance t ∧ pioOk x a = true ∧ a.slRuns x i = true ∧ y = a.sl x i ∧ y.hold = 0 ∧ a.tickDue x i = true ∧ w = a.pioWord x i ∧ a.pioBad x i ≠ some true ∧ pioDecode w = some .putNb ∧ a.rxSize x i ≤ y.rxq.length) ∧
  (∃ (s a : State) (t : Nat) (x : Engine) (i : PioSlot) (w : Nat) (y : PioS) (pins : BitVec 2),
    a = s.advance t ∧ pioOk x a = true ∧ a.slRuns x i = true ∧ y = a.sl x i ∧ y.hold = 0 ∧ a.tickDue x i = true ∧ w = a.pioWord x i ∧ a.pioBad x i ≠ some true ∧ pioDecode w = some .movs) :=
  ⟨⟨upo 1283 { latch := 0 }, (upo 1283 { latch := 0 }).advance 5000, 5000, 0, 0, 1283, { latch := 0 }, by decide +kernel⟩,
   ⟨upo 5379 { latch := 0 }, (upo 5379 { latch := 0 }).advance 5000, 5000, 0, 0, 5379, { latch := 0 }, by decide +kernel⟩,
   ⟨(upo 0x2000 { sr := 5 }).wr (PIO_SLOT_STAT_BC 0 0) 8, ((upo 0x2000 { sr := 5 }).wr (PIO_SLOT_STAT_BC 0 0) 8).advance 5000, 5000, 0, 0, 8192, { sr := 5 }, by decide +kernel⟩,
   ⟨upo 9216 { latch := 0 }, (upo 9216 { latch := 0 }).advance 5000, 5000, 0, 0, 9216, { latch := 0 }, by decide +kernel⟩,
   ⟨upo 12288 { latch := 0 }, (upo 12288 { latch := 0 }).advance 5000, 5000, 0, 0, 12288, { latch := 0 }, 1, (upo 0x3000 { latch := 0 }).advance 5000 |>.modSl 0 0 fun z => { z with ext := some 1 }, by decide +kernel⟩,
   ⟨upo 16384 { txq := [7, 8] }, (upo 16384 { txq := [7, 8] }).advance 5000, 5000, 0, 0, 16384, { txq := [7, 8] }, 7, [8], by decide +kernel⟩,
   ⟨upo 18432 { txq := [7, 8] }, (upo 18432 { txq := [7, 8] }).advance 5000, 5000, 0, 0, 18432, { txq := [7, 8] }, 7, [8], by decide +kernel⟩,
   ⟨upo 16384 { latch := 0 }, (upo 16384 { latch := 0 }).advance 5000, 5000, 0, 0, 16384, { latch := 0 }, by decide +kernel⟩,
   ⟨upo 18432 { latch := 0 }, (upo 18432 { latch := 0 }).advance 5000, 5000, 0, 0, 18432, { latch := 0 }, by decide +kernel⟩,
   ⟨upo 20480 { sr := 7 }, (upo 20480 { sr := 7 }).advance 5000, 5000, 0, 0, 20480, { sr := 7 }, by decide +kernel⟩,
   ⟨(upo 20480 { sr := 7 }).wr (PIO_SLOT_POST_EN 0 0) 1, ((upo 20480 { sr := 7 }).wr (PIO_SLOT_POST_EN 0 0) 1).advance 5000, 5000, 0, 0, 20480, { sr := 7 }, by decide +kernel⟩,
   ⟨upo 22528 { sr := 7 }, (upo 22528 { sr := 7 }).advance 5000, 5000, 0, 0, 22528, { sr := 7 }, by decide +kernel⟩,
   ⟨(upo 22528 { sr := 7 }).wr (PIO_SLOT_POST_EN 0 0) 1, ((upo 22528 { sr := 7 }).wr (PIO_SLOT_POST_EN 0 0) 1).advance 5000, 5000, 0, 0, 22528, { sr := 7 }, by decide +kernel⟩,
   ⟨upo 20480 { rxq := [1, 2, 3, 4] }, (upo 20480 { rxq := [1, 2, 3, 4] }).advance 5000, 5000, 0, 0, 20480, { rxq := [1, 2, 3, 4] }, by decide +kernel⟩,
   ⟨upo 22528 { rxq := [1, 2, 3, 4] }, (upo 22528 { rxq := [1, 2, 3, 4] }).advance 5000, 5000, 0, 0, 22528, { rxq := [1, 2, 3, 4] }, by decide +kernel⟩,
   ⟨upo 49728 { k0 := 9 }, (upo 49728 { k0 := 9 }).advance 5000, 5000, 0, 0, 49728, { k0 := 9 }, 1, by decide +kernel⟩⟩

/-- States and operands that meet every hypothesis of each clause of PioFlowInstructions. -/
theorem witness_PioFlowInstructions :
  (∃ (s a : State) (t : Nat) (x : Engine) (i : PioSlot) (w : Nat) (y : PioS),
    a = s.advance t ∧ pioOk x a = true ∧ a.slRuns x i = true ∧ y = a.sl x i ∧ a.tickDue x i = true ∧ w = a.pioWord x i ∧ a.pioBad x i ≠ some true ∧ y.hold = 0 ∧ pioDecode w = some .setk) ∧
  (∃ (s a : State) (t : Nat) (x : Engine) (i : PioSlot) (w : Nat) (y : PioS),
    a = s.advance t ∧ pioOk x a = true ∧ a.slRuns x i = true ∧ y = a.sl x i ∧ a.tickDue x i = true ∧ w = a.pioWord x i ∧ a.pioBad x i ≠ some true ∧ y.hold = 0 ∧ pioDecode w = some .loop ∧ y.k (bit w 11) = 0) ∧
  (∃ (s a : State) (t : Nat) (x : Engine) (i : PioSlot) (w : Nat) (y : PioS),
    a = s.advance t ∧ pioOk x a = true ∧ a.slRuns x i = true ∧ y = a.sl x i ∧ a.tickDue x i = true ∧ w = a.pioWord x i ∧ a.pioBad x i ≠ some true ∧ y.hold = 0 ∧ pioDecode w = some .loop ∧ 0 < y.k (bit w 11)) ∧
  (∃ (s a : State) (t : Nat) (x : Engine) (i : PioSlot) (w : Nat) (y : PioS) (pins : BitVec 2) (u : State),
    a = s.advance t ∧ pioOk x a = true ∧ a.slRuns x i = true ∧ y = a.sl x i ∧ a.tickDue x i = true ∧ w = a.pioWord x i ∧ a.pioBad x i ≠ some true ∧ y.hold = 0 ∧ pioDecode w = some .br ∧ u = (a.modSl x i fun z => { z with ext := some (pins.toNat % 4) }) ∧ u.brCond x i (bits w 8 4) = true) ∧
  (∃ (s a : State) (t : Nat) (x : Engine) (i : PioSlot) (w : Nat) (y : PioS) (pins : BitVec 2) (u : State),
    a = s.advance t ∧ pioOk x a = true ∧ a.slRuns x i = true ∧ y = a.sl x i ∧ a.tickDue x i = true ∧ w = a.pioWord x i ∧ a.pioBad x i ≠ some true ∧ y.hold = 0 ∧ pioDecode w = some .br ∧ u = (a.modSl x i fun z => { z with ext := some (pins.toNat % 4) }) ∧ u.brCond x i (bits w 8 4) = false) ∧
  (∃ (s a : State) (t : Nat) (x : Engine) (i : PioSlot) (w : Nat) (y : PioS) (pins : BitVec 2) (u : State),
    a = s.advance t ∧ pioOk x a = true ∧ a.slRuns x i = true ∧ y = a.sl x i ∧ a.tickDue x i = true ∧ w = a.pioWord x i ∧ a.pioBad x i ≠ some true ∧ y.hold = 0 ∧ pioDecode w = some .waite ∧ u = (a.modSl x i fun z => { z with ext := some (pins.toNat % 4) }) ∧ (match bits w 9 2 with | 0 => !u.pioPin x i (bitN w 11) | 1 => u.pioPin x i (bitN w 11) | 2 => y.prev == some false && u.pioPin x i (bitN w 11) | _ => y.prev == some true && !u.pioPin x i (bitN w 11)) = true) ∧
  (∃ (s a : State) (t : Nat) (x : Engine) (i : PioSlot) (w : Nat) (y : PioS) (pins : BitVec 2) (u : State),
    a = s.advance t ∧ pioOk x a = true ∧ a.slRuns x i = true ∧ y = a.sl x i ∧ a.tickDue x i = true ∧ w = a.pioWord x i ∧ a.pioBad x i ≠ some true ∧ y.hold = 0 ∧ pioDecode w = some .waite ∧ u = (a.modSl x i fun z => { z with ext := some (pins.toNat % 4) }) ∧ (match bits w 9 2 with | 0 => !u.pioPin x i (bitN w 11) | 1 => u.pioPin x i (bitN w 11) | 2 => y.prev == some false && u.pioPin x i (bitN w 11) | _ => y.prev == some true && !u.pioPin x i (bitN w 11)) = false ∧ bit w 8 = true ∧ y.k1 = 0) ∧
  (∃ (s a : State) (t : Nat) (x : Engine) (i : PioSlot) (w : Nat) (y : PioS) (pins : BitVec 2) (u : State),
    a = s.advance t ∧ pioOk x a = true ∧ a.slRuns x i = true ∧ y = a.sl x i ∧ a.tickDue x i = true ∧ w = a.pioWord x i ∧ a.pioBad x i ≠ some true ∧ y.hold = 0 ∧ pioDecode w = some .waite ∧ u = (a.modSl x i fun z => { z with ext := some (pins.toNat % 4) }) ∧ (match bits w 9 2 with | 0 => !u.pioPin x i (bitN w 11) | 1 => u.pioPin x i (bitN w 11) | 2 => y.prev == some false && u.pioPin x i (bitN w 11) | _ => y.prev == some true && !u.pioPin x i (bitN w 11)) = false ∧ ((bit w 8 = false ∨ 0 < y.k1))) ∧
  (∃ (s a : State) (t : Nat) (x : Engine) (i : PioSlot) (w : Nat) (y : PioS),
    a = s.advance t ∧ pioOk x a = true ∧ a.slRuns x i = true ∧ y = a.sl x i ∧ a.tickDue x i = true ∧ w = a.pioWord x i ∧ a.pioBad x i ≠ some true ∧ y.hold = 0 ∧ pioDecode w = some .waitf ∧ (if bit w 11 then bit (a.rd (PIO_ENG_STAT_IRQF x)) (bits w 0 3) else a.on (PIO_SLOT_STAT_TRIG x i)) = bit w 10) ∧
  (∃ (s a : State) (t : Nat) (x : Engine) (i : PioSlot) (w : Nat) (y : PioS),
    a = s.advance t ∧ pioOk x a = true ∧ a.slRuns x i = true ∧ y = a.sl x i ∧ a.tickDue x i = true ∧ w = a.pioWord x i ∧ a.pioBad x i ≠ some true ∧ y.hold = 0 ∧ pioDecode w = some .waitf ∧ (if bit w 11 then bit (a.rd (PIO_ENG_STAT_IRQF x)) (bits w 0 3) else a.on (PIO_SLOT_STAT_TRIG x i)) ≠ bit w 10) ∧
  (∃ (s a : State) (t : Nat) (x : Engine) (i : PioSlot) (w : Nat) (y : PioS),
    a = s.advance t ∧ pioOk x a = true ∧ a.slRuns x i = true ∧ y = a.sl x i ∧ a.tickDue x i = true ∧ w = a.pioWord x i ∧ a.pioBad x i ≠ some true ∧ y.hold = 0 ∧ pioDecode w = some .sigSet) ∧
  (∃ (s a : State) (t : Nat) (x : Engine) (i : PioSlot) (w : Nat) (y : PioS),
    a = s.advance t ∧ pioOk x a = true ∧ a.slRuns x i = true ∧ y = a.sl x i ∧ a.tickDue x i = true ∧ w = a.pioWord x i ∧ a.pioBad x i ≠ some true ∧ y.hold = 0 ∧ pioDecode w = some .sigClear) ∧
  (∃ (s a : State) (t : Nat) (x : Engine) (i : PioSlot) (w : Nat) (y : PioS),
    a = s.advance t ∧ pioOk x a = true ∧ a.slRuns x i = true ∧ y = a.sl x i ∧ a.tickDue x i = true ∧ w = a.pioWord x i ∧ a.pioBad x i ≠ some true ∧ y.hold = 0 ∧ pioDecode w = some .sigInv) ∧
  (∃ (s a : State) (t : Nat) (x : Engine) (i : PioSlot) (w : Nat) (y : PioS),
    a = s.advance t ∧ pioOk x a = true ∧ a.slRuns x i = true ∧ y = a.sl x i ∧ a.tickDue x i = true ∧ w = a.pioWord x i ∧ a.pioBad x i ≠ some true ∧ y.hold = 0 ∧ pioDecode w = some .sigIrq) ∧
  (∃ (s a : State) (t : Nat) (x : Engine) (i : PioSlot) (w : Nat) (y : PioS),
    a = s.advance t ∧ pioOk x a = true ∧ a.slRuns x i = true ∧ y = a.sl x i ∧ a.tickDue x i = true ∧ w = a.pioWord x i ∧ a.pioBad x i ≠ some true ∧ 0 < y.hold) ∧
  (∃ (s a : State) (t : Nat) (x : Engine) (i : PioSlot) (w : Nat) (y : PioS),
    a = s.advance t ∧ pioOk x a = true ∧ a.slRuns x i = true ∧ y = a.sl x i ∧ a.tickDue x i = true ∧ w = a.pioWord x i ∧ a.pioBad x i ≠ some true ∧ y.hold = 0 ∧ pioDecode w = none) :=
  ⟨⟨upo 24581 { latch := 0 }, (upo 24581 { latch := 0 }).advance 5000, 5000, 0, 0, 24581, { latch := 0 }, by decide +kernel⟩,
   ⟨upo 28677 { latch := 0 }, (upo 28677 { latch := 0 }).advance 5000, 5000, 0, 0, 28677, { latch := 0 }, by decide +kernel⟩,
   ⟨upo 28677 { k0 := 3 }, (upo 28677 { k0 := 3 }).advance 5000, 5000, 0, 0, 28677, { k0 := 3 }, by decide +kernel⟩,
   ⟨upo 32773 { latch := 0 }, (upo 32773 { latch := 0 }).advance 5000, 5000, 0, 0, 32773, { latch := 0 }, 1, (upo 32773 { latch := 0 }).advance 5000 |>.modSl 0 0 fun z => { z with ext := some 1 }, by decide +kernel⟩,
   ⟨upo 33285 { latch := 0 }, (upo 33285 { latch := 0 }).advance 5000, 5000, 0, 0, 33285, { latch := 0 }, 1, (upo 33285 { latch := 0 }).advance 5000 |>.modSl 0 0 fun z => { z with ext := some 1 }, by decide +kernel⟩,
   ⟨upo 37376 { latch := 0 }, (upo 37376 { latch := 0 }).advance 5000, 5000, 0, 0, 37376, { latch := 0 }, 1, (upo 37376 { latch := 0 }).advance 5000 |>.modSl 0 0 fun z => { z with ext := some 1 }, by decide +kernel⟩,
   ⟨upo 37125 { latch := 0 }, (upo 37125 { latch := 0 }).advance 5000, 5000, 0, 0, 37125, { latch := 0 }, 1, (upo 37125 { latch := 0 }).advance 5000 |>.modSl 0 0 fun z => { z with ext := some 1 }, by decide +kernel⟩,
   ⟨upo 37125 { k1 := 3 }, (upo 37125 { k1 := 3 }).advance 5000, 5000, 0, 0, 37125, { k1 := 3 }, 1, (upo 37125 { k1 := 3 }).advance 5000 |>.modSl 0 0 fun z => { z with ext := some 1 }, by decide +kernel⟩,
   ⟨upo 40960 { latch := 0 }, (upo 40960 { latch := 0 }).advance 5000, 5000, 0, 0, 40960, { latch := 0 }, by decide +kernel⟩,
   ⟨upo 41984 { latch := 0 }, (upo 41984 { latch := 0 }).advance 5000, 5000, 0, 0, 41984, { latch := 0 }, by decide +kernel⟩,
   ⟨upo 45059 { latch := 0 }, (upo 45059 { latch := 0 }).advance 5000, 5000, 0, 0, 45059, { latch := 0 }, by decide +kernel⟩,
   ⟨upo 46083 { latch := 0 }, (upo 46083 { latch := 0 }).advance 5000, 5000, 0, 0, 46083, { latch := 0 }, by decide +kernel⟩,
   ⟨upo 47107 { latch := 0 }, (upo 47107 { latch := 0 }).advance 5000, 5000, 0, 0, 47107, { latch := 0 }, by decide +kernel⟩,
   ⟨upo 48131 { latch := 0 }, (upo 48131 { latch := 0 }).advance 5000, 5000, 0, 0, 48131, { latch := 0 }, by decide +kernel⟩,
   ⟨upo 0 { hold := 3 }, (upo 0 { hold := 3 }).advance 5000, 5000, 0, 0, 0, { hold := 3 }, by decide +kernel⟩,
   ⟨upo 61440 { latch := 0 }, (upo 61440 { latch := 0 }).advance 5000, 5000, 0, 0, 61440, { latch := 0 }, by decide +kernel⟩⟩

/-- States and operands that meet every hypothesis of each clause of PioEnginesAndQueues. -/
theorem witness_PioEnginesAndQueues :
  (∃ (s a : State) (t : Nat) (x : Engine) (m : Master),
    a = s.advance t ∧ State.corn 3 a = true ∧ a.mayWrite m (pioPage x) 8 1 1 = true ∧ a.rd (PIO_ENG_STAT_STATE x) = 0 ∧ ((List.range 8).map fun i => a.txSize x i + a.rxSize x i).sum ≤ 64) ∧
  (∃ (s a : State) (t : Nat) (x : Engine) (m : Master),
    a = s.advance t ∧ State.corn 3 a = true ∧ a.mayWrite m (pioPage x) 8 1 1 = true ∧ a.rd (PIO_ENG_STAT_STATE x) = 0 ∧ 64 < ((List.range 8).map fun i => a.txSize x i + a.rxSize x i).sum) ∧
  (∃ (s a : State) (t : Nat) (x : Engine) (m : Master),
    a = s.advance t ∧ State.corn 3 a = true ∧ a.mayWrite m (pioPage x) 8 0 1 = true) ∧
  (∃ (s a : State) (t : Nat) (x : Engine) (m : Master) (i : PioSlot),
    a = s.advance t ∧ State.corn 3 a = true ∧ a.mayWrite m (pioPage x) (0x100 + 0x20 * i) (2 ^ 31) (2 ^ 31) = true ∧ a.on (PIO_SLOT_CFG_EN x i) = false ∧ a.rd (PIO_ENG_STAT_STATE x) = 1) ∧
  (∃ (s a : State) (t : Nat) (x : Engine) (m : Master) (i : PioSlot),
    a = s.advance t ∧ State.corn 3 a = true ∧ a.mayWrite m (pioPage x) (0x100 + 0x20 * i) 0 (2 ^ 31) = true ∧ a.on (PIO_SLOT_CFG_EN x i) = true) ∧
  (∃ (s a : State) (t : Nat) (x : Engine) (m : Master) (i : PioSlot) (v : Word),
    a = s.advance t ∧ State.corn 3 a = true ∧ a.mayWrite m (pioPage x) (0x114 + 0x20 * i) v.toNat 0xFFFFFFFF = true ∧ (a.sl x i).txq.length < a.txSize x i) ∧
  (∃ (s a : State) (t : Nat) (x : Engine) (m : Master) (i : PioSlot) (v : Word),
    a = s.advance t ∧ State.corn 3 a = true ∧ a.mayWrite m (pioPage x) (0x114 + 0x20 * i) v.toNat 0xFFFFFFFF = true ∧ a.txSize x i ≤ (a.sl x i).txq.length) ∧
  (∃ (s a : State) (t : Nat) (x : Engine) (m : Master) (i : PioSlot) (v : Nat) (r : List Nat),
    a = s.advance t ∧ State.corn 3 a = true ∧ a.mayRead m (pioPage x) (0x118 + 0x20 * i) = true ∧ a.on (PIO_SLOT_POST_EN x i) = false ∧ (a.sl x i).rxq = v :: r) ∧
  (∃ (s a : State) (t : Nat) (x : Engine) (m : Master) (i : PioSlot),
    a = s.advance t ∧ State.corn 3 a = true ∧ a.mayRead m (pioPage x) (0x118 + 0x20 * i) = true ∧ a.on (PIO_SLOT_POST_EN x i) = false ∧ (a.sl x i).rxq = []) ∧
  (∃ (s a : State) (t : Nat) (x : Engine),
    a = s.advance t ∧ State.corn 3 a = true ∧ 56 + x.val ∈ a.rtr.destPending) ∧
  (∃ (s a : State) (t : Nat) (x : Engine) (m : Master) (off : BitVec 12) (v : Word),
    a = s.advance t ∧ State.corn 3 a = true ∧ a.mayWrite m (pioPage x) off.toNat v.toNat 0xFFFFFFFF = true ∧ 0x400 ≤ off.toNat ∧ off.toNat < 0x800 ∧ a.rd (PIO_ENG_STAT_STATE x) = 0) ∧
  (∃ (s a : State) (t : Nat) (x : Engine) (m : Master) (off : BitVec 12) (v : Word),
    a = s.advance t ∧ State.corn 3 a = true ∧ a.mayWrite m (pioPage x) off.toNat v.toNat 0xFFFFFFFF = true ∧ 0x400 ≤ off.toNat ∧ off.toNat < 0x800 ∧ a.rd (PIO_ENG_STAT_STATE x) ≠ 0) ∧
  (∃ (s a : State) (t : Nat) (x : Engine) (c : BitVec 8),
    a = s.advance t ∧ State.corn 3 a = true ∧ pioOk x a = true) :=
  ⟨⟨(upc.wr (PIO_SLOT_CFG_EN 0 0) 1), ((upc.wr (PIO_SLOT_CFG_EN 0 0) 1)).advance 5000, 5000, 0, 3, by decide +kernel⟩,
   ⟨(upc.wr (PIO_SLOT_CFG_TX_SZ 0 0) 16).wr (PIO_SLOT_CFG_RX_SZ 0 0) 16, ((upc.wr (PIO_SLOT_CFG_TX_SZ 0 0) 16).wr (PIO_SLOT_CFG_RX_SZ 0 0) 16).advance 5000, 5000, 0, 3, by decide +kernel⟩,
   ⟨upo 0 {}, (upo 0 {}).advance 5000, 5000, 0, 3, by decide +kernel⟩,
   ⟨(upo 0 {}).wr (PIO_SLOT_CFG_EN 0 0) 0, ((upo 0 {}).wr (PIO_SLOT_CFG_EN 0 0) 0).advance 5000, 5000, 0, 3, 0, by decide +kernel⟩,
   ⟨upo 0 {}, (upo 0 {}).advance 5000, 5000, 0, 3, 0, by decide +kernel⟩,
   ⟨upo 0 {}, (upo 0 {}).advance 5000, 5000, 0, 3, 0, 9, by decide +kernel⟩,
   ⟨upo 0 { txq := [1, 2, 3, 4] }, (upo 0 { txq := [1, 2, 3, 4] }).advance 5000, 5000, 0, 3, 0, 9, by decide +kernel⟩,
   ⟨upo 0 { rxq := [1, 2] }, (upo 0 { rxq := [1, 2] }).advance 5000, 5000, 0, 3, 0, 1, [2], by decide +kernel⟩,
   ⟨upo 0 {}, (upo 0 {}).advance 5000, 5000, 0, 3, 0, by decide +kernel⟩,
   ⟨{ ((upo 0 {}).wr (PIO_ENG_CFG_TRIG_SLOTS 0) 1) with rtr := { destPending := [56] } }, ({ ((upo 0 {}).wr (PIO_ENG_CFG_TRIG_SLOTS 0) 1) with rtr := { destPending := [56] } }).advance 5000, 5000, 0, by decide +kernel⟩,
   ⟨upc, (upc).advance 5000, 5000, 0, 3, 0x404, 0x6005, by decide +kernel⟩,
   ⟨upo 0 {}, (upo 0 {}).advance 5000, 5000, 0, 3, 0x404, 0x6005, by decide +kernel⟩,
   ⟨upo 0 {}, (upo 0 {}).advance 5000, 5000, 0, 3, by decide +kernel⟩⟩

/-- States and operands that meet every hypothesis of each clause of LinkTraining. -/
theorem witness_LinkTraining :
  (∃ (s a u : State) (t : Nat) (m : Master) (x : Link),
    a = s.advance t ∧ linkOk a = true ∧ u = a.linkBegin ∧ u.mayWrite m (0xC8 + x.val) 8 1 1 = true ∧ u.on (PG_CTRL_EN (0xC8 + x.val)) = false) ∧
  (∃ (s a u : State) (t : Nat) (x : Link),
    a = s.advance t ∧ linkOk a = true ∧ u = a.linkBegin ∧ u.linkRuns x = true ∧ u.linkState x = 1) ∧
  (∃ (s a u : State) (t : Nat) (x : Link) (w0 w1 : Word) (d : Nat),
    a = s.advance t ∧ linkOk a = true ∧ u = a.linkBegin ∧ u.linkRuns x = true ∧ u.linkState x = 2 ∧ bits w0.toNat 14 2 = u.ownId) ∧
  (∃ (s a u : State) (t : Nat) (x : Link) (w0 w1 : Word) (d : Nat),
    a = s.advance t ∧ linkOk a = true ∧ u = a.linkBegin ∧ u.linkRuns x = true ∧ u.linkState x = 2 ∧ bits w0.toNat 14 2 ≠ u.ownId ∧ bits w0.toNat 24 8 < 0x10) ∧
  (∃ (s a u : State) (t : Nat) (x : Link) (w0 w1 : Word) (d : Nat),
    a = s.advance t ∧ linkOk a = true ∧ u = a.linkBegin ∧ u.linkRuns x = true ∧ u.linkState x = 2 ∧ bits w0.toNat 14 2 ≠ u.ownId ∧ 0x10 ≤ bits w0.toNat 24 8 ∧ bit w0.toNat 12 = true) ∧
  (∃ (s a u : State) (t : Nat) (x : Link) (w0 w1 : Word) (d : Nat),
    a = s.advance t ∧ linkOk a = true ∧ u = a.linkBegin ∧ u.linkRuns x = true ∧ u.linkState x = 2 ∧ bits w0.toNat 14 2 ≠ u.ownId ∧ 0x10 ≤ bits w0.toNat 24 8 ∧ bit w0.toNat 12 = false) ∧
  (∃ (s a u : State) (t : Nat) (x : Link) (w0 w1 : Word) (d : Nat),
    a = s.advance t ∧ linkOk a = true ∧ u = a.linkBegin ∧ u.linkRuns x = true ∧ u.linkState x = 3 ∧ bit w0.toNat 10 = true ∧ (u.lnk x).pairs.length < 15) ∧
  (∃ (s a u : State) (t : Nat) (x : Link) (w0 w1 : Word) (d : Nat) (l : List Int),
    a = s.advance t ∧ linkOk a = true ∧ u = a.linkBegin ∧ u.linkRuns x = true ∧ u.linkState x = 3 ∧ bit w0.toNat 10 = true ∧ l = (u.lnk x).pairs ++ [5 * ((d : Int) - w1.toNat) - 256] ∧ l.length = 16 ∧ l.foldl (· + ·) 0 ≤ 64000 ∧ l.foldl max (l.headD 0) - l.foldl min (l.headD 0) ≤ 80) ∧
  (∃ (s a u : State) (t : Nat) (x : Link) (w0 w1 : Word) (d : Nat) (l : List Int),
    a = s.advance t ∧ linkOk a = true ∧ u = a.linkBegin ∧ u.linkRuns x = true ∧ u.linkState x = 3 ∧ bit w0.toNat 10 = true ∧ l = (u.lnk x).pairs ++ [5 * ((d : Int) - w1.toNat) - 256] ∧ l.length = 16 ∧ ((64000 < l.foldl (· + ·) 0 ∨ 80 < l.foldl max (l.headD 0) - l.foldl min (l.headD 0)))) ∧
  (∃ (s a u : State) (t : Nat) (x : Link),
    a = s.advance t ∧ linkOk a = true ∧ u = a.linkBegin ∧ u.linkRuns x = true ∧ 1 ≤ u.linkState x ∧ u.linkState x ≤ 3 ∧ (u.lnk x).since + 400000 ≤ a.tb) ∧
  (∃ (s a u : State) (t : Nat) (x : Link) (c : Fin 4),
    a = s.advance t ∧ linkOk a = true ∧ u = a.linkBegin ∧ u.linkRuns x = true ∧ u.linkUp x = true ∧ c.val ≠ 0 ∧ ((c.val = 3 → (u.lnk x).lastValid + 12000 ≤ a.tb))) ∧
  (∃ (s a u : State) (t : Nat) (x : Link) (c : Fin 6) (f : Field),
    a = s.advance t ∧ linkOk a = true ∧ u = a.linkBegin ∧ u.linkRuns x = true ∧ 2 ≤ u.linkState x ∧ u.linkState x ≤ 4 ∧ ((c.val = 1 ∧ f = LINK_ERR_CNT_CV x ∨ c.val = 2 ∧ f = LINK_ERR_CNT_CRC x ∨ 3 ≤ c.val ∧ f = LINK_ERR_CNT_FORMAT x))) :=
  ⟨⟨upc, (upc).advance 500000, ((upc).advance 500000).linkBegin, 500000, 3, 0, by decide +kernel⟩,
   ⟨upl 1 1, (upl 1 1).advance 500000, ((upl 1 1).advance 500000).linkBegin, 500000, 0, by decide +kernel⟩,
   ⟨(upl 2 1).modLnk 0 fun l => { l with trainAt := 500400 }, ((upl 2 1).modLnk 0 fun l => { l with trainAt := 500400 }).advance 500000, (((upl 2 1).modLnk 0 fun l => { l with trainAt := 500400 }).advance 500000).linkBegin, 500000, 0, 0x20004000, 0, 100, by decide +kernel⟩,
   ⟨(upl 2 1).modLnk 0 fun l => { l with trainAt := 500400 }, ((upl 2 1).modLnk 0 fun l => { l with trainAt := 500400 }).advance 500000, (((upl 2 1).modLnk 0 fun l => { l with trainAt := 500400 }).advance 500000).linkBegin, 500000, 0, 0x8008000, 0, 100, by decide +kernel⟩,
   ⟨(upl 2 1).modLnk 0 fun l => { l with trainAt := 500400 }, ((upl 2 1).modLnk 0 fun l => { l with trainAt := 500400 }).advance 500000, (((upl 2 1).modLnk 0 fun l => { l with trainAt := 500400 }).advance 500000).linkBegin, 500000, 0, 0x2007B000, 0, 100, by decide +kernel⟩,
   ⟨(upl 2 1).modLnk 0 fun l => { l with trainAt := 500400 }, ((upl 2 1).modLnk 0 fun l => { l with trainAt := 500400 }).advance 500000, (((upl 2 1).modLnk 0 fun l => { l with trainAt := 500400 }).advance 500000).linkBegin, 500000, 0, 0x20078000, 0, 100, by decide +kernel⟩,
   ⟨upl 3 1, (upl 3 1).advance 500000, ((upl 3 1).advance 500000).linkBegin, 500000, 0, 0x2007B400, 10, 100, by decide +kernel⟩,
   ⟨(upl 3 1).modLnk 0 fun l => { l with pairs := List.replicate 15 194 }, ((upl 3 1).modLnk 0 fun l => { l with pairs := List.replicate 15 194 }).advance 500000, (((upl 3 1).modLnk 0 fun l => { l with pairs := List.replicate 15 194 }).advance 500000).linkBegin, 500000, 0, 0x2007B400, 10, 100, List.replicate 16 194, by decide +kernel⟩,
   ⟨(upl 3 1).modLnk 0 fun l => { l with pairs := List.replicate 15 100 }, ((upl 3 1).modLnk 0 fun l => { l with pairs := List.replicate 15 100 }).advance 500000, (((upl 3 1).modLnk 0 fun l => { l with pairs := List.replicate 15 100 }).advance 500000).linkBegin, 500000, 0, 0x2007B400, 10, 100, List.replicate 15 100 ++ [194], by decide +kernel⟩,
   ⟨upl 1 1, (upl 1 1).advance 500000, ((upl 1 1).advance 500000).linkBegin, 500000, 0, by decide +kernel⟩,
   ⟨upl 4 1, (upl 4 1).advance 500000, ((upl 4 1).advance 500000).linkBegin, 500000, 0, 3, by decide +kernel⟩,
   ⟨upl 4 1, (upl 4 1).advance 500000, ((upl 4 1).advance 500000).linkBegin, 500000, 0, 2, LINK_ERR_CNT_CRC 0, by decide +kernel⟩⟩

/-- States and operands that meet every hypothesis of each clause of CascadeRoles. -/
theorem witness_CascadeRoles :
  (∃ (s a u : State) (t : Nat) (m : Master),
    a = s.advance t ∧ linkOk a = true ∧ u = a.linkBegin ∧ u.mayWrite m 0xCC 8 1 1 = true ∧ u.on (PG_CTRL_EN 0xCC) = false) ∧
  (∃ (s a u : State) (t : Nat),
    a = s.advance t ∧ linkOk a = true ∧ u = a.linkBegin ∧ u.cascOn = true ∧ u.role = 1 ∧ u.eligible = true ∧ u.casc.listen + 4000 ≤ a.tb ∧ (u.casc.lastBcn.all fun l => decide (l + 4000 ≤ a.tb)) = true ∧ ((∀ n < u.ownId, n < 4 → u.peerElig n = false))) ∧
  (∃ (s a u : State) (t : Nat),
    a = s.advance t ∧ linkOk a = true ∧ u = a.linkBegin ∧ u.cascOn = true ∧ u.role = 2 ∧ u.eligible = true ∧ (u.casc.bcnAt.all fun l => decide (l / 400 < a.tb / 400)) = true) ∧
  (∃ (s a u : State) (t : Nat) (x : Link) (h : LinkHdr) (ws : List Word),
    a = s.advance t ∧ linkOk a = true ∧ u = a.linkBegin ∧ u.linkRuns x = true ∧ u.carries x 2 = true ∧ bits h.h0.toNat 4 4 = 2 ∧ bits h.h0.toNat 0 2 ≠ u.ownId ∧ (u.casc.seen.all fun q => !(q.1 == bits h.h0.toNat 0 2 && q.2.1 == h.h1.toNat % 256) || decide (q.2.2 + 4000 ≤ a.tb)) = true ∧ u.cascOn = true ∧ ws.length = 10 ∧ u.role = 1 ∧ u.link2 x = true) ∧
  (∃ (s a u : State) (t : Nat) (x : Link) (h : LinkHdr) (w : Word),
    a = s.advance t ∧ linkOk a = true ∧ u = a.linkBegin ∧ u.linkRuns x = true ∧ u.carries x 3 = true ∧ bits h.h0.toNat 4 4 = 3 ∧ bits h.h0.toNat 0 2 ≠ u.ownId ∧ (u.casc.seen.all fun q => !(q.1 == bits h.h0.toNat 0 2 && q.2.1 == h.h1.toNat % 256) || decide (q.2.2 + 4000 ≤ a.tb)) = true ∧ u.cascOn = true) ∧
  (∃ (s a u : State) (t : Nat),
    a = s.advance t ∧ linkOk a = true ∧ u = a.linkBegin ∧ u.cascOn = true ∧ u.role ≠ 0 ∧ u.role ≠ 2 ∧ (u.casc.statAt.all fun l => decide (l + (if u.dupEn then 400 else 4000) ≤ a.tb)) = true) ∧
  (∃ (s a u : State) (t : Nat) (x : Link) (h : LinkHdr) (w : Word),
    a = s.advance t ∧ linkOk a = true ∧ u = a.linkBegin ∧ u.linkRuns x = true ∧ u.carries x 7 = true ∧ bits h.h0.toNat 4 4 = 7 ∧ bits h.h0.toNat 0 2 ≠ u.ownId ∧ (u.casc.seen.all fun q => !(q.1 == bits h.h0.toNat 0 2 && q.2.1 == h.h1.toNat % 256) || decide (q.2.2 + 4000 ≤ a.tb)) = true ∧ u.cascOn = true ∧ u.role = 2 ∧ u.dupEn = true ∧ u.rd CASC_CASC_STAT_EPOCH < bits w.toNat 16 8) ∧
  (∃ (s a u : State) (t : Nat),
    a = s.advance t ∧ linkOk a = true ∧ u = a.linkBegin ∧ u.cascOn = true ∧ u.role = 3 ∧ u.casc.claim = none ∧ u.casc.mstBcn + 1200 ≤ a.tb ∧ u.isSucc = true) ∧
  (∃ (s a u : State) (t : Nat),
    a = s.advance t ∧ linkOk a = true ∧ u = a.linkBegin ∧ u.cascOn = true ∧ u.role = 3 ∧ u.casc.claim = none ∧ u.casc.mstBcn + 1200 ≤ a.tb ∧ u.isSucc = false) ∧
  (∃ (s a u : State) (t : Nat) (e : Nat),
    a = s.advance t ∧ linkOk a = true ∧ u = a.linkBegin ∧ u.cascOn = true ∧ u.role = 3 ∧ u.casc.claim = some e ∧ e ≤ a.tb) :=
  ⟨⟨upc, (upc).advance 500000, ((upc).advance 500000).linkBegin, 500000, 3, by decide +kernel⟩,
   ⟨upl 4 1, (upl 4 1).advance 500000, ((upl 4 1).advance 500000).linkBegin, 500000, by decide +kernel⟩,
   ⟨upl 4 2, (upl 4 2).advance 500000, ((upl 4 2).advance 500000).linkBegin, 500000, by decide +kernel⟩,
   ⟨upl 4 1, (upl 4 1).advance 500000, ((upl 4 1).advance 500000).linkBegin, 500000, 0, ⟨0x22, 7⟩, [0x98000123, 0, 400000, 5, 0x07000000, 0, 0, 0, 0, 0], by decide +kernel⟩,
   ⟨upl 4 1, (upl 4 1).advance 500000, ((upl 4 1).advance 500000).linkBegin, 500000, 0, ⟨0x32, 7⟩, 0xA1050000, by decide +kernel⟩,
   ⟨upl 4 1, (upl 4 1).advance 500000, ((upl 4 1).advance 500000).linkBegin, 500000, by decide +kernel⟩,
   ⟨(upl 4 2).wr CASC_CASC_CFG_DUP_EN 1, ((upl 4 2).wr CASC_CASC_CFG_DUP_EN 1).advance 500000, (((upl 4 2).wr CASC_CASC_CFG_DUP_EN 1).advance 500000).linkBegin, 500000, 0, ⟨0x72, 7⟩, 0x80050000, by decide +kernel⟩,
   ⟨((upl 4 3).wr CASC_CASC_STAT_SUCC_V 1).wr CASC_CASC_STAT_SUCC 1, (((upl 4 3).wr CASC_CASC_STAT_SUCC_V 1).wr CASC_CASC_STAT_SUCC 1).advance 500000, ((((upl 4 3).wr CASC_CASC_STAT_SUCC_V 1).wr CASC_CASC_STAT_SUCC 1).advance 500000).linkBegin, 500000, by decide +kernel⟩,
   ⟨upl 4 3, (upl 4 3).advance 500000, ((upl 4 3).advance 500000).linkBegin, 500000, by decide +kernel⟩,
   ⟨(upl 4 3).modCasc fun c => { c with claim := some 9 }, ((upl 4 3).modCasc fun c => { c with claim := some 9 }).advance 500000, (((upl 4 3).modCasc fun c => { c with claim := some 9 }).advance 500000).linkBegin, 500000, 9, by decide +kernel⟩⟩

/-- States and operands that meet every hypothesis of each clause of CascadeEventsAndRemoteAccess. -/
theorem witness_CascadeEventsAndRemoteAccess :
  (∃ (s a u : State) (t : Nat) (x : Link) (h : LinkHdr) (w : Word),
    a = s.advance t ∧ linkOk a = true ∧ u = a.linkBegin ∧ u.linkRuns x = true ∧ u.carries x 4 = true ∧ bits h.h0.toNat 4 4 = 4 ∧ bits h.h0.toNat 0 2 ≠ u.ownId ∧ (u.casc.seen.all fun q => !(q.1 == bits h.h0.toNat 0 2 && q.2.1 == h.h1.toNat % 256) || decide (q.2.2 + 4000 ≤ a.tb)) = true ∧ u.cascOn = true ∧ bits w.toNat 30 2 ≤ 1) ∧
  (∃ (s a u : State) (t : Nat) (x : Link) (h : LinkHdr) (w : Word),
    a = s.advance t ∧ linkOk a = true ∧ u = a.linkBegin ∧ u.linkRuns x = true ∧ u.carries x 4 = true ∧ bits h.h0.toNat 4 4 = 4 ∧ bits h.h0.toNat 0 2 ≠ u.ownId ∧ (u.casc.seen.all fun q => !(q.1 == bits h.h0.toNat 0 2 && q.2.1 == h.h1.toNat % 256) || decide (q.2.2 + 4000 ≤ a.tb)) = true ∧ u.cascOn = true ∧ bits w.toNat 30 2 = 2) ∧
  (∃ (s a u : State) (t : Nat) (m : Master) (d : Bool) (y v : Word),
    a = s.advance t ∧ linkOk a = true ∧ u = a.linkBegin ∧ u.remCode m y.toNat d = 0) ∧
  (∃ (s a u : State) (t : Nat) (m : Master) (d : Bool) (y v : Word),
    a = s.advance t ∧ linkOk a = true ∧ u = a.linkBegin ∧ u.remCode m y.toNat d ≠ 0) ∧
  (∃ (s a u : State) (t : Nat) (x : Link) (h : LinkHdr) (w0 w1 : Word) (r : RemReq),
    a = s.advance t ∧ linkOk a = true ∧ u = a.linkBegin ∧ u.linkRuns x = true ∧ u.carries x 6 = true ∧ bits h.h0.toNat 4 4 = 6 ∧ bits h.h0.toNat 0 2 ≠ u.ownId ∧ (u.casc.seen.all fun q => !(q.1 == bits h.h0.toNat 0 2 && q.2.1 == h.h1.toNat % 256) || decide (q.2.2 + 4000 ≤ a.tb)) = true ∧ bits w0.toNat 30 2 = u.ownId ∧ u.casc.rem.find? (fun r => r.m == bits w0.toNat 24 4 && r.sent.isSome) = some r) ∧
  (∃ (s a u : State) (t : Nat) (m : Master) (r : RemReq) (l : Nat),
    a = s.advance t ∧ linkOk a = true ∧ u = a.linkBegin ∧ u.casc.rem.find? (fun r => r.m == m.val) = some r ∧ r.sent = some l ∧ l + 800 ≤ a.tb) ∧
  (∃ (s a u : State) (t : Nat) (x : Link) (h : LinkHdr) (w0 w1 : Word) (z : Nat),
    a = s.advance t ∧ linkOk a = true ∧ u = a.linkBegin ∧ u.linkRuns x = true ∧ u.carries x 5 = true ∧ bits h.h0.toNat 4 4 = 5 ∧ bits h.h0.toNat 0 2 ≠ u.ownId ∧ (u.casc.seen.all fun q => !(q.1 == bits h.h0.toNat 0 2 && q.2.1 == h.h1.toNat % 256) || decide (q.2.2 + 4000 ≤ a.tb)) = true ∧ bits w0.toNat 30 2 = u.ownId ∧ 0x100000 ≤ bits w0.toNat 0 24 ∧ bits w0.toNat 0 24 < 0x140000 ∧ z = 0x10000000 + (bits w0.toNat 0 24 - 0x100000) ∧ bit w0.toNat 29 = false ∧ u.readCode 10 z = 0 ∧ u.grantable 10 1 = true) ∧
  (∃ (s a u : State) (t : Nat) (x : Link) (h : LinkHdr) (w0 w1 : Word) (z : Nat),
    a = s.advance t ∧ linkOk a = true ∧ u = a.linkBegin ∧ u.linkRuns x = true ∧ u.carries x 5 = true ∧ bits h.h0.toNat 4 4 = 5 ∧ bits h.h0.toNat 0 2 ≠ u.ownId ∧ (u.casc.seen.all fun q => !(q.1 == bits h.h0.toNat 0 2 && q.2.1 == h.h1.toNat % 256) || decide (q.2.2 + 4000 ≤ a.tb)) = true ∧ bits w0.toNat 30 2 = u.ownId ∧ 0x100000 ≤ bits w0.toNat 0 24 ∧ bits w0.toNat 0 24 < 0x140000 ∧ z = 0x10000000 + (bits w0.toNat 0 24 - 0x100000) ∧ bit w0.toNat 29 = true ∧ u.putCode 10 z w1.toNat 15 = 0 ∧ u.grantable 10 1 = true) ∧
  (∃ (s a u : State) (t : Nat) (x : Link) (h : LinkHdr) (w0 w1 : Word) (z : Nat),
    a = s.advance t ∧ linkOk a = true ∧ u = a.linkBegin ∧ u.linkRuns x = true ∧ u.carries x 5 = true ∧ bits h.h0.toNat 4 4 = 5 ∧ bits h.h0.toNat 0 2 ≠ u.ownId ∧ (u.casc.seen.all fun q => !(q.1 == bits h.h0.toNat 0 2 && q.2.1 == h.h1.toNat % 256) || decide (q.2.2 + 4000 ≤ a.tb)) = true ∧ bits w0.toNat 30 2 = u.ownId ∧ 0x100000 ≤ bits w0.toNat 0 24 ∧ bits w0.toNat 0 24 < 0x140000 ∧ z = 0x10000000 + (bits w0.toNat 0 24 - 0x100000) ∧ bit w0.toNat 29 = false ∧ u.readCode 10 z ≠ 0) :=
  ⟨⟨upl 4 1, (upl 4 1).advance 500000, ((upl 4 1).advance 500000).linkBegin, 500000, 0, ⟨0x42, 7⟩, 0x40000000, by decide +kernel⟩,
   ⟨upl 4 1, (upl 4 1).advance 500000, ((upl 4 1).advance 500000).linkBegin, 500000, 0, ⟨0x42, 7⟩, 0x80000005, by decide +kernel⟩,
   ⟨upl 4 1, (upl 4 1).advance 500000, ((upl 4 1).advance 500000).linkBegin, 500000, 3, true, 0x52000000, 9, by decide +kernel⟩,
   ⟨upl 4 1, (upl 4 1).advance 500000, ((upl 4 1).advance 500000).linkBegin, 500000, 1, true, 0x51000000, 9, by decide +kernel⟩,
   ⟨(upl 4 1).modCasc fun c => { c with rem := [{ m := 3, write := false, addr := 0x52000000, v := 0, sent := some 5 }] }, ((upl 4 1).modCasc fun c => { c with rem := [{ m := 3, write := false, addr := 0x52000000, v := 0, sent := some 5 }] }).advance 500000, (((upl 4 1).modCasc fun c => { c with rem := [{ m := 3, write := false, addr := 0x52000000, v := 0, sent := some 5 }] }).advance 500000).linkBegin, 500000, 0, ⟨0x62, 7⟩, 0x43000000, 77, { m := 3, write := false, addr := 0x52000000, v := 0, sent := some 5 }, by decide +kernel⟩,
   ⟨(upl 4 1).modCasc fun c => { c with rem := [{ m := 3, write := false, addr := 0x52000000, v := 0, sent := some 5 }] }, ((upl 4 1).modCasc fun c => { c with rem := [{ m := 3, write := false, addr := 0x52000000, v := 0, sent := some 5 }] }).advance 500000, (((upl 4 1).modCasc fun c => { c with rem := [{ m := 3, write := false, addr := 0x52000000, v := 0, sent := some 5 }] }).advance 500000).linkBegin, 500000, 3, { m := 3, write := false, addr := 0x52000000, v := 0, sent := some 5 }, 5, by decide +kernel⟩,
   ⟨(upl 4 1).wr (SYS_MBX_ACL_ACL 0) 0xFFFFFFFF, ((upl 4 1).wr (SYS_MBX_ACL_ACL 0) 0xFFFFFFFF).advance 500000, (((upl 4 1).wr (SYS_MBX_ACL_ACL 0) 0xFFFFFFFF).advance 500000).linkBegin, 500000, 0, ⟨0x52, 7⟩, 0x43100000, 0, 0x10000000, by decide +kernel⟩,
   ⟨(upl 4 1).wr (SYS_MBX_ACL_ACL 0) 0xFFFFFFFF, ((upl 4 1).wr (SYS_MBX_ACL_ACL 0) 0xFFFFFFFF).advance 500000, (((upl 4 1).wr (SYS_MBX_ACL_ACL 0) 0xFFFFFFFF).advance 500000).linkBegin, 500000, 0, ⟨0x52, 7⟩, 0x63100000, 0, 0x10000000, by decide +kernel⟩,
   ⟨upl 4 1, (upl 4 1).advance 500000, ((upl 4 1).advance 500000).linkBegin, 500000, 0, ⟨0x52, 7⟩, 0x43100001, 0, 0x10000001, by decide +kernel⟩⟩

/-- States and operands that meet every hypothesis of each clause of FaultSenders. -/
theorem witness_FaultSenders :
  (∃ (s a : State) (t : Nat) (v : BitVec 64) (m : Msg),
    a = s.advance t ∧ State.fltOn a = true ∧ m = { msgOf v.toNat with sev := (a.kcfg (msgOf v.toNat).kind).sev } ∧ (kindReset m.kind).isSome = true ∧ (srcListed m.src && srcListed m.cause && (m.qseg == 0xFF || segOk m.qseg)) = true ∧ ownCrimson.contains m.kind = false ∧ (tget {} a.flt.slots m.src).wait = none ∧ ((tget {} a.flt.slots m.src).last.all fun l => decide (l + 400 ≤ a.tb)) = true) ∧
  (∃ (s a : State) (t : Nat) (v : BitVec 64) (m : Msg) (l : Nat),
    a = s.advance t ∧ State.fltOn a = true ∧ m = { msgOf v.toNat with sev := (a.kcfg (msgOf v.toNat).kind).sev } ∧ (kindReset m.kind).isSome = true ∧ (srcListed m.src && srcListed m.cause && (m.qseg == 0xFF || segOk m.qseg)) = true ∧ ownCrimson.contains m.kind = false ∧ (tget {} a.flt.slots m.src).wait = none ∧ (tget {} a.flt.slots m.src).last = some l ∧ a.tb < l + 400) ∧
  (∃ (s a : State) (t : Nat) (v : BitVec 64) (m : Msg) (w : Msg) (i : Bool) (l : Nat),
    a = s.advance t ∧ State.fltOn a = true ∧ m = { msgOf v.toNat with sev := (a.kcfg (msgOf v.toNat).kind).sev } ∧ (kindReset m.kind).isSome = true ∧ (srcListed m.src && srcListed m.cause && (m.qseg == 0xFF || segOk m.qseg)) = true ∧ ownCrimson.contains m.kind = false ∧ (tget {} a.flt.slots m.src).wait = some (w, i) ∧ (tget {} a.flt.slots m.src).last = some l ∧ a.tb < l + 400 ∧ m.sev ≤ w.sev ∧ w.cause = m.cause ∧ w.kind = m.kind) ∧
  (∃ (s a : State) (t : Nat) (v : BitVec 64) (m : Msg) (w : Msg) (i : Bool) (l : Nat),
    a = s.advance t ∧ State.fltOn a = true ∧ m = { msgOf v.toNat with sev := (a.kcfg (msgOf v.toNat).kind).sev } ∧ (kindReset m.kind).isSome = true ∧ (srcListed m.src && srcListed m.cause && (m.qseg == 0xFF || segOk m.qseg)) = true ∧ ownCrimson.contains m.kind = false ∧ (tget {} a.flt.slots m.src).wait = some (w, i) ∧ (tget {} a.flt.slots m.src).last = some l ∧ a.tb < l + 400 ∧ m.sev ≤ w.sev ∧ ((w.cause ≠ m.cause ∨ w.kind ≠ m.kind))) ∧
  (∃ (s a : State) (t : Nat) (v : BitVec 64) (m : Msg) (w : Msg) (i : Bool) (l : Nat),
    a = s.advance t ∧ State.fltOn a = true ∧ m = { msgOf v.toNat with sev := (a.kcfg (msgOf v.toNat).kind).sev } ∧ (kindReset m.kind).isSome = true ∧ (srcListed m.src && srcListed m.cause && (m.qseg == 0xFF || segOk m.qseg)) = true ∧ ownCrimson.contains m.kind = false ∧ (tget {} a.flt.slots m.src).wait = some (w, i) ∧ (tget {} a.flt.slots m.src).last = some l ∧ a.tb < l + 400 ∧ w.sev < m.sev) ∧
  (∃ (s a : State) (t : Nat) (v : BitVec 64) (m : Msg),
    a = s.advance t ∧ State.fltOn a = true ∧ m = { msgOf v.toNat with sev := (a.kcfg (msgOf v.toNat).kind).sev } ∧ (kindReset m.kind).isSome = true ∧ (srcListed m.src && srcListed m.cause && (m.qseg == 0xFF || segOk m.qseg)) = true ∧ ownCrimson.contains m.kind = true) ∧
  (∃ (s a : State) (t : Nat) (v : BitVec 64) (m : Msg),
    a = s.advance t ∧ State.fltOn a = true ∧ m = msgOf v.toNat ∧ (((kindReset m.kind).isNone = true ∨ (srcListed m.src && srcListed m.cause && (m.qseg == 0xFF || segOk m.qseg)) = false))) ∧
  (∃ (s a : State) (t : Nat) (c : BitVec 12) (w : Msg) (i : Bool) (l : Nat),
    a = s.advance t ∧ State.fltOn a = true ∧ (tget {} a.flt.slots c.toNat).wait = some (w, i) ∧ (tget {} a.flt.slots c.toNat).last = some l ∧ l + 400 ≤ a.tb) ∧
  (∃ (s a : State) (t : Nat) (c : BitVec 12) (l : Nat),
    a = s.advance t ∧ State.fltOn a = true ∧ (tget {} a.flt.slots c.toNat).last = some l ∧ a.tb < l + 400) ∧
  (∃ (s a : State) (t : Nat) (x : Master) (y : Word) (u : State),
    a = s.advance t ∧ State.fltOn a = true ∧ a.mayWrite x 4 0xA4 y.toNat 0xFFFFFFFF = true ∧ u = a.charged x 4 0xA4 ∧ bit y.toNat 31 = true ∧ (kindReset (bits y.toNat 20 8)).isSome = true ∧ srcListed (bits y.toNat 0 12) = true ∧ (tget {} u.flt.slots (bits y.toNat 0 12)).wait = none ∧ ((tget {} u.flt.slots (bits y.toNat 0 12)).last.all fun l => decide (l + 400 ≤ a.tb)) = true) ∧
  (∃ (s a : State) (t : Nat) (x : Master) (y : Word) (u : State),
    a = s.advance t ∧ State.fltOn a = true ∧ a.mayWrite x 4 0x9C y.toNat 0xFFFFFFFF = true ∧ u = a.charged x 4 0x9C ∧ (kindReset (u.rd FLT_KCFG_SEL_KIND)).isSome = true ∧ u.rd FLT_KCFG_SEL_KIND ∉ [0x06, 0x08, 0x32, 0x33, 0x5C]) ∧
  (∃ (s a : State) (t : Nat) (x : Master) (y : Word) (u : State),
    a = s.advance t ∧ State.fltOn a = true ∧ a.mayWrite x 4 0x9C y.toNat 0xFFFFFFFF = true ∧ u = a.charged x 4 0x9C ∧ u.rd FLT_KCFG_SEL_KIND ∈ [0x06, 0x08, 0x32, 0x33, 0x5C]) :=
  ⟨⟨upc, (upc).advance 5000, 5000, (0x00000440510FF101), { msgOf (0x00000440510FF101) with sev := 1 }, by decide +kernel⟩,
   ⟨(upc.modFlt fun x => { x with slots := [(0x101, { last := some 4900 })] }), ((upc.modFlt fun x => { x with slots := [(0x101, { last := some 4900 })] })).advance 5000, 5000, (0x00000440510FF101), { msgOf (0x00000440510FF101) with sev := 1 }, 4900, by decide +kernel⟩,
   ⟨(upc.modFlt fun x => { x with slots := [(0x101, { last := some 4900, wait := some ({ msgOf (0x00000440510FF101) with sev := 1 }, false) })] }), ((upc.modFlt fun x => { x with slots := [(0x101, { last := some 4900, wait := some ({ msgOf (0x00000440510FF101) with sev := 1 }, false) })] })).advance 5000, 5000, (0x00000440510FF101), { msgOf (0x00000440510FF101) with sev := 1 }, { msgOf (0x00000440510FF101) with sev := 1 }, false, 4900, by decide +kernel⟩,
   ⟨(upc.modFlt fun x => { x with slots := [(0x101, { last := some 4900, wait := some ({ ({ msgOf (0x00000440510FF101) with sev := 1 } : Msg) with kind := 0x11 }, false) })] }), ((upc.modFlt fun x => { x with slots := [(0x101, { last := some 4900, wait := some ({ ({ msgOf (0x00000440510FF101) with sev := 1 } : Msg) with kind := 0x11 }, false) })] })).advance 5000, 5000, (0x00000440510FF101), { msgOf (0x00000440510FF101) with sev := 1 }, { ({ msgOf (0x00000440510FF101) with sev := 1 }) with kind := 0x11 }, false, 4900, by decide +kernel⟩,
   ⟨(upc.modFlt fun x => { x with slots := [(0x101, { last := some 4900, wait := some ({ ({ msgOf (0x00000440510FF101) with sev := 1 } : Msg) with sev := 0 }, false) })] }), ((upc.modFlt fun x => { x with slots := [(0x101, { last := some 4900, wait := some ({ ({ msgOf (0x00000440510FF101) with sev := 1 } : Msg) with sev := 0 }, false) })] })).advance 5000, 5000, (0x00000440510FF101), { msgOf (0x00000440510FF101) with sev := 1 }, { ({ msgOf (0x00000440510FF101) with sev := 1 }) with sev := 0 }, false, 4900, by decide +kernel⟩,
   ⟨upc, (upc).advance 5000, 5000, (0x00000100732FF401), { msgOf (0x00000100732FF401) with sev := 3 }, by decide +kernel⟩,
   ⟨upc, (upc).advance 5000, 5000, 0xFFF, msgOf 0xFFF, by decide +kernel⟩,
   ⟨(upc.modFlt fun x => { x with slots := [(0x101, { last := some 4000, wait := some ({ kind := 1 }, false), rep := 2 })] }), ((upc.modFlt fun x => { x with slots := [(0x101, { last := some 4000, wait := some ({ kind := 1 }, false), rep := 2 })] })).advance 5000, 5000, 0x101, { kind := 1 }, false, 4000, by decide +kernel⟩,
   ⟨(upc.modFlt fun x => { x with slots := [(0x101, { last := some 4900, wait := some ({ kind := 1 }, false), rep := 2 })] }), ((upc.modFlt fun x => { x with slots := [(0x101, { last := some 4900, wait := some ({ kind := 1 }, false), rep := 2 })] })).advance 5000, 5000, 0x101, 4900, by decide +kernel⟩,
   ⟨upc, (upc).advance 5000, 5000, 3, 0x80100101, ((upc).advance 5000).charged 3 4 0xA4, by decide +kernel⟩,
   ⟨upc.wr FLT_KCFG_SEL_KIND 1, (upc.wr FLT_KCFG_SEL_KIND 1).advance 5000, 5000, 3, 0x21000500, ((upc.wr FLT_KCFG_SEL_KIND 1).advance 5000).charged 3 4 0x9C, by decide +kernel⟩,
   ⟨upc.wr FLT_KCFG_SEL_KIND 6, (upc.wr FLT_KCFG_SEL_KIND 6).advance 5000, 5000, 3, 0x21000500, ((upc.wr FLT_KCFG_SEL_KIND 6).advance 5000).charged 3 4 0x9C, by decide +kernel⟩⟩

/-- States and operands that meet every hypothesis of each clause of FaultCollector. -/
theorem witness_FaultCollector :
  (∃ (s a : State) (t : Nat) (x : Arrival) (c : KindCfg) (v : Nat) (r : Rec),
    a = s.advance t ∧ State.fltOn a = true ∧ a.nextArrival a.flt.arriving = some x ∧ c = a.kcfg x.msg.kind ∧ v = (if x.inj then x.msg.sev else c.sev) ∧ a.coWin = 0 ∧ a.flt.queue.length < 64 ∧ (a.flt.counters.filter fun w => !a.winOver w).find? (fun w => w.cause == x.msg.cause && w.kind == x.msg.kind) = none ∧ c.n = 0 ∧ c.react = 0 ∧ 1 ≤ v ∧ v ≤ 2 ∧ r = { id := a.flt.nextId, msg := { x.msg with sev := v }, rep := satN 8 x.rep, same := a.flt.lastArrival == some x.time, promo := false, inj := x.inj, react := 0, time := x.time }) ∧
  (∃ (s a : State) (t : Nat) (x : Arrival) (c : KindCfg) (v : Nat) (r : Rec) (w : WinCnt),
    a = s.advance t ∧ State.fltOn a = true ∧ a.nextArrival a.flt.arriving = some x ∧ c = a.kcfg x.msg.kind ∧ v = (if x.inj then x.msg.sev else c.sev) ∧ a.coWin = 0 ∧ a.flt.queue.length < 64 ∧ (a.flt.counters.filter fun w => !a.winOver w).find? (fun w => w.cause == x.msg.cause && w.kind == x.msg.kind) = some w ∧ w.promoted = false ∧ w.n ≤ w.count + (1 + x.rep) ∧ w.preact = 0 ∧ 1 ≤ v ∧ r = { id := a.flt.nextId, msg := { x.msg with sev := min 3 (v + 1) }, rep := satN 8 x.rep, same := a.flt.lastArrival == some x.time, promo := true, inj := x.inj, react := 0, time := x.time }) ∧
  (∃ (s a : State) (t : Nat) (x : Arrival),
    a = s.advance t ∧ State.fltOn a = true ∧ a.nextArrival a.flt.arriving = some x ∧ (a.flt.counters.filter fun w => !a.winOver w).find? (fun w => w.cause == x.msg.cause && w.kind == x.msg.kind) = none ∧ (a.kcfg x.msg.kind).n = 0 ∧ (a.kcfg x.msg.kind).react = 1) ∧
  (∃ (s a : State) (t : Nat) (x : Arrival),
    a = s.advance t ∧ State.fltOn a = true ∧ a.nextArrival a.flt.arriving = some x ∧ (a.flt.counters.filter fun w => !a.winOver w).find? (fun w => w.cause == x.msg.cause && w.kind == x.msg.kind) = none ∧ (a.kcfg x.msg.kind).n = 0 ∧ (a.kcfg x.msg.kind).react = 4) ∧
  (∃ (s a : State) (t : Nat) (e : BitVec 12) (k : BitVec 8) (r : Rec),
    a = s.advance t ∧ State.fltOn a = true ∧ a.flt.open_.find? (fun r => r.msg.cause == e.toNat && r.msg.kind == k.toNat && decide (r.time + a.coWin ≤ a.tb)) = some r ∧ a.on MAINT_MUART_CFG_EN = true ∧ a.rd MAINT_MUART_CFG_MIN_SEV ≤ r.msg.sev ∧ a.maint.mu.length < 16) ∧
  (∃ (s a : State) (t : Nat) (e : BitVec 12) (k : BitVec 8),
    a = s.advance t ∧ State.fltOn a = true) ∧
  (∃ (s a : State) (t : Nat) (m : Master) (u : State),
    a = s.advance t ∧ State.fltOn a = true ∧ a.mayWrite m 4 0x5C 1 0xFFFFFFFF = true ∧ u = a.charged m 4 0x5C) ∧
  (∃ (s a : State) (t : Nat) (m : Master) (u : State),
    a = s.advance t ∧ State.fltOn a = true ∧ a.mayWrite m 4 0x44 0x80000000 0x80000000 = true ∧ u = a.charged m 4 0x44) :=
  ⟨⟨((upc.wr FLT_FLT_CFG_COALESCE_WIN 0).modFlt fun x => { x with arriving := [{ msg := { src := 0x101, cause := 0x101, kind := 0x01 } }] }), (((upc.wr FLT_FLT_CFG_COALESCE_WIN 0).modFlt fun x => { x with arriving := [{ msg := { src := 0x101, cause := 0x101, kind := 0x01 } }] })).advance 5000, 5000, { msg := { src := 0x101, cause := 0x101, kind := 0x01 } }, ⟨1, 0, 0, 0⟩, 1, { msg := { src := 0x101, cause := 0x101, kind := 0x01, sev := 1 } }, by decide +kernel⟩,
   ⟨((upc.wr FLT_FLT_CFG_COALESCE_WIN 0).modFlt fun x => { x with arriving := [{ msg := { src := 0x101, cause := 0x101, kind := 0x10 } }], counters := [{ cause := 0x101, kind := 0x10, n := 64, count := 63 }] }), (((upc.wr FLT_FLT_CFG_COALESCE_WIN 0).modFlt fun x => { x with arriving := [{ msg := { src := 0x101, cause := 0x101, kind := 0x10 } }], counters := [{ cause := 0x101, kind := 0x10, n := 64, count := 63 }] })).advance 5000, 5000, { msg := { src := 0x101, cause := 0x101, kind := 0x10 } }, ⟨1, 0, 64, 0⟩, 1, { msg := { src := 0x101, cause := 0x101, kind := 0x10, sev := 2 }, promo := true }, { cause := 0x101, kind := 0x10, n := 64, count := 63 }, by decide +kernel⟩,
   ⟨((upc.wr FLT_FLT_CFG_COALESCE_WIN 0).modFlt fun x => { x with arriving := [{ msg := { src := 0x101, cause := 0x101, kind := 0x32 } }] }), (((upc.wr FLT_FLT_CFG_COALESCE_WIN 0).modFlt fun x => { x with arriving := [{ msg := { src := 0x101, cause := 0x101, kind := 0x32 } }] })).advance 5000, 5000, { msg := { src := 0x101, cause := 0x101, kind := 0x32 } }, by decide +kernel⟩,
   ⟨((upc.wr FLT_FLT_CFG_COALESCE_WIN 0).modFlt fun x => { x with arriving := [{ msg := { src := 0x101, cause := 0x101, kind := 0x08 } }] }), (((upc.wr FLT_FLT_CFG_COALESCE_WIN 0).modFlt fun x => { x with arriving := [{ msg := { src := 0x101, cause := 0x101, kind := 0x08 } }] })).advance 5000, 5000, { msg := { src := 0x101, cause := 0x101, kind := 0x08 } }, by decide +kernel⟩,
   ⟨((upc.wr FLT_FLT_CFG_COALESCE_WIN 1).wr MAINT_MUART_CFG_EN 1).modFlt fun x => { x with open_ := [{ msg := { cause := 0x101, kind := 1, sev := 2 } }] }, (((upc.wr FLT_FLT_CFG_COALESCE_WIN 1).wr MAINT_MUART_CFG_EN 1).modFlt fun x => { x with open_ := [{ msg := { cause := 0x101, kind := 1, sev := 2 } }] }).advance 5000, 5000, 0x101, 1, { msg := { cause := 0x101, kind := 1, sev := 2 } }, by decide +kernel⟩,
   ⟨upc, (upc).advance 5000, 5000, 0x101, 0x10, by decide +kernel⟩,
   ⟨upc, (upc).advance 5000, 5000, 3, (upc.advance 5000).charged 3 4 0x5C, by decide +kernel⟩,
   ⟨upc, (upc).advance 5000, 5000, 3, (upc.advance 5000).charged 3 4 0x44, by decide +kernel⟩⟩

/-- States and operands that meet every hypothesis of each clause of Migration. -/
theorem witness_Migration :
  (∃ (s a : State) (t : Nat) (x : Tile) (g : Mig),
    a = s.advance t ∧ State.core 3 a = true ∧ a.maint.mig = some g ∧ g.src = x.val ∧ g.moved = false ∧ g.dst ≠ g.src ∧ g.dst ≤ 8 ∧ (a.regs.map (·.1)).Nodup) ∧
  (∃ (s a : State) (t : Nat) (g : Mig),
    a = s.advance t ∧ State.core 3 a = true ∧ a.maint.mig = some g ∧ g.moved = true ∧ g.src ≤ 8 ∧ g.dst ≤ 8) ∧
  (∃ (s a : State) (t : Nat) (x : Tile),
    a = s.advance t ∧ State.core 3 a = true ∧ a.runs { act := 2, target := x.val } = true) ∧
  (∃ (s a : State) (t : Nat) (x : Tile),
    a = s.advance t ∧ State.core 3 a = true ∧ a.runs { act := 2, target := x.val } = true) :=
  ⟨⟨{ upc with maint := { mig := some { src := 2, dst := 8, tf := 0 } } }, ({ upc with maint := { mig := some { src := 2, dst := 8, tf := 0 } } }).advance 5000, 5000, 2, { src := 2, dst := 8, tf := 0 }, by decide +kernel⟩,
   ⟨{ upc with maint := { mig := some { src := 2, dst := 8, tf := 0, moved := true } } }, ({ upc with maint := { mig := some { src := 2, dst := 8, tf := 0, moved := true } } }).advance 5000, 5000, { src := 2, dst := 8, tf := 0, moved := true }, by decide +kernel⟩,
   ⟨{ upc with maint := { run := [{ act := 2, target := 3 }] } }, ({ upc with maint := { run := [{ act := 2, target := 3 }] } }).advance 5000, 5000, 3, by decide +kernel⟩,
   ⟨{ upc with maint := { run := [{ act := 2, target := 3 }] } }, ({ upc with maint := { run := [{ act := 2, target := 3 }] } }).advance 5000, 5000, 3, by decide +kernel⟩⟩

/-- States and operands that meet every hypothesis of each clause of MaintenanceTasks. -/
theorem witness_MaintenanceTasks :
  (∃ (s a : State) (t : Nat) (m : Master) (c : BitVec 12) (k : Task) (u : State),
    a = s.advance t ∧ State.core 3 a = true ∧ a.mayWrite m 5 0x44 (actWord 0x80000000 0 c.toNat) 0xFFFFFFFF = true ∧ u = a.charged m 5 0x44 ∧ k = { act := 0, target := c.toNat } ∧ segOk c.toNat = true ∧ (u.runs k || u.waits k) = false ∧ (u.maint.run.any (u.blocks k) || u.maint.wait.any (u.blocks k)) = false) ∧
  (∃ (s a : State) (t : Nat) (m : Master) (c : BitVec 12) (k : Task) (u : State),
    a = s.advance t ∧ State.core 3 a = true ∧ a.mayWrite m 5 0x44 (actWord 0x80000000 0 c.toNat) 0xFFFFFFFF = true ∧ u = a.charged m 5 0x44 ∧ k = { act := 0, target := c.toNat } ∧ segOk c.toNat = true ∧ (u.runs k || u.waits k) = false ∧ (u.maint.run.any (u.blocks k) || u.maint.wait.any (u.blocks k)) = true) ∧
  (∃ (s a : State) (t : Nat) (m : Master) (c : BitVec 12) (k : Task) (u : State),
    a = s.advance t ∧ State.core 3 a = true ∧ a.mayWrite m 5 0x44 (actWord 0x80000000 0 c.toNat) 0xFFFFFFFF = true ∧ u = a.charged m 5 0x44 ∧ k = { act := 0, target := c.toNat } ∧ segOk c.toNat = false ∧ (u.runs k || u.waits k) = false) ∧
  (∃ (s a : State) (t : Nat) (m : Master) (d : Fin 16) (c : BitVec 12) (k : Task) (u : State),
    a = s.advance t ∧ State.core 3 a = true ∧ a.mayWrite m 5 0x44 (actWord 0x40000000 d c.toNat) 0xFFFFFFFF = true ∧ u = a.charged m 5 0x44 ∧ ((d.val = 0 ∨ d.val = 2)) ∧ k = { act := d.val, target := c.toNat } ∧ (u.runs k || u.waits k) = true) ∧
  (∃ (s a : State) (t : Nat) (k : Task),
    a = s.advance t ∧ State.core 3 a = true ∧ (a.maint.run.all fun j => j.act != 0) = true ∧ a.nextTask [] a.maint.wait = some k ∧ k.act ≤ 2) ∧
  (∃ (s a : State) (t : Nat) (y : MemBank) (n : Nat),
    a = s.advance t ∧ State.core 3 a = true ∧ segOk y.qseg = true ∧ a.scrubbing y.qseg = true ∧ (a.maint.run.any fun j => j.act == 1 && j.target == y.qseg.val && j.row == n) = false) ∧
  (∃ (s a : State) (t : Nat) (y : MemBank) (n : Nat),
    a = s.advance t ∧ State.core 3 a = true ∧ segOk y.qseg = true ∧ a.scrubbing y.qseg = true) ∧
  (∃ (s a : State) (t : Nat) (y : MemBank) (n : Nat),
    a = s.advance t ∧ State.core 3 a = true ∧ segOk y.qseg = true ∧ a.scrubbing y.qseg = true) ∧
  (∃ (s a : State) (t : Nat) (y : MemBank) (n : Nat),
    a = s.advance t ∧ State.core 3 a = true ∧ segOk y.qseg = true ∧ a.scrubbing y.qseg = true ∧ y.qseg.val = 0x4D ∧ y.bank.val < 8 ∧ n < 4096) ∧
  (∃ (s a : State) (t : Nat) (y : MemBank) (w : BitVec 16) (k : Task),
    a = s.advance t ∧ State.core 3 a = true ∧ a.maint.run.find? (fun j => j.act == 1 && j.target == y.qseg.val) = some k ∧ a.copyTime = true ∧ (a.repOf y.qseg y.bank).used < 2) ∧
  (∃ (s a : State) (t : Nat) (y : MemBank) (w : BitVec 16) (k : Task),
    a = s.advance t ∧ State.core 3 a = true ∧ a.maint.run.find? (fun j => j.act == 1 && j.target == y.qseg.val) = some k ∧ a.copyTime = true ∧ 2 ≤ (a.repOf y.qseg y.bank).used) ∧
  (∃ (s a : State) (t : Nat) (y : MemBank) (w : BitVec 16) (k : Task),
    a = s.advance t ∧ State.core 3 a = true ∧ a.maint.run.find? (fun j => j.act == 1 && j.target == y.qseg.val) = some k ∧ a.copyTime = false) ∧
  (∃ (s a : State) (t : Nat) (f : List Nat) (r : List (List Nat)),
    a = s.advance t ∧ State.core 3 a = true ∧ (a.casc.remDone.all fun r => !(r.m == 2 && !r.write)) = true ∧ a.on MAINT_MUART_CFG_EN = true ∧ a.maint.muFree ≤ a.now ∧ a.maint.muAns = f :: r) ∧
  (∃ (s a : State) (t : Nat) (f : List Nat) (r : List (List Nat)),
    a = s.advance t ∧ State.core 3 a = true ∧ (a.casc.remDone.all fun r => !(r.m == 2 && !r.write)) = true ∧ a.on MAINT_MUART_CFG_EN = true ∧ a.maint.muFree ≤ a.now ∧ a.maint.muAns = [] ∧ a.maint.mu = f :: r) ∧
  (∃ (s a : State) (t : Nat),
    a = s.advance t ∧ State.core 3 a = true ∧ (a.casc.remDone.all fun r => !(r.m == 2 && !r.write)) = true ∧ a.on MAINT_MUART_CFG_EN = true ∧ a.now < a.maint.muFree) ∧
  (∃ (s a : State) (t : Nat) (l : List (BitVec 8)) (c : List Nat) (z : Nat),
    a = s.advance t ∧ State.core 3 a = true ∧ a.muartRx = true ∧ c = l.map (·.toNat) ∧ c.length = 8 ∧ c.getD 0 0 = 0xA5 ∧ c.getD 1 0 = 0x10 ∧ crc16 ((c.drop 1).take 5) = c.getD 6 0 * 256 + c.getD 7 0 ∧ z = c.getD 2 0 + c.getD 3 0 * 256 + c.getD 4 0 * 65536 + c.getD 5 0 * 16777216 ∧ 0x10000000 ≤ z ∧ z < 0x10040000 ∧ a.readCode 2 z = 0 ∧ a.grantable 2 1 = true) ∧
  (∃ (s a : State) (t : Nat) (l : List (BitVec 8)) (c : List Nat),
    a = s.advance t ∧ State.core 3 a = true ∧ a.muartRx = true ∧ c = l.map (·.toNat) ∧ c.length = 8 ∧ c.getD 0 0 = 0xA5 ∧ c.getD 1 0 = 0x10 ∧ crc16 ((c.drop 1).take 5) ≠ c.getD 6 0 * 256 + c.getD 7 0) ∧
  (∃ (s a : State) (t : Nat) (l : List (BitVec 8)),
    a = s.advance t ∧ State.core 3 a = true ∧ a.muartRx = true ∧ ((l.length ≠ 8 ∨ l.getD 0 0 ≠ 0xA5 ∨ l.getD 1 0 ≠ 0x10))) ∧
  (∃ (s a : State) (t : Nat),
    a = s.advance t ∧ State.core 3 a = true ∧ a.muartRx = true) :=
  ⟨⟨upc, (upc).advance 5000, 5000, 3, 0x4D, { act := 0, target := 0x4D }, ((upc).advance 5000).charged 3 5 0x44, by decide +kernel⟩,
   ⟨({ upc with maint := { run := [{ act := 0, target := 0x4C }] } }), (({ upc with maint := { run := [{ act := 0, target := 0x4C }] } })).advance 5000, 5000, 3, 0x4D, { act := 0, target := 0x4D }, ((({ upc with maint := { run := [{ act := 0, target := 0x4C }] } })).advance 5000).charged 3 5 0x44, by decide +kernel⟩,
   ⟨upc, (upc).advance 5000, 5000, 3, 0x1FF, { act := 0, target := 0x1FF }, ((upc).advance 5000).charged 3 5 0x44, by decide +kernel⟩,
   ⟨({ upc with maint := { run := [{ act := 0, target := 0x4C }] } }), (({ upc with maint := { run := [{ act := 0, target := 0x4C }] } })).advance 5000, 5000, 3, 0, 0x4C, { act := 0, target := 0x4C }, ((({ upc with maint := { run := [{ act := 0, target := 0x4C }] } })).advance 5000).charged 3 5 0x44, by decide +kernel⟩,
   ⟨{ upc with maint := { wait := [{ act := 0, target := 0x4D }] } }, ({ upc with maint := { wait := [{ act := 0, target := 0x4D }] } }).advance 5000, 5000, { act := 0, target := 0x4D }, by decide +kernel⟩,
   ⟨upc, (upc).advance 5000, 5000, ⟨0x4D, 2⟩, 5, by decide +kernel⟩,
   ⟨upc, (upc).advance 5000, 5000, ⟨0x4D, 2⟩, 5, by decide +kernel⟩,
   ⟨upc, (upc).advance 5000, 5000, ⟨0x4D, 2⟩, 5, by decide +kernel⟩,
   ⟨upc, (upc).advance 5000, 5000, ⟨0x4D, 2⟩, 5, by decide +kernel⟩,
   ⟨{ upc with maint := { run := [{ act := 1, target := 0x4D, row := 5 }] } }, ({ upc with maint := { run := [{ act := 1, target := 0x4D, row := 5 }] } }).advance 8100, 8100, ⟨0x4D, 2⟩, 5, { act := 1, target := 0x4D, row := 5 }, by decide +kernel⟩,
   ⟨{ upc with maint := { run := [{ act := 1, target := 0x4D, row := 5 }], rep := [(16 * 0x4D + 2, { used := 2 })] } }, ({ upc with maint := { run := [{ act := 1, target := 0x4D, row := 5 }], rep := [(16 * 0x4D + 2, { used := 2 })] } }).advance 8100, 8100, ⟨0x4D, 2⟩, 5, { act := 1, target := 0x4D, row := 5 }, by decide +kernel⟩,
   ⟨{ upc with maint := { run := [{ act := 1, target := 0x4D, row := 5 }] } }, ({ upc with maint := { run := [{ act := 1, target := 0x4D, row := 5 }] } }).advance 5000, 5000, ⟨0x4D, 2⟩, 5, { act := 1, target := 0x4D, row := 5 }, by decide +kernel⟩,
   ⟨{ (upc.wr MAINT_MUART_CFG_EN 1) with maint := { muAns := [[1]], mu := [[2]] } }, ({ (upc.wr MAINT_MUART_CFG_EN 1) with maint := { muAns := [[1]], mu := [[2]] } }).advance 5000, 5000, [1], [], by decide +kernel⟩,
   ⟨{ (upc.wr MAINT_MUART_CFG_EN 1) with maint := { mu := [[2], [3]] } }, ({ (upc.wr MAINT_MUART_CFG_EN 1) with maint := { mu := [[2], [3]] } }).advance 5000, 5000, [2], [[3]], by decide +kernel⟩,
   ⟨{ (upc.wr MAINT_MUART_CFG_EN 1) with maint := { mu := [[2], [3]], muFree := 90000 } }, ({ (upc.wr MAINT_MUART_CFG_EN 1) with maint := { mu := [[2], [3]], muFree := 90000 } }).advance 5000, 5000, by decide +kernel⟩,
   ⟨upc, (upc).advance 5000, 5000, ([0xA5, 0x10, 0, 0, 0, 0x10] ++ bytesBE 2 (crc16 [0x10, 0, 0, 0, 0x10])).map (BitVec.ofNat 8), ([0xA5, 0x10, 0, 0, 0, 0x10] ++ bytesBE 2 (crc16 [0x10, 0, 0, 0, 0x10])), 0x10000000, by decide +kernel⟩,
   ⟨upc, (upc).advance 5000, 5000, [0xA5, 0x10, 0, 0, 0, 0x10, 0, 0], [0xA5, 0x10, 0, 0, 0, 0x10, 0, 0], by decide +kernel⟩,
   ⟨upc, (upc).advance 5000, 5000, [0xA5], by decide +kernel⟩,
   ⟨upc, (upc).advance 5000, 5000, by decide +kernel⟩⟩

/-- States and operands that meet every hypothesis of each clause of ImageStream. -/
theorem witness_ImageStream :
  (∃ (s a : State) (t : Nat) (w : Nat) (z : List Nat),
    a = s.advance t ∧ State.core 3 a = true ∧ ((a.bootSt = 0x10 ∨ a.bootSt = 0x11)) ∧ w = rdWord a.mem 0x10000000 ∧ bits w 24 8 = 1 ∧ bits w 16 8 = (a.boot.seq + 1) % 256 ∧ 1 ≤ bits w 0 16 ∧ bits w 0 16 ≤ 4080 ∧ z = a.boot.img ++ (List.range (bits w 0 16)).map (fun i => rdWord a.mem (0x10000040 + 4 * i)) ∧ z.length < 40) ∧
  (∃ (s a : State) (t : Nat) (w : Nat) (z : List Nat),
    a = s.advance t ∧ State.core 3 a = true ∧ ((a.bootSt = 0x10 ∨ a.bootSt = 0x11)) ∧ w = rdWord a.mem 0x10000000 ∧ bits w 24 8 = 1 ∧ bits w 16 8 = (a.boot.seq + 1) % 256 ∧ 1 ≤ bits w 0 16 ∧ bits w 0 16 ≤ 4080 ∧ z = a.boot.img ++ (List.range (bits w 0 16)).map (fun i => rdWord a.mem (0x10000040 + 4 * i)) ∧ a.boot.img.length < 40 ∧ 40 ≤ z.length ∧ a.hdrCheck z ≠ 0) ∧
  (∃ (s a : State) (t : Nat) (w : Nat),
    a = s.advance t ∧ State.core 3 a = true ∧ ((a.bootSt = 0x10 ∨ a.bootSt = 0x11)) ∧ w = rdWord a.mem 0x10000000 ∧ bits w 24 8 = 2 ∧ bits w 16 8 = (a.boot.seq + 1) % 256 ∧ bits w 0 16 = 0 ∧ 40 ≤ a.boot.img.length ∧ a.boot.img.length = imgWords a.boot.img ∧ a.safeOk a.boot.img = true) ∧
  (∃ (s a : State) (t : Nat) (w : Nat),
    a = s.advance t ∧ State.core 3 a = true ∧ ((a.bootSt = 0x10 ∨ a.bootSt = 0x11)) ∧ w = rdWord a.mem 0x10000000 ∧ bits w 24 8 = 2 ∧ bits w 16 8 = (a.boot.seq + 1) % 256 ∧ bits w 0 16 = 0 ∧ 40 ≤ a.boot.img.length ∧ a.boot.img.length = imgWords a.boot.img ∧ a.safeOk a.boot.img = false) ∧
  (∃ (s a : State) (t : Nat) (w : Nat),
    a = s.advance t ∧ State.core 3 a = true ∧ ((a.bootSt = 0x10 ∨ a.bootSt = 0x11)) ∧ w = rdWord a.mem 0x10000000 ∧ bits w 24 8 = 2 ∧ bits w 16 8 = (a.boot.seq + 1) % 256 ∧ bits w 0 16 = 0 ∧ ((a.boot.img.length < 40 ∨ a.boot.img.length ≠ imgWords a.boot.img))) ∧
  (∃ (s a : State) (t : Nat) (w : Nat),
    a = s.advance t ∧ State.core 3 a = true ∧ ((a.bootSt = 0x10 ∨ a.bootSt = 0x11)) ∧ w = rdWord a.mem 0x10000000 ∧ bits w 24 8 = 3 ∧ bits w 16 8 = (a.boot.seq + 1) % 256 ∧ bits w 0 16 = 0) ∧
  (∃ (s a : State) (t : Nat) (w : Nat),
    a = s.advance t ∧ State.core 3 a = true ∧ ((a.bootSt = 0x10 ∨ a.bootSt = 0x11)) ∧ w = rdWord a.mem 0x10000000 ∧ bits w 24 8 = 1 ∧ bits w 16 8 ≠ a.boot.seq ∧ bits w 16 8 ≠ (a.boot.seq + 1) % 256) ∧
  (∃ (s a : State) (t : Nat) (w : Nat),
    a = s.advance t ∧ State.core 3 a = true ∧ ((a.bootSt = 0x10 ∨ a.bootSt = 0x11)) ∧ w = rdWord a.mem 0x10000000 ∧ bits w 24 8 = 1 ∧ bits w 16 8 = a.boot.seq) ∧
  (∃ (s a : State) (t : Nat),
    a = s.advance t ∧ State.core 3 a = true ∧ a.bootSt = 0x11 ∧ a.boot.lastCmd + 400000000 ≤ a.tb) :=
  ⟨⟨upq 0x10 0x01010002 [], (upq 0x10 0x01010002 []).advance 5000, 5000, 0x01010002, [0, 0], by decide +kernel⟩,
   ⟨upq 0x10 0x01010028 [], (upq 0x10 0x01010028 []).advance 5000, 5000, 0x01010028, List.replicate 40 0, by decide +kernel⟩,
   ⟨upq 0x11 0x02010000 ([0, 0, 0, 64, 0x100] ++ List.replicate 35 0 ++ [0x05000000, 56, 8, 0] ++ List.replicate 12 0 ++
      [0x40038060, 0, 0x40038064, 0, 0x40038068, 0, 0x4003806C, 0]), (upq 0x11 0x02010000 ([0, 0, 0, 64, 0x100] ++ List.replicate 35 0 ++ [0x05000000, 56, 8, 0] ++ List.replicate 12 0 ++
      [0x40038060, 0, 0x40038064, 0, 0x40038068, 0, 0x4003806C, 0])).advance 5000, 5000, 0x02010000, by decide +kernel⟩,
   ⟨upq 0x11 0x02010000 ([0, 0, 0, 40] ++ List.replicate 36 0), (upq 0x11 0x02010000 ([0, 0, 0, 40] ++ List.replicate 36 0)).advance 5000, 5000, 0x02010000, by decide +kernel⟩,
   ⟨upq 0x11 0x02010000 [], (upq 0x11 0x02010000 []).advance 5000, 5000, 0x02010000, by decide +kernel⟩,
   ⟨upq 0x11 0x03010000 [], (upq 0x11 0x03010000 []).advance 5000, 5000, 0x03010000, by decide +kernel⟩,
   ⟨upq 0x10 0x01020001 [], (upq 0x10 0x01020001 []).advance 5000, 5000, 0x01020001, by decide +kernel⟩,
   ⟨upq 0x10 0x01000001 [], (upq 0x10 0x01000001 []).advance 5000, 5000, 0x01000001, by decide +kernel⟩,
   ⟨upq 0x11 0 [], (upq 0x11 0 []).advance 400000000, 400000000, by decide +kernel⟩⟩

/-- States and operands that meet every hypothesis of each clause of ImageVerification. -/
theorem witness_ImageVerification :
  (∃ (s a : State) (t : Nat) (on : Bool),
    a = s.advance t ∧ State.core 3 a = true ∧ a.bootSt = 0x12 ∧ a.imgVerify a.boot.img ≠ 0) ∧
  (∃ (s a : State) (t : Nat) (u v : State) (y : Bool),
    a = s.advance t ∧ State.core 3 a = true ∧ a.bootSt = 0x12 ∧ a.imgVerify a.boot.img = 0 ∧ u = a.otpUpdate a.boot.img (fun _ => true) ∧ u.applyAll (imgSegs a.boot.img) = (y, v) ∧ y = true) ∧
  (∃ (s a : State) (t : Nat) (u v : State) (y : Bool),
    a = s.advance t ∧ State.core 3 a = true ∧ a.bootSt = 0x12 ∧ a.imgVerify a.boot.img = 0 ∧ u = a.otpUpdate a.boot.img (fun _ => true) ∧ u.applyAll (imgSegs a.boot.img) = (y, v) ∧ y = false) ∧
  (∃ (s a : State) (t : Nat),
    a = s.advance t ∧ State.core 3 a = true ∧ a.bootSt = 0x13) :=
  ⟨⟨upq 0x12 0 [], (upq 0x12 0 []).advance 5000, 5000, true, by decide +kernel⟩,
   ⟨upw, (upw).advance 5000, 5000, (upw.advance 5000).otpUpdate upw.boot.img (fun _ => true), (upw.advance 5000).otpUpdate upw.boot.img (fun _ => true), true, by decide +kernel⟩,
   ⟨upx, (upx).advance 5000, 5000, (upx.advance 5000).otpUpdate upx.boot.img (fun _ => true), ((upx.advance 5000).otpUpdate upx.boot.img (fun _ => true)).applyAll (imgSegs upx.boot.img) |>.2, false, by decide +kernel⟩,
   ⟨upq 0x13 0 [], (upq 0x13 0 []).advance 5000, 5000, by decide +kernel⟩⟩

/-- States and operands that meet every hypothesis of each clause of StepRunsTheFront. -/
theorem witness_StepRunsTheFront :
    (∃ (s : State) (c : Instr) (q : List Instr), s.pending = c :: q) ∧ ∃ s : State, s.pending = [] :=
  ⟨⟨{ State.reset with pending := [.vrefWarm 7] }, .vrefWarm 7, [], rfl⟩, ⟨State.reset, rfl⟩⟩

/-- States and operands that meet every hypothesis of each clause of TimebaseInvariant. -/
theorem witness_TimebaseInvariant :
    ∃ s b : State, s.tb < 2 ^ 64 ∧ step s = .next b := by
  let u : State := { upc with pending := [.softOffEnd 7 0] }
  have h : (match step u with | .next b => b.tb == 7 | _ => false) = true := by decide +kernel
  cases e : step u with
  | next b => exact ⟨u, b, by decide +kernel, e⟩
  | fault f => simp [e] at h
  | refused f => simp [e] at h

/-- States and operands that meet every hypothesis of each clause of HeldDeviceDoesNothing. -/
theorem witness_HeldDeviceDoesNothing :
    ∃ (n : Nat) (r : Nat → State), 0 < n ∧ (r 0).pwr.held = true ∧ n ≤ (r 0).pending.length ∧
    (∀ c ∈ (r 0).pending.take n, match c with | .deviceReset .. | .resetRelease .. => False | _ => True) ∧
    ∀ k < n, step (r k) = .next (r (k + 1)) := by
  refine ⟨1, fun k => if k = 0 then { State.reset with pending := [.softOffEnd 0 0] } else State.reset, by decide, rfl, by decide,
    ?_, ?_⟩
  · intro c hc
    simp at hc
    subst hc
    trivial
  · intro k hk
    obtain rfl : k = 0 := by omega
    exact rfl

/-- States and operands that meet every hypothesis of each clause of HeldDomainsDoNothing. -/
theorem witness_HeldDomainsDoNothing :
    (∃ s : State, s.domOn 0 = false) ∧ (∃ s : State, s.domOn 1 = false) ∧ (∃ s : State, s.domOn 2 = false) ∧ ∃ s : State, s.domOn 3 = false :=
  ⟨⟨upc.wr SYS_DOM_STAT_RST 1, by decide +kernel⟩, ⟨upc.wr SYS_DOM_STAT_RST 2, by decide +kernel⟩,
   ⟨upc.wr SYS_DOM_STAT_RST 4, by decide +kernel⟩, ⟨upc.wr SYS_DOM_STAT_RST 8, by decide +kernel⟩⟩

/-- States and operands that meet every hypothesis of each clause of FramesOfTheBlocks. -/
theorem witness_FramesOfTheBlocks :
    (∃ b, exec (.softOffEnd 7 0) upc = .next b) ∧ ∃ b, exec (.gelAdd 5000 0) (upi 0 {}) = .next b := ⟨⟨_, rfl⟩, ⟨_, rfl⟩⟩

/-- States and operands that meet every hypothesis of each clause of FramesOfTheSystem. -/
theorem witness_FramesOfTheSystem :
    (∃ b, exec (.dlCalDone 7) upc = .next b) ∧ ∃ b, exec (.pioSetk 5000 0 0) (upo 0x6005 {}) = .next b := ⟨⟨_, rfl⟩, ⟨_, rfl⟩⟩

/-- States and operands that meet every hypothesis of each clause of SlotStart. -/
theorem witness_SlotStart :
  (∃ (s a : State) (t : Nat) (m : Master) (x : Engine) (i : PioSlot),
    a = s.advance t ∧ State.corn 3 a = true ∧ a.mayWrite m (pioPage x) (0x100 + 0x20 * i) (2 ^ 31) (2 ^ 31) = true ∧ a.on (PIO_SLOT_CFG_EN x i) = false ∧ a.rd (PIO_ENG_STAT_STATE x) = 1) :=
  ⟨(upo 0 { sr := 5, txq := [1] }).wr (PIO_SLOT_CFG_EN 0 0) 0, ((upo 0 { sr := 5, txq := [1] }).wr (PIO_SLOT_CFG_EN 0 0) 0).advance 5000, 5000, 3, 0, 0, by decide +kernel⟩

/-- States and operands that meet every hypothesis of each clause of NonBlockingQueues. -/
theorem witness_NonBlockingQueues :
  (∃ (s a : State) (t : Nat) (x : Engine) (i : PioSlot) (w : Nat) (y : PioS),
    a = s.advance t ∧ pioOk x a = true ∧ a.slRuns x i = true ∧ y = a.sl x i ∧ y.hold = 0 ∧ a.tickDue x i = true ∧ w = a.pioWord x i ∧ a.pioBad x i ≠ some true ∧ pioDecode w = some .takeNb ∧ y.txq = []) ∧
  (∃ (s a : State) (t : Nat) (x : Engine) (i : PioSlot) (w : Nat) (y : PioS) (v : Nat) (r : List Nat),
    a = s.advance t ∧ pioOk x a = true ∧ a.slRuns x i = true ∧ y = a.sl x i ∧ y.hold = 0 ∧ a.tickDue x i = true ∧ w = a.pioWord x i ∧ a.pioBad x i ≠ some true ∧ pioDecode w = some .take ∧ y.txq = v :: r) ∧
  (∃ (s a : State) (t : Nat) (x : Engine) (i : PioSlot) (w : Nat) (y : PioS) (v : Nat) (r : List Nat),
    a = s.advance t ∧ pioOk x a = true ∧ a.slRuns x i = true ∧ y = a.sl x i ∧ y.hold = 0 ∧ a.tickDue x i = true ∧ w = a.pioWord x i ∧ a.pioBad x i ≠ some true ∧ pioDecode w = some .takeNb ∧ y.txq = v :: r) ∧
  (∃ (s a : State) (t : Nat) (x : Engine) (i : PioSlot) (w : Nat) (y : PioS),
    a = s.advance t ∧ pioOk x a = true ∧ a.slRuns x i = true ∧ y = a.sl x i ∧ y.hold = 0 ∧ a.tickDue x i = true ∧ w = a.pioWord x i ∧ a.pioBad x i ≠ some true ∧ pioDecode w = some .putNb ∧ a.rxSize x i ≤ y.rxq.length) :=
  ⟨⟨upo 18432 { lastTx := 9 }, (upo 18432 { lastTx := 9 }).advance 5000, 5000, 0, 0, 18432, { lastTx := 9 }, by decide +kernel⟩,
   ⟨upo 16384 { txq := [7] }, (upo 16384 { txq := [7] }).advance 5000, 5000, 0, 0, 16384, { txq := [7] }, 7, [], by decide +kernel⟩,
   ⟨upo 18432 { txq := [7] }, (upo 18432 { txq := [7] }).advance 5000, 5000, 0, 0, 18432, { txq := [7] }, 7, [], by decide +kernel⟩,
   ⟨upo 22528 { rxq := [1, 2, 3, 4] }, (upo 22528 { rxq := [1, 2, 3, 4] }).advance 5000, 5000, 0, 0, 22528, { rxq := [1, 2, 3, 4] }, by decide +kernel⟩⟩

/-- States and operands that meet every hypothesis of each clause of EngineFrame. -/
theorem witness_EngineFrame :
  (∃ (s a : State) (t : Nat) (g : Engine) (w : Nat) (x : GelS) (k : Nat) (c : Instr),
    a = s.advance t ∧ gelOk g a = true ∧ a.rd (GEL_GEL_STAT_STATE g) = 2 ∧ a.gelReady g = true ∧ a.atBkpt g = false ∧ a.badFetch g = none ∧ a.fetchBad g = none ∧ w = a.gelWord g ∧ x = a.eng g ∧ a.overLimit g (opcCycles (iOpc w) + a.stalledFor g) (opcCycles (iOpc w)) = none ∧ (k, c) ∈ [(0x00, .gelAdd t g), (0x01, .gelSub t g), (0x02, .gelAnd t g), (0x03, .gelOr t g), (0x04, .gelXor t g),
      (0x05, .gelShl t g), (0x06, .gelShr t g), (0x07, .gelSar t g), (0x08, .gelMul t g), (0x09, .gelMulq t g),
      (0x0A, .gelMin t g), (0x0B, .gelMax t g), (0x0C, .gelCmp t g), (0x0D, .gelMov t g), (0x0E, .gelAdda t g),
      (0x0F, .gelLdh t g), (0x10, .gelLdp t g), (0x14, .gelA2t t g), (0x15, .gelA2d t g)] ∧ iOpc w = k) :=
  ⟨upi 0 { g := [3, 4] }, (upi 0 { g := [3, 4] }).advance 5000, 5000, 0, 0, { g := [3, 4], thread := true }, 0, .gelAdd 5000 0, by decide +kernel⟩
end

section
/-! Proofs about the scope's statements: what a write through the interconnect does, a step, and the state at reset. -/

namespace Sys2Proof.Machine

open Reg

/-! ### Where an address leads -/

/-- An address leads to a page's word only where it is that word's address and a register stands there (R62, R66). -/
theorem regionOf_eq_page {A p o : Nat} (h : regionOf A = .page p o) :
    A = pageAddr p o ∧ p < 256 ∧ o < 4096 ∧ ∃ fs, fieldsAt p o = some fs := by
  unfold regionOf at h
  split_ifs at h with _ _ _ _ _ hA
  split at h
  · next fs hf =>
    obtain ⟨rfl, rfl⟩ : _ = p ∧ _ = o := by simpa using h
    exact ⟨by unfold pageAddr; omega, by omega, by omega, fs, hf⟩
  · cases h

/-- An address leads to a mailbox bank only inside mailbox SRAM (R61). -/
theorem regionOf_eq_mbx {A n : Nat} (h : regionOf A = .mbx n) : 0x10000000 ≤ A ∧ A < 0x10040000 := by
  unfold regionOf at h
  split_ifs at h with _ _ hA
  · exact hA
  · split at h <;> cases h

theorem targetOf_mbx {A n : Nat} (h : regionOf A = .mbx n) : targetOf A = some 0 :=
  if_pos (regionOf_eq_mbx h)

theorem targetOf_page {A p o : Nat} (h : regionOf A = .page p o) : targetOf A = some 1 := by
  obtain ⟨rfl, hp, ho, _⟩ := regionOf_eq_page h
  exact target_page hp ho

theorem isRemote_page {A p o : Nat} (h : regionOf A = .page p o) : isRemote A = false := by
  simp [isRemote, h]

theorem isRemote_mbx {A n : Nat} (h : regionOf A = .mbx n) : isRemote A = false := by
  simp [isRemote, h]

/-! ### Whole words -/

theorem beMask_full : beMask 15 = 0xFFFFFFFF := by decide

theorem putCode_full (a : State) (m A v : Nat) : a.putCode m A v 15 = a.writeCode m A v 0xFFFFFFFF := by
  unfold State.putCode; split <;> simp

theorem land_full {x : Nat} (h : x < 2 ^ 32) : Nat.land x 0xFFFFFFFF = x :=
  (Nat.and_two_pow_sub_one_eq_mod x 32).trans (Nat.mod_eq_of_lt h)

/-- A write of a whole word leaves nothing of the word before it. -/
theorem mergeWord_full {cur v : Nat} (hc : cur < 2 ^ 32) (hv : v < 2 ^ 32) : mergeWord cur v 0xFFFFFFFF = v := by
  unfold mergeWord
  rw [land_full hc, land_full hv, Nat.sub_self, Nat.zero_add]

theorem rd_lt (s : State) (f : Field) : s.rd f < 2 ^ f.w := Nat.mod_lt _ (Nat.two_pow_pos _)

/-- A whole-word write of a plain RW field that fills its word replaces it (R7). -/
theorem writeField_rw_full {s : State} {f : Field} {v : Nat} (hty : f.ty = .rw) (hlo : f.lo = 0) (hw : f.w = 32)
    (hv : v < 2 ^ 32) : s.writeField f v 0xFFFFFFFF = s.swPut f v := by
  have hcur : s.rd f < 2 ^ 32 := hw ▸ rd_lt s f
  have hbits : bits v 0 32 = v := by unfold bits; omega
  have hmask : bits 0xFFFFFFFF 0 32 = 0xFFFFFFFF := by decide
  simp only [State.writeField, hty, hlo, hw, hbits, hmask, land_full hcur, land_full hv, Nat.sub_self]
  exact congrArg (s.swPut f) (Nat.zero_or v)

/-! ### Words of memory -/

theorem wrWord_eq (m : List Host.Cell) (A v : Nat) :
    wrWord m A v = wrByte (wrByte (wrByte (wrByte m A (BitVec.ofNat 8 v)) (A + 1) (BitVec.ofNat 8 (v / 256))) (A + 2)
      (BitVec.ofNat 8 (v / 65536))) (A + 3) (BitVec.ofNat 8 (v / 16777216)) := by
  simp [wrWord, wrWordBe, List.range_succ, bit]

/-- The word just written reads back, byte lane 0 at the lowest address (R376). -/
theorem rdWord_wrWord {m : List Host.Cell} {A v : Nat} (hv : v < 2 ^ 32) : rdWord (wrWord m A v) A = v := by
  have b0 : rdByte (wrWord m A v) A = BitVec.ofNat 8 v := by simp [wrWord_eq]
  have b1 : rdByte (wrWord m A v) (A + 1) = BitVec.ofNat 8 (v / 256) := by simp [wrWord_eq]
  have b2 : rdByte (wrWord m A v) (A + 2) = BitVec.ofNat 8 (v / 65536) := by simp [wrWord_eq]
  have b3 : rdByte (wrWord m A v) (A + 3) = BitVec.ofNat 8 (v / 16777216) := by simp [wrWord_eq]
  simp only [rdWord, b0, b1, b2, b3, BitVec.toNat_ofNat]
  omega

/-- A word written leaves every byte outside it as it was. -/
theorem rdByte_wrWord_outside {m : List Host.Cell} {A v x : Nat} (hx : x < A ∨ A + 4 ≤ x) :
    rdByte (wrWord m A v) x = rdByte m x := by
  have h0 : x ≠ A := by omega
  have h1 : x ≠ A + 1 := by omega
  have h2 : x ≠ A + 2 := by omega
  have h3 : x ≠ A + 3 := by omega
  simp [wrWord_eq, h0, h1, h2, h3]

theorem rdWord_lt (m : List Host.Cell) (A : Nat) : rdWord m A < 2 ^ 32 := by
  unfold rdWord
  have b (x : Nat) : (rdByte m x).toNat < 256 := (rdByte m x).isLt
  have h0 := b A
  have h1 := b (A + 1)
  have h2 := b (A + 2)
  have h3 := b (A + 3)
  omega

/-! ### Writes through the interconnect -/

/-- A write that R74 grants, on a page that answers and within budget, is counted and writes the register (R54, R67). -/
theorem busPut_page {a : State} {m A v mk p o : Nat} (hr : regionOf A = .page p o) (hd : a.pageDown p = false)
    (hg : a.grantable (16 + m) 1 = true) :
    a.busPut m A v mk 0 false = (.ok 0, (a.charged m p o).writeReg m p o v mk) := by
  have ht := targetOf_page hr
  obtain ⟨rfl, _⟩ := regionOf_eq_page hr
  simp [State.busPut, State.busyAt, State.payAt, State.spendAt, State.storeWord, hr, hd, hg, ht, State.charged,
    State.counted]

/-- A granted write of mailbox SRAM within budget is counted and stores the word. -/
theorem busPut_mbx {a : State} {m A v mk n : Nat} (hr : regionOf A = .mbx n) (hg : a.grantable m 1 = true) :
    a.busPut m A v mk 0 false =
      (.ok 0, { a.useBudget m 1 with mem := wrWord a.mem A (mergeWord (rdWord a.mem A) v mk) }) := by
  simp [State.busPut, State.busyAt, State.payAt, State.spendAt, State.storeWord, hr, hg, targetOf_mbx hr,
    State.useBudget]

/-- A write that R74 does not grant is captured, and does nothing else unless it is an RWS denial on the DMA page, whose
owner it may take (R75, R80). -/
theorem busPut_refused {a : State} {m A v mk c : Nat} {paid : Bool} (hc : c ≠ 0)
    (hdma : c ≠ 4 ∨ A < 0x400B8000 ∨ 0x400B9000 ≤ A) :
    a.busPut m A v mk c paid = (.err, a.refuse m A true c) := by
  unfold State.busPut
  rw [if_pos hc]
  split
  · next p o hr =>
    obtain ⟨hA, -, ho, -⟩ := regionOf_eq_page hr
    have hn : ¬ (c = 4 ∧ p = 0xB8 ∧ (o - 0x100) % 0x20 = 0) := by
      rintro ⟨hc4, rfl, -⟩
      unfold pageAddr at hA
      omega
    rw [if_neg hn]
  · rfl

/-- REGISTER_WRITE outside the remote windows is a whole-word write under the decision of R74. -/
theorem exec_regWrite_local {s a : State} {t : Nat} {m : Master} {addr v : Word} (ha : a = s.advance t)
    (hc : State.core 3 a = true) (hl : isRemote addr.toNat = false) :
    exec (.regWrite t m addr v) s = .next (a.keep (a.busPut m addr.toNat v.toNat 0xFFFFFFFF
      (a.writeCode m addr.toNat v.toNat 0xFFFFFFFF) false).2) := by
  subst ha
  rw [exec_regWrite, execRegWrite, act_on hc, if_neg (by simp [hl]), State.busWrite, beMask_full, putCode_full]

/-! ### The enables of a page's header -/

theorem fieldsAt_ienA {p : Nat} (h : ∃ fs, fieldsAt p 0x14 = some fs) : fieldsAt p 0x14 = some [PG_IEN_A_EN_A p] := by
  obtain ⟨fs, hf⟩ := h
  unfold fieldsAt at hf ⊢
  split
  · next hk => simp [hk] at hf
  · simp [findRow, hdrRows]

/-- The header ends no tile's reset state (R463), so a write of it is counted and nothing more. -/
theorem charged_header {a : State} {m p o : Nat} (ho : o < 0x40) (hr : regionOf (pageAddr p o) = .page p o) :
    a.charged m p o = a.counted m p := by
  simp only [State.charged, State.touch, hr]
  rw [if_neg (by omega)]

/-- A whole-word write of PG_IEN_A replaces it (R7, R67). -/
theorem writeReg_ienA {s : State} {m p v : Nat} (h : ∃ fs, fieldsAt p 0x14 = some fs) (hv : v < 2 ^ 32) :
    s.writeReg m p 0x14 v 0xFFFFFFFF = s.swPut (PG_IEN_A_EN_A p) v := by
  simp only [State.writeReg, State.hdrWrite, State.plainWrite, fieldsAt_ienA h, List.foldl_cons, List.foldl_nil]
  exact writeField_rw_full (f := PG_IEN_A_EN_A p) rfl rfl rfl hv

/-- Settles O3: each clause is one of the ways `busPut` ends. -/
theorem registerWriteEffect : Obligations.RegisterWriteEffect := by
  intro s a t m addr v ha hcore
  refine ⟨fun p o hr hw hd hg => ?page, fun p hr hw hd hg => ?enables, fun n hr hw hg => ?mailbox,
    fun hl hw hdma => ?refused⟩
  case page => rw [exec_regWrite_local ha hcore (isRemote_page hr), hw, busPut_page hr hd hg]
  case enables =>
    obtain ⟨hA, -, -, hf⟩ := regionOf_eq_page hr
    rw [exec_regWrite_local ha hcore (isRemote_page hr), hw, busPut_page hr hd hg,
      charged_header (by decide) (hA ▸ hr), writeReg_ienA hf v.isLt]
  case mailbox =>
    have hb := exec_regWrite_local (m := m) (v := v) ha hcore (isRemote_mbx hr)
    rw [hw, busPut_mbx hr hg, mergeWord_full (rdWord_lt _ _) v.isLt] at hb
    exact ⟨_, hb, rdWord_wrWord v.isLt, rfl, fun x hx => rdByte_wrWord_outside hx⟩
  case refused => rw [exec_regWrite_local ha hcore hl, busPut_refused hw hdma]

/-! ### A step -/

theorem step_cons {s : State} {c : Instr} {q : List Instr} (h : s.pending = c :: q) :
    step s = exec c { s with pending := q } := by
  unfold step; rw [h]

theorem step_nil {s : State} (h : s.pending = []) : step s = .next s := by
  unfold step; rw [h]

/-- Settles O51, by the two cases of the queue. -/
theorem stepRunsTheFront : Obligations.StepRunsTheFront :=
  ⟨fun _ _ _ h => step_cons h, fun _ h => step_nil h⟩

/-! ### The state at reset -/

/-- At reset no field differs from its reset value (R8). -/
theorem reset_rd (f : Field) : State.reset.rd f = f.rst % 2 ^ f.w := rfl

/-- Every link is DOWN at reset. -/
theorem reset_linkState (x : Nat) : State.reset.linkState x = 0 := by
  rw [State.linkState, reset_rd]; rfl

/-- The cascade role is OFF at reset. -/
theorem reset_role : State.reset.role = 0 := by
  rw [State.role, reset_rd]; rfl

/-- Settles O52: the fields by `reset_rd`, the rest as `State.reset` is written. -/
theorem stateAtReset : Obligations.StateAtReset := by
  refine ⟨rfl, rfl, by decide, rfl, reset_mem_wf, rfl, rfl, reset_rd, ?_, ?_, ?_, ?_, ?_, fun x => reset_linkState x,
    reset_role⟩
  all_goals
    rw [reset_rd]
    rfl

end Sys2Proof.Machine
end

section
/-! Proof about a domain held in reset: what a command's guard needs of its domain. -/

namespace Sys2Proof.Machine

/-! ### A domain held in reset (R11) -/

/-- A block whose clock guard is `ok` acts only while domain `d` is out of reset. -/
def NeedsDomain (d : Nat) (ok : State → Bool) : Prop := ∀ a : State, ok a = true → a.domOn d = true

theorem NeedsDomain.off {d : Nat} {ok : State → Bool} (h : NeedsDomain d ok) {a : State} (hd : a.domOn d = false) :
    ok a = false :=
  Bool.eq_false_iff.2 fun ho => by simp [h a ho] at hd

theorem NeedsDomain.and {d : Nat} {ok : State → Bool} (h : NeedsDomain d ok) (more : State → Bool) :
    NeedsDomain d fun a => ok a && more a :=
  fun a ha => h a (Bool.and_eq_true_iff.1 ha).1

theorem core_needs {d : Nat} : NeedsDomain d (State.core d) := fun _ h => (Bool.and_eq_true_iff.1 h).2
theorem tbd_needs {d : Nat} : NeedsDomain d (State.tbd d) := fun _ h => (Bool.and_eq_true_iff.1 h).2
theorem corn_needs {d : Nat} : NeedsDomain d (State.corn d) := (core_needs (d := d)).and _
theorem tbLive_needs : NeedsDomain 3 tbLive := fun _ h => (Bool.and_eq_true_iff.1 h).2
theorem gpOk_needs : NeedsDomain 3 gpOk := (tbLive_needs.and _).and _
theorem rtrOk_needs : NeedsDomain 3 rtrOk := (tbLive_needs.and _).and _
theorem trkOk_needs : NeedsDomain 0 trkOk := tbd_needs.and _
theorem evtChan_needs_angle : NeedsDomain 0 evtChan := tbd_needs.and _
theorem evtChan_needs_channel : NeedsDomain 1 evtChan := fun _ h => (Bool.and_eq_true_iff.1 h).2
theorem gelOk_needs (g : Nat) : NeedsDomain 1 (gelOk g) := core_needs.and _
theorem cvLive_needs (x : Nat) : NeedsDomain 2 (cvLive x) := (corn_needs.and _).and _
theorem cvOk_needs (x : Nat) : NeedsDomain 2 (cvOk x) := (cvLive_needs x).and _
theorem hostOk_needs : NeedsDomain 3 hostOk := core_needs.and _
theorem linkOk_needs : NeedsDomain 3 linkOk := core_needs.and _
theorem dmaOk_needs : NeedsDomain 3 dmaOk := (corn_needs.and _).and _
theorem pioOk_needs (x : Nat) : NeedsDomain 3 (pioOk x) := ((corn_needs.and _).and _).and _

theorem advance_domOn (s : State) (t d : Nat) : (s.advance t).domOn d = s.domOn d := by simp [State.domOn]

/-- A command of a domain that is held in reset only lets time pass. -/
theorem act_held {s : State} {t d : Nat} {ok : State → Bool} {f : State → State} (hn : NeedsDomain d ok)
    (h : s.domOn d = false) : s.act t ok f = .next (s.advance t) :=
  act_off (hn.off ((advance_domOn s t d).trans h))

theorem actTb_held {s : State} {t d : Nat} {ok : State → Bool} {f : State → State} (hn : NeedsDomain d ok)
    (h : s.domOn d = false) : s.actTb t ok f = .next (s.advance t) := by
  rw [State.actTb, hn.off ((advance_domOn s t d).trans h)]; rfl

/-- Settles O55: commands are grouped by the guard of their clock, and each guard needs the domain that the statement names. -/
theorem heldDomainsDoNothing : Obligations.HeldDomainsDoNothing := by
  intro c s
  cases c
  case posEnable | posLoad | ssiTrig | trkEnable | selReq | tblDataAccess | tblCommit | learnReq | learnAbort
    | learnDone | evtWordStage | evtCommit | evtRun | evtStop | hostSrq | channelEnable | channelDisable | gelEnable
    | outArm | outDisarm | dpermitBToggle | bankEnable | slotLockClear | cbcEnable | convCtrlStart | convUrgent
    | convStop | resultRead | vrefEnable | vrefOkChange | calReq | calAbort | cmpEnable | cmpRefWrite | cmpStReq
    | cmpSelftestStep | cmpStAbort | cylEnable | volDataAccess | volCommit | rcReq | loopEnable | sbufRead
    | cylStatusRead | regWrite | freezeWrite | pgFaultClear | pageLock | accessTableWrite | wideLowRead
    | wideHighWrite | wideLowWrite | softRst | pageDisable | selftestDone | tbRestore | sleepRequest | dhaltEnter
    | dhaltExit | commit | ipendClear | mbqRelease | mbqConfigure | alarmWrite | gptEnable | gptCmpWrite | capqRead
    | gptSnap | dstCfgWrite | swTrig | dmaChCfgWrite | dmaStart | dmaStop | dmaFence | pioEngineEnable | pioEngineStop
    | pioSlotEnable | pioSlotStop | txqWrite | rxqRead | pioPtrig | pioProgWrite | linkEnable | fltQPop | fltFeClear
    | fltInjCtrl | fltKcfgWrite | migration | migrationResume | actReq | actAbort | tokenGrant | tileBistEnd
    | scrubWord | rowRepair | muartFrameSend | muartReadRequest | muartRxTimeout | imgBlock | imgEnd | imgAbort
    | imgTimeout | imgVerified | imgClearingDone | trefOkRise | faultMessageArrival | coalesceClose | promoWindowEnd =>
    intro h; unfold exec; exact act_held core_needs h
  case posEdge | posDeferredEdge | posIndex | vrArmHalve | speedFallbackWindow | posStuck | ssiPeriodStart | ssiWord
    | ssiTimeout | sentFrame | microTick | evtCommitEffect | evtConvStart | evtConvWin | evtCmuMark | evtOut
    | evtLinkBcast | cmdQueueArrival | evtPulseTEnd | evtPulseAEnd | evtDwellMaxEnd | softOffEnd | channelCapture
    | timeMatchFire | angleMatchFire | coupledMatchFire | dpermitAToggle | slotCommandRise | slotCommandFall
    | bankCmpARise | bankCmpBFall | slotTPeak | slotTBoostMax | slotTQmax | slotTperMin | slotBlankEnd
    | bankThresholdSettled | cmpLevelChange | cmpSampleWindowEnd | cleanCrossing | dlCalDone | frameBoundary =>
    intro h; unfold exec; exact act_held tbd_needs h
  case trkCrankEdge | trkCamEdge | camWindowClose | candidateConfirm | trkHalted | haltLimit | trkStall =>
    intro h; unfold exec; exact act_held trkOk_needs h
  case threadGrant | threadTmax | gelAdd | gelSub | gelAnd | gelOr | gelXor | gelShl | gelShr | gelSar | gelMul
    | gelMulq | gelMin | gelMax | gelCmp | gelMov | gelAdda | gelLdh | gelLdp | gelStp | gelLdm | gelStm
    | gelMemComplete | gelA2t | gelA2d | gelQput | gelLnk | gelSmt | gelSma | gelSmc | gelPin | gelRdcCap0Time
    | gelRdcCap0Angle | gelRdcCap1Time | gelRdcCap1Angle | gelRdsTbvLo | gelRdsTbvHi | gelRdsAngle | gelRdsSnapshot
    | gelRdsChStat | gelRdsSrqTime | gelRdsSrqParam | gelRdsCycCnt | gelChcRel | gelChcDisarmTime | gelChcDisarmAngle
    | gelChcArmSrqAction | gelAdj | gelBr | gelBf | gelCall | gelRet | gelBrk | gelYield | gelEnd | gelIllegal
    | gelStoreError | gelHalt | gelStep | gelResume =>
    intro h; unfold exec; exact act_held (gelOk_needs _) h
  case convRouterStart | convRouterUrgent | convResult =>
    intro h; unfold exec; exact act_held (cvLive_needs _) h
  case convBoundary | vrefWarm | mainsEdge | mainsTimeout | cmuSample | pegOpen | pegClose | cmuClose | cmuRecordReady
    | cmuTrimWrite | cmuRecordPost | volTableReady | recomputeDone =>
    intro h; unfold exec; exact act_held corn_needs h
  case convWindowTimeEnd | convWindowLong | calStart | calEnd =>
    intro h; unfold exec; exact act_held (cvOk_needs _) h
  case trefFail =>
    intro h; unfold exec; exact actTb_held core_needs h
  case hostCsFall | laneBreak | hello | hostRead | hostWrite | hostMaskWrite | hostStream | hostSnap64 | hostAttest
    | hostUnknown | responseReady | responseSendEnd | attnPulse | hostSilence =>
    intro h; unfold exec; exact act_held hostOk_needs h
  case alarmFire =>
    intro h; unfold exec; exact act_held tbLive_needs h
  case gptWrap | gptMatch | gptTriggerReset | gptCapture =>
    intro h; unfold exec; exact act_held gpOk_needs h
  case routerEvent =>
    intro h; unfold exec; exact act_held rtrOk_needs h
  case dmaTrigger | dmaBurstGrant | dmaBurstWritten | dmaComplete | dmaDescLoad | dmaBeatError | dmaPfbError
    | dmaFenceDone =>
    intro h; unfold exec; exact act_held dmaOk_needs h
  case pioDrv | pioDir | pioSho | pioShi | pioTake | pioTakeNb | pioPut | pioPutNb | pioSetk | pioLoop | pioBr
    | pioWaite | pioWaitf | pioSigSet | pioSigClear | pioSigInvert | pioSigIrq | pioMovs | pioHoldTick | pioSlotFault
    | pioFetchError =>
    intro h; unfold exec; exact act_held (pioOk_needs _) h
  case linkAligned | linkTrain | linkTrainTimeout | linkDown | beaconSend | linkBeacon | linkStatus | statusSend
    | linkEvent | linkClaim | linkRreq | linkRrsp | remoteAccess | remoteTimeout | cascEnable | masterElection
    | beaconLoss | claimWaitEnd | linkFrameDiscard =>
    intro h; unfold exec; exact act_held linkOk_needs h
  case occurrenceSlotArrival | evtPinSet | evtPinClr | evtPulseT | evtPulseA | evtDwell | evtDwellSpark | evtSrq =>
    rintro (h | h) <;> unfold exec
    · exact act_held evtChan_needs_angle h
    · exact act_held evtChan_needs_channel h
  case unitResetComplete | domainDroop | domainDroopRelease | deviceReset | resetRelease | tbRestoreSwitch | xinLoss
    | lfLoss | lfModeEntry | lfModeExit | lfStep | wake | wakeComplete | faultMessage | faultSlotSend | lfOkRise =>
    trivial

end Sys2Proof.Machine
end


section
/-! Proofs about reset, release, self-test, and the droop of a domain: what each leaves of the registers and the host ports. -/

namespace Sys2Proof.Machine

open Reg

/-! ### Bits -/

theorem bit_eq_testBit (v i : Nat) : bit v i = v.testBit i := by
  rw [Nat.testBit_eq_decide_div_mod_eq]; rfl

theorem bit_mod_two_pow {w i : Nat} (v : Nat) (h : i < w) : bit (v % 2 ^ w) i = bit v i := by
  simp [bit_eq_testBit, h]

theorem bit_lor_two_pow (v i : Nat) : bit (Nat.lor v (2 ^ i)) i = true := by
  rw [bit_eq_testBit]
  exact (Nat.testBit_or v (2 ^ i) i).trans (by simp)

/-- The bit just put reads back. -/
theorem bit_putBit (v i : Nat) (b : Bool) : bit (putBit v i b) i = b := by
  have hq : putBit v i b / 2 ^ i = v / 2 ^ i - v / 2 ^ i % 2 + b2n b := by
    have hv := Nat.div_add_mod v (2 ^ i)
    have hb : 2 ^ i * (v / 2 ^ i - v / 2 ^ i % 2) = 2 ^ i * (v / 2 ^ i) - v / 2 ^ i % 2 * 2 ^ i := by
      rw [Nat.mul_sub, Nat.mul_comm (2 ^ i) (v / 2 ^ i % 2)]
    have hle : v / 2 ^ i % 2 * 2 ^ i ≤ 2 ^ i * (v / 2 ^ i) := by
      rw [Nat.mul_comm]; exact Nat.mul_le_mul_left _ (Nat.mod_le _ _)
    have hp : putBit v i b = v % 2 ^ i + 2 ^ i * (v / 2 ^ i - v / 2 ^ i % 2 + b2n b) := by
      unfold putBit bitN
      rw [Nat.mul_add, hb, Nat.mul_comm (2 ^ i) (b2n b)]
      omega
    rw [hp, Nat.add_mul_div_left _ _ (Nat.two_pow_pos i), Nat.div_eq_of_lt (Nat.mod_lt _ (Nat.two_pow_pos i)),
      Nat.zero_add]
  unfold bit
  rw [hq]
  cases b <;> simp [b2n] <;> omega

/-! ### Registers -/

/-- A field reads alike in states with the same registers. -/
theorem rd_congr {s s' : State} (h : s'.regs = s.regs) (f : Field) : s'.rd f = s.rd f := by
  unfold State.rd; rw [h]

theorem setBits_rd_ne (s : State) {f g : Field} (b : Nat) (h : g.key ≠ f.key) : (s.setBits f b).rd g = s.rd g :=
  rd_wr_ne s f g _ h

/-- What a table reads after a filter that keeps the key. -/
theorem tget_filter {α : Type} (d : α) {keep : Nat → Bool} {k : Nat} (hk : keep k = true) (t : Tab α) :
    tget d (t.filter fun e => keep e.1) k = tget d t k := by
  induction t with
  | nil => rfl
  | cons e r ih =>
    obtain ⟨n, v⟩ := e
    by_cases hn : n = k
    · subst hn; simp [hk, tget]
    · by_cases hkeep : keep n = true <;> simp [hkeep, tget, hn, ih]

/-- Resetting a page leaves the fields of other pages. -/
theorem resetPage_rd_ne {s : State} {p : Nat} {keep : Nat → Bool} {f : Field} (h : f.key / 131072 ≠ p) :
    (s.resetPage p keep).rd f = s.rd f := by
  unfold State.rd State.resetPage
  rw [tget_filter (keep := fun k => k / 131072 != p || keep (k / 32 % 4096))]
  simp [h]

/-! ### The host ports open (R105, R111, R471) -/

theorem hs_modHs (s : State) (x y : Nat) (f : HostS → HostS) :
    (s.modHs x f).hs y = if y = x then f (s.hs x) else s.hs y := tget_tput _ _ _ _ _

theorem keep_hs (a b : State) (x : Nat) : (a.keep b).hs x = b.hs x := rfl

theorem rd_modHs (s : State) (x : Nat) (f : HostS → HostS) (r : Field) : (s.modHs x f).rd r = s.rd r := rfl

/-- An update of a host port that keeps whether it is enabled keeps that of every port. -/
theorem modHs_enabled {s : State} {x : Nat} {f : HostS → HostS} (hf : ∀ h, (f h).enabled = h.enabled) (y : Nat) :
    ((s.modHs x f).hs y).enabled = (s.hs y).enabled := by
  rw [hs_modHs]; split
  · next h => rw [hf, h]
  · rfl

/-- `s'` has the enables of the host ports of `s`, and every field that is neither IPEND nor PORT_STAT.STATE of port `x`. -/
def PortKeeps (x : Nat) (s s' : State) : Prop :=
  (∀ y, (s'.hs y).enabled = (s.hs y).enabled) ∧
  ∀ f : Field, f.key ≠ (HOST_PORT_STAT_STATE x).key → (∀ i, f.key ≠ (HOST_IPEND_PEND x i).key) → s'.rd f = s.rd f

theorem PortKeeps.trans {x : Nat} {a b c : State} (h : PortKeeps x a b) (k : PortKeeps x b c) : PortKeeps x a c :=
  ⟨fun y => (k.1 y).trans (h.1 y), fun f h1 h2 => (k.2 f h1 h2).trans (h.2 f h1 h2)⟩

theorem attnFrom_portKeeps (s s0 : State) (x k : Nat) : PortKeeps x s (s.attnFrom s0 x k) := by
  unfold State.attnFrom
  dsimp only
  split
  · exact ⟨fun _ => rfl, fun _ _ _ => rfl⟩
  · exact ⟨modHs_enabled fun _ => rfl, fun _ _ _ => rfl⟩

theorem ipend_portKeeps (s : State) (x n : Nat) : PortKeeps x s (s.ipend x n) := by
  unfold State.ipend
  dsimp only
  split
  · exact ⟨fun _ => rfl, fun _ _ _ => rfl⟩
  · refine PortKeeps.trans (b := s.setBits (HOST_IPEND_PEND x (n / 32)) (2 ^ (n % 32))) ?_ (attnFrom_portKeeps _ _ _ _)
    exact ⟨fun _ => rfl, fun f _ h => setBits_rd_ne s _ (h _)⟩

theorem hostLevel_portKeeps (s : State) (n x : Nat) : PortKeeps x s (s.hostLevel n x) := by
  unfold State.hostLevel
  refine PortKeeps.trans (b := ite _ _ _) ?_ ⟨fun _ => rfl, fun _ _ _ => rfl⟩
  split
  · exact ipend_portKeeps s x n
  · exact ⟨fun _ => rfl, fun _ _ _ => rfl⟩

theorem hostIdle_portKeeps (s : State) (x : Nat) : PortKeeps x s (s.hostIdle x) := by
  unfold State.hostIdle State.hostTo
  exact ⟨fun y => modHs_enabled (f := fun h => { enabled := h.enabled, heard := h.heard, idleAt := s.now }) (fun _ => rfl) y,
    fun f h _ => rd_wr_ne (s.modHs x _) _ f _ h⟩

theorem hostOpen_portKeeps (s : State) (x : Nat) : PortKeeps x s (s.hostOpen x) := by
  unfold State.hostOpen
  refine List.foldlRecOn (motive := PortKeeps x s) _ _ ?_ ?_
  · exact hostIdle_portKeeps { s with rtr := _ } x
  · intro b hb n _
    split
    · exact hb.trans (hostLevel_portKeeps b n x)
    · exact hb

/-- Both ports stand enabled once boot opens them (R471 step 7). -/
theorem portsOn_enabled (s : State) : (s.portsOn.hs 0).enabled = true ∧ (s.portsOn.hs 1).enabled = true := by
  simp only [State.portsOn, List.foldl_cons, List.foldl_nil, (hostOpen_portKeeps _ _).1, hs_modHs, if_true, and_true]
  rw [if_neg (by decide), (hostOpen_portKeeps _ _).1, hs_modHs, if_pos rfl]

theorem portsOn_bootState (s : State) : s.portsOn.rd (HOST_BOOT_STAT_STATE 0) = s.rd (HOST_BOOT_STAT_STATE 0) := by
  have keeps (s : State) (x : Nat) :
      (s.hostOpen x).rd (HOST_BOOT_STAT_STATE 0) = s.rd (HOST_BOOT_STAT_STATE 0) :=
    (hostOpen_portKeeps s x).2 _ (by simp only [Field.key, HOST_BOOT_STAT_STATE, HOST_PORT_STAT_STATE]; omega)
      fun i => by simp only [Field.key, HOST_BOOT_STAT_STATE, HOST_IPEND_PEND]; omega
  simp only [State.portsOn, List.foldl_cons, List.foldl_nil, keeps, rd_modHs]

/-! ### Reset, release and self-test (R471, R474, R495) -/

@[simp] theorem advance_otp (s : State) (t : Nat) : (s.advance t).otp = s.otp := by
  unfold State.advance; split
  · rfl
  · split <;> rfl
@[simp] theorem advance_nonce (s : State) (t : Nat) : (s.advance t).nonce = s.nonce := by
  unfold State.advance; split
  · rfl
  · split <;> rfl
@[simp] theorem advance_flt (s : State) (t : Nat) : (s.advance t).flt = s.flt := by
  unfold State.advance; split
  · rfl
  · split <;> rfl

/-- Everything DEVICE_RESET leaves. -/
theorem exec_deviceReset_eq (s : State) (t : Nat) :
    exec (.deviceReset t) s = .next { s.deviceReset with pending := s.pending } := by
  rw [exec_deviceReset, execDeviceReset, State.actTb]
  simp only [if_true, State.deviceReset, advance_otp, advance_nonce, advance_flt, advance_pwr, advance_pending]

/-- The boot state is written to both host pages. -/
theorem bootTo_rd_a (s : State) (st : Nat) : (s.bootTo st).rd (HOST_BOOT_STAT_STATE 0) = st % 256 := by
  rw [State.bootTo, rd_wr_ne _ _ _ _ (by decide), rd_wr_self]; rfl
theorem bootTo_rd_b (s : State) (st : Nat) : (s.bootTo st).rd (HOST_BOOT_STAT_STATE 1) = st % 256 := by
  rw [State.bootTo, rd_wr_self]; rfl
theorem bootTo_rd_ne {s : State} {st : Nat} {f : Field} (h0 : f.key ≠ (HOST_BOOT_STAT_STATE 0).key)
    (h1 : f.key ≠ (HOST_BOOT_STAT_STATE 1).key) : (s.bootTo st).rd f = s.rd f := by
  rw [State.bootTo, rd_wr_ne _ _ _ _ h1, rd_wr_ne _ _ _ _ h0]

/-- The straps, and the clocks as RESET_RELEASE finds them (R471 steps 1 and 2). -/
def State.strapped (s : State) (cascId men : Nat) : State :=
  let s : State := { s with tb := 0, pwr := { s.pwr with held := false } }
  let s := (s.wr CASC_CASC_STAT_ID cascId).wr CASC_CASC_STAT_MEN men
  let s := ((s.wr CLK_CLK_STAT_XIN_OK 1).wr CLK_CLK_STAT_TREF_OK 1).wr CLK_CLK_STAT_LF_OK (b2n !s.pwr.lfLost)
  (s.wr CLK_CLK_STAT_PLL_SYS_LOCK 1).wr CLK_CLK_STAT_PLL_TB_LOCK 1

theorem b2n_mod_two (b : Bool) : b2n b % 2 = b2n b := by cases b <;> rfl

theorem strapped_rd (s : State) (cascId men : Nat) :
    (s.strapped cascId men).rd CASC_CASC_STAT_ID = cascId % 4 ∧ (s.strapped cascId men).rd CASC_CASC_STAT_MEN = men % 2 ∧
    (s.strapped cascId men).rd CLK_CLK_STAT_XIN_OK = 1 ∧ (s.strapped cascId men).rd CLK_CLK_STAT_TREF_OK = 1 ∧
    (s.strapped cascId men).rd CLK_CLK_STAT_PLL_SYS_LOCK = 1 ∧ (s.strapped cascId men).rd CLK_CLK_STAT_PLL_TB_LOCK = 1 ∧
    (s.strapped cascId men).rd CLK_CLK_STAT_LF_OK = b2n (!s.pwr.lfLost) % 2 := by
  unfold State.strapped
  refine ⟨?_, ?_, ?_, ?_, ?_, ?_, ?_⟩
  all_goals
    simp (disch := decide) only [rd_wr_self, rd_wr_ne]
    rfl

theorem resetRelease_held {s : State} (h : s.pwr.held = true) (cascId men : Nat) :
    s.resetRelease cascId men = (s.strapped cascId men).loadFuses.bootTo 1 := by
  unfold State.resetRelease; rw [h]; rfl

/-- Without fuses, loading them changes nothing. -/
theorem loadFuses_nil {s : State} (h : s.otp = []) : s.loadFuses = s := by
  have hregs : s.otp.foldl (fun r (e : Nat × Nat) => tput 0 r e.1 e.2) s.regs = s.regs := by rw [h]; rfl
  unfold State.loadFuses; rw [hregs]

theorem exec_resetRelease_eq {s a : State} {t : Nat} (ha : a = s.advance t) (id : Fin 4) (men : Bool) :
    exec (.resetRelease t id men) s = .next { a.resetRelease id (b2n men) with pending := a.pending } := by
  subst ha; rfl

/-- The state that the self-tests' results lead to (R474). -/
def selfTestState (lb mb otp : Bool) : Nat := if !otp then 0x83 else if !lb then 0x81 else if !mb then 0x82 else 0x10

/-- Whatever the self-tests find, they name the boot state and enable the ports last. -/
theorem selfTest_eq {s : State} (h : s.rd (HOST_BOOT_STAT_STATE 0) = 1) (lb mb otp : Bool) :
    ∃ u : State, s.selfTest lb mb otp = (u.bootTo (selfTestState lb mb otp)).portsOn := by
  have hs : ¬ s.bootSt ≠ 1 := by simpa [State.bootSt] using h
  unfold State.selfTest selfTestState
  rw [if_neg hs]
  cases otp
  · exact ⟨s, rfl⟩
  cases lb
  · exact ⟨s, rfl⟩
  cases mb
  · exact ⟨s, rfl⟩
  · exact ⟨s.priorRecord.zeroMem mbxBase 0x4000, rfl⟩

theorem selfTestState_lt (lb mb otp : Bool) : selfTestState lb mb otp < 256 := by
  revert lb mb otp; decide

/-! ### A domain's droop and release (R12) -/

theorem domOn_wr_rst (s : State) (d : Domain) (b : Bool) :
    (s.wr SYS_DOM_STAT_RST (putBit (s.rd SYS_DOM_STAT_RST) d b)).domOn d = !b := by
  unfold State.domOn
  rw [rd_wr_self]
  exact congrArg (!·) ((bit_mod_two_pow (w := 4) _ d.isLt).trans (bit_putBit _ _ _))

/-- A droop ends by holding the domain and marking it (R12). -/
theorem droop_eq (s : State) (d : Domain) :
    ∃ u : State, s.droop d =
      (u.setBits SYS_DOM_STAT_DROOP (2 ^ d.val)).wr SYS_DOM_STAT_RST (putBit (u.rd SYS_DOM_STAT_RST) d true) :=
  ⟨_, rfl⟩

theorem droop_domOn (s : State) (d : Domain) : (s.droop d).domOn d = false := by
  obtain ⟨u, hu⟩ := droop_eq s d
  have hr : u.rd SYS_DOM_STAT_RST = (u.setBits SYS_DOM_STAT_DROOP (2 ^ d.val)).rd SYS_DOM_STAT_RST :=
    (setBits_rd_ne u _ (by decide)).symm
  rw [hu, hr, domOn_wr_rst]; rfl

theorem droop_marked (s : State) (d : Domain) : bit ((s.droop d).rd SYS_DOM_STAT_DROOP) d = true := by
  obtain ⟨u, hu⟩ := droop_eq s d
  rw [hu, rd_wr_ne _ _ _ _ (by decide), setBits_rd, rd_wr_self]
  exact (bit_mod_two_pow (w := 4) _ d.isLt).trans (bit_lor_two_pow _ _)

theorem svc_regs (s : State) (p : Nat) : (s.svc p).regs = s.regs := by
  unfold State.svc
  split
  · rfl
  · dsimp only
    split
    · split <;> rfl
    · rfl

/-- Every field of the SYS page reads as it did. -/
def SysKeeps (s s' : State) : Prop := ∀ f : Field, f.key < 131072 → s'.rd f = s.rd f

theorem SysKeeps.trans {a b c : State} (h : SysKeeps a b) (k : SysKeeps b c) : SysKeeps a c :=
  fun f hf => (k f hf).trans (h f hf)

theorem SysKeeps.of_regs {s s' : State} (h : s'.regs = s.regs) : SysKeeps s s' := fun f _ => rd_congr h f

theorem SysKeeps.ite {s a b : State} {c : Prop} [Decidable c] (ha : SysKeeps s a) (hb : SysKeeps s b) :
    SysKeeps s (if c then a else b) := by
  split
  · exact ha
  · exact hb

theorem wr_sysKeeps (s : State) {f : Field} (v : Nat) (h : 131072 ≤ f.key) : SysKeeps s (s.wr f v) :=
  fun g hg => rd_wr_ne s f g v (by omega)

theorem SysKeeps.foldl {α : Type} {l : List α} {f : State → α → State} (h : ∀ s, ∀ x ∈ l, SysKeeps s (f s x)) (s : State) :
    SysKeeps s (l.foldl f s) :=
  List.foldlRecOn (motive := SysKeeps s) _ _ (fun _ _ => rfl) fun b hb x hx => hb.trans (h b x hx)

theorem cmpWords_sysKeeps (s : State) : SysKeeps s s.cmpWords := by
  refine SysKeeps.foldl (fun s n _ => ?_) s
  dsimp only
  split
  · exact fun _ _ => rfl
  · refine SysKeeps.trans (b := State.wr _ _ _) ?_ (.of_regs rfl)
    refine SysKeeps.trans (b := State.wr s _ _) (wr_sysKeeps _ _ ?_) (wr_sysKeeps _ _ ?_)
    all_goals split <;> decide

/-- The unit of a page other than SYS takes its reset form without SYS. -/
theorem unitClear_sysKeeps (s : State) (p : Nat) : SysKeeps s (s.unitClear p) := by
  unfold State.unitClear
  refine .ite (.of_regs rfl) <| .ite (.of_regs rfl) <| .ite (.of_regs rfl) <| .ite ?tile <| .ite ?engine <|
    .ite (.of_regs rfl) <| .ite ?converter <| .ite ?comparators <| .ite (.of_regs rfl) <| .ite (.of_regs rfl) <|
    .ite (.of_regs rfl) <| .ite (.of_regs rfl) <| .ite (.of_regs rfl) <| .ite (.of_regs rfl) <| .ite ?cascade <|
    .ite (.of_regs rfl) (.of_regs rfl)
  case tile => exact (SysKeeps.of_regs rfl).trans (wr_sysKeeps _ _ (by simp only [Field.key, TILE_TILE_STAT_RSTD]; omega))
  case engine =>
    refine (SysKeeps.of_regs (s' := s.modEng (p - 0x30) _) rfl).trans (.foldl (fun s c _ => ?_) _)
    exact .ite (.of_regs (svc_regs s c)) (.of_regs rfl)
  case converter => exact .ite (.of_regs rfl) (.of_regs rfl)
  case comparators => exact cmpWords_sysKeeps s
  case cascade =>
    refine (SysKeeps.foldl (fun s f hf => wr_sysKeeps s _ ?_) s).trans (.of_regs rfl)
    revert f; decide

theorem hostOpen_sysKeeps (s : State) (x : Nat) : SysKeeps s (s.hostOpen x) := by
  refine fun f hf => (hostOpen_portKeeps s x).2 f ?_ fun i => ?_
  · simp only [Field.key, HOST_PORT_STAT_STATE] at hf ⊢; omega
  · simp only [Field.key, HOST_IPEND_PEND] at hf ⊢; omega

theorem unitHeal_sysKeeps (s : State) (p : Nat) : SysKeeps s (s.unitHeal p) := .of_regs rfl

/-- A unit reset leaves the SYS page, except that of SYS itself. -/
theorem unitReset_sysKeeps (s : State) {p : Nat} (hp : p ≠ 0) : SysKeeps s (s.unitReset p) := by
  have hreset : SysKeeps s (s.resetPage p (s.keepReset p)) := fun f hf => resetPage_rd_ne (by omega)
  have hheal := (hreset.trans (unitClear_sysKeeps _ p)).trans (unitHeal_sysKeeps _ p)
  have hacc : ∀ {u : State} (x : Acc), SysKeeps s u → SysKeeps s { u with acc := x } := fun _ h => h.trans (.of_regs rfl)
  exact .ite ((hacc _ hheal).trans (hostOpen_sysKeeps _ _)) (hacc _ hheal)

/-- Released, a domain is out of reset, and DOM_STAT shows what it showed (R12). -/
theorem droopEnd_held {s : State} {d : Domain} (h : s.domOn d = false) :
    (s.droopEnd d).domOn d = true ∧ (s.droopEnd d).rd SYS_DOM_STAT_DROOP = s.rd SYS_DOM_STAT_DROOP := by
  have hk : SysKeeps (s.wr SYS_DOM_STAT_RST (putBit (s.rd SYS_DOM_STAT_RST) d false)) (s.droopEnd d) := by
    unfold State.droopEnd
    rw [h, if_neg (by decide)]
    refine SysKeeps.foldl (fun u p hp => unitReset_sysKeeps u ?_) _
    rintro rfl
    simp [packagePages] at hp
  constructor
  · have hon := domOn_wr_rst s d false
    unfold State.domOn at hon ⊢
    rw [hk _ (by decide)]; exact hon
  · rw [hk _ (by decide), rd_wr_ne _ _ _ _ (by decide)]

/-- Settles O5: each command is the state it builds, read field by field; the release of a domain resets other pages than SYS. -/
theorem resetAndDomains : Obligations.ResetAndDomains := by
  intro s a t ha
  refine ⟨?reset, fun id men hheld => ?release, fun lb mb otp hcore hst => ?selftest, fun d hheld hon => ?droop,
    fun d hheld hoff => ?droopRelease⟩
  case reset => exact exec_deviceReset_eq s t
  case release =>
    have hex := exec_resetRelease_eq ha id men
    rw [resetRelease_held hheld] at hex
    refine ⟨_, hex, rfl, rfl, bootTo_rd_a _ 1, bootTo_rd_b _ 1, rfl, fun hotp => ?_⟩
    have hrd (f : Field) (h0 : f.key ≠ (HOST_BOOT_STAT_STATE 0).key) (h1 : f.key ≠ (HOST_BOOT_STAT_STATE 1).key) :
        ((a.strapped id (b2n men)).loadFuses.bootTo 1).rd f = (a.strapped id (b2n men)).rd f := by
      rw [bootTo_rd_ne h0 h1, loadFuses_nil (s := a.strapped id (b2n men)) hotp]
    obtain ⟨hid, hmen, hxin, htref, hsys, htb, hlf⟩ := strapped_rd a id (b2n men)
    exact ⟨(hrd _ (by decide) (by decide)).trans (hid.trans (Nat.mod_eq_of_lt id.isLt)),
      (hrd _ (by decide) (by decide)).trans (hmen.trans (b2n_mod_two men)),
      (hrd _ (by decide) (by decide)).trans hxin, (hrd _ (by decide) (by decide)).trans htref,
      (hrd _ (by decide) (by decide)).trans hsys, (hrd _ (by decide) (by decide)).trans htb,
      (hrd _ (by decide) (by decide)).trans (hlf.trans (b2n_mod_two _))⟩
  case selftest =>
    subst ha
    obtain ⟨u, hu⟩ := selfTest_eq hst lb mb otp
    refine ⟨_, (exec_selftestDone t lb mb otp s).trans (act_on hcore), ?_⟩
    rw [hu, keep_hs, keep_hs]
    refine ⟨?_, portsOn_enabled _⟩
    rw [keep_rd, portsOn_bootState, bootTo_rd_a, Nat.mod_eq_of_lt (selfTestState_lt _ _ _)]
    rfl
  case droop =>
    subst ha
    refine ⟨_, (exec_domainDroop t d s).trans (act_on (by rw [notHeld, hheld]; rfl)), ?_⟩
    rw [if_pos hon]
    exact ⟨droop_domOn _ d, droop_marked _ d⟩
  case droopRelease =>
    subst ha
    exact ⟨_, (exec_domainDroopRelease t d s).trans (act_on (by rw [notHeld, hheld]; rfl)), droopEnd_held hoff⟩

end Sys2Proof.Machine
end


section
/-! The counterexample to the statement on migration and tile BIST. -/

namespace Sys2Proof.Machine

open Reg

/-! ### Two tile BISTs -/

/-- The device runs with BISTs on tiles 1 and 5, which share no token, SLATE free, and tile 0 in CRIMSON. -/
def twoBists : State :=
  { pwr := { held := false }, flt := { crim := [srcId 1 0 0] },
    maint := { run := [{ act := 2, target := 1 }, { act := 2, target := 5 }] } }

/-- The end of the BIST on tile 1 starts the migration of tile 0, which aborts the BIST on tile 5: RESULT 5 (R466, R470). -/
theorem twoBists_result : (twoBists.bistEnd 1 true).rd (MAINT_ACT_STAT_RESULT 2) = 5 := by decide +kernel

/-- Refutes O47: its clauses on TILE_BIST_END do not say that no other BIST runs. ACT_STAT(2) is one register for all tiles, and the
migration that the end of one BIST starts (R458) aborts another, which leaves RESULT 5 there instead of 3. -/
theorem not_migration : ¬ Obligations.Migration := by
  intro h
  obtain ⟨-, -, hpass, -⟩ := h twoBists (twoBists.advance 0) 0 rfl (by decide)
  obtain ⟨b, hb, -, -, hresult, -⟩ := hpass 1 (by decide)
  have hex : exec (.tileBistEnd 0 1 true) twoBists = .next ((twoBists.advance 0).keep ((twoBists.advance 0).bistEnd 1 true)) :=
    (exec_tileBistEnd 0 1 true twoBists).trans (act_on (by decide))
  have hnow : twoBists.advance 0 = twoBists := by decide
  rw [Host.Outcome.next.inj (hb.symm.trans hex), keep_rd, hnow, twoBists_result] at hresult
  exact absurd hresult (by decide)

end Sys2Proof.Machine
end


section
/-! The counterexample to the statement on the event table. -/

namespace Sys2Proof.Machine

open Reg

/-! ### A pipeline in CRIMSON -/

/-- The device runs, EVT is enabled and STOPPED, and a bank of the event table is in CRIMSON, so the page is. -/
def crimsonPipeline : State :=
  ({ pwr := { held := false }, flt := { crim := [srcId 0 0x10 0] } } : State).wr (PG_CTRL_EN 0x19) 1

/-- BOOT's write of RUN = 1 is taken there, and the pipeline stays STOPPED (R454). -/
theorem crimsonPipeline_run :
    crimsonPipeline.mayWrite (3 : Master) 0x19 0x44 1 0xFFFFFFFF = true ∧
    (((crimsonPipeline.charged (3 : Master) 0x19 0x44).wr EVT_CTRL_RUN 1).evtStart_).rd EVT_STAT_STATE = 0 := by decide +kernel

/-- Everything RUN does where the master may write (R218). -/
theorem exec_evtRun_may {s a : State} {t : Nat} {m : Master} (ha : a = s.advance t) (hc : State.core 0 a = true)
    (hw : a.mayWrite m 0x19 0x44 1 0xFFFFFFFF = true) :
    exec (.evtRun t m) s = .next (a.keep ((a.charged m 0x19 0x44).wr EVT_CTRL_RUN 1).evtStart_) := by
  subst ha
  rw [exec_evtRun, execEvtRun, act_on hc, State.guarded, guardedTo_may (by decide) (by decide) hw]

/-- Refutes O15: its clause of RUN does not say that the pipeline's page is out of CRIMSON; there RUN is taken and the pipeline stays
STOPPED (R454). -/
theorem not_eventTable : ¬ Obligations.EventTable := by
  intro h
  have hnow : crimsonPipeline.advance 0 = crimsonPipeline := by decide +kernel
  obtain ⟨hmay, hstate⟩ := crimsonPipeline_run
  obtain ⟨-, -, -, -, -, -, -, -, -, -, hrun, -⟩ := h crimsonPipeline crimsonPipeline 0 3 0 hnow.symm (by decide) (by decide)
  obtain ⟨b, hb, -, hb1, -⟩ := hrun hmay (by decide) (by decide) (by decide) (by decide)
  have hex := exec_evtRun_may hnow.symm (by decide) hmay
  rw [Host.Outcome.next.inj (hb.symm.trans hex), keep_rd, hstate] at hb1
  exact absurd hb1 (by decide)

end Sys2Proof.Machine
end


section
/-! What the steps of channels, banks and outputs keep: the registers outside their own, the timebase, the clocks, and of an
engine all but the service requests it holds. -/

namespace Sys2Proof.Machine

open Reg

/-! ### Steps that keep registers, the timebase and the clocks -/

/-- From `s` to `s'` every field with its key in `P` reads as before, the timebase and the power state stand, and an engine
changes at most the service requests it holds. -/
structure Still (P : Nat → Prop) (s s' : State) : Prop where
  regs : ∀ f : Field, P f.key → s'.rd f = s.rd f
  tb : s'.tb = s.tb
  pwr : s'.pwr = s.pwr
  eng : ∀ g, s'.eng g = { s.eng g with reqs := (s'.eng g).reqs }

section

variable {P Q : Nat → Prop} {s a b c : State}

/-- A change of nothing that `Still` speaks of. -/
theorem Still.same (hr : b.regs = a.regs) (ht : b.tb = a.tb) (hp : b.pwr = a.pwr) (hg : b.gel = a.gel) : Still P a b :=
  ⟨fun f _ => rd_congr hr f, ht, hp, fun g => by simp only [State.eng, hg]⟩

theorem Still.refl (s : State) : Still P s s := .same rfl rfl rfl rfl

theorem Still.trans (h : Still P a b) (k : Still P b c) : Still P a c :=
  ⟨fun f hf => (k.regs f hf).trans (h.regs f hf), k.tb.trans h.tb, k.pwr.trans h.pwr,
    fun g => (k.eng g).trans (by rw [h.eng g])⟩

/-- `Still.trans` with the last step first. -/
theorem Still.after (k : Still P b c) (h : Still P a b) : Still P a c := h.trans k

theorem Still.mono (h : Still P a b) (hQ : ∀ k, Q k → P k) : Still Q a b :=
  ⟨fun f hf => h.regs f (hQ _ hf), h.tb, h.pwr, h.eng⟩

theorem Still.ite {p : Prop} [Decidable p] (h : Still P a b) (k : Still P a c) : Still P a (if p then b else c) := by
  split
  · exact h
  · exact k

theorem Still.foldl {α : Type} {l : List α} {f : State → α → State} (h : ∀ s, ∀ x ∈ l, Still P s (f s x)) (s : State) :
    Still P s (l.foldl f s) :=
  List.foldlRecOn (motive := fun r => Still P s r) l f (.refl s) fun r hr x hx => hr.trans (h r x hx)

theorem wr_still {f : Field} (v : Nat) (h : ¬ P f.key) : Still P s (s.wr f v) :=
  ⟨fun _ hg => rd_wr_ne _ _ _ _ fun e => h (e ▸ hg), rfl, rfl, fun _ => rfl⟩

theorem setBits_still {f : Field} (v : Nat) (h : ¬ P f.key) : Still P s (s.setBits f v) :=
  ⟨fun _ hg => setBits_rd_ne _ _ fun e => h (e ▸ hg), rfl, rfl, fun _ => rfl⟩

theorem inc_still {f : Field} (h : ¬ P f.key) : Still P s (s.inc f) := wr_still _ h

theorem iflag_still {p : Nat} (i : Nat) (h : ¬ P (PG_IFLAG_FLAG p).key) : Still P s (s.iflag p i) := setBits_still _ h

/-! ### Fault messages -/

/-- The keys in `P` hold none of the fields that a fault message writes: PG_FAULT of a page, and the count of dropped messages. -/
def NoFault (P : Nat → Prop) : Prop := (∀ k, P k → k / 32 % 4096 ≠ 0x1C) ∧ ¬ P FLT_RL_DROP_CNT.key

theorem NoFault.not_pgFault (h : NoFault P) {f : Field} (ho : f.off = 0x1C) (hlo : f.lo < 32) : ¬ P f.key :=
  fun hk => h.1 _ hk (by unfold Field.key; omega)

theorem pgFault_still (h : NoFault P) (p : Nat) (m : Msg) : Still P s (s.pgFault p m) := by
  have hv : ¬ P (PG_FAULT_VALID p).key := h.not_pgFault rfl (by simp [PG_FAULT_VALID])
  have hs : ¬ P (PG_FAULT_SEV p).key := h.not_pgFault rfl (by simp [PG_FAULT_SEV])
  have hk : ¬ P (PG_FAULT_KIND p).key := h.not_pgFault rfl (by simp [PG_FAULT_KIND])
  have hd : ¬ P (PG_FAULT_DETAIL p).key := h.not_pgFault rfl (by simp [PG_FAULT_DETAIL])
  have ho : ¬ P (PG_FAULT_OVF p).key := h.not_pgFault rfl (by simp [PG_FAULT_OVF])
  unfold State.pgFault
  split
  · exact .ite (.refl s) (wr_still _ ho)
  · exact (wr_still _ ho).after <| (wr_still _ hd).after <| (wr_still _ hk).after <| (wr_still _ hs).after <| setBits_still _ hv

theorem sendAt_still (m : Msg) (rep : Nat) (inj : Bool) (t : Nat) : Still P s (s.sendAt m rep inj t) :=
  .ite (.same rfl rfl rfl rfl) (.refl s)

theorem slotDue_still (src : Nat) : Still P s (s.slotDue src) := by
  unfold State.slotDue
  simp only
  split
  · exact .ite (.refl s) ((sendAt_still _ _ _ _).after (.same rfl rfl rfl rfl))
  · exact .refl s

theorem raiseMsg_still (h : NoFault P) (m : Msg) (inj : Bool) : Still P s (s.raiseMsg m inj) := by
  have hd (s : State) (d n : Nat) : Still P s (s.bumpDomain FLT_RL_DROP_CNT d n) := wr_still _ h.2
  unfold State.raiseMsg
  refine (slotDue_still m.src).trans ?_
  generalize s.slotDue m.src = s
  simp only
  split
  · exact .ite ((hd _ _ _).after (.same rfl rfl rfl rfl)) (.ite (.same rfl rfl rfl rfl) (hd _ _ _))
  · have hsend (sl : SendSlot) :
        Still P s (State.sendMsg { s with flt := { s.flt with slots := tput {} s.flt.slots m.src sl } } m 0 inj) :=
      (sendAt_still _ _ _ _).after (.same rfl rfl rfl rfl)
    split
    · exact .ite (.same rfl rfl rfl rfl) (hsend _)
    · exact hsend _

theorem faultMsg_still (h : NoFault P) (m : Msg) (l : List Nat) :
    Still P s ((l.foldl (fun s p => s.pgFault p m) s).raiseMsg m false) :=
  (Still.foldl (fun _ p _ => pgFault_still h p m) s).trans (raiseMsg_still h _ _)

theorem raise_still (h : NoFault P) (src kind detail : Nat) : Still P s (s.raise src kind detail) := faultMsg_still h _ _

/-! ### Channels, banks and outputs -/

theorem sepia_still (p n : Nat) : Still P s (s.sepia p n) := by
  unfold State.sepia
  exact .ite (.refl s) (.same rfl rfl rfl rfl)

theorem setChan_still (p : Nat) (x : Chan) : Still P s (s.setChan p x) :=
  (sepia_still p _).trans (.same rfl rfl rfl rfl)

theorem pulse_still (n : Nat) : Still P s (s.pulse n) := .same rfl rfl rfl rfl

theorem chev_still (n e : Nat) : Still P s (s.chev n e) := .foldl (fun _ _ _ => .ite (pulse_still _) (.refl _)) s

theorem follow_still (s0 : State) : Still P s (s.follow_ s0) := .ite (.refl s) (.same rfl rfl rfl rfl)

theorem holdChan_still (p : Nat) : Still P s (s.holdChan p) := by
  unfold State.holdChan
  split
  · exact .same rfl rfl rfl rfl
  · exact .refl s

theorem unsafe_still (p a : Nat) : Still P s (s.unsafe_ p a) := .ite (.refl s) ((holdChan_still _).after (setChan_still _ _))

/-- A soft-off writes SOFT_CNT and a flag of OUT (R266). -/
theorem softOff_still (hc : ¬ P OUT_SOFT_CNT_COUNT.key) (hi : ¬ P (PG_IFLAG_FLAG 0x38).key) (s0 : State) (p : Nat) :
    Still P s (s.softOff s0 p) := by
  unfold State.softOff
  split
  · exact .refl s
  · exact .ite (.refl s) ((iflag_still _ hi).after <| (inc_still hc).after <| .same rfl rfl rfl rfl)

theorem softAll_still (hc : ¬ P OUT_SOFT_CNT_COUNT.key) (hi : ¬ P (PG_IFLAG_FLAG 0x38).key) (s0 : State) (sel : Nat → Bool) :
    Still P s (s.softAll s0 sel) :=
  .foldl (fun _ _ _ => .ite (softOff_still hc hi _ _) (.refl _)) s

theorem retarget_still (k : Nat) (old : Option (Nat × Nat)) : Still P s (s.retarget k old) := by
  unfold State.retarget
  split
  · exact .refl s
  · have hset (s : State) (c : Prop) [Decidable c] (n : Nat) (x : CmpS) : Still P s (if c then s.setCmp n x else s) :=
      .ite (.same rfl rfl rfl rfl) (.refl s)
    exact (hset _ _ _ _).after (hset _ _ _ _)

theorem enter_still {k i : Nat} (hp : ¬ P (BANK_SLOT_STAT_PHASE k i).key) (ph : Nat) (x : SlotS) : Still P s (s.enter k i ph x) :=
  (follow_still _).after <| (retarget_still _ _).after <| (wr_still _ hp).after <| .same rfl rfl rfl rfl

theorem quench_still {k i : Nat} (hp : ¬ P (BANK_SLOT_STAT_PHASE k i).key) : Still P s (s.quench k i) :=
  .ite (enter_still hp _ _) (.refl s)

/-- The keys in `P` hold no phase of a bank slot. -/
def NoPhase (P : Nat → Prop) : Prop := ∀ k i, k < 24 → i < 2 → ¬ P (BANK_SLOT_STAT_PHASE k i).key

theorem quenchAll_still (hp : NoPhase P) : Still P s s.quenchAll :=
  .foldl (fun _ k hk => (quench_still (hp k 0 (List.mem_range.1 hk) (by decide))).trans
    (quench_still (hp k 1 (List.mem_range.1 hk) (by decide)))) s

theorem quenchChannel_still (hp : NoPhase P) (n : Nat) : Still P s (s.quenchChannel n) :=
  .foldl (fun _ j hj => .ite (quench_still (hp _ _ (by have := List.mem_range.1 hj; omega) (by omega))) (.refl _)) s

theorem svc_still (p : Nat) : Still P s (s.svc p) := by
  have hset (g : Nat) (r : Tab (List (Nat × Nat))) : Still P s (s.setEng g { s.eng g with reqs := r }) := by
    refine ⟨fun _ _ => rfl, rfl, rfl, fun h => ?_⟩
    by_cases hg : h = g
    · subst hg; rw [setEng_eng]
    · simp only [State.eng, State.setEng, tget_tput_ne _ _ _ hg]
  unfold State.svc
  split
  · exact .refl s
  · exact .ite (.ite (.refl s) (hset _ _)) (hset _ _)

/-! ### The keys that channels leave alone -/

/-- Keys of fields that a channel's own steps never write: on the pages below EVT all but the headers and RL_DROP_CNT; the first
registers of tiles, engines and OUT; and on tile pages the configuration and CH_ERR but SRQ_OVR. -/
def chanKept (k : Nat) : Prop :=
  let p := k / 131072
  let o := k / 32 % 4096
  (p < 0x19 ∧ 0x40 ≤ o ∧ ¬ (p = 4 ∧ o = 0x94)) ∨
  (0x20 ≤ p ∧ p < 0x40 ∧ 0x40 ≤ o ∧ o < 0x74) ∨
  (0x20 ≤ p ∧ p < 0x30 ∧ 0x100 ≤ o ∧ o < 0x400 ∧ (o % 32 < 0x14 ∨ o % 32 = 0x14 ∧ 1 ≤ k % 32))

theorem key_page {f : Field} (ho : f.off < 4096) (hl : f.lo < 32) : f.key / 131072 = f.page := by unfold Field.key; omega
theorem key_off {f : Field} (ho : f.off < 4096) (hl : f.lo < 32) : f.key / 32 % 4096 = f.off := by unfold Field.key; omega
theorem key_lo {f : Field} (hl : f.lo < 32) : f.key % 32 = f.lo := by unfold Field.key; omega

/-- `chanKept` of a field by its page, offset and lowest bit. -/
theorem chanKept_iff {f : Field} (ho : f.off < 4096) (hl : f.lo < 32) :
    chanKept f.key ↔
      (f.page < 0x19 ∧ 0x40 ≤ f.off ∧ ¬ (f.page = 4 ∧ f.off = 0x94)) ∨
      (0x20 ≤ f.page ∧ f.page < 0x40 ∧ 0x40 ≤ f.off ∧ f.off < 0x74) ∨
      (0x20 ≤ f.page ∧ f.page < 0x30 ∧ 0x100 ≤ f.off ∧ f.off < 0x400 ∧ (f.off % 32 < 0x14 ∨ f.off % 32 = 0x14 ∧ 1 ≤ f.lo)) := by
  simp only [chanKept, key_page ho hl, key_off ho hl, key_lo hl]

theorem chanKept_noFault : NoFault chanKept := by
  refine ⟨fun k hk => ?_, by unfold chanKept; decide⟩
  unfold chanKept at hk
  omega

theorem chanKept_noPhase : NoPhase chanKept := by
  intro k i hk hi
  rw [chanKept_iff (by simp [BANK_SLOT_STAT_PHASE]; omega) (by simp [BANK_SLOT_STAT_PHASE])]
  simp only [BANK_SLOT_STAT_PHASE]
  omega

theorem not_chanKept_softCnt : ¬ chanKept OUT_SOFT_CNT_COUNT.key := by unfold chanKept; decide

theorem not_chanKept_iflag (p : Nat) : ¬ chanKept (PG_IFLAG_FLAG p).key := by
  rw [chanKept_iff (by simp [PG_IFLAG_FLAG]) (by simp [PG_IFLAG_FLAG])]
  simp [PG_IFLAG_FLAG]

theorem not_chanKept_latch (n : Nat) : ¬ chanKept (latchField n).key := by
  unfold latchField
  split <;> unfold chanKept <;> decide

/-- A field of a tile's channel registers past CH_ERR, or SRQ_OVR, is not among the kept ones. -/
theorem not_chanKept_tile {f : Field} {i c : Nat} (hi : i < 24) (hf : f.off = c + 0x20 * i) (hp : 0x20 ≤ f.page)
    (hc : c = 0x118 ∨ c = 0x114 ∧ f.lo = 0) (hl : f.lo < 32) : ¬ chanKept f.key := by
  rw [chanKept_iff (by omega) hl]
  omega

theorem not_chanKept_evcnt (p : Nat) : ¬ chanKept (TILE_CH_EVCNT_COUNT (p / 24) (p % 24)).key :=
  not_chanKept_tile (Nat.mod_lt p (by decide)) rfl (Nat.le_add_right _ _) (.inl rfl) (by simp [TILE_CH_EVCNT_COUNT])

theorem not_chanKept_evOvr (p : Nat) : ¬ chanKept (TILE_CH_EVCNT_OVR (p / 24) (p % 24)).key :=
  not_chanKept_tile (Nat.mod_lt p (by decide)) rfl (Nat.le_add_right _ _) (.inl rfl) (by simp [TILE_CH_EVCNT_OVR])

theorem not_chanKept_srqOvr (p : Nat) : ¬ chanKept (TILE_CH_ERR_SRQ_OVR (p / 24) (p % 24)).key :=
  not_chanKept_tile (Nat.mod_lt p (by decide)) rfl (Nat.le_add_right _ _) (.inr ⟨rfl, rfl⟩) (by simp [TILE_CH_ERR_SRQ_OVR])

/-! ### The steps of a channel -/

theorem putLatch_still (n : Nat) (b : Bool) : Still chanKept s (s.putLatch n b) := wr_still _ (not_chanKept_latch n)

theorem latchRise_still (n : Nat) : Still chanKept s (s.latchRise n) :=
  .foldl (fun _ _ _ => .ite (putLatch_still _ _) (.refl _)) s

/-- `chSet`, first part: the levels, and the instant of a change at the pin. -/
def State.chLevels (s : State) (p : Nat) (env car : Bool) : State :=
  let t := s.setChan p { s.chan p with env := env, car := car }
  if t.chPin p != s.chPin p then t.setChan p { t.chan p with pinAt := t.tb + 1 } else t

/-- An event of channel `p` where a logical channel maps to it (R370). -/
def State.chevOf (s : State) (p e : Nat) : State :=
  match s.logOf p with
  | some n => s.chev n e
  | none => s

/-- A rise of channel `p` is a period start of the latches that select it (R319). -/
def State.latchRiseOf (s : State) (p : Nat) : State :=
  match s.logOf p with
  | some n => s.latchRise n
  | none => s

/-- `chSet`, second part: what follows the pin level, which is `up` now and was `was` in `s0`. -/
def State.chEdge (s s0 : State) (p : Nat) (up was soft : Bool) : State :=
  if up && !was then ((s.chevOf p 10).softRise p).latchRiseOf p
  else if was && !up then (if soft then (s.chevOf p 11).softOff s0 p else s.chevOf p 11)
  else s

theorem chSet_eq (s : State) (p : Nat) (env car soft : Bool) :
    s.chSet p env car soft =
      ((s.chLevels p env car).chEdge s p ((s.setChan p { s.chan p with env := env, car := car }).chPin p) (s.chPin p) soft).follow_ s :=
  rfl

theorem chLevels_still (p : Nat) (env car : Bool) : Still P s (s.chLevels p env car) :=
  .ite ((setChan_still _ _).after (setChan_still _ _)) (setChan_still _ _)

theorem chevOf_still (p e : Nat) : Still P s (s.chevOf p e) := by
  unfold State.chevOf
  split
  · exact chev_still _ _
  · exact .refl s

theorem latchRiseOf_still (p : Nat) : Still chanKept s (s.latchRiseOf p) := by
  unfold State.latchRiseOf
  split
  · exact latchRise_still _
  · exact .refl s

theorem chEdge_still (s0 : State) (p : Nat) (up was soft : Bool) : Still chanKept s (s.chEdge s0 p up was soft) := by
  have hoff : Still chanKept s ((s.chevOf p 11).softOff s0 p) :=
    (softOff_still not_chanKept_softCnt (not_chanKept_iflag _) _ _).after (chevOf_still _ _)
  have hup : Still chanKept s (((s.chevOf p 10).softRise p).latchRiseOf p) :=
    (latchRiseOf_still _).after ((chevOf_still p 10).trans (.same rfl rfl rfl rfl))
  exact .ite hup (.ite (.ite hoff (chevOf_still _ _)) (.refl s))

/-- The levels of a channel change (R229). -/
theorem chSet_still (p : Nat) (env car soft : Bool) : Still chanKept s (s.chSet p env car soft) := by
  rw [chSet_eq]
  exact (follow_still _).after <| (chEdge_still _ _ _ _ _).after <| chLevels_still _ _ _

theorem pipeAct_still (p a : Nat) (soft : Bool) : Still chanKept s (s.pipeAct p a soft) :=
  (chSet_still _ _ _ _).after (unsafe_still p a)

theorem microAct_still (p a : Nat) : Still chanKept s (s.microAct p a) :=
  .ite ((chSet_still _ _ _ _).after (unsafe_still p a)) ((chSet_still _ _ _ _).after (unsafe_still p a))

theorem putCount_still (p k n : Nat) : Still chanKept s (s.putCount_ p k n) :=
  (wr_still _ (not_chanKept_evcnt p)).after (sepia_still _ _)

theorem chErr_still {p : Nat} {f : Field} (h : ¬ P f.key) (hi : ¬ P (PG_IFLAG_FLAG (0x20 + p / 24)).key) :
    Still P s (s.chErr p f) :=
  (iflag_still _ hi).after (inc_still h)

/-- What a counted event does: its count, its pulse, the service request (R233, R234, R370). -/
theorem chEvent_counted {p k : Nat} (hd : s.dead p = false) (hn : s.evCount p k < 3) :
    s.chEvent p k = ((s.putCount_ p k (s.evCount p k + 1)).chevOf p k).svc p := by
  unfold State.chEvent
  rw [hd, if_neg (by decide), if_pos hn]
  rfl

theorem chEvent_still (p k : Nat) : Still chanKept s (s.chEvent p k) := by
  by_cases hd : s.dead p = true
  · rw [State.chEvent, if_pos hd]
    exact .refl s
  by_cases hn : s.evCount p k < 3
  · rw [chEvent_counted (by simpa using hd) hn]
    exact (svc_still _).after <| (chevOf_still _ _).after <| putCount_still _ _ _
  · rw [State.chEvent, if_neg hd, if_neg hn]
    exact .ite ((raise_still chanKept_noFault _ _ _).after (chErr_still (not_chanKept_srqOvr p) (not_chanKept_iflag _)))
      (.ite (inc_still (not_chanKept_evOvr p)) (.refl s))

theorem release_still (p : Nat) : Still P s (s.release p) := .ite (.refl s) (setChan_still _ _)

/-- The keys in `P` hold no field of EVT. -/
def NoEvt (P : Nat → Prop) : Prop := ∀ k, P k → k / 131072 ≠ 0x19

theorem NoEvt.not (h : NoEvt P) {f : Field} (hf : f.key / 131072 = 0x19) : ¬ P f.key := fun hk => h _ hk hf

theorem chanKept_noEvt : NoEvt chanKept := by
  intro k hk
  unfold chanKept at hk
  omega

theorem withdraw_still (h : NoEvt P) (o : Occ) : Still P s (s.withdraw o) := by
  have hunload : Still P s (s.unload o) := by
    unfold State.unload
    split
    · exact .ite (release_still _) (.refl s)
    · exact .refl s
  have hend (s : State) : Still P s (s.occEnd o false) := .same rfl rfl rfl rfl
  exact (iflag_still _ (h.not (by decide))).after <| (inc_still (h.not (by decide))).after <|
    Still.trans (hunload.trans (hend _)) (.same rfl rfl rfl rfl)

theorem evtLoadN_still (h : NoEvt P) (k p : Nat) : Still P s (s.evtLoadN k p) := by
  induction k generalizing s with
  | zero => exact .refl s
  | succ k ih =>
    unfold State.evtLoadN
    refine .ite (.refl s) ?_
    split
    · exact .refl s
    split
    · exact .refl s
    refine .ite (ih.after (withdraw_still h _)) ?_
    split
    · exact .ite (Still.trans (setChan_still _ _) (.same rfl rfl rfl rfl)) (setChan_still _ _)
    · exact setChan_still _ _

theorem evtLoad_still (h : NoEvt P) (p : Nat) : Still P s (s.evtLoad p) := evtLoadN_still h 5 p

/-- The safe end of a channel (R231). -/
theorem safeEnd_still (p : Nat) : Still chanKept s (s.safeEnd p) := by
  have hquench (s : State) : Still chanKept s (match s.logOf p with | some n => s.quenchChannel n | none => s) := by
    split
    · exact quenchChannel_still chanKept_noPhase _
    · exact .refl s
  exact (evtLoad_still chanKept_noEvt _).after <| (chEvent_still _ _).after <| (hquench _).after <| (setChan_still _ _).after <|
    (release_still _).after <| chSet_still _ _ _ _

theorem safeServed_still (g : Nat) : Still chanKept s (s.safeServed g) :=
  .foldl (fun _ _ _ => .ite (safeEnd_still _) (.refl _)) s

end

end Sys2Proof.Machine
end


section
/-! The counterexample to the statement on the budget frame. -/

namespace Sys2Proof.Machine

open Reg

/-! ### A read that waits for the next frame -/

/-- A READ frame of host port 0 wants one more word, and waits for a new budget frame to be granted it (R54, R99). -/
def waitingRead : State :=
  { pwr := { held := false }, host := [(0, { frame := some { op := 0x10, len := 1, addr := 0x10000000, across := true } })] }

/-- What FRAME_BOUNDARY does once time has passed (R50, R54). -/
def State.budgetFrameNow (s : State) : State :=
  if hostOk s.frameStart then (s.frameStart.hostRun 0).hostRun 1 else s.frameStart

theorem keep_budg (a b : State) : (a.keep b).budg = b.budg := rfl

theorem exec_frameBoundary_eq {s a : State} {t : Nat} (ha : a = s.advance t) (hc : State.tbd 3 a = true) :
    exec (.frameBoundary t) s = .next (a.keep a.budgetFrameNow) := by
  subst ha
  rw [exec_frameBoundary, execFrameBoundary, act_on hc]
  rfl

/-- At the first boundary of the run, the timebase is on and the frame is new. -/
theorem waitingRead_due :
    State.core 3 (waitingRead.advance 8000) = true ∧ (waitingRead.advance 8000).tbOn = true ∧
    State.tbd 3 (waitingRead.advance 8000) = true ∧
    (waitingRead.advance 8000).tb / 8000 ≠ (waitingRead.advance 8000).pwr.frame := by decide +kernel

/-- The word is granted at the boundary itself, and is the first use of the new frame. -/
theorem waitingRead_use : (waitingRead.advance 8000).budgetFrameNow.budg.use = [(0, 1)] := by decide +kernel

/-- Refutes O8: its clause on FRAME_BOUNDARY does not say that no host frame waits for the new budget frame. One that waits is granted
its next words at the boundary (R54), so the use of the new frame does not stay empty. -/
theorem not_budgetFrame : ¬ Obligations.BudgetFrame := by
  intro h
  obtain ⟨hcore, hon, hok, hnew⟩ := waitingRead_due
  obtain ⟨b, hb, -, huse, -⟩ := (h waitingRead (waitingRead.advance 8000) 8000 rfl hcore).1 hon hnew
  have hkept : b.budg = (waitingRead.advance 8000).budgetFrameNow.budg := by
    rw [Host.Outcome.next.inj (hb.symm.trans (exec_frameBoundary_eq rfl hok)), keep_budg]
  rw [hkept, waitingRead_use] at huse
  exact absurd huse (by decide)

end Sys2Proof.Machine
end


section
/-! Proof about the instructions that send commands to channels: what a row does once its instruction is fetched, and what its cycles
change. -/

namespace Sys2Proof.Machine

open Reg

section

variable {s a : State} {g n m w ch : Nat} {op : CqOp}

/-! ### An instruction's cycles (R241) -/

theorem modEng_eng (s : State) (g : Nat) (f : GelS → GelS) : (s.modEng g f).eng g = f (s.eng g) := setEng_eng s g _

/-- The thread's cycles counted. -/
def GelS.after (x : GelS) (n m : Nat) : GelS := { x with cyc := x.cyc + n, cycNs := x.cycNs + m }

/-- Cycles of a thread that is not halted change its counts and the budget's use. -/
theorem spend_eq (h : s.rd (GEL_GEL_STAT_STATE g) ≠ 3) (n m : Nat) :
    ∃ b : Budg, s.spend g n m = { s.setEng g ((s.eng g).after n m) with budg := b } := by
  unfold State.spend
  rw [if_neg h]
  dsimp only
  split
  · exact ⟨_, rfl⟩
  · exact ⟨_, rfl⟩

theorem spend_eng (h : s.rd (GEL_GEL_STAT_STATE g) ≠ 3) (n m : Nat) : (s.spend g n m).eng g = (s.eng g).after n m := by
  obtain ⟨b, hb⟩ := spend_eq h n m
  rw [hb]
  exact setEng_eng s g _

theorem spend_regs (n m : Nat) : (s.spend g n m).regs = s.regs := by
  by_cases h : s.rd (GEL_GEL_STAT_STATE g) = 3
  · rw [State.spend, if_pos h]
  · obtain ⟨b, hb⟩ := spend_eq h n m
    rw [hb]; rfl

theorem gelNext_pc (s : State) (g n : Nat) : (s.gelNext g n).pc g = (s.pc g + 1) % 2 ^ 13 := rd_wr_self _ _ _

theorem gelNext_eng (h : s.rd (GEL_GEL_STAT_STATE g) ≠ 3) (n : Nat) : (s.gelNext g n).eng g = (s.eng g).after n n :=
  spend_eng h n n

theorem gelNext_rd {f : Field} (h : f.key ≠ (GEL_GEL_STAT_PC g).key) : (s.gelNext g n).rd f = s.rd f :=
  (rd_wr_ne _ _ _ _ h).trans (rd_congr (spend_regs n n) f)

theorem gelNext_evt (h : s.rd (GEL_GEL_STAT_STATE g) ≠ 3) (n : Nat) : (s.gelNext g n).evt = s.evt := by
  obtain ⟨b, hb⟩ := spend_eq h n n
  rw [State.gelNext, hb]; rfl

theorem gelNext_chans (h : s.rd (GEL_GEL_STAT_STATE g) ≠ 3) (n : Nat) : (s.gelNext g n).chans = s.chans := by
  obtain ⟨b, hb⟩ := spend_eq h n n
  rw [State.gelNext, hb]; rfl

/-! ### A fetched instruction (R241, R249, R250) -/

/-- The next instruction of engine `g` is fetched without fault and within the limits. -/
structure Fetched (a : State) (g : Nat) : Prop where
  runs : a.rd (GEL_GEL_STAT_STATE g) = 2
  ready : a.gelReady g = true
  noBkpt : a.atBkpt g = false
  known : a.badFetch g = none
  sound : a.fetchBad g = none
  within : a.overLimit g (opcCycles (iOpc (a.gelWord g)) + a.stalledFor g) (opcCycles (iOpc (a.gelWord g))) = none

theorem Fetched.not_halted (h : Fetched a g) : a.rd (GEL_GEL_STAT_STATE g) ≠ 3 := by rw [h.runs]; decide

/-- The state in which a fetched instruction acts: past a breakpoint it stood at. -/
def State.pastBkpt (s : State) (g : Nat) : State := s.modEng g fun z => { z with skipBk := false }

theorem pastBkpt_eng (s : State) (g : Nat) : (s.pastBkpt g).eng g = { s.eng g with skipBk := false } := modEng_eng s g _

theorem fetchFix_sound (h : s.fetchBad g = none) : s.fetchFix g = s := by
  unfold State.fetchFix
  rw [h, if_neg (by simp)]

/-- A row past its fetch: the fault of a word that is no instruction, or of a limit, or its effect `f`. -/
def State.gelAct (s : State) (g w : Nat) (f : State → Nat → State) : State :=
  match s.badFetch g with
  | some c => s.threadFault g c false
  | none =>
    match s.overLimit g (opcCycles (iOpc w) + s.stalledFor g) (opcCycles (iOpc w)) with
    | some c => s.threadFault g c false
    | none => f (s.modEng g fun z => { z with skipBk := false }) w

theorem gelRun_eq (s : State) (g : Nat) (pick : Nat → Bool) (f : State → Nat → State) :
    s.gelRun g pick f =
      if !(s.rd (GEL_GEL_STAT_STATE g) == 2 && s.gelReady g && pick (s.gelWord g)) || s.atBkpt g then s
      else if s.fetchBad g = some true then s.gelStoreError g
      else (s.fetchFix g).gelAct g (s.gelWord g) f := rfl

theorem gelAct_within (hk : s.badFetch g = none)
    (hw : s.overLimit g (opcCycles (iOpc w) + s.stalledFor g) (opcCycles (iOpc w)) = none) (f : State → Nat → State) :
    s.gelAct g w f = f (s.pastBkpt g) w := by
  simp only [State.gelAct, hk, hw, State.pastBkpt]

/-- A row whose instruction is fetched has its effect. -/
theorem Fetched.gelRun (h : Fetched a g) {pick : Nat → Bool} (hp : pick (a.gelWord g) = true) (f : State → Nat → State) :
    a.gelRun g pick f = f (a.pastBkpt g) (a.gelWord g) := by
  have hpick : (!(a.rd (GEL_GEL_STAT_STATE g) == 2 && a.gelReady g && pick (a.gelWord g)) || a.atBkpt g) = false := by
    rw [h.runs, h.ready, hp, h.noBkpt]; rfl
  rw [gelRun_eq, hpick, if_neg Bool.false_ne_true, if_neg (by rw [h.sound]; exact nofun), fetchFix_sound h.sound,
    gelAct_within h.known h.within]

theorem Fetched.gelRow (h : Fetched a g) (hop : iOpc (a.gelWord g) = n) (f : State → Nat → State) :
    a.gelRow g n f = f (a.pastBkpt g) (a.gelWord g) :=
  h.gelRun (pick := fun w => iOpc w == n) (by simp [hop]) f

/-! ### A command enters the queue (R32) -/

/-- With room in the queue, the command waits there with its stamp, and the thread goes on. -/
theorem gelCmdTo_room (hrun : s.rd (GEL_GEL_STAT_STATE g) ≠ 3) (hroom : (s.eng g).cq.length < 16) (hfree : (s.eng g).stall = none) :
    ((s.gelCmdTo g ch op).eng g).cq = (s.eng g).cq ++ [{ ch := ch, op := op, stamp := s.tb }] ∧
    (s.gelCmdTo g ch op).pc g = (s.pc g + 1) % 2 ^ 13 ∧ ((s.gelCmdTo g ch op).eng g).cyc = (s.eng g).cyc + 1 := by
  have hst : (GEL_GEL_STAT_STATE g).key ≠ (GEL_CQ_STAT_STALL g).key := by simp only [Field.key, GEL_GEL_STAT_STATE, GEL_CQ_STAT_STALL]; omega
  have hpc : (GEL_GEL_STAT_PC g).key ≠ (GEL_CQ_STAT_STALL g).key := by simp only [Field.key, GEL_GEL_STAT_PC, GEL_CQ_STAT_STALL]; omega
  have hbump {f : Field} (hf : f.key ≠ (GEL_CQ_STAT_STALL g).key) (x : GelS) :
      (((s.bump (GEL_CQ_STAT_STALL g) 0).setEng g x).spend g 0 0).rd f = s.rd f :=
    (rd_congr (spend_regs 0 0) f).trans (rd_wr_ne _ _ _ _ hf)
  unfold State.gelCmdTo
  simp only [hfree]
  rw [if_neg (by omega), gelNext_pc, gelNext_eng (by rw [hbump hst]; exact hrun), spend_eng (by rw [setEng_rd, State.bump, rd_wr_ne _ _ _ _ hst]; exact hrun),
    setEng_eng, State.pc, hbump hpc]
  exact ⟨rfl, rfl, rfl⟩

/-- With the queue full, the instruction stalls from now on. -/
theorem gelCmdTo_full (hfull : 16 ≤ (s.eng g).cq.length) (hfree : (s.eng g).stall = none) :
    s.gelCmdTo g ch op = s.setEng g { s.eng g with stall := some s.tb } := by
  unfold State.gelCmdTo
  simp only [hfree]
  rw [if_pos hfull]
  rfl

end

/-- What a row that sends a command leaves, of the state in which it was fetched. -/
theorem Fetched.sends {a b : State} {g ch : Nat} {op : CqOp} (h : Fetched a g) (hroom : (a.eng g).cq.length < 16)
    (hfree : (a.eng g).stall = none) (hb : b = a.keep ((a.pastBkpt g).gelCmdTo g ch op)) :
    (b.eng g).cq = (a.eng g).cq ++ [{ ch := ch, op := op, stamp := a.tb }] ∧ b.pc g = (a.pc g + 1) % 2 ^ 13 ∧
    (b.eng g).cyc = (a.eng g).cyc + 1 := by
  have hs := gelCmdTo_room (s := a.pastBkpt g) (g := g) (ch := ch) (op := op) h.not_halted
    (by rw [pastBkpt_eng]; exact hroom) (by rw [pastBkpt_eng]; exact hfree)
  rw [pastBkpt_eng] at hs
  rw [hb]
  exact hs

/-- With the queue full, a row that sends a command stalls before it. -/
theorem gelCmdTo_stalls {a : State} {g ch : Nat} {op : CqOp} (hfull : 16 ≤ (a.eng g).cq.length) (hfree : (a.eng g).stall = none) :
    ((a.keep ((a.pastBkpt g).gelCmdTo g ch op)).eng g).cq = (a.eng g).cq ∧
    ((a.keep ((a.pastBkpt g).gelCmdTo g ch op)).eng g).stall = some a.tb ∧
    (a.keep ((a.pastBkpt g).gelCmdTo g ch op)).pc g = a.pc g ∧
    ((a.keep ((a.pastBkpt g).gelCmdTo g ch op)).eng g).cyc = (a.eng g).cyc := by
  have heng : (a.keep ((a.pastBkpt g).gelCmdTo g ch op)).eng g = { (a.pastBkpt g).eng g with stall := some a.tb } := by
    rw [gelCmdTo_full (by rw [pastBkpt_eng]; exact hfull) (by rw [pastBkpt_eng]; exact hfree)]
    exact setEng_eng _ _ _
  have hpc : (a.keep ((a.pastBkpt g).gelCmdTo g ch op)).pc g = a.pc g := by
    rw [gelCmdTo_full (by rw [pastBkpt_eng]; exact hfull) (by rw [pastBkpt_eng]; exact hfree)]
    rfl
  rw [heng, pastBkpt_eng]
  exact ⟨rfl, rfl, hpc, rfl⟩

/-! ### ADJ (R247) -/

theorem gelAdj_moved {s r : State} {g w p : Nat} (hp : s.thrPhys g = some p)
    (hr : s.evtAdj p (toS 32 ((s.eng g).reg (iA w))) = some r) :
    s.gelAdj g w = (r.modEng g fun z => z.setFlag 4 false).gelNext g 2 := by
  simp only [State.gelAdj, hp, hr]
  rfl

theorem gelAdj_fixed {s : State} {g w p : Nat} (hp : s.thrPhys g = some p)
    (hr : s.evtAdj p (toS 32 ((s.eng g).reg (iA w))) = none) :
    s.gelAdj g w = (s.modEng g fun z => z.setFlag 4 true).gelNext g 2 := by
  simp only [State.gelAdj, hp, hr]
  rfl

/-- A fixed angle stays: ADJ sets E and changes nothing of the pipeline. -/
theorem gelAdj_refused {a : State} {g w p : Nat} (hrun : a.rd (GEL_GEL_STAT_STATE g) ≠ 3) (hp : (a.pastBkpt g).thrPhys g = some p)
    (hr : (a.pastBkpt g).evtAdj p (toS 32 (((a.pastBkpt g).eng g).reg (iA w))) = none) :
    ((a.keep ((a.pastBkpt g).gelAdj g w)).eng g).flag 4 = true ∧ (a.keep ((a.pastBkpt g).gelAdj g w)).evt = a.evt ∧
    (a.keep ((a.pastBkpt g).gelAdj g w)).chans = a.chans ∧ (a.keep ((a.pastBkpt g).gelAdj g w)).pc g = (a.pc g + 1) % 2 ^ 13 ∧
    ((a.keep ((a.pastBkpt g).gelAdj g w)).eng g).cyc = (a.eng g).cyc + 2 := by
  have hflag : ((a.pastBkpt g).modEng g fun z => z.setFlag 4 true).rd (GEL_GEL_STAT_STATE g) ≠ 3 := hrun
  have heng : (a.keep ((a.pastBkpt g).gelAdj g w)).eng g = (({ a.eng g with skipBk := false } : GelS).setFlag 4 true).after 2 2 := by
    rw [gelAdj_fixed hp hr]
    exact (gelNext_eng hflag 2).trans (by rw [modEng_eng, pastBkpt_eng])
  rw [heng, gelAdj_fixed hp hr]
  exact ⟨bit_putBit _ 4 true, gelNext_evt hflag 2, gelNext_chans hflag 2, gelNext_pc _ g 2, rfl⟩

/-- A row of CHC that its operations name sends the command whole. -/
theorem Fetched.sendsChc {a : State} {g op : Nat} (h : Fetched a g) (hop : iOpc (a.gelWord g) = 0x1E)
    (hbit : (bit (a.gelWord g) op || (op == 0 && bits (a.gelWord g) 0 8 == 0)) = true) (hroom : (a.eng g).cq.length < 16)
    (hfree : (a.eng g).stall = none) :
    ((a.keep (a.gelChcRow g op)).eng g).cq = (a.eng g).cq ++
      [{ ch := a.rd (GEL_GEL_STAT_CH g), op := .chc (bits (a.gelWord g) 0 8) (bits (a.gelWord g) 8 2), stamp := a.tb }] ∧
    (a.keep (a.gelChcRow g op)).pc g = (a.pc g + 1) % 2 ^ 13 ∧ ((a.keep (a.gelChcRow g op)).eng g).cyc = (a.eng g).cyc + 1 := by
  refine h.sends hroom hfree ?_
  rw [State.gelChcRow, h.gelRun (by rw [hop, hbit]; rfl)]
  rfl

/-- Settles O24: each command's row sends its command from the fetched state; ADJ is said by `evtAdj`. -/
theorem engineChannelInstructions : Obligations.EngineChannelInstructions := by
  intro s a t g w x ha hok hrun hready hbk hbad hsound hw hx hlim
  subst hw hx
  have h : Fetched a g := ⟨hrun, hready, hbk, hbad, hsound, hlim⟩
  have hreg : ((a.pastBkpt g).eng g).reg = (a.eng g).reg := by rw [pastBkpt_eng]; rfl
  have hact (f : State → State) : s.act t (gelOk g) f = .next (a.keep (f a)) := by subst ha; exact act_on hok
  refine ⟨fun hop hroom hfree => ?smt, fun hop hroom hfree => ?sma, fun hop hroom hfree => ?smc, fun hop hroom hfree => ?pin,
    fun hop hroom hfree => ?lnk, fun hop hbit hroom hfree => ?rel, fun hop hbit hroom hfree => ?disarmTime,
    fun hop hbit hroom hfree => ?disarmAngle, fun hop hbit hroom hfree => ?armSrq, fun hop hfull hfree => ?full,
    fun u r p hu hop hp hr => ?adjusted, fun u p hu hop hp hr => ?fixed⟩
  case smt =>
    refine ⟨_, (exec_gelSmt t g s).trans (hact _), h.sends hroom hfree ?_⟩
    rw [h.gelRow hop, hreg]
    rfl
  case sma =>
    refine ⟨_, (exec_gelSma t g s).trans (hact _), h.sends hroom hfree ?_⟩
    rw [h.gelRow hop, hreg]
    rfl
  case smc =>
    refine ⟨_, (exec_gelSmc t g s).trans (hact _), h.sends hroom hfree ?_⟩
    rw [h.gelRow hop, hreg]
    rfl
  case lnk =>
    refine ⟨_, (exec_gelLnk t g s).trans (hact _), h.sends hroom hfree ?_⟩
    rw [h.gelRow hop, State.gelLnk, hreg]
  case pin =>
    refine ⟨_, (exec_gelPin t g s).trans (hact _), h.sends hroom hfree ?_⟩
    rw [h.gelRow hop]
    rfl
  case rel =>
    refine ⟨_, (exec_gelChcRel t g s).trans (hact _), h.sendsChc hop ?_ hroom hfree⟩
    simpa using hbit
  case disarmTime => exact ⟨_, (exec_gelChcDisarmTime t g s).trans (hact _), h.sendsChc hop (by simp [hbit]) hroom hfree⟩
  case disarmAngle => exact ⟨_, (exec_gelChcDisarmAngle t g s).trans (hact _), h.sendsChc hop (by simp [hbit]) hroom hfree⟩
  case armSrq => exact ⟨_, (exec_gelChcArmSrqAction t g s).trans (hact _), h.sendsChc hop (by simp [hbit]) hroom hfree⟩
  case full =>
    refine ⟨_, (exec_gelPin t g s).trans (hact _), ?_⟩
    rw [h.gelRow hop]
    exact gelCmdTo_stalls hfull hfree
  case adjusted =>
    subst hu
    rw [exec_gelAdj, execGelAdj, hact, h.gelRow hop]
    exact congrArg (fun x => Host.Outcome.next (a.keep x)) (gelAdj_moved hp (by rw [pastBkpt_eng]; exact hr))
  case fixed =>
    subst hu
    refine ⟨_, (exec_gelAdj t g s).trans (hact _), ?_⟩
    rw [h.gelRow hop]
    exact gelAdj_refused h.not_halted hp (by rw [pastBkpt_eng]; exact hr)

end Sys2Proof.Machine
end


section
/-! Proof about the clock sources: what a switch of the timebase leaves, and what keeps the registers of CLK, TB and FLT_STAT. -/

namespace Sys2Proof.Machine

open Reg

/-! ### The registers of CLK, TB and FLT_STAT -/

/-- Keys of the fields of CLK and TB past their headers, and of FLT_STAT. -/
def clkKept (k : Nat) : Prop :=
  0x40 ≤ k / 32 % 4096 ∧ (k / 131072 = 1 ∨ k / 131072 = 0xB0 ∨ k / 131072 = 4 ∧ k / 32 % 4096 = 0x44)

theorem clkKept_clk {f : Field} (h : f.page = 1 ∧ 0x40 ≤ f.off ∧ f.off < 4096 ∧ f.lo < 32) : clkKept f.key := by
  unfold clkKept
  rw [key_page h.2.2.1 h.2.2.2, key_off h.2.2.1 h.2.2.2]
  omega

theorem clkKept_tb {f : Field} (h : f.page = 0xB0 ∧ 0x40 ≤ f.off ∧ f.off < 4096 ∧ f.lo < 32) : clkKept f.key := by
  unfold clkKept
  rw [key_page h.2.2.1 h.2.2.2, key_off h.2.2.1 h.2.2.2]
  omega

/-- A field outside CLK, TB and FLT. -/
theorem not_clkKept_page {f : Field} (ho : f.off < 4096) (hl : f.lo < 32) (hp : f.page ≠ 1 ∧ f.page ≠ 0xB0 ∧ f.page ≠ 4) :
    ¬ clkKept f.key := by
  unfold clkKept
  rw [key_page ho hl]
  omega

/-- A field of a page's header. -/
theorem not_clkKept_header {f : Field} (ho : f.off < 0x40) (hl : f.lo < 32) : ¬ clkKept f.key := by
  unfold clkKept
  rw [key_off (by omega) hl]
  omega

theorem not_clkKept_iflag (p : Nat) : ¬ clkKept (PG_IFLAG_FLAG p).key :=
  not_clkKept_header (by simp [PG_IFLAG_FLAG]) (by simp [PG_IFLAG_FLAG])

theorem clkKept_noFault : NoFault clkKept := by
  refine ⟨fun k hk => ?_, by unfold clkKept; decide⟩
  unfold clkKept at hk
  omega

theorem clkKept_noPhase : NoPhase clkKept := by
  intro k i hk hi
  refine not_clkKept_page ?_ ?_ ?_ <;> simp only [BANK_SLOT_STAT_PHASE] <;> omega

/-! ### OUT trips (R267) -/

/-- The keys in `P` hold no field of OUT. -/
def NoOut (P : Nat → Prop) : Prop := ∀ k, P k → k / 131072 ≠ 0x38

theorem clkKept_noOut : NoOut clkKept := by
  intro k hk
  unfold clkKept at hk
  omega

theorem NoOut.not {P : Nat → Prop} (h : NoOut P) {f : Field} (hf : f.key / 131072 = 0x38) : ¬ P f.key := fun hk => h _ hk hf

section

variable {P : Nat → Prop} {s : State}

theorem disarmActs_still (hO : NoOut P) (hp : NoPhase P) (s0 : State) : Still P s (s.disarmActs s0) :=
  (wr_still _ (hO.not (by decide))).after <| (quenchAll_still hp).after <| softAll_still (hO.not (by decide)) (hO.not (by decide)) _ _

theorem outTripFrom_still (hO : NoOut P) (hp : NoPhase P) (s0 : State) (cause : Nat) : Still P s (s.outTripFrom s0 cause) := by
  refine .ite ?_ (wr_still _ (hO.not (by decide)))
  exact (disarmActs_still hO hp _).after <| (wr_still _ (hO.not (by decide))).after <| (wr_still _ (hO.not (by decide))).after <|
    (iflag_still _ (hO.not (by decide))).after <| (wr_still _ (hO.not (by decide))).after <| wr_still _ (hO.not (by decide))

end

/-! ### Requests to CLK -/

theorem keep_pwr (a b : State) : (a.keep b).pwr = b.pwr := rfl

/-- A write outside the tile pages is counted and does nothing more. -/
theorem charged_eq_counted {a : State} {m p o : Nat} (hp : p < 0x20 ∨ 0x28 < p) (ho : o < 4096) : a.charged m p o = a.counted m p := by
  unfold State.charged State.touch
  split
  · next q r hr =>
    obtain ⟨haddr, -, hr', -⟩ := regionOf_eq_page hr
    unfold pageAddr at haddr
    rw [if_neg (by omega)]
  · rfl

/-! ### The timebase switches (R38) -/

theorem satN_le (w n : Nat) : satN w n < 2 ^ w := by
  have := Nat.two_pow_pos w
  unfold satN
  omega

/-- A counter reads one more, saturated. -/
theorem inc_rd (s : State) (f : Field) : (s.inc f).rd f = satN f.w (s.rd f + 1) :=
  (rd_wr_self _ _ _).trans (Nat.mod_eq_of_lt (satN_le _ _))

theorem inc_rd_ne {s : State} {f g : Field} (h : g.key ≠ f.key) : (s.inc f).rd g = s.rd g := rd_wr_ne _ _ _ _ h

/-- The registers that a switch writes, and the others. -/
theorem tbSwitch_rd (s : State) (src : Nat) :
    (s.tbSwitch src).rd CLK_CLK_STAT_TB_SRC = src % 4 ∧ (s.tbSwitch src).rd CLK_CLK_STAT_DL_CAL = 0 ∧
    (s.tbSwitch src).rd CLK_TB_SWITCH_COUNT = satN 16 (s.rd CLK_TB_SWITCH_COUNT + 1) ∧
    (s.tbSwitch src).rd CLK_TB_SWITCH_SKIP = s.free.1 % 3 ∧ (s.tbSwitch src).rd CLK_CLK_STAT_TREF_OK = s.rd CLK_CLK_STAT_TREF_OK := by
  have hrd (f : Field) : (s.tbSwitch src).rd f =
      ((((s.wr CLK_CLK_STAT_TB_SRC src).wr CLK_CLK_STAT_DL_CAL 0).wr CLK_TB_SWITCH_SKIP (s.free.1 % 3)).inc CLK_TB_SWITCH_COUNT).rd f := rfl
  have hskip : s.free.1 % 3 % 2 ^ 2 = s.free.1 % 3 := Nat.mod_eq_of_lt (by omega)
  refine ⟨?_, ?_, ?_, ?_, ?_⟩
  all_goals rw [hrd]
  · rw [inc_rd_ne (by decide), rd_wr_ne _ _ _ _ (by decide), rd_wr_ne _ _ _ _ (by decide), rd_wr_self]; rfl
  · rw [inc_rd_ne (by decide), rd_wr_ne _ _ _ _ (by decide), rd_wr_self]; rfl
  · rw [inc_rd, rd_wr_ne _ _ _ _ (by decide), rd_wr_ne _ _ _ _ (by decide), rd_wr_ne _ _ _ _ (by decide)]; rfl
  · rw [inc_rd_ne (by decide), rd_wr_self]; exact hskip
  · rw [inc_rd_ne (by decide), rd_wr_ne _ _ _ _ (by decide), rd_wr_ne _ _ _ _ (by decide), rd_wr_ne _ _ _ _ (by decide)]

/-- A switch skips as many ticks as SKIP says, two at most (R38). -/
theorem tbSwitch_tb {s : State} (src : Nat) (h : s.tb + 2 < 2 ^ 64) :
    (s.tbSwitch src).rd CLK_TB_SWITCH_SKIP ≤ 2 ∧ (s.tbSwitch src).tb = s.tb + (s.tbSwitch src).rd CLK_TB_SWITCH_SKIP := by
  obtain ⟨-, -, -, hskip, -⟩ := tbSwitch_rd s src
  have htb : (s.tbSwitch src).tb = (s.tb + s.free.1 % 3) % 2 ^ 64 := rfl
  rw [htb, hskip]
  omega

/-- TREF is declared failed before the switch. -/
def State.trefLost (s : State) (crit : Nat) : State :=
  let s := s.wr CLK_CLK_STAT_TREF_OK 0
  (if crit = 4 then s.wr CLK_CLK_STAT_PLL_TB_LOCK 0 else s).modPwr fun p => { p with restore := none }

theorem trefFail_eq {s : State} {crit : Nat} (hc : crit ≠ 0) (ht : s.on CLK_CLK_STAT_TREF_OK = true)
    (hl : s.on TB_TB_STAT_LFMODE = false) (hsrc : (s.trefLost crit).rd CLK_CLK_STAT_TB_SRC = 0) :
    s.trefFail crit = (((s.trefLost crit).tbSwitch 1).setAmber 1 true).raise (srcId 3 0x20 2) 0x5B crit := by
  unfold State.trefFail
  rw [if_neg (by simp [hc, ht, hl])]
  dsimp only
  exact congrArg (fun s : State => (s.setAmber 1 true).raise (srcId 3 0x20 2) 0x5B crit) (if_pos hsrc)

theorem trefLost_rd {s : State} (crit : Nat) {f : Field} (h1 : f.key ≠ CLK_CLK_STAT_TREF_OK.key) (h2 : f.key ≠ CLK_CLK_STAT_PLL_TB_LOCK.key) :
    (s.trefLost crit).rd f = s.rd f := by
  unfold State.trefLost
  dsimp only
  rw [modPwr_rd]
  split
  · rw [rd_wr_ne _ _ _ _ h2, rd_wr_ne _ _ _ _ h1]
  · rw [rd_wr_ne _ _ _ _ h1]

theorem trefLost_tref (s : State) (crit : Nat) : (s.trefLost crit).rd CLK_CLK_STAT_TREF_OK = 0 := by
  unfold State.trefLost
  dsimp only
  rw [modPwr_rd]
  split
  · rw [rd_wr_ne _ _ _ _ (by decide), rd_wr_self]; rfl
  · rw [rd_wr_self]; rfl

theorem trefLost_tb (s : State) (crit : Nat) : (s.trefLost crit).tb = s.tb := by
  unfold State.trefLost
  dsimp only
  split <;> rfl

/-- What TREF_FAIL leaves with the timebase on PLL_TB (R37, R38). -/
theorem trefFail_switches {s : State} {crit : Nat} (hc : crit ≠ 0) (ht : s.on CLK_CLK_STAT_TREF_OK = true)
    (hl : s.on TB_TB_STAT_LFMODE = false) (hsrc : s.rd CLK_CLK_STAT_TB_SRC = 0) (htb : s.tb + 2 < 2 ^ 64) :
    (s.trefFail crit).rd CLK_CLK_STAT_TREF_OK = 0 ∧ (s.trefFail crit).rd CLK_CLK_STAT_TB_SRC = 1 ∧
    (s.trefFail crit).rd CLK_CLK_STAT_DL_CAL = 0 ∧ (s.trefFail crit).rd CLK_TB_SWITCH_SKIP ≤ 2 ∧
    (s.trefFail crit).tb = s.tb + (s.trefFail crit).rd CLK_TB_SWITCH_SKIP ∧
    (s.trefFail crit).rd CLK_TB_SWITCH_COUNT = satN 16 (s.rd CLK_TB_SWITCH_COUNT + 1) := by
  rw [trefFail_eq hc ht hl ((trefLost_rd crit (by decide) (by decide)).trans hsrc)]
  have hraise := raise_still (s := ((s.trefLost crit).tbSwitch 1).setAmber 1 true) clkKept_noFault (srcId 3 0x20 2) 0x5B crit
  have hrd {f : Field} (hf : f.page = 1 ∧ 0x40 ≤ f.off ∧ f.off < 4096 ∧ f.lo < 32) := hraise.regs f (clkKept_clk hf)
  obtain ⟨h1, h2, h3, -, h5⟩ := tbSwitch_rd (s.trefLost crit) 1
  obtain ⟨hs, htk⟩ := tbSwitch_tb (s := s.trefLost crit) 1 (by rw [trefLost_tb]; exact htb)
  rw [hrd (by decide), hrd (by decide), hrd (by decide), hrd (by decide), hrd (by decide), hraise.tb]
  refine ⟨h5.trans (trefLost_tref s crit), h1, h2, hs, htk.trans (by rw [trefLost_tb]; rfl), h3.trans ?_⟩
  rw [trefLost_rd crit (by decide) (by decide)]

theorem tbRestore_eq {s : State} (hsrc : s.rd CLK_CLK_STAT_TB_SRC = 1) (ht : s.on CLK_CLK_STAT_TREF_OK = true) :
    s.tbRestore = if s.pwr.trefSince + 4000000 ≤ s.tb then s.modPwr fun p => { p with restore := some (s.tb / 8000) } else s := by
  simp [State.tbRestore, hsrc, ht]

/-- A return to PLL_TB that is due. -/
theorem tbReturn_due {s : State} {n : Nat} (hn : s.pwr.restore = some n) (hlt : n < s.tb / 8000) (hsrc : s.rd CLK_CLK_STAT_TB_SRC = 1) :
    s.tbReturn = ((s.modPwr fun p => { p with restore := none }).tbSwitch 0).setAmber 1 false := by
  simp only [State.tbReturn, hn]
  rw [if_pos ⟨hlt, hsrc⟩]

theorem trefRise_eq {s : State} (hl : s.on TB_TB_STAT_LFMODE = false) (ht : s.on CLK_CLK_STAT_TREF_OK = false) :
    s.trefRise = ((s.modPwr fun p => { p with trefSince := s.tb }).wr CLK_CLK_STAT_TREF_OK 1).wr CLK_CLK_STAT_PLL_TB_LOCK 1 := by
  have hlf : ((s.modPwr fun p => { p with trefSince := s.tb }).wr CLK_CLK_STAT_TREF_OK 1).on TB_TB_STAT_LFMODE = false := by
    rw [State.on, rd_wr_ne _ _ _ _ (by decide)]
    exact hl
  unfold State.trefRise
  dsimp only
  rw [ht, hlf]
  rfl

/-! ### The LF clock and XIN are lost (R41) -/

theorem lfLost_eq {s : State} (h : s.pwr.lfLost = false) :
    s.lfLost = ((s.modPwr fun p => { p with lfLost := true }).wr CLK_CLK_STAT_LF_OK 0).raise (srcId 3 0x20 4) 0x5D 0 := by
  unfold State.lfLost
  rw [h]
  rfl

theorem lfLost_marks {s : State} (h : s.pwr.lfLost = false) : s.lfLost.rd CLK_CLK_STAT_LF_OK = 0 ∧ s.lfLost.pwr.lfLost = true := by
  rw [lfLost_eq h]
  have hraise := raise_still (s := (s.modPwr fun p => { p with lfLost := true }).wr CLK_CLK_STAT_LF_OK 0) clkKept_noFault (srcId 3 0x20 4) 0x5D 0
  rw [hraise.regs _ (clkKept_clk (by decide)), hraise.pwr, rd_wr_self]
  exact ⟨rfl, rfl⟩

theorem clkKept_crimson : clkKept FLT_FLT_STAT_PKG_CRIMSON.key := by unfold clkKept; decide

/-- Package CRIMSON shows in FLT_STAT (R454). -/
theorem packageCrimson_marks (s : State) (r : Rec) : (s.packageCrimson r).pkgCrimson = true := by
  by_cases h : s.pkgCrimson = true
  · have heq : s.packageCrimson r = { s with flt := { s.flt with lfRec := some r } } := if_pos h
    rw [heq]
    exact h
  · have heq : s.packageCrimson r =
        (({ s with flt := { s.flt with lfRec := some r } } : State).wr FLT_FLT_STAT_PKG_CRIMSON 1).outTripFrom
          { s with flt := { s.flt with lfRec := some r } } 1 := if_neg h
    rw [heq, State.pkgCrimson, State.on, (outTripFrom_still clkKept_noOut clkKept_noPhase _ _).regs _ clkKept_crimson, rd_wr_self]
    rfl

/-- The record of XIN's loss (R41). -/
def xinRec (s : State) : Rec :=
  { msg := { src := srcId 3 0x20 3, qseg := qsegOf (srcId 3 0x20 3), kind := 0x5C, sev := 3, cause := srcId 3 0x20 3 }, react := 4, time := s.tb }

theorem xinLost_eq {s : State} (hx : s.pwr.xinLost = false) (hd : s.domOn 3 = true) :
    s.xinLost = ((((s.packageCrimson (xinRec s)).quenchAll).modPwr fun p => { p with xinLost := true }).wr CLK_CLK_STAT_XIN_OK 0).wr
      CLK_CLK_STAT_PLL_SYS_LOCK 0 := by
  unfold State.xinLost
  rw [hx, hd]
  rfl

theorem xinLost_marks {s : State} (hx : s.pwr.xinLost = false) (hd : s.domOn 3 = true) :
    s.xinLost.pwr.xinLost = true ∧ s.xinLost.rd CLK_CLK_STAT_XIN_OK = 0 ∧ s.xinLost.rd CLK_CLK_STAT_PLL_SYS_LOCK = 0 ∧
    s.xinLost.pkgCrimson = true := by
  rw [xinLost_eq hx hd]
  refine ⟨rfl, ?_, ?_, ?_⟩
  · rw [rd_wr_ne _ _ _ _ (by decide), rd_wr_self]; rfl
  · rw [rd_wr_self]; rfl
  · rw [State.pkgCrimson, State.on, rd_wr_ne _ _ _ _ (by decide), rd_wr_ne _ _ _ _ (by decide), modPwr_rd,
      (quenchAll_still clkKept_noPhase).regs _ clkKept_crimson]
    exact packageCrimson_marks s _

theorem coreOn_xin {s : State} (h : s.coreOn = true) : s.pwr.xinLost = false := by
  simp only [State.coreOn, Bool.and_eq_true, Bool.not_eq_true'] at h
  exact h.1.2

theorem coreOn_of_xinLost {s : State} (h : s.pwr.xinLost = true) : s.coreOn = false := by
  simp [State.coreOn, h]

theorem actTb_on {s : State} {t : Nat} {ok : State → Bool} {f : State → State} (h : ok (s.advance t) = true) :
    s.actTb t ok f = .next { f (s.advance t) with pending := (s.advance t).pending } := by
  rw [State.actTb, h]
  rfl

/-- Settles O6: each command is the state it builds; the message it may raise leaves the clock registers. -/
theorem timebaseClock : Obligations.TimebaseClock := by
  intro s a t ha
  subst ha
  refine ⟨fun crit hcore hlf hc ht hsrc htb => ?fail, fun hok => ?calibrated, fun m hcore hw hsrc ht => ?restore,
    fun n hcore hon hsrc hn hlt htb => ?switch, fun hcore hlf ht => ?rise, fun hheld => ?lfOk, fun hheld hlost => ?lfLoss,
    fun hheld hlost => ?lfLossMarks, fun hcore hd => ?xinLoss⟩
  case fail =>
    obtain ⟨h1, h2, h3, h4, h5, h6⟩ := trefFail_switches hc ht hlf hsrc htb
    exact ⟨_, (exec_trefFail t crit s).trans (actTb_on hcore), h1, h2, h3, h4, h5, h6⟩
  case calibrated => exact (exec_dlCalDone t s).trans (act_on hok)
  case restore =>
    rw [exec_tbRestore, execTbRestore, act_on hcore, State.guardedMask, guardedTo_may (by decide) (by decide) hw,
      charged_eq_counted (by decide) (by decide), tbRestore_eq (s := (s.advance t).counted m 1) hsrc ht]
    rfl
  case switch =>
    refine ⟨_, (exec_tbRestoreSwitch t s).trans (actTb_on (by rw [hcore, hon]; rfl)), ?_⟩
    rw [tbReturn_due hn hlt hsrc]
    obtain ⟨h1, h2, -, -, -⟩ := tbSwitch_rd ((s.advance t).modPwr fun p => { p with restore := none }) 0
    obtain ⟨hs, htk⟩ := tbSwitch_tb (s := (s.advance t).modPwr fun p => { p with restore := none }) 0 htb
    exact ⟨h1, rfl, h2, hs, htk⟩
  case rise =>
    rw [exec_trefOkRise, execTrefOkRise, act_on hcore, trefRise_eq hlf ht]
  case lfOk => exact (exec_lfOkRise t s).trans (act_on (by rw [notHeld, hheld]; rfl))
  case lfLoss => rw [exec_lfLoss, execLfLoss, act_on (by rw [notHeld, hheld]; rfl), lfLost_eq hlost]
  case lfLossMarks => exact ⟨_, (exec_lfLoss t s).trans (act_on (by rw [notHeld, hheld]; rfl)), lfLost_marks hlost⟩
  case xinLoss =>
    obtain ⟨hx, hok, hlock, hcrim⟩ := xinLost_marks (coreOn_xin hcore) hd
    exact ⟨_, (exec_xinLoss t s).trans (act_on hcore), hx, coreOn_of_xinLost hx, hok, hlock, hcrim⟩

end Sys2Proof.Machine
end


section
/-! What the steps of channels, banks and engines keep of the channels' contents. -/

namespace Sys2Proof.Machine

open Reg

section

variable {s a b c : State}

/-! ### Steps that leave the channels -/

/-- The channels' contents stand. -/
structure ChansKept (s s' : State) : Prop where
  eq : s'.chans = s.chans

theorem ChansKept.same (h : b.chans = a.chans) : ChansKept a b := ⟨h⟩

theorem ChansKept.refl (s : State) : ChansKept s s := ⟨rfl⟩

theorem ChansKept.after (k : ChansKept b c) (h : ChansKept a b) : ChansKept a c := ⟨k.eq.trans h.eq⟩

theorem ChansKept.ite {p : Prop} [Decidable p] (h : ChansKept s a) (k : ChansKept s b) : ChansKept s (if p then a else b) := by
  split
  · exact h
  · exact k

theorem ChansKept.foldl {α : Type} {l : List α} {f : State → α → State} (h : ∀ s x, ChansKept s (f s x)) (s : State) :
    ChansKept s (l.foldl f s) :=
  List.foldlRecOn (motive := fun r => ChansKept s r) l f (.refl s) fun r hr x _ => (h r x).after hr

theorem ChansKept.chan (h : ChansKept a b) (q : Nat) : b.chan q = a.chan q := by
  unfold State.chan
  rw [h.eq]

theorem FltFrame.chansKept (h : FltFrame a b) : ChansKept a b := by
  unfold FltFrame at h
  rw [h]
  exact .same rfl

theorem wr_chansKept (f : Field) (v : Nat) : ChansKept s (s.wr f v) := .same rfl

theorem sepia_chansKept (p n : Nat) : ChansKept s (s.sepia p n) := by
  unfold State.sepia
  exact .ite (.refl s) (.same rfl)

theorem pulse_chansKept (n : Nat) : ChansKept s (s.pulse n) := .same rfl

theorem chev_chansKept (n e : Nat) : ChansKept s (s.chev n e) := .foldl (fun _ _ => .ite (pulse_chansKept _) (.refl _)) s

theorem chevOf_chansKept (p e : Nat) : ChansKept s (s.chevOf p e) := by
  unfold State.chevOf
  split
  · exact chev_chansKept _ _
  · exact .refl s

theorem softRise_chansKept (p : Nat) : ChansKept s (s.softRise p) := .same rfl

theorem putLatch_chansKept (n : Nat) (b : Bool) : ChansKept s (s.putLatch n b) := .same rfl

theorem setOcc_chansKept (o : Occ) : ChansKept s (s.setOcc o) := .same rfl

theorem latchRiseOf_chansKept (p : Nat) : ChansKept s (s.latchRiseOf p) := by
  have hrise (n : Nat) : ChansKept s (s.latchRise n) :=
    .foldl (fun _ _ => .ite (putLatch_chansKept _ _) (.refl _)) s
  unfold State.latchRiseOf
  split
  · exact hrise _
  · exact .refl s

theorem softOff_chansKept (s0 : State) (p : Nat) : ChansKept s (s.softOff s0 p) := by
  unfold State.softOff
  split
  · exact .refl s
  · exact .ite (.same rfl) (.same rfl)

theorem follow_chansKept (s0 : State) : ChansKept s (s.follow_ s0) := .ite (.refl s) (.same rfl)

theorem retarget_chansKept (k : Nat) (old : Option (Nat × Nat)) : ChansKept s (s.retarget k old) := by
  unfold State.retarget
  split
  · exact .refl s
  · have hset (s : State) (c : Prop) [Decidable c] (n : Nat) (x : CmpS) : ChansKept s (if c then s.setCmp n x else s) :=
      .ite (.same rfl) (.refl s)
    exact (hset _ _ _ _).after (hset _ _ _ _)

theorem quench_chansKept (k i : Nat) : ChansKept s (s.quench k i) :=
  .ite ((follow_chansKept _).after <| (retarget_chansKept _ _).after <| .same rfl) (.refl s)

theorem quenchChannel_chansKept (n : Nat) : ChansKept s (s.quenchChannel n) :=
  .foldl (fun _ _ => .ite (quench_chansKept _ _) (.refl _)) s

theorem putCount_chansKept (p k n : Nat) : ChansKept s (s.putCount_ p k n) :=
  (wr_chansKept _ _).after (sepia_chansKept p 1)

theorem svc_chansKept (p : Nat) : ChansKept s (s.svc p) := by
  unfold State.svc
  split
  · exact .refl s
  · exact .ite (.ite (.refl s) (.same rfl)) (.same rfl)

theorem chErr_chansKept (p : Nat) (f : Field) : ChansKept s (s.chErr p f) := .same rfl

theorem chEvent_chansKept (p k : Nat) : ChansKept s (s.chEvent p k) := by
  by_cases hd : s.dead p = true
  · rw [State.chEvent, if_pos hd]
    exact .refl s
  by_cases hn : s.evCount p k < 3
  · rw [chEvent_counted (by simpa using hd) hn]
    exact (svc_chansKept p).after <| (chevOf_chansKept p k).after <| putCount_chansKept _ _ _
  · rw [State.chEvent, if_neg hd, if_neg hn]
    exact .ite ((raise_frame _ _ _ _).chansKept.after (chErr_chansKept _ _)) (.ite (wr_chansKept _ _) (.refl s))

theorem trimPut_chansKept (k : Nat) (tm : Bool) (p n v : Nat) : ChansKept s (s.trimPut k tm p n v) :=
  .ite ((wr_chansKept _ _).after <| (wr_chansKept _ _).after <| (sepia_chansKept p 1).after <| .same rfl) (.same rfl)

theorem paramPut_chansKept (p : Nat) (h : HeldW) : ChansKept s (s.paramPut p h) := by
  unfold State.paramPut
  split
  · exact (wr_chansKept _ _).after (sepia_chansKept p 1)
  · exact trimPut_chansKept _ _ _ _ _

/-! ### A channel apart from what the pipeline loads and what is held for its words -/

/-- What a channel holds of its own: all but the pipeline's hold on the match registers, and the held writes (R204, R235). -/
def Chan.own (x : Chan) : Chan :=
  { x with mtT := 0, maA := 0, pipe := none, act := none, mtOff := false, maOff := false, held := [] }

/-- What every channel holds of its own stands. -/
structure OwnKept (s s' : State) : Prop where
  own : ∀ q, (s'.chan q).own = (s.chan q).own

theorem OwnKept.refl (s : State) : OwnKept s s := ⟨fun _ => rfl⟩

theorem OwnKept.after (k : OwnKept b c) (h : OwnKept a b) : OwnKept a c := ⟨fun q => (k.own q).trans (h.own q)⟩

theorem ChansKept.ownKept (h : ChansKept a b) : OwnKept a b := ⟨fun q => congrArg Chan.own (h.chan q)⟩

theorem OwnKept.ite {p : Prop} [Decidable p] (h : OwnKept s a) (k : OwnKept s b) : OwnKept s (if p then a else b) := by
  split
  · exact h
  · exact k

theorem OwnKept.foldl {α : Type} {l : List α} {f : State → α → State} (h : ∀ s x, OwnKept s (f s x)) (s : State) :
    OwnKept s (l.foldl f s) :=
  List.foldlRecOn (motive := fun r => OwnKept s r) l f (.refl s) fun r hr x _ => (h r x).after hr

theorem setChan_chan_ne {p q : Nat} (x : Chan) (h : q ≠ p) : (s.setChan p x).chan q = s.chan q :=
  (tget_tput_ne _ _ _ h).trans ((sepia_chansKept p _).chan q)

theorem setChan_own {p : Nat} {x : Chan} (h : x.own = (s.chan p).own) : OwnKept s (s.setChan p x) := by
  refine ⟨fun q => ?_⟩
  by_cases hq : q = p
  · rw [hq, setChan_chan, h]
  · rw [setChan_chan_ne x hq]

theorem release_own (p : Nat) : OwnKept s (s.release p) := by
  unfold State.release
  refine .ite (.refl s) (setChan_own ?_)
  rfl

theorem unload_own (o : Occ) : OwnKept s (s.unload o) := by
  unfold State.unload
  split
  · exact .ite (release_own _) (.refl s)
  · exact .refl s

theorem entryFlag_chansKept (i b : Nat) : ChansKept s (s.entryFlag i b) := .same rfl

theorem occEnd_chansKept (o : Occ) : ChansKept s (s.occEnd o false) := .same rfl

theorem iflag_chansKept (p i : Nat) : ChansKept s (s.iflag p i) := .same rfl

theorem withdraw_own (o : Occ) : OwnKept s (s.withdraw o) :=
  (iflag_chansKept _ _).ownKept.after <| (wr_chansKept _ _).ownKept.after <| (entryFlag_chansKept _ _).ownKept.after <|
    (occEnd_chansKept o).ownKept.after (unload_own o)

theorem evtLoadN_own (k p : Nat) : OwnKept s (s.evtLoadN k p) := by
  induction k generalizing s with
  | zero => exact .refl s
  | succ k ih =>
    unfold State.evtLoadN
    refine .ite (.refl s) ?_
    split
    · exact .refl s
    split
    · exact .refl s
    refine .ite (ih.after (withdraw_own _)) ?_
    have hload (i v : Nat) : OwnKept s (s.setChan p { s.chan p with pipe := some i, mtOff := false, maOff := false, maA := v }) :=
      setChan_own rfl
    split
    · exact .ite ((setOcc_chansKept _).ownKept.after (hload _ _)) (hload _ _)
    · exact hload _ _

theorem evtLoad_own (p : Nat) : OwnKept s (s.evtLoad p) := evtLoadN_own 5 p

theorem applyHeld_own (p : Nat) : OwnKept s (s.applyHeld p) :=
  OwnKept.after (.foldl (fun _ h => (paramPut_chansKept p h).ownKept) _) (setChan_own (x := { s.chan p with held := [] }) rfl)

/-! ### The levels of a channel -/

theorem chLevels_chan (p : Nat) (env car : Bool) :
    ∃ n, (s.chLevels p env car).chan p = { s.chan p with env := env, car := car, pinAt := n } := by
  unfold State.chLevels
  dsimp only
  split
  · rw [setChan_chan, setChan_chan]
    exact ⟨_, rfl⟩
  · rw [setChan_chan]
    exact ⟨_, rfl⟩

theorem chEdge_chansKept (s0 : State) (p : Nat) (up was soft : Bool) : ChansKept s (s.chEdge s0 p up was soft) := by
  have hoff : ChansKept s ((s.chevOf p 11).softOff s0 p) := (softOff_chansKept _ _).after (chevOf_chansKept _ _)
  have hrise : ChansKept s ((s.chevOf p 10).softRise p) := (softRise_chansKept p).after (chevOf_chansKept p 10)
  exact .ite ((latchRiseOf_chansKept _).after hrise) (.ite (.ite hoff (chevOf_chansKept _ _)) (.refl s))

/-- A change of a channel's levels changes nothing else of the channel but the mark of its pin's change. -/
theorem chSet_chan (p : Nat) (env car soft : Bool) :
    ∃ n, (s.chSet p env car soft).chan p = { s.chan p with env := env, car := car, pinAt := n } := by
  rw [chSet_eq, (follow_chansKept _).chan, (chEdge_chansKept _ _ _ _ _).chan]
  exact chLevels_chan p env car

/-! ### The safe end (R231) -/

/-- The channel's levels are inactive, held so by a safe end. -/
def Chan.Ended (x : Chan) : Prop := x.env = false ∧ x.car = false ∧ x.safe = true

theorem own_env {x y : Chan} (h : y.own = x.own) : y.env = x.env := (congrArg Chan.env h :)
theorem own_car {x y : Chan} (h : y.own = x.own) : y.car = x.car := (congrArg Chan.car h :)
theorem own_safe {x y : Chan} (h : y.own = x.own) : y.safe = x.safe := (congrArg Chan.safe h :)
theorem own_yield {x y : Chan} (h : y.own = x.own) : y.yield = x.yield := (congrArg Chan.yield h :)

theorem Chan.Ended.of_own {x y : Chan} (h : x.Ended) (ho : y.own = x.own) : y.Ended :=
  ⟨(own_env ho).trans h.1, (own_car ho).trans h.2.1, (own_safe ho).trans h.2.2⟩

/-- The levels of a channel that a safe end has just brought down. -/
theorem endLevels (p : Nat) :
    (((s.chSet p false false true).release p).chan p).env = false ∧ (((s.chSet p false false true).release p).chan p).car = false := by
  obtain ⟨n, hn⟩ := chSet_chan (s := s) p false false true
  have hown := (release_own (s := s.chSet p false false true) p).own p
  rw [own_env hown, own_car hown, hn]
  exact ⟨rfl, rfl⟩

/-- The channel as a safe end marks it. -/
def Chan.ending (x : Chan) : Chan :=
  { x with mtArm := false, maArm := false, mtPassed := false, maPassed := false, sactArm := false, safe := true, srqFn := false }

theorem safeEnd_ended (p : Nat) : ((s.safeEnd p).chan p).Ended := by
  have hquench (u : State) : ChansKept u (match u.logOf p with | some n => u.quenchChannel n | none => u) := by
    split
    · exact quenchChannel_chansKept _
    · exact .refl u
  have hlevels := endLevels (s := s) p
  have hend (u : State) (h : (u.chan p).env = false ∧ (u.chan p).car = false) : ((u.setChan p (u.chan p).ending).chan p).Ended := by
    rw [setChan_chan]
    exact ⟨h.1, h.2, rfl⟩
  exact (hend _ hlevels).of_own (((evtLoad_own p).after <| (chEvent_chansKept p 7).ownKept.after (hquench _).ownKept).own p)

end

end Sys2Proof.Machine
end


section
/-! Proof about threads: how one is granted and what its end leaves; and how an engine halts and goes on. -/

namespace Sys2Proof.Machine

open Reg

section

variable {s a b u : State} {g n p : Nat}

/-! ### The end of a thread (R56, R235, R248) -/

theorem tileOf_lt {t : Nat} (h : s.tileOf n = some t) : t < 16 := by
  unfold State.tileOf at h
  split at h
  · cases h
    exact Nat.mod_lt _ (by decide)
  split at h
  · cases h
    omega
  · cases h

/-- Physical channels are those of 16 tiles at most. -/
theorem physOf_lt (h : s.physOf n = some p) : p < 384 ∧ n < 216 := by
  unfold State.physOf at h
  split at h
  · next hn =>
    obtain ⟨t, ht, rfl⟩ := Option.map_eq_some_iff.1 h
    have := tileOf_lt ht
    omega
  · cases h

/-- Parameter words and what the CMU keeps of its loops are not among the registers that channels leave alone. -/
theorem not_chanKept_param (hp : p < 384) (w : Nat) : ¬ chanKept (paramField p w).key := by
  rw [chanKept_iff (by simp only [paramField]; omega) (by simp only [paramField]; omega)]
  simp only [paramField]
  omega

theorem not_chanKept_cyl {f : Field} (hp : 0x90 ≤ f.page) (ho : f.off < 4096) (hl : f.lo < 32) : ¬ chanKept f.key := by
  rw [chanKept_iff ho hl]
  omega

theorem trimPut_still (hp : p < 384) (k : Nat) (tm : Bool) (w v : Nat) : Still chanKept s (s.trimPut k tm p w v) := by
  have hlast : ¬ chanKept (loopLast tm k).key := by
    unfold loopLast
    split
    · exact not_chanKept_cyl (Nat.le_add_right _ _) (by simp [CYL_A_LAST_W]) (by simp [CYL_A_LAST_W])
    · exact not_chanKept_cyl (Nat.le_add_right _ _) (by simp [CYL_Q_LAST_W]) (by simp [CYL_Q_LAST_W])
  have hdrop : ¬ chanKept (CYL_LOOP_CNT_DROP k).key :=
    not_chanKept_cyl (Nat.le_add_right _ _) (by simp [CYL_LOOP_CNT_DROP]) (by simp [CYL_LOOP_CNT_DROP])
  have hmod : Still chanKept s (s.modCyl k fun x => x.setTrim tm none) := .same rfl rfl rfl rfl
  exact .ite ((wr_still _ hlast).after <| (wr_still _ (not_chanKept_param hp _)).after <| (sepia_still p 1).after hmod)
    ((inc_still hdrop).after hmod)

theorem paramPut_still (hp : p < 384) (h : HeldW) : Still chanKept s (s.paramPut p h) := by
  unfold State.paramPut
  split
  · exact (wr_still _ (not_chanKept_param hp _)).after (sepia_still p 1)
  · exact trimPut_still hp _ _ _ _

theorem applyHeld_still (hp : p < 384) : Still chanKept s (s.applyHeld p) :=
  (Still.foldl (fun _ h _ => paramPut_still hp h) _).after (setChan_still p _)

/-- What an engine holds once its thread is over. -/
def GelS.over (x : GelS) : GelS :=
  { x with thread := false, g := [], cc := 0, stack := [], snap := 0, cyc := 0, cycNs := 0, tbvHi := none, mem := none,
           stall := none, skipBk := false, outlet := [], wheel := (x.wheel + 1) % 16 }

/-- What `threadOver` does to the engine itself: its record, its longest thread, its state. -/
def State.threadLeft (s : State) (g : Nat) : State :=
  let x := s.eng g
  let s := s.setEng g x.over
  let s := if x.outlet.any fun e => e.2 != [] then s.iflag (0x30 + g) 3 else s
  let s := if s.rd (GEL_MAX_THR_CYC g) < x.cyc then s.wr (GEL_MAX_THR_CYC g) (satN 10 x.cyc) else s
  if s.rd (GEL_GEL_STAT_STATE g) = 2 then s.wr (GEL_GEL_STAT_STATE g) 1 else s

/-- What `threadOver` does to the channel: its held writes are applied, and it may ask again. -/
def State.channelLeft (s : State) (n : Nat) : State :=
  match s.physOf n with
  | some p => (s.applyHeld p).svc p
  | none => s

theorem threadOver_eq (h : (s.eng g).thread = true) :
    s.threadOver g = (s.threadLeft g).channelLeft (s.rd (GEL_GEL_STAT_CH g)) :=
  if_neg (by simp [h])

theorem threadOver_idle (h : ¬ (s.eng g).thread = true) : s.threadOver g = s := if_pos (by simpa using h)

theorem channelLeft_still : Still chanKept s (s.channelLeft n) := by
  unfold State.channelLeft
  split
  · next p hp => exact (svc_still p).after (applyHeld_still (physOf_lt hp).1)
  · exact .refl s

theorem channelLeft_own : OwnKept s (s.channelLeft n) := by
  unfold State.channelLeft
  split
  · exact (svc_chansKept _).ownKept.after (applyHeld_own _)
  · exact .refl s

/-- Keys of kept fields that the end of a thread does not write: of engines all but the state and the longest thread. -/
def overKept (k : Nat) : Prop :=
  chanKept k ∧ (0x30 ≤ k / 131072 → k / 32 % 4096 ≠ 0x58 ∧ ¬ (k / 32 % 4096 = 0x44 ∧ k % 32 = 0))

theorem threadLeft_still : Still overKept (s.setEng g (s.eng g).over) (s.threadLeft g) := by
  have hmax : ¬ overKept (GEL_MAX_THR_CYC g).key := fun h => by
    have hp := key_page (f := GEL_MAX_THR_CYC g) (by simp [GEL_MAX_THR_CYC]) (by simp [GEL_MAX_THR_CYC])
    have ho := key_off (f := GEL_MAX_THR_CYC g) (by simp [GEL_MAX_THR_CYC]) (by simp [GEL_MAX_THR_CYC])
    exact (h.2 (by rw [hp]; exact Nat.le_add_right _ _)).1 ho
  have hst : ¬ overKept (GEL_GEL_STAT_STATE g).key := fun h => by
    have hp := key_page (f := GEL_GEL_STAT_STATE g) (by simp [GEL_GEL_STAT_STATE]) (by simp [GEL_GEL_STAT_STATE])
    have ho := key_off (f := GEL_GEL_STAT_STATE g) (by simp [GEL_GEL_STAT_STATE]) (by simp [GEL_GEL_STAT_STATE])
    exact (h.2 (by rw [hp]; exact Nat.le_add_right _ _)).2 ⟨ho, key_lo (by simp [GEL_GEL_STAT_STATE])⟩
  unfold State.threadLeft
  dsimp only
  exact Still.after (.ite (wr_still _ hst) (.refl _)) <| Still.after (.ite (wr_still _ hmax) (.refl _)) <|
    .ite (iflag_still _ fun h => not_chanKept_iflag _ h.1) (.refl _)

/-- From a state with a thread in progress to that with the thread over, but for the engine's own record. -/
theorem threadOver_still (h : (s.eng g).thread = true) : Still overKept (s.setEng g (s.eng g).over) (s.threadOver g) := by
  rw [threadOver_eq h]
  exact (channelLeft_still.mono fun _ hk => hk.1).after threadLeft_still

theorem threadOver_rd {f : Field} (hf : overKept f.key) : (s.threadOver g).rd f = s.rd f := by
  by_cases h : (s.eng g).thread = true
  · exact (threadOver_still h).regs f hf
  · rw [threadOver_idle h]

theorem threadOver_thread : ((s.threadOver g).eng g).thread = false := by
  by_cases h : (s.eng g).thread = true
  · rw [(threadOver_still h).eng g, setEng_eng]
    rfl
  · rw [threadOver_idle h]
    simpa using h

theorem threadOver_own : OwnKept s (s.threadOver g) := by
  by_cases h : (s.eng g).thread = true
  · have hleft : ChansKept s (s.threadLeft g) := by
      unfold State.threadLeft
      exact ChansKept.after (.ite (wr_chansKept _ _) (.refl _)) <| ChansKept.after (.ite (wr_chansKept _ _) (.refl _)) <|
        ChansKept.after (.ite (iflag_chansKept _ _) (.refl _)) (.same rfl)
    rw [threadOver_eq h]
    exact channelLeft_own.after hleft.ownKept
  · rw [threadOver_idle h]
    exact .refl s

theorem chanKept_gelStat (hg : g < 4) {f : Field} (hp : f.page = 0x30 + g) (ho : 0x40 ≤ f.off ∧ f.off < 0x74) (hl : f.lo < 32) :
    chanKept f.key := by
  rw [chanKept_iff (by omega) hl]
  omega

/-- An engine that runs is IDLE once its thread is over (R56); one in another state stays there. -/
theorem threadOver_state (hg : g < 4) (h : (s.eng g).thread = true) :
    (s.threadOver g).rd (GEL_GEL_STAT_STATE g) = if s.rd (GEL_GEL_STAT_STATE g) = 2 then 1 else s.rd (GEL_GEL_STAT_STATE g) := by
  have hmax : (GEL_GEL_STAT_STATE g).key ≠ (GEL_MAX_THR_CYC g).key := by simp only [Field.key, GEL_GEL_STAT_STATE, GEL_MAX_THR_CYC]; omega
  have hflag : (GEL_GEL_STAT_STATE g).key ≠ (PG_IFLAG_FLAG (0x30 + g)).key := by
    simp only [Field.key, GEL_GEL_STAT_STATE, PG_IFLAG_FLAG]; omega
  have hif (u : State) (c : Prop) [Decidable c] (i : Nat) :
      (if c then u.iflag (0x30 + g) i else u).rd (GEL_GEL_STAT_STATE g) = u.rd (GEL_GEL_STAT_STATE g) := by
    split
    · exact setBits_rd_ne u _ hflag
    · rfl
  have hifm (u : State) (c : Prop) [Decidable c] (v : Nat) :
      (if c then u.wr (GEL_MAX_THR_CYC g) v else u).rd (GEL_GEL_STAT_STATE g) = u.rd (GEL_GEL_STAT_STATE g) := by
    split
    · exact rd_wr_ne u _ _ _ hmax
    · rfl
  have hst (u : State) : (if u.rd (GEL_GEL_STAT_STATE g) = 2 then u.wr (GEL_GEL_STAT_STATE g) 1 else u).rd (GEL_GEL_STAT_STATE g) =
      if u.rd (GEL_GEL_STAT_STATE g) = 2 then 1 else u.rd (GEL_GEL_STAT_STATE g) := by
    split
    · rw [rd_wr_self]; rfl
    · rfl
  rw [threadOver_eq h, channelLeft_still.regs _ (chanKept_gelStat hg rfl (by simp [GEL_GEL_STAT_STATE]) (by simp [GEL_GEL_STAT_STATE]))]
  unfold State.threadLeft
  dsimp only
  rw [hst, hifm, hif, setEng_rd]

end

end Sys2Proof.Machine
end


section
/-! Proof about threads, continued: faults of a thread. -/

namespace Sys2Proof.Machine

open Reg

section

variable {s a b u : State} {g n p cause addr : Nat} {quiet : Bool}

/-! ### A thread fault (R241) -/

/-- The cause counts in FLT_CNT. -/
def State.faultCount (s : State) (g cause : Nat) : State :=
  match cause with
  | 1 => s.inc (GEL_FLT_CNT_OVERRUN g)
  | 3 => s.inc (GEL_FLT_CNT_ILLEGAL g)
  | 4 | 5 => s.inc (GEL_FLT_CNT_STACK g)
  | _ => s

/-- The record of a thread fault. -/
def State.faultSaid (s : State) (g cause addr p : Nat) : State :=
  let src := srcGel g 0
  let m : Msg := { src, qseg := qsegOf src, kind := 0x30, sev := (s.kcfg 0x30).sev, cause := srcChannel p, detail := cause + addr * 8 }
  ((pagesOf src).foldl (fun (s : State) q => s.pgFault q m) s).raiseMsg m false

/-- The channel of a faulty thread: a safe end, without a yield context. -/
def State.faultSafe (s : State) (p : Nat) : State :=
  let s := s.safeEnd p
  s.setChan p { s.chan p with yield := none }

/-- What a thread fault does to its channel. -/
def State.faultChannel (s : State) (g cause addr : Nat) (quiet : Bool) (p : Nat) : State :=
  let s := (s.faultSafe p).chErr p (TILE_CH_ERR_ABORT (p / 24) (p % 24))
  if quiet then s else s.faultSaid g cause addr p

/-- A thread fault before the thread is over. -/
def State.faultEnd (s : State) (g cause : Nat) (quiet : Bool) : State :=
  let addr := s.rd (GEL_GEL_STAT_PC g)
  let s := (s.faultCount g cause).iflag (0x30 + g) 0
  match s.thrPhys g with
  | none => s
  | some p => s.faultChannel g cause addr quiet p

theorem threadFault_eq : s.threadFault g cause quiet = (s.faultEnd g cause quiet).threadOver g := rfl

/-- Keys of kept fields but those of FLT_CNT of an engine. -/
def notCount (k : Nat) : Prop := chanKept k ∧ (0x30 ≤ k / 131072 → k / 32 % 4096 ≠ 0x54)

/-- Keys of kept fields on other pages than tiles. -/
def notTile (k : Nat) : Prop := chanKept k ∧ (k / 131072 < 0x20 ∨ 0x30 ≤ k / 131072)

/-- Keys of the fields that a fault keeps. -/
def faultKept (k : Nat) : Prop := notCount k ∧ notTile k

theorem not_count {f : Field} (hp : 0x30 ≤ f.page) (ho : f.off = 0x54) (hl : f.lo < 32) : ¬ notCount f.key := by
  rintro ⟨-, hk⟩
  rw [key_page (by omega) hl, key_off (by omega) hl] at hk
  exact hk hp ho

theorem faultCount_still : Still notCount s (s.faultCount g cause) := by
  unfold State.faultCount
  split
  · exact inc_still (not_count (Nat.le_add_right _ _) rfl (by simp [GEL_FLT_CNT_OVERRUN]))
  · exact inc_still (not_count (Nat.le_add_right _ _) rfl (by simp [GEL_FLT_CNT_ILLEGAL]))
  · exact inc_still (not_count (Nat.le_add_right _ _) rfl (by simp [GEL_FLT_CNT_STACK]))
  · exact inc_still (not_count (Nat.le_add_right _ _) rfl (by simp [GEL_FLT_CNT_STACK]))
  · exact .refl s

/-- A fault has counted and set its flag. -/
theorem faultFlag_still : Still notCount s ((s.faultCount g cause).iflag (0x30 + g) 0) :=
  (iflag_still _ fun h => not_chanKept_iflag _ h.1).after faultCount_still

theorem faultSafe_still : Still chanKept s (s.faultSafe p) := (setChan_still _ _).after (safeEnd_still p)

theorem faultSaid_still : Still chanKept s (s.faultSaid g cause addr p) := faultMsg_still chanKept_noFault _ _

theorem faultSaid_chansKept : ChansKept s (s.faultSaid g cause addr p) :=
  (((FltFrame.foldl (fun s q => pgFault_frame s q _) _ s).trans (raiseMsg_frame _ _ _)) : FltFrame s _).chansKept

/-- The page of a tile's CH_ERR.ABORT. -/
theorem abort_page (p : Nat) : (TILE_CH_ERR_ABORT (p / 24) (p % 24)).key / 131072 = 0x20 + p / 24 :=
  key_page (by simp only [TILE_CH_ERR_ABORT]; omega) (by simp [TILE_CH_ERR_ABORT])

theorem faultChannel_still (hp : p < 384) : Still notTile s (s.faultChannel g cause addr quiet p) := by
  have habort : ¬ notTile (TILE_CH_ERR_ABORT (p / 24) (p % 24)).key := by
    rintro ⟨-, hk⟩
    rw [abort_page] at hk
    omega
  have herr : Still notTile s ((s.faultSafe p).chErr p (TILE_CH_ERR_ABORT (p / 24) (p % 24))) :=
    (chErr_still habort fun h => not_chanKept_iflag _ h.1).after (faultSafe_still.mono fun _ h => h.1)
  exact .ite herr ((faultSaid_still.mono fun _ h => h.1).after herr)

theorem faultEnd_still : Still faultKept s (s.faultEnd g cause quiet) := by
  have hflag := (faultFlag_still (s := s) (g := g) (cause := cause)).mono (Q := faultKept) fun _ h => h.1
  unfold State.faultEnd
  dsimp only
  split
  · exact hflag
  · next p hp => exact ((faultChannel_still (physOf_lt hp).1).mono fun _ h => h.2).after hflag

theorem physOf_congr (h0 : b.rd MAINT_LMAP0_MAP = a.rd MAINT_LMAP0_MAP) (h1 : b.rd MAINT_LMAP1_SLATE = a.rd MAINT_LMAP1_SLATE)
    (n : Nat) : b.physOf n = a.physOf n := by
  simp only [State.physOf, State.tileOf, h0, h1]

theorem faultKept_gel (hg : g < 4) {f : Field} (hp : f.page = 0x30 + g) (ho : 0x40 ≤ f.off ∧ f.off < 0x74 ∧ f.off ≠ 0x54) (hl : f.lo < 32) :
    faultKept f.key := by
  have hk := chanKept_gelStat hg hp ⟨ho.1, ho.2.1⟩ hl
  refine ⟨⟨hk, fun _ => ?_⟩, hk, ?_⟩
  · rw [key_off (by omega) hl]
    exact ho.2.2
  · rw [key_page (by omega) hl]
    omega

theorem notCount_map : notCount MAINT_LMAP0_MAP.key ∧ notCount MAINT_LMAP1_SLATE.key := by
  unfold notCount chanKept
  decide

/-- A fault that has counted is of the same channel. -/
theorem faultEnd_some (hg : g < 4) (hp : s.thrPhys g = some p) :
    s.faultEnd g cause quiet =
      ((s.faultCount g cause).iflag (0x30 + g) 0).faultChannel g cause (s.rd (GEL_GEL_STAT_PC g)) quiet p := by
  have hflag := faultFlag_still (s := s) (g := g) (cause := cause)
  have hthr : ((s.faultCount g cause).iflag (0x30 + g) 0).thrPhys g = some p := by
    rw [← hp, State.thrPhys, physOf_congr (hflag.regs _ notCount_map.1) (hflag.regs _ notCount_map.2),
      hflag.regs _ (faultKept_gel hg rfl (by simp [GEL_GEL_STAT_CH]) (by simp [GEL_GEL_STAT_CH])).1]
    rfl
  unfold State.faultEnd
  simp only [hthr]

/-- A fault counts its cause. -/
theorem faultCount_rd (s : State) (g : Nat) :
    (s.faultCount g 1).rd (GEL_FLT_CNT_OVERRUN g) = satN 8 (s.rd (GEL_FLT_CNT_OVERRUN g) + 1) ∧
    (s.faultCount g 3).rd (GEL_FLT_CNT_ILLEGAL g) = satN 8 (s.rd (GEL_FLT_CNT_ILLEGAL g) + 1) ∧
    (s.faultCount g 4).rd (GEL_FLT_CNT_STACK g) = satN 8 (s.rd (GEL_FLT_CNT_STACK g) + 1) :=
  ⟨inc_rd s (GEL_FLT_CNT_OVERRUN g), inc_rd s (GEL_FLT_CNT_ILLEGAL g), inc_rd s (GEL_FLT_CNT_STACK g)⟩

/-! What a fault leaves of its channel: ended, without a yield context, ABORT counted. -/

theorem faultSafe_ended : ((s.faultSafe p).chan p).Ended ∧ ((s.faultSafe p).chan p).yield = none := by
  unfold State.faultSafe
  rw [setChan_chan]
  exact ⟨safeEnd_ended p, rfl⟩

theorem faultChannel_chan : ((s.faultChannel g cause addr quiet p).chan p).Ended ∧
    ((s.faultChannel g cause addr quiet p).chan p).yield = none := by
  have hkept : ChansKept (s.faultSafe p) (s.faultChannel g cause addr quiet p) :=
    .ite (chErr_chansKept _ _) (faultSaid_chansKept.after (chErr_chansKept _ _))
  rw [hkept.chan]
  exact faultSafe_ended

/-- A field of the tile's CH_ERR above SRQ_OVR. -/
theorem chanKept_abort (hp : p < 384) : chanKept (TILE_CH_ERR_ABORT (p / 24) (p % 24)).key := by
  rw [chanKept_iff (by simp only [TILE_CH_ERR_ABORT]; omega) (by simp [TILE_CH_ERR_ABORT])]
  simp only [TILE_CH_ERR_ABORT]
  omega

theorem chErr_rd {f : Field} (hf : 0x40 ≤ f.off) (ho : f.off < 4096) (hl : f.lo < 32) : (s.chErr p f).rd f = satN f.w (s.rd f + 1) := by
  have hne : f.key ≠ (PG_IFLAG_FLAG (0x20 + p / 24)).key := fun h => by
    have h1 := key_off ho hl
    have h2 := key_off (f := PG_IFLAG_FLAG (0x20 + p / 24)) (by simp [PG_IFLAG_FLAG]) (by simp [PG_IFLAG_FLAG])
    rw [h, h2] at h1
    simp only [PG_IFLAG_FLAG] at h1
    omega
  exact (setBits_rd_ne _ _ hne).trans (inc_rd s f)

theorem faultChannel_abort (hp : p < 384) :
    (s.faultChannel g cause addr quiet p).rd (TILE_CH_ERR_ABORT (p / 24) (p % 24)) =
      satN 8 (s.rd (TILE_CH_ERR_ABORT (p / 24) (p % 24)) + 1) := by
  have hsaid : Still chanKept ((s.faultSafe p).chErr p (TILE_CH_ERR_ABORT (p / 24) (p % 24))) (s.faultChannel g cause addr quiet p) :=
    .ite (.refl _) faultSaid_still
  rw [hsaid.regs _ (chanKept_abort hp), chErr_rd (by simp only [TILE_CH_ERR_ABORT]; omega) (by simp only [TILE_CH_ERR_ABORT]; omega)
    (by simp [TILE_CH_ERR_ABORT]), faultSafe_still.regs _ (chanKept_abort hp)]
  rfl

/-- The end of a thread by a fault (R241). -/
structure FaultOf (g p : Nat) (a b : State) : Prop where
  thread : (b.eng g).thread = false
  idle : b.rd (GEL_GEL_STAT_STATE g) = 1
  yield : (b.chan p).yield = none
  ended : (b.chan p).Ended
  abort : b.rd (TILE_CH_ERR_ABORT (p / 24) (p % 24)) = satN 8 (a.rd (TILE_CH_ERR_ABORT (p / 24) (p % 24)) + 1)

/-- What counted stays through the rest of the fault. -/
theorem threadFault_count (hg : g < 4) (hp : s.thrPhys g = some p) {f : Field} (hf : f.page = 0x30 + g) (ho : f.off = 0x54) (hl : f.lo < 32) :
    (s.threadFault g cause quiet).rd f = (s.faultCount g cause).rd f := by
  have hk : chanKept f.key := chanKept_gelStat hg hf (by omega) hl
  have hover : overKept f.key := ⟨hk, fun _ => by rw [key_off (by omega) hl]; omega⟩
  have htile : notTile f.key := ⟨hk, .inr (by rw [key_page (by omega) hl]; omega)⟩
  have hflag : f.key ≠ (PG_IFLAG_FLAG (0x30 + g)).key := fun h => not_chanKept_iflag _ (h ▸ hk)
  rw [threadFault_eq, threadOver_rd hover, faultEnd_some hg hp, (faultChannel_still (physOf_lt hp).1).regs _ htile]
  exact setBits_rd_ne _ _ hflag

theorem threadFault_of (hg : g < 4) (hp : s.thrPhys g = some p) (hthr : (s.eng g).thread = true)
    (hrun : s.rd (GEL_GEL_STAT_STATE g) = 2) : FaultOf g p s (s.threadFault g cause quiet) := by
  have hpl := (physOf_lt hp).1
  have hend := faultEnd_still (s := s) (g := g) (cause := cause) (quiet := quiet)
  have hst : (s.faultEnd g cause quiet).rd (GEL_GEL_STAT_STATE g) = 2 :=
    (hend.regs _ (faultKept_gel hg rfl (by simp [GEL_GEL_STAT_STATE]) (by simp [GEL_GEL_STAT_STATE]))).trans hrun
  have hthread : ((s.faultEnd g cause quiet).eng g).thread = true := by
    rw [hend.eng g]
    exact hthr
  have hown := (threadOver_own (s := s.faultEnd g cause quiet) (g := g)).own p
  have hchan : ((s.faultEnd g cause quiet).chan p).Ended ∧ ((s.faultEnd g cause quiet).chan p).yield = none := by
    rw [faultEnd_some hg hp]
    exact faultChannel_chan
  refine ⟨threadOver_thread, ?_, (own_yield hown).trans hchan.2, hchan.1.of_own hown, ?_⟩
  · rw [threadFault_eq, threadOver_state hg hthread, if_pos hst]
  · have hpage : ¬ 0x30 ≤ (TILE_CH_ERR_ABORT (p / 24) (p % 24)).key / 131072 := by
      rw [abort_page]
      omega
    rw [threadFault_eq, threadOver_rd ⟨chanKept_abort hpl, fun h => absurd h hpage⟩, faultEnd_some hg hp, faultChannel_abort hpl,
      faultFlag_still.regs _ ⟨chanKept_abort hpl, fun h => absurd h hpage⟩]

end

end Sys2Proof.Machine
end


section
/-! Proof about threads, continued: grants, halts, steps and resumption of an engine. -/

namespace Sys2Proof.Machine

open Reg

section

variable {s a b u : State} {g n p i c : Nat}

/-! ### A thread is granted (R56, R238, R239) -/

/-- Requests that wait on their budget change the budgets alone. -/
theorem gelHold_eq (s : State) (g : Nat) : ∃ x : Budg, s.gelHold g = { s with budg := x } := by
  unfold State.gelHold
  refine List.foldlRecOn (motive := fun r : State => ∃ x : Budg, r = { s with budg := x }) _ _ ⟨_, rfl⟩ ?_
  rintro r ⟨x, rfl⟩ k -
  unfold State.waitBudget
  split
  · exact ⟨_, rfl⟩
  · exact ⟨_, rfl⟩

/-- Where a new thread of a channel starts: at its yield address, or at its entry. -/
def Chan.startAt (x : Chan) : Nat :=
  match x.yield, x.dir with
  | some (z, _), _ => z
  | none, some d => d.entry
  | none, none => 0

/-- G0 to G3 of a new thread. -/
def Chan.startRegs (x : Chan) : List Nat := match x.yield with | some (_, gs) => gs | none => [0, 0, 0, 0]

theorem startAt_fresh {x : Chan} (h : x.yield = none) : x.startAt = (x.dir.map DirEnt.entry).getD 0 := by
  unfold Chan.startAt
  rw [h]
  cases x.dir <;> rfl

theorem startAt_yielded {x : Chan} {z : Nat} {l : List Nat} (h : x.yield = some (z, l)) : x.startAt = z := by
  unfold Chan.startAt
  rw [h]

theorem startRegs_fresh {x : Chan} (h : x.yield = none) : x.startRegs = [0, 0, 0, 0] := by
  unfold Chan.startRegs
  rw [h]

theorem startRegs_yielded {x : Chan} {z : Nat} {l : List Nat} (h : x.yield = some (z, l)) : x.startRegs = l := by
  unfold Chan.startRegs
  rw [h]

/-- The engine as the wheel leaves it (R238). -/
def GelS.turned (x : GelS) (c wheel : Nat) (rest : List (Nat × Nat)) : GelS := { x with reqs := tput [] x.reqs c rest, wheel := wheel }

/-- The thread's record, its channel without a yield context, and what GEL_STAT shows. -/
def State.threadLoad (s : State) (g n p : Nat) : State :=
  let ch := s.chan p
  let snap := s.chFlags p
  let param := match ch.srq with | q :: _ => q.2 | [] => 0
  let x := s.eng g
  let s := s.setEng g { x with
    thread := true, g := ch.startRegs ++ [0, param, n, snap], cc := 0, stack := [], snap := snap, cyc := 3, cycNs := 3, tbvHi := none,
    mem := none, stall := none, skipBk := false, outlet := [] }
  let s := s.setChan p { ch with yield := none }
  ((s.wr (GEL_GEL_STAT_STATE g) 2).wr (GEL_GEL_STAT_CH g) n).wr (GEL_GEL_STAT_PC g) ch.startAt

/-- What a grant counts: the thread, its first cycles, its latency. -/
def State.threadCounted (s : State) (g c since : Nat) : State :=
  let s := (s.inc (GEL_THR_CNT_COUNT g)).useBudget (clsBudget g c) 3
  let lat := satN 16 (s.tb - since)
  if s.rd (GEL_LAT_MAX_CYC g c) < lat then s.wr (GEL_LAT_MAX_CYC g c) lat else s

theorem threadStart_eq {since wheel : Nat} {rest : List (Nat × Nat)} (hp : s.physOf n = some p) :
    s.threadStart g c n since rest wheel =
      ((s.setEng g ((s.eng g).turned c wheel rest)).threadLoad g n p).threadCounted g c since := by
  have hp' : (s.setEng g ((s.eng g).turned c wheel rest)).physOf n = some p := hp
  unfold GelS.turned at hp'
  simp only [State.threadStart, hp']
  rfl

theorem setChan_gel (p : Nat) (x : Chan) : (s.setChan p x).gel = s.gel := by
  unfold State.setChan State.sepia
  dsimp only
  split <;> rfl

theorem threadCounted_gel (since : Nat) : (s.threadCounted g c since).gel = s.gel := by
  unfold State.threadCounted
  dsimp only
  split <;> rfl

theorem threadCounted_chansKept (since : Nat) : ChansKept s (s.threadCounted g c since) := .ite (.same rfl) (.same rfl)

/-- A grant counts in registers after GEL_STAT. -/
theorem threadCounted_rd (since : Nat) {f : Field} (h : f.key < ((0x30 + g) * 4096 + 0x50) * 32) :
    (s.threadCounted g c since).rd f = s.rd f := by
  have hcnt : f.key ≠ (GEL_THR_CNT_COUNT g).key := by simp only [Field.key, GEL_THR_CNT_COUNT] at h ⊢; omega
  have hlat : f.key ≠ (GEL_LAT_MAX_CYC g c).key := by simp only [Field.key, GEL_LAT_MAX_CYC] at h ⊢; omega
  have hinc : ((s.inc (GEL_THR_CNT_COUNT g)).useBudget (clsBudget g c) 3).rd f = s.rd f := inc_rd_ne hcnt
  unfold State.threadCounted
  dsimp only
  split
  · exact (rd_wr_ne _ _ _ _ hlat).trans hinc
  · exact hinc

/-- What GEL_STAT shows of a loaded thread. -/
theorem threadLoad_stat : (s.threadLoad g n p).pc g = (s.chan p).startAt % 2 ^ 13 ∧
    (s.threadLoad g n p).rd (GEL_GEL_STAT_STATE g) = 2 ∧ (s.threadLoad g n p).rd (GEL_GEL_STAT_CH g) = n % 256 := by
  have h1 : (GEL_GEL_STAT_CH g).key ≠ (GEL_GEL_STAT_PC g).key := by simp only [Field.key, GEL_GEL_STAT_CH, GEL_GEL_STAT_PC]; omega
  have h2 : (GEL_GEL_STAT_STATE g).key ≠ (GEL_GEL_STAT_PC g).key := by simp only [Field.key, GEL_GEL_STAT_STATE, GEL_GEL_STAT_PC]; omega
  have h3 : (GEL_GEL_STAT_STATE g).key ≠ (GEL_GEL_STAT_CH g).key := by simp only [Field.key, GEL_GEL_STAT_STATE, GEL_GEL_STAT_CH]; omega
  unfold State.threadLoad
  dsimp only
  refine ⟨rd_wr_self _ _ _, ?_, ?_⟩
  · rw [rd_wr_ne _ _ _ _ h2, rd_wr_ne _ _ _ _ h3, rd_wr_self]; rfl
  · rw [rd_wr_ne _ _ _ _ h1, rd_wr_self]; rfl

/-- The record of a new thread of logical channel `n` (R239). -/
def GelS.started (x : GelS) (y : Chan) (n flags : Nat) : GelS :=
  { x with thread := true, g := y.startRegs ++ [0, (y.srq.headD (0, 0)).2, n, flags], cc := 0, stack := [], snap := flags, cyc := 3,
           cycNs := 3, tbvHi := none, mem := none, stall := none, skipBk := false, outlet := [] }

theorem setChan_eng (p : Nat) (x : Chan) (g : Nat) : (s.setChan p x).eng g = s.eng g := by
  unfold State.eng
  rw [setChan_gel]

theorem wr_eng (f : Field) (v h : Nat) : (s.wr f v).eng h = s.eng h := rfl

theorem threadLoad_eng (s : State) (g n p : Nat) : (s.threadLoad g n p).eng g = (s.eng g).started (s.chan p) n (s.chFlags p) := by
  have hparam (l : List (Nat × Nat)) : (match l with | q :: _ => q.2 | [] => 0) = (l.headD (0, 0)).2 := by cases l <;> rfl
  unfold State.threadLoad GelS.started
  dsimp only
  rw [wr_eng, wr_eng, wr_eng, setChan_eng, setEng_eng, ← hparam]

theorem threadLoad_chan (s : State) (g n p : Nat) : ((s.threadLoad g n p).chan p).yield = none := by
  unfold State.threadLoad
  dsimp only
  rw [(wr_chansKept _ _).chan, (wr_chansKept _ _).chan, (wr_chansKept _ _).chan, setChan_chan]

/-- A granted thread: its start, its record, its channel without a yield context. -/
theorem threadStart_as {since wheel : Nat} {rest : List (Nat × Nat)} (hp : s.physOf n = some p) :
    (s.threadStart g c n since rest wheel).pc g = (s.chan p).startAt % 2 ^ 13 ∧
    (s.threadStart g c n since rest wheel).rd (GEL_GEL_STAT_STATE g) = 2 ∧
    (s.threadStart g c n since rest wheel).rd (GEL_GEL_STAT_CH g) = n % 256 ∧
    (s.threadStart g c n since rest wheel).eng g = ((s.eng g).turned c wheel rest).started (s.chan p) n (s.chFlags p) ∧
    ((s.threadStart g c n since rest wheel).chan p).yield = none := by
  have hlt {f : Field} (hp : f.page = 0x30 + g) (ho : f.off = 0x44) (hl : f.lo < 32) : f.key < ((0x30 + g) * 4096 + 0x50) * 32 := by
    simp only [Field.key, hp, ho]; omega
  rw [threadStart_eq hp, State.pc, threadCounted_rd _ (hlt rfl rfl (by simp [GEL_GEL_STAT_PC])),
    threadCounted_rd _ (hlt rfl rfl (by simp [GEL_GEL_STAT_STATE])), threadCounted_rd _ (hlt rfl rfl (by simp [GEL_GEL_STAT_CH])),
    (threadCounted_chansKept _).chan]
  obtain ⟨h1, h2, h3⟩ := threadLoad_stat (s := s.setEng g ((s.eng g).turned c wheel rest)) (g := g) (n := n) (p := p)
  refine ⟨h1, h2, h3, ?_, threadLoad_chan _ _ _ _⟩
  have hgel : ∀ u : State, (u.threadCounted g c since).eng g = u.eng g := fun u => by
    unfold State.eng
    rw [threadCounted_gel]
  rw [hgel, threadLoad_eng, setEng_eng]
  rfl

/-- The wheel's pick starts a thread for the oldest request of its class. -/
theorem gelGrant_pick {r : List (Nat × Nat)} (hst : a.rd (GEL_GEL_STAT_STATE g) = 1) (hthr : (a.eng g).thread = false)
    (hpick : (a.gelHold g).wheelPick g = some i) (hreq : tget [] (a.eng g).reqs (a.wheelAt g i) = (n, c) :: r) :
    ∃ x : Budg, a.gelGrant g = ({ a with budg := x } : State).threadStart g (a.wheelAt g i) n c r i := by
  obtain ⟨x, hx⟩ := gelHold_eq a g
  have hwheel : (a.gelHold g).wheelAt g i = a.wheelAt g i := by rw [hx]; rfl
  refine ⟨x, ?_⟩
  unfold State.gelGrant
  rw [if_neg (by simp [hst, hthr])]
  simp only [hpick, hwheel, hreq]
  rw [hx]

/-- What a granted thread finds (R239). -/
theorem gelGrant_as {r : List (Nat × Nat)} (hst : a.rd (GEL_GEL_STAT_STATE g) = 1) (hthr : (a.eng g).thread = false)
    (hpick : (a.gelHold g).wheelPick g = some i) (hreq : tget [] (a.eng g).reqs (a.wheelAt g i) = (n, c) :: r)
    (hp : a.physOf n = some p) :
    (a.gelGrant g).pc g = (a.chan p).startAt % 2 ^ 13 ∧ (a.gelGrant g).rd (GEL_GEL_STAT_STATE g) = 2 ∧
    (a.gelGrant g).rd (GEL_GEL_STAT_CH g) = n % 256 ∧
    (a.gelGrant g).eng g = ((a.eng g).turned (a.wheelAt g i) i r).started (a.chan p) n (a.chFlags p) ∧
    ((a.gelGrant g).chan p).yield = none := by
  obtain ⟨x, hx⟩ := gelGrant_pick hst hthr hpick hreq
  rw [hx]
  exact threadStart_as (s := { a with budg := x }) hp

/-! ### Faults that the engine finds (R241, R249, R250) -/

theorem gelOver_fault (hst : a.rd (GEL_GEL_STAT_STATE g) = 2) (hthr : (a.eng g).thread = true)
    (hover : a.overLimit g ((if a.gelReady g then opcCycles (iOpc (a.gelWord g)) else 0) + a.stalledFor g)
      (if a.gelReady g then opcCycles (iOpc (a.gelWord g)) else 0) = some c) : a.gelOver g = a.threadFault g c false := by
  unfold State.gelOver
  rw [if_neg (by simp [hst, hthr])]
  simp only [hover]

theorem gelIllegal_fault (hst : a.rd (GEL_GEL_STAT_STATE g) = 2) (hready : a.gelReady g = true) (hbk : a.atBkpt g = false)
    (hsound : a.fetchBad g = none) (hbad : a.badFetch g = some c) : a.gelIllegal g = a.threadFault g c false := by
  unfold State.gelIllegal
  rw [if_pos (by simp [hst, hready, hbk]), if_neg (by rw [hsound]; exact nofun), hbad]
  simp only [Option.isSome_some, if_true, fetchFix_sound hsound, hbad]

theorem gelReady_thread (h : a.gelReady g = true) : (a.eng g).thread = true := by
  unfold State.gelReady at h
  exact (Bool.and_eq_true_iff.1 h).1

/-- An uncorrectable word leaves the engine in FAULT, without a thread (R250, R255). -/
theorem gelStoreError_left (hg : g < 4) (h0 : a.rd (GEL_GEL_STAT_STATE g) ≠ 0) (h4 : a.rd (GEL_GEL_STAT_STATE g) ≠ 4)
    (hready : a.gelReady g = true) :
    (a.gelStoreError g).rd (GEL_GEL_STAT_STATE g) = 4 ∧ ((a.gelStoreError g).eng g).thread = false := by
  have hk : chanKept (GEL_GEL_STAT_STATE g).key :=
    chanKept_gelStat hg rfl (by simp [GEL_GEL_STAT_STATE]) (by simp [GEL_GEL_STAT_STATE])
  have heq : a.gelStoreError g =
      (((a.wr (GEL_GEL_STAT_STATE g) 4).safeServed g).threadOver g).raise (srcGel g 1) 0x33 (a.pc g) :=
    if_neg (by simp [h0, h4, hready])
  have hserved : Still chanKept (a.wr (GEL_GEL_STAT_STATE g) 4) ((a.wr (GEL_GEL_STAT_STATE g) 4).safeServed g) := safeServed_still g
  have hraise := raise_still (s := ((a.wr (GEL_GEL_STAT_STATE g) 4).safeServed g).threadOver g) chanKept_noFault (srcGel g 1) 0x33 (a.pc g)
  have hst : ((a.wr (GEL_GEL_STAT_STATE g) 4).safeServed g).rd (GEL_GEL_STAT_STATE g) = 4 := by
    rw [hserved.regs _ hk, rd_wr_self]; rfl
  have hthr : (((a.wr (GEL_GEL_STAT_STATE g) 4).safeServed g).eng g).thread = true := by
    rw [hserved.eng g]
    exact gelReady_thread hready
  rw [heq, hraise.regs _ hk, hraise.eng g, threadOver_state hg hthr, if_neg (by rw [hst]; decide)]
  exact ⟨hst, threadOver_thread⟩

/-! ### Halts (R255) -/

/-- The flag just set reads 1. -/
theorem iflag_bit (s : State) (p : Nat) {i : Nat} (hi : i < 32) : bit ((s.iflag p i).rd (PG_IFLAG_FLAG p)) i = true := by
  have hrd : (s.iflag p i).rd (PG_IFLAG_FLAG p) = Nat.lor (s.rd (PG_IFLAG_FLAG p)) (2 ^ i) % 2 ^ 32 :=
    (setBits_rd _ _ _ _).trans (rd_wr_self _ _ _)
  rw [hrd, bit_mod_two_pow _ hi, bit_lor_two_pow]

theorem softAll_gel (s0 : State) (sel : Nat → Bool) : (s.softAll s0 sel).gel = s.gel := by
  have hoff (u : State) (q : Nat) : (u.softOff s0 q).gel = u.gel := by
    unfold State.softOff
    split
    · rfl
    · dsimp only
      split <;> rfl
  refine List.foldlRecOn (motive := fun r : State => r.gel = s.gel) _ _ rfl fun r hr q _ => ?_
  split
  · exact (hoff r q).trans hr
  · exact hr

/-- The engine's state and flag as a halt sets them. -/
def State.haltMarks (s : State) (g : Nat) : State := (s.wr (GEL_GEL_STAT_STATE g) 3).iflag (0x30 + g) 1

/-- Past these a halt may start soft-offs, which write OUT's registers alone. -/
theorem gelHalted_still : Still (fun k => k / 131072 ≠ 0x38) (s.haltMarks g) (s.gelHalted g) :=
  .ite (softAll_still (by decide) (by decide) _ _) (.refl _)

theorem gelHalted_gel : (s.gelHalted g).gel = s.gel := by
  unfold State.gelHalted
  dsimp only
  split
  · exact softAll_gel _ _
  · rfl

theorem gelHalted_eng (h : Nat) : (s.gelHalted g).eng h = s.eng h := by
  unfold State.eng
  rw [gelHalted_gel]

/-- A register of a page other than OUT, but the engine's state and flags, stands through a halt. -/
theorem gelHalted_rd {f : Field} (hpage : f.key / 131072 ≠ 0x38) (h1 : f.key ≠ (GEL_GEL_STAT_STATE g).key)
    (h2 : f.key ≠ (PG_IFLAG_FLAG (0x30 + g)).key) : (s.gelHalted g).rd f = s.rd f :=
  (gelHalted_still.regs f hpage).trans ((setBits_rd_ne _ _ h2).trans (rd_wr_ne _ _ _ _ h1))

theorem gel_page (hg : g < 4) {f : Field} (hp : f.page = 0x30 + g) (ho : f.off < 4096) (hl : f.lo < 32) : f.key / 131072 ≠ 0x38 := by
  rw [key_page ho hl]
  omega

theorem gelHalted_marks (hg : g < 4) : (s.gelHalted g).rd (GEL_GEL_STAT_STATE g) = 3 ∧
    bit ((s.gelHalted g).rd (PG_IFLAG_FLAG (0x30 + g))) 1 = true := by
  have hflag : (GEL_GEL_STAT_STATE g).key ≠ (PG_IFLAG_FLAG (0x30 + g)).key := by
    simp only [Field.key, GEL_GEL_STAT_STATE, PG_IFLAG_FLAG]; omega
  constructor
  · rw [gelHalted_still.regs _ (gel_page hg rfl (by simp [GEL_GEL_STAT_STATE]) (by simp [GEL_GEL_STAT_STATE])), State.haltMarks,
      State.iflag, setBits_rd_ne _ _ hflag, rd_wr_self]
    rfl
  · rw [gelHalted_still.regs _ (gel_page hg rfl (by simp [PG_IFLAG_FLAG]) (by simp [PG_IFLAG_FLAG]))]
    exact iflag_bit _ _ (by decide)

theorem halt_ne_state : (GEL_GEL_STAT_STATE g).key ≠ (GEL_GEL_CTRL_HALT g).key := by
  simp only [Field.key, GEL_GEL_STAT_STATE, GEL_GEL_CTRL_HALT]; omega

/-- A running engine halts by HALT (R255). -/
theorem gelHalt_left (hg : g < 4) (hst : s.rd (GEL_GEL_STAT_STATE g) = 1 ∨ s.rd (GEL_GEL_STAT_STATE g) = 2) :
    (s.gelHalt g).rd (GEL_GEL_STAT_STATE g) = 3 ∧ (s.gelHalt g).rd (GEL_GEL_CTRL_HALT g) = 1 ∧
    bit ((s.gelHalt g).rd (PG_IFLAG_FLAG (0x30 + g))) 1 = true ∧ (s.gelHalt g).eng g = s.eng g := by
  have hrun : (s.wr (GEL_GEL_CTRL_HALT g) 1).rd (GEL_GEL_STAT_STATE g) = s.rd (GEL_GEL_STAT_STATE g) := rd_wr_ne _ _ _ _ halt_ne_state
  have heq : s.gelHalt g = (s.wr (GEL_GEL_CTRL_HALT g) 1).gelHalted g := if_pos (by rw [hrun]; exact hst)
  have hflag : (GEL_GEL_CTRL_HALT g).key ≠ (PG_IFLAG_FLAG (0x30 + g)).key := by
    simp only [Field.key, GEL_GEL_CTRL_HALT, PG_IFLAG_FLAG]; omega
  obtain ⟨h1, h2⟩ := gelHalted_marks (s := s.wr (GEL_GEL_CTRL_HALT g) 1) hg
  rw [heq]
  refine ⟨h1, ?_, h2, gelHalted_eng g⟩
  rw [gelHalted_rd (gel_page hg rfl (by simp [GEL_GEL_CTRL_HALT]) (by simp [GEL_GEL_CTRL_HALT])) halt_ne_state.symm hflag, rd_wr_self]
  rfl

/-- A running engine halts at a breakpoint, which the thread then passes (R255). -/
theorem gelBkpt_left (hg : g < 4) (hst : s.rd (GEL_GEL_STAT_STATE g) = 2) (hready : s.gelReady g = true) (hbk : s.atBkpt g = true) :
    (s.gelBkpt g).rd (GEL_GEL_STAT_STATE g) = 3 ∧ ((s.gelBkpt g).eng g).skipBk = true ∧
    bit ((s.gelBkpt g).rd (PG_IFLAG_FLAG (0x30 + g))) 2 = true ∧ (s.gelBkpt g).pc g = s.pc g := by
  have heq : s.gelBkpt g = ((s.modEng g fun x => { x with skipBk := true }).gelHalted g).iflag (0x30 + g) 2 :=
    if_pos ⟨hst, hready, hbk⟩
  have hst1 : (GEL_GEL_STAT_STATE g).key ≠ (PG_IFLAG_FLAG (0x30 + g)).key := by
    simp only [Field.key, GEL_GEL_STAT_STATE, PG_IFLAG_FLAG]; omega
  have hpc1 : (GEL_GEL_STAT_PC g).key ≠ (PG_IFLAG_FLAG (0x30 + g)).key := by
    simp only [Field.key, GEL_GEL_STAT_PC, PG_IFLAG_FLAG]; omega
  have hpc2 : (GEL_GEL_STAT_PC g).key ≠ (GEL_GEL_STAT_STATE g).key := by
    simp only [Field.key, GEL_GEL_STAT_PC, GEL_GEL_STAT_STATE]; omega
  rw [heq]
  refine ⟨(setBits_rd_ne _ _ hst1).trans (gelHalted_marks hg).1, ?_, iflag_bit _ _ (by decide), ?_⟩
  · exact congrArg GelS.skipBk ((gelHalted_eng g).trans (modEng_eng s g _))
  · exact (setBits_rd_ne _ _ hpc1).trans
      (gelHalted_rd (gel_page hg rfl (by simp [GEL_GEL_STAT_PC]) (by simp [GEL_GEL_STAT_PC])) hpc2 hpc1)

/-! ### STEP and resumption (R255, R256) -/

theorem setReg_reg (x : GelS) {d : Nat} (v : Nat) (hd : d < 8) : (x.setReg d v).reg d = v % 2 ^ 32 := by
  simp [GelS.setReg, GelS.reg, hd]

/-- STEP executes a MOV; a halted thread's cycles are not counted. -/
theorem gelStep_mov (hst : s.rd (GEL_GEL_STAT_STATE g) = 3) (hready : s.gelReady g = true) (hbad : s.badFetch g = none)
    (hsound : s.fetchBad g = none) (hop : iOpc (s.gelWord g) = 0x0D) :
    s.gelStep g = ((s.pastBkpt g).modEng g fun x => x.setReg (iD (s.gelWord g)) (x.opB (s.gelWord g))).setPc g (s.pc g + 1) := by
  have hmov : (s.pastBkpt g).gelDo g (s.gelWord g) = (s.pastBkpt g).gelMov g (s.gelWord g) := by
    simp only [State.gelDo, hop]
  have hspend (u : State) (h : u.rd (GEL_GEL_STAT_STATE g) = 3) : u.spend g 1 1 = u := if_pos h
  unfold State.gelStep
  rw [if_neg (by simp [hst, hready]), if_neg (by rw [hsound]; exact nofun), fetchFix_sound hsound]
  simp only [hbad]
  refine hmov.trans ?_
  rw [State.gelMov, State.gelNext, hspend ((s.pastBkpt g).modEng g _) hst]
  rfl

theorem gelStep_left (hst : s.rd (GEL_GEL_STAT_STATE g) = 3) (hready : s.gelReady g = true) (hbad : s.badFetch g = none)
    (hsound : s.fetchBad g = none) (hop : iOpc (s.gelWord g) = 0x0D) :
    (s.gelStep g).rd (GEL_GEL_STAT_STATE g) = 3 ∧
    ((s.gelStep g).eng g).reg (iD (s.gelWord g)) = (s.eng g).opB (s.gelWord g) % 2 ^ 32 ∧ ((s.gelStep g).eng g).cc = (s.eng g).cc ∧
    (s.gelStep g).pc g = (s.pc g + 1) % 2 ^ 13 := by
  have hd : iD (s.gelWord g) < 8 := Nat.mod_lt _ (by decide)
  have hpc : (GEL_GEL_STAT_STATE g).key ≠ (GEL_GEL_STAT_PC g).key := by simp only [Field.key, GEL_GEL_STAT_STATE, GEL_GEL_STAT_PC]; omega
  have heng : (s.gelStep g).eng g =
      ({ s.eng g with skipBk := false } : GelS).setReg (iD (s.gelWord g)) ((s.eng g).opB (s.gelWord g)) := by
    rw [gelStep_mov hst hready hbad hsound hop, State.setPc, wr_eng, modEng_eng, pastBkpt_eng]
    rfl
  refine ⟨?_, ?_, ?_, ?_⟩
  · rw [gelStep_mov hst hready hbad hsound hop]
    exact (rd_wr_ne _ _ _ _ hpc).trans hst
  · rw [heng, setReg_reg _ _ hd]
  · rw [heng]
    rfl
  · rw [gelStep_mov hst hready hbad hsound hop]
    exact rd_wr_self _ _ _

/-- An engine that leaves HALTED without DEBUG_SAFE runs its thread on, or is IDLE (R256). -/
theorem gelGoOn_plain (hst : s.rd (GEL_GEL_STAT_STATE g) = 3) (hsafe : s.on (PG_CTRL_DEBUG_SAFE (0x30 + g)) = false) :
    s.gelGoOn g = s.wr (GEL_GEL_STAT_STATE g) (if (s.eng g).thread then 2 else 1) := by
  have hctrl : (PG_CTRL_DEBUG_SAFE (0x30 + g)).key ≠ (GEL_GEL_STAT_STATE g).key := by
    simp only [Field.key, PG_CTRL_DEBUG_SAFE, GEL_GEL_STAT_STATE]; omega
  unfold State.gelGoOn
  rw [if_neg (by simp [hst])]
  dsimp only
  rw [State.on, rd_wr_ne _ _ _ _ hctrl]
  exact if_neg (by rw [State.on] at hsafe; simp [hsafe])

/-- HALT is taken back: the engine leaves HALTED, in no debug halt of the device. -/
theorem gelResume_eq (hnh : s.notHalted = true) : s.gelResume g = (s.wr (GEL_GEL_CTRL_HALT g) 0).gelGoOn g := by
  have hpwr : CLK_PWR_STAT_STATE.key ≠ (GEL_GEL_CTRL_HALT g).key := by
    simp only [Field.key, CLK_PWR_STAT_STATE, GEL_GEL_CTRL_HALT]; omega
  have hnh' : (s.wr (GEL_GEL_CTRL_HALT g) 0).notHalted = true := by
    rw [State.notHalted, rd_wr_ne _ _ _ _ hpwr]
    exact hnh
  exact if_pos hnh'

/-- A fault that ends a running thread leaves the engine IDLE, and its other control and status registers. -/
theorem threadFault_idle {cause : Nat} {quiet : Bool} (hg : g < 4) (hthr : (s.eng g).thread = true)
    (hst : s.rd (GEL_GEL_STAT_STATE g) = 2) : (s.threadFault g cause quiet).rd (GEL_GEL_STAT_STATE g) = 1 := by
  have hend := faultEnd_still (s := s) (g := g) (cause := cause) (quiet := quiet)
  have hrun : (s.faultEnd g cause quiet).rd (GEL_GEL_STAT_STATE g) = 2 :=
    (hend.regs _ (faultKept_gel hg rfl (by simp [GEL_GEL_STAT_STATE]) (by simp [GEL_GEL_STAT_STATE]))).trans hst
  have hthread : ((s.faultEnd g cause quiet).eng g).thread = true := by
    rw [hend.eng g]
    exact hthr
  rw [threadFault_eq, threadOver_state hg hthread, if_pos hrun]

theorem threadFault_rd {cause : Nat} {quiet : Bool} {f : Field} (hf : faultKept f.key) (ho : overKept f.key) :
    (s.threadFault g cause quiet).rd f = s.rd f := by
  rw [threadFault_eq, threadOver_rd ho, faultEnd_still.regs f hf]

/-- What leaving HALTED with DEBUG_SAFE does before the channels end: the thread is over, quietly (R256). -/
def State.goOnEnd (s : State) (g : Nat) : State :=
  let s := s.wr (GEL_GEL_STAT_STATE g) (if (s.eng g).thread then 2 else 1)
  if (s.eng g).thread then s.threadFault g 0 true else s

theorem gelGoOn_safe (hst : s.rd (GEL_GEL_STAT_STATE g) = 3) (hsafe : s.on (PG_CTRL_DEBUG_SAFE (0x30 + g)) = true) :
    s.gelGoOn g = ((s.goOnEnd g).safeServed g).follow_ s := by
  have hctrl : (PG_CTRL_DEBUG_SAFE (0x30 + g)).key ≠ (GEL_GEL_STAT_STATE g).key := by
    simp only [Field.key, PG_CTRL_DEBUG_SAFE, GEL_GEL_STAT_STATE]; omega
  unfold State.gelGoOn
  rw [if_neg (by simp [hst])]
  dsimp only
  rw [State.on, rd_wr_ne _ _ _ _ hctrl]
  exact if_pos (by rw [State.on] at hsafe; simp [hsafe])

theorem goOnEnd_left (hg : g < 4) : (s.goOnEnd g).rd (GEL_GEL_STAT_STATE g) = 1 ∧ ((s.goOnEnd g).eng g).thread = false ∧
    (s.goOnEnd g).rd (GEL_GEL_CTRL_HALT g) = s.rd (GEL_GEL_CTRL_HALT g) := by
  have hhalt (v : Nat) : (s.wr (GEL_GEL_STAT_STATE g) v).rd (GEL_GEL_CTRL_HALT g) = s.rd (GEL_GEL_CTRL_HALT g) :=
    rd_wr_ne _ _ _ _ halt_ne_state.symm
  have hover : overKept (GEL_GEL_CTRL_HALT g).key :=
    ⟨chanKept_gelStat hg rfl (by simp [GEL_GEL_CTRL_HALT]) (by simp [GEL_GEL_CTRL_HALT]), fun _ => by
      rw [key_off (by simp [GEL_GEL_CTRL_HALT]) (by simp [GEL_GEL_CTRL_HALT])]
      simp [GEL_GEL_CTRL_HALT]⟩
  by_cases hthr : (s.eng g).thread = true
  · have heq : s.goOnEnd g = (s.wr (GEL_GEL_STAT_STATE g) 2).threadFault g 0 true := by
      unfold State.goOnEnd
      dsimp only
      rw [wr_eng, hthr]
      rfl
    rw [heq]
    refine ⟨threadFault_idle hg hthr (rd_wr_self _ _ _), threadOver_thread, ?_⟩
    rw [threadFault_rd (faultKept_gel hg rfl (by simp [GEL_GEL_CTRL_HALT]) (by simp [GEL_GEL_CTRL_HALT])) hover, hhalt]
  · have hno : (s.eng g).thread = false := by simpa using hthr
    have heq : s.goOnEnd g = s.wr (GEL_GEL_STAT_STATE g) 1 := by
      unfold State.goOnEnd
      dsimp only
      rw [wr_eng, hno]
      rfl
    rw [heq]
    exact ⟨rd_wr_self _ _ _, hno, hhalt 1⟩

theorem gelGoOn_ends (hg : g < 4) (hst : s.rd (GEL_GEL_STAT_STATE g) = 3) (hsafe : s.on (PG_CTRL_DEBUG_SAFE (0x30 + g)) = true) :
    (s.gelGoOn g).rd (GEL_GEL_STAT_STATE g) = 1 ∧ ((s.gelGoOn g).eng g).thread = false ∧
    (s.gelGoOn g).rd (GEL_GEL_CTRL_HALT g) = s.rd (GEL_GEL_CTRL_HALT g) := by
  have hserved : Still chanKept (s.goOnEnd g) (((s.goOnEnd g).safeServed g).follow_ s) := (follow_still s).after (safeServed_still g)
  obtain ⟨h1, h2, h3⟩ := goOnEnd_left (s := s) hg
  rw [gelGoOn_safe hst hsafe, hserved.eng g,
    hserved.regs _ (chanKept_gelStat hg rfl (by simp [GEL_GEL_STAT_STATE]) (by simp [GEL_GEL_STAT_STATE])),
    hserved.regs _ (chanKept_gelStat hg rfl (by simp [GEL_GEL_CTRL_HALT]) (by simp [GEL_GEL_CTRL_HALT]))]
  exact ⟨h1, h2, h3⟩

/-- HALT is taken back, before the engine goes on. -/
theorem resumed_rd {f : Field} (h : f.key ≠ (GEL_GEL_CTRL_HALT g).key) : (s.wr (GEL_GEL_CTRL_HALT g) 0).rd f = s.rd f :=
  rd_wr_ne _ _ _ _ h

theorem resumed_debugSafe : (s.wr (GEL_GEL_CTRL_HALT g) 0).on (PG_CTRL_DEBUG_SAFE (0x30 + g)) = s.on (PG_CTRL_DEBUG_SAFE (0x30 + g)) := by
  have h : (PG_CTRL_DEBUG_SAFE (0x30 + g)).key ≠ (GEL_GEL_CTRL_HALT g).key := by
    simp only [Field.key, PG_CTRL_DEBUG_SAFE, GEL_GEL_CTRL_HALT]; omega
  rw [State.on, resumed_rd h]
  rfl

theorem gelResume_plain (hst : s.rd (GEL_GEL_STAT_STATE g) = 3) (hnh : s.notHalted = true)
    (hsafe : s.on (PG_CTRL_DEBUG_SAFE (0x30 + g)) = false) :
    (s.gelResume g).rd (GEL_GEL_STAT_STATE g) = (if (s.eng g).thread then 2 else 1) ∧ (s.gelResume g).rd (GEL_GEL_CTRL_HALT g) = 0 ∧
    (s.gelResume g).eng g = s.eng g ∧ (s.gelResume g).pc g = s.pc g := by
  have hpc1 : (GEL_GEL_STAT_PC g).key ≠ (GEL_GEL_STAT_STATE g).key := by simp only [Field.key, GEL_GEL_STAT_PC, GEL_GEL_STAT_STATE]; omega
  have hpc2 : (GEL_GEL_STAT_PC g).key ≠ (GEL_GEL_CTRL_HALT g).key := by simp only [Field.key, GEL_GEL_STAT_PC, GEL_GEL_CTRL_HALT]; omega
  rw [gelResume_eq hnh, gelGoOn_plain ((resumed_rd halt_ne_state).trans hst)
    (resumed_debugSafe.trans hsafe)]
  refine ⟨?_, ?_, rfl, (rd_wr_ne _ _ _ _ hpc1).trans (resumed_rd hpc2)⟩
  · rw [rd_wr_self, wr_eng]
    cases (s.eng g).thread <;> rfl
  · rw [rd_wr_ne _ _ _ _ halt_ne_state.symm, rd_wr_self]
    rfl

theorem gelResume_ends (hg : g < 4) (hst : s.rd (GEL_GEL_STAT_STATE g) = 3) (hnh : s.notHalted = true)
    (hsafe : s.on (PG_CTRL_DEBUG_SAFE (0x30 + g)) = true) :
    (s.gelResume g).rd (GEL_GEL_STAT_STATE g) = 1 ∧ (s.gelResume g).rd (GEL_GEL_CTRL_HALT g) = 0 ∧
    ((s.gelResume g).eng g).thread = false := by
  obtain ⟨h1, h2, h3⟩ := gelGoOn_ends (s := s.wr (GEL_GEL_CTRL_HALT g) 0) hg ((resumed_rd halt_ne_state).trans hst)
    (resumed_debugSafe.trans hsafe)
  rw [gelResume_eq hnh]
  exact ⟨h1, h3.trans (rd_wr_self _ _ _), h2⟩

end

theorem keep_eng (a b : State) (g : Nat) : (a.keep b).eng g = b.eng g := rfl

/-- Settles O27: a grant is the thread it starts; each fault is `threadFault`; halts set their marks; the rest by its equation. -/
theorem engineThreads : Obligations.EngineThreads := by
  intro s a t g ha hok
  have hg : g.val < 4 := g.isLt
  have hact (f : State → State) : s.act t (gelOk g) f = .next (a.keep (f a)) := by subst ha; exact act_on hok
  have hctl {m v k : Nat} (hw : a.mayWrite m (0x30 + g) 0x40 v k = true) (f : State → State) :
      a.guardedMask m (0x30 + g) 0x40 v k f = f (a.counted m (0x30 + g)) := by
    rw [State.guardedMask, guardedTo_may (by omega) (by decide) hw, charged_eq_counted (.inr (by omega)) (by decide)]
  refine ⟨fun u i n c p r hst hthr hu hpick hreq hp hy => ?fresh, fun u i n c p r z h hst hthr hu hpick hreq hp hy => ?yielded,
    fun p hst hthr hover hp => ?tmax, fun p c hst hready hbk hsound hbad hp => ?illegal, fun h0 h4 hready => ?storeError,
    fun m hw hst => ?halt, fun hst hready hbk => ?bkpt, fun m hw hst hready hbad hsound hop => ?step,
    fun m hw hst hnh hsafe => ?resume, fun m hw hst hnh hsafe => ?resumeSafe⟩
  case fresh =>
    subst hu
    obtain ⟨hpc, hrun, hch, heng, hyield⟩ := gelGrant_as hst hthr hpick hreq hp
    refine ⟨_, (exec_threadGrant t g s).trans (hact _), hpc.trans (by rw [startAt_fresh hy]), ?_⟩
    rw [keep_eng, heng, GelS.started, startRegs_fresh hy]
    exact ⟨rfl, rfl, hrun, hch, rfl, rfl, rfl, rfl, hyield, tget_tput_self _ _ _ _⟩
  case yielded =>
    subst hu
    obtain ⟨hpc, hrun, hch, heng, hyield⟩ := gelGrant_as hst hthr hpick hreq hp
    refine ⟨_, (exec_threadGrant t g s).trans (hact _), hpc.trans (by rw [startAt_yielded hy]), ?_⟩
    rw [keep_eng, heng, GelS.started, startRegs_yielded hy]
    exact ⟨rfl, rfl, hrun, hch, rfl, rfl, rfl, rfl, hyield, tget_tput_self _ _ _ _⟩
  case tmax =>
    have hf : FaultOf g p a (a.threadFault g 1 false) := threadFault_of hg hp hthr hst
    refine ⟨_, (exec_threadTmax t g s).trans (hact _), ?_⟩
    rw [gelOver_fault hst hthr hover]
    exact ⟨(threadFault_count hg hp rfl rfl (by simp [GEL_FLT_CNT_OVERRUN])).trans (faultCount_rd a g).1, hf.thread, hf.idle, hf.yield, hf.ended.1,
      hf.ended.2.1, hf.ended.2.2, hf.abort⟩
  case illegal =>
    have hf : FaultOf g p a (a.threadFault g c false) := threadFault_of hg hp (gelReady_thread hready) hst
    refine ⟨_, (exec_gelIllegal t g s).trans (hact _), ?_⟩
    rw [gelIllegal_fault hst hready hbk hsound hbad]
    refine ⟨?_, ?_, hf.thread, hf.idle, hf.yield, hf.ended.1, hf.ended.2.1, hf.ended.2.2, hf.abort⟩
    · rintro rfl
      exact (threadFault_count hg hp rfl rfl (by simp [GEL_FLT_CNT_ILLEGAL])).trans (faultCount_rd a g).2.1
    · rintro rfl
      exact (threadFault_count hg hp rfl rfl (by simp [GEL_FLT_CNT_STACK])).trans (faultCount_rd a g).2.2
  case storeError => exact ⟨_, (exec_gelStoreError t g s).trans (hact _), gelStoreError_left hg h0 h4 hready⟩
  case halt =>
    refine ⟨_, (exec_gelHalt t g (some m) s).trans (hact _), ?_⟩
    dsimp only
    rw [hctl hw]
    exact gelHalt_left hg hst
  case bkpt => exact ⟨_, (exec_gelHalt t g none s).trans (hact _), gelBkpt_left hg hst hready hbk⟩
  case step =>
    refine ⟨_, (exec_gelStep t m g s).trans (hact _), ?_⟩
    rw [hctl hw]
    exact gelStep_left (s := a.counted m (0x30 + g)) hst hready hbad hsound hop
  case resume =>
    refine ⟨_, (exec_gelResume t m g s).trans (hact _), ?_⟩
    rw [hctl hw]
    exact gelResume_plain (s := a.counted m (0x30 + g)) hst hnh hsafe
  case resumeSafe =>
    refine ⟨_, (exec_gelResume t m g s).trans (hact _), ?_⟩
    rw [hctl hw]
    exact gelResume_ends (s := a.counted m (0x30 + g)) hg hst hnh hsafe

end Sys2Proof.Machine
end


section
/-! Proof about commands that reach channels: what a channel has due beforehand leaves the engines alone. -/

namespace Sys2Proof.Machine

open Reg

/-! ### What a channel has due -/

/-- A step that may write any register, but leaves the engines, the timebase and the clocks. -/
abbrev Quiet (s s' : State) : Prop := Still (fun _ => False) s s'

section

variable {s a b u : State} {p : Nat}

theorem Still.quiet {P : Nat → Prop} (h : Still P a b) : Quiet a b := h.mono fun _ hk => hk.elim

theorem wr_quiet (f : Field) (v : Nat) : Quiet s (s.wr f v) := wr_still v not_false

theorem entryFlag_quiet (i k : Nat) : Quiet s (s.entryFlag i k) := .same rfl rfl rfl rfl

theorem setOcc_quiet (o : Occ) : Quiet s (s.setOcc o) := .same rfl rfl rfl rfl

theorem occEnd_quiet (o : Occ) (done : Bool) : Quiet s (s.occEnd o done) := by
  have hdrop (u : State) : Quiet u (u.occEnd o false) := .same rfl rfl rfl rfl
  have hentry (u : State) (f : Nat → Nat) : Quiet u (u.entry3 o.idx f) := .same rfl rfl rfl rfl
  exact .ite ((hentry _ _).after (hdrop s)) (hdrop s)

theorem evtLoad_quiet (p : Nat) : Quiet s (s.evtLoad p) := (evtLoad_still chanKept_noEvt p).quiet

theorem chEvent_quiet (p k : Nat) : Quiet s (s.chEvent p k) := (chEvent_still p k).quiet

theorem iflag_quiet (p i : Nat) : Quiet s (s.iflag p i) := iflag_still i not_false

theorem lateMark_quiet (o : Occ) (v : Verdict) : Quiet s (s.lateMark o v) := by
  have hrec (u : State) : Quiet u (((u.wr EVT_LATE_REC_CANCEL (b2n v.cancel)).wr EVT_LATE_REC_IDX o.idx).wr EVT_LATE_REC_LAMBDA v.lam) :=
    (wr_quiet _ _).after <| (wr_quiet _ _).after <| wr_quiet _ _
  have hcount (u : State) (k i : Nat) (f : Field) : Quiet u (((u.entryFlag o.idx k).inc f).iflag 0x19 i) :=
    (iflag_quiet _ _).after <| (wr_quiet _ _).after <| entryFlag_quiet _ _
  have hmark (u : State) : Quiet u (if v.cancel then ((u.entryFlag o.idx 28).inc EVT_LATE_CNT_CANCEL).iflag 0x19 2
      else ((u.entryFlag o.idx 30).inc EVT_LATE_CNT_LATE).iflag 0x19 1) := .ite (hcount _ _ _ _) (hcount _ _ _ _)
  unfold State.lateMark
  refine .ite (.refl s) ?_
  dsimp only
  split
  · exact (chEvent_quiet _ _).after <| (hmark _).after (hrec _)
  · exact (hmark _).after (hrec _)

theorem fired_quiet (o : Occ) : Quiet s (s.fired o) :=
  (occEnd_quiet _ _).after <| (wr_quiet _ _).after <| entryFlag_quiet _ _

theorem nextHead_quiet (p : Nat) : Quiet s (s.nextHead p) := (evtLoad_quiet p).after (release_still p)

theorem pinPact_quiet (p k : Nat) : Quiet s (s.pinPact p k) :=
  (chEvent_quiet _ _).after <| (pipeAct_still _ _ _).quiet.after <| setChan_still _ _

theorem pulseStart_quiet (p at16 : Nat) (o : Occ) : Quiet s (s.pulseStart p at16 o) :=
  .ite (.refl s) ((pinPact_quiet _ _).after (setChan_still _ _))

theorem pulseAStart_quiet (p at16 : Nat) (o : Occ) : Quiet s (s.pulseAStart p at16 o) := by
  unfold State.pulseAStart
  split
  · exact pulseStart_quiet _ _ _
  · exact (pinPact_quiet _ _).after (setChan_still _ _)

theorem srqEvent_quiet (p t x : Nat) : Quiet s (s.srqEvent p t x) :=
  (chEvent_quiet _ _).after (.ite (setChan_still _ _) (.refl s))

theorem srqFire_quiet (p at16 : Nat) (o : Occ) : Quiet s (s.srqFire p at16 o) := by
  have hsrq (u : State) : Quiet u ((u.pipeMark p).srqEvent p (at16 / 16) o.e.param) := (srqEvent_quiet _ _ _).after (setChan_still _ _)
  exact .ite ((pipeAct_still _ _ _).quiet.after <| (setChan_still _ _).after <| (setChan_still _ _).after (hsrq s))
    ((setChan_still _ _).after (hsrq s))

theorem pulseStop_quiet (p : Nat) : Quiet s (s.pulseStop p) :=
  (evtLoad_quiet _).after <| (pinPact_quiet _ _).after (release_still _)

theorem pulseEnd_quiet (p : Nat) : Quiet s (s.pulseEnd p) := by
  unfold State.pulseEnd
  refine .ite (.refl s) ?_
  split
  · exact .ite (pulseStop_quiet p) (.refl s)
  · exact .refl s

theorem pulseAEnd_quiet (p : Nat) : Quiet s (s.pulseAEnd p) := by
  unfold State.pulseAEnd
  refine .ite (.refl s) ?_
  split
  · exact .ite (pulseStop_quiet p) (.refl s)
  · exact .refl s

theorem dwellStop_quiet (p : Nat) (spark : Bool) : Quiet s (s.dwellStop p spark) :=
  .ite ((pinPact_quiet _ _).after (release_still _)) ((pipeAct_still _ _ _).quiet.after (release_still _))

theorem spark_quiet (i : Nat) : Quiet s (s.spark i) := by
  unfold State.spark
  split
  · exact .refl s
  split
  · exact .refl s
  · exact .ite ((nextHead_quiet _).after <| (occEnd_quiet _ _).after <| (dwellStop_quiet _ _).after (lateMark_quiet _ _))
      ((nextHead_quiet _).after <| (fired_quiet _).after <| (dwellStop_quiet _ _).after (lateMark_quiet _ _))

theorem dwellMax_quiet (p : Nat) : Quiet s (s.dwellMax p) := by
  unfold State.dwellMax
  refine .ite (.refl s) ?_
  split
  · refine .ite (.refl s) ?_
    split
    · exact (evtLoad_quiet _).after (dwellStop_quiet _ _)
    · exact .ite ((nextHead_quiet _).after <| (fired_quiet _).after (dwellStop_quiet _ _))
        ((nextHead_quiet _).after <| (occEnd_quiet _ _).after (dwellStop_quiet _ _))
  · exact .refl s

theorem fireChan_quiet {i op : Nat} {go : State → Nat → Nat → Occ → State} (hgo : ∀ u q k o, Quiet u (go u q k o)) :
    Quiet s (s.fireChan i op go) := by
  unfold State.fireChan
  split
  · exact .refl s
  split
  · exact .refl s
  · next q o _ _ v _ =>
    have hlate : Quiet s ((s.lateMark o v).release q) := (release_still _).after (lateMark_quiet _ _)
    exact .ite ((evtLoad_quiet _).after <| (occEnd_quiet _ _).after hlate)
      ((evtLoad_quiet _).after <| (fired_quiet _).after <| (hgo _ _ _ _).after <| (setChan_still _ _).after hlate)

theorem dwellStart_quiet (i : Nat) : Quiet s (s.dwellStart i) := by
  unfold State.dwellStart
  split
  · exact .refl s
  split
  · exact .refl s
  · refine .ite (.refl s) ?_
    exact (pinPact_quiet _ _).after <| (setChan_still _ _).after <| (release_still _).after <| (setOcc_quiet _).after <|
      .ite (wr_quiet _ _) (.refl s)

theorem occFire_quiet (i op : Nat) : Quiet s (s.occFire i op) := by
  unfold State.occFire
  split
  · exact fireChan_quiet fun _ _ _ _ => pinPact_quiet _ _
  · exact fireChan_quiet fun _ _ _ _ => pinPact_quiet _ _
  · exact fireChan_quiet fun _ _ _ _ => pulseStart_quiet _ _ _
  · exact fireChan_quiet fun _ _ _ _ => pulseAStart_quiet _ _ _
  · exact dwellStart_quiet _
  · exact fireChan_quiet fun _ _ _ _ => srqFire_quiet _ _ _
  · exact .refl s

theorem pipeDue_quiet (p : Nat) : Quiet s (s.pipeDue p) := by
  unfold State.pipeDue
  split
  · exact pulseEnd_quiet p
  · exact pulseAEnd_quiet p
  · exact (dwellMax_quiet p).after (spark_quiet _)
  · exact .refl s
  · split
    · exact .ite (spark_quiet _) (occFire_quiet _ _)
    · exact .refl s

theorem chErr_quiet (p : Nat) (f : Field) : Quiet s (s.chErr p f) := chErr_still not_false not_false

theorem mtFire_quiet (p : Nat) : Quiet s (s.mtFire p) := by
  have hact (u : State) : Quiet u (((u.setChan p { u.chan p with mtArm := false, mtPassed := false, mtAt := u.tb + 1 }).microAct p
      (u.chan p).mtAct).chEvent p 1) := (chEvent_quiet _ _).after <| (microAct_still _ _).quiet.after (setChan_still _ _)
  exact .ite ((chEvent_quiet _ _).after <| (chErr_quiet _ _).after (hact s)) (hact s)

theorem maFire_quiet (p : Nat) : Quiet s (s.maFire p) := by
  have hact (u : State) : Quiet u (((u.setChan p { u.chan p with maArm := false, maPassed := false, maAt := u.tb + 1 }).microAct p
      (u.chan p).maAct).chEvent p 2) := (chEvent_quiet _ _).after <| (microAct_still _ _).quiet.after (setChan_still _ _)
  exact .ite ((chEvent_quiet _ _).after <| (chErr_quiet _ _).after (hact s)) (hact s)

/-- Whatever a channel has due before a command leaves the engines. -/
theorem beforeCmd_quiet (p : Nat) : Quiet s (s.beforeCmd p) := by
  have hma (u : State) : Quiet u (if u.maDue p then u.maFire p else u) := .ite (maFire_quiet p) (.refl u)
  have hmt (u : State) : Quiet u (if u.mtDue p then u.mtFire p else u) := .ite (mtFire_quiet p) (.refl u)
  exact (hmt _).after <| (hma _).after (pipeDue_quiet p)

end

end Sys2Proof.Machine
end


section
/-! Proof about commands that reach channels: each command on its channel. -/

namespace Sys2Proof.Machine

open Reg

section

variable {s a b u w : State} {p v act stamp : Nat} {cpl : Bool}

/-! ### What a firing of microcode does to its channel (R225, R226, R229, R233) -/

theorem envOn_congr (h : b.regs = a.regs) : b.envOn p = a.envOn p := by
  unfold State.envOn State.on
  rw [rd_congr h]

theorem setChan_regs (p : Nat) (x : Chan) : (s.setChan p x).regs = s.regs := by
  unfold State.setChan State.sepia
  dsimp only
  split <;> rfl

theorem unsafe_regs (p k : Nat) : (s.unsafe_ p k).regs = s.regs := by
  have hhold (u : State) : (u.holdChan p).regs = u.regs := by
    unfold State.holdChan
    split <;> rfl
  unfold State.unsafe_
  split
  · rfl
  · exact (hhold _).trans (setChan_regs _ _)

theorem holdChan_chansKept (p : Nat) : ChansKept s (s.holdChan p) := by
  unfold State.holdChan
  split
  · exact .same rfl
  · exact .refl s

theorem unsafe_chan (p k : Nat) : ∃ σ, (s.unsafe_ p k).chan p = { s.chan p with safe := σ } := by
  unfold State.unsafe_
  split
  · exact ⟨_, rfl⟩
  · rw [(holdChan_chansKept _).chan, setChan_chan]
    exact ⟨_, rfl⟩

/-- The envelope and the carrier after a pin action of microcode, `e` with ENV (R229). -/
def Chan.acted (x : Chan) (e : Bool) (k : Nat) (σ : Bool) (n : Nat) : Chan :=
  { x with env := if e then x.env else actOn k x.env, car := if e then actOn k x.car else x.car, safe := σ, pinAt := n }

theorem microAct_chan (p k : Nat) : ∃ σ n, (s.microAct p k).chan p = (s.chan p).acted (s.envOn p) k σ n := by
  obtain ⟨σ, hσ⟩ := unsafe_chan (s := s) p k
  have henv : (s.unsafe_ p k).envOn p = s.envOn p := envOn_congr (unsafe_regs p k)
  unfold State.microAct
  dsimp only
  rw [henv, hσ]
  cases s.envOn p
  · obtain ⟨n, hn⟩ := chSet_chan (s := s.unsafe_ p k) p (actOn k (s.chan p).env) (s.chan p).car false
    exact ⟨σ, n, by rw [hσ] at hn; exact hn⟩
  · obtain ⟨n, hn⟩ := chSet_chan (s := s.unsafe_ p k) p (s.chan p).env (actOn k (s.chan p).car) false
    exact ⟨σ, n, by rw [hσ] at hn; exact hn⟩

/-- A time match as it fires. -/
def Chan.mtFired (x : Chan) (t : Nat) : Chan := { x with mtArm := false, mtPassed := false, mtAt := t }

/-- An angle match as it fires. -/
def Chan.maFired (x : Chan) (t : Nat) : Chan := { x with maArm := false, maPassed := false, maAt := t }

/-- A match of microcode acts, with its event `k`. -/
def State.matchAct (s : State) (p act k : Nat) : State := (s.microAct p act).chEvent p k

/-- What a match that had passed counts (R35, R233). -/
def State.passed (s : State) (p : Nat) : State := (s.chErr p (TILE_CH_ERR_PASSED (p / 24) (p % 24))).chEvent p 5

theorem mtFire_eq (s : State) (p : Nat) :
    s.mtFire p = if (s.chan p).mtPassed then ((s.setChan p ((s.chan p).mtFired (s.tb + 1))).matchAct p (s.chan p).mtAct 1).passed p
      else (s.setChan p ((s.chan p).mtFired (s.tb + 1))).matchAct p (s.chan p).mtAct 1 := rfl

theorem maFire_eq (s : State) (p : Nat) :
    s.maFire p = if (s.chan p).maPassed then ((s.setChan p ((s.chan p).maFired (s.tb + 1))).matchAct p (s.chan p).maAct 2).passed p
      else (s.setChan p ((s.chan p).maFired (s.tb + 1))).matchAct p (s.chan p).maAct 2 := rfl

theorem passed_chansKept (p : Nat) : ChansKept s (s.passed p) := (chEvent_chansKept _ _).after (chErr_chansKept _ _)

/-- A match that fires leaves its channel as fired and acted on. -/
theorem matchAct_chan (x : Chan) (p k e : Nat) :
    ∃ σ n, (((s.setChan p x).matchAct p k e).chan p) = x.acted (s.envOn p) k σ n := by
  obtain ⟨σ, n, h⟩ := microAct_chan (s := s.setChan p x) p k
  rw [envOn_congr (setChan_regs p x), setChan_chan] at h
  exact ⟨σ, n, ((chEvent_chansKept p e).chan p).trans h⟩

theorem mtFire_chan (s : State) (p : Nat) :
    ∃ σ n, (s.mtFire p).chan p = ((s.chan p).mtFired (s.tb + 1)).acted (s.envOn p) (s.chan p).mtAct σ n := by
  obtain ⟨σ, n, h⟩ := matchAct_chan (s := s) ((s.chan p).mtFired (s.tb + 1)) p (s.chan p).mtAct 1
  refine ⟨σ, n, ?_⟩
  rw [mtFire_eq]
  split
  · exact ((passed_chansKept p).chan p).trans h
  · exact h

theorem maFire_chan (s : State) (p : Nat) :
    ∃ σ n, (s.maFire p).chan p = ((s.chan p).maFired (s.tb + 1)).acted (s.envOn p) (s.chan p).maAct σ n := by
  obtain ⟨σ, n, h⟩ := matchAct_chan (s := s) ((s.chan p).maFired (s.tb + 1)) p (s.chan p).maAct 2
  refine ⟨σ, n, ?_⟩
  rw [maFire_eq]
  split
  · exact ((passed_chansKept p).chan p).trans h
  · exact h

theorem chanKept_passed (hp : p < 384) : chanKept (TILE_CH_ERR_PASSED (p / 24) (p % 24)).key := by
  rw [chanKept_iff (by simp only [TILE_CH_ERR_PASSED]; omega) (by simp [TILE_CH_ERR_PASSED])]
  simp only [TILE_CH_ERR_PASSED]
  omega

/-- A match that had passed counts one in PASSED. -/
theorem passed_rd (hp : p < 384) (x : Chan) (k e : Nat) :
    (((s.setChan p x).matchAct p k e).passed p).rd (TILE_CH_ERR_PASSED (p / 24) (p % 24)) =
      satN 8 (s.rd (TILE_CH_ERR_PASSED (p / 24) (p % 24)) + 1) := by
  have hact : Still chanKept s ((s.setChan p x).matchAct p k e) :=
    (chEvent_still _ _).after <| (microAct_still _ _).after (setChan_still _ _)
  have hev (u : State) : Still chanKept (u.chErr p (TILE_CH_ERR_PASSED (p / 24) (p % 24))) (u.passed p) := chEvent_still _ _
  rw [(hev _).regs _ (chanKept_passed hp), chErr_rd (by simp only [TILE_CH_ERR_PASSED]; omega)
    (by simp only [TILE_CH_ERR_PASSED]; omega) (by simp [TILE_CH_ERR_PASSED]), hact.regs _ (chanKept_passed hp)]
  rfl

theorem mtFire_passed (hp : p < 384) (h : (s.chan p).mtPassed = true) :
    (s.mtFire p).rd (TILE_CH_ERR_PASSED (p / 24) (p % 24)) = satN 8 (s.rd (TILE_CH_ERR_PASSED (p / 24) (p % 24)) + 1) := by
  rw [mtFire_eq, if_pos h, passed_rd hp]

theorem maFire_passed (hp : p < 384) (h : (s.chan p).maPassed = true) :
    (s.maFire p).rd (TILE_CH_ERR_PASSED (p / 24) (p % 24)) = satN 8 (s.rd (TILE_CH_ERR_PASSED (p / 24) (p % 24)) + 1) := by
  rw [maFire_eq, if_pos h, passed_rd hp]

/-! ### SMT, SMA and SMC reach their channel (R225 to R228) -/

/-- A loaded occurrence returns to its slot (R227). -/
def State.unpiped (s : State) (p : Nat) : State := if (s.chan p).pipe.isSome then s.release p else s

theorem unpiped_own (p : Nat) : OwnKept s (s.unpiped p) := .ite (release_own p) (.refl s)

theorem release_pipe (p : Nat) : ((s.release p).chan p).pipe = none := by
  unfold State.release
  dsimp only
  split
  · next h =>
    rw [Bool.and_eq_true] at h
    simpa using h.1
  · rw [setChan_chan]

theorem unpiped_pipe (p : Nat) : ((s.unpiped p).chan p).pipe = none := by
  unfold State.unpiped
  split
  · exact release_pipe p
  · next h => simpa using h

theorem unpiped_regs (p : Nat) : (s.unpiped p).regs = s.regs := by
  unfold State.unpiped State.release
  split
  · dsimp only
    split
    · rfl
    · exact setChan_regs _ _
  · rfl

theorem unpiped_still (P : Nat → Prop) (p : Nat) : Still P s (s.unpiped p) := .ite (release_still p) (.refl s)

/-- The time match as SMT sets it. -/
def Chan.smtSet (x : Chan) (M act from_ : Nat) (late : Bool) : Chan :=
  { x with mtT := M, mtArm := true, mtAct := act, mtPassed := late, mhold := true, mtFrom := from_ }

/-- The angle match as SMA or SMC sets it. -/
def Chan.smaSet (x : Chan) (k act from_ : Nat) (cpl late : Bool) : Chan :=
  { x with maA := k, maArm := true, maCpl := cpl, maAct := act, maPassed := late, mhold := true, maFrom := from_ }

theorem smtArrive_eq (s : State) (p v act stamp : Nat) :
    s.smtArrive p v act stamp =
      let late := decide (nearCount stamp v < stamp + 6)
      let x := (s.unpiped p).chan p
      let from_ := (s.unpiped p).armFrom x.mtAt x
      let u := (s.unpiped p).setChan p (x.smtSet (nearCount stamp v) act from_ late)
      if late && from_ == u.tb then u.mtFire p else u := rfl

theorem smaArrive_eq (s : State) (p v act : Nat) (cpl : Bool) :
    s.smaArrive p v act cpl =
      let late := s.ang.valid && s.anglePassed (v % 2 ^ 24)
      let x := (s.unpiped p).chan p
      let from_ := (s.unpiped p).armFrom x.maAt x
      let u := (s.unpiped p).setChan p (x.smaSet (v % 2 ^ 24) act from_ cpl late)
      if late && from_ == u.tb then u.maFire p else u := rfl

/-- Where neither the old value nor an occurrence fired in this cycle, a new match is armed at once (R36). -/
theorem armFrom_now {fired : Nat} {x : Chan} (h1 : fired ≠ s.tb + 1) (h2 : x.pipeAt ≠ s.tb + 1) : s.armFrom fired x = s.tb :=
  if_neg (by rintro (h | h) <;> contradiction)

/-- With microcode's hold on the registers nothing is loaded. -/
theorem evtLoad_held (h : (s.chan p).mhold = true) : s.evtLoad p = s := by
  unfold State.evtLoad State.evtLoadN
  exact if_pos (by simp [h])

end

end Sys2Proof.Machine
end


section
/-! Proof about commands that reach channels, continued: what each command leaves. -/

namespace Sys2Proof.Machine

open Reg

section

variable {s a b u w : State} {p v act stamp ops : Nat} {cpl : Bool}

theorem own_mtAt {x y : Chan} (h : y.own = x.own) : y.mtAt = x.mtAt := (congrArg Chan.mtAt h :)
theorem own_maAt {x y : Chan} (h : y.own = x.own) : y.maAt = x.maAt := (congrArg Chan.maAt h :)
theorem own_pipeAt {x y : Chan} (h : y.own = x.own) : y.pipeAt = x.pipeAt := (congrArg Chan.pipeAt h :)
theorem own_mtArm {x y : Chan} (h : y.own = x.own) : y.mtArm = x.mtArm := (congrArg Chan.mtArm h :)
theorem own_maArm {x y : Chan} (h : y.own = x.own) : y.maArm = x.maArm := (congrArg Chan.maArm h :)
theorem own_mhold {x y : Chan} (h : y.own = x.own) : y.mhold = x.mhold := (congrArg Chan.mhold h :)
theorem own_sact {x y : Chan} (h : y.own = x.own) : y.sact = x.sact := (congrArg Chan.sact h :)
theorem own_sactArm {x y : Chan} (h : y.own = x.own) : y.sactArm = x.sactArm := (congrArg Chan.sactArm h :)

/-! ### The levels that a microcode action leaves -/

/-- The levels of `y` are those of `x` after action `k`: on the carrier with ENV, else on the one level (R229). -/
def Chan.ActedOn (y x : Chan) (e : Bool) (k : Nat) : Prop :=
  (e = true → y.car = actOn k x.car ∧ y.env = x.env) ∧ (e = false → y.env = actOn k x.env ∧ y.car = x.car)

theorem acted_actedOn (x : Chan) (e : Bool) (k : Nat) (σ : Bool) (n : Nat) : (x.acted e k σ n).ActedOn x e k := by
  cases e
  · exact ⟨nofun, fun _ => ⟨rfl, rfl⟩⟩
  · exact ⟨fun _ => ⟨rfl, rfl⟩, nofun⟩

theorem Chan.ActedOn.of_levels {x y z : Chan} {e : Bool} {k : Nat} (h : y.ActedOn x e k) (henv : x.env = z.env) (hcar : x.car = z.car) :
    y.ActedOn z e k := by
  unfold Chan.ActedOn at h ⊢
  rw [henv, hcar] at h
  exact h

theorem Chan.ActedOn.of_own {x y z : Chan} {e : Bool} {k : Nat} (h : y.ActedOn x e k) (ho : z.own = y.own) : z.ActedOn x e k := by
  unfold Chan.ActedOn at h ⊢
  rw [own_env ho, own_car ho]
  exact h

/-! ### SMT (R225, R33, R35) -/

theorem smt_ahead (h : stamp + 6 ≤ nearCount stamp v) :
    ∃ from_, ((s.smtArrive p v act stamp).evtLoad p).chan p = ((s.unpiped p).chan p).smtSet (nearCount stamp v) act from_ false := by
  have hlate : decide (nearCount stamp v < stamp + 6) = false := decide_eq_false (by omega)
  rw [smtArrive_eq]
  simp only [hlate, Bool.false_and]
  rw [if_neg Bool.false_ne_true, evtLoad_held (by rw [setChan_chan]; rfl), setChan_chan]
  exact ⟨_, rfl⟩

/-- What a match that SMT sets leaves of its channel. -/
theorem smtSet_left (s : State) (p M act from_ : Nat) :
    let y := ((s.unpiped p).chan p).smtSet M act from_ false
    y.mtT = M ∧ y.mtArm = true ∧ y.mtAct = act ∧ y.mtPassed = false ∧ y.mhold = true ∧ y.pipe = none ∧ y.env = (s.chan p).env ∧
    y.car = (s.chan p).car := by
  have hown := (unpiped_own (s := s) p).own p
  have henv : ((s.unpiped p).chan p).env = (s.chan p).env := own_env hown
  have hcar : ((s.unpiped p).chan p).car = (s.chan p).car := own_car hown
  exact ⟨rfl, rfl, rfl, rfl, rfl, unpiped_pipe p, henv, hcar⟩

theorem unpiped_tb (p : Nat) : (s.unpiped p).tb = s.tb := (unpiped_still (fun _ => True) p).tb

/-- A match that had passed when SMT came acts at once. -/
theorem smt_late (h : nearCount stamp v < stamp + 6) (h1 : (s.chan p).mtAt ≠ s.tb + 1) (h2 : (s.chan p).pipeAt ≠ s.tb + 1) :
    s.smtArrive p v act stamp =
      ((s.unpiped p).setChan p (((s.unpiped p).chan p).smtSet (nearCount stamp v) act s.tb true)).mtFire p := by
  have hown := (unpiped_own (s := s) p).own p
  have hnow : (s.unpiped p).armFrom ((s.unpiped p).chan p).mtAt ((s.unpiped p).chan p) = s.tb := by
    rw [armFrom_now (by rw [own_mtAt hown, unpiped_tb]; exact h1) (by rw [own_pipeAt hown, unpiped_tb]; exact h2), unpiped_tb]
  have htb (x : Chan) : ((s.unpiped p).setChan p x).tb = s.tb := ((setChan_still (P := fun _ => True) p x).tb).trans (unpiped_tb p)
  rw [smtArrive_eq]
  simp only [decide_eq_true h, hnow, Bool.true_and]
  exact if_pos (by rw [htb]; exact beq_self_eq_true s.tb)

/-- A match at `M` that had passed, just set, fires. -/
theorem smtSet_fires (hp : p < 384) (M : Nat) :
    let b := (((s.unpiped p).setChan p (((s.unpiped p).chan p).smtSet M act s.tb true)).mtFire p).evtLoad p
    (b.chan p).mtT = M ∧ (b.chan p).mtArm = false ∧ (b.chan p).mhold = true ∧
    b.rd (TILE_CH_ERR_PASSED (p / 24) (p % 24)) = satN 8 (s.rd (TILE_CH_ERR_PASSED (p / 24) (p % 24)) + 1) ∧
    (b.chan p).ActedOn (s.chan p) (s.envOn p) act := by
  let x := ((s.unpiped p).chan p).smtSet M act s.tb true
  have hown := (unpiped_own (s := s) p).own p
  have hlevels : ((s.unpiped p).chan p).env = (s.chan p).env ∧ ((s.unpiped p).chan p).car = (s.chan p).car :=
    ⟨own_env hown, own_car hown⟩
  have hset : ((s.unpiped p).setChan p x).chan p = x := setChan_chan _ _ _
  have henv : ((s.unpiped p).setChan p x).envOn p = s.envOn p := envOn_congr ((setChan_regs _ _).trans (unpiped_regs p))
  obtain ⟨σ, n, hfired⟩ := mtFire_chan ((s.unpiped p).setChan p x) p
  rw [hset, henv] at hfired
  have hheld : (((s.unpiped p).setChan p x).mtFire p).evtLoad p = ((s.unpiped p).setChan p x).mtFire p :=
    evtLoad_held (by rw [hfired]; rfl)
  rw [hheld]
  dsimp only
  rw [hfired]
  refine ⟨rfl, rfl, rfl, ?_, (acted_actedOn _ _ _ _ _).of_levels hlevels.1 hlevels.2⟩
  rw [mtFire_passed hp (by rw [hset]; rfl), rd_congr ((setChan_regs _ _).trans (unpiped_regs p))]

/-- What an SMT leaves whose match had passed. -/
theorem smt_acts (hp : p < 384) (h : nearCount stamp v < stamp + 6) (h1 : (s.chan p).mtAt ≠ s.tb + 1) (h2 : (s.chan p).pipeAt ≠ s.tb + 1) :
    let b := (s.smtArrive p v act stamp).evtLoad p
    (b.chan p).mtT = nearCount stamp v ∧ (b.chan p).mtArm = false ∧ (b.chan p).mhold = true ∧
    b.rd (TILE_CH_ERR_PASSED (p / 24) (p % 24)) = satN 8 (s.rd (TILE_CH_ERR_PASSED (p / 24) (p % 24)) + 1) ∧
    (b.chan p).ActedOn (s.chan p) (s.envOn p) act := by
  rw [smt_late h h1 h2]
  exact smtSet_fires hp _

/-! ### SMA and SMC (R226, R34, R35) -/

theorem sma_ahead (h : s.ang.valid = false ∨ s.anglePassed (v % 2 ^ 24) = false) :
    ∃ from_, ((s.smaArrive p v act cpl).evtLoad p).chan p = ((s.unpiped p).chan p).smaSet (v % 2 ^ 24) act from_ cpl false := by
  have hlate : (s.ang.valid && s.anglePassed (v % 2 ^ 24)) = false := by
    rcases h with h | h
    · rw [h, Bool.false_and]
    · rw [h, Bool.and_false]
  rw [smaArrive_eq]
  simp only [hlate, Bool.false_and]
  rw [if_neg Bool.false_ne_true, evtLoad_held (by rw [setChan_chan]; rfl), setChan_chan]
  exact ⟨_, rfl⟩

theorem sma_late (hv : s.ang.valid = true) (h : s.anglePassed (v % 2 ^ 24) = true) (h1 : (s.chan p).maAt ≠ s.tb + 1)
    (h2 : (s.chan p).pipeAt ≠ s.tb + 1) :
    s.smaArrive p v act cpl =
      ((s.unpiped p).setChan p (((s.unpiped p).chan p).smaSet (v % 2 ^ 24) act s.tb cpl true)).maFire p := by
  have hown := (unpiped_own (s := s) p).own p
  have hnow : (s.unpiped p).armFrom ((s.unpiped p).chan p).maAt ((s.unpiped p).chan p) = s.tb := by
    rw [armFrom_now (by rw [own_maAt hown, unpiped_tb]; exact h1) (by rw [own_pipeAt hown, unpiped_tb]; exact h2), unpiped_tb]
  have htb (x : Chan) : ((s.unpiped p).setChan p x).tb = s.tb := ((setChan_still (P := fun _ => True) p x).tb).trans (unpiped_tb p)
  rw [smaArrive_eq]
  simp only [hv, h, hnow, Bool.true_and]
  exact if_pos (by rw [htb]; exact beq_self_eq_true s.tb)

/-- What an SMA or SMC leaves whose match had passed. -/
theorem sma_acts (hp : p < 384) (hv : s.ang.valid = true) (h : s.anglePassed (v % 2 ^ 24) = true) (h1 : (s.chan p).maAt ≠ s.tb + 1)
    (h2 : (s.chan p).pipeAt ≠ s.tb + 1) :
    let b := (s.smaArrive p v act cpl).evtLoad p
    (b.chan p).maA = v % 2 ^ 24 ∧ (b.chan p).maArm = false ∧ (b.chan p).mhold = true ∧
    b.rd (TILE_CH_ERR_PASSED (p / 24) (p % 24)) = satN 8 (s.rd (TILE_CH_ERR_PASSED (p / 24) (p % 24)) + 1) ∧
    (b.chan p).ActedOn (s.chan p) (s.envOn p) act := by
  let x := ((s.unpiped p).chan p).smaSet (v % 2 ^ 24) act s.tb cpl true
  have hown := (unpiped_own (s := s) p).own p
  have hlevels : ((s.unpiped p).chan p).env = (s.chan p).env ∧ ((s.unpiped p).chan p).car = (s.chan p).car :=
    ⟨own_env hown, own_car hown⟩
  have hset : ((s.unpiped p).setChan p x).chan p = x := setChan_chan _ _ _
  have henv : ((s.unpiped p).setChan p x).envOn p = s.envOn p := envOn_congr ((setChan_regs _ _).trans (unpiped_regs p))
  obtain ⟨σ, n, hfired⟩ := maFire_chan ((s.unpiped p).setChan p x) p
  rw [hset, henv] at hfired
  have hheld : (((s.unpiped p).setChan p x).maFire p).evtLoad p = ((s.unpiped p).setChan p x).maFire p :=
    evtLoad_held (by rw [hfired]; rfl)
  rw [sma_late hv h h1 h2, hheld]
  dsimp only
  rw [hfired]
  refine ⟨rfl, rfl, rfl, ?_, (acted_actedOn _ _ _ _ _).of_levels hlevels.1 hlevels.2⟩
  rw [maFire_passed hp (by rw [hset]; rfl), rd_congr ((setChan_regs _ _).trans (unpiped_regs p))]

/-- What a match that SMA or SMC sets leaves of its channel. -/
theorem smaSet_left (s : State) (p k act from_ : Nat) (cpl : Bool) :
    let y := ((s.unpiped p).chan p).smaSet k act from_ cpl false
    y.maA = k ∧ y.maArm = true ∧ y.maCpl = cpl ∧ y.maAct = act ∧ y.maPassed = false ∧ y.mhold = true ∧ y.pipe = none ∧
    y.env = (s.chan p).env ∧ y.car = (s.chan p).car := by
  have hown := (unpiped_own (s := s) p).own p
  have henv : ((s.unpiped p).chan p).env = (s.chan p).env := own_env hown
  have hcar : ((s.unpiped p).chan p).car = (s.chan p).car := own_car hown
  exact ⟨rfl, rfl, rfl, rfl, rfl, rfl, unpiped_pipe p, henv, hcar⟩

/-! ### PIN, CHC and LNK (R230, R233, R247) -/

theorem pin_acts (h : (s.chan p).safe = false) : (((s.pinAct p act).evtLoad p).chan p).ActedOn (s.chan p) (s.envOn p) act := by
  have heq : s.pinAct p act = s.microAct p act := if_neg (by simp [h])
  obtain ⟨σ, n, hn⟩ := microAct_chan (s := s) p act
  have hact : ((s.microAct p act).chan p).ActedOn (s.chan p) (s.envOn p) act := by
    rw [hn]
    exact acted_actedOn _ _ _ _ _
  rw [heq]
  exact hact.of_own ((evtLoad_own p).own p)

theorem pin_held (h : (s.chan p).safe = true) : s.pinAct p act = s := if_pos h

/-- What CHC's operations do to the channel; `t` says whether its time match is armed. -/
def Chan.chc (x : Chan) (ops sact : Nat) (t : Bool) : Chan :=
  let y := if bit ops 0 then { x with mtArm := false, mtPassed := false, maArm := false, maPassed := false, mhold := false, srqFn := false }
    else x
  let y := if bit ops 1 then { y with mtArm := false, mtPassed := false, mtOff := y.mtOff || (y.piped && !x.mtArm && t) } else y
  let y := if bit ops 2 then { y with maArm := false, maPassed := false, maOff := y.maOff || (y.piped && !x.maArm) } else y
  if bit ops 3 then { y with sact := sact, sactArm := true } else y

theorem chcArrive_eq (s : State) (p ops sact : Nat) :
    s.chcArrive p ops sact = s.setChan p ((s.chan p).chc ops sact (s.mtShown p).2) := rfl

theorem chc_mtArm (x : Chan) (ops sact : Nat) (t : Bool) :
    (x.chc ops sact t).mtArm = (x.mtArm && !(bit ops 0 || bit ops 1)) := by
  simp only [Chan.chc, apply_ite Chan.mtArm, ite_self]
  grind

theorem chc_maArm (x : Chan) (ops sact : Nat) (t : Bool) :
    (x.chc ops sact t).maArm = (x.maArm && !(bit ops 0 || bit ops 2)) := by
  simp only [Chan.chc, apply_ite Chan.maArm, ite_self]
  grind

theorem chc_mhold (x : Chan) (ops sact : Nat) (t : Bool) : (x.chc ops sact t).mhold = (x.mhold && !bit ops 0) := by
  simp only [Chan.chc, apply_ite Chan.mhold, ite_self]
  grind

theorem chc_env (x : Chan) (ops sact : Nat) (t : Bool) : (x.chc ops sact t).env = x.env := by
  simp only [Chan.chc, apply_ite Chan.env, ite_self]

theorem chc_car (x : Chan) (ops sact : Nat) (t : Bool) : (x.chc ops sact t).car = x.car := by
  simp only [Chan.chc, apply_ite Chan.car, ite_self]

theorem chc_arms {ops : Nat} (h : bit ops 3 = true) (x : Chan) (sact : Nat) (t : Bool) :
    (x.chc ops sact t).sact = sact ∧ (x.chc ops sact t).sactArm = true := by
  unfold Chan.chc
  rw [if_pos h]
  exact ⟨rfl, rfl⟩

theorem chc_acts (s : State) (p ops sact : Nat) :
    let y := ((s.chcArrive p ops sact).evtLoad p).chan p
    ((bit ops 0 || bit ops 1) = true → y.mtArm = false) ∧ ((bit ops 0 || bit ops 2) = true → y.maArm = false) ∧
    y.mhold = ((s.chan p).mhold && !bit ops 0) ∧ (bit ops 3 = true → y.sact = sact ∧ y.sactArm = true) ∧
    y.env = (s.chan p).env ∧ y.car = (s.chan p).car := by
  have hown : (((s.chcArrive p ops sact).evtLoad p).chan p).own = ((s.chan p).chc ops sact (s.mtShown p).2).own := by
    rw [(evtLoad_own p).own p, chcArrive_eq, setChan_chan]
  dsimp only
  rw [own_mtArm hown, own_maArm hown, own_mhold hown, own_sact hown, own_sactArm hown, own_env hown, own_car hown]
  refine ⟨fun h => ?_, fun h => ?_, chc_mhold _ _ _ _, fun h => chc_arms h _ _ _, chc_env _ _ _ _, chc_car _ _ _ _⟩
  · rw [chc_mtArm, h, Bool.not_true, Bool.and_false]
  · rw [chc_maArm, h, Bool.not_true, Bool.and_false]

/-- The count of event 6 reads what was put. -/
theorem evCount_putCount (s : State) (p : Nat) {n : Nat} (hn : n < 4) : (s.putCount_ p 6 n).evCount p 6 = n := by
  have hlt := rd_lt s (TILE_CH_EVCNT_COUNT (p / 24) (p % 24))
  unfold State.evCount State.putCount_
  rw [rd_wr_self]
  generalize s.rd (TILE_CH_EVCNT_COUNT (p / 24) (p % 24)) = v at hlt
  simp only [bits, putBits, TILE_CH_EVCNT_COUNT] at hlt ⊢
  omega

/-- The keys off the pages of EVT: the counts of events among them. -/
theorem noEvt_tile : NoEvt fun k => k / 131072 ≠ 0x19 := fun _ h => h

/-- A LNK counts event 6 on its channel, and nothing of its levels. -/
theorem lnk_counts (hd : s.dead p = false) (hn : s.evCount p 6 < 3) :
    ((s.chEvent p 6).evtLoad p).evCount p 6 = s.evCount p 6 + 1 ∧ (((s.chEvent p 6).evtLoad p).chan p).own = (s.chan p).own := by
  have hpage : (TILE_CH_EVCNT_COUNT (p / 24) (p % 24)).key / 131072 ≠ 0x19 := by
    rw [key_page (by simp only [TILE_CH_EVCNT_COUNT]; omega) (by simp [TILE_CH_EVCNT_COUNT])]
    simp only [TILE_CH_EVCNT_COUNT]
    omega
  have hafter (u : State) : Still (fun k => k / 131072 ≠ 0x19) u (((u.chevOf p 6).svc p).evtLoad p) :=
    (evtLoad_still noEvt_tile p).after <| (svc_still p).after (chevOf_still p 6)
  have hown := ((evtLoad_own (s := s.chEvent p 6) p).after (chEvent_chansKept p 6).ownKept).own p
  refine ⟨?_, hown⟩
  rw [chEvent_counted hd hn, State.evCount, (hafter _).regs _ hpage]
  exact evCount_putCount s p (by omega)

/-! ### The command that arrives (R32, R36) -/

/-- What command `op`, stamped `stamp`, does to the channel that it reaches. -/
def State.opApply (s : State) (p stamp : Nat) (op : CqOp) : State :=
  match op with
  | .smt v a => s.smtArrive p v a stamp
  | .sma a act => s.smaArrive p a act false
  | .smc a act => s.smaArrive p a act true
  | .pin a => s.pinAct p a
  | .chc ops sact => s.chcArrive p ops sact
  | .lnk => s.chEvent p 6

theorem cqApply_live {c : CqCmd} (hp : w.physOf c.ch = some p) (hd : w.dead p = false) :
    w.cqApply c = w.opApply p c.stamp c.op := by
  unfold State.cqApply
  rw [hp]
  exact if_neg (by rw [hd]; exact Bool.false_ne_true)

theorem smtArrive_quiet : Quiet s (s.smtArrive p v act stamp) := by
  rw [smtArrive_eq]
  have hset : Quiet s (s.unpiped p) := unpiped_still _ p
  exact .ite ((mtFire_quiet p).after <| (setChan_still _ _).after hset) ((setChan_still _ _).after hset)

theorem smaArrive_quiet : Quiet s (s.smaArrive p v act cpl) := by
  rw [smaArrive_eq]
  have hset : Quiet s (s.unpiped p) := unpiped_still _ p
  exact .ite ((maFire_quiet p).after <| (setChan_still _ _).after hset) ((setChan_still _ _).after hset)

theorem cqApply_quiet (c : CqCmd) : Quiet s (s.cqApply c) := by
  unfold State.cqApply
  split
  · exact .refl s
  · refine .ite (.refl s) ?_
    split
    · exact smtArrive_quiet
    · exact smaArrive_quiet
    · exact smaArrive_quiet
    · exact .ite (.refl s) (microAct_still _ _).quiet
    · exact setChan_still _ _
    · exact chEvent_quiet _ _

theorem cqArrive_eq {g : Nat} {c : CqCmd} {r : List CqCmd} (hcq : (a.eng g).cq = c :: r) (hp : a.physOf c.ch = some p) :
    a.cqArrive g =
      ((if c.op = .lnk then a.setEng g { a.eng g with cq := r } else (a.setEng g { a.eng g with cq := r }).beforeCmd p).cqApply c).evtLoad p := by
  have hp' : (a.setEng g { a.eng g with cq := r }).physOf c.ch = some p := hp
  simp only [State.cqArrive, hcq, hp']

/-- The engine's queue keeps the rest in its order. -/
theorem cqArrive_rest {g : Nat} {c : CqCmd} {r : List CqCmd} (hcq : (a.eng g).cq = c :: r) (hp : a.physOf c.ch = some p) :
    ((a.cqArrive g).eng g).cq = r := by
  have hbefore (u : State) : Quiet u (if c.op = .lnk then u else u.beforeCmd p) := .ite (.refl u) (beforeCmd_quiet p)
  have hall (u : State) : Quiet u (((if c.op = .lnk then u else u.beforeCmd p).cqApply c).evtLoad p) :=
    (evtLoad_quiet p).after <| (cqApply_quiet c).after (hbefore u)
  rw [cqArrive_eq hcq hp, (hall _).eng g, setEng_eng]

end

theorem keep_chan (a b : State) (p : Nat) : (a.keep b).chan p = b.chan p := rfl

/-- Settles O25: the command's own step from the state after what the channel had due, then the load of the pipeline. -/
theorem commandQueueArrival : Obligations.CommandQueueArrival := by
  intro s a w t g c r p ha hok hcq hp hw hwp hd
  have hpl := (physOf_lt hp).1
  have hact : exec (.cmdQueueArrival t g) s = .next (a.keep (a.cqArrive g)) := by subst ha; exact (exec_cmdQueueArrival t g s).trans (act_on hok)
  have hrest := cqArrive_rest hcq hp
  have harrive {op : CqOp} (hop : c.op = op) (hne : op ≠ .lnk) : a.cqArrive g = (w.opApply p c.stamp op).evtLoad p := by
    rw [cqArrive_eq hcq hp, if_neg (by rw [hop]; exact hne), ← hw, cqApply_live hwp hd, hop]
  refine ⟨fun act hop hsafe => ?pin, fun act hop hsafe => ?pinHeld, fun v act hop hahead => ?smt, fun v act hop hlate h1 h2 => ?smtLate,
    fun v act hop hahead => ?sma, fun v act hop hv hlate h1 h2 => ?smaLate, fun v act hop hahead => ?smc,
    fun v act hop hv hlate h1 h2 => ?smcLate, fun ops act hop => ?chc, fun hop hda hn => ?lnk⟩
  all_goals
    refine ⟨_, hact, hrest, ?_⟩
  case pin =>
    rw [keep_chan, harrive hop nofun]
    exact pin_acts hsafe
  case pinHeld =>
    have hown := (evtLoad_own (s := w) p).own p
    rw [keep_chan, harrive hop nofun, State.opApply, pin_held hsafe]
    exact ⟨own_env hown, own_car hown⟩
  case smt =>
    obtain ⟨n, hn⟩ := smt_ahead (s := w) (p := p) (act := act) hahead
    rw [keep_chan, harrive hop nofun, State.opApply, hn]
    exact smtSet_left w p _ act n
  case smtLate =>
    rw [keep_chan, keep_rd, harrive hop nofun, State.opApply]
    exact smt_acts hpl hlate h1 h2
  case sma =>
    obtain ⟨n, hn⟩ := sma_ahead (p := p) (act := act) (cpl := false) hahead
    rw [keep_chan, harrive hop nofun, State.opApply, hn]
    exact smaSet_left w p _ act n _
  case smaLate =>
    rw [keep_chan, keep_rd, harrive hop nofun, State.opApply]
    exact sma_acts (cpl := false) hpl hv hlate h1 h2
  case smc =>
    obtain ⟨n, hn⟩ := sma_ahead (p := p) (act := act) (cpl := true) hahead
    rw [keep_chan, harrive hop nofun, State.opApply, hn]
    exact smaSet_left w p _ act n _
  case smcLate =>
    rw [keep_chan, keep_rd, harrive hop nofun, State.opApply]
    exact sma_acts (cpl := true) hpl hv hlate h1 h2
  case chc =>
    rw [keep_chan, harrive hop nofun]
    exact chc_acts w p ops act
  case lnk =>
    have heq : a.cqArrive g = (((a.setEng g { a.eng g with cq := r }).chEvent p 6).evtLoad p) := by
      rw [cqArrive_eq hcq hp, if_pos hop, cqApply_live (w := a.setEng g { a.eng g with cq := r }) hp hda, hop]
      rfl
    obtain ⟨hcount, hown⟩ := lnk_counts (s := a.setEng g { a.eng g with cq := r }) hda hn
    rw [keep_chan, heq]
    exact ⟨hcount, own_env hown, own_car hown⟩

end Sys2Proof.Machine
end


section
/-! Proof about sleep and debug halt: what ends when the device goes to sleep. -/

namespace Sys2Proof.Machine

open Reg

section

variable {s a b u : State} {x e t k : Nat}

/-! ### Converters and cylinder contexts leave what channels leave (R297, R331, R346) -/

theorem not_chanKept_cbc {f : Field} (hp : 0x40 ≤ f.page) (ho : f.off < 4096) (hl : f.lo < 32) : ¬ chanKept f.key := by
  rw [chanKept_iff ho hl]
  omega

theorem setCv_still {P : Nat → Prop} (x : Nat) (c : ConvS) : Still P s (s.setCv x c) := .same rfl rfl rfl rfl

theorem modCyl_still {P : Nat → Prop} (k : Nat) (f : CylS → CylS) : Still P s (s.modCyl k f) := .same rfl rfl rfl rfl

/-- A field of a converter's CONV_STAT. -/
theorem wrConv_still {f : Field} (v : Nat) (hp : f.page = 0x60 + x) (ho : f.off < 4096) (hl : f.lo < 32) : Still chanKept s (s.wr f v) :=
  wr_still v (not_chanKept_cbc (by omega) ho hl)

theorem convState_still (x v : Nat) : Still chanKept s (s.wr (CBC_CONV_STAT_STATE x) v) :=
  wrConv_still v rfl (by simp [CBC_CONV_STAT_STATE]) (by simp [CBC_CONV_STAT_STATE])

theorem openWin_still (late long : Bool) : Still chanKept s (s.openWin x t late long) :=
  (convState_still _ _).after <|
    (wrConv_still (x := x) _ rfl (by simp [CBC_CONV_STAT_SETTLE_LEFT]) (by simp [CBC_CONV_STAT_SETTLE_LEFT])).after (setCv_still _ _)

theorem loadEntry_still : Still chanKept s (s.loadEntry x e) :=
  (wrConv_still (x := x) _ rfl (by simp [CBC_CONV_STAT_ENTRY]) (by simp [CBC_CONV_STAT_ENTRY])).after (setCv_still _ _)

theorem startEntry_still (bnd late : Bool) : Still chanKept s (s.startEntry x e t bnd late) :=
  .ite ((convState_still _ _).after loadEntry_still) ((openWin_still _ _).after loadEntry_still)

theorem toIdle_still : Still chanKept s (s.toIdle x t) := by
  have hidle (c : ConvS) : Still chanKept s ((s.setCv x c).wr (CBC_CONV_STAT_STATE x) 1) := (convState_still _ _).after (setCv_still _ _)
  have hpend (u : State) : Still chanKept u (u.wr (CBC_CONV_STAT_PEND x) 0) :=
    wrConv_still (x := x) _ rfl (by simp [CBC_CONV_STAT_PEND]) (by simp [CBC_CONV_STAT_PEND])
  exact .ite ((startEntry_still _ _).after (hidle _)) (.ite ((startEntry_still _ _).after <| (hpend _).after (hidle _)) (hidle _))

theorem closeWin_still (cause bidx : Nat) (late : Bool) : Still chanKept s (s.closeWin x t cause bidx late) := by
  unfold State.closeWin
  dsimp only
  split
  · exact .refl s
  · exact setCv_still _ _

theorem cvAbort_still (cause : Nat) : Still chanKept s (s.cvAbort x cause) :=
  .ite (toIdle_still.after <| (setCv_still _ _).after (closeWin_still _ _ _)) (.refl s)

theorem tapEnd_still (cause : Nat) : Still chanKept s (s.tapEnd x cause) := by
  unfold State.tapEnd
  dsimp only
  split
  · exact setCv_still _ _
  · exact .refl s

theorem cvSyncLoss_still : Still chanKept s s.cvSyncLoss :=
  .foldl (fun _ _ _ => .ite ((cvAbort_still _).after (tapEnd_still _)) (tapEnd_still _)) s

/-- A register of a cylinder context. -/
theorem wrCyl_still {f : Field} (v : Nat) (hp : f.page = 0x90 + k) (ho : f.off < 4096) (hl : f.lo < 32) : Still chanKept s (s.wr f v) :=
  wr_still v (not_chanKept_cyl (by omega) ho hl)

theorem trimDrop_still (tm : Bool) : Still chanKept s (s.trimDrop k tm) := by
  have hdst (u : State) (o : Option (Nat × Nat)) : Still chanKept u (match o with
      | some (p, _) =>
        let c : Chan := tget {} u.chans p
        let c := { c with held := c.held.filter fun h => h.cmu != some (k, tm) }
        { u with chans := tput {} u.chans p c }
      | none => u) := by
    split
    · exact .same rfl rfl rfl rfl
    · exact .refl u
  unfold State.trimDrop
  split
  · exact .refl s
  · exact (wrCyl_still (k := k) _ rfl (by simp [CYL_LOOP_CNT_DROP]) (by simp [CYL_LOOP_CNT_DROP])).after <|
      (modCyl_still _ _).after (hdst s _)

theorem trimUndo_still (tm : Bool) : Still chanKept s (s.trimUndo k tm) := by
  have hi (u : State) (v : Nat) : Still chanKept u (u.wr (loopI tm k) v) := by
    cases tm
    · exact wrCyl_still (k := k) v rfl (by simp [loopI, CYL_Q_I_W]) (by simp [loopI, CYL_Q_I_W])
    · exact wrCyl_still (k := k) v rfl (by simp [loopI, CYL_A_I_W]) (by simp [loopI, CYL_A_I_W])
  have hout (u : State) (v : Nat) : Still chanKept u (u.wr (loopOut tm k) v) := by
    cases tm
    · exact wrCyl_still (k := k) v rfl (by simp [loopOut, CYL_Q_OUT_W]) (by simp [loopOut, CYL_Q_OUT_W])
    · exact wrCyl_still (k := k) v rfl (by simp [loopOut, CYL_A_OUT_W]) (by simp [loopOut, CYL_A_OUT_W])
  unfold State.trimUndo
  split
  · exact .refl s
  · exact (hout _ _).after <| (hi _ _).after (trimDrop_still tm)

theorem cmuLeave_still : Still chanKept s s.cmuLeave :=
  .foldl (fun _ _ _ => (trimUndo_still _).after <| (trimUndo_still _).after (modCyl_still _ _)) s

/-! ### The pipeline loses synchronisation (R218, R220) -/

theorem evtEmpty_still (loss : Bool) : Still chanKept s (s.evtEmpty loss) := by
  have hwithdrawn : Still chanKept s (s.evt.slots.foldl State.withdraw s) := .foldl (fun _ o _ => withdraw_still chanKept_noEvt o) s
  refine Still.after (Still.foldl (fun u p _ => ?_) _) hwithdrawn
  split
  · exact safeEnd_still p
  · exact safeEnd_still p
  · exact (pipeAct_still _ _ _).after (release_still p)
  · exact .ite (safeEnd_still p) (.refl u)

theorem evtState_still (n : Nat) : Still chanKept s (s.evtState n) :=
  (iflag_still _ (not_chanKept_iflag _)).after (wr_still _ (chanKept_noEvt.not (by decide)))

theorem putEntry_still {P : Nat → Prop} (i : Nat) (y : Entry4) : Still P s (s.putEntry i y) := by
  have hmem (m : List Host.Cell) : Still P s { s with mem := m } := .same rfl rfl rfl rfl
  unfold State.putEntry
  exact hmem _

theorem evtTake_still {P : Nat → Prop} (i : Nat) (y : Entry4) : Still P s (s.evtTake i y) := by
  have hlater (u : State) (l : List (Nat × Nat × Entry4)) : Still P u { u with evt := { u.evt with later := l } } := .same rfl rfl rfl rfl
  exact (putEntry_still i y).after (hlater s _)

theorem evtSettle_still {P : Nat → Prop} : Still P s s.evtSettle := by
  have hlater (u : State) (l : List (Nat × Nat × Entry4)) : Still P u (l.foldl (fun s x => s.evtTake x.1 x.2.2) u) :=
    .foldl (fun _ _ _ => evtTake_still _ _) u
  have himm (u : State) (l : List (Nat × Entry4)) : Still P u (l.foldl (fun s x => s.evtTake x.1 x.2) u) :=
    .foldl (fun _ _ _ => evtTake_still _ _) u
  have hforget (u : State) : Still P u { u with evt := { u.evt with imm := [], kept := [] } } := .same rfl rfl rfl rfl
  exact (himm _ _).after <| (hforget _).after (hlater s _)

/-- A loss of synchronisation leaves what channels leave. -/
theorem evtLoss_still : Still chanKept s s.evtLoss := by
  have hrun (u : State) (v : Nat) : Still chanKept u (u.wr EVT_CTRL_RUN v) := wr_still v (chanKept_noEvt.not (by decide))
  exact .ite (evtSettle_still.after <| (hrun _ _).after <| (evtState_still _).after <| cmuLeave_still.after <|
    cvSyncLoss_still.after (evtEmpty_still _)) (.refl s)

end

end Sys2Proof.Machine
end


section
/-! Proof about sleep and debug halt, continued: the requests of R47, and the halt and resumption of the engines. -/

namespace Sys2Proof.Machine

open Reg

section

variable {s a b u : State} {g cause v code : Nat} {maint : Bool}

/-! ### Output driving ends (R267) -/

theorem chanKept_armStat : chanKept OUT_ARM_STAT_STATE.key ∧ chanKept OUT_ARM_STAT_TRIP_CAUSE.key := by
  unfold chanKept
  decide

/-- What a trip writes before the pins follow. -/
def State.tripMarks (s : State) (cause : Nat) : State :=
  ((((s.wr OUT_ARM_STAT_STATE 2).wr OUT_ARM_STAT_TRIP_CAUSE cause).iflag 0x38 2).wr OUT_ARM_STAT_DPA_ACT 0).wr OUT_ARM_STAT_DPB_ACT 0

/-- The acts of a trip before the pending request is dropped. -/
def State.tripActs (s s0 : State) : State := (s.softAll s0 fun _ => true).quenchAll

theorem outTrip_armed (h : s.armed = true) :
    s.outTrip cause = ((s.tripMarks cause).tripActs s).wr OUT_ARM_STAT_PENDING 0 := if_pos h

theorem outTrip_idle (h : s.armed = false) : s.outTrip cause = s.wr OUT_ARM_STAT_PENDING 0 := if_neg (by simp [h])

theorem tripActs_still (s0 : State) : Still chanKept s (s.tripActs s0) :=
  (quenchAll_still chanKept_noPhase).after (softAll_still not_chanKept_softCnt (not_chanKept_iflag _) _ _)

/-- A trip shows in ARM_STAT, and nothing is armed or pending after it. -/
theorem outTrip_left (s : State) (hc : cause < 16) :
    (s.outTrip cause).armed = false ∧ (s.outTrip cause).rd OUT_ARM_STAT_PENDING = 0 ∧
    (s.armed = true → (s.outTrip cause).rd OUT_ARM_STAT_STATE = 2 ∧ (s.outTrip cause).rd OUT_ARM_STAT_TRIP_CAUSE = cause) := by
  have hpend (u : State) : (u.wr OUT_ARM_STAT_PENDING 0).rd OUT_ARM_STAT_PENDING = 0 := rd_wr_self _ _ _
  by_cases h : s.armed = true
  · have hst : (s.outTrip cause).rd OUT_ARM_STAT_STATE = 2 := by
      rw [outTrip_armed h, rd_wr_ne _ _ _ _ (by decide), (tripActs_still s).regs _ chanKept_armStat.1, State.tripMarks,
        rd_wr_ne _ _ _ _ (by decide), rd_wr_ne _ _ _ _ (by decide), State.iflag, setBits_rd_ne _ _ (by decide),
        rd_wr_ne _ _ _ _ (by decide), rd_wr_self]
      rfl
    have hcause : (s.outTrip cause).rd OUT_ARM_STAT_TRIP_CAUSE = cause := by
      rw [outTrip_armed h, rd_wr_ne _ _ _ _ (by decide), (tripActs_still s).regs _ chanKept_armStat.2, State.tripMarks,
        rd_wr_ne _ _ _ _ (by decide), rd_wr_ne _ _ _ _ (by decide), State.iflag, setBits_rd_ne _ _ (by decide), rd_wr_self]
      exact Nat.mod_eq_of_lt hc
    refine ⟨?_, ?_, fun _ => ⟨hst, hcause⟩⟩
    · rw [State.armed, hst]; rfl
    · rw [outTrip_armed h, hpend]
  · have hno : s.armed = false := by simpa using h
    refine ⟨?_, ?_, fun hc => absurd hc h⟩
    · rw [outTrip_idle hno, State.armed, rd_wr_ne _ _ _ _ (by decide)]
      exact hno
    · rw [outTrip_idle hno, hpend]

/-! ### What a request leads to (R47) -/

/-- What a request for sleep does that no check turns away. -/
def State.sleepEntered (s : State) : State :=
  ((((s.modPwr fun p => { p with lfEnding := false }).outTrip 3).evtLoss).modPwr fun p => { p with sleep := .entering })

/-- What a request for debug halt does that no check turns away. -/
def State.dhaltEntered (s : State) : State :=
  ((((s.modPwr fun p => { p with lfEnding := false }).wr CLK_PWR_STAT_STATE 2).wr CLK_PWR_CTRL_DHALT 1).gelHaltAll).outTrip 3

/-- A request that a check turns away: the code, its flag and its record. -/
def State.pwrRefused (s : State) (code : Nat) : State :=
  ((s.wr CLK_PWR_STAT_REFUSE code).iflag 1 1).cfgRec (srcId 3 0x20 0xF) code 0xFFF

theorem pwrReq_sleep (hst : s.rd CLK_PWR_STAT_STATE ≠ 2) (hs : s.pwr.sleep = .awake) (h0 : bit v 0 = true)
    (hc : s.pwrCheck maint v = none) : s.pwrReq maint v = s.sleepEntered := by
  unfold State.pwrReq
  rw [if_neg hst, if_neg (by simp [hs, h0]), hc]
  exact if_pos h0

theorem pwrReq_dhalt (hst : s.rd CLK_PWR_STAT_STATE ≠ 2) (hs : s.pwr.sleep = .awake) (h0 : bit v 0 = false) (h1 : bit v 1 = true)
    (hc : s.pwrCheck maint v = none) : s.pwrReq maint v = s.dhaltEntered := by
  unfold State.pwrReq
  rw [if_neg hst, if_neg (by simp [hs, h1]), hc]
  exact if_neg (by simp [h0])

theorem pwrReq_refused (hst : s.rd CLK_PWR_STAT_STATE ≠ 2) (hs : s.pwr.sleep = .awake) (h01 : (bit v 0 || bit v 1) = true)
    (hc : s.pwrCheck maint v = some code) : s.pwrReq maint v = s.pwrRefused code := by
  unfold State.pwrReq
  rw [if_neg hst, if_neg (by simp [hs, h01]), hc]
  rfl

/-- What the end of debug halt does. -/
def State.dhaltLeft (s : State) : State :=
  let b := (s.wr CLK_PWR_STAT_STATE 0).wr CLK_PWR_CTRL_DHALT 0
  (b.modPwr fun p => { p with lfEnding := s.on TB_TB_STAT_LFMODE }).gelResumeAll

theorem pwrReq_exit (hst : s.rd CLK_PWR_STAT_STATE = 2) (hk : bits v 24 8 = 0x5A) (h1 : bit v 1 = false) :
    s.pwrReq true v = s.dhaltLeft := by
  have hon : ((s.wr CLK_PWR_STAT_STATE 0).wr CLK_PWR_CTRL_DHALT 0).on TB_TB_STAT_LFMODE = s.on TB_TB_STAT_LFMODE := by
    rw [State.on, rd_wr_ne _ _ _ _ (by decide), rd_wr_ne _ _ _ _ (by decide)]
    rfl
  unfold State.pwrReq State.dhaltLeft
  rw [if_pos hst, if_pos ⟨hk, by simp [h1], rfl⟩]
  dsimp only
  rw [hon]

/-- A request for sleep that is taken ends output driving. -/
theorem sleepEntered_left (s : State) :
    s.sleepEntered.pwr.sleep = .entering ∧ s.sleepEntered.armed = false ∧ s.sleepEntered.on OUT_ARM_STAT_PENDING = false ∧
    (s.armed = true → s.sleepEntered.rd OUT_ARM_STAT_STATE = 2 ∧ s.sleepEntered.rd OUT_ARM_STAT_TRIP_CAUSE = 3) := by
  have hpend : chanKept OUT_ARM_STAT_PENDING.key := by unfold chanKept; decide
  obtain ⟨harm, hno, htrip⟩ := outTrip_left (s.modPwr fun p => { p with lfEnding := false }) (cause := 3) (by decide)
  have hloss := evtLoss_still (s := (s.modPwr fun p => { p with lfEnding := false }).outTrip 3)
  have hrd {f : Field} (hf : chanKept f.key) : s.sleepEntered.rd f = ((s.modPwr fun p => { p with lfEnding := false }).outTrip 3).rd f :=
    hloss.regs f hf
  refine ⟨rfl, ?_, ?_, fun h => ?_⟩
  · rw [State.armed, hrd chanKept_armStat.1]
    exact harm
  · rw [State.on, hrd hpend, hno]
    rfl
  · rw [hrd chanKept_armStat.1, hrd chanKept_armStat.2]
    exact htrip h

/-! ### Engines halt with the device, and resume (R49) -/

/-- One engine of `gelHaltAll`. -/
def State.haltOne (s : State) (g : Nat) : State :=
  if s.rd (GEL_GEL_STAT_STATE g) = 1 ∨ s.rd (GEL_GEL_STAT_STATE g) = 2 then s.dhaltHold g else s

theorem gelHaltAll_eq (s : State) : s.gelHaltAll = (List.range 4).foldl State.haltOne s := rfl

/-- A register of a page other than OUT that is no flag and no state of the engine stands. -/
theorem haltOne_rd {f : Field} (hpage : f.key / 131072 ≠ 0x38) (h1 : f.key ≠ (GEL_GEL_STAT_STATE g).key)
    (h2 : f.key ≠ (PG_IFLAG_FLAG (0x30 + g)).key) : (s.haltOne g).rd f = s.rd f := by
  unfold State.haltOne
  split
  · exact gelHalted_rd hpage h1 h2
  · rfl

theorem state_ne {h : Nat} (hne : h ≠ g) : (GEL_GEL_STAT_STATE g).key ≠ (GEL_GEL_STAT_STATE h).key := by
  simp only [Field.key, GEL_GEL_STAT_STATE]
  omega

theorem state_ne_flag (g h : Nat) : (GEL_GEL_STAT_STATE g).key ≠ (PG_IFLAG_FLAG (0x30 + h)).key := by
  simp only [Field.key, GEL_GEL_STAT_STATE, PG_IFLAG_FLAG]
  omega

theorem state_page (hg : g < 4) : (GEL_GEL_STAT_STATE g).key / 131072 ≠ 0x38 :=
  gel_page hg rfl (by simp [GEL_GEL_STAT_STATE]) (by simp [GEL_GEL_STAT_STATE])

/-- An engine that is halted stays so while others halt. -/
theorem haltOne_halted (hg : g < 4) (h : Nat) (hst : s.rd (GEL_GEL_STAT_STATE g) = 3) : (s.haltOne h).rd (GEL_GEL_STAT_STATE g) = 3 := by
  by_cases hh : h = g
  · subst hh
    rw [State.haltOne, if_neg (by omega), hst]
  · rw [haltOne_rd (state_page hg) (state_ne hh) (state_ne_flag g h), hst]

theorem haltOne_runs (hg : g < 4) (hst : s.rd (GEL_GEL_STAT_STATE g) = 1 ∨ s.rd (GEL_GEL_STAT_STATE g) = 2) :
    (s.haltOne g).rd (GEL_GEL_STAT_STATE g) = 3 := by
  rw [State.haltOne, if_pos hst]
  exact (gelHalted_marks hg).1

theorem haltMany_halted (hg : g < 4) (l : List Nat) (hst : s.rd (GEL_GEL_STAT_STATE g) = 3) :
    (l.foldl State.haltOne s).rd (GEL_GEL_STAT_STATE g) = 3 :=
  List.foldlRecOn (motive := fun r : State => r.rd (GEL_GEL_STAT_STATE g) = 3) l _ hst fun _ hr h _ => haltOne_halted hg h hr

/-- Each engine among `l` that runs is HALTED in the end. -/
theorem haltMany_runs (hg : g < 4) {l : List Nat} (hl : g ∈ l)
    (hst : s.rd (GEL_GEL_STAT_STATE g) = 1 ∨ s.rd (GEL_GEL_STAT_STATE g) = 2) : (l.foldl State.haltOne s).rd (GEL_GEL_STAT_STATE g) = 3 := by
  induction l generalizing s with
  | nil => cases hl
  | cons h l ih =>
    by_cases hh : h = g
    · subst hh
      exact haltMany_halted hg l (haltOne_runs hg hst)
    · have hne : g ≠ h := fun e => hh e.symm
      exact ih (List.mem_of_ne_of_mem hne hl) (by rw [haltOne_rd (state_page hg) (state_ne hh) (state_ne_flag g h)]; exact hst)

/-- The halt of all engines leaves the registers of CLK. -/
theorem gelHaltAll_clk {f : Field} (hf : f.page = 1 ∧ 0x40 ≤ f.off ∧ f.off < 4096 ∧ f.lo < 32) : s.gelHaltAll.rd f = s.rd f := by
  obtain ⟨hp, -, ho, hl⟩ := hf
  have hpage := key_page ho hl
  rw [gelHaltAll_eq]
  refine List.foldlRecOn (motive := fun r : State => r.rd f = s.rd f) _ _ rfl fun r hr g _ => ?_
  refine (haltOne_rd (by rw [hpage, hp]; decide) (fun e => ?_) (fun e => ?_)).trans hr
  · have := key_page (f := GEL_GEL_STAT_STATE g) (by simp [GEL_GEL_STAT_STATE]) (by simp [GEL_GEL_STAT_STATE])
    rw [← e, hpage, hp] at this
    simp only [GEL_GEL_STAT_STATE] at this
    omega
  · have := key_page (f := PG_IFLAG_FLAG (0x30 + g)) (by simp [PG_IFLAG_FLAG]) (by simp [PG_IFLAG_FLAG])
    rw [← e, hpage, hp] at this
    simp only [PG_IFLAG_FLAG] at this
    omega

/-- What debug halt leaves: its state, outputs no more driven, the engines that ran HALTED. -/
theorem dhaltEntered_left (s : State) :
    s.dhaltEntered.rd CLK_PWR_STAT_STATE = 2 ∧ s.dhaltEntered.rd CLK_PWR_CTRL_DHALT = 1 ∧ s.dhaltEntered.armed = false ∧
    ∀ g : Fin 4, (s.rd (GEL_GEL_STAT_STATE g) = 1 ∨ s.rd (GEL_GEL_STAT_STATE g) = 2) → s.dhaltEntered.rd (GEL_GEL_STAT_STATE g) = 3 := by
  let b := ((s.modPwr fun p => { p with lfEnding := false }).wr CLK_PWR_STAT_STATE 2).wr CLK_PWR_CTRL_DHALT 1
  have htrip : Still (fun k => chanKept k ∧ k / 131072 ≠ 0x38) b.gelHaltAll (b.gelHaltAll.outTrip 3) :=
    outTripFrom_still (fun _ h => h.2) (fun k i hk hi h => chanKept_noPhase k i hk hi h.1) _ _
  have hclk {f : Field} (hf : f.page = 1 ∧ 0x40 ≤ f.off ∧ f.off < 4096 ∧ f.lo < 32) : s.dhaltEntered.rd f = b.rd f := by
    have hkey := key_page hf.2.2.1 hf.2.2.2
    have hkept : chanKept f.key := by
      rw [chanKept_iff hf.2.2.1 hf.2.2.2]
      omega
    exact (htrip.regs f ⟨hkept, by rw [hkey, hf.1]; decide⟩).trans (gelHaltAll_clk hf)
  refine ⟨?_, ?_, (outTrip_left _ (by decide)).1, fun g hst => ?_⟩
  · rw [hclk (by decide), rd_wr_ne _ _ _ _ (by decide), rd_wr_self]; rfl
  · rw [hclk (by decide), rd_wr_self]; rfl
  · have hne (f : Field) (hf : f.page = 1) (ho : f.off < 4096) (hl : f.lo < 32) : (GEL_GEL_STAT_STATE g).key ≠ f.key := fun e => by
      have h1 := key_page (f := GEL_GEL_STAT_STATE g) (by simp [GEL_GEL_STAT_STATE]) (by simp [GEL_GEL_STAT_STATE])
      rw [e, key_page ho hl, hf] at h1
      simp only [GEL_GEL_STAT_STATE] at h1
      omega
    have hb : b.rd (GEL_GEL_STAT_STATE g) = s.rd (GEL_GEL_STAT_STATE g) := by
      rw [rd_wr_ne _ _ _ _ (hne _ rfl (by decide) (by decide)), rd_wr_ne _ _ _ _ (hne _ rfl (by decide) (by decide))]
      rfl
    have hkept : chanKept (GEL_GEL_STAT_STATE g).key :=
      chanKept_gelStat g.isLt rfl (by simp [GEL_GEL_STAT_STATE]) (by simp [GEL_GEL_STAT_STATE])
    exact (htrip.regs _ ⟨hkept, state_page g.isLt⟩).trans
      (haltMany_runs g.isLt (List.mem_range.2 g.isLt) (by rw [hb]; exact hst))

/-- Keys of the fields of CLK past its header. -/
def onClk (k : Nat) : Prop := k / 131072 = 1 ∧ 0x40 ≤ k / 32 % 4096

theorem onClk_of {f : Field} (hf : f.page = 1 ∧ 0x40 ≤ f.off ∧ f.off < 4096 ∧ f.lo < 32) : onClk f.key := by
  obtain ⟨hp, ho, ho', hl⟩ := hf
  unfold onClk
  rw [key_page ho' hl, key_off ho' hl]
  exact ⟨hp, ho⟩

theorem onClk_kept {k : Nat} (h : onClk k) : chanKept k ∧ faultKept k ∧ overKept k := by
  have hk : chanKept k := by
    unfold onClk at h
    unfold chanKept
    omega
  unfold onClk at h
  refine ⟨hk, ⟨⟨hk, ?_⟩, hk, ?_⟩, hk, ?_⟩ <;> omega

/-- Steps that leave CLK and the power state. -/
structure ClkKept (s s' : State) : Prop where
  regs : ∀ f : Field, onClk f.key → s'.rd f = s.rd f
  pwr : s'.pwr = s.pwr

theorem ClkKept.refl (s : State) : ClkKept s s := ⟨fun _ _ => rfl, rfl⟩

theorem ClkKept.after {c : State} (k : ClkKept b c) (h : ClkKept a b) : ClkKept a c :=
  ⟨fun f hf => (k.regs f hf).trans (h.regs f hf), k.pwr.trans h.pwr⟩

theorem Still.clkKept (h : Still chanKept a b) : ClkKept a b := ⟨fun f hf => h.regs f (onClk_kept hf).1, h.pwr⟩

theorem threadOver_clkKept (g : Nat) : ClkKept s (s.threadOver g) := by
  refine ⟨fun f hf => threadOver_rd (onClk_kept hf).2.2, ?_⟩
  by_cases h : (s.eng g).thread = true
  · exact (threadOver_still h).pwr
  · rw [threadOver_idle h]

theorem threadFault_clkKept (g cause : Nat) (quiet : Bool) : ClkKept s (s.threadFault g cause quiet) := by
  have hend : ClkKept s (s.faultEnd g cause quiet) :=
    ⟨fun f hf => faultEnd_still.regs f (onClk_kept hf).2.1, faultEnd_still.pwr⟩
  rw [threadFault_eq]
  exact (threadOver_clkKept g).after hend

/-- An engine that goes on leaves CLK and the power state. -/
theorem gelGoOn_clkKept (g : Nat) : ClkKept s (s.gelGoOn g) := by
  have hwr (u : State) (n : Nat) : ClkKept u (u.wr (GEL_GEL_STAT_STATE g) n) := by
    refine ⟨fun f hf => rd_wr_ne _ _ _ _ fun e => ?_, rfl⟩
    have hp := key_page (f := GEL_GEL_STAT_STATE g) (by simp [GEL_GEL_STAT_STATE]) (by simp [GEL_GEL_STAT_STATE])
    have h1 := hf.1
    rw [e, hp] at h1
    simp only [GEL_GEL_STAT_STATE] at h1
    omega
  have hend : ClkKept s (s.goOnEnd g) := by
    have hif (u : State) (c : Bool) : ClkKept u (if c then u.threadFault g 0 true else u) := by
      split
      · exact threadFault_clkKept _ _ _
      · exact .refl u
    exact (hif _ _).after (hwr s _)
  by_cases hst : s.rd (GEL_GEL_STAT_STATE g) = 3
  · cases hsafe : s.on (PG_CTRL_DEBUG_SAFE (0x30 + g)) with
    | false =>
      rw [gelGoOn_plain hst hsafe]
      exact hwr s _
    | true =>
      rw [gelGoOn_safe hst hsafe]
      exact ((follow_still s).after (safeServed_still g)).clkKept.after hend
  · rw [State.gelGoOn, if_pos hst]
    exact .refl s

theorem gelResumeAll_clkKept : ClkKept (s.modPwr fun p => { p with dhalted := [] }) s.gelResumeAll := by
  refine List.foldlRecOn (motive := fun r => ClkKept (s.modPwr fun p => { p with dhalted := [] }) r) _ _ (.refl _) fun r hr g _ => ?_
  split
  · exact hr
  · exact (gelGoOn_clkKept g).after hr

/-- What the end of debug halt leaves. -/
theorem dhaltLeft_left (s : State) :
    s.dhaltLeft.rd CLK_PWR_STAT_STATE = 0 ∧ s.dhaltLeft.rd CLK_PWR_CTRL_DHALT = 0 ∧ s.dhaltLeft.pwr.dhalted = [] ∧
    s.dhaltLeft.pwr.lfEnding = s.on TB_TB_STAT_LFMODE := by
  let b := (s.wr CLK_PWR_STAT_STATE 0).wr CLK_PWR_CTRL_DHALT 0
  have hk : ClkKept _ s.dhaltLeft := gelResumeAll_clkKept
  have hrd {f : Field} (hf : onClk f.key) : s.dhaltLeft.rd f = b.rd f := hk.regs f hf
  refine ⟨?_, ?_, by rw [hk.pwr]; rfl, by rw [hk.pwr]; rfl⟩
  · rw [hrd (onClk_of (by decide)), rd_wr_ne _ _ _ _ (by decide), rd_wr_self]
    rfl
  · rw [hrd (onClk_of (by decide)), rd_wr_self]
    rfl

end

end Sys2Proof.Machine
end


section
/-! Proof about sleep and debug halt, continued: LF mode, its steps, and the wake (R44 to R49). -/

namespace Sys2Proof.Machine

open Reg

section

variable {s a b : State} {n v p : Nat} {P : Nat → Prop}

/-! ### What loses its power in sleep leaves CLK and TB (R48) -/

theorem setCmp_still (n : Nat) (x : CmpS) : Still P s (s.setCmp n x) := .same rfl rfl rfl rfl

theorem cmpVref_still : Still P s s.cmpVref := .foldl (fun _ _ _ => setCmp_still _ _) s

theorem vrefOn_still (v : Nat) : Still clkKept s (s.wr (CBC_VREF_STAT_ON 0) v) := wr_still v (by unfold clkKept; decide)

theorem vrefOff_still : Still clkKept s (((s.wr (CBC_VREF_STAT_WARM 0) 0).wr (CBC_VREF_STAT_OK 0) 0).wr (CBC_VREF_STAT_ON 0) 0).cmpVref :=
  cmpVref_still.after <| (vrefOn_still 0).after <| (wr_still _ (by unfold clkKept; decide)).after (wr_still _ (by unfold clkKept; decide))

/-- A register of a converter. -/
theorem wrConv_clk {f : Field} {x : Nat} (hx : x < 32) (v : Nat) (hp : f.page = 0x60 + x) (ho : f.off < 4096) (hl : f.lo < 32) :
    Still clkKept s (s.wr f v) :=
  wr_still v (not_clkKept_page ho hl (by omega))

theorem convState_clk {x : Nat} (hx : x < 32) (v : Nat) : Still clkKept s (s.wr (CBC_CONV_STAT_STATE x) v) :=
  wrConv_clk hx v rfl (by simp [CBC_CONV_STAT_STATE]) (by simp [CBC_CONV_STAT_STATE])

theorem convEn_clk {x : Nat} (v : Nat) : Still clkKept s (s.wr (PG_CTRL_EN (0x60 + x)) v) :=
  wr_still v (not_clkKept_header (by simp [PG_CTRL_EN]) (by simp [PG_CTRL_EN]))

theorem cvDisable_clk {x : Nat} (hx : x < 32) : Still clkKept s (s.cvDisable x) :=
  (convEn_clk _).after <|
    (wrConv_clk (x := x) hx _ rfl (by simp [CBC_CONV_STAT_SETTLE_LEFT]) (by simp [CBC_CONV_STAT_SETTLE_LEFT])).after <|
      (convState_clk hx _).after (setCv_still _ _)

theorem dupEval_clk : Still clkKept s s.dupEval := by
  refine .ite (.refl s) (Still.after (.ite (.refl _) (raise_still clkKept_noFault _ _ _)) ?_)
  exact (iflag_still _ (not_clkKept_iflag _)).after (wr_still _ (by unfold clkKept; decide))

/-- A register of a link. -/
theorem wrLink_clk {f : Field} {x : Nat} (v : Nat) (hp : f.page = 0xC8 + x) (ho : f.off < 4096) (hl : f.lo < 32) :
    Still clkKept s (s.wr f v) :=
  wr_still v (not_clkKept_page ho hl (by omega))

theorem linkEnter_clk (x st : Nat) : Still clkKept s (s.linkEnter x st) := by
  have hcasc (u : State) (f : CascS → CascS) : Still clkKept u (u.modCasc f) := .same rfl rfl rfl rfl
  exact dupEval_clk.after <|
    (wrLink_clk (x := x) _ rfl (by simp [LINK_LINK_STAT_STATE]) (by simp [LINK_LINK_STAT_STATE])).after <| (hcasc _ _).after (hcasc s _)

theorem unpowered_clk : Still clkKept s s.unpowered := by
  refine Still.after (Still.foldl (fun u x _ => .ite (.refl u) ?_) _) (Still.after (Still.foldl (fun u x hx => .ite (.refl u) ?_) _) vrefOff_still)
  · exact (wrLink_clk (x := x) _ rfl (by simp [LINK_LINK_STAT_LOCK]) (by simp [LINK_LINK_STAT_LOCK])).after (linkEnter_clk x 0)
  · have h32 := List.mem_range.1 hx
    exact (convState_clk h32 _).after <| (convEn_clk _).after (cvDisable_clk h32)

/-! ### LF mode begins (R45, R48) -/

/-- The registers that the start of LF mode writes. -/
def State.lfMarks (s : State) : State :=
  ((((s.wr TB_TB_STAT_LFMODE 1).iflag 0xB0 1).wr CLK_CLK_STAT_TB_SRC 2).wr CLK_CLK_STAT_PLL_TB_LOCK 0).wr CLK_CLK_STAT_DL_CAL 0

theorem lfMarks_rd (s : State) : s.lfMarks.rd TB_TB_STAT_LFMODE = 1 ∧ s.lfMarks.rd CLK_CLK_STAT_TB_SRC = 2 ∧
    s.lfMarks.rd CLK_CLK_STAT_DL_CAL = 0 ∧ s.lfMarks.rd CLK_CLK_STAT_PLL_TB_LOCK = 0 := by
  unfold State.lfMarks
  refine ⟨?_, ?_, ?_, ?_⟩
  · rw [rd_wr_ne _ _ _ _ (by decide), rd_wr_ne _ _ _ _ (by decide), rd_wr_ne _ _ _ _ (by decide), State.iflag,
      setBits_rd_ne _ _ (by decide), rd_wr_self]; rfl
  · rw [rd_wr_ne _ _ _ _ (by decide), rd_wr_ne _ _ _ _ (by decide), rd_wr_self]; rfl
  · rw [rd_wr_self]; rfl
  · rw [rd_wr_ne _ _ _ _ (by decide), rd_wr_self]; rfl

theorem lfStart_rd (h : s.on TB_TB_STAT_LFMODE = false) (f : Field) : s.lfStart.rd f = s.gpSyncAll.trkSleep.lfMarks.rd f := by
  unfold State.lfStart
  rw [if_neg (by simp [h])]
  rfl

/-- LF mode begins with the device asleep or halted. -/
theorem lfEnter_left (h : s.on TB_TB_STAT_LFMODE = false) (hst : s.pwr.sleep = .entering ∨ s.rd CLK_PWR_STAT_STATE = 2) :
    s.lfEnter.rd TB_TB_STAT_LFMODE = 1 ∧ s.lfEnter.rd CLK_CLK_STAT_TB_SRC = 2 ∧ s.lfEnter.rd CLK_CLK_STAT_DL_CAL = 0 ∧
    s.lfEnter.rd CLK_CLK_STAT_PLL_TB_LOCK = 0 ∧ (s.pwr.sleep = .entering → s.lfEnter.pwr.sleep = .asleep) := by
  obtain ⟨hlf, hsrc, hdl, hpll⟩ := lfMarks_rd s.gpSyncAll.trkSleep
  have hstart := lfStart_rd h
  by_cases hs : s.pwr.sleep = .entering
  · have heq : s.lfEnter = ((s.lfStart.unpowered.wr CLK_CLK_STAT_PLL_SYS_LOCK 0).wr CLK_CLK_STAT_PLL_TB_LOCK 0).modPwr
        fun p => { p with sleep := .asleep } := if_pos hs
    have hoff := unpowered_clk (s := s.lfStart)
    rw [heq]
    simp only [modPwr_rd]
    refine ⟨?_, ?_, ?_, ?_, fun _ => rfl⟩
    · rw [rd_wr_ne _ _ _ _ (by decide), rd_wr_ne _ _ _ _ (by decide), hoff.regs _ (clkKept_tb (by decide)), hstart, hlf]
    · rw [rd_wr_ne _ _ _ _ (by decide), rd_wr_ne _ _ _ _ (by decide), hoff.regs _ (clkKept_clk (by decide)), hstart, hsrc]
    · rw [rd_wr_ne _ _ _ _ (by decide), rd_wr_ne _ _ _ _ (by decide), hoff.regs _ (clkKept_clk (by decide)), hstart, hdl]
    · rw [rd_wr_self]; rfl
  · have heq : s.lfEnter = s.lfStart := (if_neg hs).trans (if_pos (hst.resolve_left hs))
    rw [heq, hstart, hstart, hstart, hstart]
    exact ⟨hlf, hsrc, hdl, hpll, fun h => absurd h hs⟩

/-! ### Timers leave CLK and TB (R358 to R366) -/

theorem modGp_still (n : Nat) (f : GptS → GptS) : Still P s (s.modGp n f) := .same rfl rfl rfl rfl

theorem gpSync_still (n T : Nat) : Still P s (s.gpSync n T) :=
  .ite (.refl s) (.ite (modGp_still _ _) (modGp_still _ _))

theorem gpSyncAll_still : Still P s s.gpSyncAll := .foldl (fun _ _ _ => gpSync_still _ _) s

theorem not_clkKept_gpt {f : Field} (hp : f.page = 0xB1) (ho : f.off < 4096) (hl : f.lo < 32) : ¬ clkKept f.key :=
  not_clkKept_page ho hl (by omega)

theorem gpOutl_clk (hn : n < 16) (v : Nat) : Still clkKept s (s.gpOutl n v) :=
  (wr_still _ (not_clkKept_gpt rfl (by simp only [GPT_STAT_OUTL]; omega) (by simp [GPT_STAT_OUTL]))).after
    (.foldl (fun _ _ _ => gpSync_still _ _) s)

theorem gpFlag_clk (n b : Nat) : Still clkKept s (s.gpFlag n b) := .ite (iflag_still _ (not_clkKept_iflag _)) (.refl s)

theorem gpWrapEffect_clk (hn : n < 16) : Still clkKept s (s.gpWrapEffect n) := by
  have hpulse (u : State) (c : Prop) [Decidable c] (k : Nat) : Still clkKept u (if c then u.pulse k else u) :=
    .ite (pulse_still _) (.refl u)
  refine Still.after (.foldl (fun _ _ _ => modGp_still _ _) _) ((hpulse _ _ _).after <| (gpOutl_clk hn _).after <| (gpFlag_clk _ _).after ?_)
  exact setBits_still _ (not_clkKept_gpt rfl (by simp only [GPT_STAT_OVF]; omega) (by simp [GPT_STAT_OVF]))

theorem gpWrapDue_clk (hn : n < 16) : Still clkKept s (s.gpWrapDue n) :=
  Still.after (.ite ((gpWrapEffect_clk hn).after (modGp_still _ _)) (.refl _)) (gpSync_still _ _)

theorem gpReset_still : Still P s (s.gpReset n) := by
  refine .ite (.refl s) (Still.after (.ite (modGp_still _ _) (.refl _)) ?_)
  exact (modGp_still _ _).after (gpSync_still _ _)

theorem cmpWindowOpen_clk (g : Nat) : Still clkKept s (s.cmpWindowOpen g) := by
  refine .foldl (fun u x _ => .ite ?_ (.refl u)) s
  split
  · exact iflag_still _ (not_clkKept_iflag _)
  · exact setCmp_still _ _

theorem gpMatchEffect_clk (hn : n < 16) : Still clkKept s (s.gpMatchEffect n) := by
  have hpulse (u : State) (c : Prop) [Decidable c] (k : Nat) : Still clkKept u (if c then u.pulse k else u) :=
    .ite (pulse_still _) (.refl u)
  have hshot (u : State) (c : Prop) [Decidable c] (f : GptS → GptS) : Still clkKept u (if c then u.modGp n f else u) :=
    .ite (modGp_still _ _) (.refl u)
  refine (cmpWindowOpen_clk n).after <| (hshot _ _ _).after <| Still.after (.foldl (fun _ _ _ => modGp_still _ _) _) <|
    (hpulse _ _ _).after <| (gpOutl_clk hn _).after <| (gpFlag_clk _ _).after ?_
  exact setBits_still _ (not_clkKept_gpt rfl (by simp only [GPT_STAT_MATCH]; omega) (by simp [GPT_STAT_MATCH]))

/-- A match fires if one is forced or due, and a wrap at or before it comes first. -/
def State.gpMatchDue (s : State) (n : Nat) : State :=
  if (s.gp n).forced then (s.modGp n fun x => { x with forced := false }).gpMatchEffect n
  else
    match (s.gp n).tgt with
    | none => s
    | some q =>
      if (s.gp n).pos < q then s
      else
        let b := if (s.gp n).laps < q / s.gpLap n then s.gpWrapDue n else s
        (b.modGp n fun x => { x with tgt := some (q + b.gpCmpLap n) }).gpMatchEffect n

theorem gpMatch_eq (s : State) (n : Nat) :
    s.gpMatch n = if s.gpGov n ≠ n then s else ((s.gpReset n).gpSync n s.tb).gpMatchDue n := by
  unfold State.gpMatch State.gpMatchDue
  rfl

theorem gpMatchDue_clk (hn : n < 16) : Still clkKept s (s.gpMatchDue n) := by
  have hwrap (c : Prop) [Decidable c] : Still clkKept s (if c then s.gpWrapDue n else s) := .ite (gpWrapDue_clk hn) (.refl s)
  refine .ite ((gpMatchEffect_clk hn).after (modGp_still _ _)) ?_
  split
  · exact .refl s
  · exact .ite (.refl s) ((gpMatchEffect_clk hn).after <| (modGp_still _ _).after (hwrap _))

theorem gpMatch_clk (hn : n < 16) : Still clkKept s (s.gpMatch n) := by
  rw [gpMatch_eq]
  exact .ite (.refl s) ((gpMatchDue_clk hn).after <| (gpSync_still n s.tb).after gpReset_still)

theorem gpLfStep_clk : Still clkKept s s.gpLfStep := by
  refine .foldl (fun u n hn => ?_) s
  have h16 := List.mem_range.1 hn
  exact Still.after (.foldl (fun _ _ _ => gpWrapDue_clk h16) _) <|
    Still.after (.foldl (fun _ _ _ => gpMatch_clk h16) _) (gpSync_still _ _)

/-! ### The frame boundary leaves CLK and TB (R50, R319) -/

theorem latchFrame_clk : Still clkKept s s.latchFrame := by
  refine .foldl (fun u n _ => .ite (wr_still _ ?_) (.refl u)) s
  unfold latchField clkKept
  split <;> decide

theorem macGive_still (n k : Nat) : Still P s (s.macGive n k) := by
  have hcmu (u : State) (c : CmuS) : Still P u { u with cmu := c } := .same rfl rfl rfl rfl
  have huse : Still P s (s.useBudget n k) := .same rfl rfl rfl rfl
  exact .ite ((hcmu _ _).after huse) (.ite ((hcmu _ _).after huse) ((hcmu _ _).after huse))

theorem waitBudget_still (n : Nat) : Still P s (s.waitBudget n) := .ite (.refl s) (.same rfl rfl rfl rfl)

/-- The pipeline's cycles are dealt out: one class. -/
def macDeal (lf slack : Bool) (a : State × Nat) (n : Nat) : State × Nat :=
  let k := if lf then min a.2 (a.1.macWork n) else a.1.macShare n a.2 slack
  (a.1.macGive n k, a.2 - k)

theorem macDeal_still (lf slack : Bool) (r : State × Nat) : Still P r.1 ([60, 61, 62].foldl (macDeal lf slack) r).1 :=
  List.foldlRecOn (motive := fun q : State × Nat => Still P r.1 q.1) _ _ (.refl r.1) fun _ hq n _ => (macGive_still n _).after hq

theorem macSettle_still : Still P s s.macSettle := by
  have hcmu (c : CmuS) : Still P s { s with cmu := c } := .same rfl rfl rfl rfl
  have hwait (u : State) (c : State → Nat → Prop) [∀ s n, Decidable (c s n)] :
      Still P u ([60, 61, 62].foldl (fun s n => if c s n then s.waitBudget n else s) u) :=
    .foldl (fun _ _ _ => .ite (waitBudget_still _) (.refl _)) u
  refine .ite (.refl s) (.ite ((macDeal_still true false _).after (hcmu _)) ?_)
  exact (hwait _ _).after <| (macDeal_still false true _).after <| (macDeal_still false false _).after (hcmu _)

/-- A register of BUDG. -/
theorem wrBudg_clk {f : Field} (v : Nat) (hp : f.page = 2) (ho : f.off < 4096) (hl : f.lo < 32) : Still clkKept s (s.wr f v) :=
  wr_still v (not_clkKept_page ho hl (by omega))

theorem wrHeader_clk {f : Field} (v : Nat) (ho : f.off < 0x40) (hl : f.lo < 32) : Still clkKept s (s.wr f v) :=
  wr_still v (not_clkKept_header ho hl)

/-- BUSE takes the figures of index `n`. -/
def State.buseShow (s : State) (b : Budg) (n : Nat) : State :=
  ((s.wr (BUDG_BUSE_USED n) (satN 13 (tget 0 b.use n))).wr (BUDG_BUSE_HELD n) (satN 13 (tget 0 b.held n))).wr
    (BUDG_BUSE_OVER n) (b2n (decide (0 < tget 0 b.held n)))

/-- PG_BUDGET takes the figures of page `p`. -/
def State.pageShow (s : State) (b : Budg) (p : Nat) : State :=
  ((s.wr (PG_BUDGET_USED p) (satN 13 (tget 0 b.pageUse p))).wr (PG_BUDGET_HELD p) (satN 13 (tget 0 b.pageHeld p))).wr
    (PG_BUDGET_OVER p) (b2n (decide (0 < tget 0 b.pageHeld p)))

/-- The figures of the frame that ends are shown. -/
def State.budgetShow (s : State) : State :=
  ((List.range 0xCD).filter fun p => (pageKind p).isSome).foldl (fun u p => u.pageShow s.budg p)
    ((List.range 63).foldl (fun u n => u.buseShow s.budg n) s)

theorem buseShow_clk (b : Budg) (hn : n < 63) : Still clkKept s (s.buseShow b n) :=
  (wrBudg_clk _ rfl (by simp only [BUDG_BUSE_OVER]; omega) (by simp [BUDG_BUSE_OVER])).after <|
    (wrBudg_clk _ rfl (by simp only [BUDG_BUSE_HELD]; omega) (by simp [BUDG_BUSE_HELD])).after <|
      wrBudg_clk _ rfl (by simp only [BUDG_BUSE_USED]; omega) (by simp [BUDG_BUSE_USED])

theorem pageShow_clk (b : Budg) (p : Nat) : Still clkKept s (s.pageShow b p) :=
  (wrHeader_clk _ (by simp [PG_BUDGET_OVER]) (by simp [PG_BUDGET_OVER])).after <|
    (wrHeader_clk _ (by simp [PG_BUDGET_HELD]) (by simp [PG_BUDGET_HELD])).after <|
      wrHeader_clk _ (by simp [PG_BUDGET_USED]) (by simp [PG_BUDGET_USED])

theorem budgetShow_clk : Still clkKept s s.budgetShow :=
  Still.after (.foldl (fun _ p _ => pageShow_clk _ p) _) (.foldl (fun _ _ hn => buseShow_clk _ (List.mem_range.1 hn)) s)

/-- Transfers that wait for their budget are tried again. -/
def State.dmaRenew (s : State) : State :=
  { s with dma := { s.dma with
    ch := (List.range 32).foldl
      (fun (l : Tab DmaC) c =>
        let x : DmaC := tget {} l c
        tput {} l c { x with wait := false }) s.dma.ch } }

/-- Use restarts from zero, under the settings of a pending commit. -/
def State.budgetRenew (s : State) (b : Budg) : State :=
  match b.pending with
  | some sets => ({ s with budg := { force := sets } } : State).wr BUDG_BUDG_STAT_PENDING 0
  | none => { s with budg := { force := b.force } }

theorem budgetFrame_eq (s : State) : s.budgetFrame = s.macSettle.budgetShow.dmaRenew.budgetRenew s.macSettle.budg := by
  unfold State.budgetFrame State.budgetShow State.dmaRenew State.budgetRenew
  rfl

theorem budgetRenew_clk (b : Budg) : Still clkKept s (s.budgetRenew b) := by
  have hbudg (d : Budg) : Still clkKept s { s with budg := d } := .same rfl rfl rfl rfl
  unfold State.budgetRenew
  split
  · exact (wrBudg_clk _ rfl (by decide) (by decide)).after (hbudg _)
  · exact hbudg _

theorem dmaRenew_still : Still P s s.dmaRenew := by
  have hdma (d : DmaS) : Still P s { s with dma := d } := .same rfl rfl rfl rfl
  unfold State.dmaRenew
  exact hdma _

theorem budgetFrame_clk : Still clkKept s s.budgetFrame := by
  rw [budgetFrame_eq]
  exact (budgetRenew_clk _).after <| dmaRenew_still.after <| budgetShow_clk.after macSettle_still

/-! ### An LF tick (R44, R46) -/

/-- The key of LF_CNT. -/
def lfKept (k : Nat) : Prop := k = TB_LF_CNT_COUNT.key

theorem lfKept_clk {k : Nat} (h : lfKept k) : clkKept k := h ▸ clkKept_tb (f := TB_LF_CNT_COUNT) (by decide)

theorem alarmFires_lf : Still lfKept s s.alarmFires :=
  .ite ((iflag_still _ (by unfold lfKept; decide)).after (wr_still _ (by unfold lfKept; decide))) (.refl s)

/-- The timebase at an LF tick. -/
def State.lfMoved (s : State) : State :=
  let tb := (s.tb + (390625 + s.pwr.lfFrac) / 32) % 2 ^ 64
  { s with tb := tb, pwr := { s.pwr with lfFrac := (390625 + s.pwr.lfFrac) % 32, frame := tb / 8000 } }

theorem lfTick_eq (hlf : s.on TB_TB_STAT_LFMODE = true) (hlost : s.pwr.lfLost = false) :
    s.lfTick = let b := (s.lfMoved.inc TB_LF_CNT_COUNT).gpLfStep.alarmFires.latchFrame
      if State.core 3 b then b.budgetFrame else b := by
  unfold State.lfTick
  rw [if_neg (by simp [hlf, hlost])]
  rfl

/-- What an LF tick leaves. -/
theorem lfTick_left (hlf : s.on TB_TB_STAT_LFMODE = true) (hlost : s.pwr.lfLost = false) :
    s.lfTick.tb = s.lfMoved.tb ∧ s.lfTick.pwr = s.lfMoved.pwr ∧
    s.lfTick.rd TB_LF_CNT_COUNT = satN 32 (s.rd TB_LF_CNT_COUNT + 1) := by
  have hframe (u : State) : Still lfKept u (if State.core 3 u then u.budgetFrame else u) :=
    .ite (budgetFrame_clk.mono fun _ => lfKept_clk) (.refl u)
  have hstill : Still lfKept (s.lfMoved.inc TB_LF_CNT_COUNT) s.lfTick := by
    rw [lfTick_eq hlf hlost]
    exact (hframe _).after <| (latchFrame_clk.mono fun _ => lfKept_clk).after <| alarmFires_lf.after <|
      gpLfStep_clk.mono fun _ => lfKept_clk
  refine ⟨hstill.tb, hstill.pwr, ?_⟩
  rw [hstill.regs _ rfl, inc_rd]
  rfl

/-! ### LF mode ends (R45) -/

theorem lfExit_left (hlf : s.on TB_TB_STAT_LFMODE = true) (hend : s.pwr.lfEnding = true) (hfrom : s.pwr.tbFrom < 2) :
    s.lfExit.rd TB_TB_STAT_LFMODE = 0 ∧ s.lfExit.rd CLK_CLK_STAT_TB_SRC = s.pwr.tbFrom ∧
    (s.on CLK_CLK_STAT_TREF_OK = true → s.lfExit.rd CLK_CLK_STAT_PLL_TB_LOCK = 1) ∧ s.lfExit.pwr.lfEnding = false := by
  let b := ((s.wr TB_TB_STAT_LFMODE 0).iflag 0xB0 2).wr CLK_CLK_STAT_TB_SRC s.pwr.tbFrom
  let c := if b.on CLK_CLK_STAT_TREF_OK then b.wr CLK_CLK_STAT_PLL_TB_LOCK 1 else b
  have heq : s.lfExit = (c.modPwr fun p => { p with lfFrac := 0, lfEnding := false }).gpSyncAll := if_neg (by simp [hlf, hend])
  have hsync : Still clkKept (c.modPwr fun p => { p with lfFrac := 0, lfEnding := false }) s.lfExit := heq ▸ gpSyncAll_still
  have hc {f : Field} (h : f.key ≠ CLK_CLK_STAT_PLL_TB_LOCK.key) : c.rd f = b.rd f := by
    by_cases ht : b.on CLK_CLK_STAT_TREF_OK = true
    · rw [show c = _ from if_pos ht, rd_wr_ne _ _ _ _ h]
    · rw [show c = _ from if_neg ht]
  have htref : b.rd CLK_CLK_STAT_TREF_OK = s.rd CLK_CLK_STAT_TREF_OK := by
    rw [rd_wr_ne _ _ _ _ (by decide), State.iflag, setBits_rd_ne _ _ (by decide), rd_wr_ne _ _ _ _ (by decide)]
  refine ⟨?_, ?_, fun ht => ?_, by rw [hsync.pwr]; rfl⟩
  · rw [hsync.regs _ (clkKept_tb (by decide)), modPwr_rd, hc (by decide), rd_wr_ne _ _ _ _ (by decide), State.iflag,
      setBits_rd_ne _ _ (by decide), rd_wr_self]
    rfl
  · rw [hsync.regs _ (clkKept_clk (by decide)), modPwr_rd, hc (by decide), rd_wr_self]
    exact Nat.mod_eq_of_lt (by simp only [CLK_CLK_STAT_TB_SRC]; omega)
  · have hon : b.on CLK_CLK_STAT_TREF_OK = true := by rw [State.on, htref]; exact ht
    rw [hsync.regs _ (clkKept_clk (by decide)), modPwr_rd, show c = _ from if_pos hon, rd_wr_self]
    rfl

/-! ### The device wakes (R48, R152) -/

/-- What every wake leaves: its source, a flag of CLK, and the state. -/
def State.wakeMarks (s : State) (src : Nat) : State :=
  ((s.wr CLK_PWR_STAT_WAKE_SRC src).iflag 1 0).modPwr fun p => { p with sleep := .waking src }

theorem wakeMarks_left (s : State) {src : Nat} (h : src < 16) :
    (s.wakeMarks src).pwr.sleep = .waking src ∧ (s.wakeMarks src).rd CLK_PWR_STAT_WAKE_SRC = src ∧
    bit ((s.wakeMarks src).rd (PG_IFLAG_FLAG 1)) 0 = true := by
  refine ⟨rfl, ?_, iflag_bit _ 1 (by decide)⟩
  rw [State.wakeMarks, modPwr_rd, State.iflag, setBits_rd_ne _ _ (by decide), rd_wr_self]
  exact Nat.mod_eq_of_lt h

/-- The marks of a wake leave the ports. -/
theorem wakeMarks_rd (s : State) (src : Nat) {f : Field} (hp : 0x10 ≤ f.page) (ho : f.off < 4096) (hl : f.lo < 32) :
    (s.wakeMarks src).rd f = s.rd f := by
  have hpage := key_page ho hl
  have h1 : f.key ≠ (PG_IFLAG_FLAG 1).key := fun e => by
    rw [e, show (PG_IFLAG_FLAG 1).key / 131072 = 1 by decide] at hpage
    omega
  have h2 : f.key ≠ CLK_PWR_STAT_WAKE_SRC.key := fun e => by
    rw [e, show CLK_PWR_STAT_WAKE_SRC.key / 131072 = 1 by decide] at hpage
    omega
  rw [State.wakeMarks, modPwr_rd, State.iflag, setBits_rd_ne _ _ h1, rd_wr_ne _ _ _ _ h2]

/-- A wake by a port marks the port. -/
def State.wakePort (s : State) (p : Nat) : State := (s.setBits (POS_STAT_WAKE p) 1).iflag (0x10 + p) 11

theorem wakePort_left (s : State) (p : Nat) :
    (s.wakePort p).rd (POS_STAT_WAKE p) = 1 ∧ bit ((s.wakePort p).rd (PG_IFLAG_FLAG (0x10 + p))) 11 = true := by
  have hne : (POS_STAT_WAKE p).key ≠ (PG_IFLAG_FLAG (0x10 + p)).key := by
    simp only [Field.key, POS_STAT_WAKE, PG_IFLAG_FLAG]
    omega
  refine ⟨?_, iflag_bit _ _ (by decide)⟩
  rw [State.wakePort, State.iflag, setBits_rd_ne _ _ hne, setBits_rd, rd_wr_self]
  obtain h | h : s.rd (POS_STAT_WAKE p) = 0 ∨ s.rd (POS_STAT_WAKE p) = 1 := by
    have := rd_lt s (POS_STAT_WAKE p)
    simp only [POS_STAT_WAKE] at this ⊢
    omega
  all_goals rw [h]; rfl

end

end Sys2Proof.Machine
end


section
/-! Proof about sleep and debug halt, concluded: wakes, the end of sleep, and the obligation. -/

namespace Sys2Proof.Machine

open Reg

section

variable {s : State} {src held mv p v : Nat}

/-! ### Wakes (R48, R152) -/

/-- The condition under which port `p` wakes the device. -/
theorem wake_port (hs : s.pwr.sleep = .asleep) (hp : p = 2 * src) (hsrc : src < 2) (hen : s.on (POS_CFG_WAKE_EN p) = true)
    (hpin : s.usesPin p 0 = true) (hheld : 781250 ≤ 32 * held) (hmv : s.posMode p ≠ 3 ∨ 4 * s.rd (POS_VR_CFG_ARM_MIN p) < mv) :
    s.wake (src + 1) held mv = (s.wakePort p).wakeMarks (src + 1) := by
  have himp : s.posMode p = 3 → 4 * s.rd (POS_VR_CFG_ARM_MIN p) < mv := fun e => hmv.resolve_left (not_not_intro e)
  obtain ⟨rfl, rfl⟩ | ⟨rfl, rfl⟩ : (src = 0 ∧ p = 0) ∨ (src = 1 ∧ p = 2) := by omega
  all_goals
    unfold State.wake
    exact if_neg (by simpa [hs, hen, hpin, hheld] using himp)

theorem wake_host (hs : s.pwr.sleep = .asleep) (h2 : 2 ≤ src) (h4 : src < 4) : s.wake (src + 1) held mv = s.wakeMarks (src + 1) := by
  obtain rfl | rfl : src = 2 ∨ src = 3 := by omega
  all_goals
    unfold State.wake
    exact if_neg (by simp [hs])

/-- What a wake by a port leaves. -/
theorem wakePort_marks (s : State) (p : Nat) (hsrc : src < 16) :
    ((s.wakePort p).wakeMarks src).pwr.sleep = .waking src ∧ ((s.wakePort p).wakeMarks src).rd CLK_PWR_STAT_WAKE_SRC = src ∧
    bit (((s.wakePort p).wakeMarks src).rd (PG_IFLAG_FLAG 1)) 0 = true ∧
    ((s.wakePort p).wakeMarks src).rd (POS_STAT_WAKE p) = 1 ∧
    bit (((s.wakePort p).wakeMarks src).rd (PG_IFLAG_FLAG (0x10 + p))) 11 = true := by
  obtain ⟨hsleep, hwsrc, hflag⟩ := wakeMarks_left (s.wakePort p) hsrc
  obtain ⟨hpos, hpflag⟩ := wakePort_left s p
  refine ⟨hsleep, hwsrc, hflag, ?_, ?_⟩
  · rw [wakeMarks_rd _ _ (by simp [POS_STAT_WAKE]) (by simp [POS_STAT_WAKE]) (by simp [POS_STAT_WAKE]), hpos]
  · rw [wakeMarks_rd _ _ (by simp [PG_IFLAG_FLAG]) (by simp [PG_IFLAG_FLAG]) (by simp [PG_IFLAG_FLAG]), hpflag]

/-! ### Sleep ends (R48) -/

/-- PLL_TB locks where TREF is good. -/
def State.tbLocks (s : State) : State := if s.on CLK_CLK_STAT_TREF_OK then s.wr CLK_CLK_STAT_PLL_TB_LOCK 1 else s

/-- VREF comes back where it is enabled. -/
def State.vrefBack (s : State) : State :=
  if s.on (CBC_VREF_CTRL_EN 0) then (s.wr (CBC_VREF_STAT_ON 0) 1).modPwr fun p => { p with vrefSince := s.tb } else s

/-- What the wake restores before the links train and the host is answered. -/
def State.wakeClocks (s : State) : State :=
  ((s.modPwr fun p => { p with sleep := .awake, lfEnding := true }).wr CLK_CLK_STAT_PLL_SYS_LOCK 1).tbLocks.vrefBack

/-- The links that are enabled train, and a host that woke the device is answered. -/
def State.wakePorts (s : State) (src : Nat) : State :=
  let s := links.foldl (fun s x => if s.on (PG_CTRL_EN (0xC8 + x)) then s.linkEnter x 1 else s) s
  if (src = 3 ∨ src = 4) ∧ s.hostState (src - 3) ≠ 0 then
    let r := s.wakeResp (src - 3)
    let s := s.inc (HOST_RESP_CNT_BUSY_CNT (src - 3))
    (s.modHs (src - 3) fun h => { h with frame := none, resp := some r, hello := none, brk := false }).hostTo (src - 3) 4
  else s

theorem wakeDone_eq (hs : s.pwr.sleep = .waking src) : s.wakeDone = s.wakeClocks.wakePorts src := by
  unfold State.wakeDone
  rw [hs]
  rfl

theorem wakeClocks_left (s : State) :
    s.wakeClocks.pwr.sleep = .awake ∧ s.wakeClocks.pwr.lfEnding = true ∧ s.wakeClocks.rd CLK_CLK_STAT_PLL_SYS_LOCK = 1 := by
  let b := (s.modPwr fun p => { p with sleep := .awake, lfEnding := true }).wr CLK_CLK_STAT_PLL_SYS_LOCK 1
  have hlock : Still (· = CLK_CLK_STAT_PLL_SYS_LOCK.key) b b.tbLocks := .ite (wr_still _ (by decide)) (.refl b)
  have hvref (u : State) : u.vrefBack.pwr.sleep = u.pwr.sleep ∧ u.vrefBack.pwr.lfEnding = u.pwr.lfEnding ∧
      u.vrefBack.rd CLK_CLK_STAT_PLL_SYS_LOCK = u.rd CLK_CLK_STAT_PLL_SYS_LOCK := by
    unfold State.vrefBack
    split
    · exact ⟨rfl, rfl, (modPwr_rd _ _ _).trans (rd_wr_ne _ _ _ _ (by decide))⟩
    · exact ⟨rfl, rfl, rfl⟩
  obtain ⟨hsleep, hend, hrd⟩ := hvref b.tbLocks
  refine ⟨hsleep.trans (by rw [hlock.pwr]; rfl), hend.trans (by rw [hlock.pwr]; rfl), hrd.trans ?_⟩
  rw [hlock.regs _ rfl, rd_wr_self]
  rfl

theorem wakePorts_clk : Still clkKept s (s.wakePorts src) := by
  have hhs (u : State) (x : Nat) (f : HostS → HostS) : Still clkKept u (u.modHs x f) := .same rfl rfl rfl rfl
  have hlinks : Still clkKept s (links.foldl (fun s x => if s.on (PG_CTRL_EN (0xC8 + x)) then s.linkEnter x 1 else s) s) :=
    .foldl (fun u x _ => .ite (linkEnter_clk x 1) (.refl u)) s
  unfold State.wakePorts
  refine Still.after ?_ hlinks
  dsimp only
  split
  · next h =>
    refine Still.after (wr_still _ (not_clkKept_page ?_ ?_ ?_)) <| (hhs _ _ _).after (inc_still (not_clkKept_page ?_ ?_ ?_))
    all_goals simp only [HOST_PORT_STAT_STATE, HOST_RESP_CNT_BUSY_CNT]
    all_goals omega
  · exact .refl _

theorem wakeDone_left (hs : s.pwr.sleep = .waking src) :
    s.wakeDone.pwr.sleep = .awake ∧ s.wakeDone.pwr.lfEnding = true ∧ s.wakeDone.rd CLK_CLK_STAT_PLL_SYS_LOCK = 1 := by
  have hports := wakePorts_clk (s := s.wakeClocks) (src := src)
  rw [wakeDone_eq hs, hports.pwr, hports.regs _ (clkKept_clk (by decide))]
  exact wakeClocks_left s

/-! ### Writes of PWR_CTRL (R47) -/

theorem pwrTck_dhalt (hlife : s.on SEC_LIFE_FIELD = false) (hst : s.rd CLK_PWR_STAT_STATE ≠ 2) (hs : s.pwr.sleep = .awake)
    (h0 : bit v 0 = false) (h1 : bit v 1 = true) (hc : s.pwrCheck true v = none) : s.pwrTck v = s.dhaltEntered := by
  have hbit : v - bitN v 0 = v := by
    simp only [bit, beq_eq_false_iff_ne] at h0
    unfold bitN
    omega
  unfold State.pwrTck
  rw [if_neg (by simp [hlife]), hbit]
  exact pwrReq_dhalt hst hs h0 h1 hc

/-- A write of PWR_CTRL that is allowed is judged on the state that has counted it. -/
theorem pwrWrite_eq {m : Nat} (maint : Bool) (hw : s.mayWrite m 1 0x50 v 0xFFFFFFFF = true) :
    (s.guarded m 1 0x50 v fun u => u.pwrReq maint v) = (s.counted m 1).pwrReq maint v := by
  rw [State.guarded, guardedTo_may (by decide) (by decide) hw, charged_eq_counted (by decide) (by decide)]

theorem pwrWrite_maint (hw : s.mayWrite 2 1 0x50 v 0xFFFFFFFF = true) :
    (s.guarded (2 : Master) 1 0x50 v fun u => u.pwrReq ((2 : Master) == 2) v) = (s.counted 2 1).pwrReq true v :=
  pwrWrite_eq true hw

theorem keep_armed (a b : State) : (a.keep b).armed = b.armed := rfl

end

/-- Settles O7: each command is the state it builds, and what follows in it leaves the registers that the clause reads. -/
theorem sleepAndDebugHalt : Obligations.SleepAndDebugHalt := by
  intro s a t ha
  subst ha
  refine ⟨fun m v hcore hw hst hs h0 hc => ?sleep, fun m v hcore hw hst hs h0 hc => ?sleepLeaves,
    fun m v code hcore hw hst hs h01 hc => ?refused, fun m v hcore hlife hst hs h0 h1 hc => ?tck,
    fun m v hcore hlife hst hs h0 h1 hc => ?tckLeaves, fun v hcore hw hst hs h0 h1 hc => ?maint,
    fun v hcore hw hst hk h0 h1 => ?exit, fun v hcore hw hst hk h0 h1 => ?exitLeaves, fun hheld hlf hst => ?lfEntry,
    fun hheld hlf hlost => ?lfStep, fun hheld hlf hend hfrom => ?lfExit,
    fun p held mv src hheld hs hp hsrc hen hpin hlong hmv => ?wakePort, fun src held mv hheld hs h2 => ?wakeHost,
    fun src hheld hs => ?wakeDone⟩
  case sleep =>
    rw [exec_sleepRequest, execSleepRequest, act_on hcore, pwrWrite_eq _ hw,
      pwrReq_sleep (s := (s.advance t).counted m 1) hst hs h0 hc]
    rfl
  case sleepLeaves =>
    refine ⟨_, (exec_sleepRequest t m v s).trans (act_on hcore), ?_⟩
    rw [pwrWrite_eq _ hw, pwrReq_sleep (s := (s.advance t).counted m 1) hst hs h0 hc]
    exact sleepEntered_left ((s.advance t).counted m 1)
  case refused =>
    rw [exec_sleepRequest, execSleepRequest, act_on hcore, pwrWrite_eq _ hw,
      pwrReq_refused (s := (s.advance t).counted m 1) hst hs h01 hc]
    rfl
  case tck =>
    rw [exec_dhaltEnter, execDhaltEnter, act_on hcore, if_pos rfl, pwrTck_dhalt hlife hst hs h0 h1 hc]
    rfl
  case tckLeaves =>
    refine ⟨_, (exec_dhaltEnter t m true v s).trans (act_on hcore), ?_⟩
    rw [if_pos rfl, pwrTck_dhalt hlife hst hs h0 h1 hc]
    simp only [keep_rd, keep_armed]
    exact dhaltEntered_left (s.advance t)
  case maint =>
    rw [exec_dhaltEnter, execDhaltEnter, act_on hcore, if_neg (by decide), pwrWrite_maint hw,
      pwrReq_dhalt (s := (s.advance t).counted 2 1) hst hs h0 h1 hc]
    rfl
  case exit =>
    rw [exec_dhaltExit, execDhaltExit, act_on hcore, if_neg (by decide), pwrWrite_maint hw,
      pwrReq_exit (s := (s.advance t).counted 2 1) hst hk h1]
    rfl
  case exitLeaves =>
    refine ⟨_, (exec_dhaltExit t 2 false v s).trans (act_on hcore), ?_⟩
    rw [if_neg (by decide), pwrWrite_maint hw, pwrReq_exit (s := (s.advance t).counted 2 1) hst hk h1]
    exact dhaltLeft_left ((s.advance t).counted 2 1)
  case lfEntry => exact ⟨_, (exec_lfModeEntry t s).trans (act_on (by rw [notHeld, hheld]; rfl)), lfEnter_left hlf hst⟩
  case lfStep =>
    obtain ⟨htb, hpwr, hcnt⟩ := lfTick_left hlf hlost
    exact ⟨_, (exec_lfStep t s).trans (actTb_on (by rw [notHeld, hheld]; rfl)), htb, congrArg Pwr.lfFrac hpwr, hcnt⟩
  case lfExit => exact ⟨_, (exec_lfModeExit t s).trans (act_on (by rw [notHeld, hheld]; rfl)), lfExit_left hlf hend hfrom⟩
  case wakePort =>
    refine ⟨_, (exec_wake t ⟨src, held, mv⟩ s).trans (act_on (by rw [notHeld, hheld]; rfl)), ?_⟩
    rw [wake_port hs hp hsrc hen hpin hlong hmv]
    simp only [keep_rd, keep_pwr]
    exact wakePort_marks (s.advance t) p (by omega)
  case wakeHost =>
    refine ⟨_, (exec_wake t ⟨src, held, mv⟩ s).trans (act_on (by rw [notHeld, hheld]; rfl)), ?_⟩
    rw [wake_host hs h2 src.isLt]
    exact wakeMarks_left (s.advance t) (by omega)
  case wakeDone => exact ⟨_, (exec_wakeComplete t s).trans (act_on (by rw [notHeld, hheld]; rfl)), wakeDone_left hs⟩

end Sys2Proof.Machine
end


section
/-! Proofs about page headers: what a command that may write a register of a page does there. -/

namespace Sys2Proof.Machine

open Reg

/-! ### A register command on a page that answers -/

/-- A granted write leads to a register of its page. -/
theorem mayWrite_region {a : State} {m p o v mk : Nat} (hp : p < 256) (ho : o < 4096) (h : a.mayWrite m p o v mk = true) :
    regionOf (pageAddr p o) = .page p o := by
  simp only [State.mayWrite, Bool.and_eq_true, beq_iff_eq] at h
  exact region_page hp ho (writeCode_bad h.1.1)

theorem mayWrite_rstBusy {a : State} {m p o v mk : Nat} (h : a.mayWrite m p o v mk = true) : a.rstBusy p = false := by
  simp only [State.mayWrite, Bool.and_eq_true, Bool.not_eq_true'] at h
  exact h.1.2

/-- A write of bits that is granted on a page that answers is counted and writes the register. -/
theorem headWrite_may {a : State} {m p o v mk : Nat} (hp : p < 256) (ho : o < 4096) (hd : a.domOn (domOf p) = true)
    (h : a.mayWrite m p o v mk = true) : a.headWrite m p o v mk = (a.charged m p o).writeReg m p o v mk := by
  have hup : a.pageDown p = false := by simp [State.pageDown, hd, mayWrite_rstBusy h]
  rw [State.headWrite, hup, if_neg (by decide), State.guardedMask, guardedTo_may hp ho h]

/-- A command that acts at the instant `a`. -/
theorem act_at {s a : State} {t : Nat} {ok : State → Bool} {f : State → State} (ha : a = s.advance t) (h : ok a = true) :
    s.act t ok f = .next (a.keep (f a)) := by
  subst ha; exact act_on h

@[simp] theorem keep_regs (a b : State) : (a.keep b).regs = b.regs := rfl
@[simp] theorem keep_acc (a b : State) : (a.keep b).acc = b.acc := rfl

/-- In a page's header the write is counted, and the header takes it. -/
theorem headWrite_header {a : State} {m p o v mk : Nat} (hp : p < 256) (ho : o < 0x40) (hd : a.domOn (domOf p) = true)
    (h : a.mayWrite m p o v mk = true) : a.headWrite m p o v mk = (a.counted m p).hdrWrite m p o v mk := by
  rw [headWrite_may hp (by omega) hd h, charged_header ho (mayWrite_region hp (by omega) h), State.writeReg, if_pos ho]

/-- Past the header, outside the tile pages and the wide values, it is counted, and the block takes it. -/
theorem headWrite_block {a : State} {m p o v mk : Nat} (hp : p < 0x20) (ho : 0x40 ≤ o ∧ o < 4096) (hd : a.domOn (domOf p) = true)
    (h : a.mayWrite m p o v mk = true) : a.headWrite m p o v mk = (a.counted m p).blockWrite m p o v mk := by
  have hwide (q : Nat) : wideRw p q = false := by
    have h0 : (p == 0xB0) = false := by simp; omega
    have h1 : (p == 0xB1) = false := by simp; omega
    simp [wideRw, h0, h1]
  rw [headWrite_may (by omega) ho.2 hd h, charged_eq_counted (.inl hp) ho.2, State.writeReg, if_neg (by omega)]
  simp [hwide]

/-! ### Fields under a write of a whole word (R7) -/

/-- What a field takes is cut to its width. -/
theorem wr_mod (s : State) (f : Field) (v : Nat) : s.wr f (v % 2 ^ f.w) = s.wr f v := by
  unfold State.wr; rw [Nat.mod_mod]

theorem swPut_mod (s : State) (f : Field) (v : Nat) : s.swPut f (v % 2 ^ f.w) = s.swPut f v := by
  unfold State.swPut; rw [wr_mod]

theorem bits_full {lo w : Nat} (h : lo + w ≤ 32) : bits 0xFFFFFFFF lo w = 2 ^ w - 1 := by
  refine Nat.eq_of_testBit_eq fun i => ?_
  rw [bits, show (0xFFFFFFFF : Nat) = 2 ^ 32 - 1 by rfl, Nat.testBit_mod_two_pow, Nat.testBit_div_two_pow,
    Nat.testBit_two_pow_sub_one, Nat.testBit_two_pow_sub_one]
  by_cases hi : i < w
  · simp [hi]; omega
  · simp [hi]

theorem land_ones {x w : Nat} (h : x < 2 ^ w) : Nat.land x (2 ^ w - 1) = x :=
  (Nat.and_two_pow_sub_one_eq_mod x w).trans (Nat.mod_eq_of_lt h)

/-- The types that a register write of an unlocked, stopped unit's word replaces (R7). -/
def RType.writable : RType → Bool
  | .rw | .rwl | .rws => true
  | _ => false

/-- A whole-word write replaces a writable field by its bits. -/
theorem writeField_full {s : State} {f : Field} {v : Nat} (hty : f.ty.writable = true) (hw : 0 < f.w) (hlo : f.lo + f.w ≤ 32) :
    s.writeField f v 0xFFFFFFFF = s.swPut f (bits v f.lo f.w) := by
  have hcur : s.rd f < 2 ^ f.w := rd_lt s f
  have hbits : bits v f.lo f.w < 2 ^ f.w := Nat.mod_lt _ (Nat.two_pow_pos _)
  have hput : s.swPut f (Nat.lor (s.rd f - Nat.land (s.rd f) (2 ^ f.w - 1)) (Nat.land (bits v f.lo f.w) (2 ^ f.w - 1))) =
      s.swPut f (bits v f.lo f.w) := by
    rw [land_ones hcur, land_ones hbits, Nat.sub_self]
    exact congrArg (s.swPut f) (Nat.zero_or _)
  have hmask : ¬ bits 0xFFFFFFFF f.lo f.w = 0 := by
    have := Nat.one_lt_two_pow (n := f.w) (by omega)
    rw [bits_full hlo]
    omega
  unfold State.writeField
  rw [bits_full hlo] at hmask ⊢
  cases hf : f.ty <;> simp only [hf, RType.writable, Bool.false_eq_true] at hty ⊢ <;> rw [if_neg hmask, hput]

/-- A word that is one writable field takes a whole-word write as it is. -/
theorem plainWrite_word {s : State} {p o v : Nat} {f : Field} (hf : fieldsAt p o = some [f]) (hty : f.ty.writable = true)
    (hlo : f.lo = 0) (hw : f.w = 32) : s.plainWrite p o v 0xFFFFFFFF = s.swPut f v := by
  rw [State.plainWrite, hf]
  simp only [List.foldl_cons, List.foldl_nil]
  rw [writeField_full hty (by omega) (by omega), hlo, bits, Nat.pow_zero, Nat.div_one, swPut_mod]

/-! ### The header (R67, R70, R71, R78, R79) -/

/-- What the header does with the words that the commands write. -/
theorem hdrWrite_ctrl (s : State) (m p v mk : Nat) : s.hdrWrite m p 0x08 v mk = s.pgCtrl m p v mk := rfl
theorem hdrWrite_fault (s : State) (m p : Nat) : s.hdrWrite m p 0x1C 0x40000000 0x40000000 = s.pgFaultClear p := rfl
theorem hdrWrite_acl (s : State) (m p v mk : Nat) : s.hdrWrite m p 0x28 v mk = s.plainWrite p 0x28 v mk := rfl
theorem hdrWrite_lock (s : State) (m p : Nat) : s.hdrWrite m p 0x2C 1 1 = s.pageLock m p := rfl

theorem blockWrite_sys (s : State) (m o v mk : Nat) : s.blockWrite m 0 o v mk = s.sysWrite o v mk := rfl

theorem counted_flt (a : State) (m p : Nat) : (a.counted m p).flt = a.flt := rfl

/-- A register that stands in every page's header, by its row. -/
theorem fieldsAt_header {p o : Nat} {r : RegRow} {j : Nat} (ho : o < 0x40) (hr : findRow (hdrRows p) o = some (r, j))
    (h : ∃ fs, fieldsAt p o = some fs) : fieldsAt p o = some (r.fields j) := by
  obtain ⟨fs, hf⟩ := h
  unfold fieldsAt at hf ⊢
  split
  · next hk => simp [hk] at hf
  · next hk =>
    simp only [hk] at hf
    split
    · next h4 => simp [h4] at hf
    · simp only [hr]

/-- A register of a page's block, by its row. -/
theorem fieldsAt_block {p o i : Nat} {k : PageKind} {fs : List Field} (hk : pageKind p = some (k, i)) (ho : 0x40 ≤ o ∧ o % 4 = 0)
    (hr : ((findRow (blockRows k i) o).map fun r => r.1.fields r.2) = some fs) : fieldsAt p o = some fs := by
  obtain ⟨⟨r, j⟩, hrow, rfl⟩ := Option.map_eq_some_iff.1 hr
  rw [fieldsAt, hk]
  dsimp only
  rw [if_neg (by omega), if_neg (by omega), hrow]

theorem fieldsAt_acl {p : Nat} (h : ∃ fs, fieldsAt p 0x28 = some fs) : fieldsAt p 0x28 = some [PG_ACL_ACL p] :=
  fieldsAt_header (r := ⟨0x28, 1, 4, fun _ => [PG_ACL_ACL p]⟩) (j := 0) (by decide) (by simp [findRow, hdrRows]) h

theorem fieldsAt_mbxAcl {i : Nat} (hi : i < 16) : fieldsAt 0 (0x80 + 4 * i) = some [SYS_MBX_ACL_ACL i] := by
  have hj : (0x80 + 4 * i - 0x80) / 4 = i := by omega
  refine fieldsAt_block (k := .sys) (i := 0) (by decide) (by omega) ?_
  simp only [blockRows, sysRows, findRow]
  repeat rw [if_neg (by omega)]
  rw [if_pos (by omega), hj]
  rfl

/-- A write of FREEZE alone does what freezing does. -/
theorem pgCtrl_freeze (s : State) (m p : Nat) (on : Bool) : s.pgCtrl m p (4 * b2n on) 4 = s.freeze p on := by
  cases on <;> rfl

/-- A change of FREEZE takes the frozen copy, or drops it (R70). -/
theorem freeze_change {s : State} {p : Nat} {on : Bool} (hc : capFrz p = true) (hon : s.on (PG_CTRL_FREEZE p) = !on) :
    s.freeze p on = ({ s with acc := { s.acc with frozen := tput [] s.acc.frozen p (if on then s.snapshot p else []) } } : State).wr
      (PG_CTRL_FREEZE p) (b2n on) := by
  unfold State.freeze
  rw [hc, hon, if_neg (by cases on <;> decide)]

/-- The record of PG_FAULT all cleared (R71). -/
def State.faultCleared (s : State) (p : Nat) : State :=
  ((((s.wr (PG_FAULT_VALID p) 0).wr (PG_FAULT_OVF p) 0).wr (PG_FAULT_SEV p) 0).wr (PG_FAULT_KIND p) 0).wr (PG_FAULT_DETAIL p) 0

/-- VALID that nothing has set at this count clears, with what stands beside it, and a fault still present is taken again. -/
theorem pgFaultClear_valid {s : State} {p : Nat} (hv : s.on (PG_FAULT_VALID p) = true)
    (hcold : tget 0 s.hot (PG_FAULT_VALID p).key = 0) :
    s.pgFaultClear p = match tget none s.flt.live p with
      | some f => (s.faultCleared p).pgFault p f
      | none => s.faultCleared p := by
  have hrd : s.rd (PG_FAULT_VALID p) = 1 := by
    have hlt : s.rd (PG_FAULT_VALID p) < 2 := rd_lt s (PG_FAULT_VALID p)
    have hne : s.rd (PG_FAULT_VALID p) ≠ 0 := by simpa [State.on] using hv
    omega
  unfold State.pgFaultClear
  rw [clearable_cold 1 hcold, hrd, if_neg (by decide)]
  rfl

theorem faultCleared_valid (s : State) (p : Nat) : (s.faultCleared p).on (PG_FAULT_VALID p) = false := by
  unfold State.on State.faultCleared
  simp (disch := (simp only [Field.key, PG_FAULT_VALID, PG_FAULT_OVF, PG_FAULT_SEV, PG_FAULT_KIND, PG_FAULT_DETAIL]; omega)) only
    [rd_wr_self, rd_wr_ne]
  rfl

/-- A page whose PG_FAULT is clear takes a fault whole (R67). -/
theorem pgFault_taken {s : State} {p : Nat} (hv : s.on (PG_FAULT_VALID p) = false) (f : Msg) :
    (s.pgFault p f).rd (PG_FAULT_VALID p) = 1 ∧ (s.pgFault p f).rd (PG_FAULT_SEV p) = f.sev % 4 ∧
    (s.pgFault p f).rd (PG_FAULT_KIND p) = f.kind % 256 ∧ (s.pgFault p f).rd (PG_FAULT_DETAIL p) = f.detail % 2 ^ 19 := by
  have h0 : s.rd (PG_FAULT_VALID p) = 0 := by simpa [State.on] using hv
  unfold State.pgFault
  rw [hv, if_neg (by decide)]
  refine ⟨?_, ?_, ?_, ?_⟩
  all_goals
    simp (disch := (simp only [Field.key, PG_FAULT_VALID, PG_FAULT_OVF, PG_FAULT_SEV, PG_FAULT_KIND, PG_FAULT_DETAIL]; omega)) only
      [rd_wr_self, rd_wr_ne, setBits_rd, h0]
    rfl

/-- LOCK, once set, keeps who set it (R78). -/
theorem pageLock_open {s : State} {m p : Nat} (h : s.on (PG_ACLK_LOCK p) = false) :
    s.pageLock m p = (s.wr (PG_ACLK_LOCK p) 1).wr (PG_ACLK_BY p) m := by
  unfold State.pageLock
  rw [h, if_neg (by decide)]

/-- A write of an access table is the write of its word (R79). -/
theorem exec_accessTableWrite_page {s a : State} {t p o : Nat} {m : Master} {addr v : Word} (ha : a = s.advance t)
    (hcore : State.core 3 a = true) (hr : regionOf addr.toNat = .page p o) (hacl : isAclReg p o = true) (ho : o ≠ 0x2C) :
    exec (.accessTableWrite t m addr v) s =
      .next (a.keep (a.headWrite m p o v.toNat 0xFFFFFFFF)) := by
  rw [exec_accessTableWrite, execAccessTableWrite, act_at ha hcore, hr]
  dsimp only
  rw [if_pos (by simp [hacl, ho])]

/-- Settles O1: each command is the write of its bits of the header, or of its table. -/
theorem pageHeaderCommands : Obligations.PageHeaderCommands := by
  intro s a t m p ha hcore hdom
  have hp : p.val < 256 := p.isLt
  refine ⟨fun on hw hcap hon => ?freeze, fun hw hv hcold hlive => ?clear, fun f hw hv hcold hlive hsev hkind => ?recapture,
    fun hw hlock => ?lock, fun v addr haddr hw => ?acl, fun v addr i hp0 hi haddr hw => ?table⟩
  case freeze =>
    rw [exec_freezeWrite, execFreezeWrite, act_at ha hcore, headWrite_header hp (by decide) hdom hw, hdrWrite_ctrl, pgCtrl_freeze,
      freeze_change (s := a.counted m p) hcap hon]
    rfl
  case clear =>
    rw [exec_pgFaultClear, execPgFaultClear, act_at ha hcore, headWrite_header hp (by decide) hdom hw, hdrWrite_fault,
      pgFaultClear_valid (s := a.counted m p) hv hcold, counted_flt, hlive]
    rfl
  case recapture =>
    obtain ⟨hvalid, hs, hk, hd⟩ := pgFault_taken (faultCleared_valid (a.counted m p) p) f
    refine ⟨_, (exec_pgFaultClear t m p s).trans (act_at ha hcore), ?_⟩
    rw [headWrite_header hp (by decide) hdom hw, hdrWrite_fault,
      pgFaultClear_valid (s := a.counted m p) hv hcold, counted_flt, hlive]
    simp only [keep_rd]
    exact ⟨hvalid, hs.trans (Nat.mod_eq_of_lt hsev), hk.trans (Nat.mod_eq_of_lt hkind), hd⟩
  case lock =>
    rw [exec_pageLock, execPageLock, act_at ha hcore, headWrite_header hp (by decide) hdom hw, hdrWrite_lock,
      pageLock_open (s := a.counted m p) hlock]
  case acl =>
    have hr := mayWrite_region hp (by decide) hw
    obtain ⟨-, -, -, hf⟩ := regionOf_eq_page hr
    rw [exec_accessTableWrite_page ha hcore (haddr ▸ hr) rfl (by decide), headWrite_header hp (by decide) hdom hw, hdrWrite_acl,
      plainWrite_word (fieldsAt_acl hf) rfl rfl rfl]
  case table =>
    rw [hp0] at hdom
    have hr := mayWrite_region (by decide) (by omega) hw
    rw [exec_accessTableWrite_page ha hcore (haddr ▸ hr) (by simp [isAclReg]; omega) (by omega),
      headWrite_block (by decide) ⟨by omega, by omega⟩ hdom hw, blockWrite_sys, State.sysWrite, if_neg (by omega),
      plainWrite_word (fieldsAt_mbxAcl hi) rfl rfl rfl]

end Sys2Proof.Machine
end


section
/-! Proofs about values wider than one word: latches, held halves, and their commits. -/

namespace Sys2Proof.Machine

open Reg

/-! ### Values wider than one word (R82, R84) -/

theorem mayRead_region {a : State} {m p o : Nat} (hp : p < 256) (ho : o < 4096) (h : a.mayRead m p o = true) :
    regionOf (pageAddr p o) = .page p o := by
  simp only [State.mayRead, Bool.and_eq_true, beq_iff_eq] at h
  exact region_page hp ho (readCode_bad h.1.1)

/-- A granted read, by a master with rights, on a page that answers is counted and reads the register (R54, R74). -/
theorem busRead_may {a : State} {m p o : Nat} (hp : p < 256) (ho : o < 4096) (hd : a.domOn (domOf p) = true)
    (h : a.mayRead m p o = true) (hright : a.rightIn (.page p o) m ≠ 0) :
    (a.busRead m (pageAddr p o)).2 = ((a.counted m p).readReg m p o).2 := by
  have hr := mayRead_region hp ho h
  simp only [State.mayRead, Bool.and_eq_true, beq_iff_eq, Bool.not_eq_true'] at h
  obtain ⟨⟨hc, hb⟩, hg⟩ := h
  have hright' : ((a.useBudget (16 + m) 1).usePage p 1).rightIn (.page p o) m ≠ 0 := hright
  simp [State.busRead, State.busyAt, State.pageDown, State.payAt, State.spendAt, State.fetchWord, hc, hr, hb, hd, hg,
    target_page hp ho, hright', State.counted]

/-- A read of a low half latches the high half as shown (R82). -/
theorem readReg_low {s : State} {m p o : Nat} (hw : wideOf p o = some o) (hl : ownLatch p o = false) :
    tget none (s.readReg m p o).2.acc.latch (latchKey m p) = some ⟨o, s.shown m p (o + 4)⟩ := by
  unfold State.readReg
  rw [hl, hw]
  simp [State.latchHi]

theorem wideOf_lt {p o : Nat} (h : wideOf p o = some o) : o < 4096 := by
  have hlows : ∀ k : PageKind, ∀ l ∈ wideLows k, l < 4096 := by
    intro k
    cases k <;> decide
  unfold wideOf at h
  split at h
  · cases h
  · exact hlows _ _ (List.mem_of_find?_eq_some h)

/-- Where the low halves of the writable wide values stand. -/
theorem wideRw_iff {p o : Nat} :
    wideRw p o = true ↔ p = 0xB0 ∧ o = 0x4C ∨ p = 0xB1 ∧ 0x300 ≤ o ∧ o < 0x340 ∧ o % 8 = 0 := by
  simp [wideRw, and_assoc]

/-- The halves of the pair compares (R362). -/
theorem fieldsAt_pairLo {i : Nat} (hi : i < 8) : fieldsAt 0xB1 (0x300 + 8 * i) = some [GPT_PAIR_CMP_LO_CMP i] := by
  have hj : (0x300 + 8 * i - 0x300) / 8 = i := by omega
  refine fieldsAt_block (k := .gpt) (i := 0) (by decide) (by omega) ?_
  simp only [blockRows, gptRows, findRow]
  repeat rw [if_neg (by omega)]
  rw [if_pos (by omega), hj]
  rfl

theorem fieldsAt_pairHi {i : Nat} (hi : i < 8) : fieldsAt 0xB1 (0x304 + 8 * i) = some [GPT_PAIR_CMP_HI_CMP i] := by
  have hj : (0x304 + 8 * i - 0x304) / 8 = i := by omega
  refine fieldsAt_block (k := .gpt) (i := 0) (by decide) (by omega) ?_
  simp only [blockRows, gptRows, findRow]
  repeat rw [if_neg (by omega)]
  rw [if_pos (by omega), hj]
  rfl

/-- The halves of the writable wide values are words of one field. -/
theorem fieldsAt_wide {p o : Nat} (h : wideRw p o = true ∨ 4 ≤ o ∧ wideRw p (o - 4) = true) :
    ∃ f : Field, fieldsAt p o = some [f] ∧ f.lo = 0 ∧ f.w = 32 := by
  have hpair {o : Nat} (ho : 0x300 ≤ o ∧ o < 0x340 ∧ o % 8 = 0) : ∃ i : Fin 8, o = 0x300 + 8 * i :=
    ⟨⟨(o - 0x300) / 8, by omega⟩, by dsimp only; omega⟩
  simp only [wideRw_iff] at h
  rcases h with (⟨rfl, rfl⟩ | ⟨rfl, hlo⟩) | ⟨h4, ⟨rfl, hhi⟩ | ⟨rfl, hhi⟩⟩
  · exact ⟨TB_ALM_LO_T, rfl, rfl, rfl⟩
  · obtain ⟨i, rfl⟩ := hpair hlo
    exact ⟨_, fieldsAt_pairLo i.isLt, rfl, rfl⟩
  · obtain rfl : o = 0x50 := by omega
    exact ⟨TB_ALM_HI_T, rfl, rfl, rfl⟩
  · obtain ⟨i, hi⟩ := hpair hhi
    obtain rfl : o = 0x304 + 8 * i := by omega
    exact ⟨_, fieldsAt_pairHi i.isLt, rfl, rfl⟩

theorem holdHi_held (s : State) (m p lo v : Nat) : tget none (s.holdHi m p lo v).acc.heldHi (latchKey m p) = some ⟨lo, v⟩ := by
  simp [State.holdHi]

/-- A whole-word write of a half of a wide value brings the word itself. -/
theorem mergeWord_wide {s : State} {p o v : Nat} (h : wideRw p o = true ∨ 4 ≤ o ∧ wideRw p (o - 4) = true) (hv : v < 2 ^ 32) :
    mergeWord (s.fieldsWord p o) v 0xFFFFFFFF = v := by
  obtain ⟨f, hf, hlo, hw⟩ := fieldsAt_wide h
  have hlt : s.rd f < 2 ^ 32 := hw ▸ rd_lt s f
  refine mergeWord_full ?_ hv
  simpa [State.fieldsWord, hf, hlo] using hlt

/-- A granted write of a low half commits both halves (R84). -/
theorem headWrite_low {a : State} {m p o v : Nat} (hp : p < 256) (hd : a.domOn (domOf p) = true) (hwide : wideRw p o = true)
    (h : a.mayWrite m p o v 0xFFFFFFFF = true) (hv : v < 2 ^ 32) :
    a.headWrite m p o v 0xFFFFFFFF = (a.counted m p).wideCommit m p o v := by
  have hpo := wideRw_iff.1 hwide
  rw [headWrite_may hp (by omega) hd h, charged_eq_counted (by omega) (by omega), State.writeReg, if_neg (by omega), if_pos hwide,
    mergeWord_wide (.inl hwide) hv]

/-- A granted write of a high half is held (R84). -/
theorem headWrite_high {a : State} {m p o v : Nat} (hp : p < 256) (hd : a.domOn (domOf p) = true)
    (hwide : 4 ≤ o ∧ wideRw p (o - 4) = true) (h : a.mayWrite m p o v 0xFFFFFFFF = true) (hv : v < 2 ^ 32) :
    a.headWrite m p o v 0xFFFFFFFF = (a.counted m p).holdHi m p (o - 4) v := by
  have hpo := wideRw_iff.1 hwide.2
  have hlow : ¬ wideRw p o = true := by rw [wideRw_iff]; omega
  rw [headWrite_may hp (by omega) hd h, charged_eq_counted (by omega) (by omega), State.writeReg, if_neg (by omega), if_neg hlow,
    if_pos hwide, mergeWord_wide (.inr hwide) hv]

/-- WIDE_LOW_WRITE is a write of the low half's word. -/
theorem exec_wideLowWrite_page {s a : State} {t p o : Nat} {m : Master} {addr v : Word} (ha : a = s.advance t)
    (hcore : State.core 3 a = true) (hr : regionOf addr.toNat = .page p o) (hwide : wideRw p o = true) :
    exec (.wideLowWrite t m addr v) s =
      .next (a.keep (a.headWrite m p o v.toNat 0xFFFFFFFF)) := by
  rw [exec_wideLowWrite, execWideLowWrite, act_at ha hcore, hr]
  dsimp only
  rw [if_pos hwide]

/-- Settles O4: a read of a low half latches, a write of a high half is held, a write of a low half commits. -/
theorem wideValues : Obligations.WideValues := by
  intro s a t m addr p o ha hcore haddr hdom
  have hp : p.val < 256 := p.isLt
  refine ⟨fun hwide hown hmay hright => ?read, fun v h4 hwide hw => ?high, fun v hp0 ho hw => ?alarm,
    fun v i hp1 hi ho hw => ?pair⟩
  case read =>
    have ho := wideOf_lt hwide
    refine ⟨_, (exec_wideLowRead t m addr s).trans (act_at ha hcore), ?_⟩
    rw [haddr, mayRead_region hp ho hmay]
    dsimp only
    rw [if_pos hwide, busRead_may hp ho hdom hmay hright]
    exact readReg_low hwide hown
  case high =>
    have ho : o < 4096 := by have := wideRw_iff.1 hwide; omega
    refine ⟨_, (exec_wideHighWrite t m addr v s).trans (act_at ha hcore), ?_⟩
    rw [haddr, mayWrite_region hp ho hw]
    dsimp only
    rw [if_pos ⟨h4, hwide⟩, headWrite_high hp hdom ⟨h4, hwide⟩ hw v.isLt]
    rw [keep_acc, keep_regs]
    exact ⟨holdHi_held (a.counted m p) m p (o - 4) v.toNat, rfl⟩
  case alarm =>
    have hwide : wideRw p o = true := wideRw_iff.2 (.inl ⟨hp0, ho⟩)
    rw [exec_wideLowWrite_page ha hcore (haddr ▸ mayWrite_region hp (by omega) hw) hwide, headWrite_low hp hdom hwide hw v.isLt,
      State.wideCommit, if_pos hp0]
  case pair =>
    have hwide : wideRw p o = true := wideRw_iff.2 (.inr ⟨hp1, by omega⟩)
    have hi' : (o - 0x300) / 8 = i := by omega
    rw [exec_wideLowWrite_page ha hcore (haddr ▸ mayWrite_region hp (by omega) hw) hwide, headWrite_low hp hdom hwide hw v.isLt,
      State.wideCommit, if_neg (by omega), hi', hp1]

end Sys2Proof.Machine
end


section
/-! Proofs about DMA channels: what a channel's states, its halt and its start leave of the registers and of what it holds. -/

namespace Sys2Proof.Machine

open Reg

section

variable {s u : State} {c : Nat} {f : Field}

/-! ### What a channel holds -/

@[simp] theorem dmaC_modDma (s : State) (c : Nat) (g : DmaC → DmaC) : (s.modDma c g).dmaC c = g (s.dmaC c) := tget_tput_self _ _ _ _

@[simp] theorem modDma_rd (s : State) (c : Nat) (g : DmaC → DmaC) (f : Field) : (s.modDma c g).rd f = s.rd f := rfl

/-- Leaving its burst, a channel changes what the engine holds only. -/
theorem dmaDrop_eq (s : State) (c : Nat) : s.dmaDrop c = { s with dma := (s.dmaDrop c).dma } := by
  unfold State.dmaDrop
  split
  · split <;> rfl
  · rfl

@[simp] theorem dmaDrop_rd (s : State) (c : Nat) (f : Field) : (s.dmaDrop c).rd f = s.rd f := by rw [dmaDrop_eq]; rfl
theorem dmaDrop_mem (s : State) (c : Nat) : (s.dmaDrop c).mem = s.mem := by rw [dmaDrop_eq]

/-- It keeps nothing but when it last missed an event, whether it waits for a budget, and its descriptor's mark. -/
theorem dmaC_dmaDrop (s : State) (c : Nat) : (s.dmaDrop c).dmaC c =
    { irqEnd := (s.dmaC c).irqEnd, wait := (s.dmaC c).wait, missed := (s.dmaC c).missed } := by
  unfold State.dmaDrop
  split
  · split <;> exact dmaC_modDma _ _ _
  · exact dmaC_modDma _ _ _

theorem dmaDrop_burst {x : Burst} (h : s.dma.burst = some x) (hc : x.c = c) : (s.dmaDrop c).dma.burst = none := by
  unfold State.dmaDrop
  simp only [h, hc, if_true]
  rfl

/-! ### The registers of a channel's progress -/

/-- Keys of fields that the progress of channel `c` leaves: all but STATE, CAUSE, CODE, LOST and DESC_END of its CH_STAT, and the
page's flags. -/
def progressKept (c k : Nat) : Prop :=
  k ≠ (PG_IFLAG_FLAG 0xB8).key ∧ k ≠ (DMA_CH_STAT_STATE c).key ∧ k ≠ (DMA_CH_STAT_CAUSE c).key ∧ k ≠ (DMA_CH_STAT_CODE c).key ∧
  k ≠ (DMA_CH_STAT_LOST c).key ∧ k ≠ (DMA_CH_STAT_DESC_END c).key

/-- A field of the page's words of channels is kept unless it is one of those. -/
theorem progressKept_of (hp : f.page = 0xB8) (ho : 0x40 ≤ f.off) (hl : f.lo < 32)
    (h : f.off ≠ 0x11C + 0x20 * c ∨ f.lo ∉ [28, 20, 16, 5, 0]) : progressKept c f.key := by
  simp only [List.mem_cons, List.not_mem_nil, or_false, not_or] at h
  simp only [progressKept, Field.key, PG_IFLAG_FLAG, DMA_CH_STAT_STATE, DMA_CH_STAT_CAUSE, DMA_CH_STAT_CODE, DMA_CH_STAT_LOST,
    DMA_CH_STAT_DESC_END, hp]
  omega

/-- Fields of a channel's words other than its own CH_STAT. -/
theorem progressKept_word {i o : Nat} (hp : f.page = 0xB8) (ho : f.off = o + 0x20 * i) (hl : f.lo < 32)
    (hw : 0x40 ≤ o ∧ o < 0x120) (h : o < 0x11C ∧ 0x100 ≤ o ∨ o = 0x11C ∧ i ≠ c) : progressKept c f.key :=
  progressKept_of hp (by omega) hl (.inl (by omega))

theorem dmaGo_still (st : Nat) : Still (progressKept c) s (s.dmaGo c st) := wr_still _ fun h => h.2.1 rfl

theorem dmaFlag_still : Still (progressKept c) s (s.dmaFlag c) := iflag_still _ fun h => h.1 rfl

theorem modDma_still {P : Nat → Prop} (g : DmaC → DmaC) : Still P s (s.modDma c g) := .same rfl rfl rfl rfl

theorem dmaDrop_still {P : Nat → Prop} : Still P s (s.dmaDrop c) := by
  rw [dmaDrop_eq]; exact .same rfl rfl rfl rfl

/-- A channel that halts: its burst gone, the cause, the code and what is lost, and HALTED. -/
def State.dmaHalted (s : State) (c cause code lost : Nat) : State :=
  ((((s.dmaDrop c).wr (DMA_CH_STAT_CAUSE c) cause).wr (DMA_CH_STAT_CODE c) code).wr (DMA_CH_STAT_LOST c) lost).dmaGo c 5

/-- A halt may set the channel's flag. -/
theorem dmaHalt_eq (s : State) (c cause code : Nat) : ∃ lost, s.dmaHalt c cause code =
    if (s.dmaHalted c cause code lost).on (DMA_CH_CFG_IRQ_ERR c) then (s.dmaHalted c cause code lost).dmaFlag c
    else s.dmaHalted c cause code lost :=
  ⟨_, rfl⟩

/-- A flag that may be set leaves every other field. -/
theorem dmaFlagIf_rd (s : State) (c : Nat) (b : Bool) (h : f.key ≠ (PG_IFLAG_FLAG 0xB8).key) :
    (if b = true then s.dmaFlag c else s).rd f = s.rd f := by
  split
  · exact setBits_rd_ne s _ h
  · rfl

theorem dmaFlagIf_dma (s : State) (c : Nat) (b : Bool) : (if b = true then s.dmaFlag c else s).dma = s.dma := by split <;> rfl

theorem dmaFlagIf_mem (s : State) (c : Nat) (b : Bool) : (if b = true then s.dmaFlag c else s).mem = s.mem := by split <;> rfl

/-- A field of CH_STAT is not a flag of the page. -/
theorem stat_ne_iflag (hp : f.page = 0xB8) (ho : f.off = 0x11C + 0x20 * c) (hl : f.lo < 32) : f.key ≠ (PG_IFLAG_FLAG 0xB8).key := by
  simp only [Field.key, PG_IFLAG_FLAG, hp, ho]
  omega

/-- Fields of CH_STAT at different bits. -/
theorem stat_ne {g : Field} (hf : f.page = 0xB8 ∧ f.off = 0x11C + 0x20 * c) (hg : g.page = 0xB8 ∧ g.off = 0x11C + 0x20 * c)
    (h : f.lo ≠ g.lo) : f.key ≠ g.key := by
  simp only [Field.key, hf.1, hf.2, hg.1, hg.2]
  omega

/-- A halted channel shows its cause and code (R383). -/
theorem dmaHalt_left (s : State) (c cause code : Nat) : (s.dmaHalt c cause code).dmaSt c = 5 ∧
    (s.dmaHalt c cause code).rd (DMA_CH_STAT_CAUSE c) = cause % 16 ∧ (s.dmaHalt c cause code).rd (DMA_CH_STAT_CODE c) = code % 16 := by
  obtain ⟨lost, h⟩ := dmaHalt_eq s c cause code
  have hst : (s.dmaHalted c cause code lost).rd (DMA_CH_STAT_STATE c) = 5 := rd_wr_self _ _ _
  have hcause : (s.dmaHalted c cause code lost).rd (DMA_CH_STAT_CAUSE c) = cause % 16 := by
    unfold State.dmaHalted State.dmaGo
    rw [rd_wr_ne _ _ _ _ (stat_ne (c := c) ⟨rfl, rfl⟩ ⟨rfl, rfl⟩ (by simp [DMA_CH_STAT_CAUSE, DMA_CH_STAT_STATE])),
      rd_wr_ne _ _ _ _ (stat_ne (c := c) ⟨rfl, rfl⟩ ⟨rfl, rfl⟩ (by simp [DMA_CH_STAT_CAUSE, DMA_CH_STAT_LOST])),
      rd_wr_ne _ _ _ _ (stat_ne (c := c) ⟨rfl, rfl⟩ ⟨rfl, rfl⟩ (by simp [DMA_CH_STAT_CAUSE, DMA_CH_STAT_CODE])), rd_wr_self]
    rfl
  have hcode : (s.dmaHalted c cause code lost).rd (DMA_CH_STAT_CODE c) = code % 16 := by
    unfold State.dmaHalted State.dmaGo
    rw [rd_wr_ne _ _ _ _ (stat_ne (c := c) ⟨rfl, rfl⟩ ⟨rfl, rfl⟩ (by simp [DMA_CH_STAT_CODE, DMA_CH_STAT_STATE])),
      rd_wr_ne _ _ _ _ (stat_ne (c := c) ⟨rfl, rfl⟩ ⟨rfl, rfl⟩ (by simp [DMA_CH_STAT_CODE, DMA_CH_STAT_LOST])), rd_wr_self]
    rfl
  rw [h]
  exact ⟨(dmaFlagIf_rd _ _ _ (stat_ne_iflag rfl rfl (by simp [DMA_CH_STAT_STATE]))).trans hst,
    (dmaFlagIf_rd _ _ _ (stat_ne_iflag rfl rfl (by simp [DMA_CH_STAT_CAUSE]))).trans hcause,
    (dmaFlagIf_rd _ _ _ (stat_ne_iflag rfl rfl (by simp [DMA_CH_STAT_CODE]))).trans hcode⟩

theorem dmaHalt_dma (s : State) (c cause code : Nat) : (s.dmaHalt c cause code).dma = (s.dmaDrop c).dma := by
  obtain ⟨lost, h⟩ := dmaHalt_eq s c cause code
  rw [h, dmaFlagIf_dma]; rfl

theorem dmaHalt_mem (s : State) (c cause code : Nat) : (s.dmaHalt c cause code).mem = s.mem := by
  obtain ⟨lost, h⟩ := dmaHalt_eq s c cause code
  rw [h, dmaFlagIf_mem]; exact dmaDrop_mem s c

theorem dmaHalt_still (cause code : Nat) : Still (progressKept c) s (s.dmaHalt c cause code) := by
  obtain ⟨lost, h⟩ := dmaHalt_eq s c cause code
  have hh : Still (progressKept c) s (s.dmaHalted c cause code lost) :=
    (dmaGo_still 5).after <| (wr_still lost fun k => k.2.2.2.2.1 rfl).after <| (wr_still code fun k => k.2.2.2.1 rfl).after <|
      (wr_still cause fun k => k.2.2.1 rfl).after dmaDrop_still
  rw [h]
  exact .ite (dmaFlag_still.after hh) hh

/-! ### A channel becomes ready (R383) -/

theorem dmaReady_still : Still (progressKept c) s (s.dmaReady c) :=
  .ite (dmaGo_still 2) (.ite ((dmaGo_still 2).after (modDma_still _)) (dmaGo_still 1))

theorem dmaReady_mem (s : State) (c : Nat) : (s.dmaReady c).mem = s.mem := by
  unfold State.dmaReady State.dmaWait
  split
  · rfl
  · split <;> rfl

/-- Without a held event, the channel is BUSY for KIND 0, else it waits. -/
theorem dmaReady_unheld (h : (s.dmaC c).held = false) : s.dmaReady c = s.dmaGo c (if s.dmaKind c = 0 then 2 else 1) := by
  unfold State.dmaReady State.dmaWait
  rw [h]
  split <;> rfl

/-- The count has reached 0: with a mark on the descriptor, DESC_END and the flag. -/
def State.dmaDescMark (s : State) (c : Nat) : State :=
  let irq := (s.dmaC c).irqEnd && s.on (DMA_CH_CFG_IRQ_DESC c)
  let s := s.modDma c fun x => { x with irqEnd := false }
  if irq then (s.setBits (DMA_CH_STAT_DESC_END c) 1).dmaFlag c else s

theorem dmaCountEnd_eq (s : State) (c : Nat) : s.dmaCountEnd c =
    if (s.dmaDescMark c).rd (DMA_CH_DESC_ADDR c) ≠ 0 then
      if ((s.dmaDescMark c).dmaC c).stop then (s.dmaDescMark c).dmaHalt c 1 0 else (s.dmaDescMark c).dmaGo c 3
    else (s.dmaDescMark c).modDma c fun x => { x with fin := true, stop := false } := rfl

theorem dmaDescMark_still : Still (progressKept c) s (s.dmaDescMark c) :=
  .ite (dmaFlag_still.after <| (setBits_still 1 fun h => h.2.2.2.2.2 rfl).after (modDma_still _)) (modDma_still _)

theorem dmaCountEnd_still : Still (progressKept c) s (s.dmaCountEnd c) := by
  rw [dmaCountEnd_eq]
  exact (Still.ite (.ite (dmaHalt_still 1 0) (dmaGo_still 3)) (modDma_still _)).after dmaDescMark_still

theorem dmaCountEnd_mem (s : State) (c : Nat) : (s.dmaCountEnd c).mem = s.mem := by
  have hmark : (s.dmaDescMark c).mem = s.mem := by
    unfold State.dmaDescMark
    dsimp only
    split <;> rfl
  rw [dmaCountEnd_eq, ← hmark]
  split
  · split
    · exact dmaHalt_mem _ _ _ _
    · rfl
  · rfl

end

end Sys2Proof.Machine
end


section
/-! Proofs about DMA channels, continued: the commands of a channel's registers, its triggers, its completion. -/

namespace Sys2Proof.Machine

open Reg

section

variable {s a : State} {c m v : Nat} {f : Field}

/-! ### A write of CH_CFG (R80, R391) -/

/-- A command's write of a word outside the tile pages is counted, and acts. -/
theorem guarded_may {p o : Nat} {g : State → State} (hp : p < 256 ∧ (p < 0x20 ∨ 0x28 < p)) (ho : o < 4096)
    (h : a.mayWrite m p o v 0xFFFFFFFF = true) : a.guarded m p o v g = g (a.counted m p) := by
  rw [State.guarded, guardedTo_may hp.1 ho h, charged_eq_counted hp.2 ho]

/-- The fields of CH_CFG (R391). -/
def dmaCfgFields (c : Nat) : List Field := [DMA_CH_CFG_PRIO c, DMA_CH_CFG_BURST c, DMA_CH_CFG_SRC_INC c, DMA_CH_CFG_DST_INC c,
  DMA_CH_CFG_SWAP c, DMA_CH_CFG_ACK_DONE c, DMA_CH_CFG_IRQ_DONE c, DMA_CH_CFG_IRQ_ERR c, DMA_CH_CFG_IRQ_DESC c, DMA_CH_CFG_HOP_LIM c]

theorem fieldsAt_dmaCfg (hc : c < 32) : fieldsAt 0xB8 (0x100 + 0x20 * c) = some (dmaCfgFields c) := by
  have hj : (0x100 + 0x20 * c - 0x100) / 0x20 = c := by omega
  refine fieldsAt_block (k := .dma) (i := 0) (by decide) (by omega) ?_
  simp only [blockRows, dmaRows, findRow]
  repeat rw [if_neg (by omega)]
  rw [if_pos (by omega), hj]
  rfl

theorem swPut_rd (s : State) (g : Field) (v : Nat) (f : Field) : (s.swPut g v).rd f = (s.wr g v).rd f := rfl

/-- A write of a field's word leaves every field of another key. -/
theorem writeField_rd_ne {g : Field} (mk : Nat) (h : f.key ≠ g.key) : (s.writeField g v mk).rd f = s.rd f := by
  unfold State.writeField
  dsimp only
  split
  iterate 3
    split
    · rfl
    · exact rd_wr_ne _ _ _ _ h
  · exact rd_wr_ne _ _ _ _ h
  · exact rd_wr_ne _ _ _ _ h
  all_goals rfl

theorem foldl_writeField_rd_ne {l : List Field} (mk : Nat) (h : ∀ g ∈ l, f.key ≠ g.key) :
    (l.foldl (fun s g => s.writeField g v mk) s).rd f = s.rd f :=
  List.foldlRecOn (motive := fun u : State => u.rd f = s.rd f) l _ rfl fun _ hu g hg => (writeField_rd_ne mk (h g hg)).trans hu

/-- After a whole-word write of writable fields at different bits, each reads as its bits of the word (R7). -/
theorem foldl_writeField_rd {l : List Field} (hnd : (l.map Field.key).Nodup)
    (hl : ∀ g ∈ l, g.ty.writable = true ∧ 0 < g.w ∧ g.lo + g.w ≤ 32) (hf : f ∈ l) :
    (l.foldl (fun s g => s.writeField g v 0xFFFFFFFF) s).rd f = bits v f.lo f.w := by
  induction l generalizing s with
  | nil => cases hf
  | cons g l ih =>
    obtain ⟨hg, hnd'⟩ := List.nodup_cons.1 hnd
    rw [List.foldl_cons]
    rcases List.mem_cons.1 hf with rfl | hf'
    · obtain ⟨hty, hw, hlo⟩ := hl f List.mem_cons_self
      have hrest : ∀ x ∈ l, f.key ≠ x.key := fun x hx e => hg (by rw [e]; exact List.mem_map_of_mem hx)
      rw [foldl_writeField_rd_ne _ hrest, writeField_full hty hw hlo]
      rw [swPut_rd, rd_wr_self]
      exact Nat.mod_mod _ _
    · exact ih hnd' (fun x hx => hl x (List.mem_cons_of_mem _ hx)) hf'

theorem dmaCfgFields_spec : ∀ g ∈ dmaCfgFields c,
    (g.page = 0xB8 ∧ g.off = 0x100 + 0x20 * c) ∧ g.ty.writable = true ∧ 0 < g.w ∧ g.lo + g.w ≤ 32 := by
  simp [dmaCfgFields, DMA_CH_CFG_PRIO, DMA_CH_CFG_BURST, DMA_CH_CFG_SRC_INC, DMA_CH_CFG_DST_INC, DMA_CH_CFG_SWAP, DMA_CH_CFG_ACK_DONE,
    DMA_CH_CFG_IRQ_DONE, DMA_CH_CFG_IRQ_ERR, DMA_CH_CFG_IRQ_DESC, DMA_CH_CFG_HOP_LIM, RType.writable]

theorem dmaCfgFields_nodup : ((dmaCfgFields c).map Field.key).Nodup := by
  simp only [dmaCfgFields, List.map_cons, List.map_nil, List.nodup_cons, List.mem_cons, List.not_mem_nil, or_false, not_or,
    not_false_eq_true, List.nodup_nil, and_true, Field.key, DMA_CH_CFG_PRIO, DMA_CH_CFG_BURST, DMA_CH_CFG_SRC_INC,
    DMA_CH_CFG_DST_INC, DMA_CH_CFG_SWAP, DMA_CH_CFG_ACK_DONE, DMA_CH_CFG_IRQ_DONE, DMA_CH_CFG_IRQ_ERR, DMA_CH_CFG_IRQ_DESC,
    DMA_CH_CFG_HOP_LIM]
  omega

theorem dmaOwner_ne_cfg : ∀ g ∈ dmaCfgFields c, (DMA_CH_STAT_OWNER c).key ≠ g.key := by
  intro g hg
  obtain ⟨⟨hp, ho⟩, -, -, hlo⟩ := dmaCfgFields_spec g hg
  simp only [Field.key, DMA_CH_STAT_OWNER, hp, ho]
  omega

/-- The fields of CH_CFG under a whole-word write; CH_STAT stays. -/
theorem plainWrite_dmaCfg (s : State) (hc : c < 32) (v : Nat) :
    (s.plainWrite 0xB8 (0x100 + 0x20 * c) v 0xFFFFFFFF).rd (DMA_CH_CFG_PRIO c) = bits v 30 2 ∧
    (s.plainWrite 0xB8 (0x100 + 0x20 * c) v 0xFFFFFFFF).rd (DMA_CH_CFG_BURST c) = bits v 26 4 ∧
    (s.plainWrite 0xB8 (0x100 + 0x20 * c) v 0xFFFFFFFF).rd (DMA_CH_CFG_SRC_INC c) = bits v 25 1 ∧
    (s.plainWrite 0xB8 (0x100 + 0x20 * c) v 0xFFFFFFFF).dmaOwner c = s.dmaOwner c := by
  simp only [State.plainWrite, fieldsAt_dmaCfg hc]
  have hcfg (f : Field) (hf : f ∈ dmaCfgFields c) :=
    foldl_writeField_rd (s := s) (v := v) dmaCfgFields_nodup (fun g hg => (dmaCfgFields_spec g hg).2) hf
  exact ⟨hcfg _ (by simp [dmaCfgFields]), hcfg _ (by simp [dmaCfgFields]), hcfg _ (by simp [dmaCfgFields]),
    foldl_writeField_rd_ne _ dmaOwner_ne_cfg⟩

/-- Keys of the registers of the DMA page past its header. -/
def dmaKept (k : Nat) : Prop := k / 131072 = 0xB8 ∧ 0x40 ≤ k / 32 % 4096

theorem dmaKept_of (hp : f.page = 0xB8) (ho : 0x40 ≤ f.off ∧ f.off < 4096) (hl : f.lo < 32) : dmaKept f.key := by
  unfold dmaKept
  rw [key_page ho.2 hl, key_off ho.2 hl]
  exact ⟨hp, ho.1⟩

/-- A register of a channel. -/
theorem dmaKept_word {o : Nat} (hc : c < 32) (hp : f.page = 0xB8) (ho : f.off = o + 0x20 * c) (hw : 0x40 ≤ o ∧ o < 0x120)
    (hl : f.lo < 32) : dmaKept f.key :=
  dmaKept_of hp (by omega) hl

theorem dmaKept_noFault : NoFault dmaKept := by
  refine ⟨fun k hk => ?_, by unfold dmaKept; decide⟩
  unfold dmaKept at hk
  omega

/-- A refusal writes the registers of SYS and what its message writes (R75, R81). -/
theorem refuse_still {P : Nat → Prop} (hF : NoFault P) (hS : ∀ k, P k → k / 131072 ≠ 0) (A : Nat) (w : Bool) (code : Nat) :
    Still P s (s.refuse m A w code) := by
  have hsys {g : Field} (hg : g.key / 131072 = 0) : ¬ P g.key := fun h => hS _ h hg
  unfold State.refuse
  refine (raise_still hF _ _ _).after (.ite (wr_still _ (hsys (by decide))) ?_)
  exact (wr_still _ (hsys (by decide))).after <| (wr_still _ (hsys (by decide))).after <| (wr_still _ (hsys (by decide))).after <|
    (wr_still _ (hsys (by decide))).after <| setBits_still _ (hsys (by decide))

/-- A write of CH_CFG that R74 grants, or refuses as RWS, on a page that answers makes its master the owner (R80, R391). -/
theorem dmaCfgWrite_owned {code : Nat} (hcode : s.writeCode m (pageAddr 0xB8 (0x100 + 0x20 * c)) v 0xFFFFFFFF = code)
    (h : code = 0 ∨ code = 4) (hb : s.rstBusy 0xB8 = false) :
    s.dmaCfgWrite m c v 0xFFFFFFFF = (s.wr (DMA_CH_STAT_OWNER c) m).guarded m 0xB8 (0x100 + 0x20 * c) v fun s =>
      s.plainWrite 0xB8 (0x100 + 0x20 * c) v 0xFFFFFFFF := by
  unfold State.dmaCfgWrite State.guarded
  dsimp only
  rw [hcode, hb, if_pos ⟨h, rfl⟩]

theorem dmaOwner_wr (s : State) (c : Nat) (m : Master) : (s.wr (DMA_CH_STAT_OWNER c) m).dmaOwner c = m.val :=
  (rd_wr_self s (DMA_CH_STAT_OWNER c) m.val).trans (Nat.mod_eq_of_lt m.isLt)

/-- Granted, the write takes its fields. -/
theorem dmaCfgWrite_granted {m : Master} (hc : c < 32) (hb : a.rstBusy 0xB8 = false)
    (hcode : a.writeCode m (pageAddr 0xB8 (0x100 + 0x20 * c)) v 0xFFFFFFFF = 0)
    (hw : (a.wr (DMA_CH_STAT_OWNER c) m).mayWrite m 0xB8 (0x100 + 0x20 * c) v 0xFFFFFFFF = true) :
    (a.dmaCfgWrite m c v 0xFFFFFFFF).dmaOwner c = m.val ∧ (a.dmaCfgWrite m c v 0xFFFFFFFF).rd (DMA_CH_CFG_PRIO c) = bits v 30 2 ∧
    (a.dmaCfgWrite m c v 0xFFFFFFFF).rd (DMA_CH_CFG_BURST c) = bits v 26 4 ∧
    (a.dmaCfgWrite m c v 0xFFFFFFFF).rd (DMA_CH_CFG_SRC_INC c) = bits v 25 1 := by
  rw [dmaCfgWrite_owned hcode (.inl rfl) hb, guarded_may (by decide) (by omega) hw]
  obtain ⟨hprio, hburst, hinc, hown⟩ := plainWrite_dmaCfg ((a.wr (DMA_CH_STAT_OWNER c) m).counted m 0xB8) hc v
  exact ⟨hown.trans (dmaOwner_wr a c m), hprio, hburst, hinc⟩

/-- Refused as RWS, it takes the channel and nothing more of it. -/
theorem dmaCfgWrite_refused {m : Master} (hc : c < 32) (hb : a.rstBusy 0xB8 = false)
    (hcode : a.writeCode m (pageAddr 0xB8 (0x100 + 0x20 * c)) v 0xFFFFFFFF = 4)
    (hown : (a.wr (DMA_CH_STAT_OWNER c) m).writeCode m (pageAddr 0xB8 (0x100 + 0x20 * c)) v 0xFFFFFFFF = 4) :
    (a.dmaCfgWrite m c v 0xFFFFFFFF).dmaOwner c = m.val ∧
    (a.dmaCfgWrite m c v 0xFFFFFFFF).rd (DMA_CH_CFG_BURST c) = a.rd (DMA_CH_CFG_BURST c) ∧
    (a.dmaCfgWrite m c v 0xFFFFFFFF).dmaSt c = a.dmaSt c ∧ (a.dmaCfgWrite m c v 0xFFFFFFFF).mem = a.mem := by
  have hsys : ∀ k, dmaKept k → k / 131072 ≠ 0 := by
    intro k hk
    unfold dmaKept at hk
    omega
  rw [dmaCfgWrite_owned hcode (.inr rfl) hb, State.guarded, guardedTo_refused (by rw [hown]; decide)]
  have hstill := refuse_still (s := a.wr (DMA_CH_STAT_OWNER c) m) (m := m) dmaKept_noFault hsys (pageAddr 0xB8 (0x100 + 0x20 * c)) true
    ((a.wr (DMA_CH_STAT_OWNER c) m).writeCode m (pageAddr 0xB8 (0x100 + 0x20 * c)) v 0xFFFFFFFF)
  refine ⟨?owner, ?burst, ?state, (refuse_frame _ _ _ _ _).mem⟩
  case owner =>
    exact (hstill.regs _ (dmaKept_word (o := 0x11C) hc rfl rfl (by decide) (by simp [DMA_CH_STAT_OWNER]))).trans (dmaOwner_wr a c m)
  case burst =>
    refine (hstill.regs _ (dmaKept_word (o := 0x100) hc rfl rfl (by decide) (by simp [DMA_CH_CFG_BURST]))).trans (rd_wr_ne _ _ _ _ ?_)
    simp only [Field.key, DMA_CH_CFG_BURST, DMA_CH_STAT_OWNER]
    omega
  case state =>
    refine (hstill.regs _ (dmaKept_word (o := 0x11C) hc rfl rfl (by decide) (by simp [DMA_CH_STAT_STATE]))).trans (rd_wr_ne _ _ _ _ ?_)
    exact stat_ne (c := c) ⟨rfl, rfl⟩ ⟨rfl, rfl⟩ (by simp [DMA_CH_STAT_STATE, DMA_CH_STAT_OWNER])

/-! ### START (R378, R383) -/

theorem dmaCtrl_start (h : s.dmaActive c = false) : s.dmaCtrl c 1 = s.dmaStart c := by
  unfold State.dmaCtrl; rw [h]; rfl

theorem dmaCtrl_stop (h : s.dmaActive c = true) : s.dmaCtrl c 2 = s.dmaStop c := by
  unfold State.dmaCtrl; rw [h]; rfl

theorem dmaCheck_lt (s : State) (c : Nat) : s.dmaCheck c < 16 := by
  unfold State.dmaCheck
  dsimp only
  split_ifs <;> decide

/-- A channel whose check fails stays IDLE, with cause 8 and the code. -/
theorem dmaStart_failed (hact : s.dmaActive c = false) (hcheck : s.dmaCheck c ≠ 0) : (s.dmaStart c).dmaSt c = 0 ∧
    (s.dmaStart c).rd (DMA_CH_STAT_CAUSE c) = 8 ∧ (s.dmaStart c).rd (DMA_CH_STAT_CODE c) = s.dmaCheck c := by
  unfold State.dmaStart
  rw [hact, if_neg (by decide)]
  dsimp only
  rw [if_pos hcheck]
  refine ⟨(dmaFlagIf_rd _ _ _ (stat_ne_iflag rfl rfl (by simp [DMA_CH_STAT_STATE]))).trans ?_,
    (dmaFlagIf_rd _ _ _ (stat_ne_iflag rfl rfl (by simp [DMA_CH_STAT_CAUSE]))).trans ?_,
    (dmaFlagIf_rd _ _ _ (stat_ne_iflag rfl rfl (by simp [DMA_CH_STAT_CODE]))).trans ?_⟩
  · rw [rd_wr_ne _ _ _ _ (stat_ne (c := c) ⟨rfl, rfl⟩ ⟨rfl, rfl⟩ (by simp [DMA_CH_STAT_STATE, DMA_CH_STAT_CODE])),
      rd_wr_ne _ _ _ _ (stat_ne (c := c) ⟨rfl, rfl⟩ ⟨rfl, rfl⟩ (by simp [DMA_CH_STAT_STATE, DMA_CH_STAT_CAUSE]))]
    exact rd_wr_self _ _ _
  · rw [rd_wr_ne _ _ _ _ (stat_ne (c := c) ⟨rfl, rfl⟩ ⟨rfl, rfl⟩ (by simp [DMA_CH_STAT_CAUSE, DMA_CH_STAT_CODE])), rd_wr_self]
    rfl
  · rw [rd_wr_self]
    exact Nat.mod_eq_of_lt (dmaCheck_lt s c)

/-- What a START leaves of what the channel holds: nothing but an event of its own cycle (R381). -/
def State.dmaFresh (s : State) (c : Nat) : State :=
  let s := if s.dmaSt c = 5 then s else s.modDma c fun x => { x with irqEnd := false }
  let ev : Bool := (s.dmaC c).missed == some s.tb
  let s := s.dmaDrop c
  if ev then s.modDma c fun x => { x with evs := 1, missed := none } else s

/-- What a START clears of CH_STAT. -/
def State.dmaCleared (s : State) (c : Nat) : State :=
  ((((s.wr (DMA_CH_STAT_HOPS c) 0).wr (DMA_CH_STAT_DONE c) 0).wr (DMA_CH_STAT_LOST c) 0).wr (DMA_CH_STAT_CAUSE c) 0).wr
    (DMA_CH_STAT_CODE c) 0

theorem dmaStart_eq (hact : s.dmaActive c = false) (hcheck : s.dmaCheck c = 0) : s.dmaStart c =
    if ((s.dmaFresh c).dmaCleared c).rd (DMA_CH_COUNT_BYTES c) = 0 then ((s.dmaFresh c).dmaCleared c).dmaGo c 3
    else ((s.dmaFresh c).dmaCleared c).dmaReady c := by
  unfold State.dmaStart
  rw [hact, if_neg (by decide)]
  dsimp only
  rw [if_neg (fun h => h hcheck)]
  rfl

theorem dmaFresh_rd (s : State) (c : Nat) (f : Field) : (s.dmaFresh c).rd f = s.rd f := by
  unfold State.dmaFresh
  dsimp only
  split <;> split <;> simp

theorem dmaFresh_held (s : State) (c : Nat) : ((s.dmaFresh c).dmaC c).held = false ∧ ((s.dmaFresh c).dmaC c).fin = false ∧
    ((s.dmaFresh c).dmaC c).evs = if (s.dmaC c).missed = some s.tb then 1 else 0 := by
  have hmod (g : DmaC → DmaC) : (s.modDma c g).tb = s.tb := rfl
  unfold State.dmaFresh
  dsimp only
  split <;> split <;> simp_all [dmaC_dmaDrop]

theorem dmaC_wr (s : State) (f : Field) (v i : Nat) : (s.wr f v).dmaC i = s.dmaC i := rfl

/-- A START that passes clears its CH_STAT and takes the channel's next state: DESC for an empty count, BUSY, or WAIT. -/
theorem dmaStart_passed (hact : s.dmaActive c = false) (hcheck : s.dmaCheck c = 0) : s.dmaStart c =
    ((s.dmaFresh c).dmaCleared c).dmaGo c (if s.rd (DMA_CH_COUNT_BYTES c) = 0 then 3 else if s.dmaKind c = 0 then 2 else 1) := by
  have hword {g : Field} (hp : g.page = 0xB8) (ho : g.off ≠ 0x11C + 0x20 * c) (hl : g.lo < 32) :
      ((s.dmaFresh c).dmaCleared c).rd g = s.rd g := by
    unfold State.dmaCleared
    simp (disch := (simp only [Field.key, hp, DMA_CH_STAT_HOPS, DMA_CH_STAT_DONE, DMA_CH_STAT_LOST, DMA_CH_STAT_CAUSE,
      DMA_CH_STAT_CODE]; omega)) only [rd_wr_ne]
    exact dmaFresh_rd s c g
  have hcount : ((s.dmaFresh c).dmaCleared c).rd (DMA_CH_COUNT_BYTES c) = s.rd (DMA_CH_COUNT_BYTES c) :=
    hword rfl (by simp only [DMA_CH_COUNT_BYTES]; omega) (by simp [DMA_CH_COUNT_BYTES])
  have hkind : ((s.dmaFresh c).dmaCleared c).dmaKind c = s.dmaKind c :=
    hword rfl (by simp only [DMA_CH_TRIG_KIND]; omega) (by simp [DMA_CH_TRIG_KIND])
  have hheld : (((s.dmaFresh c).dmaCleared c).dmaC c).held = false := by
    simp only [State.dmaCleared, dmaC_wr]
    exact (dmaFresh_held s c).1
  rw [dmaStart_eq hact hcheck, hcount]
  by_cases h : s.rd (DMA_CH_COUNT_BYTES c) = 0
  · rw [if_pos h, if_pos h]
  · rw [if_neg h, if_neg h, dmaReady_unheld hheld, hkind]

theorem dmaStart_left (hact : s.dmaActive c = false) (hcheck : s.dmaCheck c = 0) :
    (s.dmaStart c).dmaSt c = (if s.rd (DMA_CH_COUNT_BYTES c) = 0 then 3 else if s.dmaKind c = 0 then 2 else 1) ∧
    (s.dmaStart c).rd (DMA_CH_STAT_CAUSE c) = 0 ∧ (s.dmaStart c).rd (DMA_CH_STAT_HOPS c) = 0 ∧
    (s.dmaStart c).rd (DMA_CH_STAT_DONE c) = 0 ∧
    ((s.dmaStart c).dmaC c).evs = (if (s.dmaC c).missed = some s.tb then 1 else 0) ∧ ((s.dmaStart c).dmaC c).fin = false := by
  have hk : (if s.rd (DMA_CH_COUNT_BYTES c) = 0 then 3 else if s.dmaKind c = 0 then 2 else 1) < 2 ^ 4 := by split_ifs <;> decide
  obtain ⟨-, hfin, hevs⟩ := dmaFresh_held s c
  rw [dmaStart_passed hact hcheck]
  unfold State.dmaGo State.dmaCleared
  simp only [dmaC_wr]
  refine ⟨(rd_wr_self _ _ _).trans (Nat.mod_eq_of_lt hk), ?_, ?_, ?_, hevs, hfin⟩
  all_goals
    simp (disch := (simp only [Field.key, DMA_CH_STAT_STATE, DMA_CH_STAT_HOPS, DMA_CH_STAT_DONE, DMA_CH_STAT_LOST,
      DMA_CH_STAT_CAUSE, DMA_CH_STAT_CODE]; omega)) only [rd_wr_self, rd_wr_ne, Nat.zero_mod]

/-! ### STOP (R383) -/

/-- Between its bursts an active channel halts with cause 1. -/
theorem dmaStop_halts (hact : s.dmaActive c = true) (hfin : (s.dmaC c).fin = false) (hb : s.dmaInBurst c = false) :
    (s.dmaStop c).dmaSt c = 5 ∧ (s.dmaStop c).rd (DMA_CH_STAT_CAUSE c) = 1 := by
  have h : s.dmaStop c = s.dmaHalt c 1 0 := by
    unfold State.dmaStop State.dmaInBurst at *
    rw [hact, hfin, if_neg (by decide)]
    split
    · next x hx => rw [hx] at hb; rw [if_pos (by simpa using hb)]
    · rfl
  obtain ⟨hst, hcause, -⟩ := dmaHalt_left s c 1 0
  rw [h]
  exact ⟨hst, hcause⟩

/-- One whose burst is under way halts at its end. -/
theorem dmaStop_later {x : Burst} (hact : s.dmaActive c = true) (hfin : (s.dmaC c).fin = false) (hb : s.dma.burst = some x)
    (hc : x.c = c) (hat : x.at_ ≠ s.tb) : (s.dmaStop c).dmaSt c = s.dmaSt c ∧ ((s.dmaStop c).dmaC c).stop = true ∧
      (s.dmaStop c).dma.burst = some x ∧ (s.dmaStop c).regs = s.regs := by
  have h : s.dmaStop c = s.modDma c fun y => { y with stop := true } := by
    unfold State.dmaStop
    rw [hact, hfin, if_neg (by decide), hb]
    dsimp only
    rw [if_neg (fun h => h hc), if_neg hat]
  rw [h, dmaC_modDma]
  exact ⟨rfl, rfl, hb, rfl⟩

/-- Taking a burst back leaves what the engine holds. -/
theorem dmaUngrant_dma (s : State) (c n k : Nat) : (s.dmaUngrant c n k).dma = s.dma := by
  unfold State.dmaUngrant
  exact List.foldlRecOn (motive := fun u : State => u.dma = s.dma) _ _ rfl fun _ hu _ _ => hu

/-- One whose burst was granted in the very cycle halts, the burst unstarted. -/
theorem dmaStop_unstarted {x : Burst} (hact : s.dmaActive c = true) (hfin : (s.dmaC c).fin = false) (hb : s.dma.burst = some x)
    (hc : x.c = c) (hat : x.at_ = s.tb) :
    (s.dmaStop c).dmaSt c = 5 ∧ (s.dmaStop c).rd (DMA_CH_STAT_CAUSE c) = 1 ∧ (s.dmaStop c).dma.burst = none := by
  have h : s.dmaStop c = (s.dmaUngrant c x.n x.data.length).dmaHalt c 1 0 := by
    unfold State.dmaStop
    rw [hact, hfin, if_neg (by decide), hb]
    dsimp only
    rw [if_neg (fun h => h hc), if_pos hat]
  obtain ⟨hst, hcause, -⟩ := dmaHalt_left (s.dmaUngrant c x.n x.data.length) c 1 0
  rw [h, dmaHalt_dma]
  exact ⟨hst, hcause, dmaDrop_burst (by rw [dmaUngrant_dma]; exact hb) hc⟩

end

end Sys2Proof.Machine
end


section
/-! Proofs about DMA channels, concluded: triggers, completion, descriptors, the line buffer, the fence, and the obligation. -/

namespace Sys2Proof.Machine

open Reg

section

variable {s a : State} {c m v : Nat} {f : Field}

theorem lor_one_mod_two (n : Nat) : Nat.lor n 1 % 2 = 1 := by
  simpa only [bit, Nat.pow_zero, Nat.div_one, beq_iff_eq] using bit_lor_two_pow n 0

/-! ### Triggers (R379, R381) -/

/-- An event is taken. -/
def State.dmaSpent (s : State) (c : Nat) : State := s.modDma c fun y => { y with evs := y.evs - 1 }

theorem dmaC_dmaSpent (s : State) (c : Nat) : (s.dmaSpent c).dmaC c = { s.dmaC c with evs := (s.dmaC c).evs - 1 } := dmaC_modDma _ _ _

/-- An event releases a channel that waits. -/
theorem dmaTrigger_release (hk : s.dmaKind c ≠ 3) (hev : 0 < (s.dmaC c).evs) (hst : s.dmaSt c = 1) :
    (s.dmaTrigger c).dmaSt c = 2 ∧ ((s.dmaTrigger c).dmaC c).evs = (s.dmaC c).evs - 1 := by
  have hst' : (s.modDma c fun y => { y with evs := y.evs - 1 }).dmaSt c = 1 := hst
  have h : s.dmaTrigger c = (s.dmaSpent c).dmaGo c 2 := by
    unfold State.dmaTrigger
    rw [if_neg hk]
    dsimp only
    rw [if_neg (by omega), hst']
    rfl
  rw [h]
  exact ⟨rd_wr_self _ _ _, congrArg DmaC.evs (dmaC_dmaSpent s c)⟩

/-- One that is at work holds the event, or counts it as an overrun. -/
theorem dmaTrigger_busy (hk : s.dmaKind c ≠ 3) (hev : 0 < (s.dmaC c).evs) (hst : s.dmaSt c = 2 ∨ s.dmaSt c = 3) :
    s.dmaTrigger c = if (s.dmaC c).held then (s.dmaSpent c).setBits (DMA_CH_STAT_TRIG_OVR c) 1
      else (s.dmaSpent c).modDma c fun y => { y with held := true } := by
  have hst' : (s.modDma c fun y => { y with evs := y.evs - 1 }).dmaSt c = 2 ∨
      (s.modDma c fun y => { y with evs := y.evs - 1 }).dmaSt c = 3 := hst
  unfold State.dmaTrigger
  rw [if_neg hk]
  dsimp only
  rw [if_neg (by omega)]
  rcases hst' with h | h
  all_goals
    rw [h]
    rfl

theorem dmaTrigger_held (hk : s.dmaKind c ≠ 3) (hev : 0 < (s.dmaC c).evs) (hst : s.dmaSt c = 2 ∨ s.dmaSt c = 3)
    (hheld : (s.dmaC c).held = false) : (s.dmaTrigger c).dmaSt c = s.dmaSt c ∧ ((s.dmaTrigger c).dmaC c).held = true ∧
      ((s.dmaTrigger c).dmaC c).evs = (s.dmaC c).evs - 1 := by
  rw [dmaTrigger_busy hk hev hst, hheld, if_neg (by decide), dmaC_modDma, dmaC_dmaSpent]
  exact ⟨rfl, rfl, rfl⟩

theorem dmaTrigger_overrun (hk : s.dmaKind c ≠ 3) (hev : 0 < (s.dmaC c).evs) (hst : s.dmaSt c = 2 ∨ s.dmaSt c = 3)
    (hheld : (s.dmaC c).held = true) : (s.dmaTrigger c).dmaSt c = s.dmaSt c ∧ (s.dmaTrigger c).rd (DMA_CH_STAT_TRIG_OVR c) = 1 ∧
      ((s.dmaTrigger c).dmaC c).evs = (s.dmaC c).evs - 1 := by
  rw [dmaTrigger_busy hk hev hst, hheld, if_pos rfl, setBits_rd, rd_wr_self]
  refine ⟨setBits_rd_ne _ _ ?_, lor_one_mod_two _, congrArg DmaC.evs (dmaC_dmaSpent s c)⟩
  exact stat_ne (c := c) ⟨rfl, rfl⟩ ⟨rfl, rfl⟩ (by simp [DMA_CH_STAT_STATE, DMA_CH_STAT_TRIG_OVR])

/-- An active request releases a channel of KIND 3 (R380). -/
theorem dmaTrigger_request (hk : s.dmaKind c = 3) (hst : s.dmaSt c = 1) (hr : s.dmaReq c = true) : (s.dmaTrigger c).dmaSt c = 2 ∧
    ((s.dmaTrigger c).dmaC c).evs = (s.dmaC c).evs ∧ (s.dmaTrigger c).rd (DMA_CH_COUNT_BYTES c) = s.rd (DMA_CH_COUNT_BYTES c) := by
  have h : s.dmaTrigger c = s.dmaGo c 2 := by
    unfold State.dmaTrigger
    rw [if_pos hk, hst, hr]
    rfl
  rw [h]
  exact ⟨rd_wr_self _ _ _, rfl, rd_wr_ne _ _ _ _ (by simp only [Field.key, DMA_CH_COUNT_BYTES, DMA_CH_STAT_STATE]; omega)⟩

/-! ### Completion (R385) -/

/-- Registers stand, and so does whether the count of a channel has ended. -/
structure FinKept (s s' : State) : Prop where
  regs : s'.regs = s.regs
  fin : ∀ c, (s'.dmaC c).fin = (s.dmaC c).fin

theorem FinKept.refl (s : State) : FinKept s s := ⟨rfl, fun _ => rfl⟩

theorem FinKept.after {a b c : State} (k : FinKept b c) (h : FinKept a b) : FinKept a c :=
  ⟨k.regs.trans h.regs, fun x => (k.fin x).trans (h.fin x)⟩

theorem FinKept.foldl {α : Type} {l : List α} {g : State → α → State} (h : ∀ s x, FinKept s (g s x)) (s : State) :
    FinKept s (l.foldl g s) :=
  List.foldlRecOn (motive := fun r => FinKept s r) l g (.refl s) fun r hr x _ => (h r x).after hr

theorem modDma_finKept {g : DmaC → DmaC} (hg : ∀ x, (g x).fin = x.fin) (i : Nat) : FinKept s (s.modDma i g) := by
  refine ⟨rfl, fun x => ?_⟩
  by_cases h : x = i
  · subst h
    rw [dmaC_modDma]
    exact hg _
  · exact congrArg DmaC.fin (tget_tput_ne _ _ _ h)

/-- Events change what channels have missed or have to take. -/
theorem dmaEvent_finKept (kind sel : Nat) : FinKept s (s.dmaEvent kind sel) := by
  refine .foldl (fun u i => ?_) s
  dsimp only
  split
  · split
    · refine modDma_finKept ?_ i
      exact fun _ => rfl
    · refine modDma_finKept ?_ i
      exact fun _ => rfl
  · exact .refl u

/-- The pulses of the router's sources that follow a channel's completion (R369, R385). -/
def State.dmaDonePulses (s : State) (c : Nat) : State :=
  (List.range 8).foldl
    (fun s j => if s.on (ROUTER_DDONE_SEL_EN j) && s.rd (ROUTER_DDONE_SEL_CH j) == c then s.pulse (240 + j) else s) s

theorem dmaDonePulses_finKept : FinKept s (s.dmaDonePulses c) := by
  refine .foldl (fun u j => ?_) s
  split
  · exact ⟨rfl, fun _ => rfl⟩
  · exact .refl u

/-- A channel that completes: DONE, its burst gone, and those told that follow it. -/
def State.dmaEnded (s : State) (c : Nat) : State :=
  ((((s.dmaDrop c).dmaGo c 4).setBits (DMA_CH_STAT_DONE c) 1).dmaDonePulses c).dmaEvent 2 c

theorem dmaComplete_eq (hfin : (s.dmaC c).fin = true) (hst : s.dmaSt c = 2) :
    s.dmaComplete c = if (s.dmaEnded c).on (DMA_CH_CFG_IRQ_DONE c) then (s.dmaEnded c).dmaFlag c else s.dmaEnded c := by
  unfold State.dmaComplete
  rw [hfin, hst, if_neg (by decide)]
  rfl

/-- What an ended channel shows. -/
theorem dmaEnded_left (s : State) (c : Nat) : (s.dmaEnded c).dmaSt c = 4 ∧ (s.dmaEnded c).rd (DMA_CH_STAT_DONE c) = 1 ∧
    ((s.dmaEnded c).dmaC c).fin = false ∧ (s.dmaEnded c).rd (DMA_CH_CFG_IRQ_DONE c) = s.rd (DMA_CH_CFG_IRQ_DONE c) := by
  have hk : FinKept (((s.dmaDrop c).dmaGo c 4).setBits (DMA_CH_STAT_DONE c) 1) (s.dmaEnded c) :=
    (dmaEvent_finKept 2 c).after dmaDonePulses_finKept
  refine ⟨(rd_congr hk.regs _).trans ?_, (rd_congr hk.regs _).trans ?_, (hk.fin c).trans ?_, (rd_congr hk.regs _).trans ?_⟩
  · rw [setBits_rd_ne _ _ (stat_ne (c := c) ⟨rfl, rfl⟩ ⟨rfl, rfl⟩ (by simp [DMA_CH_STAT_STATE, DMA_CH_STAT_DONE]))]
    exact rd_wr_self _ _ _
  · rw [setBits_rd, rd_wr_self]
    exact lor_one_mod_two _
  · exact congrArg DmaC.fin (dmaC_dmaDrop s c)
  · rw [setBits_rd_ne _ _ (by simp only [Field.key, DMA_CH_CFG_IRQ_DONE, DMA_CH_STAT_DONE]; omega), State.dmaGo,
      rd_wr_ne _ _ _ _ (by simp only [Field.key, DMA_CH_CFG_IRQ_DONE, DMA_CH_STAT_STATE]; omega), dmaDrop_rd]

/-- The completion point of a channel whose count has ended. -/
theorem dmaComplete_left (hc : c < 32) (hfin : (s.dmaC c).fin = true) (hst : s.dmaSt c = 2) :
    (s.dmaComplete c).dmaSt c = 4 ∧ (s.dmaComplete c).rd (DMA_CH_STAT_DONE c) = 1 ∧ ((s.dmaComplete c).dmaC c).fin = false ∧
    (s.on (DMA_CH_CFG_IRQ_DONE c) = true → bit ((s.dmaComplete c).rd (PG_IFLAG_FLAG 0xB8)) c = true) := by
  obtain ⟨hstate, hdone, hended, hirq⟩ := dmaEnded_left s c
  rw [dmaComplete_eq hfin hst]
  refine ⟨(dmaFlagIf_rd _ _ _ (stat_ne_iflag rfl rfl (by simp [DMA_CH_STAT_STATE]))).trans hstate,
    (dmaFlagIf_rd _ _ _ (stat_ne_iflag rfl rfl (by simp [DMA_CH_STAT_DONE]))).trans hdone, ?_, fun hon => ?_⟩
  · rw [State.dmaC, dmaFlagIf_dma]
    exact hended
  · have hon' : (s.dmaEnded c).on (DMA_CH_CFG_IRQ_DONE c) = true := by rw [State.on, hirq]; exact hon
    rw [if_pos hon', State.dmaFlag, State.iflag, setBits_rd, rd_wr_self]
    exact (bit_mod_two_pow (w := 32) _ hc).trans (bit_lor_two_pow _ _)

/-! ### Descriptors (R389, R390) -/

/-- What a descriptor at `p` loads, with `n` the hops after it. -/
def State.dmaLoaded (s : State) (c p n : Nat) : State :=
  let w (i : Nat) : Nat := (s.descWords p).getD i 0
  ((((((s.wr (DMA_CH_SRC_ADDR c) (w 0)).wr (DMA_CH_DST_ADDR c) (w 1)).wr (DMA_CH_COUNT_BYTES c) (w 2)).wr (DMA_CH_DESC_ADDR c)
    (w 3 / 16)).wr (DMA_CH_STAT_HOPS c) (if bit (w 2) 30 then 0 else n))).modDma c fun x => { x with irqEnd := bit (w 2) 31 }

theorem descWords_getD (s : State) (p : Nat) {i : Nat} (hi : i < 4) : (s.descWords p).getD i 0 = rdWord s.mem (p + 4 * i) := by
  simp [State.descWords, hi]

/-- The check of what it loads (R378); a link that is no multiple of 16 fails it too (R389). -/
def State.dmaLoadCode (s : State) (c p n : Nat) : Nat :=
  if (s.descWords p).getD 3 0 % 16 ≠ 0 then 6 else (s.dmaLoaded c p n).dmaCheck c

/-- A channel that has loaded a descriptor with the check's code halts where it fails, ends its count where that is 0, or is ready. -/
def State.dmaOn (s : State) (c code : Nat) : State :=
  if code ≠ 0 then s.dmaHalt c 7 code else if s.rd (DMA_CH_COUNT_BYTES c) = 0 then s.dmaCountEnd c else s.dmaReady c

theorem dmaDesc_loads {p n : Nat} (hp : p = 16 * s.rd (DMA_CH_DESC_ADDR c)) (hn : n = s.rd (DMA_CH_STAT_HOPS c) + 1)
    (hst : s.dmaSt c = 3) (hhop : n ≤ max 1 (s.rd (DMA_CH_CFG_HOP_LIM c))) (hcode : s.readCode (s.dmaOwner c) p = 0)
    (hg : s.grantable (s.dmaOwner c) 4 = true) (hz : bits (rdWord s.mem (p + 8)) 18 12 = 0) :
    s.dmaDesc c = ((s.useBudget (s.dmaOwner c) 4).dmaLoaded c p n).dmaOn c ((s.useBudget (s.dmaOwner c) 4).dmaLoadCode c p n) := by
  subst hp hn
  have hz' : ¬ bits (((s.useBudget (s.dmaOwner c) 4).descWords (16 * s.rd (DMA_CH_DESC_ADDR c))).getD 2 0) 18 12 ≠ 0 := by
    rw [descWords_getD _ _ (by decide)]
    exact fun h => h hz
  unfold State.dmaDesc
  dsimp only
  rw [if_neg (fun h => h hst), if_neg (by omega), if_neg (fun h => h hcode), hg, if_neg (by decide), if_neg hz']
  rfl

/-- Whichever way it goes on, what it loaded stands, and memory. -/
theorem dmaOn_kept (code : Nat) : Still (progressKept c) s (s.dmaOn c code) ∧ (s.dmaOn c code).mem = s.mem := by
  unfold State.dmaOn
  split
  · exact ⟨dmaHalt_still 7 code, dmaHalt_mem _ _ _ _⟩
  · split
    · exact ⟨dmaCountEnd_still, dmaCountEnd_mem _ _⟩
    · exact ⟨dmaReady_still, dmaReady_mem _ _⟩

/-- The registers that a descriptor loads. -/
theorem dmaLoaded_rd (s : State) (c p n : Nat) : (s.dmaLoaded c p n).rd (DMA_CH_SRC_ADDR c) = rdWord s.mem p ∧
    (s.dmaLoaded c p n).rd (DMA_CH_DST_ADDR c) = rdWord s.mem (p + 4) ∧
    (s.dmaLoaded c p n).rd (DMA_CH_COUNT_BYTES c) = rdWord s.mem (p + 8) % 2 ^ 18 ∧
    (s.dmaLoaded c p n).rd (DMA_CH_DESC_ADDR c) = rdWord s.mem (p + 12) / 16 ∧
    (s.dmaLoaded c p n).rd (DMA_CH_STAT_HOPS c) = if bit (rdWord s.mem (p + 8)) 30 then 0 else n % 2 ^ 8 := by
  have h0 := rdWord_lt s.mem p
  have h1 := rdWord_lt s.mem (p + 4)
  have h3 := rdWord_lt s.mem (p + 4 * 3)
  unfold State.dmaLoaded
  dsimp only
  simp only [descWords_getD s p (i := 0) (by decide), descWords_getD s p (i := 1) (by decide), descWords_getD s p (i := 2) (by decide),
    descWords_getD s p (i := 3) (by decide)]
  refine ⟨?_, ?_, ?_, ?_, ?_⟩
  all_goals
    simp (disch := (simp only [Field.key, DMA_CH_SRC_ADDR, DMA_CH_DST_ADDR, DMA_CH_COUNT_BYTES, DMA_CH_DESC_ADDR,
      DMA_CH_STAT_HOPS]; omega)) only [modDma_rd, rd_wr_self, rd_wr_ne]
  · exact Nat.mod_eq_of_lt h0
  · exact Nat.mod_eq_of_lt h1
  · rfl
  · exact Nat.mod_eq_of_lt (by simp only [DMA_CH_DESC_ADDR]; omega)
  · split <;> rfl

/-- Going on leaves the registers that the descriptor loaded, and memory as it was. -/
theorem dmaLoaded_dmaOn (u : State) (c p n code : Nat) : ((u.dmaLoaded c p n).dmaOn c code).rd (DMA_CH_SRC_ADDR c) = rdWord u.mem p ∧
    ((u.dmaLoaded c p n).dmaOn c code).rd (DMA_CH_DST_ADDR c) = rdWord u.mem (p + 4) ∧
    ((u.dmaLoaded c p n).dmaOn c code).rd (DMA_CH_COUNT_BYTES c) = rdWord u.mem (p + 8) % 2 ^ 18 ∧
    ((u.dmaLoaded c p n).dmaOn c code).rd (DMA_CH_DESC_ADDR c) = rdWord u.mem (p + 12) / 16 ∧
    ((u.dmaLoaded c p n).dmaOn c code).rd (DMA_CH_STAT_HOPS c) = (if bit (rdWord u.mem (p + 8)) 30 then 0 else n % 2 ^ 8) ∧
    ((u.dmaLoaded c p n).dmaOn c code).mem = u.mem := by
  obtain ⟨hsrc, hdst, hcount, hdesc, hhops⟩ := dmaLoaded_rd u c p n
  have hmem : (u.dmaLoaded c p n).mem = u.mem := rfl
  generalize u.dmaLoaded c p n = l at hsrc hdst hcount hdesc hhops hmem ⊢
  obtain ⟨hkept, hmem'⟩ := dmaOn_kept (s := l) (c := c) code
  have hword {g : Field} (o : Nat) (hpg : g.page = 0xB8) (ho : g.off = o + 0x20 * c) (hw : 0x100 ≤ o ∧ o < 0x11C) (hl : g.lo < 32) :
      (l.dmaOn c code).rd g = l.rd g :=
    hkept.regs g (progressKept_word hpg ho hl ⟨by omega, by omega⟩ (.inl ⟨hw.2, hw.1⟩))
  have hstat : (l.dmaOn c code).rd (DMA_CH_STAT_HOPS c) = l.rd (DMA_CH_STAT_HOPS c) :=
    hkept.regs _ (progressKept_of rfl (by simp only [DMA_CH_STAT_HOPS]; omega) (by simp [DMA_CH_STAT_HOPS])
      (.inr (by simp [DMA_CH_STAT_HOPS])))
  rw [hword 0x108 rfl rfl (by decide) (by simp [DMA_CH_SRC_ADDR]), hword 0x10C rfl rfl (by decide) (by simp [DMA_CH_DST_ADDR]),
    hword 0x110 rfl rfl (by decide) (by simp [DMA_CH_COUNT_BYTES]), hword 0x114 rfl rfl (by decide) (by simp [DMA_CH_DESC_ADDR]),
    hstat, hmem', hmem]
  exact ⟨hsrc, hdst, hcount, hdesc, hhops, rfl⟩

/-- What a descriptor that loads leaves. -/
theorem dmaDesc_left {p n : Nat} (hp : p = 16 * s.rd (DMA_CH_DESC_ADDR c)) (hn : n = s.rd (DMA_CH_STAT_HOPS c) + 1)
    (hst : s.dmaSt c = 3) (hhop : n ≤ max 1 (s.rd (DMA_CH_CFG_HOP_LIM c))) (hcode : s.readCode (s.dmaOwner c) p = 0)
    (hg : s.grantable (s.dmaOwner c) 4 = true) (hz : bits (rdWord s.mem (p + 8)) 18 12 = 0) :
    (s.dmaDesc c).rd (DMA_CH_SRC_ADDR c) = rdWord s.mem p ∧ (s.dmaDesc c).rd (DMA_CH_DST_ADDR c) = rdWord s.mem (p + 4) ∧
    (s.dmaDesc c).rd (DMA_CH_COUNT_BYTES c) = rdWord s.mem (p + 8) % 2 ^ 18 ∧
    (s.dmaDesc c).rd (DMA_CH_DESC_ADDR c) = rdWord s.mem (p + 12) / 16 ∧
    (s.dmaDesc c).rd (DMA_CH_STAT_HOPS c) = (if bit (rdWord s.mem (p + 8)) 30 then 0 else n % 2 ^ 8) ∧ (s.dmaDesc c).mem = s.mem := by
  have hu : (s.useBudget (s.dmaOwner c) 4).mem = s.mem := rfl
  rw [dmaDesc_loads hp hn hst hhop hcode hg hz, ← hu]
  exact dmaLoaded_dmaOn _ _ _ _ _

/-- A descriptor past the limit of hops halts the channel. -/
theorem dmaDesc_hops (hst : s.dmaSt c = 3) (hhop : max 1 (s.rd (DMA_CH_CFG_HOP_LIM c)) < s.rd (DMA_CH_STAT_HOPS c) + 1) :
    (s.dmaDesc c).dmaSt c = 5 ∧ (s.dmaDesc c).rd (DMA_CH_STAT_CAUSE c) = 6 ∧
    (s.dmaDesc c).rd (DMA_CH_SRC_ADDR c) = s.rd (DMA_CH_SRC_ADDR c) := by
  have hhalt : s.dmaDesc c = s.dmaHalt c 6 0 := by
    unfold State.dmaDesc
    dsimp only
    rw [if_neg (fun h => h hst), if_pos hhop]
  have hkept : Still (progressKept c) s (s.dmaHalt c 6 0) := dmaHalt_still 6 0
  obtain ⟨hst', hcause, -⟩ := dmaHalt_left s c 6 0
  rw [hhalt]
  refine ⟨hst', hcause, hkept.regs _ (progressKept_word (o := 0x108) rfl rfl ?_ (by decide) (.inl (by decide)))⟩
  simp [DMA_CH_SRC_ADDR]

/-! ### The prefetch line buffer (R388) -/

/-- Every active channel of a list halts with cause 5. -/
def State.dmaHaltAll (s : State) (l : List Nat) : State :=
  l.foldl (fun s c => if s.dmaActive c then s.dmaHalt c 5 0 else s) s

/-- The halt of another channel leaves a channel's STATE and CAUSE. -/
theorem dmaHalt_other {i : Nat} (h : c ≠ i) (cause code : Nat) : (s.dmaHalt i cause code).dmaSt c = s.dmaSt c ∧
    (s.dmaHalt i cause code).rd (DMA_CH_STAT_CAUSE c) = s.rd (DMA_CH_STAT_CAUSE c) := by
  have hs : Still (progressKept i) s (s.dmaHalt i cause code) := dmaHalt_still cause code
  exact ⟨hs.regs _ (progressKept_word (o := 0x11C) rfl rfl (by simp [DMA_CH_STAT_STATE]) (by decide) (.inr ⟨rfl, h⟩)),
    hs.regs _ (progressKept_word (o := 0x11C) rfl rfl (by simp [DMA_CH_STAT_CAUSE]) (by decide) (.inr ⟨rfl, h⟩))⟩

theorem dmaHaltAll_other {l : List Nat} (h : c ∉ l) : (s.dmaHaltAll l).dmaSt c = s.dmaSt c ∧
    (s.dmaHaltAll l).rd (DMA_CH_STAT_CAUSE c) = s.rd (DMA_CH_STAT_CAUSE c) := by
  refine List.foldlRecOn (motive := fun u : State => u.dmaSt c = s.dmaSt c ∧
    u.rd (DMA_CH_STAT_CAUSE c) = s.rd (DMA_CH_STAT_CAUSE c)) l _ ⟨rfl, rfl⟩ fun u hu i hi => ?_
  split
  · obtain ⟨hst, hcause⟩ := dmaHalt_other (s := u) (c := c) (i := i) (fun e => h (e ▸ hi)) 5 0
    exact ⟨hst.trans hu.1, hcause.trans hu.2⟩
  · exact hu

theorem dmaActive_congr {u : State} (h : u.dmaSt c = s.dmaSt c) : u.dmaActive c = s.dmaActive c := by
  unfold State.dmaActive; rw [h]

/-- Of the channels of a list, those active halt with cause 5, the others stay. -/
theorem dmaHaltAll_left {l : List Nat} (hnd : l.Nodup) (hc : c ∈ l) :
    (s.dmaActive c = true → (s.dmaHaltAll l).dmaSt c = 5 ∧ (s.dmaHaltAll l).rd (DMA_CH_STAT_CAUSE c) = 5) ∧
    (s.dmaActive c = false → (s.dmaHaltAll l).dmaSt c = s.dmaSt c) := by
  induction l generalizing s with
  | nil => cases hc
  | cons i l ih =>
    obtain ⟨hi, hnd'⟩ := List.nodup_cons.1 hnd
    have hcons : s.dmaHaltAll (i :: l) = (if s.dmaActive i then s.dmaHalt i 5 0 else s).dmaHaltAll l := rfl
    rw [hcons]
    by_cases hci : c = i
    · subst hci
      obtain ⟨hst, hcause⟩ := dmaHaltAll_other (s := if s.dmaActive c then s.dmaHalt c 5 0 else s) hi
      obtain ⟨h5, hc5, -⟩ := dmaHalt_left s c 5 0
      rw [hst, hcause]
      refine ⟨fun h => ?_, fun h => ?_⟩
      · rw [if_pos h]; exact ⟨h5, hc5⟩
      · rw [h]; rfl
    · have hc' : c ∈ l := (List.mem_cons.1 hc).resolve_left hci
      have hstep : (if s.dmaActive i then s.dmaHalt i 5 0 else s).dmaSt c = s.dmaSt c := by
        split
        · exact (dmaHalt_other hci 5 0).1
        · rfl
      have h := ih (s := if s.dmaActive i then s.dmaHalt i 5 0 else s) hnd' hc'
      rwa [dmaActive_congr hstep, hstep] at h

/-- The line buffer's error marks the page, and raises its message. -/
theorem dmaPfb_left (s : State) : s.dmaPfb.rd DMA_DMA_STAT_PFB_ERR = 1 ∧
    ∀ c : DmaCh, (s.dmaSettle.dmaActive c = true → s.dmaPfb.dmaSt c = 5 ∧ s.dmaPfb.rd (DMA_CH_STAT_CAUSE c) = 5) ∧
      (s.dmaSettle.dmaActive c = false → s.dmaPfb.dmaSt c = s.dmaSettle.dmaSt c) := by
  have hr : Still dmaKept ((s.dmaSettle.dmaHaltAll (List.range 32)).setBits DMA_DMA_STAT_PFB_ERR 1) s.dmaPfb :=
    raise_still dmaKept_noFault _ _ _
  have hstat {g : Field} (c : DmaCh) (hp : g.page = 0xB8) (ho : g.off = 0x11C + 0x20 * c) (hl : g.lo < 32) :
      s.dmaPfb.rd g = (s.dmaSettle.dmaHaltAll (List.range 32)).rd g := by
    refine (hr.regs g (dmaKept_word (o := 0x11C) c.isLt hp ho (by decide) hl)).trans (setBits_rd_ne _ _ ?_)
    simp only [Field.key, DMA_DMA_STAT_PFB_ERR, hp, ho]
    omega
  refine ⟨?_, fun c => ?_⟩
  · rw [hr.regs _ (dmaKept_of rfl (by simp [DMA_DMA_STAT_PFB_ERR]) (by decide)), setBits_rd, rd_wr_self]
    exact lor_one_mod_two _
  · have h := dmaHaltAll_left (s := s.dmaSettle) (c := c) List.nodup_range (List.mem_range.2 c.isLt)
    rw [State.dmaSt, hstat c rfl rfl (by simp [DMA_CH_STAT_STATE]), hstat c rfl rfl (by simp [DMA_CH_STAT_CAUSE])]
    exact h

/-! ### The fence (R386) -/

theorem dmaFence_left (hc : c < 32) : (s.dmaFence c).rd DMA_FENCE_CH = c ∧ (s.dmaFence c).rd DMA_FENCE_BUSY = 1 := by
  unfold State.dmaFence
  rw [rd_wr_ne _ _ _ _ (by decide), rd_wr_self, rd_wr_self]
  exact ⟨Nat.mod_eq_of_lt hc, rfl⟩

/-! ### The commands -/

theorem dmaOk_of (h : State.corn 3 a = true) (hb : a.rstBusy 0xB8 = false) (hc : a.pageCrimson 0xB8 = false) : dmaOk a = true := by
  simp [dmaOk, h, hb, hc]

theorem core_of_corn (h : State.corn 3 a = true) : State.core 3 a = true := by
  simp only [State.corn, State.core, Bool.and_eq_true] at h ⊢
  exact h.1

theorem on_of_bits {v : Nat} (h : s.rd f = bits v f.lo 1) : s.on f = bit v f.lo := by
  have hb : v / 2 ^ f.lo % 2 = 0 ∨ v / 2 ^ f.lo % 2 = 1 := by omega
  rw [State.on, h]
  unfold bits bit
  rcases hb with hb | hb <;> simp [hb]


end

/-- START and STOP are writes of CH_CTRL. -/
theorem exec_dmaStart_idle {s a : State} {t : Nat} {m : Master} {c : DmaCh} (ha : a = s.advance t) (hcore : State.core 3 a = true)
    (hw : a.mayWrite m 0xB8 (0x118 + 0x20 * c.val) 1 0xFFFFFFFF = true) (hact : a.dmaActive c = false) :
    exec (.dmaStart t m c) s = .next (a.keep ((a.counted m 0xB8).dmaStart c)) := by
  rw [exec_dmaStart, execDmaStart, act_at ha hcore, guarded_may (by decide) (by omega) hw,
    dmaCtrl_start (s := a.counted m 0xB8) hact]

theorem exec_dmaStop_active {s a : State} {t : Nat} {m : Master} {c : DmaCh} (ha : a = s.advance t) (hcore : State.core 3 a = true)
    (hw : a.mayWrite m 0xB8 (0x118 + 0x20 * c.val) 2 0xFFFFFFFF = true) (hact : a.dmaActive c = true) :
    exec (.dmaStop t m c) s = .next (a.keep ((a.counted m 0xB8).dmaStop c)) := by
  rw [exec_dmaStop, execDmaStop, act_at ha hcore, guarded_may (by decide) (by omega) hw,
    dmaCtrl_stop (s := a.counted m 0xB8) hact]

/-- Settles O37: each command is the step of its channel, and each step's registers are read off what it writes. -/
theorem dmaChannels : Obligations.DmaChannels := by
  intro s a t ha hcorn hbusy hcrim
  have hcore := core_of_corn hcorn
  have hok := dmaOk_of hcorn hbusy hcrim
  refine ⟨fun m c v hw hcode => ?cfg, fun m c v hcode hown => ?cfgRefused, fun m c hw hact hcheck => ?startFails,
    fun m c hw hact hcheck hcount => ?start, fun m c hw hact hcheck hcount => ?startEmpty, fun m c hw hact hfin hb => ?stop,
    fun m c x hw hact hfin hb hc hat => ?stopLater, fun m c x hw hact hfin hb hc hat => ?stopUnstarted,
    fun c hk hev hst => ?release, fun c hk hev hst hheld => ?hold, fun c hk hev hst hheld => ?overrun, fun c hk hst hreq => ?request,
    fun c hfin hst => ?complete, fun c hst hhop hcode hg hz => ?load, fun c hst hhop => ?hops, fun w hw => ?buffer,
    fun m c hw => ?fence, fun hb => ?fenceDone, fun hb => ?fenceWaits⟩
  case cfg =>
    obtain ⟨hown, hprio, hburst, hinc⟩ := dmaCfgWrite_granted c.isLt hbusy hcode hw
    exact ⟨_, (exec_dmaChCfgWrite t m c v s).trans (act_at ha hcore), hown, hprio, hburst, on_of_bits hinc⟩
  case cfgRefused =>
    exact ⟨_, (exec_dmaChCfgWrite t m c v s).trans (act_at ha hcore), dmaCfgWrite_refused c.isLt hbusy hcode hown⟩
  case startFails => exact ⟨_, exec_dmaStart_idle ha hcore hw hact, dmaStart_failed (s := a.counted m 0xB8) hact hcheck⟩
  case start =>
    have h := dmaStart_left (s := a.counted m 0xB8) hact hcheck
    rw [if_neg (show ¬ (a.counted m 0xB8).rd (DMA_CH_COUNT_BYTES c) = 0 from hcount)] at h
    exact ⟨_, exec_dmaStart_idle ha hcore hw hact, h⟩
  case startEmpty =>
    have h := dmaStart_left (s := a.counted m 0xB8) hact hcheck
    rw [if_pos (show (a.counted m 0xB8).rd (DMA_CH_COUNT_BYTES c) = 0 from hcount)] at h
    exact ⟨_, exec_dmaStart_idle ha hcore hw hact, h⟩
  case stop => exact ⟨_, exec_dmaStop_active ha hcore hw hact, dmaStop_halts (s := a.counted m 0xB8) hact hfin hb⟩
  case stopLater => exact ⟨_, exec_dmaStop_active ha hcore hw hact, dmaStop_later (s := a.counted m 0xB8) hact hfin hb hc hat⟩
  case stopUnstarted =>
    exact ⟨_, exec_dmaStop_active ha hcore hw hact, dmaStop_unstarted (s := a.counted m 0xB8) hact hfin hb hc hat⟩
  case release => exact ⟨_, (exec_dmaTrigger t c s).trans (act_at ha hok), dmaTrigger_release hk hev hst⟩
  case hold => exact ⟨_, (exec_dmaTrigger t c s).trans (act_at ha hok), dmaTrigger_held hk hev hst hheld⟩
  case overrun => exact ⟨_, (exec_dmaTrigger t c s).trans (act_at ha hok), dmaTrigger_overrun hk hev hst hheld⟩
  case request => exact ⟨_, (exec_dmaTrigger t c s).trans (act_at ha hok), dmaTrigger_request hk hst hreq⟩
  case complete => exact ⟨_, (exec_dmaComplete t c s).trans (act_at ha hok), dmaComplete_left c.isLt hfin hst⟩
  case load => exact ⟨_, (exec_dmaDescLoad t c s).trans (act_at ha hok), dmaDesc_left rfl rfl hst hhop hcode hg hz⟩
  case hops => exact ⟨_, (exec_dmaDescLoad t c s).trans (act_at ha hok), dmaDesc_hops hst hhop⟩
  case buffer =>
    subst hw
    exact ⟨_, (exec_dmaPfbError t s).trans (act_at ha hok), dmaPfb_left a⟩
  case fence =>
    refine ⟨_, (exec_dmaFence t m c s).trans (act_at ha hcore), ?_⟩
    rw [guarded_may (by decide) (by decide) hw]
    exact dmaFence_left c.isLt
  case fenceDone =>
    refine ⟨_, (exec_dmaFenceDone t s).trans (act_at ha hok), ?_⟩
    rw [hb, if_neg (by decide), keep_rd, keep_rd, rd_wr_self, rd_wr_ne _ _ _ _ (by decide)]
    exact ⟨rfl, rfl, rfl⟩
  case fenceWaits =>
    refine ⟨_, (exec_dmaFenceDone t s).trans (act_at ha hok), ?_⟩
    rw [hb, if_pos rfl]
    exact ⟨rfl, rfl⟩

end Sys2Proof.Machine
end


section
/-! The counterexample to the statement on unit reset and the disabling of a page. -/

namespace Sys2Proof.Machine

open Reg

/-- The device runs, bank 0 is enabled, and the HSS of its slot 0 is on though the slot's PHASE is OFF. -/
def hssInOff : State := ({ pwr := { held := false }, slots := [(0, { hss := true })] } : State).wr (PG_CTRL_EN 0x40) 1

/-- BOOT may disable the bank there. -/
theorem hssInOff_may : hssInOff.mayWrite (3 : Master) (0x40 : Page) 0x08 0 1 = true ∧
    hssInOff.on (PG_CTRL_EN (0x40 : Page)) = true := by
  decide +kernel

/-- The slot is not running, so that the disabling does not quench it (R279), and its HSS stays on. -/
theorem hssInOff_disabled :
    ((hssInOff.counted (3 : Master) (0x40 : Page)).pageEnd (0x40 : Page)).slot (0 : Fin 24) (0 : Fin 2) = { hss := true } := by
  decide +kernel

theorem keep_slot (a b : State) (k i : Nat) : (a.keep b).slot k i = b.slot k i := rfl

/-- Refutes O2: its clause on a bank's slots is about every state, and `State.bankDisable` turns HSS off only in the slots that run
(PHASE 1 to 3). The model's own steps turn HSS on only in PEAK and HOLD and off at the entry into QUENCH, so that this is not the
model's fault, but no hypothesis of the clause excludes an HSS that is on in OFF. -/
theorem not_unitResetAndDisable : ¬ Obligations.UnitResetAndDisable := by
  intro h
  have hnow : hssInOff.advance 0 = hssInOff := by decide +kernel
  obtain ⟨hmay, hon⟩ := hssInOff_may
  -- The first clause is about the same command, and gives the state that it leaves.
  obtain ⟨hends, hdisable, -⟩ := h hssInOff hssInOff 0 3 0x40 hnow.symm (by decide +kernel) (by decide +kernel)
  obtain ⟨hex, -⟩ := hends hmay (by decide) hon
  obtain ⟨b, hb, -, -, -, hslots, -⟩ := hdisable hmay (by decide) hon
  have hleft : b.slot (0 : Fin 24) (0 : Fin 2) = { hss := true } := by
    rw [Host.Outcome.next.inj (hb.symm.trans hex), keep_slot]
    exact hssInOff_disabled
  have hoff : (b.slot (0 : Fin 24) (0 : Fin 2)).hss = false := hslots 0 0 rfl
  rw [hleft] at hoff
  exact absurd hoff (by decide)

end Sys2Proof.Machine
end


section
/-! Proof about request frames: what taking a frame leaves of the interconnect's decisions, and the tests of a whole frame. -/

namespace Sys2Proof.Machine

open Reg

/-! ### What a port's own record decides -/

/-- `s'` differs from `s`, where the interconnect looks, only in what port `x` holds and in its PORT_STAT.STATE. -/
structure PortOnly (x : Port) (s s' : State) : Prop where
  mem : s'.mem = s.mem
  tb : s'.tb = s.tb
  budg : s'.budg = s.budg
  rd : ∀ f : Field, f.key ≠ (HOST_PORT_STAT_STATE x).key → s'.rd f = s.rd f
  others : ∀ y, y ≠ x.val → s'.hs y = s.hs y

section PortOnly

variable {x : Port} {a b c s s' : State}

theorem PortOnly.trans (h : PortOnly x a b) (k : PortOnly x b c) : PortOnly x a c :=
  ⟨k.mem.trans h.mem, k.tb.trans h.tb, k.budg.trans h.budg, fun f hf => (k.rd f hf).trans (h.rd f hf),
    fun y hy => (k.others y hy).trans (h.others y hy)⟩

theorem modHs_portOnly (s : State) (f : HostS → HostS) : PortOnly x s (s.modHs x f) :=
  ⟨rfl, rfl, rfl, fun _ _ => rfl, fun y hy => by rw [hs_modHs, if_neg hy]⟩

theorem hostTo_portOnly (s : State) (n : Nat) : PortOnly x s (s.hostTo x n) :=
  ⟨rfl, rfl, rfl, fun f hf => rd_wr_ne s _ f n hf, fun _ _ => rfl⟩

theorem PortOnly.on_lfmode (h : PortOnly x s s') : s'.on TB_TB_STAT_LFMODE = s.on TB_TB_STAT_LFMODE := by
  have := h.rd TB_TB_STAT_LFMODE (by simp only [Field.key, TB_TB_STAT_LFMODE, HOST_PORT_STAT_STATE]; omega)
  simp only [State.on, this]

theorem PortOnly.dmaPends (h : PortOnly x s s') (t m : Nat) {i : Nat} (hi : i < 32) : s'.dmaPends t m i = s.dmaPends t m i := by
  have dma {o lo w ty r} (ho : 0x100 ≤ o) (hlo : lo < 32) :
      s'.rd ⟨0xB8, o + 0x20 * i, lo, w, ty, r⟩ = s.rd ⟨0xB8, o + 0x20 * i, lo, w, ty, r⟩ :=
    h.rd _ (by simp only [Field.key, HOST_PORT_STAT_STATE]; omega)
  simp [State.dmaPends, DMA_CH_STAT_STATE, DMA_CH_STAT_OWNER, DMA_CH_SRC_ADDR, DMA_CH_DST_ADDR, dma]

/-- Another consumer of mailbox SRAM has requests pending as before. -/
theorem PortOnly.budgetPends (h : PortOnly x s s') {i : Nat} (hi : i < 16) (hne : i ≠ x.val) :
    s'.budgetPends i = s.budgetPends i := by
  have hhost : s'.hostPends (i / 16) (i % 16) = s.hostPends (i / 16) (i % 16) := by
    have hi' : tget {} s'.host (i % 16) = tget {} s.host (i % 16) := h.others (i % 16) (by omega)
    simp only [State.hostPends, hi']
  have hdma : (List.range 32).any (s'.dmaPends (i / 16) (i % 16)) = (List.range 32).any (s.dmaPends (i / 16) (i % 16)) := by
    rw [Bool.eq_iff_iff]
    simp only [List.any_eq_true, List.mem_range]
    exact exists_congr fun c => and_congr_right fun hc => by rw [h.dmaPends _ _ hc]
  have h48 : i < 48 := by omega
  simp only [State.budgetPends, h.budg, hhost, hdma, h48, if_true]

/-- The budgets grant the port at mailbox SRAM what they granted it (R53). -/
theorem PortOnly.grantable (h : PortOnly x s s') (n : Nat) : s'.grantable x n = s.grantable x n := by
  have hpoint : ∀ i ∈ pointOf x.val, i < 16 := by
    intro i hi
    have hx : x.val < 48 := by omega
    simp only [pointOf, hx, if_true, List.mem_map, List.mem_range] at hi
    omega
  have hunmet : s'.unmetFloors x = s.unmetFloors x := by
    have hfilter : ((pointOf x.val).filter fun i => i != x.val && s'.budgetPends i) =
        (pointOf x.val).filter fun i => i != x.val && s.budgetPends i :=
      List.filter_congr fun i hi => by
        by_cases hne : i = x.val
        · simp [hne]
        · rw [h.budgetPends (hpoint i hi) hne]
    simp only [State.unmetFloors, State.bset, State.buse, h.budg, hfilter]
  unfold State.grantable State.bset State.buse State.cyclesLeft
  rw [h.budg, h.tb, h.on_lfmode, hunmet]

end PortOnly

/-! ### Rights in mailbox SRAM (R61, R73, R473) -/

theorem regionOf_mbx_bank {A k : Nat} (h : regionOf A = .mbx k) : k < 16 := by
  obtain ⟨h1, h2⟩ := regionOf_eq_mbx h
  have h3 : A % 4 = 0 := by
    by_contra h4
    simp [regionOf, h4] at h
  have h4 : ¬ A < 0x10000 := by omega
  have h5 : (A - 0x10000000) / 0x4000 = k := by
    simpa [regionOf, h1, h2, h3, h4] using h
  omega

/-- The access tables grant in mailbox SRAM what they granted. -/
def SameMbx (s s' : State) : Prop := ∀ k < 16, ∀ m, s'.rightIn (.mbx k) m = s.rightIn (.mbx k) m

theorem sameMbx_of_rd {s s' : State} (hboot : s'.rd (HOST_BOOT_STAT_STATE 0) = s.rd (HOST_BOOT_STAT_STATE 0))
    (hacl : ∀ k < 16, s'.rd (SYS_MBX_ACL_ACL k) = s.rd (SYS_MBX_ACL_ACL k)) : SameMbx s s' := fun k hk m => by
  unfold State.rightIn State.preBoot State.tableRight
  rw [hboot]
  dsimp only
  rw [hacl k hk]

theorem PortOnly.sameMbx {x : Port} {s s' : State} (h : PortOnly x s s') : SameMbx s s' :=
  sameMbx_of_rd (h.rd _ (by simp only [Field.key, HOST_BOOT_STAT_STATE, HOST_PORT_STAT_STATE]; omega))
    fun k hk => h.rd _ (by simp only [Field.key, SYS_MBX_ACL_ACL, HOST_PORT_STAT_STATE]; omega)

theorem readCode_mbx {s : State} {m A k : Nat} (h : regionOf A = .mbx k) :
    s.readCode m A = 0 ↔ s.rightIn (.mbx k) m ≠ 0 := by
  simp [State.readCode, h]

theorem writeCode_mbx {s : State} {m A v mk k : Nat} (h : regionOf A = .mbx k) :
    s.writeCode m A v mk = 0 ↔ 2 ≤ s.rightIn (.mbx k) m := by
  simp [State.writeCode, h, Nat.succ_le_iff]

theorem SameMbx.readCode {s s' : State} (hs : SameMbx s s') {m A k : Nat} (hr : regionOf A = .mbx k)
    (h : s.readCode m A = 0) : s'.readCode m A = 0 := by
  rw [readCode_mbx hr] at h ⊢
  rwa [hs k (regionOf_mbx_bank hr)]

theorem SameMbx.writeCode {s s' : State} (hs : SameMbx s s') {m A v mk k : Nat} (hr : regionOf A = .mbx k)
    (h : s.writeCode m A v mk = 0) : s'.writeCode m A v mk = 0 := by
  rw [writeCode_mbx hr] at h ⊢
  rwa [hs k (regionOf_mbx_bank hr)]

/-! ### The frame in EXEC -/

section Frame

variable {s u : State} {x : Nat} {f g : HFrame}

@[simp] theorem modFrame_frame (s : State) (x : Nat) (g : HFrame → HFrame) :
    ((s.modFrame x g).hs x).frame = (s.hs x).frame.map g := by
  simp [State.modFrame]

theorem modFrame_portOnly {x : Port} (s : State) (g : HFrame → HFrame) : PortOnly x s (s.modFrame x g) := modHs_portOnly s _

/-- The last words `vs` of a frame are done, and it ends. -/
def State.frameDone (s : State) (x n : Nat) (vs : List Nat) : State :=
  (s.wordDone x n vs).modFrame x fun f => { f with fin := true }

theorem frameDone_frame (n : Nat) (vs : List Nat) (h : (s.hs x).frame = some f) :
    ((s.frameDone x n vs).hs x).frame = some { f with idx := f.idx + n, data := f.data ++ vs, fin := true } := by
  simp [State.frameDone, State.wordDone, h]

theorem hostRunN_ended (n : Nat) (h : (s.hs x).frame = some f) (hfin : f.fin = true) : s.hostRunN n x = s := by
  cases n <;> simp [State.hostRunN, h, hfin]

theorem hostWord_end (h : f.words[f.idx]? = none) : s.hostWord x f = (true, s.modFrame x fun f => { f with fin := true }) := by
  simp [State.hostWord, h]

theorem words_wordDone (f : HFrame) (n : Nat) (vs : List Nat) :
    ({ f with idx := f.idx + n, data := f.data ++ vs } : HFrame).words = f.words := rfl

/-- A frame whose one access does all its words ends with it (R101). -/
theorem hostBegin_done {vs : List Nat} (hs : (s.hs x).frame = some f) (hfin : f.fin = false) (hidx : f.idx = 0)
    (hw : s.free.2.hostWord x f = (true, u.wordDone x f.words.length vs)) (hu : (u.hs x).frame = some f) :
    s.hostBegin x = u.frameDone x f.words.length vs := by
  have hs' : (s.free.2.hs x).frame = some f := hs
  have hafter : ((u.wordDone x f.words.length vs).hs x).frame =
      some { f with idx := f.idx + f.words.length, data := f.data ++ vs } := by
    simp [State.wordDone, hu]
  have hend : (u.wordDone x f.words.length vs).hostWord x { f with idx := f.idx + f.words.length, data := f.data ++ vs } =
      (true, u.frameDone x f.words.length vs) :=
    hostWord_end (by rw [words_wordDone]; simp [hidx])
  have hopen : ({ f with idx := f.idx + f.words.length, data := f.data ++ vs } : HFrame).fin = false := hfin
  generalize ({ f with idx := f.idx + f.words.length, data := f.data ++ vs } : HFrame) = g at hafter hend hopen
  have hbegin : s.hostBegin x = s.free.2.hostRunN (s.free.1 % 259 + 1 + 1) x := by
    rw [show s.free.1 % 259 + 1 + 1 = 2 + s.free.1 % 259 from by omega]; rfl
  rw [hbegin]
  simp only [State.hostRunN, hs', hfin, hw, hafter, hopen, hend, Bool.false_eq_true, if_false]
  exact hostRunN_ended _ (frameDone_frame _ _ hu) rfl

/-! ### Words in mailbox SRAM -/

theorem busRead_mbx {m A k : Nat} (hr : regionOf A = .mbx k) (hc : s.readCode m A = 0) :
    s.busRead m A true = (.ok (rdWord s.mem A), s) := by
  have hright := (readCode_mbx hr).1 hc
  simp [State.busRead, State.busyAt, State.payAt, State.fetchWord, hr, hc, hright]

theorem busPut_mbx_paid {m A v mk k : Nat} (hr : regionOf A = .mbx k) :
    s.busPut m A v mk 0 true = (.ok 0, { s with mem := wrWord s.mem A (mergeWord (rdWord s.mem A) v mk) }) := by
  simp [State.busPut, State.busyAt, State.payAt, State.storeWord, hr]

theorem hostWord_read {w : HWord} {k : Nat} (hw : f.words[f.idx]? = some w) (hop : f.op ≠ 0x30) (hacross : f.across = false)
    (hread : w.write = false) (hr : regionOf w.a = .mbx k) (hc : s.readCode x w.a = 0) :
    s.hostWord x f = (true, s.wordDone x 1 [rdWord s.mem w.a]) := by
  simp [State.hostWord, hw, isRemote_mbx hr, hop, hacross, hread, busRead_mbx hr hc]

theorem hostWord_write {w : HWord} {k : Nat} (hw : f.words[f.idx]? = some w) (hop : f.op ≠ 0x30) (hacross : f.across = false)
    (hwrite : w.write = true) (hr : regionOf w.a = .mbx k) (hc : s.writeCode x w.a w.v w.mask = 0) :
    s.hostWord x f =
      (true, ({ s with mem := wrWord s.mem w.a (mergeWord (rdWord s.mem w.a) w.v w.mask) } : State).wordDone x 1 []) := by
  simp [State.hostWord, hw, State.wordCode, isRemote_mbx hr, hop, hacross, hwrite, hc, busPut_mbx_paid hr]

/-- SNAP64 of one value reads both its words (R97). -/
theorem hostWord_snap {w : HWord} {k k' : Nat} (hw : f.words[f.idx]? = some w) (hop : f.op = 0x30) (hacross : f.across = false)
    (hr : regionOf w.a = .mbx k) (hc : s.readCode x w.a = 0) (hr' : regionOf (w.a + 4) = .mbx k')
    (hc' : s.readCode x (w.a + 4) = 0) :
    s.hostWord x f = (true, s.wordDone x 2 [rdWord s.mem w.a, rdWord s.mem (w.a + 4)]) := by
  simp [State.hostWord, hw, isRemote_mbx hr, hop, State.snapPair, hc, hc', State.busyAt, hr, hr', hacross, targetOf_mbx hr,
    State.payAt, State.snapWord, State.fetchWord]

end Frame

/-! ### The tests of a whole frame (R57, R75, R98) -/

section Tests

variable {s u : State} {x : Port} {f : HFrame} {ok : State → State}

theorem frameBudget_mbx {w : HWord} {ws : List HWord} {k : Nat} (hr : regionOf w.a = .mbx k)
    (hb : ws.length + 1 ≤ if (s.bset x).slack then (s.bset x).ceil else (s.bset x).floor)
    (hg : s.grantable x (ws.length + 1) = true) :
    s.frameBudget x (w :: ws) ok = ((ok s).useBudget x (ws.length + 1)).hostBegin x := by
  simp [State.frameBudget, targetOf_mbx hr, hg, Nat.not_lt.2 hb]

/-- A frame of mailbox words that all pass is granted whole, and begins. -/
theorem frameTest_mbx (hne : f.words ≠ []) (hcode : ∀ w ∈ f.words, (∃ k, regionOf w.a = .mbx k) ∧ s.wordCode x w = 0)
    (hb : f.words.length ≤ if (s.bset x).slack then (s.bset x).ceil else (s.bset x).floor)
    (hg : s.grantable x f.words.length = true) :
    s.frameTest x f ok = ((ok s).useBudget x f.words.length).hostBegin x := by
  have hcodes (i : Nat) : (f.words.map (s.wordCode x)).getD i 0 = 0 := by
    by_cases hi : i < f.words.length
    · simp [hi, (hcode _ (List.getElem_mem hi)).2]
    · simp [Nat.not_lt.1 hi]
  have hfirst (p : Nat → Bool) (hp : p 0 = false) :
      ((List.range f.words.length).find? fun i => p ((f.words.map (s.wordCode x)).getD i 0)) = none := by
    simp only [hcodes, hp]; simp
  have hidle : (f.words.any fun w => s.busyAt w.a w.write) = false := by
    rw [List.any_eq_false]
    intro w hw
    obtain ⟨k, hk⟩ := (hcode w hw).1
    simp [State.busyAt, hk]
  have htest : s.frameTest x f ok = s.frameBudget x f.words ok := by
    simp only [State.frameTest, hfirst (· == 2) rfl, hfirst (· != 0) rfl, hidle, Bool.false_eq_true, if_false]
  rw [htest]
  obtain ⟨w, ws, hws⟩ := List.exists_cons_of_ne_nil hne
  obtain ⟨k, hk⟩ := (hcode w (by simp [hws])).1
  rw [hws] at hb hg ⊢
  exact frameBudget_mbx hk hb hg

end Tests

end Sys2Proof.Machine
end


section
/-! Proof about request frames, continued: how a sound frame is taken, and frames of one access in mailbox SRAM. -/

namespace Sys2Proof.Machine

open Reg

/-! ### The words of one-word frames (R96, R97) -/

theorem bits_lt (v lo w : Nat) : bits v lo w < 2 ^ w := Nat.mod_lt _ (Nat.two_pow_pos w)

section Words

variable {f : HFrame}

theorem words_read (hop : f.op = 0x10) (hlen : f.len = 1) (ha : f.addr < 4294967296) : f.words = [{ a := f.addr }] := by
  simp [HFrame.words, hop, hlen, ha]

theorem words_write {v : Nat} (hop : f.op = 0x11) (hlen : f.len = 1) (ha : f.addr < 4294967296) (hpay : f.pay = [v]) :
    f.words = [{ a := f.addr, write := true, v }] := by
  simp [HFrame.words, hop, hlen, hpay, ha]

theorem words_maskWrite {mk v : Nat} (hop : f.op = 0x12) (hlen : f.len = 1) (ha : f.addr < 4294967296)
    (hpay : f.pay = [mk, v]) :
    f.words = [{ a := f.addr, write := true, v, mask := mk }] := by
  simp [HFrame.words, hop, hlen, hpay, ha]

theorem words_stream {A : Nat} (hop : f.op = 0x20) (hpay : f.pay = [A]) : f.words = [{ a := A }] := by
  simp [HFrame.words, hop, hpay]

theorem words_snap (hop : f.op = 0x30) (hlen : f.len = 1) (ha : f.addr + 4 < 4294967296) :
    f.words = [{ a := f.addr }, { a := f.addr + 4 }] := by
  simp [HFrame.words, hop, hlen, List.range_succ, ha, Nat.lt_of_add_right_lt ha]

end Words

/-- The second word of a value of mailbox SRAM lies there too (R97). -/
theorem regionOf_mbx_second {A k : Nat} (h : regionOf A = .mbx k) (h8 : A % 8 = 0) : ∃ k', regionOf (A + 4) = .mbx k' := by
  obtain ⟨h1, h2⟩ := regionOf_eq_mbx h
  refine ⟨(A + 4 - 0x10000000) / 0x4000, ?_⟩
  rw [regionOf, if_neg (by omega), if_neg (by omega), if_pos (by omega)]

/-! ### Words written under a mask (R96) -/

theorem lor_add_land (a b : Nat) : (a ||| b) + (a &&& b) = a + b := by
  induction a using Nat.strongRecOn generalizing b with
  | _ a ih =>
    rcases Nat.eq_zero_or_pos a with rfl | ha
    · simp
    · have hhalf := ih (a / 2) (Nat.div_lt_self ha (by decide)) (b / 2)
      rw [← Nat.or_div_two, ← Nat.and_div_two] at hhalf
      have hor : (a ||| b) % 2 = 1 ↔ a % 2 = 1 ∨ b % 2 = 1 := Nat.or_mod_two_eq_one
      have hand : (a &&& b) % 2 = 1 ↔ a % 2 = 1 ∧ b % 2 = 1 := Nat.and_mod_two_eq_one
      omega

/-- A masked word is a word: its bits in the mask and those outside it lie apart. -/
theorem mergeWord_lt {cur v mk : Nat} (hc : cur < 2 ^ 32) (hmk : mk < 2 ^ 32) : mergeWord cur v mk < 2 ^ 32 := by
  have hsum := lor_add_land cur mk
  have hor : cur ||| mk < 2 ^ 32 := Nat.or_lt_two_pow hc hmk
  have hland : v &&& mk ≤ mk := Nat.and_le_right
  have hmerge : mergeWord cur v mk = cur - (cur &&& mk) + (v &&& mk) := rfl
  omega

/-! ### A frame is taken (R94, R98) -/

/-- The frame that a port takes at an instant. -/
def takenFrame (r : Frame) (at_ : Nat) : HFrame :=
  let h := r.hdr.toNat
  { op := bits h 56 8, len := bits h 48 8, addr := bits h 16 32, tag := bits h 12 4, fixed := bit h 8,
    pay := r.payload.map (·.toNat), at_ }

/-- The port is in EXEC with the frame, and has heard the host (R118). -/
def State.take (s : State) (x : Nat) (r : Frame) : State :=
  ((s.modHs x fun y =>
    { y with frame := some (takenFrame r s.now), resp := none, hello := none, brk := false }).hostTo x 3).modHs x fun y =>
      { y with heard := s.tb }

/-- What the opcode of a sound frame does (R96, R97, R102, R116, R484). -/
def State.serve (s : State) (x : Nat) (f : HFrame) : State :=
  match f.op with
  | 0x01 => if f.addr ≠ 0 then s.frameStop x 4 0 else s.hostHello x (f.pay.getD 0 0)
  | 0x40 => if f.addr ≠ 0 then s.frameStop x 4 0 else s.frameStop x 0 0
  | 0x20 => s.hostStream x f false
  | 0x30 => if f.addr % 8 ≠ 0 then s.frameStop x 4 0 else s.frameTest x f id
  | _ => s.frameTest x f id

section Take

variable {a s : State} {x : Port} {r : Frame} {t : Nat}

theorem take_frame (s : State) (x : Nat) (r : Frame) : ((s.take x r).hs x).frame = some (takenFrame r s.now) := by
  simp [State.take, State.hostTo, State.hs, State.modHs]

theorem take_portOnly (s : State) (x : Port) (r : Frame) : PortOnly x s (s.take x r) :=
  ((modHs_portOnly s _).trans (hostTo_portOnly _ 3)).trans (modHs_portOnly _ _)

theorem hostTo_state (s : State) (x n : Nat) : (s.hostTo x n).hostState x = n % 8 := rd_wr_self s (HOST_PORT_STAT_STATE x) n

theorem take_state (s : State) (x : Nat) (r : Frame) : (s.take x r).hostState x = 3 := hostTo_state (s.modHs x _) x 3

theorem payload_getD_toNat (ws : List Word) : (ws.map (·.toNat)).getD 0 0 = (ws.getD 0 0).toNat := by
  cases ws <;> rfl

/-- A sound frame passes every test of R94 and R95, and its opcode acts. -/
theorem hostFrame_sound (hr : frameSound r (s.rd (HOST_PORT_STAT_VER x)) = true)
    (hhello : bits r.hdr.toNat 56 8 = 0x01 → 0x10 ≤ bits (r.payload.getD 0 0).toNat 24 8) :
    s.hostFrame x r = (s.take x r).serve x (takenFrame r s.now) := by
  simp only [frameSound, Bool.and_eq_true, beq_iff_eq, Bool.or_eq_true, Bool.not_eq_true'] at hr
  obtain ⟨⟨⟨⟨⟨⟨hcrc, hbits⟩, hlen⟩, htrailer⟩, hflags⟩, hreplay⟩, hop⟩ := hr
  split at hop
  case h_2 => cases hop
  case h_1 v lo hi hinfo =>
    simp only [Bool.and_eq_true, decide_eq_true_eq] at hop
    obtain ⟨⟨hver, hlo⟩, hhi⟩ := hop
    have hwhole : 64 ≤ r.bits := by rw [hbits]; unfold frameBits; omega
    unfold State.hostFrame
    dsimp only
    rw [if_neg (by simp [hcrc]), if_neg (by simp [hbits, hlen]), if_neg (by tauto), hinfo, if_pos (by simpa using hwhole)]
    have hver' : v ≤ (s.take x r).rd (HOST_PORT_STAT_VER x) := by
      rwa [(take_portOnly s x r).rd _ (by simp only [Field.key, HOST_PORT_STAT_VER, HOST_PORT_STAT_STATE]; omega)]
    refine (if_neg (not_or.2 ⟨Nat.not_lt.2 hver', ?_⟩)).trans ((if_neg (by omega)).trans ?_)
    · rw [payload_getD_toNat]
      simpa [hreplay, hflags] using hhello
    · simp only [hreplay]
      rfl

theorem hostFrame_unknown (hop : opInfo (bits r.hdr.toNat 56 8) = none) (hcrc : hdrCrc8 r.hdr.toNat = r.hdr.toNat % 256)
    (hbits : r.bits = 64) (hpay : r.payload = []) :
    s.hostFrame x r = (s.take x r).frameStop x 5 0x20 := by
  have himplied : impliedLen (bits r.hdr.toNat 56 8) (bits r.hdr.toNat 48 8) = 0 := by
    unfold impliedLen
    split <;> simp_all [opInfo]
  unfold State.hostFrame
  dsimp only
  rw [if_neg (by simp [hcrc]), if_neg (by simp [hbits, hpay, himplied, frameBits]), if_neg (by simp [himplied]), hop,
    if_pos (by simp [hbits])]
  rfl

/-- A frame that a port receives is taken, where the command is its opcode's. -/
theorem act_frame {op : State → Nat → Bool} (ha : a = s.advance t) (hok : hostOk a = true) (hst : a.hostState x = 2)
    (hop : op a (bits r.hdr.toNat 56 8) = true) :
    s.act t hostOk (fun s => s.frameRow x r (op s)) = .next (a.keep (a.hostFrame x r)) := by
  subst ha
  rw [act_on hok]
  simp only [State.frameRow, hst, hop, beq_self_eq_true, Bool.and_self, if_true]

/-- The command of a sound frame is what its opcode does. -/
theorem act_sound {o : Nat} (ha : a = s.advance t) (hok : hostOk a = true) (hst : a.hostState x = 2)
    (hr : frameSound r (a.rd (HOST_PORT_STAT_VER x)) = true) (hop : bits r.hdr.toNat 56 8 = o)
    (hhello : o = 0x01 → 0x10 ≤ bits (r.payload.getD 0 0).toNat 24 8) :
    s.act t hostOk (fun s => s.frameRow x r fun p => p == o) =
      .next (a.keep ((a.take x r).serve x (takenFrame r a.now))) := by
  rw [← hostFrame_sound hr (fun h => hhello (hop.symm.trans h))]
  exact act_frame (op := fun _ p => p == o) ha hok hst (by simp [hop])

end Take

/-! ### Frames of mailbox words (R96, R97, R101) -/

/-- A frame of which no word has been done. -/
structure HFrame.Fresh (f : HFrame) : Prop where
  fin : f.fin = false
  idx : f.idx = 0
  across : f.across = false
  data : f.data = []
  status : f.status = 0

theorem takenFrame_fresh (r : Frame) (n : Nat) : (takenFrame r n).Fresh := ⟨rfl, rfl, rfl, rfl, rfl⟩

/-- The port has been granted `n` words, and their number is chosen that follow at once (R57, R101). -/
def State.begun (s : State) (x n : Nat) : State := (s.useBudget x n).free.2

theorem begun_sameMbx (s : State) (x n : Nat) : SameMbx s (s.begun x n) := fun _ _ _ => rfl

/-- A frame has been granted its `n` words, and has ended with the data `vs`. -/
def State.answered (s : State) (x n : Nat) (vs : List Nat) : State := (s.begun x n).frameDone x n vs

theorem answered_frame {s : State} {x n : Nat} {f : HFrame} (vs : List Nat) (hf : (s.hs x).frame = some f) (hfresh : f.Fresh) :
    ∃ g, ((s.answered x n vs).hs x).frame = some g ∧ g.fin = true ∧ g.status = 0 ∧ g.data = vs :=
  ⟨_, frameDone_frame (s := s.begun x n) n vs hf, rfl, hfresh.status, by simp [hfresh.data]⟩

theorem oneWord_iff (s : State) (x : Nat) : s.oneWord x = true ↔
    s.grantable x 1 = true ∧ 1 ≤ if (s.bset x).slack then (s.bset x).ceil else (s.bset x).floor := by
  unfold State.oneWord
  split <;> simp_all

theorem PortOnly.oneWord {x : Port} {s s' : State} (h : PortOnly x s s') : s'.oneWord x = s.oneWord x := by
  unfold State.oneWord State.bset
  rw [h.grantable, h.budg]

section Words

variable {s u : State} {x : Port} {f : HFrame} {k : Nat}

/-- A frame of one access in mailbox SRAM that passes its tests is done at once. -/
theorem frameTest_done {ok : State → State} {n : Nat} {vs : List Nat} (hn : f.words.length = n) (hpos : 0 < n)
    (hcode : ∀ w ∈ f.words, (∃ k, regionOf w.a = .mbx k) ∧ s.wordCode x w = 0)
    (hb : n ≤ if (s.bset x).slack then (s.bset x).ceil else (s.bset x).floor) (hg : s.grantable x n = true)
    (hf : ((ok s).hs x).frame = some f) (hfresh : f.Fresh)
    (hw : ((ok s).begun x n).hostWord x f = (true, u.wordDone x n vs)) (hu : (u.hs x).frame = some f) :
    s.frameTest x f ok = u.frameDone x n vs := by
  subst hn
  rw [frameTest_mbx (List.length_pos_iff.1 hpos) hcode hb hg]
  exact hostBegin_done hf hfresh.fin hfresh.idx hw hu

theorem frameTest_read {ok : State → State} {A : Nat} (hfresh : f.Fresh) (hwords : f.words = [{ a := A }])
    (hop : f.op ≠ 0x30) (hr : regionOf A = .mbx k) (hc : s.readCode x A = 0) (hone : s.oneWord x = true)
    (hf : ((ok s).hs x).frame = some f) (hsame : SameMbx s (ok s)) :
    s.frameTest x f ok = (ok s).answered x 1 [rdWord (ok s).mem A] := by
  obtain ⟨hg, hb⟩ := (oneWord_iff s x).1 hone
  refine frameTest_done (by simp [hwords]) Nat.one_pos ?_ hb hg hf hfresh ?_ hf
  · simpa [hwords, State.wordCode, isRemote_mbx hr, hr] using hc
  · exact hostWord_read (w := { a := A }) (by simp [hwords, hfresh.idx]) hop hfresh.across rfl hr
      (((begun_sameMbx _ _ _).readCode hr (hsame.readCode hr hc)))

theorem frameTest_write {w : HWord} (hfresh : f.Fresh) (hwords : f.words = [w]) (hop : f.op ≠ 0x30) (hwrite : w.write = true)
    (hr : regionOf w.a = .mbx k) (hc : s.writeCode x w.a w.v w.mask = 0) (hone : s.oneWord x = true)
    (hf : (s.hs x).frame = some f) :
    s.frameTest x f id =
      ({ s with mem := wrWord s.mem w.a (mergeWord (rdWord s.mem w.a) w.v w.mask) } : State).answered x 1 [] := by
  obtain ⟨hg, hb⟩ := (oneWord_iff s x).1 hone
  refine frameTest_done (by simp [hwords]) Nat.one_pos ?_ hb hg hf hfresh ?_ hf
  · simpa [hwords, State.wordCode, isRemote_mbx hr, hr, hwrite] using hc
  · exact hostWord_write (by simp [hwords, hfresh.idx]) hop hfresh.across hwrite hr ((begun_sameMbx _ _ _).writeCode hr hc)

theorem frameTest_snap {A : Nat} (hfresh : f.Fresh) (hwords : f.words = [{ a := A }, { a := A + 4 }]) (hop : f.op = 0x30)
    (hr : regionOf A = .mbx k) (h8 : A % 8 = 0) (hc : s.readCode x A = 0) (hc' : s.readCode x (A + 4) = 0)
    (hb : 2 ≤ if (s.bset x).slack then (s.bset x).ceil else (s.bset x).floor) (hg : s.grantable x 2 = true)
    (hf : (s.hs x).frame = some f) :
    s.frameTest x f id = s.answered x 2 [rdWord s.mem A, rdWord s.mem (A + 4)] := by
  obtain ⟨k', hr'⟩ := regionOf_mbx_second hr h8
  refine frameTest_done (by simp [hwords]) Nat.two_pos ?_ hb hg hf hfresh ?_ hf
  · simp [hwords, State.wordCode, isRemote_mbx hr, isRemote_mbx hr', hr, hr', hc, hc']
  · exact hostWord_snap (w := { a := A }) (by simp [hwords, hfresh.idx]) hop hfresh.across hr
      ((begun_sameMbx _ _ _).readCode hr hc) hr' ((begun_sameMbx _ _ _).readCode hr' hc')

end Words

end Sys2Proof.Machine
end


section
/-! Proof about request frames, concluded: STREAM, what each opcode does on a port, and the obligation. -/

namespace Sys2Proof.Machine

open Reg

/-! ### STREAM (R116) -/

/-- The words delivered before are released, and the `n` words of this frame are reserved. -/
def State.delivered (s : State) (x q n : Nat) : State := (s.mbqRelease x q).wr (HOST_MBQ_STAT_RSVD_W x q) n

section Stream

variable {s s' : State} {x : Port} {f : HFrame} {q n : Nat}

/-- What a port holds does not touch the registers of its queues. -/
theorem PortOnly.rd_mbq (h : PortOnly x s s') {o lo w ty rst} (ho : 0x100 ≤ o) (hlo : lo < 32) :
    s'.rd ⟨8 + x, o + 0x10 * q, lo, w, ty, rst⟩ = s.rd ⟨8 + x, o + 0x10 * q, lo, w, ty, rst⟩ :=
  h.rd _ (by simp only [Field.key, HOST_PORT_STAT_STATE]; omega)

theorem PortOnly.mbqUsable (h : PortOnly x s s') : s'.mbqUsable x q = s.mbqUsable x q := by
  have hen : s'.rd (HOST_MBQ_CFG_EN x q) = s.rd (HOST_MBQ_CFG_EN x q) := h.rd_mbq (by decide) (by decide)
  have hlog : s'.rd (HOST_MBQ_CFG_LOG2 x q) = s.rd (HOST_MBQ_CFG_LOG2 x q) := h.rd_mbq (by decide) (by decide)
  have hbase : s'.rd (HOST_MBQ_CFG_BASE x q) = s.rd (HOST_MBQ_CFG_BASE x q) := h.rd_mbq (by decide) (by decide)
  unfold State.mbqUsable State.on
  rw [hen, hlog, hbase]

theorem PortOnly.mbqLevel (h : PortOnly x s s') : s'.mbqLevel x q = s.mbqLevel x q := by
  simp [State.mbqLevel, HOST_MBQ_PTR_TAIL, HOST_MBQ_PTR_HEAD, h.rd_mbq]

theorem PortOnly.mbqAddr (h : PortOnly x s s') (i : Nat) : s'.mbqAddr x q i = s.mbqAddr x q i := by
  simp [State.mbqAddr, HOST_MBQ_CFG_BASE, HOST_MBQ_CFG_LOG2, h.rd_mbq]

theorem delivered_frame (s : State) (x q n y : Nat) : ((s.delivered x q n).hs y).frame = (s.hs y).frame := rfl
theorem delivered_mem (s : State) (x q n : Nat) : (s.delivered x q n).mem = s.mem := rfl

theorem delivered_rd {g : Field} (h1 : g.key ≠ (HOST_MBQ_PTR_HEAD x q).key) (h2 : g.key ≠ (HOST_MBQ_STAT_RSVD_W x q).key) :
    (s.delivered x q n).rd g = s.rd g := by
  rw [State.delivered, State.mbqRelease, rd_wr_ne _ _ _ _ h2, rd_wr_ne _ _ _ _ h2, rd_wr_ne _ _ _ _ h1]

theorem delivered_reserved (s : State) (x q n : Nat) : (s.delivered x q n).rd (HOST_MBQ_STAT_RSVD_W x q) = n % 2 ^ 16 :=
  rd_wr_self _ _ _

/-- HEAD passes every word delivered before. -/
theorem delivered_head (s : State) (x q n : Nat) : (s.delivered x q n).rd (HOST_MBQ_PTR_HEAD x q) =
    (s.rd (HOST_MBQ_PTR_HEAD x q) + s.rd (HOST_MBQ_STAT_RSVD_W x q)) % 2 ^ 16 := by
  have hne : (HOST_MBQ_PTR_HEAD x q).key ≠ (HOST_MBQ_STAT_RSVD_W x q).key := by
    simp only [Field.key, HOST_MBQ_PTR_HEAD, HOST_MBQ_STAT_RSVD_W]; omega
  rw [State.delivered, State.mbqRelease, rd_wr_ne _ _ _ _ hne, rd_wr_ne _ _ _ _ hne, rd_wr_self]
  rfl

theorem delivered_state : (s.delivered x q n).hostState x = s.hostState x :=
  delivered_rd (by simp only [Field.key, HOST_MBQ_PTR_HEAD, HOST_PORT_STAT_STATE]; omega)
    (by simp only [Field.key, HOST_MBQ_STAT_RSVD_W, HOST_PORT_STAT_STATE]; omega)

theorem delivered_sameMbx (hq : q < 8) : SameMbx s (s.delivered x q n) :=
  sameMbx_of_rd
    (delivered_rd (by simp only [Field.key, HOST_MBQ_PTR_HEAD, HOST_BOOT_STAT_STATE]; omega)
      (by simp only [Field.key, HOST_MBQ_STAT_RSVD_W, HOST_BOOT_STAT_STATE]; omega))
    fun k hk => delivered_rd (by simp only [Field.key, HOST_MBQ_PTR_HEAD, SYS_MBX_ACL_ACL]; omega)
      (by simp only [Field.key, HOST_MBQ_STAT_RSVD_W, SYS_MBX_ACL_ACL]; omega)

/-- A STREAM frame that asks for the word at HEAD. -/
def State.headFrame (s : State) (x : Nat) (f : HFrame) : HFrame :=
  { f with pay := [s.mbqAddr x f.addr (s.rd (HOST_MBQ_PTR_HEAD x f.addr))], more := decide (1 < s.mbqLevel x f.addr) }

theorem headFrame_fresh (h : f.Fresh) : (s.headFrame x f).Fresh := ⟨h.fin, h.idx, h.across, h.data, h.status⟩

/-- A STREAM of one word from a queue that holds words, none of them reserved, delivers the word at HEAD. -/
theorem hostStream_one (hq : f.addr < 8) (huse : s.mbqUsable x f.addr = true) (hlen : f.len = 1)
    (hrsvd : s.rd (HOST_MBQ_STAT_RSVD_W x f.addr) = 0) (hlevel : 0 < s.mbqLevel x f.addr) :
    s.hostStream x f false =
      (s.modFrame x fun _ => s.headFrame x f).frameTest x (s.headFrame x f) fun s => s.delivered x f.addr 1 := by
  have hmin : min 1 (s.mbqLevel x f.addr) = 1 := Nat.min_eq_left hlevel
  simp [State.hostStream, Nat.not_lt.2 (Nat.le_of_lt_succ hq), huse, hlen, hrsvd, hmin, State.delivered, State.headFrame]

end Stream

/-! ### The commands -/

section Serve

variable {s : State} {x : Port} {f : HFrame}

theorem serve_mbx (hop : f.op = 0x10 ∨ f.op = 0x11 ∨ f.op = 0x12) : s.serve x f = s.frameTest x f id := by
  rcases hop with hop | hop | hop <;> simp only [State.serve, hop]

theorem serve_hello (hop : f.op = 0x01) (h0 : f.addr = 0) : s.serve x f = s.hostHello x (f.pay.getD 0 0) := by
  simp [State.serve, hop, h0]

theorem serve_stream (hop : f.op = 0x20) : s.serve x f = s.hostStream x f false := by
  simp [State.serve, hop]

theorem serve_snap (hop : f.op = 0x30) (h8 : f.addr % 8 = 0) : s.serve x f = s.frameTest x f id := by
  simp [State.serve, hop, h8]

theorem serve_attest (hop : f.op = 0x40) (h0 : f.addr = 0) : s.serve x f = s.frameStop x 0 0 := by
  simp [State.serve, hop, h0]

end Serve

section Done

variable {a : State} {x : Port} {r : Frame} {k : Nat}

theorem taken_addr_lt (r : Frame) (n : Nat) : (takenFrame r n).addr < 4294967296 := bits_lt r.hdr.toNat 16 32

theorem hello_done (hop : bits r.hdr.toNat 56 8 = 0x01) (h0 : bits r.hdr.toNat 16 32 = 0) :
    (a.take x r).serve x (takenFrame r a.now) = (a.take x r).hostHello x (r.payload.getD 0 0).toNat :=
  (serve_hello hop h0).trans (congrArg _ (payload_getD_toNat r.payload))

theorem read_done (hop : bits r.hdr.toNat 56 8 = 0x10) (hlen : bits r.hdr.toNat 48 8 = 1)
    (hmbx : regionOf (bits r.hdr.toNat 16 32) = .mbx k) (hc : a.readCode x (bits r.hdr.toNat 16 32) = 0)
    (hone : a.oneWord x = true) :
    (a.take x r).serve x (takenFrame r a.now) =
      (a.take x r).answered x 1 [rdWord a.mem (bits r.hdr.toNat 16 32)] := by
  have hport := take_portOnly a x r
  have hwords := words_read (f := takenFrame r a.now) hop hlen (taken_addr_lt r _)
  rw [serve_mbx (.inl hop), ← hport.mem]
  exact frameTest_read (takenFrame_fresh r _) hwords (by simp [takenFrame, hop]) hmbx (hport.sameMbx.readCode hmbx hc)
    (hport.oneWord.trans hone) (take_frame a x r) (fun _ _ _ => rfl)

/-- WRITE and MASKWRITE of one word store it through its mask. -/
theorem write_done {w : HWord} (hop : bits r.hdr.toNat 56 8 = 0x11 ∨ bits r.hdr.toNat 56 8 = 0x12)
    (hwords : (takenFrame r a.now).words = [w]) (hwrite : w.write = true) (hmbx : regionOf w.a = .mbx k)
    (hc : a.writeCode x w.a w.v w.mask = 0) (hone : a.oneWord x = true) :
    (a.take x r).serve x (takenFrame r a.now) =
      ({ a.take x r with mem := wrWord a.mem w.a (mergeWord (rdWord a.mem w.a) w.v w.mask) } : State).answered x 1 [] := by
  have hport := take_portOnly a x r
  rw [serve_mbx (.inr hop), ← hport.mem]
  exact frameTest_write (takenFrame_fresh r _) hwords (by rcases hop with hop | hop <;> simp [takenFrame, hop]) hwrite hmbx
    (hport.sameMbx.writeCode hmbx hc) (hport.oneWord.trans hone) (take_frame a x r)

theorem snap_done (hop : bits r.hdr.toNat 56 8 = 0x30) (hlen : bits r.hdr.toNat 48 8 = 1) (h8 : bits r.hdr.toNat 16 32 % 8 = 0)
    (hmbx : regionOf (bits r.hdr.toNat 16 32) = .mbx k) (hc : a.readCode x (bits r.hdr.toNat 16 32) = 0)
    (hc' : a.readCode x (bits r.hdr.toNat 16 32 + 4) = 0) (hg : a.grantable x 2 = true)
    (hb : 2 ≤ if (a.bset x).slack then (a.bset x).ceil else (a.bset x).floor) :
    (a.take x r).serve x (takenFrame r a.now) = (a.take x r).answered x 2
      [rdWord a.mem (bits r.hdr.toNat 16 32), rdWord a.mem (bits r.hdr.toNat 16 32 + 4)] := by
  have hport := take_portOnly a x r
  obtain ⟨k', hmbx'⟩ := regionOf_mbx_second hmbx h8
  have hlt : (takenFrame r a.now).addr + 4 < 4294967296 := by
    have := (regionOf_eq_mbx hmbx).2
    change bits r.hdr.toNat 16 32 + 4 < _
    omega
  rw [serve_snap hop h8, ← hport.mem]
  refine frameTest_snap (takenFrame_fresh r _) (words_snap hop hlen hlt) hop hmbx h8 (hport.sameMbx.readCode hmbx hc)
    (hport.sameMbx.readCode hmbx' hc') ?_ ((hport.grantable 2).trans hg) (take_frame a x r)
  unfold State.bset
  rw [hport.budg]
  exact hb

/-- The state from which a STREAM is answered: the port is in EXEC with the frame that asks for the word at HEAD. -/
def State.streaming (a : State) (x : Nat) (r : Frame) : State :=
  (a.take x r).modFrame x fun _ => (a.take x r).headFrame x (takenFrame r a.now)

theorem streaming_portOnly (a : State) (x : Port) (r : Frame) : PortOnly x a (a.streaming x r) :=
  (take_portOnly a x r).trans (modFrame_portOnly _ _)

theorem streaming_frame (a : State) (x : Nat) (r : Frame) :
    ((a.streaming x r).hs x).frame = some ((a.take x r).headFrame x (takenFrame r a.now)) := by
  rw [State.streaming, modFrame_frame, take_frame]; rfl

theorem streaming_state (a : State) (x : Nat) (r : Frame) : (a.streaming x r).hostState x = 3 := take_state a x r

/-- With no word reserved, a delivery leaves HEAD where it was. -/
theorem streaming_head {q : Nat} (n : Nat) (hrsvd : a.rd (HOST_MBQ_STAT_RSVD_W x q) = 0) :
    ((a.streaming x r).delivered x q n).rd (HOST_MBQ_PTR_HEAD x q) = a.rd (HOST_MBQ_PTR_HEAD x q) := by
  have hport := streaming_portOnly a x r
  have hhead : (a.streaming x r).rd (HOST_MBQ_PTR_HEAD x q) = a.rd (HOST_MBQ_PTR_HEAD x q) :=
    hport.rd_mbq (by decide) (by decide)
  have hkept : (a.streaming x r).rd (HOST_MBQ_STAT_RSVD_W x q) = 0 := (hport.rd_mbq (by decide) (by decide)).trans hrsvd
  rw [delivered_head, hhead, hkept]
  exact Nat.mod_eq_of_lt (rd_lt a (HOST_MBQ_PTR_HEAD x q))

theorem stream_done {q A : Nat} (hop : bits r.hdr.toNat 56 8 = 0x20) (hlen : bits r.hdr.toNat 48 8 = 1)
    (haddr : (takenFrame r a.now).addr = q) (hq : q < 8) (huse : a.mbqUsable x q = true)
    (hrsvd : a.rd (HOST_MBQ_STAT_RSVD_W x q) = 0) (hlevel : 0 < a.mbqLevel x q)
    (hA : a.mbqAddr x q (a.rd (HOST_MBQ_PTR_HEAD x q)) = A) (hmbx : regionOf A = .mbx k) (hc : a.readCode x A = 0)
    (hone : a.oneWord x = true) :
    (a.take x r).serve x (takenFrame r a.now) =
      ((a.streaming x r).delivered x q 1).answered x 1 [rdWord a.mem A] := by
  subst haddr
  have htake := take_portOnly a x r
  have hport := streaming_portOnly a x r
  have hhead : (a.take x r).rd (HOST_MBQ_PTR_HEAD x (takenFrame r a.now).addr) =
    a.rd (HOST_MBQ_PTR_HEAD x (takenFrame r a.now).addr) := htake.rd_mbq (by decide) (by decide)
  have hwords : ((a.take x r).headFrame x (takenFrame r a.now)).words = [{ a := A }] :=
    words_stream hop (by rw [← hA, ← hhead, ← htake.mbqAddr]; rfl)
  have hserve : (a.take x r).serve x (takenFrame r a.now) = (a.streaming x r).frameTest x
      ((a.take x r).headFrame x (takenFrame r a.now)) fun s => s.delivered x (takenFrame r a.now).addr 1 :=
    (serve_stream hop).trans (hostStream_one hq (htake.mbqUsable.trans huse) hlen
      ((htake.rd_mbq (by decide) (by decide)).trans hrsvd) (htake.mbqLevel.symm ▸ hlevel))
  rw [hserve, ← hport.mem, ← delivered_mem (a.streaming x r) x (takenFrame r a.now).addr 1]
  exact frameTest_read (headFrame_fresh (takenFrame_fresh r _)) hwords (by simp [State.headFrame, takenFrame, hop]) hmbx
    (hport.sameMbx.readCode hmbx hc) (hport.oneWord.trans hone)
    ((delivered_frame _ _ _ _ _).trans (streaming_frame a x r)) (delivered_sameMbx hq)

end Done

section Shows

variable {a s : State} {x : Nat} {f : HFrame}

/-- What a command leaves that answers a frame of mailbox words: the rest is that of the state it is answered from. -/
theorem answered_shows (n : Nat) (vs : List Nat) (hst : s.hostState x = 3) (hf : (s.hs x).frame = some f) (hfresh : f.Fresh) :
    let b := a.keep (s.answered x n vs)
    b.hostState x = 3 ∧ b.mem = s.mem ∧ (∀ g, b.rd g = s.rd g) ∧
      ∃ g, (b.hs x).frame = some g ∧ g.fin = true ∧ g.status = 0 ∧ g.data = vs :=
  ⟨hst, rfl, fun _ => rfl, answered_frame vs hf hfresh⟩

/-- What a command leaves that stores the word `v` at `A`. -/
theorem stored_shows {A v : Nat} (hv : v < 2 ^ 32) (hst : s.hostState x = 3) (hf : (s.hs x).frame = some f) (hfresh : f.Fresh) :
    let b := a.keep (({ s with mem := wrWord a.mem A v } : State).answered x 1 [])
    b.hostState x = 3 ∧ rdWord b.mem A = v ∧ (∀ y, (y < A ∨ A + 4 ≤ y) → rdByte b.mem y = rdByte a.mem y) ∧
      ∃ g, (b.hs x).frame = some g ∧ g.fin = true ∧ g.status = 0 := by
  intro b
  obtain ⟨hstate, hmem, -, g, hg, hfin, hstatus, -⟩ :=
    answered_shows (a := a) (s := { s with mem := wrWord a.mem A v }) 1 [] hst hf hfresh
  refine ⟨hstate, ?_, fun y hy => ?_, g, hg, hfin, hstatus⟩
  · rw [hmem, rdWord_wrWord hv]
  · rw [hmem, rdByte_wrWord_outside hy]

theorem frameStop_shows (st info : Nat) (hst : s.hostState x = 3) (hf : (s.hs x).frame = some f) :
    let b := a.keep (s.frameStop x st info)
    b.hostState x = 3 ∧ (b.hs x).frame = some { f with status := st, info, fin := true } :=
  ⟨hst, (modFrame_frame _ _ _).trans (congrArg _ hf)⟩

theorem hostHello_shows (w : Nat) (hst : s.hostState x = 3) (hf : (s.hs x).frame = some f) :
    let b := a.keep (s.hostHello x w)
    b.hostState x = 3 ∧ ∃ g, (b.hs x).frame = some g ∧ g.fin = true ∧ g.status = f.status ∧
      g.data.getD 0 0 = 0x20 * 2 ^ 24 + agreed (bits w 24 8) * 2 ^ 16 + bitN w 16 :=
  ⟨hst, _, (modFrame_frame _ _ _).trans (congrArg _ hf), rfl, rfl, rfl⟩

end Shows

/-- Settles O9: each sound frame is taken and does what its opcode does; a word of mailbox SRAM is granted and done at once. -/
theorem hostFrames : Obligations.HostFrames := by
  intro s a t x r ha hok hst
  have hport := take_portOnly a x r
  have hframe := take_frame a x r
  have hexec := take_state a x r
  have hfresh := takenFrame_fresh r a.now
  have haddr := taken_addr_lt r a.now
  refine ⟨fun hr hop h0 hmax => ?hello, fun k hr hop hlen hmbx hc hone => ?read,
    fun k v hr hop hlen hmbx hpay hc hone => ?write, fun k mk v hr hop hlen hmbx hpay hc hone => ?maskWrite,
    fun k hr hop hlen hq huse hrsvd hlevel hmbx hc hone => ?stream,
    fun k hr hop hlen h8 hmbx hc hc' hg hb => ?snap, fun hr hop h0 => ?attest, fun hop hcrc hbits hpay => ?unknown⟩
  case hello =>
    have hb := act_sound ha hok hst hr hop fun _ => hmax
    rw [hello_done hop h0] at hb
    obtain ⟨hstate, f, hf, hfin, hstatus, hdata⟩ := hostHello_shows (a := a) (r.payload.getD 0 0).toNat hexec hframe
    exact ⟨_, hb, hstate, f, hf, hfin, hstatus, hdata⟩
  case read =>
    have hb := act_sound ha hok hst hr hop (by simp)
    rw [read_done hop hlen hmbx hc hone] at hb
    obtain ⟨hstate, hmem, -, f, hf, hfin, hstatus, hdata⟩ := answered_shows (a := a) 1 _ hexec hframe hfresh
    exact ⟨_, hb, hstate, f, hf, hfin, hstatus, hdata, hmem.trans hport.mem⟩
  case write =>
    have hb := act_sound ha hok hst hr hop (by simp)
    have hwords := words_write (f := takenFrame r a.now) (v := v.toNat) hop hlen haddr (by simp [takenFrame, hpay])
    rw [write_done (.inl hop) hwords rfl hmbx hc hone, mergeWord_full (rdWord_lt _ _) v.isLt] at hb
    exact ⟨_, hb, stored_shows v.isLt hexec hframe hfresh⟩
  case maskWrite =>
    have hb := act_sound ha hok hst hr hop (by simp)
    have hwords := words_maskWrite (f := takenFrame r a.now) (mk := mk.toNat) (v := v.toNat) hop hlen haddr
      (by simp [takenFrame, hpay])
    rw [write_done (.inr hop) hwords rfl hmbx hc hone] at hb
    exact ⟨_, hb, stored_shows (mergeWord_lt (rdWord_lt _ _) mk.isLt) hexec hframe hfresh⟩
  case stream =>
    have hb := act_sound ha hok hst hr hop (by simp)
    rw [stream_done hop hlen rfl hq huse hrsvd hlevel rfl hmbx hc hone] at hb
    obtain ⟨hstate, -, hrd, f, hf, hfin, hstatus, hdata⟩ := answered_shows (a := a) 1 _
      (delivered_state.trans (streaming_state a x r))
      ((delivered_frame _ _ _ _ _).trans (streaming_frame a x r)) (headFrame_fresh hfresh)
    exact ⟨_, hb, hstate, (hrd _).trans (delivered_reserved _ _ _ _), (hrd _).trans (streaming_head 1 hrsvd), f, hf, hfin,
      hstatus, hdata⟩
  case snap =>
    have hb' := act_sound ha hok hst hr hop (by simp)
    rw [snap_done hop hlen h8 hmbx hc hc' hg hb] at hb'
    obtain ⟨hstate, hmem, -, f, hf, hfin, hstatus, hdata⟩ := answered_shows (a := a) 2 _ hexec hframe hfresh
    exact ⟨_, hb', hstate, hmem.trans hport.mem, f, hf, hfin, hstatus, hdata⟩
  case attest =>
    have hb := act_sound ha hok hst hr hop (by simp)
    rw [serve_attest hop h0] at hb
    obtain ⟨hstate, hf⟩ := frameStop_shows (a := a) 0 0 hexec hframe
    exact ⟨_, hb, hstate, _, hf, rfl, rfl, hop, rfl⟩
  case unknown =>
    have hb : exec (.hostUnknown t x r) s = .next (a.keep (a.hostFrame x r)) :=
      (exec_hostUnknown t x r s).trans (act_frame ha hok hst (by simp only [hop]))
    rw [hostFrame_unknown hop hcrc hbits hpay] at hb
    obtain ⟨hstate, hf⟩ := frameStop_shows (a := a) 5 0x20 hexec hframe
    exact ⟨_, hb, hstate, _, hf, rfl, rfl, rfl⟩

end Sys2Proof.Machine
end


section
/-! The counterexample to the statement on the states of a host port. -/

namespace Sys2Proof.Machine

open Reg

/-! ### An attention pulse in device debug halt -/

/-- Device debug halt has stopped PLL_TB, so the timebase stands at its last LF tick, 40, and the commands since then have come to
the count 50 (R44, R49). Port 0 is in IDLE, its source 0 is pending, and the first attention pulse is due (R106). -/
def pulseInDebugHalt : State :=
  (((((({ pwr := { held := false }, tb := 40, fine := 50 } : State).wr CLK_PWR_STAT_STATE 2).wr TB_TB_STAT_LFMODE 1).wr
    CLK_CLK_STAT_TB_SRC 2).wr (HOST_PORT_STAT_STATE 0) 1).wr (HOST_IPEND_PEND 0 0) 1).wr (HOST_IMASK_MASK 0 0) 1

/-- What ATTN_PULSE does once time has passed (R106). -/
theorem exec_attnPulse_eq {s a : State} {t : Nat} {x : Port} (ha : a = s.advance t) (hok : hostOk a = true) :
    exec (.attnPulse t x) s = .next (a.keep (a.attn x)) := by
  subst ha
  rw [exec_attnPulse, execAttnPulse, act_on hok]

/-- The pulse begins at the count of the commands. -/
theorem pulseInDebugHalt_begins : ((pulseInDebugHalt.attn (0 : Port)).hs (0 : Port)).pulse = some 50 := by decide +kernel

/-- Refutes O10: its clause on ATTN_PULSE puts the begin of the pulse at the timebase, and does not say that the timebase runs at
400 MHz. In device debug halt the host ports go on (R49) while the timebase counts from the LF clock, and the model times the pulses
of R106 by the finer count of the commands (`State.now`, assumption log 73). -/
theorem not_hostPorts : ¬ Obligations.HostPorts := by
  intro h
  have hnow : pulseInDebugHalt.advance 0 = pulseInDebugHalt := by decide +kernel
  have hok : hostOk pulseInDebugHalt = true := by decide +kernel
  obtain ⟨-, -, -, -, -, -, -, -, -, hattn, -⟩ := h pulseInDebugHalt pulseInDebugHalt 0 0 hnow.symm hok
  have hclaim := hattn (by decide +kernel) (by decide +kernel) (by decide +kernel) rfl rfl (by decide)
  have hsame := Host.Outcome.next.inj ((exec_attnPulse_eq hnow.symm hok).symm.trans hclaim)
  have hpulse : ((pulseInDebugHalt.attn (0 : Port)).hs (0 : Port)).pulse = some pulseInDebugHalt.tb := by
    rw [← keep_hs pulseInDebugHalt, hsame, keep_hs, modHs_hs]
  rw [pulseInDebugHalt_begins] at hpulse
  exact absurd hpulse (by decide)

end Sys2Proof.Machine
end


section
/-! Proofs about position ports: what measuring, the limits and messages leave of a port's registers and of its record. -/

namespace Sys2Proof.Machine

open Reg

/-! ### Numbers of 32 bits -/

theorem ofS_lt (v : Int) : ofS 32 v < 2 ^ 32 := by
  unfold ofS
  omega

theorem toS_mod (n : Nat) : toS 32 (n % 2 ^ 32) = toS 32 n := by simp only [toS, Nat.mod_mod]

theorem toS_bounds (n : Nat) : -2147483648 ≤ toS 32 n ∧ toS 32 n ≤ 2147483647 := by
  unfold toS
  split <;> omega

theorem toS_ofS {v : Int} (h1 : -2147483648 ≤ v) (h2 : v ≤ 2147483647) : toS 32 (ofS 32 v) = v := by
  unfold toS ofS
  split <;> omega

/-! ### Fields of one page -/

/-- Fields of one page at different places have different keys. -/
theorem field_ne {q o lo w r o' lo' w' r' : Nat} {ty ty' : RType} (h : o * 32 + lo ≠ o' * 32 + lo') :
    (⟨q, o, lo, w, ty, r⟩ : Field).key ≠ (⟨q, o', lo', w', ty', r'⟩ : Field).key := by
  simp only [Field.key]
  omega

/-- The places in a port's page that measuring, the limits and messages write: the flags and PG_FAULT, the index status, the speed,
and the limit status. -/
def measured (o lo : Nat) : Bool :=
  o == 0x10 || o == 0x1C || o == 0x74 || o == 0x84 || o == 0x88 || (o == 0x5C && (lo == 5 || lo == 6))

/-- Keys of the ports' pages, and of later ones, apart from those places. -/
def portKept (k : Nat) : Prop := 0x10 ≤ k / 131072 ∧ measured (k / 32 % 4096) (k % 32) = false

theorem portKept_field {p o lo w r : Nat} {ty : RType} (h : o < 4096 ∧ lo < 32 ∧ measured o lo = false) :
    portKept (⟨0x10 + p, o, lo, w, ty, r⟩ : Field).key := by
  obtain ⟨ho, hl, hm⟩ := h
  unfold portKept
  rw [key_page ho hl, key_off ho hl, key_lo hl]
  exact ⟨Nat.le_add_right _ _, hm⟩

theorem not_portKept_field {p o lo w r : Nat} {ty : RType} (h : o < 4096 ∧ lo < 32 ∧ measured o lo = true) :
    ¬ portKept (⟨0x10 + p, o, lo, w, ty, r⟩ : Field).key := by
  obtain ⟨ho, hl, hm⟩ := h
  unfold portKept
  rw [key_page ho hl, key_off ho hl, key_lo hl, hm]
  exact fun h => Bool.noConfusion h.2

theorem portKept_noFault : NoFault portKept := by
  refine ⟨fun k hk h => ?_, by unfold portKept; decide⟩
  obtain ⟨-, hm⟩ := hk
  rw [h] at hm
  exact Bool.noConfusion hm

/-! ### Flags and messages -/

/-- A flag that is set stays set when another is. -/
theorem iflag_bit_kept {s : State} {q i : Nat} (j : Nat) (hi : i < 32) (h : bit (s.rd (PG_IFLAG_FLAG q)) i = true) :
    bit ((s.iflag q j).rd (PG_IFLAG_FLAG q)) i = true := by
  have hrd : (s.iflag q j).rd (PG_IFLAG_FLAG q) = Nat.lor (s.rd (PG_IFLAG_FLAG q)) (2 ^ j) % 2 ^ 32 :=
    (setBits_rd _ _ _ _).trans (rd_wr_self _ _ _)
  rw [bit_eq_testBit] at h
  rw [hrd, bit_mod_two_pow _ hi, bit_eq_testBit]
  exact (Nat.testBit_or _ _ _).trans (by rw [h, Bool.true_or])

/-- Keys that no message writes: all but PG_FAULT and the page of the fault collector. -/
def messageKept (k : Nat) : Prop := k / 32 % 4096 ≠ 0x1C ∧ k / 131072 ≠ 4

theorem messageKept_noFault : NoFault messageKept := ⟨fun _ h => h.1, by unfold messageKept; decide⟩

theorem messageKept_field {p o lo w r : Nat} {ty : RType} (h : o < 4096 ∧ lo < 32 ∧ o ≠ 0x1C) :
    messageKept (⟨0x10 + p, o, lo, w, ty, r⟩ : Field).key := by
  obtain ⟨ho, hl, hm⟩ := h
  unfold messageKept
  rw [key_page ho hl, key_off ho hl]
  exact ⟨hm, by dsimp only; omega⟩

theorem raise_rd {s : State} (src kind detail : Nat) {f : Field} (h : messageKept f.key) : (s.raise src kind detail).rd f = s.rd f :=
  (raise_still messageKept_noFault src kind detail).regs f h

theorem raiseLive_rd {s : State} (src kind detail : Nat) {f : Field} (h : messageKept f.key) :
    (s.raiseLive src kind detail).rd f = s.rd f := raise_rd src kind detail h

theorem iflag_rd_ne {s : State} (q i : Nat) {f : Field} (h : f.key ≠ (PG_IFLAG_FLAG q).key) : (s.iflag q i).rd f = s.rd f :=
  setBits_rd_ne s _ h

/-- A flag and a message leave the flag set. -/
theorem flagRaised_bit {s : State} {p i : Nat} (src kind detail : Nat) (hi : i < 32) :
    bit (((s.iflag (0x10 + p) i).raise src kind detail).rd (PG_IFLAG_FLAG (0x10 + p))) i = true := by
  rw [raise_rd (f := PG_IFLAG_FLAG (0x10 + p)) _ _ _ (messageKept_field (by decide))]
  exact iflag_bit _ _ hi

/-- A flag and a message leave the fields other than the flags and PG_FAULT. -/
theorem flagRaised_rd {s : State} {p : Nat} (i src kind detail : Nat) {f : Field} (hne : f.key ≠ (PG_IFLAG_FLAG (0x10 + p)).key)
    (hf : messageKept f.key) : ((s.iflag (0x10 + p) i).raise src kind detail).rd f = s.rd f :=
  (raise_rd _ _ _ hf).trans (iflag_rd_ne _ _ hne)

/-! ### The record of a port -/

/-- A port's record apart from its measurement, the marks of an index and of the limits, and who has a newer LAST_T to read. -/
def PosS.own (x : PosS) : PosS :=
  { x with edges := [], clean := 0, ixUndo := none, lim := none, mt := none, meas := none, fb := (0, 0), spdAt := 0, tNewer := [] }

theorem own_lastA {x y : PosS} (h : y.own = x.own) : y.lastA = x.lastA := (congrArg PosS.lastA h :)
theorem own_since {x y : PosS} (h : y.own = x.own) : y.since = x.since := (congrArg PosS.since h :)
theorem own_dir {x y : PosS} (h : y.own = x.own) : y.dir = x.dir := (congrArg PosS.dir h :)
theorem own_ssi {x y : PosS} (h : y.own = x.own) : y.ssi = x.ssi := (congrArg PosS.ssi h :)

theorem keep_port (a b : State) (p : Nat) : (a.keep b).port p = b.port p := rfl
theorem wr_port (s : State) (f : Field) (v p : Nat) : (s.wr f v).port p = s.port p := rfl
theorem iflag_port (s : State) (q i p : Nat) : (s.iflag q i).port p = s.port p := rfl
theorem pulse_port (s : State) (n p : Nat) : (s.pulse n).port p = s.port p := rfl
theorem counted_port (s : State) (m q p : Nat) : (s.counted m q).port p = s.port p := rfl

theorem FltFrame.port {a b : State} (h : FltFrame a b) (p : Nat) : b.port p = a.port p := by rw [h]; rfl

/-- From `s` to `s'` the fields of `portKept` read as before, and port `p` changes at most its measurement and those marks. -/
structure PosStill (p : Nat) (s s' : State) : Prop where
  still : Still portKept s s'
  own : (s'.port p).own = (s.port p).own

section

variable {p : Nat} {s a b c : State}

theorem PosStill.rd (h : PosStill p a b) {f : Field} (hf : portKept f.key) : b.rd f = a.rd f := h.still.regs f hf

theorem PosStill.refl (s : State) : PosStill p s s := ⟨.refl s, rfl⟩

theorem PosStill.after (k : PosStill p b c) (h : PosStill p a b) : PosStill p a c :=
  ⟨k.still.after h.still, k.own.trans h.own⟩

theorem PosStill.ite {q : Prop} [Decidable q] (h : PosStill p a b) (k : PosStill p a c) :
    PosStill p a (if q then b else c) := by
  split
  · exact h
  · exact k

theorem wr_posStill {f : Field} (v : Nat) (h : ¬ portKept f.key) : PosStill p s (s.wr f v) := ⟨wr_still v h, rfl⟩

theorem setPort_posStill {x : PosS} (h : x.own = (s.port p).own) : PosStill p s (s.setPort p x) :=
  ⟨.same rfl rfl rfl rfl, by rw [setPort_port, h]⟩

theorem iflag_posStill (i : Nat) : PosStill p s (s.iflag (0x10 + p) i) :=
  ⟨iflag_still i (not_portKept_field (by decide)), rfl⟩

theorem pulse_posStill (n : Nat) : PosStill p s (s.pulse n) := ⟨pulse_still n, rfl⟩

theorem raise_posStill (src kind detail : Nat) : PosStill p s (s.raise src kind detail) :=
  ⟨raise_still portKept_noFault _ _ _, by rw [(raise_frame s src kind detail).port]⟩

theorem raiseLive_posStill (src kind detail : Nat) : PosStill p s (s.raiseLive src kind detail) :=
  (raise_posStill src kind detail).after (b := { s with flt := { s.flt with live := _ } }) ⟨.same rfl rfl rfl rfl, rfl⟩

/-- The limit status follows COUNT (R131). -/
theorem limitEval_posStill : PosStill p s (s.limitEval p) := by
  have hlo (s : State) (v : Nat) : PosStill p s (s.wr (POS_STAT_LIMIT_LO p) v) := wr_posStill v (not_portKept_field (by decide))
  have hhi (s : State) (v : Nat) : PosStill p s (s.wr (POS_STAT_LIMIT_HI p) v) := wr_posStill v (not_portKept_field (by decide))
  have hflag (s : State) (v : Nat) : PosStill p s (s.wr (PG_IFLAG_FLAG (0x10 + p)) v) := wr_posStill v (not_portKept_field (by decide))
  have hflags (s : State) (i j : Prop) [Decidable i] [Decidable j] (k : Bool) (v : Nat) :
      PosStill p s (if i then if k = true then s else s.iflag (0x10 + p) 2 else if j then s.wr (PG_IFLAG_FLAG (0x10 + p)) v else s) :=
    .ite (.ite (.refl s) (iflag_posStill 2)) (.ite (hflag s v) (.refl s))
  unfold State.limitEval
  exact (hflags _ _ _ _ _).after <| (hhi _ _).after <| (hlo _ _).after <| setPort_posStill (by rfl)

theorem path_posStill (v : Nat) : PosStill p s (s.wr (POS_SPD_STAT_PATH p) v) := wr_posStill v (not_portKept_field (by decide))

theorem valid_posStill (v : Nat) : PosStill p s (s.wr (POS_SPD_STAT_VALID p) v) := wr_posStill v (not_portKept_field (by decide))

theorem speed_posStill (v : Nat) : PosStill p s (s.wr (POS_SPEED_VALUE p) v) := wr_posStill v (not_portKept_field (by decide))

/-- No measurement is in force. -/
def State.measureOff (s : State) (p : Nat) : State :=
  s.setPort p { s.port p with clean := 0, mt := none, meas := none }

/-- Fixed windows count from now on (R139). -/
def State.windowsOn (s : State) (p : Nat) : State :=
  ((s.setPort p { s.port p with fb := (s.tb, 0) }).wr (POS_SPD_STAT_PATH p) 2).wr (POS_SPD_STAT_VALID p) 0

theorem fallBack_eq (s : State) (p : Nat) : s.fallBack p = if (s.measureOff p).rd (POS_SPD_STAT_PATH p) = 2 then s.measureOff p
    else ((s.measureOff p).windowsOn p).iflag (0x10 + p) 5 := rfl

theorem windowsOn_posStill : PosStill p s (s.windowsOn p) :=
  (valid_posStill 0).after <| (path_posStill 2).after <| setPort_posStill rfl

theorem windowsOn_rd_ne {f : Field} (hpath : f.key ≠ (POS_SPD_STAT_PATH p).key) (hvalid : f.key ≠ (POS_SPD_STAT_VALID p).key) :
    (s.windowsOn p).rd f = s.rd f := by
  rw [State.windowsOn, rd_wr_ne _ _ _ _ hvalid, rd_wr_ne _ _ _ _ hpath, setPort_rd]

/-- The measurement turns invalid (R139). -/
theorem fallBack_posStill : PosStill p s (s.fallBack p) := by
  rw [fallBack_eq]
  exact PosStill.after (.ite (.refl _) ((iflag_posStill 5).after windowsOn_posStill)) (setPort_posStill rfl)

/-- A flag that is set stays set when the measurement turns invalid. -/
theorem fallBack_bit {i : Nat} (hi : i < 32) (h : bit (s.rd (PG_IFLAG_FLAG (0x10 + p))) i = true) :
    bit ((s.fallBack p).rd (PG_IFLAG_FLAG (0x10 + p))) i = true := by
  have hwin : ((s.measureOff p).windowsOn p).rd (PG_IFLAG_FLAG (0x10 + p)) = s.rd (PG_IFLAG_FLAG (0x10 + p)) :=
    windowsOn_rd_ne (field_ne (by decide)) (field_ne (by decide))
  rw [fallBack_eq]
  split
  · exact h
  · rw [← hwin] at h
    exact iflag_bit_kept 5 hi h

/-- An invalid measurement shows as path 2. -/
theorem fallBack_path : (s.fallBack p).rd (POS_SPD_STAT_PATH p) = 2 := by
  rw [fallBack_eq]
  split
  · assumption
  · rw [iflag_rd_ne (f := POS_SPD_STAT_PATH p) _ _ (field_ne (by decide))]
    exact (rd_wr_ne _ _ _ _ (field_ne (by decide))).trans (rd_wr_self _ (POS_SPD_STAT_PATH p) 2)

theorem putSpeed_posStill (mag : Nat) : PosStill p s (s.putSpeed p mag) := (speed_posStill _).after (setPort_posStill (by rfl))

/-- A measurement is kept, and shown as the speed. -/
theorem measure_posStill {x : PosS} (h : x.own = (s.port p).own) (mag : Nat) : PosStill p s ((s.setPort p x).putSpeed p mag) :=
  (putSpeed_posStill mag).after (setPort_posStill h)

/-- A measurement is kept, its path is shown, and the speed. -/
theorem measureOn_posStill {x : PosS} (h : x.own = (s.port p).own) (path mag : Nat) :
    PosStill p s (((s.setPort p x).wr (POS_SPD_STAT_PATH p) path).putSpeed p mag) :=
  (putSpeed_posStill mag).after <| (path_posStill path).after <| setPort_posStill h

/-- An active edge measures the speed (R136 to R139). -/
theorem speedEdge_posStill (t : Nat) : PosStill p s (s.speedEdge p t) := by
  unfold State.speedEdge
  extract_lets x w edges n x' u m path fbv fbMag valid
  have hu : PosStill p s u := setPort_posStill rfl
  have hx' : x'.own = (u.port p).own := Eq.symm hu.own
  have hvalid (v : State) : PosStill p v (valid v) := valid_posStill 1
  clear_value u valid
  split
  · exact hu
  refine PosStill.after ?_ hu
  split
  · split
    · split
      case h_1 o m0 first _ =>
        have hmt (l : PosS) (v : Nat) (h : l.own = x'.own) : PosStill p u (valid ((u.setPort p l).putSpeed p v)) :=
          (hvalid _).after (measure_posStill (h.trans hx') v)
        exact .ite (.ite ((measureOn_posStill (by rfl) 0 _).after (hmt _ _ rfl)) (hmt _ _ rfl)) (setPort_posStill hx')
      case h_2 => exact setPort_posStill hx'
    · exact .ite ((hvalid _).after (measureOn_posStill (by exact hx') 1 _)) ((hvalid _).after (measureOn_posStill (by exact hx') 0 _))
  · exact .refl u

/-! ### COUNT and LAST_T (R131, R150) -/

/-- COUNT reads as put. -/
theorem putCount_posCount {v : Int} (h1 : -2147483648 ≤ v) (h2 : v ≤ 2147483647) : (s.putCount p v).posCount p = v := by
  have hrd : (s.putCount p v).rd (POS_COUNT_VALUE p) = ofS 32 v % 2 ^ 32 :=
    (limitEval_posStill.rd (portKept_field (by decide))).trans (rd_wr_self _ _ _)
  rw [State.posCount, hrd, toS_mod, toS_ofS h1 h2]

theorem putCount_rd_ne {v : Int} {f : Field} (hf : portKept f.key) (hne : f.key ≠ (POS_COUNT_VALUE p).key) :
    (s.putCount p v).rd f = s.rd f :=
  (limitEval_posStill.rd hf).trans (rd_wr_ne _ _ _ _ hne)

theorem putCount_own (v : Int) : ((s.putCount p v).port p).own = (s.port p).own := limitEval_posStill.own

theorem stampLastT_rd (s : State) (p t : Nat) : (s.stampLastT p t).rd (POS_LAST_T_LO_T p) = t % 2 ^ 32 ∧
    (s.stampLastT p t).rd (POS_LAST_T_HI_T p) = t / 2 ^ 32 % 2 ^ 32 :=
  ⟨(rd_wr_ne _ _ _ _ (field_ne (by decide))).trans (rd_wr_self _ _ _), rd_wr_self _ _ _⟩

theorem stampLastT_rd_ne {t : Nat} {f : Field} (hlo : f.key ≠ (POS_LAST_T_LO_T p).key) (hhi : f.key ≠ (POS_LAST_T_HI_T p).key) :
    (s.stampLastT p t).rd f = s.rd f :=
  (rd_wr_ne _ _ _ _ hhi).trans (rd_wr_ne _ _ _ _ hlo)

theorem stampLastT_own (t : Nat) : ((s.stampLastT p t).port p).own = (s.port p).own := by
  rw [State.stampLastT, wr_port, wr_port, setPort_port]
  rfl

end

end Sys2Proof.Machine
end


section
/-! What a loss of the angle leaves of the position ports: nothing that it ends writes a register of their pages, apart from PG_FAULT. -/

namespace Sys2Proof.Machine

open Reg

/-! ### The pages of the position ports -/

/-- Keys of the position ports' pages apart from PG_FAULT, which messages write. -/
def posPage (k : Nat) : Prop := 0x10 ≤ k / 131072 ∧ k / 131072 < 0x18 ∧ k / 32 % 4096 ≠ 0x1C

theorem posPage_field {p o lo w r : Nat} {ty : RType} (hp : p < 8) (h : o < 4096 ∧ lo < 32 ∧ o ≠ 0x1C) :
    posPage (⟨0x10 + p, o, lo, w, ty, r⟩ : Field).key := by
  obtain ⟨ho, hl, hm⟩ := h
  unfold posPage
  rw [key_page ho hl, key_off ho hl]
  exact ⟨Nat.le_add_right _ _, by dsimp only; omega, hm⟩

/-- A field of a page that is not a port's. -/
theorem not_posPage {f : Field} (h : f.key / 131072 < 0x10 ∨ 0x18 ≤ f.key / 131072) : ¬ posPage f.key := by
  unfold posPage
  omega

/-- A field of an indexed page past the ports. -/
theorem not_posPage_past {f : Field} {b n : Nat} (hf : f.page = b + n) (hb : 0x18 ≤ b) : ¬ posPage f.key := by
  refine not_posPage (.inr ?_)
  unfold Field.key
  omega

theorem not_posPage_iflag {q : Nat} (h : 0x18 ≤ q) : ¬ posPage (PG_IFLAG_FLAG q).key :=
  not_posPage_past (b := q) (n := 0) rfl h

theorem posPage_noFault : NoFault posPage := ⟨fun _ h => h.2.2, not_posPage (by decide)⟩

theorem posPage_noPhase : NoPhase posPage := fun _ _ _ _ => not_posPage_past rfl (by decide)

theorem posPage_noEvt : NoEvt posPage := by
  intro k hk
  unfold posPage at hk
  omega

section

variable {s : State} {p k x e t n : Nat}

/-! ### Channels (R229 to R234) -/

theorem putLatch_ports (b : Bool) : Still posPage s (s.putLatch n b) := by
  refine wr_still _ ?_
  unfold latchField
  split <;> exact not_posPage (by decide)

theorem latchRiseOf_ports : Still posPage s (s.latchRiseOf p) := by
  unfold State.latchRiseOf
  split
  · exact .foldl (fun _ _ _ => .ite (putLatch_ports _) (.refl _)) s
  · exact .refl s

theorem chEdge_ports (s0 : State) (up was soft : Bool) : Still posPage s (s.chEdge s0 p up was soft) := by
  have hoff : Still posPage s ((s.chevOf p 11).softOff s0 p) :=
    (softOff_still (not_posPage (by decide)) (not_posPage_iflag (by decide)) _ _).after (chevOf_still _ _)
  have hup : Still posPage s (((s.chevOf p 10).softRise p).latchRiseOf p) :=
    latchRiseOf_ports.after ((chevOf_still p 10).trans (.same rfl rfl rfl rfl))
  exact .ite hup (.ite (.ite hoff (chevOf_still _ _)) (.refl s))

theorem chSet_ports (env car soft : Bool) : Still posPage s (s.chSet p env car soft) := by
  rw [chSet_eq]
  exact (follow_still _).after <| (chEdge_ports _ _ _ _).after (chLevels_still _ _ _)

theorem chEvent_ports : Still posPage s (s.chEvent p k) := by
  have htile (f : Field) (hf : f.page = 0x20 + p / 24) : ¬ posPage f.key := not_posPage_past hf (by decide)
  by_cases hd : s.dead p = true
  · rw [State.chEvent, if_pos hd]
    exact .refl s
  by_cases hn : s.evCount p k < 3
  · rw [chEvent_counted (by simpa using hd) hn]
    exact (svc_still _).after <| (chevOf_still _ _).after <| (wr_still _ (htile _ rfl)).after (sepia_still _ _)
  · rw [State.chEvent, if_neg hd, if_neg hn]
    exact .ite ((raise_still posPage_noFault _ _ _).after (chErr_still (htile _ rfl) (htile _ rfl)))
      (.ite (inc_still (htile _ rfl)) (.refl s))

theorem safeEnd_ports : Still posPage s (s.safeEnd p) := by
  have hquench (s : State) : Still posPage s (match s.logOf p with | some n => s.quenchChannel n | none => s) := by
    split
    · exact quenchChannel_still posPage_noPhase _
    · exact .refl s
  exact (evtLoad_still posPage_noEvt _).after <| chEvent_ports.after <| (hquench _).after <| (setChan_still _ _).after <|
    (release_still _).after (chSet_ports _ _ _)

theorem pipeAct_ports (a : Nat) (soft : Bool) : Still posPage s (s.pipeAct p a soft) := (chSet_ports _ _ _).after (unsafe_still p a)

theorem syncEnd_ports : Still posPage s s.syncEnd := .foldl (fun _ _ _ => .ite safeEnd_ports (.refl _)) s

/-! ### Converters and cylinder contexts (R297, R331, R346) -/

/-- A write of a converter's page. -/
theorem wrConv_ports {f : Field} (v : Nat) (hf : f.page = 0x60 + x) : Still posPage s (s.wr f v) :=
  wr_still v (not_posPage_past hf (by decide))

/-- A write of a cylinder context's page. -/
theorem wrCyl_ports {f : Field} (v : Nat) (hf : f.page = 0x90 + k) : Still posPage s (s.wr f v) :=
  wr_still v (not_posPage_past hf (by decide))

theorem loadEntry_ports : Still posPage s (s.loadEntry x e) := (wrConv_ports _ rfl).after (setCv_still _ _)

theorem openWin_ports (late long : Bool) : Still posPage s (s.openWin x t late long) :=
  (wrConv_ports _ rfl).after <| (wrConv_ports _ rfl).after (setCv_still _ _)

theorem startEntry_ports (bnd late : Bool) : Still posPage s (s.startEntry x e t bnd late) :=
  .ite ((wrConv_ports _ rfl).after loadEntry_ports) ((openWin_ports _ _).after loadEntry_ports)

theorem toIdle_ports : Still posPage s (s.toIdle x t) := by
  have hidle (c : ConvS) : Still posPage s ((s.setCv x c).wr (CBC_CONV_STAT_STATE x) 1) := (wrConv_ports _ rfl).after (setCv_still _ _)
  exact .ite ((startEntry_ports _ _).after (hidle _))
    (.ite ((startEntry_ports _ _).after <| (wrConv_ports _ rfl).after (hidle _)) (hidle _))

theorem cvAbort_ports (cause : Nat) : Still posPage s (s.cvAbort x cause) := by
  have hclose (u : State) (t c b : Nat) (late : Bool) : Still posPage u (u.closeWin x t c b late) := by
    unfold State.closeWin
    dsimp only
    split
    · exact .refl u
    · exact setCv_still _ _
  exact .ite (toIdle_ports.after <| (setCv_still _ _).after (hclose _ _ _ _ _)) (.refl s)

theorem cvSyncLoss_ports : Still posPage s s.cvSyncLoss := by
  have htap (u : State) (x cause : Nat) : Still posPage u (u.tapEnd x cause) := by
    unfold State.tapEnd
    dsimp only
    split
    · exact setCv_still _ _
    · exact .refl u
  exact .foldl (fun _ _ _ => .ite ((cvAbort_ports _).after (htap _ _ _)) (htap _ _ _)) s

theorem trimDrop_ports (tm : Bool) : Still posPage s (s.trimDrop k tm) := by
  have hchan (u : State) (p : Nat) (c : Chan) : Still posPage u { u with chans := tput {} u.chans p c } := .same rfl rfl rfl rfl
  unfold State.trimDrop
  split
  · exact .refl s
  · dsimp only
    split
    · exact (wrCyl_ports _ rfl).after <| (modCyl_still _ _).after (hchan _ _ _)
    · exact (wrCyl_ports _ rfl).after (modCyl_still _ _)

theorem trimUndo_ports (tm : Bool) : Still posPage s (s.trimUndo k tm) := by
  have hi (u : State) (v : Nat) : Still posPage u (u.wr (loopI tm k) v) := by
    cases tm <;> exact wrCyl_ports v rfl
  have hout (u : State) (v : Nat) : Still posPage u (u.wr (loopOut tm k) v) := by
    cases tm <;> exact wrCyl_ports v rfl
  unfold State.trimUndo
  split
  · exact .refl s
  · exact (hout _ _).after <| (hi _ _).after (trimDrop_ports tm)

theorem cmuLeave_ports : Still posPage s s.cmuLeave :=
  .foldl (fun _ _ _ => (trimUndo_ports _).after <| (trimUndo_ports _).after (modCyl_still _ _)) s

/-! ### The pipeline and the banks lose the angle (R161, R218, R231, R279) -/

theorem evtEmpty_ports (loss : Bool) : Still posPage s (s.evtEmpty loss) := by
  have hwithdrawn : Still posPage s (s.evt.slots.foldl State.withdraw s) := .foldl (fun _ o _ => withdraw_still posPage_noEvt o) s
  refine Still.after (Still.foldl (fun u p _ => ?_) _) hwithdrawn
  split
  · exact safeEnd_ports
  · exact safeEnd_ports
  · exact (pipeAct_ports _ _).after (release_still p)
  · exact .ite safeEnd_ports (.refl u)

theorem evtLoss_ports : Still posPage s s.evtLoss := by
  have hstate (u : State) (v : Nat) : Still posPage u (u.evtState v) :=
    (iflag_still _ (not_posPage_iflag (by decide))).after (wr_still _ (not_posPage (by decide)))
  have hrun (u : State) (v : Nat) : Still posPage u (u.wr EVT_CTRL_RUN v) := wr_still v (not_posPage (by decide))
  exact .ite (evtSettle_still.after <| (hrun _ _).after <| (hstate _ _).after <| cmuLeave_ports.after <|
    cvSyncLoss_ports.after (evtEmpty_ports _)) (.refl s)

theorem angLost_ports : Still posPage s s.angLost :=
  (quenchAll_still posPage_noPhase).after <| syncEnd_ports.after <| evtLoss_ports.after (pulse_still 15)

/-! ### The output moves to its last angle (R172, R196, R201, R278) -/

theorem evt_ports (u : State) (x : EvtS) : Still posPage u { u with evt := x } := .same rfl rfl rfl rfl

theorem evtWrap_ports : Still posPage s s.evtWrap := by
  have hcyc (u : State) (v : Nat) : Still posPage u ((u.hwPut EVT_CYC_CNT_COUNT v).pulse 12) :=
    (pulse_still 12).after (.ite (.refl u) (wr_still v (not_posPage (by decide))))
  have hlag (u : State) : Still posPage u ((List.range 8).foldl (fun s b => s.wr (EVT_BANK_STAT_MAX_DELAY b) (satN 8 (tget 0 s.evt.lag b))) u) :=
    .foldl (fun _ _ _ => wr_still _ (not_posPage_past (b := 0x19) (n := 0) rfl (by decide))) u
  have htake {α : Type} (u : State) (l : List α) (i : α → Nat) (y : α → Entry4) :
      Still posPage u (l.foldl (fun s x => s.evtTake (i x) (y x)) u) := .foldl (fun _ _ _ => evtTake_still _ _) u
  have hflag (u : State) (c : Prop) [Decidable c] : Still posPage u (if c then u else u.iflag 0x19 7) :=
    .ite (.refl u) (iflag_still 7 (not_posPage_iflag (by decide)))
  unfold State.evtWrap
  exact (hflag _ _).after <| (htake _ _ _ _).after <| (evt_ports _ _).after <| (htake _ _ _ _).after <| (evt_ports _ _).after <|
    (hlag _).after <| Still.after (.ite (hcyc _ _) (.refl _)) (evt_ports s _)

theorem ramRecord_ports (kind q b a : Nat) : Still posPage s (s.ramRecord kind q b a) := faultMsg_still posPage_noFault _ _

theorem entry3_ports (i : Nat) (f : Nat → Nat) : Still posPage s (s.entry3 i f) := .same rfl rfl rfl rfl

/-- What the pipeline counts, flags and reports. -/
theorem evtReport_ports {f : Field} (i src kind detail : Nat) (hf : ¬ posPage f.key) :
    Still posPage s (((s.inc f).iflag 0x19 i).raise src kind detail) :=
  (raise_still posPage_noFault _ _ _).after <| (iflag_still _ (not_posPage_iflag (by decide))).after (inc_still hf)

theorem evtEcc_ports (i : Nat) (y : Nat × Bool) : Still posPage s (s.evtEcc i n y) := by
  unfold State.evtEcc
  exact .ite ((evtReport_ports 6 _ _ _ (not_posPage (by decide))).after <| (entry3_ports _ _).after (evt_ports s _))
    (ramRecord_ports _ _ _ _)

theorem newOcc_ports (i : Nat) (y : Entry4) : Still posPage s (s.newOcc i n y).2 := by
  unfold State.newOcc
  dsimp only
  split
  · split
    · exact .refl s
    · exact evtReport_ports 5 _ _ _ (not_posPage (by decide))
  · exact .refl s

theorem pull1_ports (i : Nat) (y : Entry4) : Still posPage s (s.pull1 i n y) := by
  have hskip (u : State) (x : EvtS) : Still posPage u
      (((({ u with evt := x }).entryFlag i 28).inc EVT_ABORT_CNT_SKIP).iflag 0x19 4 |>.raise srcEvt 0x21 i) :=
    (evtReport_ports 4 _ _ _ (not_posPage (by decide))).after <| (entry3_ports _ _).after (evt_ports u _)
  unfold State.pull1
  extract_lets marked x pulled bad known
  have hknown : Still posPage s known := by
    have hpulled : Still posPage s pulled := (evt_ports marked _).after (entry3_ports i _)
    refine Still.after ?_ hpulled
    unfold known
    clear_value bad
    cases bad with
    | none => exact .refl _
    | some e => exact evtEcc_ports i e
  clear_value known
  refine Still.after ?_ hknown
  exact .ite (.refl _) (.ite ((evt_ports _ _).after (newOcc_ports _ _)) (hskip _ _))

theorem evtPull_ports (k : Nat) : Still posPage s (s.evtPull k) := by
  induction k generalizing s with
  | zero => exact .refl s
  | succ k ih =>
    unfold State.evtPull
    refine .ite (.refl s) ?_
    split
    · exact .refl s
    · refine ih.after (Still.foldl (fun u b _ => ?_) s)
      dsimp only
      split
      · exact .refl u
      · exact (evt_ports _ _).after (pull1_ports _ _)

theorem slotWindows_ports : Still posPage s s.slotWindows :=
  .foldl (fun _ _ _ => .ite ((raise_still posPage_noFault _ _ _).after <| (iflag_still _ (not_posPage_past rfl (by decide))).after <|
    (inc_still (not_posPage_past rfl (by decide))).after (quench_still (not_posPage_past rfl (by decide)))) (.refl _)) s

/-! ### The tracker's output (R160, R172, R178, R184, R185) -/

theorem modTrk_ports (u : State) (f : TrkS → TrkS) : Still posPage u (u.modTrk f) := .same rfl rfl rfl rfl

theorem wrTrk_ports (u : State) {f : Field} (v : Nat) (h : f.key / 131072 = 0x18) : Still posPage u (u.wr f v) :=
  wr_still v (not_posPage (.inr (by omega)))

theorem angMoved_ports (wrap : Bool) : Still posPage s (s.angMoved wrap n) :=
  slotWindows_ports.after <| (evtPull_ports _).after (.ite evtWrap_ports (.refl s))

theorem outMove_ports (d n : Nat) : Still posPage s (s.outMove d n) := by
  have hfollow (u : State) (wrap : Bool) : Still posPage u (if u.follow.isSome then u else u.angMoved wrap n) :=
    .ite (.refl u) (angMoved_ports wrap)
  unfold State.outMove
  extract_lets o ang wrap moved whole counted halved passed wrapped
  have hcounted : Still posPage moved counted := .ite (wrTrk_ports _ _ (by decide)) (.refl _)
  have hpassed : Still posPage halved passed := .ite (wrTrk_ports _ _ (by decide)) (.refl _)
  have hwrapped : Still posPage moved wrapped :=
    .ite ((modTrk_ports passed _).after <| hpassed.after <| (modTrk_ports counted _).after hcounted) (.refl _)
  exact (hfollow _ _).after <| hwrapped.after (modTrk_ports s _)

theorem outTick_ports : Still posPage s s.outTick :=
  .ite (.refl s) ((outMove_ports _ _).after (modTrk_ports s _))

theorem pendApply_ports : Still posPage s s.pendApply :=
  Still.after (.ite ((iflag_still _ (not_posPage_iflag (by decide))).after (wrTrk_ports _ _ (by decide))) (.refl _)) (modTrk_ports s _)

/-- A relearn that ends reports as the maintenance activity 6 (R184, R185). -/
theorem learnStop_ports (result : Nat) : Still posPage s (s.learnStop result) := by
  have hend (u : State) : Still posPage u (u.taskEnd learnTask result) := by
    have hmaint (m : MaintS) : Still posPage u { u with maint := m } := .same rfl rfl rfl rfl
    have hstat (v : State) : Still posPage v (v.actStat learnTask result) :=
      (wr_still _ (not_posPage (by decide))).after (wr_still _ (not_posPage (by decide)))
    exact .ite ((raise_still posPage_noFault _ _ _).after <| (iflag_still _ (not_posPage (by decide))).after <|
      Still.after (.ite (inc_still (not_posPage (by decide))) (.refl _)) <| (hstat _).after (hmaint _)) (.refl u)
  exact .ite ((hend _).after <| (wrTrk_ports _ _ (by decide)).after (modTrk_ports s _)) (.refl s)

theorem outState_ports (st : Nat) : Still posPage s (s.outState st) := by
  have hspoil (u : State) : Still posPage u u.learnSpoil := .ite (learnStop_ports 5) (.refl u)
  have hflag (u : State) (o : AngOut) : Still posPage u ((u.setOut o).iflag 0x18 0) :=
    (iflag_still _ (not_posPage_iflag (by decide))).after (modTrk_ports u _)
  refine .ite (.refl s) ?_
  dsimp only
  exact Still.after (.ite angLost_ports (.refl _)) <| Still.after (.ite ((hspoil _).after pendApply_ports) (.refl _)) <|
    (hflag _ _).after (.ite outTick_ports (.refl s))

theorem camForget_ports (u : State) : Still posPage u u.camForget := .same rfl rfl rfl rfl

theorem outLost_ports (cause : Nat) : Still posPage s (s.outLost cause) :=
  (raise_still posPage_noFault _ _ _).after <| (camForget_ports _).after <| (outState_ports 5).after <|
    (iflag_still _ (not_posPage_iflag (by decide))).after <| (inc_still (not_posPage (by decide))).after <|
    (wrTrk_ports _ _ (by decide)).after (modTrk_ports s _)

/-- A crank port that fails takes its lanes, and with the last one the output, out of synchronisation; the ports stay (R155). -/
theorem trkPortFail_ports : Still posPage s (s.trkPortFail p) := by
  have hactive (u : State) : Still posPage u (u.activeFails 5) := .ite (modTrk_ports u _) (outLost_ports 5)
  unfold State.trkPortFail
  extract_lets hit searching fail
  have hfail (u : State) (b : Bool) : Still posPage u (fail u b) := by
    have hlost (v : State) : Still posPage v (match v.trk.failed with | some c => v.outLost c | none => v) := by
      split
      · exact outLost_ports _
      · exact .refl v
    refine .ite (.refl u) ?_
    exact Still.after (.ite (hactive _) (hlost _)) <| Still.after (.ite (modTrk_ports _ _) (.refl _)) (modTrk_ports u _)
  exact .ite ((hfail _ _).after (hfail s _)) (.refl s)

end

end Sys2Proof.Machine
end


section
/-! Proof about the edges of position ports. -/

namespace Sys2Proof.Machine

open Reg

section

variable {p t : Nat} {s : State}

/-! ### A counted step (R128 to R131, R150) -/

/-- An active edge ends STUCK (R140). -/
def State.unstuck (s : State) (p : Nat) : State := if s.on (POS_STAT_STUCK p) then (s.wr (POS_STAT_STUCK p) 0).fallBack p else s

theorem unstuck_rd {f : Field} (hf : portKept f.key) (hne : f.key ≠ (POS_STAT_STUCK p).key) : (s.unstuck p).rd f = s.rd f := by
  unfold State.unstuck
  split
  · exact (fallBack_posStill.rd hf).trans (rd_wr_ne _ _ _ _ hne)
  · rfl

theorem unstuck_own : ((s.unstuck p).port p).own = (s.port p).own := by
  unfold State.unstuck
  split
  · exact fallBack_posStill.own
  · rfl

/-- A step forward takes its direction first (R130). -/
def State.headForward (s : State) (p : Nat) : State := (s.wr (POS_STAT_DIR p) 0).setPort p { s.port p with dir := some false }

theorem headForward_rd_ne {f : Field} (h : f.key ≠ (POS_STAT_DIR p).key) : (s.headForward p).rd f = s.rd f := by
  rw [State.headForward, setPort_rd, rd_wr_ne _ _ _ _ h]

theorem posMode_congr {a b : State} (h : b.rd (POS_CFG_MODE p) = a.rd (POS_CFG_MODE p)) : b.posMode p = a.posMode p := by
  unfold State.posMode
  rw [h]

theorem posTrk_congr {a b : State} (hmode : b.rd (POS_CFG_MODE p) = a.rd (POS_CFG_MODE p))
    (htrk : b.rd (POS_CFG_TRK p) = a.rd (POS_CFG_TRK p)) : b.posTrk p = a.posTrk p := by
  unfold State.posTrk State.on
  rw [posMode_congr hmode, htrk]

/-- A step forward within the limits, after none in the other direction, counts by one (R130, R131). -/
theorem countStep_forward (htrk : s.posTrk p = false) (hdir : (s.port p).dir ≠ some true) (hmin : s.posMin p ≤ s.posCount p + 1)
    (hmax : s.posCount p + 1 ≤ s.posMax p) : s.countStep p false = (s.headForward p).putCount p (s.posCount p + 1) := by
  have hcount : (s.headForward p).posCount p = s.posCount p := congrArg (toS 32) (headForward_rd_ne (field_ne (by decide)))
  have hlo : (s.headForward p).posMin p = s.posMin p := congrArg (toS 32) (headForward_rd_ne (field_ne (by decide)))
  have hhi : (s.headForward p).posMax p = s.posMax p := congrArg (toS 32) (headForward_rd_ne (field_ne (by decide)))
  have hcounts : ¬ ((s.headForward p).posTrk p || false) = true := by
    rw [posTrk_congr (headForward_rd_ne (field_ne (by decide))) (headForward_rd_ne (field_ne (by decide))), htrk]
    decide
  have hrange : ¬ ((s.headForward p).posCount p + 1 < (s.headForward p).posMin p ∨
      (s.headForward p).posMax p < (s.headForward p).posCount p + 1) := by
    rw [hcount, hlo, hhi]
    omega
  rw [← hcount]
  unfold State.countStep
  dsimp only
  cases h : (s.port p).dir with
  | none => exact (if_neg hcounts).trans (if_neg hrange)
  | some d =>
    obtain rfl : d = false := by simpa [h] using hdir
    exact (if_neg hcounts).trans (if_neg hrange)

/-- An active edge once counted and measured: its time, its pulse, and its way to the tracker (R150, R369). -/
def State.edgeDone (s : State) (p t : Nat) : State :=
  let s := (s.stampLastT p t).setPort p { (s.stampLastT p t).port p with since := t, halved := 0 }
  let s := if s.crimson (srcId 0 p 0) then s else s.pulse (32 + p)
  if s.posTrk p && s.running 0x18 then { s with trkIn := s.trkIn ++ [(p, t)] } else s

theorem activeEdge_eq (s : State) (p t : Nat) (rev : Bool) : s.activeEdge p t rev =
    (((s.unstuck p).countStep p (rev != (s.unstuck p).on (POS_CFG_DIR_INV p))).speedEdge p t).edgeDone p t := rfl

theorem edgeDone_regs (s : State) (p t : Nat) : (s.edgeDone p t).regs = (s.stampLastT p t).regs := by
  unfold State.edgeDone
  dsimp only
  split <;> split <;> rfl

theorem edgeDone_lastA (s : State) (p t : Nat) : ((s.edgeDone p t).port p).lastA = (s.port p).lastA := by
  have hport : (s.edgeDone p t).port p = { (s.stampLastT p t).port p with since := t, halved := 0 } := by
    unfold State.edgeDone
    dsimp only
    split <;> split <;> exact setPort_port _ _ _
  rw [hport]
  exact own_lastA (y := (s.stampLastT p t).port p) (stampLastT_own t)

/-- An active edge leaves its time in LAST_T (R150). -/
theorem edgeDone_rd (s : State) (p t : Nat) : (s.edgeDone p t).rd (POS_LAST_T_LO_T p) = t % 2 ^ 32 ∧
    (s.edgeDone p t).rd (POS_LAST_T_HI_T p) = t / 2 ^ 32 % 2 ^ 32 := by
  rw [rd_congr (edgeDone_regs s p t), rd_congr (edgeDone_regs s p t)]
  exact stampLastT_rd s p t

theorem edgeDone_rd_ne {f : Field} (hlo : f.key ≠ (POS_LAST_T_LO_T p).key) (hhi : f.key ≠ (POS_LAST_T_HI_T p).key) :
    (s.edgeDone p t).rd f = s.rd f :=
  (rd_congr (edgeDone_regs s p t) f).trans (stampLastT_rd_ne hlo hhi)

/-- Fields that neither measuring nor LAST_T write are left by the rest of an active edge. -/
theorem edgeMeasured_rd {f : Field} (hf : portKept f.key) (hlo : f.key ≠ (POS_LAST_T_LO_T p).key) (hhi : f.key ≠ (POS_LAST_T_HI_T p).key) :
    ((s.speedEdge p t).edgeDone p t).rd f = s.rd f :=
  (edgeDone_rd_ne hlo hhi).trans ((speedEdge_posStill t).rd hf)

/-- An active edge that steps forward within the limits. -/
theorem activeEdge_forward (htrk : s.posTrk p = false) (hinv : s.on (POS_CFG_DIR_INV p) = false)
    (hdir : (s.port p).dir ≠ some true) (hmin : s.posMin p ≤ s.posCount p + 1) (hmax : s.posCount p + 1 ≤ s.posMax p) :
    s.activeEdge p t false = ((((s.unstuck p).headForward p).putCount p (s.posCount p + 1)).speedEdge p t).edgeDone p t := by
  have hcount : (s.unstuck p).posCount p = s.posCount p :=
    congrArg (toS 32) (unstuck_rd (portKept_field (by decide)) (field_ne (by decide)))
  have hlo : (s.unstuck p).posMin p = s.posMin p :=
    congrArg (toS 32) (unstuck_rd (portKept_field (by decide)) (field_ne (by decide)))
  have hhi : (s.unstuck p).posMax p = s.posMax p :=
    congrArg (toS 32) (unstuck_rd (portKept_field (by decide)) (field_ne (by decide)))
  have htrk' : (s.unstuck p).posTrk p = false :=
    (posTrk_congr (unstuck_rd (portKept_field (by decide)) (field_ne (by decide)))
      (unstuck_rd (portKept_field (by decide)) (field_ne (by decide)))).trans htrk
  have hinv' : (s.unstuck p).on (POS_CFG_DIR_INV p) = false :=
    (congrArg (· != 0) (unstuck_rd (portKept_field (by decide)) (field_ne (by decide)))).trans hinv
  have hdir' : ((s.unstuck p).port p).dir ≠ some true := own_dir (unstuck_own (s := s)) ▸ hdir
  rw [activeEdge_eq, hinv', ← hcount, Bool.bne_false, countStep_forward htrk' hdir' (by omega) (by omega)]

/-- What an active edge leaves that steps forward within the limits (R128, R131, R150). -/
theorem activeEdge_forward_left (htrk : s.posTrk p = false) (hinv : s.on (POS_CFG_DIR_INV p) = false)
    (hdir : (s.port p).dir ≠ some true) (hmin : s.posMin p ≤ s.posCount p + 1) (hmax : s.posCount p + 1 ≤ s.posMax p) :
    (s.activeEdge p t false).posCount p = s.posCount p + 1 ∧ (s.activeEdge p t false).rd (POS_STAT_DIR p) = 0 ∧
    (s.activeEdge p t false).rd (POS_STAT_LVL p) = s.rd (POS_STAT_LVL p) ∧
    (s.activeEdge p t false).rd (POS_LAST_T_LO_T p) = t % 2 ^ 32 ∧
    (s.activeEdge p t false).rd (POS_LAST_T_HI_T p) = t / 2 ^ 32 % 2 ^ 32 ∧
    ((s.activeEdge p t false).port p).lastA = (s.port p).lastA := by
  have hlow : -2147483648 ≤ s.posCount p := (toS_bounds _).1
  have hhigh : s.posMax p ≤ 2147483647 := (toS_bounds _).2
  rw [activeEdge_forward htrk hinv hdir hmin hmax]
  obtain ⟨htlo, hthi⟩ := edgeDone_rd ((((s.unstuck p).headForward p).putCount p (s.posCount p + 1)).speedEdge p t) p t
  refine ⟨?count, ?dir, ?lvl, htlo, hthi, ?lastA⟩
  case count =>
    exact (congrArg (toS 32) (edgeMeasured_rd (portKept_field (by decide)) (field_ne (by decide)) (field_ne (by decide)))).trans
      (putCount_posCount (by omega) (by omega))
  case dir =>
    exact (edgeMeasured_rd (portKept_field (by decide)) (field_ne (by decide)) (field_ne (by decide))).trans <|
      (putCount_rd_ne (portKept_field (by decide)) (field_ne (by decide))).trans (rd_wr_self (s.unstuck p) (POS_STAT_DIR p) 0)
  case lvl =>
    exact (edgeMeasured_rd (portKept_field (by decide)) (field_ne (by decide)) (field_ne (by decide))).trans <|
      (putCount_rd_ne (portKept_field (by decide)) (field_ne (by decide))).trans <|
      (headForward_rd_ne (field_ne (by decide))).trans (unstuck_rd (portKept_field (by decide)) (field_ne (by decide)))
  case lastA =>
    have hhead : (((s.unstuck p).headForward p).port p).lastA = ((s.unstuck p).port p).lastA := by
      rw [State.headForward, setPort_port]
    rw [edgeDone_lastA, own_lastA (speedEdge_posStill t).own, own_lastA (putCount_own _), hhead, own_lastA unstuck_own]

/-! ### An edge is accepted (R124, R129, R134) -/

/-- A rising edge of A in a port's record: its level, and its time. -/
def State.riseA (s : State) (p t : Nat) : State := (s.setPosLvl p 0 true).setPort p { s.port p with lastA := some t }

theorem riseA_rd_ne {f : Field} (h : f.key ≠ (POS_STAT_LVL p).key) : (s.riseA p t).rd f = s.rd f := by
  rw [State.riseA, setPort_rd, State.setPosLvl, rd_wr_ne _ _ _ _ h]

/-- A level just set reads back. -/
theorem setPosLvl_rd (s : State) (p : Nat) {i : Nat} (b : Bool) (hi : i < 3) : (s.setPosLvl p i b).posLvl p i = b := by
  rw [State.posLvl, State.setPosLvl, rd_wr_self]
  exact (bit_mod_two_pow _ hi).trans (bit_putBit _ _ _)

theorem acceptEdge_stepDir {peak : Nat} (hmode : s.posMode p = 2) (hact : s.posActEdge p = 0) (hdir : s.on (POS_CFG_B_DIR p) = false) :
    s.acceptEdge p 0 true t peak = (s.riseA p t).activeEdge p t false := by
  have hcfg {f : Field} (h : f.key ≠ (POS_STAT_LVL p).key) := riseA_rd_ne (s := s) (t := t) h
  have hmode' : (s.riseA p t).posMode p = 2 := (posMode_congr (hcfg (field_ne (by decide)))).trans hmode
  have hact' : (s.riseA p t).posActEdge p = 0 := by
    rw [← hact, State.posActEdge, State.posActEdge, hmode', hmode, hcfg (f := POS_CFG_ACT_EDGE p) (field_ne (by decide))]
  have hdir' : (s.riseA p t).on (POS_CFG_B_DIR p) = false :=
    (congrArg (· != 0) (hcfg (field_ne (by decide)))).trans hdir
  unfold State.riseA at hmode' hact' hdir' ⊢
  simp [State.acceptEdge, hmode', hact', hdir']

theorem acceptEdge_stepDir_left {peak : Nat} (hmode : s.posMode p = 2) (hact : s.posActEdge p = 0) (hdir : s.on (POS_CFG_B_DIR p) = false)
    (htrk : s.posTrk p = false) (hinv : s.on (POS_CFG_DIR_INV p) = false) (hlast : (s.port p).dir ≠ some true)
    (hmin : s.posMin p ≤ s.posCount p + 1) (hmax : s.posCount p + 1 ≤ s.posMax p) :
    (s.acceptEdge p 0 true t peak).posCount p = s.posCount p + 1 ∧ (s.acceptEdge p 0 true t peak).rd (POS_STAT_DIR p) = 0 ∧
    (s.acceptEdge p 0 true t peak).posLvl p 0 = true ∧
    (s.acceptEdge p 0 true t peak).rd (POS_LAST_T_LO_T p) = t % 2 ^ 32 ∧
    (s.acceptEdge p 0 true t peak).rd (POS_LAST_T_HI_T p) = t / 2 ^ 32 % 2 ^ 32 ∧
    ((s.acceptEdge p 0 true t peak).port p).lastA = some t := by
  have hcfg {f : Field} (h : f.key ≠ (POS_STAT_LVL p).key) := riseA_rd_ne (s := s) (t := t) h
  have hcount : (s.riseA p t).posCount p = s.posCount p := congrArg (toS 32) (hcfg (field_ne (by decide)))
  have hlo : (s.riseA p t).posMin p = s.posMin p := congrArg (toS 32) (hcfg (field_ne (by decide)))
  have hhi : (s.riseA p t).posMax p = s.posMax p := congrArg (toS 32) (hcfg (field_ne (by decide)))
  have htrk' : (s.riseA p t).posTrk p = false :=
    (posTrk_congr (hcfg (field_ne (by decide))) (hcfg (field_ne (by decide)))).trans htrk
  have hinv' : (s.riseA p t).on (POS_CFG_DIR_INV p) = false :=
    (congrArg (· != 0) (hcfg (field_ne (by decide)))).trans hinv
  have hport : (s.riseA p t).port p = { s.port p with lastA := some t } := setPort_port _ _ _
  have hlast' : ((s.riseA p t).port p).dir ≠ some true := by rw [hport]; exact hlast
  obtain ⟨hc, hd, hl, htlo, hthi, ha⟩ := activeEdge_forward_left (t := t) htrk' hinv' hlast' (by omega) (by omega)
  rw [acceptEdge_stepDir hmode hact hdir]
  refine ⟨hc.trans (by rw [hcount]), hd, ?_, htlo, hthi, ha.trans (by rw [hport])⟩
  exact (congrArg (bit · 0) hl).trans (setPosLvl_rd s p true (by decide))

/-- In a TB cycle without LOAD nothing comes after. -/
theorem beforeLoad_alone {f : State → State} (hload : (s.port p).loadAt.map (·.at_) ≠ some s.tb) : s.beforeLoad p f = f s := by
  unfold State.beforeLoad
  cases h : (s.port p).loadAt with
  | none => rfl
  | some l => exact if_neg (by simpa [h] using hload)

/-- In a TB cycle without an index nothing comes after. -/
theorem beforeIndex_alone {f : State → State} (hindex : (s.port p).ixUndo.map (·.at_) ≠ some s.tb) : s.beforeIndex p f = f s := by
  unfold State.beforeIndex
  cases h : (s.port p).ixUndo with
  | none => rfl
  | some u => exact if_neg (by simpa [h] using hindex)

/-- An edge in a TB cycle without LOAD and without an index. -/
theorem edgeIn_alone {i peak : Nat} {lvl : Bool} (hload : (s.port p).loadAt.map (·.at_) ≠ some s.tb)
    (hindex : (s.port p).ixUndo.map (·.at_) ≠ some s.tb) : s.edgeIn p i lvl t peak = s.acceptEdge p i lvl t peak := by
  rw [State.edgeIn, beforeLoad_alone hload, beforeIndex_alone hindex]

/-! ### A change on a pin (R122 to R125) -/

/-- The level of a pin past the filter. -/
def State.filtered (s : State) (p i : Nat) (pin : Bool) : State := s.setPort p { s.port p with filt := putBit (s.port p).filt i pin }

theorem filtered_port (s : State) (p i : Nat) (b : Bool) :
    (s.filtered p i b).port p = { s.port p with filt := putBit (s.port p).filt i b } := setPort_port _ _ _

/-- An edge that the edge-rate check rejects is counted, with its flag and its message (R125). -/
def State.edgeFast (s : State) (p i : Nat) : State :=
  ((s.inc (POS_EDGE_ERR_FAST p)).iflag (0x10 + p) 0).raise (srcId 0 p 0) 0x10 i

/-- An edge that the edge-rate check rejects (R125). -/
def State.edgeRejected (s : State) (p i : Nat) : State := (s.edgeFast p i).spoilSpeed p

/-- The edge of pin `i` before the present one. -/
def PosS.lastEdge (x : PosS) (i : Nat) : Option Nat := if i = 0 then x.lastA else x.lastB

/-- An edge at `t` comes before MIN_EDGE has passed since the one before (R124). -/
def State.tooEarly (s : State) (p i t : Nat) : Bool := ((s.port p).lastEdge i).any fun l => decide (t < l + s.posMinEdge p)

theorem usesPin_of_edgePin {i : Nat} (h : s.edgePin p i = true) : s.usesPin p i = true := by
  unfold State.edgePin at h
  unfold State.usesPin
  generalize s.posMode p = m at h ⊢
  match m, h with
  | 1, h => exact decide_eq_true (le_trans (of_decide_eq_true h) (by decide))
  | 2, h => exact decide_eq_true ((beq_iff_eq.1 h).trans_le (by decide))
  | 3, h => exact h
  | 4, h => exact decide_eq_true ((beq_iff_eq.1 h).trans_le (by decide))

theorem filtered_posIn {i : Nat} {lvl : Bool} : (s.filtered p i (lvl != s.posInv p i)).posIn p i = lvl := by
  have hport : ((s.filtered p i (lvl != s.posInv p i)).port p).filt = putBit (s.port p).filt i (lvl != s.posInv p i) := by
    rw [State.filtered, setPort_port]
  have hinv : (s.filtered p i (lvl != s.posInv p i)).posInv p i = s.posInv p i := rfl
  rw [State.posIn, hport, bit_putBit, hinv]
  cases lvl <;> cases s.posInv p i <;> rfl

/-- A change of the level of an edge pin is an edge, which the edge-rate check rejects or not (R124, R125). -/
theorem posChange_edge {i peak : Nat} {lvl : Bool} (hrun : s.running (0x10 + p) = true) (hpin : s.edgePin p i = true)
    (hmode : s.posMode p ≠ 3) (hlvl : s.posLvl p i = !lvl) :
    s.posChange p i (lvl != s.posInv p i) t peak =
      if s.tooEarly p i t then (s.filtered p i (lvl != s.posInv p i)).edgeRejected p i
      else (s.filtered p i (lvl != s.posInv p i)).edgeIn p i lvl t peak := by
  obtain ⟨u, hu⟩ : ∃ u, u = s.filtered p i (lvl != s.posInv p i) := ⟨_, rfl⟩
  have hin : u.posIn p i = lvl := hu ▸ filtered_posIn
  have hrun' : u.running (0x10 + p) = true := hu ▸ hrun
  have hpin' : u.edgePin p i = true := hu ▸ hpin
  have huse : u.usesPin p i = true := usesPin_of_edgePin hpin'
  have hmode' : u.posMode p ≠ 3 := hu ▸ hmode
  have hlvl' : u.posLvl p i = !lvl := hu ▸ hlvl
  have hmin : u.posMinEdge p = s.posMinEdge p := hu ▸ rfl
  rw [← hu, State.tooEarly, ← hmin]
  cases hlast : (s.port p).lastEdge i
  all_goals
    unfold State.filtered at hu
    unfold PosS.lastEdge at hlast
    unfold State.posChange
    dsimp only
    rw [← hu]
    simp [hin, hrun', hpin', huse, hmode', hlvl', hlast, State.edgeRejected, State.edgeFast]

/-- What a rejected edge leaves: its count, a flag, and the rest as it was (R125). -/
theorem edgeRejected_left {i : Nat} : (s.edgeRejected p i).rd (POS_EDGE_ERR_FAST p) = satN 16 (s.rd (POS_EDGE_ERR_FAST p) + 1) ∧
    bit ((s.edgeRejected p i).rd (PG_IFLAG_FLAG (0x10 + p))) 0 = true ∧
    (s.edgeRejected p i).rd (POS_COUNT_VALUE p) = s.rd (POS_COUNT_VALUE p) ∧
    (s.edgeRejected p i).rd (POS_STAT_LVL p) = s.rd (POS_STAT_LVL p) := by
  have hspoil (f : Field) : (s.edgeRejected p i).rd f = ((s.edgeFast p i).fallBack p).rd f := setPort_rd _ _ _ _
  have hrd {f : Field} (hf : portKept f.key) (hne : f.key ≠ (POS_EDGE_ERR_FAST p).key) : (s.edgeRejected p i).rd f = s.rd f := by
    rw [hspoil, fallBack_posStill.rd hf, State.edgeFast, (raise_posStill (p := p) _ _ _).rd hf, (iflag_posStill 0).rd hf, inc_rd_ne hne]
  refine ⟨?count, ?flag, hrd (portKept_field (by decide)) (field_ne (by decide)), hrd (portKept_field (by decide)) (field_ne (by decide))⟩
  case count =>
    rw [hspoil]
    exact (fallBack_posStill.rd (portKept_field (by decide))).trans <|
      (flagRaised_rd _ _ _ _ (field_ne (by decide)) (messageKept_field (by decide))).trans (inc_rd s _)
  case flag =>
    rw [hspoil]
    exact fallBack_bit (by decide) (flagRaised_bit _ _ _ (by decide))

/-- The moment MIN_EDGE ends with the input still changed (R124). -/
theorem posDeferred_due {i l : Nat} (hrun : s.running (0x10 + p) = true) (hpin : s.edgePin p i = true)
    (hlvl : s.posLvl p i = !s.posIn p i) (hlast : (s.port p).lastEdge i = some l) (hdue : l + s.posMinEdge p ≤ s.tb) :
    s.posDeferred p i = s.edgeIn p i (s.posIn p i) s.tb (s.port p).peak := by
  unfold PosS.lastEdge at hlast
  simp [State.posDeferred, hlast, hrun, hpin, hlvl, hdue]

/-! ### The index (R134, R135) -/

/-- IDX_ZERO takes COUNT to 0. -/
def State.indexZero (s : State) (p : Nat) : State := if s.on (POS_CFG_IDX_ZERO p) && !s.posTrk p then s.putCount p 0 else s

/-- The count at the index is kept for the next one. -/
def State.indexTaken (s : State) (p : Nat) : State := s.setPort p { s.port p with idx := some (s.posCount p), idxSkip := false }

theorem ixUndo_posStill {a b : State} (h : PosStill p a b) (m : Option IxUndo) :
    PosStill p a (b.setPort p { a.port p with ixUndo := m }) :=
  (setPort_posStill (by exact h.own.symm)).after h

/-- An index that counts is compared with the one before, then taken. -/
theorem indexCheck_form {hit : Bool} (hz : s.on (POS_CFG_Z_EN p) = true) (huse : s.usesPin p 2 = true) :
    ∃ u, PosStill p s u ∧ s.indexCheck p hit = (u.indexZero p).indexTaken p := by
  unfold State.indexCheck
  rw [hz, huse, if_neg (by decide)]
  extract_lets x c mark nom want compared
  have hlast (v : Nat) : PosStill p s (s.wr (POS_IDX_STAT_LAST p) v) := wr_posStill v (not_portKept_field (by decide))
  have herr (u : State) : PosStill p u (u.inc (POS_IDX_STAT_ERR p)) := wr_posStill _ (not_portKept_field (by decide))
  have hcounted (v : Nat) : PosStill p s (((s.wr (POS_IDX_STAT_LAST p) v).inc (POS_IDX_STAT_ERR p)).iflag (0x10 + p) 3) :=
    (iflag_posStill 3).after <| (herr _).after (hlast v)
  refine ⟨compared, ?_, rfl⟩
  unfold compared
  split
  · exact .ite (.ite (ixUndo_posStill (hcounted _) _) ((raise_posStill _ _ _).after (ixUndo_posStill (hcounted _) _)))
      (ixUndo_posStill (hlast _) _)
  · exact ixUndo_posStill (.refl s) _

theorem indexCheck_left {hit : Bool} (hz : s.on (POS_CFG_Z_EN p) = true) (huse : s.usesPin p 2 = true) :
    (s.indexCheck p hit).rd (POS_STAT_LVL p) = s.rd (POS_STAT_LVL p) ∧
    ((s.indexCheck p hit).port p).idx = some ((s.indexCheck p hit).posCount p) ∧ ((s.indexCheck p hit).port p).idxSkip = false ∧
    (s.on (POS_CFG_IDX_ZERO p) = false → (s.indexCheck p hit).rd (POS_COUNT_VALUE p) = s.rd (POS_COUNT_VALUE p)) := by
  obtain ⟨u, hu, heq⟩ := indexCheck_form (hit := hit) hz huse
  have hport : ((u.indexZero p).indexTaken p).port p =
      { (u.indexZero p).port p with idx := some ((u.indexZero p).posCount p), idxSkip := false } := setPort_port _ _ _
  rw [heq, hport]
  refine ⟨?lvl, rfl, rfl, fun h0 => ?count⟩
  case lvl =>
    have hzero : (u.indexZero p).rd (POS_STAT_LVL p) = u.rd (POS_STAT_LVL p) := by
      unfold State.indexZero
      split
      · exact putCount_rd_ne (portKept_field (by decide)) (field_ne (by decide))
      · rfl
    exact hzero.trans (hu.rd (portKept_field (by decide)))
  case count =>
    have hoff : u.on (POS_CFG_IDX_ZERO p) = false := (congrArg (· != 0) (hu.rd (portKept_field (by decide)))).trans h0
    have hzero : u.indexZero p = u := by
      rw [State.indexZero, hoff]
      rfl
    rw [hzero]
    exact hu.rd (portKept_field (by decide))

/-- The rise of Z past inversion and filter. -/
def State.riseZ (s : State) (p : Nat) : State := (s.filtered p 2 (!s.posInv p 2)).setPosLvl p 2 true

theorem riseZ_rd_ne {f : Field} (h : f.key ≠ (POS_STAT_LVL p).key) : (s.riseZ p).rd f = s.rd f := by
  rw [State.riseZ, State.setPosLvl, rd_wr_ne _ _ _ _ h, State.filtered, setPort_rd]

/-- What an index leaves: its level, COUNT kept for the next, and COUNT as it was without IDX_ZERO (R135). -/
theorem indexEdge_left (hz : s.on (POS_CFG_Z_EN p) = true) (huse : s.usesPin p 2 = true)
    (hload : (s.port p).loadAt.map (·.at_) ≠ some s.tb) :
    ((s.riseZ p).indexEdge p).posLvl p 2 = true ∧ (((s.riseZ p).indexEdge p).port p).idx = some (((s.riseZ p).indexEdge p).posCount p) ∧
    (((s.riseZ p).indexEdge p).port p).idxSkip = false ∧
    (s.on (POS_CFG_IDX_ZERO p) = false → ((s.riseZ p).indexEdge p).rd (POS_COUNT_VALUE p) = s.rd (POS_COUNT_VALUE p)) := by
  have hz' : (s.riseZ p).on (POS_CFG_Z_EN p) = true := (congrArg (· != 0) (riseZ_rd_ne (field_ne (by decide)))).trans hz
  have huse' : (s.riseZ p).usesPin p 2 = true := by
    rw [← huse, State.usesPin, State.usesPin, posMode_congr (riseZ_rd_ne (field_ne (by decide)))]
  have hport : ((s.riseZ p).port p).loadAt = (s.port p).loadAt := by
    rw [State.riseZ, State.setPosLvl, wr_port, filtered_port]
  have halone : (s.riseZ p).indexEdge p = (s.riseZ p).indexCheck p false := beforeLoad_alone (by rw [hport]; exact hload)
  obtain ⟨hlvl, hidx, hskip, hcount⟩ := indexCheck_left (hit := false) hz' huse'
  rw [halone]
  refine ⟨?_, hidx, hskip, fun h0 => ?_⟩
  · exact (congrArg (bit · 2) hlvl).trans (setPosLvl_rd _ p true (by decide))
  · rw [hcount ((congrArg (· != 0) (riseZ_rd_ne (field_ne (by decide)))).trans h0), riseZ_rd_ne (f := POS_COUNT_VALUE p) (field_ne (by decide))]

/-! ### The port is stuck (R140) -/

/-- The marks of a port without an active edge for STUCK_T. -/
def State.stuckMarks (s : State) (p : Nat) : State :=
  let s := (((s.wr (POS_SPEED_VALUE p) 0).wr (POS_SPD_STAT_PATH p) 3).wr (POS_SPD_STAT_VALID p) 0).wr (POS_STAT_STUCK p) 1
  s.setPort p { s.port p with clean := 0, mt := none, meas := none, spdAt := s.tb }

theorem posStuck_due (hrun : s.running (0x10 + p) = true) (h1 : 1 ≤ s.posMode p) (h4 : s.posMode p ≤ 4)
    (hcfg : 0 < s.rd (POS_STUCK_CFG_STUCK_T p)) (hnot : s.on (POS_STAT_STUCK p) = false)
    (hdue : (s.port p).since + 400000 * s.rd (POS_STUCK_CFG_STUCK_T p) ≤ s.tb) :
    s.posStuck p = ((s.stuckMarks p).iflag (0x10 + p) 4).raiseLive (srcId 0 p 2) 0x13 0 := by
  unfold State.posStuck
  exact if_pos (by simp [hrun, hnot, h1, h4, hcfg, hdue])

theorem stuckMarks_rd (s : State) (p : Nat) : (s.stuckMarks p).rd (POS_STAT_STUCK p) = 1 ∧ (s.stuckMarks p).rd (POS_SPEED_VALUE p) = 0 ∧
    (s.stuckMarks p).rd (POS_SPD_STAT_PATH p) = 3 ∧ (s.stuckMarks p).rd (POS_SPD_STAT_VALID p) = 0 := by
  unfold State.stuckMarks
  refine ⟨?stuck, ?speed, ?path, ?valid⟩
  all_goals rw [setPort_rd]
  case stuck => exact rd_wr_self _ _ 1
  case speed =>
    exact (rd_wr_ne _ _ _ _ (field_ne (by decide))).trans <| (rd_wr_ne _ _ _ _ (field_ne (by decide))).trans <|
      (rd_wr_ne _ _ _ _ (field_ne (by decide))).trans (rd_wr_self _ (POS_SPEED_VALUE p) 0)
  case path =>
    exact (rd_wr_ne _ _ _ _ (field_ne (by decide))).trans <| (rd_wr_ne _ _ _ _ (field_ne (by decide))).trans
      (rd_wr_self _ (POS_SPD_STAT_PATH p) 3)
  case valid => exact (rd_wr_ne _ _ _ _ (field_ne (by decide))).trans (rd_wr_self _ (POS_SPD_STAT_VALID p) 0)

/-- What a port that is stuck shows. -/
theorem posStuck_left (hrun : s.running (0x10 + p) = true) (h1 : 1 ≤ s.posMode p) (h4 : s.posMode p ≤ 4)
    (hcfg : 0 < s.rd (POS_STUCK_CFG_STUCK_T p)) (hnot : s.on (POS_STAT_STUCK p) = false)
    (hdue : (s.port p).since + 400000 * s.rd (POS_STUCK_CFG_STUCK_T p) ≤ s.tb) :
    (s.posStuck p).rd (POS_STAT_STUCK p) = 1 ∧ (s.posStuck p).rd (POS_SPEED_VALUE p) = 0 ∧
    (s.posStuck p).rd (POS_SPD_STAT_PATH p) = 3 ∧ (s.posStuck p).rd (POS_SPD_STAT_VALID p) = 0 ∧
    bit ((s.posStuck p).rd (PG_IFLAG_FLAG (0x10 + p))) 4 = true := by
  have hkeep {f : Field} (hf : messageKept f.key) (hne : f.key ≠ (PG_IFLAG_FLAG (0x10 + p)).key) :
      (s.posStuck p).rd f = (s.stuckMarks p).rd f := by
    rw [posStuck_due hrun h1 h4 hcfg hnot hdue, raiseLive_rd _ _ _ hf, iflag_rd_ne _ _ hne]
  obtain ⟨hstuck, hspeed, hpath, hvalid⟩ := stuckMarks_rd s p
  refine ⟨(hkeep (messageKept_field (by decide)) (field_ne (by decide))).trans hstuck,
    (hkeep (messageKept_field (by decide)) (field_ne (by decide))).trans hspeed,
    (hkeep (messageKept_field (by decide)) (field_ne (by decide))).trans hpath,
    (hkeep (messageKept_field (by decide)) (field_ne (by decide))).trans hvalid, ?_⟩
  rw [posStuck_due hrun h1 h4 hcfg hnot hdue, raiseLive_rd (f := PG_IFLAG_FLAG (0x10 + p)) _ _ _ (messageKept_field (by decide))]
  exact iflag_bit _ _ (by decide)

/-! ### The commands -/

theorem keep_posCount (a b : State) (p : Nat) : (a.keep b).posCount p = b.posCount p := rfl
theorem keep_posLvl (a b : State) (p i : Nat) : (a.keep b).posLvl p i = b.posLvl p i := rfl

end

/-- A level that has held for FILT changes the pin; in VR mode the comparator decides besides (R122, R126). -/
theorem exec_posEdge_held {s a : State} {t held peak : Nat} {p : PosPort} {i : Fin 3} {lvl : Bool} {mv : Int} (ha : a = s.advance t)
    (htbd : State.tbd 0 a = true) (hheld : a.rd (POS_CFG_FILT p) ≤ held) (hmode : a.posMode p ≠ 3) :
    exec (.posEdge t p i lvl ⟨held, mv, peak⟩) s = .next (a.keep (a.posChange p i lvl (a.tb - held) peak)) := by
  rw [exec_posEdge, execPosEdge, act_at ha htbd, if_neg (by simp [hmode, hheld])]

theorem exec_posIndex_rise {s a : State} {t : Nat} {p : PosPort} (ha : a = s.advance t) (htbd : State.tbd 0 a = true)
    (hrun : a.running (0x10 + p) = true) (huse : a.usesPin p 2 = true) (hlvl : a.posLvl p 2 = false) :
    exec (.posIndex t p) s = .next (a.keep ((a.riseZ p).indexEdge p)) := by
  rw [exec_posIndex, execPosIndex, act_at ha htbd, if_pos (by simp [hrun, huse, hlvl])]
  rfl

/-- A port that gets stuck fails at the tracker too (R155). -/
def State.stuckAct (s : State) (p : Nat) : State :=
  if (s.posStuck p).on (POS_STAT_STUCK p) && !s.on (POS_STAT_STUCK p) then (s.posStuck p).trkPortFail p else s.posStuck p

theorem exec_posStuck_eq {s a : State} {t : Nat} {p : PosPort} (ha : a = s.advance t) (htbd : State.tbd 0 a = true) :
    exec (.posStuck t p) s = .next (a.keep (a.stuckAct p)) := by
  rw [exec_posStuck, execPosStuck, act_at ha htbd]
  rfl

theorem stuckAct_rd {s : State} {p o lo w r : Nat} {ty : RType} (hp : p < 8) (h : o < 4096 ∧ lo < 32 ∧ o ≠ 0x1C) :
    (s.stuckAct p).rd ⟨0x10 + p, o, lo, w, ty, r⟩ = (s.posStuck p).rd ⟨0x10 + p, o, lo, w, ty, r⟩ := by
  have hkeep : Still posPage (s.posStuck p) (s.stuckAct p) := .ite trkPortFail_ports (.refl _)
  exact hkeep.regs _ (posPage_field hp h)

/-- Settles O11: each command acts on its port at the instant `a`. -/
theorem positionPortEdges : Obligations.PositionPortEdges := by
  intro s a t p ha htbd hrun
  refine ⟨fun held peak mv hheld hload hindex hinv hmode htrk hbdir hdinv hact hlvl hlast hdir hmin hmax => ?edge,
    fun i lvl held peak l mv hheld hpin hmode hlvl hlast hearly => ?early,
    fun i l hpin hlvl hlast hdue => ?deferred,
    fun l hload hindex hin hmode htrk hbdir hdinv hact hlvl hlast hdue hdir hmin hmax => ?deferredStep,
    fun hz hmode hlvl hload => ?index,
    fun t1 t0 w1 w0 l hmode hadapt harm hedges hdue => ?halve,
    fun hpath hdue => ?window,
    fun h1 h4 hcfg hnot hdue => ?stuck⟩
  case edge =>
    have hpinv : a.posInv p 0 = false := by simp [State.posInv, hinv]
    have hedge : a.edgePin p 0 = true := by simp [State.edgePin, hmode]
    have hchange : a.posChange p 0 true (a.tb - held) peak = (a.filtered p 0 true).acceptEdge p 0 true (a.tb - held) peak := by
      have hall := posChange_edge (t := a.tb - held) (peak := peak) (lvl := true) hrun hedge (by rw [hmode]; decide) hlvl
      have hearly : a.tooEarly p 0 (a.tb - held) = false := by simp [State.tooEarly, PosS.lastEdge, hlast]
      rw [hpinv, hearly] at hall
      refine hall.trans (edgeIn_alone ?_ ?_)
      · rw [filtered_port]; exact hload
      · rw [filtered_port]; exact hindex
    have hexec : exec (.posEdge t p 0 true ⟨held, mv, peak⟩) s =
        .next (a.keep ((a.filtered p 0 true).acceptEdge p 0 true (a.tb - held) peak)) :=
      (exec_posEdge_held ha htbd hheld (by rw [hmode]; decide)).trans (by rw [← hchange]; rfl)
    refine ⟨_, hexec, ?_⟩
    simp only [keep_rd, keep_posCount, keep_posLvl, keep_port]
    exact acceptEdge_stepDir_left (s := a.filtered p 0 true) hmode hact hbdir htrk hdinv (by rw [filtered_port]; exact hdir) hmin hmax
  case early =>
    have htoo : a.tooEarly p i (a.tb - held) = true := by
      have hlast' : (a.port p).lastEdge i = some l := hlast
      simp [State.tooEarly, hlast', hearly]
    have hexec := exec_posEdge_held (peak := peak) (i := i) (lvl := lvl != a.posInv p i) (mv := mv) ha htbd hheld hmode
    rw [posChange_edge hrun hpin hmode hlvl, htoo, if_pos rfl] at hexec
    obtain ⟨hfast, hflag, hcount, hlevel⟩ := edgeRejected_left (p := p) (s := a.filtered p i (lvl != a.posInv p i)) (i := i)
    refine ⟨_, hexec, ?_⟩
    simp only [keep_rd, keep_posLvl]
    exact ⟨hfast, hflag, hcount, congrArg (bit · i) hlevel⟩
  case deferred =>
    rw [exec_posDeferredEdge, execPosDeferredEdge, act_at ha htbd, posDeferred_due hrun hpin hlvl hlast hdue]
  case deferredStep =>
    have hedge : a.edgePin p 0 = true := by simp [State.edgePin, hmode]
    have hdef := posDeferred_due hrun hedge (by rw [hlvl, hin]; rfl) hlast hdue
    rw [hin, edgeIn_alone hload hindex] at hdef
    have hexec : exec (.posDeferredEdge t p 0) s = .next (a.keep (a.posDeferred p 0)) :=
      (exec_posDeferredEdge t p 0 s).trans (act_at ha htbd)
    rw [hdef] at hexec
    refine ⟨_, hexec, ?_⟩
    simp only [keep_rd, keep_posCount, keep_posLvl, keep_port]
    obtain ⟨hcount, -, hrest⟩ := acceptEdge_stepDir_left (t := a.tb) (peak := (a.port p).peak) hmode hact hbdir htrk hdinv hdir hmin hmax
    exact ⟨hcount, hrest⟩
  case index =>
    have huse : a.usesPin p 2 = true := by
      obtain h | h | h := hmode <;> simp [State.usesPin, h]
    refine ⟨_, exec_posIndex_rise ha htbd hrun huse hlvl, ?_⟩
    simp only [keep_rd, keep_posCount, keep_posLvl, keep_port]
    exact indexEdge_left hz huse hload
  case halve =>
    rw [exec_vrArmHalve, execVrArmHalve, act_at ha htbd]
    simp [State.vrHalve, hedges, hrun, hmode, hadapt, harm, hdue]
  case window =>
    rw [exec_speedFallbackWindow, execSpeedFallbackWindow, act_at ha htbd]
    simp [State.fbWindow, hrun, hpath, hdue]
  case stuck =>
    obtain ⟨hstuck, hspeed, hpath, hvalid, hflag⟩ := posStuck_left hrun h1 h4 hcfg hnot hdue
    refine ⟨_, exec_posStuck_eq ha htbd, ?_⟩
    simp only [keep_rd]
    refine ⟨(stuckAct_rd p.isLt (by decide)).trans hstuck, (stuckAct_rd p.isLt (by decide)).trans hspeed,
      (stuckAct_rd p.isLt (by decide)).trans hpath, (stuckAct_rd p.isLt (by decide)).trans hvalid, ?_⟩
    exact (congrArg (bit · 4) (stuckAct_rd p.isLt (by decide))).trans hflag

end Sys2Proof.Machine
end


section
/-! Proof about the commands and the serial words of position ports. -/

namespace Sys2Proof.Machine

open Reg

section

variable {p : Nat} {s : State}

theorem pulse_rd (s : State) (n : Nat) (f : Field) : (s.pulse n).rd f = s.rd f := rfl

/-- A status bit that is off reads 0. -/
theorem rd_of_on_false {f : Field} (h : s.on f = false) : s.rd f = 0 := by simpa [State.on] using h

/-! ### The start (R122, R131) -/

/-- The record of a port that starts: it keeps the filtered levels and who has LAST_T to read. -/
def State.startRecord (s : State) (p : Nat) : PosS :=
  { filt := (s.port p).filt, since := s.tb, ssiAt := s.tb, spdAt := s.tb, fb := (s.tb, 0), tRead := (s.port p).tRead,
    tNewer := (s.port p).tNewer }

/-- A port switched on, with its fresh record. -/
def State.switchedOn (s : State) (p : Nat) : State := (s.setPort p (s.startRecord p)).wr (PG_CTRL_EN (0x10 + p)) 1

/-- STAT of a port that starts: its levels, the limits, neither stuck nor reading. -/
def State.startStat (s : State) (p lvl lo hi : Nat) : State :=
  ((((s.wr (POS_STAT_LVL p) lvl).wr (POS_STAT_LIMIT_LO p) lo).wr (POS_STAT_LIMIT_HI p) hi).wr (POS_STAT_STUCK p) 0).wr (POS_STAT_SSI_BUSY p) 0

/-- In VR mode ARM starts from four times its least value (R126). -/
def State.startArm (s : State) (p : Nat) : State :=
  if s.posMode p = 3 then s.wr (POS_VR_STAT_ARM p) (satN 12 (4 * s.rd (POS_VR_CFG_ARM_MIN p))) else s

/-- In the edge modes the speed starts in fixed windows (R139). -/
def State.startSpeed (s : State) (p : Nat) : State := if 1 ≤ s.posMode p ∧ s.posMode p ≤ 4 then s.fallBack p else s

theorem posEnable_starts (hoff : s.on (PG_CTRL_EN (0x10 + p)) = false) (hlim : s.posMin p ≤ s.posMax p) :
    ∃ lvl lo hi, s.posEnable p = (((s.switchedOn p).startStat p lvl lo hi).startArm p).startSpeed p := by
  have hok : ¬ s.posMax p < s.posMin p := by omega
  unfold State.posEnable
  rw [hoff, if_neg (by decide), if_neg hok]
  exact ⟨_, _, _, rfl⟩

theorem posEnable_refuses (hoff : s.on (PG_CTRL_EN (0x10 + p)) = false) (hlim : s.posMax p < s.posMin p) :
    s.posEnable p = s.cfgRec (srcId 0 p 0xF) 0 0xFFF := by
  rw [State.posEnable, hoff, if_neg (by decide), if_pos hlim]

theorem startArm_rd_ne {f : Field} (h : f.key ≠ (POS_VR_STAT_ARM p).key) : (s.startArm p).rd f = s.rd f := by
  unfold State.startArm
  split
  · exact rd_wr_ne _ _ _ _ h
  · rfl

theorem startArm_port : (s.startArm p).port p = s.port p := by
  unfold State.startArm
  split <;> rfl

theorem startSpeed_posStill : PosStill p s (s.startSpeed p) := .ite fallBack_posStill (.refl s)

/-- What a start leaves (R122, R131, R139). -/
theorem started_left (lvl lo hi : Nat) {b : State} (hb : b = (((s.switchedOn p).startStat p lvl lo hi).startArm p).startSpeed p) :
    b.rd (PG_CTRL_EN (0x10 + p)) = 1 ∧ b.rd (POS_STAT_STUCK p) = 0 ∧ b.rd (POS_STAT_SSI_BUSY p) = 0 ∧
    b.rd (POS_COUNT_VALUE p) = s.rd (POS_COUNT_VALUE p) ∧ (b.port p).since = s.tb ∧
    (1 ≤ s.posMode p ∧ s.posMode p ≤ 4 → b.rd (POS_SPD_STAT_PATH p) = 2) := by
  have hspeed {f : Field} (hf : portKept f.key) (hne : f.key ≠ (POS_VR_STAT_ARM p).key) :
      b.rd f = ((s.switchedOn p).startStat p lvl lo hi).rd f := by
    rw [hb, startSpeed_posStill.rd hf, startArm_rd_ne hne]
  refine ⟨?on, ?stuck, ?busy, ?count, ?since, fun hmode => ?path⟩
  case on =>
    exact (hspeed (portKept_field (by decide)) (field_ne (by decide))).trans <| (rd_wr_ne _ _ _ _ (field_ne (by decide))).trans <|
      (rd_wr_ne _ _ _ _ (field_ne (by decide))).trans <| (rd_wr_ne _ _ _ _ (field_ne (by decide))).trans <|
      (rd_wr_ne _ _ _ _ (field_ne (by decide))).trans <| (rd_wr_ne _ _ _ _ (field_ne (by decide))).trans
      (rd_wr_self _ (PG_CTRL_EN (0x10 + p)) 1)
  case stuck =>
    exact (hspeed (portKept_field (by decide)) (field_ne (by decide))).trans <| (rd_wr_ne _ _ _ _ (field_ne (by decide))).trans
      (rd_wr_self _ (POS_STAT_STUCK p) 0)
  case busy =>
    exact (hspeed (portKept_field (by decide)) (field_ne (by decide))).trans (rd_wr_self _ (POS_STAT_SSI_BUSY p) 0)
  case count =>
    exact (hspeed (portKept_field (by decide)) (field_ne (by decide))).trans <| (rd_wr_ne _ _ _ _ (field_ne (by decide))).trans <|
      (rd_wr_ne _ _ _ _ (field_ne (by decide))).trans <| (rd_wr_ne _ _ _ _ (field_ne (by decide))).trans <|
      (rd_wr_ne _ _ _ _ (field_ne (by decide))).trans <| (rd_wr_ne _ _ _ _ (field_ne (by decide))).trans <|
      (rd_wr_ne _ _ _ _ (field_ne (by decide))).trans (setPort_rd _ _ _ _)
  case since =>
    have hport : ((s.switchedOn p).startStat p lvl lo hi).port p = s.startRecord p := by
      simp only [State.startStat, State.switchedOn, wr_port, setPort_port]
    rw [hb, own_since startSpeed_posStill.own, startArm_port, hport, State.startRecord]
  case path =>
    have hkeep : (((s.switchedOn p).startStat p lvl lo hi).startArm p).posMode p = s.posMode p :=
      posMode_congr <| (startArm_rd_ne (field_ne (by decide))).trans <| (rd_wr_ne _ _ _ _ (field_ne (by decide))).trans <|
        (rd_wr_ne _ _ _ _ (field_ne (by decide))).trans <| (rd_wr_ne _ _ _ _ (field_ne (by decide))).trans <|
        (rd_wr_ne _ _ _ _ (field_ne (by decide))).trans <| (rd_wr_ne _ _ _ _ (field_ne (by decide))).trans <|
        (rd_wr_ne _ _ _ _ (field_ne (by decide))).trans (setPort_rd _ _ _ _)
    rw [hb, State.startSpeed, hkeep, if_pos hmode]
    exact fallBack_path

/-! ### LOAD (R133) -/

/-- What a LOAD leaves for the step or the index of its own TB cycle. -/
def State.loadMark (s : State) (p : Nat) : LoadUndo :=
  { at_ := s.tb, count := s.posCount p, dir := (s.port p).dir, skip := (s.port p).idxSkip }

/-- A LOAD takes the direction, and the next index is not compared. -/
def State.loadTaken (s : State) (p : Nat) (l : LoadUndo) : State :=
  s.setPort p { s.port p with dir := none, idxSkip := true, loadAt := some l }

theorem posLoad_counts (htrk : s.posTrk p = false) :
    s.posLoad p = (s.putCount p (clampI (s.posMin p) (s.posMax p) (toS 32 (s.rd (POS_PRESET_VALUE p))))).loadTaken p (s.loadMark p) := by
  unfold State.posLoad
  rw [htrk, if_neg (by decide)]
  rfl

theorem posLoad_left (htrk : s.posTrk p = false) :
    (s.posLoad p).rd (POS_COUNT_VALUE p) = ofS 32 (clampI (s.posMin p) (s.posMax p) (toS 32 (s.rd (POS_PRESET_VALUE p)))) ∧
    ((s.posLoad p).port p).dir = none := by
  rw [posLoad_counts htrk]
  refine ⟨?count, ?dir⟩
  case count =>
    exact (setPort_rd _ _ _ _).trans <| (limitEval_posStill.rd (portKept_field (by decide))).trans <|
      (rd_wr_self _ _ _).trans (Nat.mod_eq_of_lt (ofS_lt _))
  case dir => rw [State.loadTaken, setPort_port]

/-! ### A read of the SSI encoder (R141 to R144) -/

/-- A read in progress. -/
def State.ssiReading (s : State) (p : Nat) : State :=
  (s.setPort p { s.port p with ssi := some ⟨s.tb⟩ }).wr (POS_STAT_SSI_BUSY p) 1

/-- An idle port in SSI mode starts a read, or fails it where the data input is low (R142). -/
theorem ssiStart_idle {high : Bool} (hrun : s.running (0x10 + p) = true) (hmode : s.posMode p = 5)
    (hidle : s.on (POS_STAT_SSI_BUSY p) = false) (hclk : s.on TB_TB_STAT_LFMODE = false) :
    s.ssiStart p high = if high = true then s.ssiReading p else s.ssiFail p 1 := by
  unfold State.ssiStart
  rw [hrun, hmode, hidle, hclk, if_neg (by decide)]
  cases high
  · exact if_pos rfl
  · exact if_neg (by decide)

theorem ssiReading_left (s : State) (p : Nat) : (s.ssiReading p).rd (POS_STAT_SSI_BUSY p) = 1 ∧
    ((s.ssiReading p).port p).ssi = some ⟨s.tb⟩ ∧ ((s.ssiReading p).port p).ssiAt = (s.port p).ssiAt := by
  have hport : (s.ssiReading p).port p = { s.port p with ssi := some ⟨s.tb⟩ } := setPort_port _ _ _
  rw [hport]
  exact ⟨rd_wr_self _ (POS_STAT_SSI_BUSY p) 1, rfl, rfl⟩

/-- A read that fails for the data input, at its start or at its end, is counted and flagged (R142). -/
theorem ssiFail_left {cause : Nat} (hcause : cause = 1 ∨ cause = 2) :
    (s.ssiFail p cause).rd (POS_SSI_ERR_TIMEOUT p) = satN 8 (s.rd (POS_SSI_ERR_TIMEOUT p) + 1) ∧
    bit ((s.ssiFail p cause).rd (PG_IFLAG_FLAG (0x10 + p))) 6 = true ∧
    (s.ssiFail p cause).rd (POS_STAT_SSI_BUSY p) = s.rd (POS_STAT_SSI_BUSY p) ∧
    (s.ssiFail p cause).rd (POS_SSI_DATA_WORD p) = s.rd (POS_SSI_DATA_WORD p) ∧ (s.ssiFail p cause).port p = s.port p := by
  have hform : s.ssiFail p cause = ((s.inc (POS_SSI_ERR_TIMEOUT p)).iflag (0x10 + p) 6).raise (srcId 0 p 3) 0x14 cause := by
    obtain rfl | rfl := hcause <;> rfl
  have hkeep {f : Field} (hf : messageKept f.key) (hne : f.key ≠ (PG_IFLAG_FLAG (0x10 + p)).key) :
      (s.ssiFail p cause).rd f = (s.inc (POS_SSI_ERR_TIMEOUT p)).rd f := by
    rw [hform, flagRaised_rd _ _ _ _ hne hf]
  refine ⟨?count, ?flag, ?busy, ?word, ?port⟩
  case count => exact (hkeep (messageKept_field (by decide)) (field_ne (by decide))).trans (inc_rd _ _)
  case flag =>
    rw [hform]
    exact flagRaised_bit _ _ _ (by decide)
  case busy => exact (hkeep (messageKept_field (by decide)) (field_ne (by decide))).trans (inc_rd_ne (field_ne (by decide)))
  case word => exact (hkeep (messageKept_field (by decide)) (field_ne (by decide))).trans (inc_rd_ne (field_ne (by decide)))
  case port =>
    rw [hform, (raise_frame _ _ _ _).port]
    rfl

theorem ssiEnd_left (s : State) (p : Nat) : (s.ssiEnd p).rd (POS_STAT_SSI_BUSY p) = 0 ∧ ((s.ssiEnd p).port p).ssi = none := by
  have hport : (s.ssiEnd p).port p = { s.port p with ssi := none } := setPort_port _ _ _
  rw [hport]
  exact ⟨rd_wr_self _ (POS_STAT_SSI_BUSY p) 0, rfl⟩

theorem ssiEnd_rd_ne {f : Field} (h : f.key ≠ (POS_STAT_SSI_BUSY p).key) : (s.ssiEnd p).rd f = s.rd f := by
  rw [State.ssiEnd, rd_wr_ne _ _ _ _ h, setPort_rd]

theorem ssiTimeout_due {r : SsiRead} (hread : (s.port p).ssi = some r) (hdue : s.ssiUntil p r ≤ s.tb) :
    s.ssiTimeout p = (s.ssiEnd p).ssiFail p 2 := by
  unfold State.ssiTimeout
  rw [hread]
  exact if_neg (by omega)

/-- What a read that times out leaves (R142). -/
theorem ssiTimedOut_left (s : State) (p : Nat) :
    ((s.ssiEnd p).ssiFail p 2).rd (POS_STAT_SSI_BUSY p) = 0 ∧ (((s.ssiEnd p).ssiFail p 2).port p).ssi = none ∧
    ((s.ssiEnd p).ssiFail p 2).rd (POS_SSI_ERR_TIMEOUT p) = satN 8 (s.rd (POS_SSI_ERR_TIMEOUT p) + 1) ∧
    bit (((s.ssiEnd p).ssiFail p 2).rd (PG_IFLAG_FLAG (0x10 + p))) 6 = true ∧
    ((s.ssiEnd p).ssiFail p 2).rd (POS_SSI_DATA_WORD p) = s.rd (POS_SSI_DATA_WORD p) := by
  obtain ⟨hidle, hssi⟩ := ssiEnd_left s p
  obtain ⟨hcount, hflag, hbusy, hword, hport⟩ := ssiFail_left (s := s.ssiEnd p) (p := p) (.inr rfl)
  have herr : (s.ssiEnd p).rd (POS_SSI_ERR_TIMEOUT p) = s.rd (POS_SSI_ERR_TIMEOUT p) := ssiEnd_rd_ne (field_ne (by decide))
  rw [hport, hbusy, hcount, herr]
  exact ⟨hidle, hssi, rfl, hflag, hword.trans (ssiEnd_rd_ne (field_ne (by decide)))⟩

/-- A word read at `start`: DATA, COUNT within the limits, LAST_T, its flag and its pulse (R143). -/
def State.ssiTaken (s : State) (p w start : Nat) : State :=
  let s := s.wr (POS_SSI_DATA_WORD p) w
  (((s.putCount p (clampI (s.posMin p) (s.posMax p) (toS 32 w))).stampLastT p start).iflag (0x10 + p) 7).pulse (32 + p)

/-- A frame without CRC and Gray code, whose error bits are good (R142, R143). -/
theorem ssiFrame_good {bs : List Bool} {r : SsiRead} (hread : (s.port p).ssi = some r) (hfrom : s.ssiLast p r ≤ s.tb)
    (huntil : s.tb ≤ s.ssiUntil p r) (hlen : bs.length = s.ssiData p + s.ssiErrBits p) (hcrc : s.ssiCrcBits p = 0)
    (herr : ((bs.drop (s.ssiData p)).any (· == s.on (POS_SSI_CFG_ERR_LVL p))) = false) (hgray : s.on (POS_SSI_CFG_GRAY p) = false) :
    s.ssiFrame p bs = (s.ssiEnd p).ssiTaken p (ofBits (bs.take (s.ssiData p))) r.start := by
  have hwhole : (bs.drop (s.ssiData p)).take (s.ssiErrBits p) = bs.drop (s.ssiData p) :=
    List.take_of_length_le (by rw [List.length_drop]; omega)
  have hlvl : (s.ssiEnd p).on (POS_SSI_CFG_ERR_LVL p) = s.on (POS_SSI_CFG_ERR_LVL p) :=
    congrArg (· != 0) (ssiEnd_rd_ne (field_ne (by decide)))
  have hbin : (s.ssiEnd p).on (POS_SSI_CFG_GRAY p) = false :=
    (congrArg (· != 0) (ssiEnd_rd_ne (field_ne (by decide)))).trans hgray
  have htake : ¬ (bs.length ≠ s.ssiData p + s.ssiErrBits p + 0 ∨ s.tb < s.ssiLast p r ∨ s.ssiUntil p r < s.tb) := by omega
  unfold State.ssiFrame
  rw [hread]
  dsimp only
  rw [hcrc, if_neg htake, hwhole, hlvl, herr, hbin, if_neg Bool.false_ne_true, if_neg (by simp)]
  rfl

theorem ssiTaken_left (s : State) (p w start : Nat) :
    (s.ssiTaken p w start).rd (POS_STAT_SSI_BUSY p) = s.rd (POS_STAT_SSI_BUSY p) ∧
    (s.ssiTaken p w start).rd (POS_SSI_DATA_WORD p) = w % 2 ^ 32 ∧ ((s.ssiTaken p w start).port p).ssi = (s.port p).ssi ∧
    (s.ssiTaken p w start).rd (POS_LAST_T_LO_T p) = start % 2 ^ 32 ∧
    bit ((s.ssiTaken p w start).rd (PG_IFLAG_FLAG (0x10 + p))) 7 = true := by
  have hkeep {f : Field} (hf : portKept f.key) (hflag : f.key ≠ (PG_IFLAG_FLAG (0x10 + p)).key)
      (hlo : f.key ≠ (POS_LAST_T_LO_T p).key) (hhi : f.key ≠ (POS_LAST_T_HI_T p).key) (hcount : f.key ≠ (POS_COUNT_VALUE p).key) :
      (s.ssiTaken p w start).rd f = (s.wr (POS_SSI_DATA_WORD p) w).rd f := by
    rw [State.ssiTaken, pulse_rd, iflag_rd_ne _ _ hflag, stampLastT_rd_ne hlo hhi, putCount_rd_ne hf hcount]
  refine ⟨?busy, ?word, ?port, ?time, ?flag⟩
  case busy =>
    exact (hkeep (portKept_field (by decide)) (field_ne (by decide)) (field_ne (by decide)) (field_ne (by decide))
      (field_ne (by decide))).trans (rd_wr_ne _ _ _ _ (field_ne (by decide)))
  case word =>
    exact (hkeep (portKept_field (by decide)) (field_ne (by decide)) (field_ne (by decide)) (field_ne (by decide))
      (field_ne (by decide))).trans (rd_wr_self _ _ _)
  case port =>
    rw [State.ssiTaken, pulse_port, iflag_port, own_ssi (stampLastT_own start), own_ssi (putCount_own _), wr_port]
  case time => exact (pulse_rd _ _ _).trans <| (iflag_rd_ne _ _ (field_ne (by decide))).trans (stampLastT_rd _ _ _).1
  case flag =>
    rw [State.ssiTaken, pulse_rd]
    exact iflag_bit _ _ (by decide)

/-! ### SENT (R145 to R149) -/

/-- A good frame of the fast channel: its status, its data, LAST_T, its flag and its pulse (R149). -/
def State.sentTaken (s : State) (p status word start : Nat) : State :=
  (((((s.wr (POS_SENT_FAST_NEW p) 1).wr (POS_SENT_FAST_STATUS p) status).wr (POS_SENT_FAST_DATA p) word).stampLastT p start).iflag
    (0x10 + p) 9).pulse (32 + p)

theorem sentTaken_left (s : State) (p status word start : Nat) : (s.sentTaken p status word start).rd (POS_SENT_FAST_NEW p) = 1 ∧
    (s.sentTaken p status word start).rd (POS_SENT_FAST_STATUS p) = status % 16 ∧
    (s.sentTaken p status word start).rd (POS_SENT_FAST_DATA p) = word % 2 ^ 24 ∧
    bit ((s.sentTaken p status word start).rd (PG_IFLAG_FLAG (0x10 + p))) 9 = true := by
  unfold State.sentTaken
  simp only [pulse_rd]
  refine ⟨?new, ?status, ?data, iflag_bit _ _ (by decide)⟩
  case new =>
    exact (iflag_rd_ne _ _ (field_ne (by decide))).trans <| (stampLastT_rd_ne (field_ne (by decide)) (field_ne (by decide))).trans <|
      (rd_wr_ne _ _ _ _ (field_ne (by decide))).trans <| (rd_wr_ne _ _ _ _ (field_ne (by decide))).trans (rd_wr_self _ (POS_SENT_FAST_NEW p) 1)
  case status =>
    exact (iflag_rd_ne _ _ (field_ne (by decide))).trans <| (stampLastT_rd_ne (field_ne (by decide)) (field_ne (by decide))).trans <|
      (rd_wr_ne _ _ _ _ (field_ne (by decide))).trans (rd_wr_self _ _ _)
  case data =>
    exact (iflag_rd_ne _ _ (field_ne (by decide))).trans <| (stampLastT_rd_ne (field_ne (by decide)) (field_ne (by decide))).trans
      (rd_wr_self _ _ _)

/-- Without SER_EN no serial message is gathered (R148). -/
theorem sentTaken_noSerial {status word start : Nat} (hser : s.on (POS_SENT_CFG_SER_EN p) = false) :
    (s.sentTaken p status word start).sentSerial p status = s.sentTaken p status word start := by
  have hkeep : (s.sentTaken p status word start).rd (POS_SENT_CFG_SER_EN p) = s.rd (POS_SENT_CFG_SER_EN p) :=
    (iflag_rd_ne _ _ (field_ne (by decide))).trans <| (stampLastT_rd_ne (field_ne (by decide)) (field_ne (by decide))).trans <|
      (rd_wr_ne _ _ _ _ (field_ne (by decide))).trans <| (rd_wr_ne _ _ _ _ (field_ne (by decide))).trans (rd_wr_ne _ _ _ _ (field_ne (by decide)))
  have hoff : (s.sentTaken p status word start).on (POS_SENT_CFG_SER_EN p) = false := (congrArg (· != 0) hkeep).trans hser
  rw [State.sentSerial, hoff]
  rfl

/-- The last sync pulse, kept for the comparison with the next (R146). -/
def State.syncKept (s : State) (p sync : Nat) : State := s.setPort p { s.port p with sync := some sync }

/-- A first frame of six data nibbles, with the nominal sync pulse, no pause pulse and its right CRC (R146, R147). -/
theorem sentFrame_good {sync : Nat} {nibs : List Nat} (hrun : s.running (0x10 + p) = true) (hmode : s.posMode p = 6)
    (hsync : sync = 2240 * s.rd (POS_SENT_CFG_TICK p)) (hfirst : (s.port p).sync = none)
    (hsix : s.rd (POS_SENT_CFG_NIBBLES p) = 6) (hpause : s.on (POS_SENT_CFG_PAUSE p) = false)
    (hser : s.on (POS_SENT_CFG_SER_EN p) = false) (hlen : nibs.length = 8) (hnibs : nibs.any (nibbleBad sync) = false)
    (hcrc : (nibs.map (nibbleOf sync)).getLastD 0 =
      sentCrc (s.on (POS_SENT_CFG_CRC_LEGACY p)) (((nibs.map (nibbleOf sync)).drop 1).take 6)) :
    s.sentFrame p sync nibs none false = (s.syncKept p sync).sentTaken p ((nibs.map (nibbleOf sync)).headD 0)
      ((((nibs.map (nibbleOf sync)).drop 1).take 6).foldl (fun x n => 16 * x + n) 0) (s.tb - (sync + nibs.sum)) := by
  have hon : ¬ (!(s.running (0x10 + p) && s.posMode p == 6)) = true := by rw [hrun, hmode]; decide
  have hnom : ¬ 56 * 40 * s.rd (POS_SENT_CFG_TICK p) * (10 + 5 * s.rd (POS_SENT_CFG_TICK_TOL p)) <
      (sync - 56 * 40 * s.rd (POS_SENT_CFG_TICK p) + (56 * 40 * s.rd (POS_SENT_CFG_TICK p) - sync)) * 100 := by
    rw [hsync]
    simp
  have hpulses : ¬ (nibs.length ≠ 6 + 2 ∨ nibs.any (nibbleBad sync) = true) := by simp [hlen, hnibs]
  have hpad (l : List Nat) : l ++ List.replicate (6 - 6) 0 = l := List.append_nil l
  rw [← sentTaken_noSerial (s := s.syncKept p sync) hser]
  unfold State.sentFrame
  rw [if_neg hon]
  extract_lets nominal tol dist x kept jumped want pz pauseBad vs status data word start
  have hjumped : ¬ jumped = true := by
    unfold jumped x
    rw [hfirst]
    exact Bool.false_ne_true
  have hwant : want = 6 := by
    have hkept : kept.rd (POS_SENT_CFG_NIBBLES p) = 6 := (setPort_rd _ _ _ _).trans hsix
    unfold want
    rw [hkept]
    rfl
  have hpz : pz = false := hpause
  have hnoPause : ¬ (!pz && (false || (none : Option Nat).isSome) || pauseBad) = true := by
    have hbad : pauseBad = false := hpause
    rw [hpz, hbad]
    decide
  have hdata : data = (vs.drop 1).take 6 := by unfold data; rw [hwant]
  have hcheck : ¬ vs.getLastD 0 ≠ sentCrc (kept.on (POS_SENT_CFG_CRC_LEGACY p)) data := by
    rw [hdata]
    exact not_not_intro hcrc
  have hword : word = ((vs.drop 1).take 6).foldl (fun x n => 16 * x + n) 0 := by
    unfold word
    rw [hdata, hwant, hpad]
  rw [← hwant] at hpulses
  rw [if_neg hnom, if_neg hjumped, if_neg hpulses, if_neg hnoPause, if_neg hcheck, ← hword]
  rfl

/-- A sync pulse too long for the nominal one is counted, with its flag and its message (R146). -/
theorem sentFrame_badSync {sync : Nat} {nibs : List Nat} {q : Option Nat} {e : Bool} (hrun : s.running (0x10 + p) = true)
    (hmode : s.posMode p = 6) (hlong : 2240 * s.rd (POS_SENT_CFG_TICK p) * (10 + 5 * s.rd (POS_SENT_CFG_TICK_TOL p)) <
      (sync - 2240 * s.rd (POS_SENT_CFG_TICK p)) * 100) : s.sentFrame p sync nibs q e = s.sentFail p 1 := by
  have hon : ¬ (!(s.running (0x10 + p) && s.posMode p == 6)) = true := by rw [hrun, hmode]; decide
  unfold State.sentFrame
  rw [if_neg hon]
  exact if_pos (hlong.trans_le (Nat.mul_le_mul_right _ (Nat.le_add_right _ _)))

/-- The serial message in progress is aborted (R148). -/
def State.serialDropped (s : State) (p : Nat) : State := s.setPort p { s.port p with ser := [] }

theorem sentFail_sync_left (s : State) (p : Nat) :
    (s.sentFail p 1).rd (POS_SENT_ERR_SYNC p) = satN 8 (s.rd (POS_SENT_ERR_SYNC p) + 1) ∧
    bit ((s.sentFail p 1).rd (PG_IFLAG_FLAG (0x10 + p))) 8 = true ∧
    (s.sentFail p 1).rd (POS_SENT_FAST_DATA p) = s.rd (POS_SENT_FAST_DATA p) := by
  have hform : s.sentFail p 1 = (((s.inc (POS_SENT_ERR_SYNC p)).serialDropped p).iflag (0x10 + p) 8).raise (srcId 0 p 3) 0x15 1 := rfl
  rw [hform]
  refine ⟨?count, flagRaised_bit _ _ _ (by decide), ?data⟩
  case count =>
    exact (flagRaised_rd _ _ _ _ (field_ne (by decide)) (messageKept_field (by decide))).trans <| (setPort_rd _ _ _ _).trans (inc_rd _ _)
  case data =>
    exact (flagRaised_rd _ _ _ _ (field_ne (by decide)) (messageKept_field (by decide))).trans <|
      (setPort_rd _ _ _ _).trans (inc_rd_ne (field_ne (by decide)))

end

/-! ### The commands -/

/-- A command that writes bits of a port's registers is counted, and acts. -/
theorem act_portCommand {s a : State} {t m v mk : Nat} {p : PosPort} {o : Nat} {f : State → State} (ha : a = s.advance t)
    (hcore : State.core 0 a = true) (ho : o < 4096) (h : a.mayWrite m (0x10 + p) o v mk = true) :
    (s.act t (State.core 0) fun s => s.guardedMask m (0x10 + p) o v mk f) = .next (a.keep (f (a.counted m (0x10 + p)))) := by
  have hp := p.isLt
  rw [act_at ha hcore, State.guardedMask, guardedTo_may (by omega) ho h, charged_eq_counted (.inl (by omega)) ho]

theorem exec_ssiTrig_idle {s a : State} {t : Nat} {m : Master} {p : PosPort} {high : Bool} (ha : a = s.advance t)
    (hcore : State.core 0 a = true) (hw : a.mayWrite m (0x10 + p) 0x48 2 2 = true) (hrun : a.running (0x10 + p) = true)
    (hmode : a.posMode p = 5) (hidle : a.on (POS_STAT_SSI_BUSY p) = false) (hclk : a.on TB_TB_STAT_LFMODE = false) :
    exec (.ssiTrig t m p high) s = .next (a.keep
      (if high = true then (a.counted m (0x10 + p)).ssiReading p else (a.counted m (0x10 + p)).ssiFail p 1)) :=
  (act_portCommand (o := 0x48) ha hcore (by decide) hw).trans
    (by rw [ssiStart_idle (s := a.counted m (0x10 + p)) hrun hmode hidle hclk])

/-- The start of a read at the end of its period (R141). -/
theorem exec_ssiPeriodStart_due {s a : State} {t : Nat} {p : PosPort} (ha : a = s.advance t) (htbd : State.tbd 0 a = true)
    (hrun : a.running (0x10 + p) = true) (hmode : a.posMode p = 5) (hidle : a.on (POS_STAT_SSI_BUSY p) = false)
    (hclk : a.on TB_TB_STAT_LFMODE = false) (hn : 0 < a.rd (POS_SSI_TIM_PERIOD p))
    (hdue : (a.port p).ssiAt + 400 * a.rd (POS_SSI_TIM_PERIOD p) ≤ a.tb) :
    exec (.ssiPeriodStart t p false true) s = .next (a.keep ((a.setPort p { a.port p with ssiAt := a.tb }).ssiReading p)) := by
  have hpast : ¬ (a.rd (POS_SSI_TIM_PERIOD p) = 0 ∨ a.tb < (a.port p).ssiAt + 400 * a.rd (POS_SSI_TIM_PERIOD p)) := by omega
  have hstart : a.ssiPeriod p true = (a.setPort p { a.port p with ssiAt := a.tb }).ssiReading p :=
    (if_neg hpast).trans (ssiStart_idle (s := a.setPort p { a.port p with ssiAt := a.tb }) (high := true) hrun hmode hidle hclk)
  rw [exec_ssiPeriodStart, execSsiPeriodStart, act_at ha htbd, ← hstart]
  rfl

/-- Settles O12: each command acts on its port at the instant `a`. -/
theorem positionPortWords : Obligations.PositionPortWords := by
  intro s a t p ha hcore htb
  have htbd : State.tbd 0 a = true := by
    obtain ⟨-, hdom⟩ := Bool.and_eq_true_iff.1 hcore
    exact Bool.and_eq_true_iff.2 ⟨htb, hdom⟩
  refine ⟨fun m hw hoff hlim => ?start, fun m hw hoff hlim => ?refused, fun m hw htrk => ?load,
    fun m hw hrun hmode hidle hclk => ?trig, fun m hw hrun hmode hidle hclk => ?trigReads,
    fun m hw hrun hmode hidle hclk => ?trigFails, fun hrun hmode hidle hclk hn hdue => ?period,
    fun bs r hread hfrom huntil hlen hcrc herr hgray => ?word, fun r hread hdue => ?timeout, fun r hread hdue => ?timeoutLeft,
    fun sync nibs hrun hmode hsync hpos hfirst hsix hpause hser hlen hnibs hcrc => ?frame,
    fun sync nibs q e hrun hmode hlong => ?badSync⟩
  case start =>
    obtain ⟨lvl, lo, hi, hform⟩ := posEnable_starts (s := a.counted m (0x10 + p)) hoff hlim
    refine ⟨_, act_portCommand ha hcore (by decide) hw, ?_⟩
    simp only [keep_rd, keep_port]
    exact started_left (s := a.counted m (0x10 + p)) lvl lo hi hform
  case refused =>
    exact (act_portCommand ha hcore (by decide) hw).trans (by rw [posEnable_refuses (s := a.counted m (0x10 + p)) hoff hlim])
  case load =>
    refine ⟨_, act_portCommand (o := 0x48) ha hcore (by decide) hw, ?_⟩
    simp only [keep_rd, keep_port]
    exact posLoad_left (s := a.counted m (0x10 + p)) htrk
  case trig => exact ⟨exec_ssiTrig_idle ha hcore hw hrun hmode hidle hclk, exec_ssiTrig_idle ha hcore hw hrun hmode hidle hclk⟩
  case trigReads =>
    obtain ⟨hbusy, hssi, -⟩ := ssiReading_left (a.counted m (0x10 + p)) p
    exact ⟨_, exec_ssiTrig_idle ha hcore hw hrun hmode hidle hclk, hbusy, hssi⟩
  case trigFails =>
    obtain ⟨hcount, hflag, hbusy, -⟩ := ssiFail_left (s := a.counted m (0x10 + p)) (p := p) (.inl rfl)
    exact ⟨_, exec_ssiTrig_idle ha hcore hw hrun hmode hidle hclk, hbusy.trans (rd_of_on_false hidle), hcount, hflag⟩
  case period =>
    obtain ⟨hbusy, hssi, hat⟩ := ssiReading_left (a.setPort p { a.port p with ssiAt := a.tb }) p
    refine ⟨_, exec_ssiPeriodStart_due ha htbd hrun hmode hidle hclk hn hdue, hbusy, hssi, hat.trans ?_⟩
    rw [setPort_port]
  case word =>
    obtain ⟨hidle, hssi⟩ := ssiEnd_left a p
    obtain ⟨hbusy, hword, hport, htime, hflag⟩ := ssiTaken_left (a.ssiEnd p) p (ofBits (bs.take (a.ssiData p))) r.start
    refine ⟨_, (exec_ssiWord t p bs s).trans (act_at ha htbd), ?_⟩
    simp only [keep_rd, keep_port]
    rw [ssiFrame_good hread hfrom huntil hlen hcrc herr hgray]
    exact ⟨hbusy.trans hidle, hword, hport.trans hssi, htime, hflag⟩
  case timeout =>
    rw [exec_ssiTimeout, execSsiTimeout, act_at ha htbd, ssiTimeout_due hread hdue]
  case timeoutLeft =>
    refine ⟨_, (exec_ssiTimeout t p s).trans (act_at ha htbd), ?_⟩
    simp only [keep_rd, keep_port]
    rw [ssiTimeout_due hread hdue]
    exact ssiTimedOut_left a p
  case frame =>
    refine ⟨_, (exec_sentFrame t p sync nibs none false s).trans (act_at ha htbd), ?_⟩
    simp only [keep_rd]
    rw [sentFrame_good hrun hmode hsync hfirst hsix hpause hser hlen hnibs hcrc]
    exact sentTaken_left _ p _ _ _
  case badSync =>
    refine ⟨_, (exec_sentFrame t p sync nibs q e s).trans (act_at ha htbd), ?_⟩
    simp only [keep_rd]
    rw [sentFrame_badSync hrun hmode hlong]
    exact sentFail_sync_left a p

end Sys2Proof.Machine
end


section
/-! What the rest of the device leaves of the tracker: channels, banks, converters, cylinder contexts, the event pipeline and messages
change neither the tracker's own record, nor the edges that wait for it, nor a register of its page apart from PG_FAULT. -/

namespace Sys2Proof.Machine

open Reg

/-! ### The tracker's page and its record -/

/-- Keys of the tracker's page apart from PG_FAULT, which messages write. -/
def trkPage (k : Nat) : Prop := k / 131072 = 0x18 ∧ k / 32 % 4096 ≠ 0x1C

/-- A field of another page. -/
theorem not_trkPage {f : Field} (h : f.key / 131072 ≠ 0x18) : ¬ trkPage f.key := fun hk => h hk.1

/-- A field of an indexed page past the tracker's. -/
theorem not_trkPage_past {f : Field} {b n : Nat} (hf : f.page = b + n) (hb : 0x19 ≤ b) : ¬ trkPage f.key := by
  refine not_trkPage ?_
  unfold Field.key
  omega

theorem not_trkPage_iflag {q : Nat} (h : 0x19 ≤ q) : ¬ trkPage (PG_IFLAG_FLAG q).key :=
  not_trkPage_past (b := q) (n := 0) rfl h

theorem trkPage_noFault : NoFault trkPage := ⟨fun _ h => h.2, not_trkPage (by decide)⟩

theorem trkPage_noEvt : NoEvt trkPage := by
  intro k hk
  unfold trkPage at hk
  omega

/-- What the tracker holds of its own, the edges that wait for it, and the output that a follower takes from its master. -/
def State.tracker (s : State) : TrkS × List (Nat × Nat) × Option AngOut := (s.trk, s.trkIn, s.follow)

/-- A step outside the tracker: its page, apart from PG_FAULT, and what it holds stand. -/
structure Outside (s s' : State) : Prop where
  still : Still trkPage s s'
  own : s'.tracker = s.tracker

section

variable {s a b c : State} {p k x e t n : Nat}

theorem Outside.trk (h : Outside a b) : b.trk = a.trk := (congrArg Prod.fst h.own :)
theorem Outside.trkIn (h : Outside a b) : b.trkIn = a.trkIn := (congrArg (·.2.1) h.own :)
theorem Outside.follow (h : Outside a b) : b.follow = a.follow := (congrArg (·.2.2) h.own :)

theorem Outside.same (hr : b.regs = a.regs) (ht : b.tb = a.tb) (hp : b.pwr = a.pwr) (hg : b.gel = a.gel)
    (ho : b.tracker = a.tracker) : Outside a b := ⟨.same hr ht hp hg, ho⟩

theorem Outside.refl (s : State) : Outside s s := ⟨.refl s, rfl⟩

theorem Outside.after (k : Outside b c) (h : Outside a b) : Outside a c := ⟨k.still.after h.still, k.own.trans h.own⟩

theorem Outside.ite {q : Prop} [Decidable q] (h : Outside a b) (k : Outside a c) : Outside a (if q then b else c) := by
  split
  · exact h
  · exact k

theorem Outside.foldl {α : Type} {l : List α} {f : State → α → State} (h : ∀ s x, Outside s (f s x)) (s : State) :
    Outside s (l.foldl f s) :=
  List.foldlRecOn (motive := fun r => Outside s r) l f (.refl s) fun r hr x _ => (h r x).after hr

theorem wr_outside {f : Field} (v : Nat) (h : ¬ trkPage f.key) : Outside s (s.wr f v) := ⟨wr_still v h, rfl⟩

/-- A write of an indexed page past the tracker's. -/
theorem wr_outside_past {f : Field} {b : Nat} (v : Nat) (hf : f.page = b + n) (hb : 0x19 ≤ b) : Outside s (s.wr f v) :=
  wr_outside v (not_trkPage_past hf hb)

theorem iflag_outside {q : Nat} (i : Nat) (h : 0x19 ≤ q) : Outside s (s.iflag q i) := ⟨iflag_still i (not_trkPage_iflag h), rfl⟩

theorem FltFrame.tracker (h : FltFrame a b) : b.tracker = a.tracker := by rw [h]; rfl

theorem raise_outside (src kind detail : Nat) : Outside s (s.raise src kind detail) :=
  ⟨raise_still trkPage_noFault _ _ _, (raise_frame s src kind detail).tracker⟩

/-- What a unit past the tracker counts, flags and reports. -/
theorem report_outside {f : Field} {q : Nat} (i src kind detail : Nat) (hf : ¬ trkPage f.key) (hq : 0x19 ≤ q) :
    Outside s (((s.inc f).iflag q i).raise src kind detail) :=
  (raise_outside _ _ _).after <| (iflag_outside i hq).after (wr_outside _ hf)

/-! ### Channels (R229 to R234) -/

theorem sepia_outside : Outside s (s.sepia p n) := by
  unfold State.sepia
  exact .ite (.refl s) (.same rfl rfl rfl rfl rfl)

theorem chans_outside (u : State) (t : Tab Chan) : Outside u { u with chans := t } := .same rfl rfl rfl rfl rfl

theorem setChan_outside (y : Chan) : Outside s (s.setChan p y) := (chans_outside _ _).after sepia_outside

theorem pulse_outside (n : Nat) : Outside s (s.pulse n) := .same rfl rfl rfl rfl rfl

theorem chevOf_outside (k : Nat) : Outside s (s.chevOf p k) := by
  unfold State.chevOf
  split
  · exact .foldl (fun _ _ => .ite (pulse_outside _) (.refl _)) s
  · exact .refl s

theorem follow_outside (s0 : State) : Outside s (s.follow_ s0) := .ite (.refl s) (.same rfl rfl rfl rfl rfl)

theorem latchRiseOf_outside : Outside s (s.latchRiseOf p) := by
  have hput (u : State) (n : Nat) (b : Bool) : Outside u (u.putLatch n b) := by
    refine wr_outside _ ?_
    unfold latchField
    split <;> exact not_trkPage (by decide)
  unfold State.latchRiseOf
  split
  · exact .foldl (fun _ _ => .ite (hput _ _ _) (.refl _)) s
  · exact .refl s

theorem softOff_outside (s0 : State) : Outside s (s.softOff s0 p) := by
  have hcount (u : State) : Outside u ((u.inc OUT_SOFT_CNT_COUNT).iflag 0x38 4) :=
    (iflag_outside 4 (by decide)).after (wr_outside _ (not_trkPage (by decide)))
  unfold State.softOff
  split
  · exact .refl s
  · exact .ite (.refl s) ((hcount _).after (.same rfl rfl rfl rfl rfl))

theorem softRise_outside : Outside s (s.softRise p) := .same rfl rfl rfl rfl rfl

theorem chEdge_outside (s0 : State) (up was soft : Bool) : Outside s (s.chEdge s0 p up was soft) :=
  .ite (latchRiseOf_outside.after <| softRise_outside.after (chevOf_outside 10))
    (.ite (.ite ((softOff_outside s0).after (chevOf_outside 11)) (chevOf_outside 11)) (.refl s))

theorem chLevels_outside (env car : Bool) : Outside s (s.chLevels p env car) :=
  .ite ((setChan_outside _).after (setChan_outside _)) (setChan_outside _)

theorem chSet_outside (env car soft : Bool) : Outside s (s.chSet p env car soft) := by
  rw [chSet_eq]
  exact (follow_outside _).after <| (chEdge_outside _ _ _ _).after (chLevels_outside _ _)

theorem svc_outside : Outside s (s.svc p) := by
  have hset (g : Nat) (y : GelS) : (s.setEng g y).tracker = s.tracker := rfl
  refine ⟨svc_still p, ?_⟩
  unfold State.svc
  split
  · rfl
  · dsimp only
    split
    · split
      · rfl
      · exact hset _ _
    · exact hset _ _

/-- A write of a tile's page. -/
theorem wrTile_outside {f : Field} (v : Nat) (hf : f.page = 0x20 + p / 24) : Outside s (s.wr f v) :=
  wr_outside_past v hf (by decide)

theorem chEvent_outside : Outside s (s.chEvent p k) := by
  have herr {f : Field} (hf : f.page = 0x20 + p / 24) : Outside s (s.chErr p f) :=
    (iflag_outside _ (by omega)).after (wrTile_outside (p := p) _ hf)
  by_cases hd : s.dead p = true
  · rw [State.chEvent, if_pos hd]
    exact .refl s
  by_cases hn : s.evCount p k < 3
  · rw [chEvent_counted (by simpa using hd) hn]
    exact svc_outside.after <| (chevOf_outside _).after <| (wrTile_outside (p := p) _ rfl).after sepia_outside
  · rw [State.chEvent, if_neg hd, if_neg hn]
    exact .ite ((raise_outside _ _ _).after (herr rfl)) (.ite (wrTile_outside (p := p) _ rfl) (.refl s))

theorem release_outside : Outside s (s.release p) := .ite (.refl s) (setChan_outside _)

/-! ### Banks (R274 to R279) -/

theorem retarget_outside (old : Option (Nat × Nat)) : Outside s (s.retarget k old) := by
  have hset (u : State) (q : Prop) [Decidable q] (n : Nat) (y : CmpS) : Outside u (if q then u.setCmp n y else u) :=
    .ite (.same rfl rfl rfl rfl rfl) (.refl u)
  unfold State.retarget
  split
  · exact .refl s
  · exact (hset _ _ _ _).after (hset _ _ _ _)

theorem quench_outside (i : Nat) : Outside s (s.quench k i) := by
  have hslot (u : State) (y : SlotS) : Outside u (u.setSlot k i y) := .same rfl rfl rfl rfl rfl
  exact .ite ((follow_outside _).after <| (retarget_outside _).after <| (wr_outside_past (b := 0x40) _ rfl (by decide)).after (hslot _ _))
    (.refl s)

theorem quenchAll_outside : Outside s s.quenchAll :=
  .foldl (fun _ _ => (quench_outside 1).after (quench_outside 0)) s

theorem quenchChannel_outside : Outside s (s.quenchChannel n) :=
  .foldl (fun _ _ => .ite (quench_outside _) (.refl _)) s

theorem slotWindows_outside : Outside s s.slotWindows :=
  .foldl (fun _ _ => .ite ((report_outside _ _ _ _ (not_trkPage_past rfl (by decide)) (by omega)).after (quench_outside _)) (.refl _)) s

/-! ### Occurrences (R203 to R206, R218, R236) -/

theorem evt_outside (u : State) (y : EvtS) : Outside u { u with evt := y } := .same rfl rfl rfl rfl rfl

theorem entry3_outside (i : Nat) (f : Nat → Nat) : Outside s (s.entry3 i f) := .same rfl rfl rfl rfl rfl

theorem withdraw_outside (o : Occ) : Outside s (s.withdraw o) := by
  have hunload : Outside s (s.unload o) := by
    unfold State.unload
    split
    · exact .ite release_outside (.refl s)
    · exact .refl s
  have hend (u : State) : Outside u (u.occEnd o false) := .same rfl rfl rfl rfl rfl
  exact (iflag_outside 3 (by decide)).after <| (wr_outside _ (not_trkPage (by decide))).after <|
    (entry3_outside _ _).after <| (hend _).after hunload

theorem evtLoad_outside : Outside s (s.evtLoad p) := by
  have hset (u : State) (o : Occ) : Outside u (u.setOcc o) := .same rfl rfl rfl rfl rfl
  suffices h : ∀ (k : Nat) (u : State), Outside u (u.evtLoadN k p) from h 5 s
  intro k
  induction k with
  | zero => exact .refl
  | succ k ih =>
    intro u
    unfold State.evtLoadN
    refine .ite (.refl u) ?_
    split
    · exact .refl u
    split
    · exact .refl u
    refine .ite ((ih _).after (withdraw_outside _)) ?_
    split
    · exact .ite ((hset _ _).after (setChan_outside _)) (setChan_outside _)
    · exact setChan_outside _

theorem safeEnd_outside : Outside s (s.safeEnd p) := by
  have hquench (u : State) : Outside u (match u.logOf p with | some n => u.quenchChannel n | none => u) := by
    split
    · exact quenchChannel_outside
    · exact .refl u
  exact evtLoad_outside.after <| chEvent_outside.after <| (hquench _).after <| (setChan_outside _).after <|
    release_outside.after (chSet_outside _ _ _)

theorem pipeAct_outside (act : Nat) (soft : Bool) : Outside s (s.pipeAct p act soft) := by
  have hhold (u : State) : Outside u (u.holdChan p) := by
    unfold State.holdChan
    split
    · exact .same rfl rfl rfl rfl rfl
    · exact .refl u
  have hunsafe : Outside s (s.unsafe_ p act) := .ite (.refl s) ((hhold _).after (setChan_outside _))
  exact (chSet_outside _ _ _).after hunsafe

theorem syncEnd_outside : Outside s s.syncEnd := .foldl (fun _ _ => .ite safeEnd_outside (.refl _)) s

/-! ### Converters and cylinder contexts (R297, R331, R346) -/

/-- A write of a converter's page. -/
theorem wrConv_outside {f : Field} (v : Nat) (hf : f.page = 0x60 + x) : Outside s (s.wr f v) := wr_outside_past v hf (by decide)

theorem setCv_outside (y : ConvS) : Outside s (s.setCv x y) := .same rfl rfl rfl rfl rfl

theorem loadEntry_outside : Outside s (s.loadEntry x e) := (wrConv_outside _ rfl).after (setCv_outside _)

theorem openWin_outside (late long : Bool) : Outside s (s.openWin x t late long) :=
  (wrConv_outside _ rfl).after <| (wrConv_outside _ rfl).after (setCv_outside _)

theorem startEntry_outside (bnd late : Bool) : Outside s (s.startEntry x e t bnd late) :=
  .ite ((wrConv_outside _ rfl).after loadEntry_outside) ((openWin_outside _ _).after loadEntry_outside)

theorem toIdle_outside : Outside s (s.toIdle x t) := by
  have hidle (y : ConvS) : Outside s ((s.setCv x y).wr (CBC_CONV_STAT_STATE x) 1) := (wrConv_outside _ rfl).after (setCv_outside _)
  exact .ite ((startEntry_outside _ _).after (hidle _))
    (.ite ((startEntry_outside _ _).after <| (wrConv_outside _ rfl).after (hidle _)) (hidle _))

theorem cvAbort_outside (cause : Nat) : Outside s (s.cvAbort x cause) := by
  have hclose (u : State) (t c b : Nat) (late : Bool) : Outside u (u.closeWin x t c b late) := by
    unfold State.closeWin
    dsimp only
    split
    · exact .refl u
    · exact setCv_outside _
  exact .ite (toIdle_outside.after <| (setCv_outside _).after (hclose _ _ _ _ _)) (.refl s)

theorem cvSyncLoss_outside : Outside s s.cvSyncLoss := by
  have htap (u : State) (x cause : Nat) : Outside u (u.tapEnd x cause) := by
    unfold State.tapEnd
    dsimp only
    split
    · exact setCv_outside _
    · exact .refl u
  exact .foldl (fun _ _ => .ite ((cvAbort_outside _).after (htap _ _ _)) (htap _ _ _)) s

/-- A write of a cylinder context's page. -/
theorem wrCyl_outside {f : Field} (v : Nat) (hf : f.page = 0x90 + k) : Outside s (s.wr f v) := wr_outside_past v hf (by decide)

theorem modCyl_outside (f : CylS → CylS) : Outside s (s.modCyl k f) := .same rfl rfl rfl rfl rfl

theorem trimDrop_outside (tm : Bool) : Outside s (s.trimDrop k tm) := by
  unfold State.trimDrop
  split
  · exact .refl s
  · dsimp only
    split
    · exact (wrCyl_outside _ rfl).after <| (modCyl_outside _).after (chans_outside _ _)
    · exact (wrCyl_outside _ rfl).after (modCyl_outside _)

theorem trimUndo_outside (tm : Bool) : Outside s (s.trimUndo k tm) := by
  have hi (u : State) (v : Nat) : Outside u (u.wr (loopI tm k) v) := by cases tm <;> exact wrCyl_outside v rfl
  have hout (u : State) (v : Nat) : Outside u (u.wr (loopOut tm k) v) := by cases tm <;> exact wrCyl_outside v rfl
  unfold State.trimUndo
  split
  · exact .refl s
  · exact (hout _ _).after <| (hi _ _).after (trimDrop_outside tm)

theorem cmuLeave_outside : Outside s s.cmuLeave :=
  .foldl (fun _ _ => (trimUndo_outside _).after <| (trimUndo_outside _).after (modCyl_outside _)) s

/-! ### The pipeline and the banks lose the angle (R161, R218, R231, R279) -/

theorem evtEmpty_outside (loss : Bool) : Outside s (s.evtEmpty loss) := by
  refine Outside.after (Outside.foldl (fun u p => ?_) _) (Outside.foldl (fun _ o => withdraw_outside o) s)
  split
  · exact safeEnd_outside
  · exact safeEnd_outside
  · exact (pipeAct_outside _ _).after release_outside
  · exact .ite safeEnd_outside (.refl u)

theorem putEntry_outside (i : Nat) (y : Entry4) : Outside s (s.putEntry i y) := by
  have hmem (m : List Host.Cell) : Outside s { s with mem := m } := .same rfl rfl rfl rfl rfl
  unfold State.putEntry
  exact hmem _

theorem evtTake_outside (i : Nat) (y : Entry4) : Outside s (s.evtTake i y) := (putEntry_outside i y).after (evt_outside s _)

theorem evtSettle_outside : Outside s s.evtSettle := by
  have htake {α : Type} (u : State) (l : List α) (i : α → Nat) (y : α → Entry4) :
      Outside u (l.foldl (fun s x => s.evtTake (i x) (y x)) u) := .foldl (fun _ _ => evtTake_outside _ _) u
  exact (htake _ _ _ _).after <| (evt_outside _ _).after (htake s _ _ _)

/-- A write of the pipeline's page. -/
theorem wrEvt_outside {f : Field} (v : Nat) (h : f.key / 131072 = 0x19) : Outside s (s.wr f v) := wr_outside v (trkPage_noEvt.not h)

theorem evtLoss_outside : Outside s s.evtLoss :=
  .ite (evtSettle_outside.after <| (wrEvt_outside _ (by decide)).after <| (iflag_outside 8 (by decide)).after <|
    (wrEvt_outside _ (by decide)).after <| cmuLeave_outside.after <| cvSyncLoss_outside.after (evtEmpty_outside _)) (.refl s)

theorem angLost_outside : Outside s s.angLost :=
  quenchAll_outside.after <| syncEnd_outside.after <| evtLoss_outside.after (pulse_outside 15)

/-! ### The angle in use moves (R196, R201, R202, R278) -/

theorem evtWrap_outside : Outside s s.evtWrap := by
  have hcyc (u : State) (v : Nat) : Outside u ((u.hwPut EVT_CYC_CNT_COUNT v).pulse 12) :=
    (pulse_outside 12).after (.ite (.refl u) (wrEvt_outside v (by decide)))
  have hlag (u : State) : Outside u ((List.range 8).foldl (fun s b => s.wr (EVT_BANK_STAT_MAX_DELAY b) (satN 8 (tget 0 s.evt.lag b))) u) :=
    .foldl (fun _ _ => wr_outside_past (b := 0x19) (n := 0) _ rfl (by decide)) u
  have htake {α : Type} (u : State) (l : List α) (i : α → Nat) (y : α → Entry4) :
      Outside u (l.foldl (fun s x => s.evtTake (i x) (y x)) u) := .foldl (fun _ _ => evtTake_outside _ _) u
  have hflag (u : State) (q : Prop) [Decidable q] : Outside u (if q then u else u.iflag 0x19 7) :=
    .ite (.refl u) (iflag_outside 7 (by decide))
  unfold State.evtWrap
  exact (hflag _ _).after <| (htake _ _ _ _).after <| (evt_outside _ _).after <| (htake _ _ _ _).after <| (evt_outside _ _).after <|
    (hlag _).after <| Outside.after (.ite (hcyc _ _) (.refl _)) (evt_outside s _)

theorem evtEcc_outside (i : Nat) (y : Nat × Bool) : Outside s (s.evtEcc i n y) := by
  have hmsg (m : Msg) (l : List Nat) : Outside s ((l.foldl (fun s p => s.pgFault p m) s).raiseMsg m false) :=
    ⟨faultMsg_still trkPage_noFault _ _, ((FltFrame.foldl (fun s p => pgFault_frame s p m) l s).trans (raiseMsg_frame _ _ _)).tracker⟩
  unfold State.evtEcc
  exact .ite ((report_outside 6 _ _ _ (not_trkPage (by decide)) (by decide)).after <| (entry3_outside _ _).after (evt_outside s _))
    (hmsg _ _)

theorem newOcc_outside (i : Nat) (y : Entry4) : Outside s (s.newOcc i n y).2 := by
  unfold State.newOcc
  dsimp only
  split
  · split
    · exact .refl s
    · exact report_outside 5 _ _ _ (not_trkPage (by decide)) (by decide)
  · exact .refl s

theorem pull1_outside (i : Nat) (y : Entry4) : Outside s (s.pull1 i n y) := by
  have hskip (u : State) (z : EvtS) : Outside u
      (((({ u with evt := z }).entryFlag i 28).inc EVT_ABORT_CNT_SKIP).iflag 0x19 4 |>.raise srcEvt 0x21 i) :=
    (report_outside 4 _ _ _ (not_trkPage (by decide)) (by decide)).after <| (entry3_outside _ _).after (evt_outside u _)
  unfold State.pull1
  extract_lets marked x pulled bad known
  have hknown : Outside s known := by
    refine Outside.after (b := pulled) ?_ ((evt_outside marked _).after (entry3_outside i _))
    unfold known
    clear_value bad
    cases bad with
    | none => exact .refl _
    | some e => exact evtEcc_outside i e
  clear_value known
  refine Outside.after ?_ hknown
  exact .ite (.refl _) (.ite ((evt_outside _ _).after (newOcc_outside _ _)) (hskip _ _))

theorem evtPull_outside (k : Nat) : Outside s (s.evtPull k) := by
  induction k generalizing s with
  | zero => exact .refl s
  | succ k ih =>
    unfold State.evtPull
    refine .ite (.refl s) ?_
    split
    · exact .refl s
    · refine ih.after (Outside.foldl (fun u b => ?_) s)
      dsimp only
      split
      · exact .refl u
      · exact (evt_outside _ _).after (pull1_outside _ _)

theorem angMoved_outside (wrap : Bool) : Outside s (s.angMoved wrap n) :=
  slotWindows_outside.after <| (evtPull_outside _).after (.ite evtWrap_outside (.refl s))

theorem evtRecord_outside : Outside s s.evtRecord := .same rfl rfl rfl rfl rfl

/-! ### A maintenance activity ends (R465, R470) -/

/-- A relearn ends as the maintenance activity 6. -/
theorem learnEnd_outside (result : Nat) : Outside s (s.taskEnd learnTask result) := by
  have hmaint (m : MaintS) : Outside s { s with maint := m } := .same rfl rfl rfl rfl rfl
  have hstat (u : State) : Outside u (u.actStat learnTask result) :=
    (wr_outside _ (not_trkPage (by decide))).after (wr_outside _ (not_trkPage (by decide)))
  have hcount (u : State) : Outside u (u.inc (MAINT_ACT_STAT_COUNT learnTask.act)) := wr_outside _ (not_trkPage (by decide))
  have hflag (u : State) : Outside u (u.iflag 5 0) := ⟨iflag_still 0 (not_trkPage (by decide)), rfl⟩
  exact .ite ((raise_outside _ _ _).after <| (hflag _).after <| Outside.after (.ite (hcount _) (.refl _)) <|
    (hstat _).after (hmaint _)) (.refl s)

end

end Sys2Proof.Machine
end


section
/-! What the steps of the tracker's output leave: the lanes, the edges that wait, most registers of the page, and flags that are set. -/

namespace Sys2Proof.Machine

open Reg

/-! ### The registers that the output's steps write -/

/-- The places in the tracker's page that a movement of the output, a change of its state and the relearn write: the flags, CAM_FAIL,
REV_CNT, JUMP, LEARN_STAT and TBL_STAT; and PG_FAULT, which messages write. -/
def outWrites (o lo : Nat) : Bool :=
  o == 0x10 || o == 0x1C || (o == 0x40 && lo == 11) || (o == 0x48 && lo == 16) || o == 0x70 || o == 0xB8 || o == 0xC8

/-- Keys of the tracker's page apart from those places. -/
def outKept (k : Nat) : Prop := k / 131072 = 0x18 ∧ outWrites (k / 32 % 4096) (k % 32) = false

/-- The places that an accepted tooth writes besides: ACT_LANE, the registers from TOOTH to DIVERGE, and LANE_SW. -/
def toothWrites (o lo : Nat) : Bool := (o == 0x40 && lo == 8) || (decide (0x48 ≤ o) && decide (o ≤ 0x60)) || (o == 0x6C && lo == 0)

/-- Keys of the tracker's page that an accepted tooth leaves as they are. -/
def toothKept (k : Nat) : Prop := outKept k ∧ toothWrites (k / 32 % 4096) (k % 32) = false

theorem outKept_trkPage {k : Nat} (h : outKept k) : trkPage k := by
  obtain ⟨hp, hw⟩ := h
  refine ⟨hp, fun ho => ?_⟩
  rw [ho] at hw
  exact Bool.noConfusion hw

theorem toothKept_outKept {k : Nat} (h : toothKept k) : outKept k := h.1

/-! ### Steps of the output -/

/-- The lanes, the last accepted edge, the edges that wait, and the output a follower takes from its master. -/
def State.lanes (s : State) : Lane × Lane × Option Nat × List (Nat × Nat) × Option AngOut :=
  (s.trk.p, s.trk.s, s.trk.lastAcc, s.trkIn, s.follow)

/-- A step of the tracker as its page shows it: the fields of `P` read as before, and flags that are set stay set. -/
structure PageStep (P : Nat → Prop) (s s' : State) : Prop where
  regs : ∀ f : Field, P f.key → s'.rd f = s.rd f
  flags : ∀ i, i < 32 → bit (s.rd (PG_IFLAG_FLAG 0x18)) i = true → bit (s'.rd (PG_IFLAG_FLAG 0x18)) i = true

/-- A step of the tracker's output: one of its page that leaves the lanes. -/
structure OutStep (P : Nat → Prop) (s s' : State) : Prop extends PageStep P s s' where
  own : s'.lanes = s.lanes

section

variable {P Q : Nat → Prop} {s a b c : State}

theorem OutStep.laneP (h : OutStep P a b) : b.trk.p = a.trk.p := (congrArg Prod.fst h.own :)
theorem OutStep.laneS (h : OutStep P a b) : b.trk.s = a.trk.s := (congrArg (·.2.1) h.own :)
theorem OutStep.lastAcc (h : OutStep P a b) : b.trk.lastAcc = a.trk.lastAcc := (congrArg (·.2.2.1) h.own :)
theorem OutStep.trkIn (h : OutStep P a b) : b.trkIn = a.trkIn := (congrArg (·.2.2.2.1) h.own :)
theorem OutStep.follow (h : OutStep P a b) : b.follow = a.follow := (congrArg (·.2.2.2.2) h.own :)

theorem OutStep.lane (h : OutStep P a b) (x : Bool) : b.lane x = a.lane x := by
  unfold State.lane
  rw [h.laneP, h.laneS]

theorem PageStep.same (h : b.regs = a.regs) : PageStep P a b :=
  ⟨fun f _ => rd_congr h f, fun _ _ hb => (rd_congr h _).symm ▸ hb⟩

theorem PageStep.refl (s : State) : PageStep P s s := .same rfl

theorem PageStep.after (k : PageStep P b c) (h : PageStep P a b) : PageStep P a c :=
  ⟨fun f hf => (k.regs f hf).trans (h.regs f hf), fun i hi hb => k.flags i hi (h.flags i hi hb)⟩

theorem PageStep.mono (h : PageStep P a b) (hQ : ∀ k, Q k → P k) : PageStep Q a b := ⟨fun f hf => h.regs f (hQ _ hf), h.flags⟩

theorem PageStep.ite {q : Prop} [Decidable q] (h : PageStep P a b) (k : PageStep P a c) : PageStep P a (if q then b else c) := by
  split
  · exact h
  · exact k

theorem OutStep.refl (s : State) : OutStep P s s := ⟨.refl s, rfl⟩

theorem OutStep.after (k : OutStep P b c) (h : OutStep P a b) : OutStep P a c :=
  ⟨k.toPageStep.after h.toPageStep, k.own.trans h.own⟩

theorem OutStep.mono (h : OutStep P a b) (hQ : ∀ k, Q k → P k) : OutStep Q a b := ⟨h.toPageStep.mono hQ, h.own⟩

theorem OutStep.ite {q : Prop} [Decidable q] (h : OutStep P a b) (k : OutStep P a c) : OutStep P a (if q then b else c) := by
  split
  · exact h
  · exact k

theorem Outside.outStep (h : Outside a b) : OutStep outKept a b := by
  refine ⟨⟨fun f hf => h.still.regs f (outKept_trkPage hf), fun i _ hb => ?_⟩, ?_⟩
  · rw [h.still.regs (PG_IFLAG_FLAG 0x18) ⟨by decide, by decide⟩]
    exact hb
  · unfold State.lanes
    rw [h.trk, h.trkIn, h.follow]

theorem wr_outStep {f : Field} (v : Nat) (h : ¬ P f.key) (hf : (PG_IFLAG_FLAG 0x18).key ≠ f.key) : OutStep P s (s.wr f v) := by
  refine ⟨⟨fun g hg => rd_wr_ne _ _ _ _ fun e => h (e ▸ hg), fun i _ hb => ?_⟩, rfl⟩
  rw [rd_wr_ne _ _ _ _ hf]
  exact hb

/-- A write of one of the places that the output's steps write. -/
theorem wrOut_outStep {f : Field} (v : Nat) (h : outWrites (f.key / 32 % 4096) (f.key % 32) = true)
    (hf : (PG_IFLAG_FLAG 0x18).key ≠ f.key) : OutStep outKept s (s.wr f v) :=
  wr_outStep v (fun hk => Bool.noConfusion (hk.2.symm.trans h)) hf

/-- A write of one of the places that an accepted tooth writes. -/
theorem wrTooth_outStep {f : Field} (v : Nat) (h : toothWrites (f.key / 32 % 4096) (f.key % 32) = true)
    (hf : (PG_IFLAG_FLAG 0x18).key ≠ f.key) : OutStep toothKept s (s.wr f v) :=
  wr_outStep v (fun hk => Bool.noConfusion (hk.2.symm.trans h)) hf

theorem iflag_outStep (i : Nat) : OutStep outKept s (s.iflag 0x18 i) :=
  ⟨⟨fun _ hg => setBits_rd_ne _ _ fun e => absurd (e ▸ hg).2 (by decide), fun _ hi hb => iflag_bit_kept i hi hb⟩, rfl⟩

theorem modTrk_outStep {f : TrkS → TrkS} (hp : (f s.trk).p = s.trk.p) (hs : (f s.trk).s = s.trk.s)
    (hl : (f s.trk).lastAcc = s.trk.lastAcc) : OutStep P s (s.modTrk f) := by
  refine ⟨.same rfl, ?_⟩
  unfold State.lanes
  rw [modTrk_trk, hp, hs, hl]
  rfl

/-! ### The output moves (R172, R173) -/

/-- A wrap of the output counts a revolution where the cycle is whole, and ends CAM_FAIL after a clean cycle. -/
def State.revEnd (s : State) (base : Nat) : State :=
  let whole := base == 3 || s.cyc360 || s.trk.halfRev
  let s := if whole then s.wr TRK_TOOTH_REV_CNT (s.rd TRK_TOOTH_REV_CNT + 1) else s
  let s := s.modTrk fun z => { z with halfRev := !whole }
  let s := if s.trk.cycClean then s.wr TRK_SYNC_STAT_CAM_FAIL 0 else s
  (s.modTrk fun z => { z with cycClean := decide (base = 3) })

theorem revEnd_outStep (base : Nat) : OutStep outKept s (s.revEnd base) := by
  have hcount (u : State) (v : Nat) : OutStep outKept u (u.wr TRK_TOOTH_REV_CNT v) := wrOut_outStep v (by decide) (by decide)
  have hfail (u : State) : OutStep outKept u (u.wr TRK_SYNC_STAT_CAM_FAIL 0) := wrOut_outStep 0 (by decide) (by decide)
  unfold State.revEnd
  exact (modTrk_outStep rfl rfl rfl).after <| OutStep.after (.ite (hfail _) (.refl _)) <|
    (modTrk_outStep rfl rfl rfl).after (.ite (hcount _ _) (.refl _))

theorem revEnd_out (base : Nat) : (s.revEnd base).trk.out = s.trk.out := by
  unfold State.revEnd
  dsimp only
  rw [modTrk_trk]
  split <;> split <;> rfl

/-- The output's angle `d` further. -/
def State.outStepped (s : State) (d : Nat) : State :=
  s.modTrk fun z => { z with out := { s.trk.out with ang := (s.trk.out.ang + d) % s.outM }, odo := s.trk.odo + d }

/-- The output moves: its angle, what a wrap ends, and what follows the angle in use. -/
theorem outMove_eq (s : State) (d n : Nat) : ∃ u, (u = s.outStepped d ∨ u = (s.outStepped d).revEnd s.trk.out.base) ∧
    Outside u (s.outMove d n) := by
  have hmoved (u : State) (wrap : Bool) : Outside u (if u.follow.isSome then u else u.angMoved wrap n) :=
    .ite (.refl u) (angMoved_outside wrap)
  by_cases hw : s.outM ≤ s.trk.out.ang + d
  · refine ⟨_, .inr rfl, ?_⟩
    have heq : s.outMove d n = if ((s.outStepped d).revEnd s.trk.out.base).follow.isSome then (s.outStepped d).revEnd s.trk.out.base
        else ((s.outStepped d).revEnd s.trk.out.base).angMoved (decide (s.outM ≤ s.trk.out.ang + d)) n := by
      unfold State.outMove
      dsimp only
      rw [decide_eq_true hw]
      rfl
    rw [heq]
    exact hmoved _ _
  · refine ⟨_, .inl rfl, ?_⟩
    have heq : s.outMove d n = if (s.outStepped d).follow.isSome then s.outStepped d
        else (s.outStepped d).angMoved (decide (s.outM ≤ s.trk.out.ang + d)) n := by
      unfold State.outMove
      dsimp only
      rw [decide_eq_false hw]
      rfl
    rw [heq]
    exact hmoved _ _

theorem outMove_outStep (d n : Nat) : OutStep outKept s (s.outMove d n) := by
  have hstep : OutStep outKept s (s.outStepped d) := modTrk_outStep rfl rfl rfl
  obtain ⟨u, hu | hu, h⟩ := outMove_eq s d n
  · exact h.outStep.after (hu ▸ hstep)
  · exact h.outStep.after (hu ▸ (revEnd_outStep _).after hstep)

/-- The output after a movement: the same but for its angle. -/
theorem outMove_out (d n : Nat) : (s.outMove d n).trk.out = { s.trk.out with ang := (s.trk.out.ang + d) % s.outM } := by
  obtain ⟨u, hu | hu, h⟩ := outMove_eq s d n
  · rw [h.trk, hu]; rfl
  · rw [h.trk, hu, revEnd_out]; rfl

theorem setOut_outStep (o : AngOut) : OutStep P s (s.setOut o) := modTrk_outStep rfl rfl rfl

theorem outTickTo_outStep (now : Nat) : OutStep outKept s (s.outTickTo now) :=
  .ite (.refl s) ((outMove_outStep _ _).after (setOut_outStep _))

/-- Micro-ticks leave the output's state. -/
theorem outTickTo_st (now : Nat) : (s.outTickTo now).trk.out.st = s.trk.out.st := by
  unfold State.outTickTo
  dsimp only
  split
  · rfl
  · rw [outMove_out]
    rfl

/-! ### Tables and the relearn (R184, R185) -/

/-- A shadow that waits takes effect. -/
theorem pendApply_outStep : OutStep outKept s s.pendApply := by
  have hdone (u : State) : OutStep outKept u ((u.wr TRK_TBL_STAT_PENDING 0).iflag 0x18 10) :=
    (iflag_outStep 10).after (wrOut_outStep 0 (by decide) (by decide))
  refine OutStep.after (.ite (hdone _) (.refl _)) (modTrk_outStep ?_ ?_ ?_) <;> (split <;> split <;> rfl)

theorem pendApply_out : s.pendApply.trk.out = s.trk.out := by
  unfold State.pendApply
  dsimp only
  split <;> split <;> split <;> rfl

theorem tablesApply_outStep : OutStep outKept s s.tablesApply := by
  unfold State.tablesApply
  dsimp only
  split
  · exact (modTrk_outStep rfl rfl rfl).after pendApply_outStep
  · exact pendApply_outStep

theorem learnStop_outStep (result : Nat) : OutStep outKept s (s.learnStop result) :=
  .ite ((learnEnd_outside _).outStep.after <| (wrOut_outStep _ (by decide) (by decide)).after (modTrk_outStep rfl rfl rfl)) (.refl s)

theorem learnStop_out (result : Nat) : (s.learnStop result).trk.out = s.trk.out := by
  unfold State.learnStop
  split
  · dsimp only
    rw [(learnEnd_outside result).trk]
    rfl
  · rfl

theorem learnSpoil_outStep : OutStep outKept s s.learnSpoil := .ite (learnStop_outStep 5) (.refl s)

theorem learnSpoil_out : s.learnSpoil.trk.out = s.trk.out := by
  unfold State.learnSpoil
  split
  · exact learnStop_out 5
  · rfl

theorem learnTooth_outStep (r : PRec) : OutStep outKept s (s.learnTooth r) := by
  unfold State.learnTooth
  split
  · exact .refl s
  · exact .ite (learnStop_outStep 5) (.ite (.refl s) ((wrOut_outStep _ (by decide) (by decide)).after (modTrk_outStep rfl rfl rfl)))

/-! ### The output's state (R160) -/

/-- The output takes a state, with its flag. -/
def State.outTake (s : State) (st : Nat) (lost : Bool) : State :=
  (s.setOut { s.trk.out with st := st, e := if lost then 0 else s.trk.out.e, hasRec := s.trk.out.hasRec && !lost }).iflag 0x18 0

theorem outTake_outStep (st : Nat) (lost : Bool) : OutStep outKept s (s.outTake st lost) := (iflag_outStep 0).after (setOut_outStep _)

/-- What a loss of synchronisation ends. -/
def State.outEnds (s : State) : State :=
  if s.pendApply.learnSpoil.follow.isNone then s.pendApply.learnSpoil.angLost else s.pendApply.learnSpoil

/-- A synchronised output that leaves synchronisation. -/
theorem outState_lost {st : Nat} (hne : s.trk.out.st ≠ st) (hv : s.trk.out.valid = true) (hst : (st == 2 || st == 3 || st == 4) = false) :
    s.outState st = (s.outTick.outTake st true).outEnds := by
  unfold State.outState
  rw [if_neg hne, hv, hst]
  rfl

/-- An output that does not leave synchronisation. -/
theorem outState_plain {st : Nat} (hne : s.trk.out.st ≠ st) (h : (s.trk.out.valid && !(st == 2 || st == 3 || st == 4)) = false) :
    s.outState st = s.outTake st false := by
  unfold State.outState
  rw [if_neg hne]
  dsimp only
  rw [h]
  rfl

theorem outEnds_outStep : OutStep outKept s s.outEnds :=
  OutStep.after (.ite angLost_outside.outStep (.refl _)) (learnSpoil_outStep.after pendApply_outStep)

theorem outEnds_out : s.outEnds.trk.out = s.trk.out := by
  have h : s.pendApply.learnSpoil.trk.out = s.trk.out := learnSpoil_out.trans pendApply_out
  unfold State.outEnds
  split
  · rw [angLost_outside.trk, h]
  · exact h

/-- A change of the output's state: none, one within or into synchronisation, or its loss. -/
theorem outState_cases (s : State) (st : Nat) : (s.trk.out.st = st ∧ s.outState st = s) ∨ s.outState st = s.outTake st false ∨
    s.outState st = (s.outTick.outTake st true).outEnds := by
  by_cases hst : s.trk.out.st = st
  · exact .inl ⟨hst, if_pos hst⟩
  cases hlost : s.trk.out.valid && !(st == 2 || st == 3 || st == 4) with
  | false => exact .inr (.inl (outState_plain hst hlost))
  | true =>
    obtain ⟨hv, hn⟩ := Bool.and_eq_true_iff.1 hlost
    exact .inr (.inr (outState_lost hst hv (by simpa using hn)))

theorem outState_outStep (st : Nat) : OutStep outKept s (s.outState st) := by
  obtain ⟨-, h⟩ | h | h := outState_cases s st <;> rw [h]
  · exact .refl s
  · exact outTake_outStep st false
  · exact outEnds_outStep.after <| (outTake_outStep st true).after (outTickTo_outStep _)

theorem outState_st (st : Nat) : (s.outState st).trk.out.st = st := by
  obtain ⟨hst, h⟩ | h | h := outState_cases s st <;> rw [h]
  · exact hst
  · rfl
  · rw [outEnds_out]
    rfl

theorem camForget_outStep : OutStep P s s.camForget := ⟨.same rfl, rfl⟩

theorem raise_outStep (src kind detail : Nat) : OutStep outKept s (s.raise src kind detail) := (raise_outside _ _ _).outStep

end

end Sys2Proof.Machine
end


section
/-! What the acceptance of a tooth leaves: the lane with its new record, the output that follows it, and the registers that show it. -/

namespace Sys2Proof.Machine

open Reg

section

variable {P : Nat → Prop} {s a b : State}

/-! ### The output takes a record (R172 to R174) -/

theorem outSettle_outStep : OutStep outKept s s.outSettle :=
  .ite (.refl s) ((outMove_outStep _ _).after <| (wrOut_outStep _ (by decide) (by decide)).after <|
    (wrOut_outStep _ (by decide) (by decide)).after (setOut_outStep _))

theorem outAlign_outStep (d : Int) (direct : Bool) : OutStep outKept s (s.outAlign d direct) := by
  have hjump (u : State) (v n : Nat) : OutStep outKept u ((u.wr TRK_JUMP_CATCHUP v).wr TRK_JUMP_SIZE n) :=
    (wrOut_outStep n (by decide) (by decide)).after (wrOut_outStep v (by decide) (by decide))
  have hset (o : AngOut) : OutStep outKept s (s.setOut o) := setOut_outStep o
  exact .ite (hset _) <| .ite (hset _) <| .ite ((outMove_outStep _ _).after (hset _)) <|
    .ite ((hjump _ _ _).after (hset _)) ((outMove_outStep _ _).after <| (hjump _ _ _).after (hset _))

/-- The record as the output holds it. -/
def State.outRecord (s : State) (g : AGen) : State :=
  s.modTrk fun z => { z with prevRec := if s.trk.out.hasRec then some s.trk.out.g.r else none, out := { s.trk.out with
    g := g, hasRec := true, pubAt := s.tb, oldRec := if s.trk.out.hasRec then some s.trk.out.g.r else none } }

/-- The registers that show a record, and the mark that TT is new. -/
def State.toothShown (s : State) (g : AGen) : State :=
  ((((s.wr TRK_TOOTH_POS g.r.pos).wr TRK_TT_LO_T (g.r.t % 2 ^ 32)).wr TRK_TT_HI_T (g.r.t / 2 ^ 32)).wr TRK_PRED_T_PRED g.r.tp).modTrk
    fun z => { z with tt := s.trk.tt.stamp }

/-- What follows a record outside the tracker: router pulses and dwell starts. -/
theorem publish_outside (g : AGen) : Outside ((s.outRecord g).toothShown g) (s.publish g) := by
  have hpulse (u : State) : Outside u (if g.r.pos = 0 ∧ !g.r.half then (u.pulse 10).pulse 11 else u.pulse 10) :=
    .ite ((pulse_outside 11).after (pulse_outside 10)) (pulse_outside 10)
  exact .ite (.refl _) (evtRecord_outside.after (hpulse _))

theorem toothShown_outStep (g : AGen) : OutStep toothKept s (s.toothShown g) :=
  (modTrk_outStep rfl rfl rfl).after <| (wrTooth_outStep _ (by decide) (by decide)).after <|
    (wrTooth_outStep _ (by decide) (by decide)).after <| (wrTooth_outStep _ (by decide) (by decide)).after <|
    wrTooth_outStep _ (by decide) (by decide)

theorem publish_outStep (g : AGen) : OutStep toothKept s (s.publish g) :=
  ((publish_outside g).outStep.mono fun _ => toothKept_outKept).after <|
    (toothShown_outStep g).after (modTrk_outStep rfl rfl rfl)

/-- The registers of an accepted tooth (R188). -/
structure ToothShown (g : AGen) (s : State) : Prop where
  pos : s.rd TRK_TOOTH_POS = g.r.pos % 2 ^ 10
  time : s.rd TRK_TT_LO_T = g.r.t % 2 ^ 32
  pred : s.rd TRK_PRED_T_PRED = g.r.tp % 2 ^ 32

theorem outKept_tooth : outKept TRK_TOOTH_POS.key ∧ outKept TRK_TT_LO_T.key ∧ outKept TRK_PRED_T_PRED.key := by
  unfold outKept
  decide

theorem ToothShown.step {g : AGen} (h : ToothShown g a) (k : OutStep outKept a b) : ToothShown g b := by
  obtain ⟨hpos, htime, hpred⟩ := outKept_tooth
  exact ⟨(k.regs _ hpos).trans h.pos, (k.regs _ htime).trans h.time, (k.regs _ hpred).trans h.pred⟩

theorem publish_shown (g : AGen) : ToothShown g (s.publish g) := by
  refine ToothShown.step ?_ (publish_outside g).outStep
  unfold State.toothShown
  refine ⟨?_, ?_, ?_⟩
  all_goals rw [modTrk_rd]
  · rw [rd_wr_ne _ _ _ _ (by decide), rd_wr_ne _ _ _ _ (by decide), rd_wr_ne _ _ _ _ (by decide), rd_wr_self]
    rfl
  · rw [rd_wr_ne _ _ _ _ (by decide), rd_wr_ne _ _ _ _ (by decide), rd_wr_self]
    exact Nat.mod_mod _ _
  · exact rd_wr_self _ TRK_PRED_T_PRED _

theorem outFollow_outStep (g : AGen) (direct : Bool) : OutStep toothKept s (s.outFollow g direct) :=
  ((outAlign_outStep _ _).mono fun _ => toothKept_outKept).after <| (publish_outStep g).after <|
    outSettle_outStep.mono fun _ => toothKept_outKept

theorem outFollow_shown (g : AGen) (direct : Bool) : ToothShown g (s.outFollow g direct) :=
  (publish_shown g).step (outAlign_outStep _ _)

theorem resumed_outStep (q : Prop) [Decidable q] (st : Nat) : OutStep toothKept s (if q then s.outState st else s) :=
  .ite ((outState_outStep st).mono fun _ => toothKept_outKept) (.refl s)

theorem outTooth_outStep (g : AGen) (late : Bool) : OutStep toothKept s (s.outTooth g late) :=
  (outFollow_outStep _ _).after (resumed_outStep _ _)

theorem outTooth_shown (g : AGen) (late : Bool) : ToothShown g (s.outTooth g late) := outFollow_shown _ _

theorem switchLane_outStep (x : Bool) : OutStep toothKept s (s.switchLane x) := by
  have hcount : OutStep toothKept s ((s.wr TRK_SYNC_STAT_ACT_LANE (b2n x)).inc TRK_ERR_CNT1_LANE_SW) :=
    (wrTooth_outStep _ (by decide) (by decide)).after (wrTooth_outStep _ (by decide) (by decide))
  have hsaid (u : State) : OutStep toothKept u ((u.iflag 0x18 6).raise srcComp 0x1F (b2n x)) :=
    ((raise_outStep _ _ _).after (iflag_outStep 6)).mono fun _ => toothKept_outKept
  exact (outFollow_outStep _ _).after <| (resumed_outStep _ _).after <| (hsaid _).after <| (modTrk_outStep rfl rfl rfl).after hcount

/-! ### The speed and the lanes' divergence (R171, R177) -/

theorem speedR_outStep (x : Bool) : OutStep toothKept s (s.speedR x) := by
  unfold State.speedR
  dsimp only
  split
  · exact .ite (wrTooth_outStep _ (by decide) (by decide)) (.refl s)
  · exact .refl s

theorem diverge_outStep : OutStep toothKept s s.diverge := by
  have hsaid (u : State) (d : Nat) : OutStep toothKept u ((u.iflag 0x18 7).raise srcComp 0x1E d) :=
    ((raise_outStep _ _ _).after (iflag_outStep 7)).mono fun _ => toothKept_outKept
  have hmark (u : State) (n : Nat) : OutStep toothKept u (u.modTrk fun z => { z with divRun := n }) := modTrk_outStep rfl rfl rfl
  have hd (v : Nat) : OutStep toothKept s (s.wr TRK_DIVERGE_D v) := wrTooth_outStep v (by decide) (by decide)
  exact .ite (.refl s) ((OutStep.ite (hsaid _ _) (.refl _)).after <| (hmark _ _).after (hd _))

/-! ### A lane accepts a tooth (R171, R172, R174) -/

/-- What the acceptance of position 0 by the active lane applies first (R184). -/
def State.lanePrepared (s : State) (x : Bool) (e : Nat × Bool) : State :=
  if (x == s.actLane && s.trk.failed.isNone) && e.1 == 0 && !e.2 then s.tablesApply else s

/-- The lane `l` with the element `e` accepted at `t`. -/
def State.laneAfter (s : State) (x : Bool) (l : Lane) (e : Nat × Bool) (t : Nat) (virt : Bool) : Lane :=
  let r := l.g.r
  let tau := tauMk (t - r.t) r.w
  let key (p : Nat) (h : Bool) : Nat := 2 * p + b2n h
  let tp' := if x then tauS tau (tget none l.tauHist (key r.pos r.half)) (tget none l.tauHist (key e.1 e.2))
    else tauP s.accGain4 tau l.tauPrev
  let r0 := s.mkRec x (l.base == 3) e t 0
  { l with
    st := if l.st = 4 then l.level else l.st, hist := (t :: l.hist).take 512,
    g := AGen.start { r0 with tp := (divNear (tp'.num * r0.w) tp'.den).toNat } s.tb, tauPrev := some tau,
    tauHist := tput none l.tauHist (key r.pos r.half) (some tau), miss := if virt then l.miss + 1 else 0, cand := none }

/-- The lane holds its new record, and its tooth is shown by its port. -/
def State.laneHeld (s : State) (x : Bool) (l : Lane) (t : Nat) (virt : Bool) : State :=
  if virt then (s.setLane x l).laneIndex x else ((s.setLane x l).laneIndex x).modTrk fun z => { z with lastAcc := some t }

/-- The output follows the active lane's tooth. -/
def State.toothTold (s : State) (g : AGen) (virt late : Bool) : State :=
  let s := (if virt then s else s.diverge).outTooth g late
  if virt then s else s.learnTooth g.r

/-- An interval of `iv` ticks over a width of `w` is slower than STALL_RPM (R182). -/
def State.slowTooth (s : State) (w iv : Nat) : Bool := decide (16 * 60 * 400000000 * w < s.stallRpm * (iv * 2 ^ 23))

/-- What follows a lane's tooth: the speed, and with the active lane the output; or the output switches to the lane (R178). -/
def State.laneTold (s : State) (x : Bool) (l : Lane) (w iv : Nat) (virt late active : Bool) : State :=
  let o := s.trk.out
  let take := !virt && o.valid && x != s.actLane && (s.trk.failed.isSome || (s.trk.req == some x && l.base == o.base))
  let s := if active || take then (s.wr TRK_SPEED_T_RPM (rpm16 w iv)).speedR x else s
  if active then (if !virt && s.slowTooth w iv then s.goStall else s.toothTold l.g virt late)
  else if take then s.switchLane x
  else if s.trk.req = some x ∧ !virt then s.modTrk fun z => { z with req := none }
  else s

/-- The element that a lane expects next. -/
def State.laneNext (s : State) (x : Bool) : Nat × Bool :=
  s.nextElem ((s.lane x).base == 3) ((s.lane x).g.r.pos, (s.lane x).g.r.half)

/-- The lane as the acceptance of its next tooth at `t` leaves it. -/
def State.laneThen (s : State) (x : Bool) (t : Nat) (virt : Bool) : Lane :=
  (s.lanePrepared x (s.laneNext x)).laneAfter x (s.lane x) (s.laneNext x) t virt

/-- The lane's new record, its edges, and what the acceptance settles. -/
theorem laneThen_left (x : Bool) (t : Nat) (virt : Bool) : (s.laneThen x t virt).g.r.t = t ∧
    (s.laneThen x t virt).g.r.pos = (s.laneNext x).1 ∧ (s.laneThen x t virt).cand = none ∧
    (s.laneThen x t virt).miss = (if virt then (s.lane x).miss + 1 else 0) ∧
    (s.laneThen x t virt).hist = (t :: (s.lane x).hist).take 512 := ⟨rfl, rfl, rfl, rfl, rfl⟩

/-- The state in which the lane holds the tooth accepted at `t`. -/
def State.laneReady (s : State) (x : Bool) (t : Nat) (virt : Bool) : State :=
  (s.lanePrepared x (s.laneNext x)).laneHeld x (s.laneThen x t virt) t virt

theorem laneAccept_eq (s : State) (x : Bool) (t : Nat) (virt late : Bool) : s.laneAccept x t virt late =
    (s.laneReady x t virt).laneTold x (s.laneThen x t virt) (s.lane x).g.r.w (t - (s.lane x).g.r.t) virt late
      (x == s.actLane && s.trk.failed.isNone) := rfl

theorem lanePrepared_outStep (x : Bool) (e : Nat × Bool) : OutStep outKept s (s.lanePrepared x e) := .ite tablesApply_outStep (.refl s)

theorem laneIndex_outside (x : Bool) : Outside s (s.laneIndex x) := by
  have hport {q : Nat} (hq : q ≤ 1) (u : State) (k : Nat) : Outside u (u.toothIndex q k) := by
    refine .ite (wr_outside k (not_trkPage ?_)) (.refl u)
    simp only [Field.key, POS_COUNT_VALUE]
    omega
  exact .ite (hport (by cases x <;> decide) _ _) (.ite (hport (by decide) _ _) (.refl s))

theorem setLane_lane (x : Bool) (l : Lane) : (s.setLane x l).lane x = l := by cases x <;> rfl

theorem setLane_lastAcc (x : Bool) (l : Lane) : (s.setLane x l).trk.lastAcc = s.trk.lastAcc := by cases x <;> rfl

theorem laneHeld_left (x : Bool) (l : Lane) (t : Nat) (virt : Bool) : (s.laneHeld x l t virt).lane x = l ∧
    (s.laneHeld x l t virt).trk.lastAcc = (if virt then s.trk.lastAcc else some t) ∧ PageStep outKept s (s.laneHeld x l t virt) := by
  have hindex : OutStep outKept (s.setLane x l) ((s.setLane x l).laneIndex x) := (laneIndex_outside x).outStep
  have hlane : ((s.setLane x l).laneIndex x).lane x = l := (hindex.lane x).trans (setLane_lane x l)
  have hpage : PageStep outKept s ((s.setLane x l).laneIndex x) := hindex.toPageStep.after (.same rfl)
  cases virt with
  | true => exact ⟨hlane, hindex.lastAcc.trans (setLane_lastAcc x l), hpage⟩
  | false => exact ⟨hlane, rfl, PageStep.after (b := (s.setLane x l).laneIndex x) (.same rfl) hpage⟩

theorem toothKept_stallRpm : toothKept TRK_PRED_CFG_STALL_RPM.key := by
  unfold toothKept outKept
  decide

theorem PageStep.slowTooth (h : PageStep toothKept a b) (w iv : Nat) : b.slowTooth w iv = a.slowTooth w iv := by
  unfold State.slowTooth State.stallRpm
  rw [h.regs _ toothKept_stallRpm]

/-- A tooth that is virtual, or not slower than STALL_RPM. -/
def State.goesOn (s : State) (virt : Bool) (w iv : Nat) : Prop := virt = true ∨ s.slowTooth w iv = false

theorem toothTold_outStep (g : AGen) (virt late : Bool) : OutStep toothKept s (s.toothTold g virt late) := by
  cases virt with
  | true => exact outTooth_outStep g late
  | false => exact ((learnTooth_outStep _).mono fun _ => toothKept_outKept).after <| (outTooth_outStep g late).after diverge_outStep

theorem toothTold_shown (g : AGen) (virt late : Bool) : ToothShown g (s.toothTold g virt late) := by
  cases virt with
  | true => exact outTooth_shown g late
  | false => exact (outTooth_shown g late).step (learnTooth_outStep _)

theorem speedTold_outStep (x : Bool) (q : Prop) [Decidable q] (v : Nat) :
    OutStep toothKept s (if q then (s.wr TRK_SPEED_T_RPM v).speedR x else s) :=
  .ite ((speedR_outStep x).after (wrTooth_outStep v (by decide) (by decide))) (.refl s)

/-- A tooth that goes on is not a stall. -/
theorem goesOn_if {virt : Bool} {w iv : Nat} (h : s.goesOn virt w iv) (k : PageStep toothKept s a) :
    (!virt && a.slowTooth w iv) = false := by
  rw [k.slowTooth]
  obtain h | h := h <;> simp [h]

theorem laneTold_outStep {x : Bool} {l : Lane} {w iv : Nat} {virt : Bool} (h : s.goesOn virt w iv) (late active : Bool) :
    OutStep toothKept s (s.laneTold x l w iv virt late active) := by
  unfold State.laneTold
  extract_lets o take told
  have htold : OutStep toothKept s told := speedTold_outStep x _ _
  rw [goesOn_if h htold.toPageStep]
  exact OutStep.after (.ite (toothTold_outStep _ _ _) <| .ite (switchLane_outStep x) <|
    .ite (modTrk_outStep rfl rfl rfl) (.refl _)) htold

theorem laneTold_shown {x : Bool} {l : Lane} {w iv : Nat} {virt : Bool} (h : s.goesOn virt w iv) (late : Bool) :
    ToothShown l.g (s.laneTold x l w iv virt late true) := by
  unfold State.laneTold
  extract_lets o take told
  have htold : OutStep toothKept s told := speedTold_outStep x _ _
  rw [goesOn_if h htold.toPageStep]
  exact toothTold_shown l.g virt late

/-- What the acceptance of a tooth leaves in its lane and in the page. -/
structure LaneTook (s s' : State) (x : Bool) (t : Nat) (virt : Bool) : Prop where
  lane : s'.lane x = s.laneThen x t virt
  lastAcc : s'.trk.lastAcc = if virt then s.trk.lastAcc else some t
  page : PageStep toothKept s s'

theorem laneReady_took (x : Bool) (t : Nat) (virt : Bool) : LaneTook s (s.laneReady x t virt) x t virt := by
  have hprep : OutStep outKept s (s.lanePrepared x (s.laneNext x)) := lanePrepared_outStep x _
  obtain ⟨hlane, hacc, hheld⟩ := laneHeld_left (s := s.lanePrepared x (s.laneNext x)) x (s.laneThen x t virt) t virt
  exact ⟨hlane, hacc.trans (by rw [hprep.lastAcc]), (hheld.after hprep.toPageStep).mono fun _ => toothKept_outKept⟩

theorem LaneTook.goesOn {x : Bool} {t w iv : Nat} {virt v : Bool} (k : LaneTook s a x t virt) (h : s.goesOn v w iv) : a.goesOn v w iv :=
  h.imp id fun hslow => (k.page.slowTooth w iv).trans hslow

theorem laneAccept_took {x : Bool} {t : Nat} {virt : Bool} (late : Bool) (h : s.goesOn virt (s.lane x).g.r.w (t - (s.lane x).g.r.t)) :
    LaneTook s (s.laneAccept x t virt late) x t virt := by
  have hready : LaneTook s (s.laneReady x t virt) x t virt := laneReady_took x t virt
  have htold := laneTold_outStep (x := x) (l := s.laneThen x t virt) (hready.goesOn h) late (x == s.actLane && s.trk.failed.isNone)
  rw [laneAccept_eq]
  exact ⟨(htold.lane x).trans hready.lane, htold.lastAcc.trans hready.lastAcc, htold.toPageStep.after hready.page⟩

/-- An accepted tooth of the active lane shows in the registers. -/
theorem laneAccept_shown {x : Bool} {t : Nat} {virt : Bool} (late : Bool) (h : s.goesOn virt (s.lane x).g.r.w (t - (s.lane x).g.r.t))
    (hx : x = s.actLane) (hf : s.trk.failed = none) : ToothShown (s.laneThen x t virt).g (s.laneAccept x t virt late) := by
  have hactive : (x == s.actLane && s.trk.failed.isNone) = true := by rw [hx, hf]; simp
  rw [laneAccept_eq, hactive]
  exact laneTold_shown ((laneReady_took x t virt).goesOn h) late

end

end Sys2Proof.Machine
end


section
/-! The tracker's micro-ticks, its halt, and the loss of synchronisation. -/

namespace Sys2Proof.Machine

open Reg

section

variable {s a b : State}

/-! ### Micro-ticks (R172, R173) -/

/-- A lane after the micro-ticks up to an instant. -/
def Lane.ticked (l : Lane) (now : Nat) : Lane := if l.synced then { l with g := l.g.run now } else l

theorem ticked_st (l : Lane) (now : Nat) : (l.ticked now).st = l.st := by
  unfold Lane.ticked
  split <;> rfl

/-- Both lanes after the micro-ticks up to an instant. -/
def State.lanesTicked (s : State) (now : Nat) : State :=
  s.modTrk fun z => { z with p := s.trk.p.ticked now, s := s.trk.s.ticked now }

theorem trkTickTo_eq (s : State) (now : Nat) : s.trkTickTo now = (s.lanesTicked now).outTickTo now := rfl

theorem trkTickTo_outStep (s : State) (now : Nat) : OutStep outKept (s.lanesTicked now) (s.trkTickTo now) := outTickTo_outStep now

theorem trkTickTo_st (now : Nat) : (s.trkTickTo now).trk.out.st = s.trk.out.st := outTickTo_st now

/-- An output that is not valid has no micro-ticks. -/
theorem trkTickTo_invalid {now : Nat} (h : s.trk.out.valid = false) : s.trkTickTo now = s.lanesTicked now := by
  have hv : (s.lanesTicked now).trk.out.valid = false := h
  rw [trkTickTo_eq, State.outTickTo]
  dsimp only
  rw [hv]
  rfl

theorem valid_of_synced {o : AngOut} (h : o.st = 2 ∨ o.st = 3) : o.valid = true := by
  unfold AngOut.valid
  obtain h | h := h <;> rw [h] <;> rfl

theorem invalid_of_idle {o : AngOut} (h : o.st = 0 ∨ o.st = 5) : o.valid = false := by
  unfold AngOut.valid
  obtain h | h := h <;> rw [h] <;> rfl

/-- Without a deficit and without a lead the output moves with its generator. -/
theorem outTickTo_out {now : Nat} (hv : s.trk.out.valid = true) (he : s.trk.out.e = 0) (ha : s.trk.out.ahead = 0) :
    (s.outTickTo now).trk.out = { s.trk.out with
      g := s.trk.out.g.run now,
      ang := (s.trk.out.ang + ((s.trk.out.g.run now).d / 2 ^ 24 - s.trk.out.g.d / 2 ^ 24)) % s.outM } := by
  have hadv (d d' : Nat) : (((d' / 2 ^ 24 : Nat) : Int) - (divUp 0 (2 ^ 24) : Nat) -
      (((d / 2 ^ 24 : Nat) : Int) - (divUp 0 (2 ^ 24) : Nat))).toNat = d' / 2 ^ 24 - d / 2 ^ 24 := by omega
  unfold State.outTickTo
  dsimp only
  rw [hv, if_neg (by decide), outMove_out]
  simp only [State.setOut, State.outM, State.angMod, modTrk_trk, AngOut.rel, he, ha, Nat.zero_sub, Nat.zero_min, Nat.sub_zero, hadv,
    Nat.lt_irrefl, decide_false, Bool.false_and]
  rfl

/-! ### HALTED (R160, R172) -/

/-- A lane held at its halt point is HALTED. -/
def State.laneHalt (s : State) (x : Bool) : State :=
  if ((s.lane x).st = 2 ∨ (s.lane x).st = 3) ∧ (s.lane x).g.held 0 s.tb then
    s.setLane x { s.lane x with st := 4, level := (s.lane x).st } else s

theorem laneHalt_left (x : Bool) : (s.laneHalt x).trk.out = s.trk.out ∧ (s.laneHalt x).regs = s.regs ∧ (s.laneHalt x).tb = s.tb := by
  unfold State.laneHalt
  split
  · cases x <;> exact ⟨rfl, rfl, rfl⟩
  · exact ⟨rfl, rfl, rfl⟩

/-- The output is HALTED, and that is counted. -/
def State.outHalt (s : State) : State := ((s.setOut { s.trk.out with level := s.trk.out.st }).outState 4).inc TRK_ERR_CNT0_HALT

theorem goHalted_eq (s : State) : s.goHalted =
    if (((s.laneHalt false).laneHalt true).trk.out.st = 2 ∨ ((s.laneHalt false).laneHalt true).trk.out.st = 3) ∧
        ((s.laneHalt false).laneHalt true).trk.out.e = 0 ∧ ((s.laneHalt false).laneHalt true).trk.out.ahead = 0 ∧
        ((s.laneHalt false).laneHalt true).trk.out.g.held ((s.laneHalt false).laneHalt true).trk.out.eAt
          ((s.laneHalt false).laneHalt true).tb
    then ((s.laneHalt false).laneHalt true).outHalt else (s.laneHalt false).laneHalt true := rfl

theorem outHalt_left (h : s.trk.out.st = 2 ∨ s.trk.out.st = 3) : s.outHalt.trk.out.st = 4 ∧ s.outHalt.trk.out.level = s.trk.out.st ∧
    s.outHalt.trk.out.ang = s.trk.out.ang ∧ s.outHalt.rd TRK_ERR_CNT0_HALT = satN 16 (s.rd TRK_ERR_CNT0_HALT + 1) := by
  have hst : (s.setOut { s.trk.out with level := s.trk.out.st }).outState 4 =
      (s.setOut { s.trk.out with level := s.trk.out.st }).outTake 4 false :=
    outState_plain (fun h4 : s.trk.out.st = 4 => by omega) (by simp)
  unfold State.outHalt
  rw [hst]
  refine ⟨rfl, rfl, rfl, ?_⟩
  rw [inc_rd, State.outTake, iflag_rd_ne (f := TRK_ERR_CNT0_HALT) _ _ (by decide)]
  rfl

theorem goHalted_left (hst : s.trk.out.st = 2 ∨ s.trk.out.st = 3) (he : s.trk.out.e = 0) (ha : s.trk.out.ahead = 0)
    (hheld : s.trk.out.g.held s.trk.out.eAt s.tb = true) : s.goHalted.trk.out.st = 4 ∧ s.goHalted.trk.out.level = s.trk.out.st ∧
    s.goHalted.trk.out.ang = s.trk.out.ang ∧ s.goHalted.rd TRK_ERR_CNT0_HALT = satN 16 (s.rd TRK_ERR_CNT0_HALT + 1) := by
  obtain ⟨hp, hpr, hpt⟩ := laneHalt_left (s := s) false
  obtain ⟨hs, hsr, hst'⟩ := laneHalt_left (s := s.laneHalt false) true
  have hout := hs.trans hp
  rw [goHalted_eq, hout, hst'.trans hpt, if_pos ⟨hst, he, ha, hheld⟩]
  have hleft := outHalt_left (s := (s.laneHalt false).laneHalt true) (by rw [hout]; exact hst)
  rw [hout, rd_congr (hsr.trans hpr)] at hleft
  exact hleft

/-! ### A stall (R160, R182) -/

theorem goStall_left (s : State) : s.goStall.trk.out.st = 0 ∧ s.goStall.trk.p = {} ∧ s.goStall.trk.s = {} ∧
    s.goStall.trk.lastAcc = none ∧ s.goStall.trk.met = [] := by
  have hstep (u : State) : OutStep outKept u (u.outState 0).camForget := camForget_outStep.after (outState_outStep 0)
  refine ⟨?_, (hstep _).laneP, (hstep _).laneS, (hstep _).lastAcc, rfl⟩
  exact outState_st (s := s.modTrk _) 0

/-! ### The output is LOST (R160, R178) -/

/-- The loss as it is counted and flagged, with its cause. -/
def State.lossCounted (s : State) (cause : Nat) : State :=
  (((s.modTrk fun z => { z with failed := none, req := none }).wr TRK_SYNC_STAT_LOST_CAUSE cause).inc TRK_ERR_CNT1_LOST).iflag 0x18 1

theorem outLost_eq (s : State) (cause : Nat) :
    ∃ detail, s.outLost cause = (((s.lossCounted cause).outState 5).camForget).raise srcSync 0x18 detail := ⟨_, rfl⟩

theorem outLost_outStep (cause : Nat) : OutStep outKept (s.lossCounted cause) (s.outLost cause) := by
  obtain ⟨detail, h⟩ := outLost_eq s cause
  rw [h]
  exact (raise_outStep _ _ _).after <| camForget_outStep.after (outState_outStep 5)

theorem outLost_st (cause : Nat) : (s.outLost cause).trk.out.st = 5 := by
  obtain ⟨detail, h⟩ := outLost_eq s cause
  rw [h, (raise_outside _ _ _).trk]
  exact outState_st 5

theorem outKept_errors : outKept TRK_ERR_CNT1_MISS.key ∧ outKept TRK_ERR_CNT1_CAM_ERR.key ∧ outKept TRK_SYNC_STAT_LOST_CAUSE.key := by
  unfold outKept
  decide

theorem lossCounted_rd (s : State) (cause : Nat) : (s.lossCounted cause).rd TRK_SYNC_STAT_LOST_CAUSE = cause % 8 ∧
    (s.lossCounted cause).rd TRK_ERR_CNT1_MISS = s.rd TRK_ERR_CNT1_MISS := by
  unfold State.lossCounted
  refine ⟨?_, ?_⟩
  · rw [iflag_rd_ne (f := TRK_SYNC_STAT_LOST_CAUSE) _ _ (by decide), inc_rd_ne (by decide), rd_wr_self]
    rfl
  · rw [iflag_rd_ne (f := TRK_ERR_CNT1_MISS) _ _ (by decide), inc_rd_ne (by decide), rd_wr_ne _ _ _ _ (by decide), modTrk_rd]

theorem lossCounted_bit {i cause : Nat} (hi : i < 32) (h : bit (s.rd (PG_IFLAG_FLAG 0x18)) i = true) :
    bit ((s.lossCounted cause).rd (PG_IFLAG_FLAG 0x18)) i = true := by
  refine iflag_bit_kept 1 hi ?_
  rw [inc_rd_ne (by decide), rd_wr_ne _ _ _ _ (by decide), modTrk_rd]
  exact h

/-- What a loss of the output leaves: its state and cause, the count of missing teeth, the flags, the lanes. -/
theorem outLost_left (s : State) {cause : Nat} (hc : cause < 8) : (s.outLost cause).trk.out.st = 5 ∧
    (s.outLost cause).rd TRK_SYNC_STAT_LOST_CAUSE = cause ∧ (s.outLost cause).rd TRK_ERR_CNT1_MISS = s.rd TRK_ERR_CNT1_MISS ∧
    bit ((s.outLost cause).rd (PG_IFLAG_FLAG 0x18)) 1 = true ∧ ∀ x, (s.outLost cause).lane x = s.lane x := by
  obtain ⟨hcause, hmiss⟩ := lossCounted_rd s cause
  obtain ⟨hkm, -, hkc⟩ := outKept_errors
  have hstep := outLost_outStep (s := s) cause
  refine ⟨outLost_st cause, (hstep.regs _ hkc).trans (hcause.trans (Nat.mod_eq_of_lt hc)), (hstep.regs _ hkm).trans hmiss,
    hstep.flags 1 (by decide) (iflag_bit _ _ (by decide)), hstep.lane⟩

theorem outLost_bit {i cause : Nat} (hi : i < 32) (h : bit (s.rd (PG_IFLAG_FLAG 0x18)) i = true) :
    bit ((s.outLost cause).rd (PG_IFLAG_FLAG 0x18)) i = true := (outLost_outStep cause).flags i hi (lossCounted_bit hi h)

/-! ### A lane is LOST (R160, R178) -/

/-- The lane is LOST, and a switch to it that was asked for is dropped. -/
def State.laneDropped (s : State) (x : Bool) (cause : Nat) : State :=
  let u := s.setLane x { ({} : Lane) with st := 5, cause := cause, hist := (s.lane x).hist }
  if u.trk.req = some x then u.modTrk fun z => { z with req := none } else u

theorem laneDropped_left (x : Bool) (cause : Nat) : ((s.laneDropped x cause).lane x).st = 5 ∧
    (s.laneDropped x cause).lane (!x) = s.lane (!x) ∧ (s.laneDropped x cause).regs = s.regs := by
  unfold State.laneDropped
  dsimp only
  split <;> cases x <;> exact ⟨rfl, rfl, rfl⟩

/-- The active lane is LOST while the other is not in synchronisation: so is the output. -/
theorem laneLost_out {x : Bool} {cause : Nat} (hx : x = s.actLane) (hother : (s.lane (!x)).synced = false) :
    s.laneLost x cause = (s.laneDropped x cause).outLost cause := by
  obtain ⟨-, hlane, hregs⟩ := laneDropped_left (s := s) x cause
  have hsame : (s.laneDropped x cause).actLane = s.actLane := by
    unfold State.actLane
    rw [rd_congr hregs]
  have hact : (s.laneDropped x cause).actLane = x := hsame.trans hx.symm
  have heq : s.laneLost x cause = if x = (s.laneDropped x cause).actLane then (s.laneDropped x cause).activeFails cause
      else match (s.laneDropped x cause).trk.failed with
        | some c => (s.laneDropped x cause).outLost c
        | none => s.laneDropped x cause := rfl
  rw [heq, hact, if_pos rfl, State.activeFails, hact, hlane, hother]
  rfl

/-! ### A tooth is missing (R169) -/

/-- A missing tooth is counted and flagged, where the lane counts. -/
def State.missCounted (s : State) (x : Bool) : State := if s.laneCounts x then (s.inc TRK_ERR_CNT1_MISS).iflag 0x18 4 else s

theorem missCounted_trk (x : Bool) : (s.missCounted x).trk = s.trk := by
  unfold State.missCounted
  split <;> rfl

theorem missCounted_rd {x : Bool} (h : s.laneCounts x = true) : (s.missCounted x).rd TRK_ERR_CNT1_MISS = satN 8 (s.rd TRK_ERR_CNT1_MISS + 1) ∧
    bit ((s.missCounted x).rd (PG_IFLAG_FLAG 0x18)) 4 = true := by
  have heq : s.missCounted x = (s.inc TRK_ERR_CNT1_MISS).iflag 0x18 4 := if_pos h
  rw [heq]
  refine ⟨?_, iflag_bit _ _ (by decide)⟩
  rw [iflag_rd_ne (f := TRK_ERR_CNT1_MISS) _ _ (by decide), inc_rd]
  rfl

theorem missCounted_rd_ne {x : Bool} {f : Field} (hm : f.key ≠ TRK_ERR_CNT1_MISS.key) (hi : f.key ≠ (PG_IFLAG_FLAG 0x18).key) :
    (s.missCounted x).rd f = s.rd f := by
  unfold State.missCounted
  split
  · rw [iflag_rd_ne (f := f) _ _ hi, inc_rd_ne hm]
  · rfl

/-- The gap bounds the next element: HALT_LIMIT may not pass it by a virtual tooth. -/
def State.atGap (s : State) (e : Nat × Bool) : Bool := s.gapAfter e || (e.1 % s.wheelN == 0 && !e.2)

theorem atGap_false {e : Nat × Bool} (hg : s.gapAfter e = false) (h0 : e.1 % s.wheelN ≠ 0) : s.atGap e = false := by
  unfold State.atGap
  rw [hg, beq_false_of_ne h0]
  rfl

/-- The message about a missing tooth. -/
def State.missSaid (s : State) (x : Bool) (e : Nat × Bool) : State :=
  let s := if x = s.actLane then s.learnSpoil else s
  if s.laneCounts x then s.raise (srcLane x) 0x1D e.1 else s

theorem missSaid_outStep (x : Bool) (e : Nat × Bool) : OutStep outKept s (s.missSaid x e) :=
  OutStep.after (.ite (raise_outStep _ _ _) (.refl _)) (.ite learnSpoil_outStep (.refl s))

theorem haltLimit_eq (s : State) (x : Bool) : s.haltLimit x =
    if (decide ((s.lane x).miss < (s.missCounted x).missTol) && !s.atGap (s.laneNext x)) then
      ((s.missCounted x).missSaid x (s.laneNext x)).laneAccept x ((s.lane x).g.r.t + (s.lane x).g.r.tp) true true
    else (s.missCounted x).laneLost x (if s.atGap (s.laneNext x) then 2 else 1) := rfl

theorem missCounted_missTol (x : Bool) : (s.missCounted x).missTol = s.missTol := by
  unfold State.missTol
  rw [missCounted_rd_ne (by decide) (by decide)]

theorem missCounted_lane (x y : Bool) : (s.missCounted x).lane y = s.lane y := by
  unfold State.lane
  rw [missCounted_trk]

/-- A tooth missing past the tolerance, no lane to take over: synchronisation ends with cause 1. -/
theorem haltLimit_lost {x : Bool} (htol : s.missTol ≤ (s.lane x).miss) (hgap : s.atGap (s.laneNext x) = false) (hx : x = s.actLane)
    (hother : (s.lane (!x)).synced = false) : s.haltLimit x = ((s.missCounted x).laneDropped x 1).outLost 1 := by
  have hact : x = (s.missCounted x).actLane := by
    rw [hx, State.actLane, State.actLane, missCounted_rd_ne (by decide) (by decide)]
  have hlost := laneLost_out (s := s.missCounted x) (cause := 1) hact (by rw [missCounted_lane]; exact hother)
  rw [haltLimit_eq, missCounted_missTol, decide_eq_false (Nat.not_lt.2 htol), hgap]
  exact hlost

theorem haltLimit_lost_left {x : Bool} (htol : s.missTol ≤ (s.lane x).miss) (hgap : s.atGap (s.laneNext x) = false) (hx : x = s.actLane)
    (hother : (s.lane (!x)).synced = false) : ((s.haltLimit x).lane x).st = 5 ∧ (s.haltLimit x).trk.out.st = 5 ∧
    (s.haltLimit x).rd TRK_SYNC_STAT_LOST_CAUSE = 1 ∧ (s.haltLimit x).rd TRK_ERR_CNT1_MISS = satN 8 (s.rd TRK_ERR_CNT1_MISS + 1) ∧
    bit ((s.haltLimit x).rd (PG_IFLAG_FLAG 0x18)) 4 = true ∧ bit ((s.haltLimit x).rd (PG_IFLAG_FLAG 0x18)) 1 = true := by
  have hcounts : s.laneCounts x = true := by rw [State.laneCounts, hx]; simp
  obtain ⟨hmiss, hflag⟩ := missCounted_rd hcounts
  obtain ⟨hdead, -, hregs⟩ := laneDropped_left (s := s.missCounted x) x 1
  obtain ⟨hst, hcause, hkept, hloss, hlane⟩ := outLost_left ((s.missCounted x).laneDropped x 1) (cause := 1) (by decide)
  rw [haltLimit_lost htol hgap hx hother]
  refine ⟨by rw [hlane]; exact hdead, hst, hcause, hkept.trans ((rd_congr hregs _).trans hmiss), outLost_bit (by decide) ?_, hloss⟩
  rw [rd_congr hregs]
  exact hflag

/-- Keys of CRANK_CFG, which describes the wheel. -/
def wheelKept (k : Nat) : Prop := k / 131072 = 0x18 ∧ k / 32 % 4096 = 0x80

theorem wheelKept_toothKept {k : Nat} (h : wheelKept k) : toothKept k := by
  obtain ⟨hp, ho⟩ := h
  unfold toothKept outKept
  rw [ho]
  exact ⟨⟨hp, rfl⟩, rfl⟩

theorem wheelKept_wheel : wheelKept TRK_CRANK_CFG_N_POS.key ∧ wheelKept TRK_CRANK_CFG_GAP_TYPE.key ∧ wheelKept TRK_CRANK_CFG_GAP_N.key ∧
    wheelKept TRK_CRANK_CFG_CYC360.key := by
  unfold wheelKept
  decide

theorem nextElem_congr (h : PageStep wheelKept a b) (full : Bool) (e : Nat × Bool) : b.nextElem full e = a.nextElem full e := by
  obtain ⟨hn, ht, hg, hc⟩ := wheelKept_wheel
  have hwheel : b.wheelN = a.wheelN := h.regs _ hn
  have hextra : b.extraTooth = a.extraTooth := congrArg (· != 0) (h.regs _ ht)
  have hcyc : b.cyc360 = a.cyc360 := congrArg (· != 0) (h.regs _ hc)
  have hgapN : b.gapN = a.gapN := by
    unfold State.gapN
    rw [hextra, h.regs _ hg]
  unfold State.nextElem State.isSplit State.nextPos State.lastPos State.posMod
  rw [hwheel, hextra, hcyc, hgapN]

theorem laneNext_congr {x : Bool} (h : PageStep wheelKept a b) (hl : b.lane x = a.lane x) : b.laneNext x = a.laneNext x := by
  unfold State.laneNext
  rw [hl]
  exact nextElem_congr h _ _

theorem missCounted_wheel (x : Bool) : PageStep wheelKept s (s.missCounted x) := by
  have hcount : OutStep wheelKept s (s.inc TRK_ERR_CNT1_MISS) := wr_outStep _ (by unfold wheelKept; decide) (by decide)
  exact .ite (((iflag_outStep 4).mono fun _ h => (wheelKept_toothKept h).1).after hcount).toPageStep (.refl s)

/-- The state in which a missing tooth is counted and reported. -/
def State.missTold (s : State) (x : Bool) : State := (s.missCounted x).missSaid x (s.laneNext x)

theorem missTold_left (x : Bool) : OutStep outKept (s.missCounted x) (s.missTold x) ∧ (s.missTold x).lane x = s.lane x ∧
    (s.missTold x).laneNext x = s.laneNext x := by
  have hsaid : OutStep outKept (s.missCounted x) (s.missTold x) := missSaid_outStep _ _
  have hlane : (s.missTold x).lane x = s.lane x := (hsaid.lane x).trans (missCounted_lane x x)
  have hwheel : PageStep wheelKept s (s.missTold x) := (hsaid.toPageStep.mono fun _ h => (wheelKept_toothKept h).1).after (missCounted_wheel x)
  exact ⟨hsaid, hlane, laneNext_congr hwheel hlane⟩

/-- A tooth missing within the tolerance: a virtual one is set where it was due. -/
theorem haltLimit_virtual {x : Bool} (htol : (s.lane x).miss < s.missTol) (hgap : s.atGap (s.laneNext x) = false) :
    s.haltLimit x = (s.missTold x).laneAccept x ((s.lane x).g.r.t + (s.lane x).g.r.tp) true true := by
  rw [haltLimit_eq, missCounted_missTol, decide_eq_true htol, hgap]
  rfl

theorem toothKept_miss : toothKept TRK_ERR_CNT1_MISS.key := by
  unfold toothKept outKept
  decide

theorem haltLimit_virtual_left {x : Bool} (htol : (s.lane x).miss < s.missTol) (hgap : s.atGap (s.laneNext x) = false)
    (hcounts : s.laneCounts x = true) : ((s.haltLimit x).lane x).miss = (s.lane x).miss + 1 ∧
    ((s.haltLimit x).lane x).g.r.t = (s.lane x).g.r.t + (s.lane x).g.r.tp ∧ ((s.haltLimit x).lane x).g.r.pos = (s.laneNext x).1 ∧
    (s.haltLimit x).rd TRK_ERR_CNT1_MISS = satN 8 (s.rd TRK_ERR_CNT1_MISS + 1) ∧
    bit ((s.haltLimit x).rd (PG_IFLAG_FLAG 0x18)) 4 = true := by
  obtain ⟨hmiss, hflag⟩ := missCounted_rd hcounts
  obtain ⟨htold, hlane, hnext⟩ := missTold_left (s := s) x
  have htook := laneAccept_took (s := s.missTold x) (x := x) (t := (s.lane x).g.r.t + (s.lane x).g.r.tp) true (.inl rfl)
  obtain ⟨htime, hpos, -, hcount, -⟩ := laneThen_left (s := s.missTold x) x ((s.lane x).g.r.t + (s.lane x).g.r.tp) true
  rw [haltLimit_virtual htol hgap, htook.lane, htime, hpos, hnext, hcount, hlane]
  refine ⟨rfl, rfl, rfl, ?_, htook.page.flags 4 (by decide) (htold.flags 4 (by decide) hflag)⟩
  exact (htook.page.regs _ toothKept_miss).trans ((htold.regs _ toothKept_miss.1).trans hmiss)

end

end Sys2Proof.Machine
end


section
/-! Proof about the tracker's edges: crank and cam edges, windows and candidates. -/

namespace Sys2Proof.Machine

open Reg

section

variable {s a b : State}

/-! ### Edges that wait (R132, R175) -/

/-- An edge taken leaves all but the edges that wait. -/
theorem trkTake_left (s : State) (p : Nat) : ∃ l, (s.trkTake p).2 = { s with trkIn := l } := by
  unfold State.trkTake
  split
  · exact ⟨_, rfl⟩
  · exact ⟨s.trkIn, rfl⟩

theorem trkTake_some {p e : Nat} (h : (s.trkTake p).1 = some e) : s.trkTake p = (some e, (s.trkTake p).2) := Prod.ext h rfl

/-! ### Cam edges and windows (R163 to R165) -/

/-- A cam edge before synchronisation is kept without an angle. -/
theorem camEdge_unsynced {e : Nat} {cb : Bool} (hon : s.camOn = true) (hpos : s.camPos3 = cb) (hv : s.trk.out.valid = false) :
    s.camEdge e cb = s.modTrk fun z => { z with cams := (({ t := e, pos3 := cb, odo := none } : CamEdge) :: s.trk.cams).take 8 } := by
  unfold State.camEdge
  rw [hon, hpos]
  dsimp only
  rw [hv]
  simp

/-- A cam error as it is counted and flagged. -/
def State.camFlagged (s : State) : State := (s.inc TRK_ERR_CNT1_CAM_ERR).iflag 0x18 5

/-- A cam error as it is reported. -/
def State.camCounted (s : State) (tooth : Nat) : State :=
  let u := s.camFlagged.raise srcSync 0x1B (tooth + b2n s.camFlagged.camPos3 * 32)
  u.modTrk fun z => { z with errRun := u.trk.errRun + 1 }

/-- The cam fails after too many errors in a row (R165). -/
def State.camFailed (s : State) : State :=
  let u := s.wr TRK_SYNC_STAT_CAM_FAIL 1
  let u := if u.rd TRK_CAM_CFG_CAM_SRC = 2 then u.wr TRK_SYNC_STAT_CAM_ALT 1 else u
  (u.modTrk fun z => { z with cycClean := false }).raise srcSync 0x17 (b2n s.camPos3)

theorem camError_cases (s : State) (tooth : Nat) :
    s.camError tooth = s.camCounted tooth ∨ s.camError tooth = (s.camCounted tooth).camFailed := by
  unfold State.camError
  extract_lets flagged said counted
  split
  · exact .inr rfl
  · exact .inl rfl

/-- The count of cam errors alone. -/
def camErrs (k : Nat) : Prop := k = TRK_ERR_CNT1_CAM_ERR.key

theorem camErrs_outKept {k : Nat} (h : camErrs k) : outKept k := h ▸ outKept_errors.2.1

theorem camFailed_outStep : OutStep camErrs s s.camFailed := by
  have hfail (u : State) : OutStep camErrs u (u.wr TRK_SYNC_STAT_CAM_FAIL 1) := wr_outStep _ (by unfold camErrs; decide) (by decide)
  have halt (u : State) : OutStep camErrs u (u.wr TRK_SYNC_STAT_CAM_ALT 1) := wr_outStep _ (by unfold camErrs; decide) (by decide)
  have hsaid (u : State) (d : Nat) : OutStep camErrs u (u.raise srcSync 0x17 d) := (raise_outStep _ _ _).mono fun _ => camErrs_outKept
  exact (hsaid _ _).after <| (modTrk_outStep rfl rfl rfl).after <| OutStep.after (.ite (halt _) (.refl _)) (hfail s)

theorem camFailed_cycClean : s.camFailed.trk.cycClean = false := by
  unfold State.camFailed
  rw [(raise_outside _ _ _).trk]
  rfl

theorem camFlagged_left (s : State) : s.camFlagged.rd TRK_ERR_CNT1_CAM_ERR = satN 8 (s.rd TRK_ERR_CNT1_CAM_ERR + 1) ∧
    bit (s.camFlagged.rd (PG_IFLAG_FLAG 0x18)) 5 = true := by
  unfold State.camFlagged
  refine ⟨?_, iflag_bit _ _ (by decide)⟩
  rw [iflag_rd_ne (f := TRK_ERR_CNT1_CAM_ERR) _ _ (by decide), inc_rd]
  rfl

theorem camCounted_step (s : State) (tooth : Nat) : OutStep outKept s.camFlagged (s.camCounted tooth) ∧
    (s.camCounted tooth).trk.cycClean = s.trk.cycClean := by
  have hsaid : Outside s.camFlagged (s.camFlagged.raise srcSync 0x1B (tooth + b2n s.camFlagged.camPos3 * 32)) := raise_outside _ _ _
  unfold State.camCounted
  dsimp only
  refine ⟨(modTrk_outStep rfl rfl rfl).after hsaid.outStep, ?_⟩
  rw [modTrk_trk, hsaid.trk]
  rfl

theorem camError_left {tooth : Nat} (hclean : s.trk.cycClean = false) :
    (s.camError tooth).rd TRK_ERR_CNT1_CAM_ERR = satN 8 (s.rd TRK_ERR_CNT1_CAM_ERR + 1) ∧
    bit ((s.camError tooth).rd (PG_IFLAG_FLAG 0x18)) 5 = true ∧ (s.camError tooth).trk.cycClean = false := by
  obtain ⟨hcount, hflag⟩ := camFlagged_left s
  obtain ⟨hstep, hkept⟩ := camCounted_step s tooth
  have hcounted : OutStep camErrs s.camFlagged (s.camCounted tooth) := hstep.mono fun _ => camErrs_outKept
  have hfailed : OutStep camErrs s.camFlagged (s.camCounted tooth).camFailed := camFailed_outStep.after hcounted
  obtain h | h := camError_cases s tooth <;> rw [h]
  · exact ⟨(hcounted.regs _ rfl).trans hcount, hcounted.flags 5 (by decide) hflag, hkept.trans hclean⟩
  · exact ⟨(hfailed.regs _ rfl).trans hcount, hfailed.flags 5 (by decide) hflag, camFailed_cycClean⟩

/-- How far the output stands past the end of a cam window. -/
def State.camPast (s : State) (j : Nat) : Nat := subMod (2 ^ 24) s.trk.out.ang ((s.camC j + s.camWin) % 2 ^ 24)

/-- A cam window that the output has passed, and that has not closed in this cycle (R165). -/
structure WindowDue (s : State) (j : Nat) : Prop where
  on : s.camOn = true
  sync : s.trk.out.base = 3
  tooth : s.camTeeth.contains j = true
  past : 0 < s.camPast j
  near : s.camPast j < 2 ^ 23
  begun : s.trk.camFrom < s.trk.odo - s.camPast j
  unclosed : tget 0 s.trk.closed j + 2 ^ 22 < s.trk.odo - s.camPast j

/-- The window closes without an edge. -/
def State.windowMissed (s : State) (j : Nat) : State :=
  (s.modTrk fun _ => { s.trk with closed := tput 0 s.trk.closed j (s.trk.odo - s.camPast j), met := s.trk.met.filter (· != j) }).modTrk
    fun z => { z with cycClean := false }

theorem camClose_missed {j : Nat} (h : WindowDue s j) (hmet : s.trk.met.contains j = false) : s.camClose j = (s.windowMissed j).camError j := by
  obtain ⟨hon, hsync, htooth, hpast, hnear, hfrom, hopen⟩ := h
  unfold State.camPast at hpast hnear hfrom hopen
  unfold State.camClose
  dsimp only
  rw [hon, hsync, htooth, hmet, decide_eq_true hnear, decide_eq_true hpast, decide_eq_true hfrom, decide_eq_true hopen]
  rfl

theorem camClose_left {j : Nat} (h : WindowDue s j) (hmet : s.trk.met.contains j = false) :
    (s.camClose j).rd TRK_ERR_CNT1_CAM_ERR = satN 8 (s.rd TRK_ERR_CNT1_CAM_ERR + 1) ∧
    bit ((s.camClose j).rd (PG_IFLAG_FLAG 0x18)) 5 = true ∧ (s.camClose j).trk.cycClean = false := by
  rw [camClose_missed h hmet]
  exact camError_left (s := s.windowMissed j) rfl

/-! ### Crank edges (R160, R166 to R169, R180) -/

/-- A crank A edge is marked; without a sensor B no interval has a class. -/
def State.edgeSeen (s : State) (e : Nat) : State := s.modTrk fun z => { z with aEdge := some e, classes := [] }

theorem classEdge_alone {e : Nat} (hb : s.crankB = false) : s.classEdge e = s.edgeSeen e := by
  unfold State.classEdge
  dsimp only
  split
  · rfl
  next c hc =>
    split at hc
    · simp [hb] at hc
    · cases hc

/-- Only LANE_P is in use, and it is the active one. -/
structure SingleLane (s : State) : Prop where
  active : s.actLane = false
  alone : s.crankB = false
  off : s.on TRK_LANE_CFG_S_EN = false

theorem crankEdge_single {e : Nat} (h : SingleLane s) (hst : s.trk.out.st ≠ 6) : s.crankEdge false e = (s.edgeSeen e).laneEdge false e := by
  have hact : (s.edgeSeen e).actLane = false := h.active
  have hoff : (s.edgeSeen e).on TRK_LANE_CFG_S_EN = false := h.off
  have hst' : (s.edgeSeen e).trk.out.st ≠ 6 := hst
  unfold State.crankEdge
  simp only [Bool.false_eq_true, if_false, classEdge_alone h.alone, hst', hact, hoff]
  rfl

theorem synced_of_sync {l : Lane} (h : l.st = 2 ∨ l.st = 3) : l.synced = true := by
  unfold Lane.synced
  obtain h | h := h <;> rw [h] <;> rfl

theorem not_synced_of_idle {l : Lane} (h : l.st = 0 ∨ l.st = 5) : l.synced = false := by
  unfold Lane.synced
  obtain h | h := h <;> rw [h] <;> rfl

/-- The first edge of a lane in NOSYNC or LOST starts its search, and takes the output to SEEK. -/
theorem laneEdge_first {e : Nat} (h : SingleLane s) (hlane : s.trk.p.st = 0 ∨ s.trk.p.st = 5) (hout : s.trk.out.st = 0 ∨ s.trk.out.st = 5) :
    s.laneEdge false e = ((s.modTrk fun z => { z with lastAcc := some e }).setLane false { st := 1, hist := [e] }).outState 1 := by
  have hsync : (s.lane false).synced = false := not_synced_of_idle (l := s.trk.p) hlane
  have hidle : (s.trk.out.st == 0 || s.trk.out.st == 5) = true := by
    obtain ho | ho := hout <;> rw [ho] <;> rfl
  have hact : (s.modTrk fun z => { z with lastAcc := some e }).actLane = false := h.active
  unfold State.laneEdge
  simp only [hidle, hsync, hact, Bool.false_eq_true, if_false]
  rfl

theorem laneEdge_first_left {e : Nat} (h : SingleLane s) (hlane : s.trk.p.st = 0 ∨ s.trk.p.st = 5)
    (hout : s.trk.out.st = 0 ∨ s.trk.out.st = 5) : (s.laneEdge false e).trk.p.st = 1 ∧ (s.laneEdge false e).trk.p.hist = [e] ∧
    (s.laneEdge false e).trk.out.st = 1 ∧ (s.laneEdge false e).trkIn = s.trkIn := by
  have hstep := outState_outStep (s := (s.modTrk fun z => { z with lastAcc := some e }).setLane false { st := 1, hist := [e] }) 1
  rw [laneEdge_first h hlane hout, hstep.laneP]
  exact ⟨rfl, rfl, outState_st 1, hstep.trkIn⟩

/-- An edge of a lane in synchronisation is judged by its window. -/
theorem laneEdge_synced {e : Nat} (hlane : s.trk.p.st = 2 ∨ s.trk.p.st = 3) (hout : s.trk.out.st = 2 ∨ s.trk.out.st = 3) :
    s.laneEdge false e = s.syncEdgeN 4 false e := by
  have hsync : (s.lane false).synced = true := synced_of_sync (l := s.trk.p) hlane
  have hidle : (s.trk.out.st == 0 || s.trk.out.st == 5) = false := by
    obtain ho | ho := hout <;> rw [ho] <;> rfl
  have hst : (s.lane false).st = 2 ∨ (s.lane false).st = 3 := hlane
  unfold State.laneEdge
  obtain hp | hp := hst <;> simp [hsync, hidle, hp]

/-- An edge in the window of a lane's next tooth, which no gap precedes (R166, R167). -/
structure InWindow (s : State) (x : Bool) (e : Nat) : Prop where
  sync : (s.lane x).synced = true
  free : (s.lane x).cand = none
  plain : s.gapAfter ((s.lane x).g.r.pos, (s.lane x).g.r.half) = false
  fast : s.cranking = false
  lo : s.rd TRK_WIN_WIN_LO * (s.lane x).g.r.tp ≤ 64 * (e - (s.lane x).g.r.t)
  sure : s.rd TRK_CONF_CONF_LO * (s.lane x).g.r.tp ≤ 64 * (e - (s.lane x).g.r.t)
  hi : 64 * (e - (s.lane x).g.r.t) ≤ s.rd TRK_WIN_WIN_HI * (s.lane x).g.r.tp

theorem syncEdge_inWindow {x : Bool} {e : Nat} (h : InWindow s x e) (n : Nat) :
    s.syncEdgeN (n + 1) x e = s.laneAccept x e false false := by
  obtain ⟨hsync, hfree, hplain, hfast, hlo, hsure, hhi⟩ := h
  have hbound : s.highBound (s.lane x).g.r = s.rd TRK_WIN_WIN_HI := by
    unfold State.highBound
    rw [hplain, hfast]
    rfl
  unfold State.syncEdgeN
  dsimp only
  rw [hsync, hfree, hplain, hfast, hbound]
  simp [Nat.not_lt.2 hlo, Nat.not_lt.2 hsure, hhi]

/-- A position that is not the last before the mark, on a wheel without an extra tooth, is followed by the next. -/
theorem nextElem_plain {full : Bool} {k : Nat} (hwheel : s.extraTooth = false) (hk : k + 1 ≤ s.lastPos) :
    s.nextElem full (k, false) = (k + 1, false) ∧ s.gapAfter (k, false) = false := by
  have hlast : s.lastPos ≤ s.wheelN - 1 := Nat.sub_le _ _
  have hmod : k % s.wheelN = k := Nat.mod_eq_of_lt (by omega)
  have hpos : (k + 1) % s.posMod full = k + 1 := by
    refine Nat.mod_eq_of_lt ?_
    unfold State.posMod
    split <;> omega
  have hne : k ≠ s.lastPos := by omega
  refine ⟨?_, ?_⟩
  · unfold State.nextElem State.isSplit State.nextPos
    rw [hwheel, hmod, if_neg hne, hpos]
    rfl
  · unfold State.gapAfter
    rw [hmod]
    exact beq_false_of_ne hne

end

end Sys2Proof.Machine
end


section
/-! Proof about the tracker's edges, concluded: the next tooth, the candidate, the commands, and the obligation. -/

namespace Sys2Proof.Machine

open Reg

section

variable {s a b u : State}

/-! ### The next tooth (R166, R171) -/

/-- An interval that is not slower than STALL_RPM goes on. -/
theorem goesOn_of_le {virt : Bool} {w iv : Nat} (h : s.stallRpm * (iv * 2 ^ 23) ≤ 16 * 60 * 400000000 * w) : s.goesOn virt w iv :=
  .inr (decide_eq_false (Nat.not_lt.2 h))

/-- What the acceptance of a tooth on time leaves in LANE_P and the registers. -/
theorem laneAccept_left {x : Bool} {t : Nat} (late : Bool)
    (h : s.stallRpm * ((t - (s.lane x).g.r.t) * 2 ^ 23) ≤ 16 * 60 * 400000000 * (s.lane x).g.r.w) :
    ((s.laneAccept x t false late).lane x).cand = none ∧ ((s.laneAccept x t false late).lane x).g.r.t = t ∧
    ((s.laneAccept x t false late).lane x).miss = 0 ∧ ((s.laneAccept x t false late).lane x).g.r.pos = (s.laneNext x).1 ∧
    (s.laneAccept x t false late).trk.lastAcc = some t ∧ ((s.laneAccept x t false late).lane x).hist.head? = some t := by
  obtain ⟨hlane, hacc, -⟩ := laneAccept_took late (virt := false) (goesOn_of_le h)
  obtain ⟨htime, hpos, hcand, hmiss, hhist⟩ := laneThen_left (s := s) x t false
  rw [hlane, htime, hpos, hcand, hmiss, hhist]
  exact ⟨rfl, rfl, rfl, rfl, hacc, rfl⟩

/-- The tooth that follows position `k`, in its window, is shown in the registers. -/
theorem crankEdge_next {e : Nat} (h : SingleLane s) (hout : s.trk.out.st = 2 ∨ s.trk.out.st = 3) (hfail : s.trk.failed = none)
    (hlane : s.trk.p.st = 2 ∨ s.trk.p.st = 3) (hwin : InWindow s false e) (hwheel : s.extraTooth = false) (hhalf : s.trk.p.g.r.half = false)
    (hlast : s.trk.p.g.r.pos + 1 ≤ s.lastPos)
    (hfast : s.stallRpm * ((e - s.trk.p.g.r.t) * 2 ^ 23) ≤ 16 * 60 * 400000000 * s.trk.p.g.r.w) :
    (s.crankEdge false e).trk.p.g.r.t = e ∧ (s.crankEdge false e).trk.p.g.r.pos = s.trk.p.g.r.pos + 1 ∧
    (s.crankEdge false e).trk.p.miss = 0 ∧ (s.crankEdge false e).trk.p.hist.head? = some e ∧ (s.crankEdge false e).trk.lastAcc = some e ∧
    (s.crankEdge false e).rd TRK_TOOTH_POS = s.trk.p.g.r.pos + 1 ∧ (s.crankEdge false e).rd TRK_TT_LO_T = e % 2 ^ 32 ∧
    (s.crankEdge false e).rd TRK_PRED_T_PRED = (s.crankEdge false e).trk.p.g.r.tp % 2 ^ 32 := by
  have hseen : InWindow (s.edgeSeen e) false e := ⟨hwin.sync, hwin.free, hwin.plain, hwin.fast, hwin.lo, hwin.sure, hwin.hi⟩
  have heq : s.crankEdge false e = (s.edgeSeen e).laneAccept false e false false := by
    rw [crankEdge_single h (by omega), laneEdge_synced (s := s.edgeSeen e) hlane hout, syncEdge_inWindow hseen]
  have hnext : (s.edgeSeen e).laneNext false = (s.trk.p.g.r.pos + 1, false) := by
    have helem : (s.edgeSeen e).laneNext false = s.nextElem (s.trk.p.base == 3) (s.trk.p.g.r.pos, s.trk.p.g.r.half) := rfl
    rw [helem, hhalf, (nextElem_plain hwheel hlast).1]
  have hpos : s.trk.p.g.r.pos + 1 < 2 ^ 10 := by
    have hN : s.wheelN < 2 ^ 9 := rd_lt s TRK_CRANK_CFG_N_POS
    have hle : s.lastPos ≤ s.wheelN := (Nat.sub_le _ _).trans (Nat.sub_le _ _)
    omega
  obtain ⟨-, htime, hmiss, hk, hacc, hhist⟩ := laneAccept_left (s := s.edgeSeen e) (x := false) (t := e) false hfast
  obtain ⟨hlane', -, -⟩ := laneAccept_took (s := s.edgeSeen e) (x := false) (t := e) (virt := false) false (goesOn_of_le hfast)
  obtain ⟨hp, ht, hpred⟩ := laneAccept_shown (s := s.edgeSeen e) (x := false) (t := e) (virt := false) false (goesOn_of_le hfast)
    h.active.symm hfail
  obtain ⟨hrt, hrp, -, -, -⟩ := laneThen_left (s := s.edgeSeen e) false e false
  rw [hnext] at hk hrp
  rw [hrp, Nat.mod_eq_of_lt hpos] at hp
  rw [hrt] at ht
  rw [← hlane'] at hpred
  rw [heq]
  exact ⟨htime, hk, hmiss, hhist, hacc, hp, ht, hpred⟩

/-- The first edge of LANE_P in NOSYNC or LOST, no other lane in use (R160). -/
theorem crankEdge_first {e : Nat} (h : SingleLane s) (hlane : s.trk.p.st = 0 ∨ s.trk.p.st = 5) (hout : s.trk.out.st = 0 ∨ s.trk.out.st = 5) :
    (s.crankEdge false e).trk.p.st = 1 ∧ (s.crankEdge false e).trk.p.hist = [e] ∧ (s.crankEdge false e).trk.out.st = 1 ∧
    (s.crankEdge false e).trkIn = s.trkIn := by
  rw [crankEdge_single h (by omega)]
  exact laneEdge_first_left (s := s.edgeSeen e) ⟨h.active, h.alone, h.off⟩ hlane hout

/-- A candidate held past MERGE_HI is accepted (R167). -/
theorem candConfirm_due {x : Bool} {tc : Nat} (hcand : (s.lane x).cand = some tc) (hsync : (s.lane x).synced = true)
    (hdue : s.rd TRK_CONF_MERGE_HI * (s.lane x).g.r.tp ≤ 64 * (s.tb - (s.lane x).g.r.t)) :
    s.candConfirm x = (s.setLane x { s.lane x with cand := none }).laneAccept x tc false true := by
  unfold State.candConfirm
  dsimp only
  rw [hcand]
  dsimp only
  rw [hsync, decide_eq_true hdue]
  rfl

/-- The candidate accepted becomes the lane's next tooth. -/
theorem candidate_left {x : Bool} {tc : Nat}
    (hfast : s.stallRpm * ((tc - (s.lane x).g.r.t) * 2 ^ 23) ≤ 16 * 60 * 400000000 * (s.lane x).g.r.w) :
    let b := (s.setLane x { s.lane x with cand := none }).laneAccept x tc false true
    (b.lane x).cand = none ∧ (b.lane x).g.r.t = tc ∧ (b.lane x).miss = 0 ∧ (b.lane x).g.r.pos = (s.laneNext x).1 ∧
    b.trk.lastAcc = some tc := by
  have hlane : (s.setLane x { s.lane x with cand := none }).lane x = { s.lane x with cand := none } := setLane_lane _ _
  have hnext : (s.setLane x { s.lane x with cand := none }).laneNext x = s.laneNext x := by
    unfold State.laneNext
    rw [hlane]
    rfl
  obtain ⟨hcand, htime, hmiss, hpos, hacc, -⟩ := laneAccept_left (s := s.setLane x { s.lane x with cand := none }) (x := x) (t := tc) true
    (by rw [hlane]; exact hfast)
  exact ⟨hcand, htime, hmiss, hpos.trans (by rw [hnext]), hacc⟩

/-! ### The commands -/

theorem keep_trk (a b : State) : (a.keep b).trk = b.trk := rfl
theorem keep_trkIn (a b : State) : (a.keep b).trkIn = b.trkIn := rfl
theorem keep_lane (a b : State) (x : Bool) : (a.keep b).lane x = b.lane x := rfl

variable {t : Nat}

theorem exec_crankEdge_taken {cb : Bool} {e : Nat} (ha : a = s.advance t) (hok : trkOk a = true) (h : (a.trkTake (b2n cb)).1 = some e) :
    exec (.trkCrankEdge t cb) s = .next (a.keep ((a.trkTake (b2n cb)).2.trkTickBefore.crankEdge cb e)) := by
  rw [exec_trkCrankEdge, execTrkCrankEdge, act_at ha hok, trkTake_some h]

theorem exec_camEdge_taken {cb : Bool} {e : Nat} (ha : a = s.advance t) (hok : trkOk a = true) (h : (a.trkTake (2 + b2n cb)).1 = some e) :
    exec (.trkCamEdge t cb) s = .next (a.keep ((a.trkTake (2 + b2n cb)).2.trkTick.camEdge e cb)) := by
  rw [exec_trkCamEdge, execTrkCamEdge, act_at ha hok, trkTake_some h]

theorem exec_haltLimit_passed {x : Bool} (ha : a = s.advance t) (hok : trkOk a = true) (h : a.trkTickBefore.limitPassed x = true) :
    exec (.haltLimit t x) s = .next (a.keep (a.trkTickBefore.haltLimit x)) := by
  rw [exec_haltLimit, execHaltLimit, act_at ha hok]
  dsimp only
  rw [if_pos h]

theorem exec_trkStall_due (ha : a = s.advance t) (hok : trkOk a = true)
    (hlim : a.trkTickBefore.limitPassed a.trkTickBefore.actLane = false) (hst : a.trkTickBefore.trk.out.st ≠ 5)
    (hstall : a.trkTickBefore.trkTick.stalled = true) : exec (.trkStall t) s = .next (a.keep a.trkTickBefore.trkTick.goStall) := by
  have hst' : a.trkTickBefore.trkTick.trk.out.st ≠ 5 := fun h => hst ((trkTickTo_st _).symm.trans h)
  rw [exec_trkStall, execTrkStall, act_at ha hok]
  simp only [hlim, Bool.false_eq_true, if_false]
  rw [beq_false_of_ne hst', hstall]
  rfl

theorem exec_candidateConfirm_due {x : Bool} {tc : Nat} (ha : a = s.advance t) (hok : trkOk a = true) (hu : u = a.trkTickBefore)
    (hcand : (u.lane x).cand = some tc) (hsync : (u.lane x).synced = true)
    (hdue : u.rd TRK_CONF_MERGE_HI * (u.lane x).g.r.tp ≤ 64 * (u.tb - (u.lane x).g.r.t)) :
    exec (.candidateConfirm t x) s = .next (a.keep ((u.setLane x { u.lane x with cand := none }).laneAccept x tc false true)) := by
  rw [exec_candidateConfirm, execCandidateConfirm, act_at ha hok, ← hu, candConfirm_due hcand hsync hdue]

/-- Micro-ticks run where the tracker's own output is the one in use. -/
theorem exec_microTick_own (ha : a = s.advance t) (hok : trkOk a = true) (hown : a.follow = none) :
    exec (.microTick t) s = .next (a.keep a.trkTick) := by
  obtain ⟨htbd, hrun⟩ := Bool.and_eq_true_iff.1 hok
  have hf : a.trkTick.follow = none := (trkTickTo_outStep a a.tb).follow.trans hown
  rw [exec_microTick, execMicroTick, act_at ha htbd, hrun, if_pos rfl, State.asFollower, hf]

/-- What micro-ticks leave of an output that moves with its generator, short of a wrap. -/
theorem trkTick_left {n x : Nat} (hst : s.trk.out.st = 2 ∨ s.trk.out.st = 3) (he : s.trk.out.e = 0) (hahead : s.trk.out.ahead = 0)
    (hn : n = (s.tb - s.trk.out.g.at_) / 4) (hx : x = min (s.trk.out.g.d + n * s.trk.out.g.inc) ((s.trk.out.g.r.w - 1) * 2 ^ 24))
    (hwrap : s.trk.out.ang + x / 2 ^ 24 < s.outM) :
    s.trkTick.trk.out.g.d = x ∧ s.trkTick.trk.out.g.at_ = s.trk.out.g.at_ + 4 * n ∧
    s.trkTick.trk.out.ang = s.trk.out.ang + (x / 2 ^ 24 - s.trk.out.g.d / 2 ^ 24) ∧ s.trkTick.trk.out.st = s.trk.out.st := by
  have hrun : (s.trk.out.g.run s.tb).d = x := by rw [hx, hn]; rfl
  have hout : s.trkTick.trk.out = { s.trk.out with
      g := s.trk.out.g.run s.tb,
      ang := (s.trk.out.ang + ((s.trk.out.g.run s.tb).d / 2 ^ 24 - s.trk.out.g.d / 2 ^ 24)) % s.outM } :=
    outTickTo_out (s := s.lanesTicked s.tb) (valid_of_synced hst) he hahead
  rw [hout]
  refine ⟨hrun, by rw [hn]; rfl, ?_, rfl⟩
  rw [hrun]
  exact Nat.mod_eq_of_lt (by omega)

end

/-- Settles O13: each command acts at the instant `a`, on the state after its micro-ticks. -/
theorem trackerEdges : Obligations.TrackerEdges := by
  intro s a t ha hok
  refine ⟨fun cb e htake => ?crank, fun e htake hact hb hs hlane hout _ => ?first,
    fun e u htake hu hact hb hs hout hfail hlane hcand _ hwheel hhalf hlast hslow hlo hsure hhi hfast => ?next,
    fun cb e u htake hu hon hpos hv => ?camKept, fun cb e htake => ?cam,
    fun u j hu hon hbase htooth hmet hnear hpast hfrom hopen => ?window,
    fun u x tc hu hcand hsync hdue => ?confirm, fun u x tc hu hcand hsync hdue hfast => ?candidate,
    fun u hu hst he hahead hheld => ?halted, fun u x hu hlim => ?limit,
    fun u x hu hlim htol hgap h0 hx hother => ?lost, fun u x hu hlim htol hgap h0 hcounts => ?virtual,
    fun u v hu hv hlim hst hstall => ?stall, fun u v hu hv hlim hst hstall => ?stalled,
    fun hown => ?tick, fun n x hown hst he hahead hn hx _ hwrap => ?moved⟩
  case crank => exact exec_crankEdge_taken ha hok htake
  case first =>
    obtain ⟨l, hl⟩ := trkTake_left a 0
    have htick : (a.trkTake 0).2.trkTickBefore = ({ a with trkIn := l } : State).lanesTicked (a.tb - 1) := by
      rw [hl]
      exact trkTickTo_invalid (s := { a with trkIn := l }) (invalid_of_idle hout)
    have hsingle : SingleLane (({ a with trkIn := l } : State).lanesTicked (a.tb - 1)) := ⟨hact, hb, hs⟩
    have hwait : (a.trkTake 0).2.trkTickBefore.trkIn = (a.trkTake 0).2.trkIn := by
      rw [htick, hl]
      rfl
    obtain ⟨hst, hhist, hseek, hin⟩ := crankEdge_first (e := e) hsingle ((ticked_st a.trk.p (a.tb - 1)).symm ▸ hlane) hout
    rw [← htick] at hst hhist hseek hin
    refine ⟨_, exec_crankEdge_taken (cb := false) ha hok htake, ?_⟩
    simp only [keep_trk, keep_trkIn]
    exact ⟨hst, hhist, hseek, hin.trans hwait⟩
  case next =>
    subst hu
    have hplain : (a.trkTake 0).2.trkTickBefore.gapAfter
        ((a.trkTake 0).2.trkTickBefore.trk.p.g.r.pos, (a.trkTake 0).2.trkTickBefore.trk.p.g.r.half) = false := by
      rw [hhalf]
      exact (nextElem_plain (full := false) hwheel hlast).2
    refine ⟨_, exec_crankEdge_taken (cb := false) ha hok htake, ?_⟩
    simp only [keep_trk, keep_rd]
    exact crankEdge_next ⟨hact, hb, hs⟩ hout hfail hlane ⟨synced_of_sync hlane, hcand, hplain, hslow, hlo, hsure, hhi⟩
      hwheel hhalf hlast hfast
  case camKept =>
    subst hu
    have hkept : (a.trkTake (2 + b2n cb)).2.trkTick.trkIn = (a.trkTake (2 + b2n cb)).2.trkIn := (trkTickTo_outStep _ _).trkIn
    refine ⟨_, exec_camEdge_taken ha hok htake, ?_⟩
    rw [camEdge_unsynced hon hpos hv]
    exact ⟨rfl, rfl, hkept⟩
  case cam => exact exec_camEdge_taken ha hok htake
  case window =>
    subst hu
    refine ⟨_, (exec_camWindowClose t j s).trans (act_at ha hok), ?_⟩
    simp only [keep_trk, keep_rd]
    exact camClose_left ⟨hon, hbase, htooth, hpast, hnear, hfrom, hopen⟩ hmet
  case confirm => exact exec_candidateConfirm_due ha hok hu hcand hsync hdue
  case candidate =>
    refine ⟨_, exec_candidateConfirm_due ha hok hu hcand hsync hdue, ?_⟩
    simp only [keep_lane, keep_trk]
    exact candidate_left hfast
  case halted =>
    subst hu
    refine ⟨_, (exec_trkHalted t s).trans (act_at ha hok), ?_⟩
    simp only [keep_trk, keep_rd]
    exact goHalted_left hst he hahead hheld
  case limit =>
    subst hu
    exact exec_haltLimit_passed ha hok hlim
  case lost =>
    subst hu
    refine ⟨_, exec_haltLimit_passed ha hok hlim, ?_⟩
    simp only [keep_lane, keep_trk, keep_rd]
    exact haltLimit_lost_left htol (atGap_false hgap h0) hx hother
  case virtual =>
    subst hu
    refine ⟨_, exec_haltLimit_passed ha hok hlim, ?_⟩
    simp only [keep_lane, keep_rd]
    exact haltLimit_virtual_left htol (atGap_false hgap h0) hcounts
  case stall =>
    subst hu hv
    exact exec_trkStall_due ha hok hlim hst hstall
  case stalled =>
    subst hu hv
    exact ⟨_, exec_trkStall_due ha hok hlim hst hstall, goStall_left _⟩
  case tick => exact exec_microTick_own ha hok hown
  case moved => exact ⟨_, exec_microTick_own ha hok hown, trkTick_left hst he hahead hn hx hwrap⟩

end Sys2Proof.Machine
end


section
/-! What the steps of channels leave of the event table: its slots, its words in memory, and the registers of its page. -/

namespace Sys2Proof.Machine

open Reg

/-! ### Levels and events, whatever register is asked about (R229, R233) -/

/-- The keys in `P` hold no field of OUT and no latch: a change of a level writes no others. -/
def NoLevel (P : Nat → Prop) : Prop := NoOut P ∧ ∀ k, P k → k / 131072 ≠ 0x80

/-- The keys in `P` lie on pages below the tiles. -/
def BelowTiles (P : Nat → Prop) : Prop := ∀ k, P k → k / 131072 < 0x20

theorem BelowTiles.not_tile {P : Nat → Prop} (h : BelowTiles P) {f : Field} {t : Nat} (hf : f.page = 0x20 + t) : ¬ P f.key := by
  intro hk
  have := h _ hk
  unfold Field.key at this
  omega

theorem BelowTiles.noLevel {P : Nat → Prop} (h : BelowTiles P) : NoLevel P :=
  ⟨fun k hk => by have := h k hk; omega, fun k hk => by have := h k hk; omega⟩

section

variable {P : Nat → Prop} {s : State} {p k : Nat}

theorem latchRiseOf_stillOff (h : NoLevel P) : Still P s (s.latchRiseOf p) := by
  have hput (u : State) (n : Nat) (b : Bool) : Still P u (u.putLatch n b) := by
    refine wr_still _ fun hk => h.2 _ hk ?_
    unfold latchField
    split <;> decide
  unfold State.latchRiseOf
  split
  · exact .foldl (fun _ _ _ => .ite (hput _ _ _) (.refl _)) s
  · exact .refl s

theorem chEdge_stillOff (h : NoLevel P) (s0 : State) (up was soft : Bool) : Still P s (s.chEdge s0 p up was soft) := by
  have hoff : Still P s ((s.chevOf p 11).softOff s0 p) :=
    (softOff_still (h.1.not (by decide)) (h.1.not (by decide)) _ _).after (chevOf_still _ _)
  have hup : Still P s (((s.chevOf p 10).softRise p).latchRiseOf p) :=
    (latchRiseOf_stillOff h).after ((chevOf_still p 10).trans (.same rfl rfl rfl rfl))
  exact .ite hup (.ite (.ite hoff (chevOf_still _ _)) (.refl s))

theorem pipeAct_stillOff (h : NoLevel P) (act : Nat) (soft : Bool) : Still P s (s.pipeAct p act soft) := by
  have hset (u : State) (env car : Bool) : Still P u (u.chSet p env car soft) := by
    rw [chSet_eq]
    exact (follow_still _).after <| (chEdge_stillOff h _ _ _ _).after (chLevels_still _ _ _)
  exact (hset _ _ _).after (unsafe_still p act)

theorem chEvent_stillBelow (hf : NoFault P) (h : BelowTiles P) : Still P s (s.chEvent p k) := by
  have htile (f : Field) (hp : f.page = 0x20 + p / 24) : ¬ P f.key := h.not_tile hp
  by_cases hd : s.dead p = true
  · rw [State.chEvent, if_pos hd]
    exact .refl s
  by_cases hn : s.evCount p k < 3
  · rw [chEvent_counted (by simpa using hd) hn]
    exact (svc_still _).after <| (chevOf_still _ _).after <| (wr_still _ (htile _ rfl)).after (sepia_still _ _)
  · rw [State.chEvent, if_neg hd, if_neg hn]
    exact .ite ((raise_still hf _ _ _).after (chErr_still (htile _ rfl) (htile _ rfl))) (.ite (inc_still (htile _ rfl)) (.refl s))

end

/-! ### The table and its memory -/

/-- The slots of the pipeline and the memory stand. -/
structure TableKept (s s' : State) : Prop where
  evt : s'.evt = s.evt
  mem : s'.mem = s.mem

section

variable {s a b c : State} {p k : Nat}

theorem TableKept.refl (s : State) : TableKept s s := ⟨rfl, rfl⟩

theorem TableKept.after (k : TableKept b c) (h : TableKept a b) : TableKept a c := ⟨k.evt.trans h.evt, k.mem.trans h.mem⟩

theorem TableKept.ite {q : Prop} [Decidable q] (h : TableKept s a) (k : TableKept s b) : TableKept s (if q then a else b) := by
  split
  · exact h
  · exact k

theorem TableKept.foldl {α : Type} {l : List α} {f : State → α → State} (h : ∀ s x, TableKept s (f s x)) (s : State) :
    TableKept s (l.foldl f s) :=
  List.foldlRecOn (motive := fun r => TableKept s r) l f (.refl s) fun r hr x _ => (h r x).after hr

theorem FltFrame.table (h : FltFrame a b) : TableKept a b := ⟨by rw [h], by rw [h]⟩

theorem sepia_table (n : Nat) : TableKept s (s.sepia p n) := by
  unfold State.sepia
  exact .ite (.refl s) ⟨rfl, rfl⟩

theorem chans_table (u : State) (t : Tab Chan) : TableKept u { u with chans := t } := ⟨rfl, rfl⟩

theorem wr_table (f : Field) (v : Nat) : TableKept s (s.wr f v) := ⟨rfl, rfl⟩

theorem pulse_table (n : Nat) : TableKept s (s.pulse n) := ⟨rfl, rfl⟩

theorem softRise_table : TableKept s (s.softRise p) := ⟨rfl, rfl⟩

theorem setChan_table (x : Chan) : TableKept s (s.setChan p x) := (chans_table _ _).after (sepia_table _)

theorem chevOf_table (e : Nat) : TableKept s (s.chevOf p e) := by
  unfold State.chevOf
  split
  · exact .foldl (fun _ _ => .ite (pulse_table _) (.refl _)) s
  · exact .refl s

theorem follow_table (s0 : State) : TableKept s (s.follow_ s0) := .ite (.refl s) ⟨rfl, rfl⟩

theorem latchRiseOf_table : TableKept s (s.latchRiseOf p) := by
  unfold State.latchRiseOf
  split
  · exact .foldl (fun _ _ => .ite (wr_table _ _) (.refl _)) s
  · exact .refl s

theorem softOff_table (s0 : State) : TableKept s (s.softOff s0 p) := by
  unfold State.softOff
  split
  · exact .refl s
  · exact .ite (.refl s) ⟨rfl, rfl⟩

theorem chSet_table (env car soft : Bool) : TableKept s (s.chSet p env car soft) := by
  have hlevels : TableKept s (s.chLevels p env car) := .ite ((setChan_table _).after (setChan_table _)) (setChan_table _)
  have hrise (u : State) : TableKept u ((u.chevOf p 10).softRise p) := softRise_table.after (chevOf_table 10)
  have hedge (u : State) (up was : Bool) : TableKept u (u.chEdge s p up was soft) :=
    .ite (latchRiseOf_table.after (hrise u)) (.ite (.ite ((softOff_table s).after (chevOf_table 11)) (chevOf_table 11)) (.refl u))
  rw [chSet_eq]
  exact (follow_table _).after <| (hedge _ _ _).after hlevels

theorem pipeAct_table (act : Nat) (soft : Bool) : TableKept s (s.pipeAct p act soft) := by
  have hhold (u : State) : TableKept u (u.holdChan p) := by
    unfold State.holdChan
    split
    · exact ⟨rfl, rfl⟩
    · exact .refl u
  exact (chSet_table _ _ _).after (.ite (.refl s) ((hhold _).after (setChan_table _)))

theorem svc_table : TableKept s (s.svc p) := by
  unfold State.svc
  split
  · exact .refl s
  · exact .ite (.ite (.refl s) ⟨rfl, rfl⟩) ⟨rfl, rfl⟩

theorem chEvent_table : TableKept s (s.chEvent p k) := by
  have hcount (n : Nat) : TableKept s (s.putCount_ p k n) := (wr_table _ _).after (sepia_table 1)
  have herr (f : Field) : TableKept s (s.chErr p f) := ⟨rfl, rfl⟩
  by_cases hd : s.dead p = true
  · rw [State.chEvent, if_pos hd]
    exact .refl s
  by_cases hn : s.evCount p k < 3
  · rw [chEvent_counted (by simpa using hd) hn]
    exact svc_table.after <| (chevOf_table k).after (hcount _)
  · rw [State.chEvent, if_neg hd, if_neg hn]
    exact .ite ((raise_frame _ _ _ _).table.after (herr _)) (.ite ⟨rfl, rfl⟩ (.refl s))

end

/-! ### Steps beside the pipeline -/

/-- Keys of the pipeline's page apart from PG_FAULT, which messages write. -/
def evtPage (k : Nat) : Prop := k / 131072 = 0x19 ∧ k / 32 % 4096 ≠ 0x1C

theorem evtPage_noFault : NoFault evtPage := ⟨fun _ h => h.2, by unfold evtPage; decide⟩

theorem evtPage_below : BelowTiles evtPage := fun k h => by unfold evtPage at h; omega

/-- A step beside the pipeline: the registers of its page, its slots, and the memory stand. -/
structure EvtKept (s s' : State) : Prop where
  still : Still evtPage s s'
  table : TableKept s s'

section

variable {s a b c : State} {p k : Nat}

theorem EvtKept.same (hr : b.regs = a.regs) (ht : b.tb = a.tb) (hp : b.pwr = a.pwr) (hg : b.gel = a.gel) (he : b.evt = a.evt)
    (hm : b.mem = a.mem) : EvtKept a b := ⟨.same hr ht hp hg, he, hm⟩

theorem EvtKept.refl (s : State) : EvtKept s s := ⟨.refl s, .refl s⟩

theorem EvtKept.after (k : EvtKept b c) (h : EvtKept a b) : EvtKept a c := ⟨k.still.after h.still, k.table.after h.table⟩

theorem EvtKept.ite {q : Prop} [Decidable q] (h : EvtKept s a) (k : EvtKept s b) : EvtKept s (if q then a else b) := by
  split
  · exact h
  · exact k

theorem EvtKept.foldl {α : Type} {l : List α} {f : State → α → State} (h : ∀ s, ∀ x ∈ l, EvtKept s (f s x)) (s : State) :
    EvtKept s (l.foldl f s) :=
  List.foldlRecOn (motive := fun r => EvtKept s r) l f (.refl s) fun r hr x hx => (h r x hx).after hr

theorem setChan_evtKept (x : Chan) : EvtKept s (s.setChan p x) := ⟨setChan_still _ _, setChan_table _⟩

theorem release_evtKept : EvtKept s (s.release p) := .ite (.refl s) (setChan_evtKept _)

theorem chEvent_evtKept : EvtKept s (s.chEvent p k) := ⟨chEvent_stillBelow evtPage_noFault evtPage_below, chEvent_table⟩

theorem pipeAct_evtKept (act : Nat) (soft : Bool) : EvtKept s (s.pipeAct p act soft) :=
  ⟨pipeAct_stillOff evtPage_below.noLevel _ _, pipeAct_table _ _⟩

/-- A pin action with its PACT event (R204, R233). -/
theorem pinPact_evtKept (act : Nat) : EvtKept s (s.pinPact p act) :=
  chEvent_evtKept.after <| (pipeAct_evtKept _ _).after (setChan_evtKept _)

theorem pulseStart_evtKept (at16 : Nat) (o : Occ) : EvtKept s (s.pulseStart p at16 o) :=
  .ite (.refl s) ((pinPact_evtKept _).after (setChan_evtKept _))

theorem pulseAStart_evtKept (at16 : Nat) (o : Occ) : EvtKept s (s.pulseAStart p at16 o) := by
  unfold State.pulseAStart
  split
  · exact pulseStart_evtKept _ _
  · exact (pinPact_evtKept _).after (setChan_evtKept _)

theorem srqFire_evtKept (at16 : Nat) (o : Occ) : EvtKept s (s.srqFire p at16 o) := by
  have hsrq (u : State) (t x : Nat) : EvtKept u (u.srqEvent p t x) := chEvent_evtKept.after (.ite (setChan_evtKept _) (.refl u))
  have hmark : EvtKept s ((s.pipeMark p).srqEvent p (at16 / 16) o.e.param) := (hsrq _ _ _).after (setChan_evtKept _)
  exact .ite ((pipeAct_evtKept _ _).after <| (setChan_evtKept _).after <| (setChan_evtKept _).after hmark)
    ((setChan_evtKept _).after hmark)

theorem dwellStop_evtKept (spark : Bool) : EvtKept s (s.dwellStop p spark) :=
  .ite ((pinPact_evtKept _).after release_evtKept) ((pipeAct_evtKept _ _).after release_evtKept)

end

end Sys2Proof.Machine
end


section
/-! What firing and cancelling leave in the event table: the counts, the status bits of entries, and the slots. -/

namespace Sys2Proof.Machine

open Reg

/-! ### Bits of a word -/

/-- A bit put, between the bits above it and those below. -/
theorem putBit_eq (w k : Nat) (v : Bool) : putBit w k v = 2 ^ k * (2 * (w / 2 ^ k / 2) + b2n v) + w % 2 ^ k := by
  have hw := Nat.div_add_mod w (2 ^ k)
  have hsplit : 2 ^ k * (w / 2 ^ k) = 2 ^ k * (2 * (w / 2 ^ k / 2)) + w / 2 ^ k % 2 * 2 ^ k := by
    rw [Nat.mul_comm (w / 2 ^ k % 2), ← Nat.mul_add, Nat.div_add_mod]
  unfold putBit bitN
  rw [Nat.mul_add, Nat.mul_comm (2 ^ k) (b2n v)]
  omega

/-- A bit put leaves the others. -/
theorem bit_putBit_ne {w k n : Nat} {v : Bool} (h : n ≠ k) : bit (putBit w k v) n = bit w n := by
  have hlow : w % 2 ^ k < 2 ^ k := Nat.mod_lt _ (Nat.two_pow_pos k)
  have hw : bit w n = (2 ^ k * (w / 2 ^ k) + w % 2 ^ k).testBit n := by rw [Nat.div_add_mod, bit_eq_testBit]
  rw [hw, bit_eq_testBit, putBit_eq, Nat.testBit_two_pow_mul_add _ hlow, Nat.testBit_two_pow_mul_add _ hlow]
  split
  · rfl
  · obtain ⟨m, rfl⟩ : ∃ m, n = k + (m + 1) := ⟨n - k - 1, by omega⟩
    have hhigh : (2 * (w / 2 ^ k / 2) + b2n v) / 2 = w / 2 ^ k / 2 := by
      cases v <;> simp only [b2n, Bool.false_eq_true, if_true, if_false] <;> omega
    rw [Nat.add_sub_cancel_left, Nat.testBit_succ, Nat.testBit_succ, hhigh]

theorem putBit_lt {w k : Nat} {v : Bool} (hk : k < 32) (hw : w < 2 ^ 32) : putBit w k v < 2 ^ 32 := by
  refine Nat.lt_pow_two_of_testBit _ fun n hn => ?_
  rw [← bit_eq_testBit, bit_putBit_ne (by omega), bit_eq_testBit]
  exact Nat.testBit_lt_two_pow (Nat.lt_of_lt_of_le hw (Nat.pow_le_pow_right (by decide) hn))

/-! ### Words 3 of entries (R195) -/

section

variable {s a b : State} {i j : Nat} {f : Nat → Nat}

theorem entry_congr (h : b.mem = a.mem) (i : Nat) : b.entry i = a.entry i := by
  unfold State.entry
  rw [h]

theorem inc_entry (s : State) (g : Field) (i : Nat) : (s.inc g).entry i = s.entry i := entry_congr rfl i

theorem entry3_rd (g : Field) : (s.entry3 i f).rd g = s.rd g := rd_congr rfl g

theorem entryFlag_rd (s : State) (i k : Nat) (g : Field) : (s.entryFlag i k).rd g = s.rd g := entry3_rd g

theorem entryFlag_evt (s : State) (i k : Nat) : (s.entryFlag i k).evt = s.evt := rfl

theorem inc_evt (s : State) (g : Field) : (s.inc g).evt = s.evt := rfl

theorem iflag_entry (s : State) (p k i : Nat) : (s.iflag p k).entry i = s.entry i := entry_congr rfl i

theorem entry3_w3_same (h : f (s.entry i).w3 < 2 ^ 32) : ((s.entry3 i f).entry i).w3 = f (s.entry i).w3 := rdWord_wrWord h

theorem entry3_w3_ne (h : j ≠ i) : ((s.entry3 i f).entry j).w3 = (s.entry j).w3 := by
  have hbyte (x : Nat) (hx : evtBase + 16 * j + 12 ≤ x ∧ x < evtBase + 16 * j + 16) : rdByte (s.entry3 i f).mem x = rdByte s.mem x :=
    rdByte_wrWord_outside (by omega)
  simp only [State.entry, rdWord]
  rw [hbyte _ (by omega), hbyte _ (by omega), hbyte _ (by omega), hbyte _ (by omega)]

/-- A status bit put in word 3 reads back. -/
theorem entry3_putBit {k : Nat} (v : Bool) (hk : k < 32) : bit ((s.entry3 i fun w => putBit w k v).entry i).w3 k = v := by
  rw [entry3_w3_same (putBit_lt hk (rdWord_lt _ _)), bit_putBit]

/-- A status bit that is set outlasts one that is put, unless it is cleared. -/
theorem entry3_status {k n : Nat} {v : Bool} (hk : k < 32) (hv : n = k → v = true)
    (h : bit (s.entry j).w3 n = true) : bit ((s.entry3 i fun w => putBit w k v).entry j).w3 n = true := by
  by_cases hj : j = i
  · subst hj
    by_cases hnk : n = k
    · subst hnk
      rw [entry3_putBit v hk, hv rfl]
    · rw [entry3_w3_same (putBit_lt hk (rdWord_lt _ _)), bit_putBit_ne hnk, h]
  · rw [entry3_w3_ne hj, h]

end

/-! ### Slots (R203) -/

theorem updOcc_some_length (i n : Nat) (x : Occ) (l : List Occ) : (updOcc i n (fun _ => some x) l).length = l.length := by
  induction l with
  | nil => rfl
  | cons o r ih =>
    unfold updOcc
    split
    · rfl
    · exact congrArg Nat.succ ih

theorem updOcc_none_le (i n : Nat) (l : List Occ) : (updOcc i n (fun _ => none) l).length ≤ l.length := by
  induction l with
  | nil => exact Nat.le_refl _
  | cons o r ih =>
    unfold updOcc
    split
    · exact Nat.le_succ _
    · exact Nat.succ_le_succ ih

/-- A slot is freed where its occurrence is pulled. -/
theorem updOcc_none_lt {x : Occ} {l : List Occ} (h : x ∈ l) : (updOcc x.idx x.cyc (fun _ => none) l).length < l.length := by
  induction l with
  | nil => cases h
  | cons o r ih =>
    unfold updOcc
    split
    · exact Nat.lt_succ_self _
    · next ho =>
      obtain rfl | hr := List.mem_cons.1 h
      · exact absurd ⟨rfl, rfl⟩ ho
      · exact Nat.succ_lt_succ (ih hr)

/-! ### What comes after an occurrence's end -/

/-- A step that takes back nothing of an end: firings and cancellations stay counted, flags and status bits set, and no slot is taken. -/
structure EvtOnward (s s' : State) : Prop where
  fired : s'.rd EVT_FIRE_CNT_COUNT = s.rd EVT_FIRE_CNT_COUNT
  cancelled : s'.rd EVT_LATE_CNT_CANCEL = s.rd EVT_LATE_CNT_CANCEL
  flags : ∀ i < 32, bit (s.rd (PG_IFLAG_FLAG 0x19)) i = true → bit (s'.rd (PG_IFLAG_FLAG 0x19)) i = true
  status : ∀ i k, k = 28 ∨ k = 29 → bit (s.entry i).w3 k = true → bit (s'.entry i).w3 k = true
  slots : s'.evt.slots.length ≤ s.evt.slots.length

section

variable {s a b c : State} {p : Nat} {o : Occ}

/-- A step that leaves the registers and the memory, and takes no slot. -/
theorem EvtOnward.same (hr : b.regs = a.regs) (hm : b.mem = a.mem) (hs : b.evt.slots.length ≤ a.evt.slots.length) : EvtOnward a b :=
  ⟨rd_congr hr _, rd_congr hr _, fun _ _ h => by rw [rd_congr hr, h], fun i _ _ h => by rw [entry_congr hm, h], hs⟩

theorem EvtOnward.refl (s : State) : EvtOnward s s := .same rfl rfl (Nat.le_refl _)

theorem EvtOnward.after (k : EvtOnward b c) (h : EvtOnward a b) : EvtOnward a c :=
  ⟨k.fired.trans h.fired, k.cancelled.trans h.cancelled, fun i hi hb => k.flags i hi (h.flags i hi hb),
    fun i n hn hb => k.status i n hn (h.status i n hn hb), Nat.le_trans k.slots h.slots⟩

theorem EvtOnward.ite {q : Prop} [Decidable q] (h : EvtOnward s a) (k : EvtOnward s b) : EvtOnward s (if q then a else b) := by
  split
  · exact h
  · exact k

theorem EvtKept.fires (h : EvtKept a b) : b.rd EVT_FIRE_CNT_COUNT = a.rd EVT_FIRE_CNT_COUNT :=
  h.still.regs _ (by unfold evtPage; decide)

theorem EvtKept.cancels (h : EvtKept a b) : b.rd EVT_LATE_CNT_CANCEL = a.rd EVT_LATE_CNT_CANCEL :=
  h.still.regs _ (by unfold evtPage; decide)

theorem EvtKept.flags (h : EvtKept a b) : b.rd (PG_IFLAG_FLAG 0x19) = a.rd (PG_IFLAG_FLAG 0x19) :=
  h.still.regs _ (by unfold evtPage; decide)

theorem EvtKept.entry (h : EvtKept a b) (i : Nat) : b.entry i = a.entry i := entry_congr h.table.mem i

theorem EvtKept.onward (h : EvtKept a b) : EvtOnward a b :=
  ⟨h.fires, h.cancels, fun i _ hb => by rw [h.flags, hb], fun i k _ hb => by rw [h.entry, hb], by rw [h.table.evt]⟩

theorem entry3_onward {i k : Nat} {v : Bool} (hk : k = 24 ∨ k = 28 ∧ v = true) : EvtOnward s (s.entry3 i fun w => putBit w k v) := by
  refine ⟨entry3_rd _, entry3_rd _, fun _ _ h => by rw [entry3_rd, h],
    fun j n hn h => entry3_status (by omega) (fun he => ?_) h, Nat.le_refl _⟩
  exact (hk.resolve_left (by omega)).2

/-- A slot is freed, and its entry's occurrence counts as over. -/
def State.occOver (s : State) (o : Occ) : State :=
  let s := s.dropOcc o
  { s with evt := { s.evt with ended := tput 0 s.evt.ended o.idx (max (tget 0 s.evt.ended o.idx) (o.cyc + 1)) } }

theorem occEnd_eq (s : State) (o : Occ) (done : Bool) :
    s.occEnd o done =
      if done && bit o.e.w3 25 && ((s.occOver o).entry o.idx).sameAs o.e then (s.occOver o).entry3 o.idx fun w => putBit w 24 false
      else s.occOver o := rfl

theorem occOver_onward : EvtOnward s (s.occOver o) := .same rfl rfl (updOcc_none_le _ _ _)

theorem occEnd_onward (done : Bool) : EvtOnward s (s.occEnd o done) := by
  rw [occEnd_eq]
  exact .ite ((entry3_onward (.inl rfl)).after occOver_onward) occOver_onward

theorem occEnd_slots (done : Bool) : (s.occEnd o done).evt.slots = updOcc o.idx o.cyc (fun _ => none) s.evt.slots := by
  rw [occEnd_eq]
  split <;> rfl

theorem iflag_onward (i : Nat) : EvtOnward s (s.iflag 0x19 i) :=
  ⟨iflag_rd_ne _ _ (by decide), iflag_rd_ne _ _ (by decide), fun _ hj h => iflag_bit_kept _ hj h, fun _ _ _ h => by rw [iflag_entry, h],
    Nat.le_refl _⟩

theorem withdraw_onward : EvtOnward s (s.withdraw o) := by
  have hunload : EvtKept s (s.unload o) := by
    unfold State.unload
    split
    · exact .ite release_evtKept (.refl s)
    · exact .refl s
  have hcount (u : State) : EvtOnward u (u.inc EVT_ABORT_CNT_ABORT) :=
    ⟨inc_rd_ne (by decide), inc_rd_ne (by decide), fun _ _ h => by rw [inc_rd_ne (by decide), h],
      fun _ _ _ h => by rw [inc_entry, h], Nat.le_refl _⟩
  exact (iflag_onward 3).after <| (hcount _).after <| (entry3_onward (.inr ⟨rfl, rfl⟩)).after <|
    (occEnd_onward false).after hunload.onward

theorem setOcc_onward : EvtOnward s (s.setOcc o) :=
  .same rfl rfl (Nat.le_of_eq (updOcc_some_length _ _ _ _))

theorem evtLoadN_onward (n : Nat) : EvtOnward s (s.evtLoadN n p) := by
  induction n generalizing s with
  | zero => exact .refl s
  | succ n ih =>
    unfold State.evtLoadN
    refine .ite (.refl s) ?_
    split
    · exact .refl s
    split
    · exact .refl s
    refine .ite (ih.after withdraw_onward) ?_
    split
    · exact .ite (setOcc_onward.after (setChan_evtKept _).onward) (setChan_evtKept _).onward
    · exact (setChan_evtKept _).onward

theorem evtLoad_onward : EvtOnward s (s.evtLoad p) := evtLoadN_onward 5

theorem nextHead_onward : EvtOnward s (s.nextHead p) := evtLoad_onward.after release_evtKept.onward

/-! ### An occurrence fires (R195, R198) -/

/-- The occurrence of entry `i` has fired: it is counted, FIRED is set, and its slot is free. -/
structure EvtFires (i : Nat) (s s' : State) : Prop where
  count : s'.rd EVT_FIRE_CNT_COUNT = satN 32 (s.rd EVT_FIRE_CNT_COUNT + 1)
  status : bit (s'.entry i).w3 29 = true
  slots : s'.evt.slots.length < s.evt.slots.length

theorem EvtFires.further {i : Nat} (h : EvtFires i a b) (k : EvtOnward b c) : EvtFires i a c :=
  ⟨k.fired.trans h.count, k.status _ _ (.inr rfl) h.status, Nat.lt_of_le_of_lt k.slots h.slots⟩

/-- A step beside the pipeline, and then the occurrence counts as fired. -/
theorem EvtKept.fired (h : EvtKept a b) (ho : o ∈ a.evt.slots) : EvtFires o.idx a (b.fired o) := by
  have hend := occEnd_onward (s := (b.entryFlag o.idx 29).inc EVT_FIRE_CNT_COUNT) (o := o) true
  have hflag : bit (((b.entryFlag o.idx 29).inc EVT_FIRE_CNT_COUNT).entry o.idx).w3 29 = true := by
    rw [inc_entry]
    exact entry3_putBit true (by decide)
  refine ⟨?_, by rw [State.fired]; exact hend.status _ _ (.inr rfl) hflag, ?_⟩
  · rw [State.fired, hend.fired, inc_rd, entryFlag_rd, h.fires]
    rfl
  · have hslots : (b.fired o).evt.slots = updOcc o.idx o.cyc (fun _ => none) b.evt.slots := by
      rw [State.fired, occEnd_slots, inc_evt, entryFlag_evt]
    rw [hslots, h.table.evt]
    exact updOcc_none_lt ho

/-- Only the slots, the memory and the registers differ. -/
def TableFrame (s s' : State) : Prop := s' = { s with evt := s'.evt, mem := s'.mem, regs := s'.regs }

theorem TableFrame.after (k : TableFrame b c) (h : TableFrame a b) : TableFrame a c := by
  unfold TableFrame at *
  rw [k, h]

theorem entry3_frame (i : Nat) (f : Nat → Nat) : TableFrame s (s.entry3 i f) := rfl

theorem occEnd_frame (done : Bool) : TableFrame s (s.occEnd o done) := by
  have hover : TableFrame s (s.occOver o) := rfl
  rw [occEnd_eq]
  split
  · exact (entry3_frame _ _).after hover
  · exact hover

theorem fired_frame : TableFrame s (s.fired o) := by
  have hinc (u : State) : TableFrame u (u.inc EVT_FIRE_CNT_COUNT) := rfl
  exact (occEnd_frame true).after <| (hinc _).after (entry3_frame _ _)

theorem TableFrame.chansKept (h : TableFrame a b) : ChansKept a b := ⟨by rw [h]⟩
theorem TableFrame.cv (h : TableFrame a b) (n : Nat) : b.cv n = a.cv n := by rw [h]; rfl
theorem TableFrame.cyl (h : TableFrame a b) (n : Nat) : b.cyl n = a.cyl n := by rw [h]; rfl
theorem TableFrame.rtr (h : TableFrame a b) : b.rtr = a.rtr := by rw [h]
theorem TableFrame.casc (h : TableFrame a b) : b.casc = a.casc := by rw [h]

/-! ### An occurrence is cancelled (R208) -/

/-- The occurrence of entry `i` is cancelled: it counts and is flagged as such, not as fired, CANCELLED is set, and its slot is free. -/
structure EvtCancels (i : Nat) (s s' : State) : Prop where
  fired : s'.rd EVT_FIRE_CNT_COUNT = s.rd EVT_FIRE_CNT_COUNT
  count : s'.rd EVT_LATE_CNT_CANCEL = satN 16 (s.rd EVT_LATE_CNT_CANCEL + 1)
  flag : bit (s'.rd (PG_IFLAG_FLAG 0x19)) 2 = true
  status : bit (s'.entry i).w3 28 = true
  slots : s'.evt.slots.length < s.evt.slots.length

/-- LATE_REC takes the occurrence (R208). -/
def State.lateRec (s : State) (o : Occ) (v : Verdict) : State :=
  ((s.wr EVT_LATE_REC_CANCEL (b2n v.cancel)).wr EVT_LATE_REC_IDX o.idx).wr EVT_LATE_REC_LAMBDA v.lam

/-- What a cancellation counts and flags. -/
def State.cancelMark (s : State) (o : Occ) (v : Verdict) : State :=
  (((s.lateRec o v).entryFlag o.idx 28).inc EVT_LATE_CNT_CANCEL).iflag 0x19 2

theorem lateMark_cancel {v : Verdict} (hl : v.late = true) (hc : v.cancel = true) :
    s.lateMark o v = s.cancelMark o v ∨ ∃ p, s.lateMark o v = (s.cancelMark o v).chEvent p 9 := by
  unfold State.lateMark State.cancelMark State.lateRec
  rw [if_neg (by rw [hl]; decide)]
  dsimp only
  rw [if_pos hc]
  split
  · exact .inr ⟨_, rfl⟩
  · exact .inl rfl

theorem lateMark_cancelled {v : Verdict} (hl : v.late = true) (hc : v.cancel = true) :
    EvtKept (s.cancelMark o v) (s.lateMark o v) ∧ ChansKept s (s.lateMark o v) := by
  have hmark : ChansKept s (s.cancelMark o v) :=
    (iflag_chansKept _ _).after <| (wr_chansKept _ _).after <| (entryFlag_chansKept _ _).after <| (wr_chansKept _ _).after <|
      (wr_chansKept _ _).after (wr_chansKept _ _)
  obtain h | ⟨p, h⟩ := lateMark_cancel (s := s) (o := o) hl hc
  · rw [h]
    exact ⟨.refl _, hmark⟩
  · rw [h]
    exact ⟨chEvent_evtKept, (chEvent_chansKept _ _).after hmark⟩

/-- An occurrence that is not late leaves no mark. -/
theorem lateMark_onTime {v : Verdict} (hl : v.late = false) : s.lateMark o v = s := by
  unfold State.lateMark
  rw [hl]
  rfl

/-- A cancellation is marked, what follows stands beside the pipeline, and the occurrence ends. -/
theorem cancelled_cancels {v : Verdict} (h : EvtKept (s.cancelMark o v) b) (ho : o ∈ s.evt.slots) :
    EvtCancels o.idx s (b.occEnd o true) := by
  have hend := occEnd_onward (s := b) (o := o) true
  have hrec {f : Field} (h1 : f.key ≠ EVT_LATE_REC_CANCEL.key) (h2 : f.key ≠ EVT_LATE_REC_IDX.key)
      (h3 : f.key ≠ EVT_LATE_REC_LAMBDA.key) : (s.lateRec o v).rd f = s.rd f := by
    unfold State.lateRec
    rw [rd_wr_ne _ _ _ _ h3, rd_wr_ne _ _ _ _ h2, rd_wr_ne _ _ _ _ h1]
  refine ⟨?_, ?_, ?_, ?_, ?_⟩
  · rw [hend.fired, h.fires, State.cancelMark, iflag_rd_ne _ _ (by decide), inc_rd_ne (by decide), entryFlag_rd]
    exact hrec (by decide) (by decide) (by decide)
  · rw [hend.cancelled, h.cancels, State.cancelMark, iflag_rd_ne _ _ (by decide), inc_rd, entryFlag_rd,
      hrec (by decide) (by decide) (by decide)]
    rfl
  · exact hend.flags _ (by decide) (by rw [h.flags]; exact iflag_bit _ _ (by decide))
  · exact hend.status _ _ (.inl rfl) (by
      rw [h.entry, State.cancelMark, iflag_entry, inc_entry]
      exact entry3_putBit true (by decide))
  · rw [occEnd_slots, h.table.evt]
    exact updOcc_none_lt ho

theorem EvtCancels.further {i : Nat} (h : EvtCancels i a b) (k : EvtOnward b c) : EvtCancels i a c :=
  ⟨k.fired.trans h.fired, k.cancelled.trans h.count, k.flags _ (by decide) h.flag, k.status _ _ (.inl rfl) h.status,
    Nat.lt_of_le_of_lt k.slots h.slots⟩

end

end Sys2Proof.Machine
end


section
/-! Proof about occurrences on channels: how one that is loaded fires or is cancelled, and what its actions leave on its channel. -/

namespace Sys2Proof.Machine

open Reg

section

variable {s a u : State} {p q i op k : Nat} {x : Occ} {v : Verdict}

/-! ### The registers of a channel (R204) -/

theorem release_act (p : Nat) : ((s.release p).chan p).act = none := by
  unfold State.release
  dsimp only
  split
  · next h =>
    rw [Bool.and_eq_true] at h
    simpa using h.2
  · rw [setChan_chan]

/-- A channel without an action keeps none when an occurrence is loaded. -/
theorem evtLoadN_idle (n : Nat) (h : (s.chan p).act = none) : ((s.evtLoadN n p).chan p).act = none := by
  have hrelease (u : State) (q : Nat) (hu : (u.chan p).act = none) : ((u.release q).chan p).act = none := by
    by_cases hq : p = q
    · rw [← hq, release_act]
    · unfold State.release
      dsimp only
      split
      · exact hu
      · rw [setChan_chan_ne _ hq, hu]
  have hwithdraw (u : State) (o : Occ) (hu : (u.chan p).act = none) : ((u.withdraw o).chan p).act = none := by
    have hkept : ChansKept (u.unload o) (u.withdraw o) :=
      (iflag_chansKept _ _).after <| (wr_chansKept _ _).after <| (entryFlag_chansKept _ _).after (occEnd_chansKept o)
    rw [hkept.chan]
    unfold State.unload
    split
    · split
      · exact hrelease _ _ hu
      · exact hu
    · exact hu
  induction n generalizing s with
  | zero => exact h
  | succ n ih =>
    unfold State.evtLoadN
    dsimp only
    split
    · exact h
    split
    · exact h
    split
    · exact h
    split
    · exact ih (hwithdraw _ _ h)
    split
    · split
      · rw [(setOcc_chansKept _).chan, setChan_chan]
        exact h
      · rw [setChan_chan]
        exact h
    · rw [setChan_chan]
      exact h

/-- Loading the next occurrence leaves the channel's action, its level and its queue. -/
theorem evtLoad_chan (p : Nat) :
    ((s.evtLoad p).chan p).act = (s.chan p).act ∧ ((s.evtLoad p).chan p).env = (s.chan p).env ∧
    ((s.evtLoad p).chan p).srq = (s.chan p).srq := by
  have hown := (evtLoad_own (s := s) p).own p
  refine ⟨?_, own_env hown, (congrArg Chan.srq hown :)⟩
  cases hact : (s.chan p).act with
  | none => exact evtLoadN_idle 5 hact
  | some y =>
    have hbusy : s.evtLoad p = s := by
      unfold State.evtLoad State.evtLoadN
      exact if_pos (by simp [hact])
    rw [hbusy, hact]

/-- The level of a channel after an action of the pipeline (R229). -/
theorem pipeAct_chan (p k : Nat) (soft : Bool) :
    ∃ σ n, (s.pipeAct p k soft).chan p = { s.chan p with env := actOn k (s.chan p).env, safe := σ, pinAt := n } := by
  obtain ⟨σ, hσ⟩ := unsafe_chan (s := s) p k
  obtain ⟨n, hn⟩ := chSet_chan (s := s.unsafe_ p k) p (actOn k ((s.unsafe_ p k).chan p).env) ((s.unsafe_ p k).chan p).car soft
  rw [hσ] at hn
  exact ⟨σ, n, by rw [State.pipeAct]; simp only [hσ]; exact hn⟩

/-- A pin action with its event changes the channel's level and marks, nothing else of the channel. -/
theorem pinPact_chan (p k : Nat) :
    ∃ σ n m, (s.pinPact p k).chan p = { s.chan p with env := actOn k (s.chan p).env, safe := σ, pinAt := n, pipeAt := m } := by
  obtain ⟨σ, n, h⟩ := pipeAct_chan (s := s.pipeMark p) p k false
  rw [State.pipeMark, setChan_chan] at h
  exact ⟨σ, n, s.tb + 1, ((chEvent_chansKept p 8).chan p).trans h⟩

/-! ### A loaded occurrence fires (R198, R206) -/

theorem of_loaded (h : s.loaded i op = some (p, x)) :
    x ∈ s.evt.slots ∧ x.idx = i ∧ s.dead p = false ∧ s.physOf x.e.ch = some p := by
  unfold State.loaded at h
  split at h
  · cases h
  next o ho =>
    split at h
    · cases h
    split at h
    · next q hq =>
      split at h
      · next hc =>
        obtain ⟨-, hdead, -⟩ := hc
        cases h
        have hidx := List.find?_some ho
        simp only [Bool.and_eq_true, beq_iff_eq] at hidx
        exact ⟨List.mem_of_find?_eq_some ho, hidx.1, by simpa using hdead, hq⟩
      · cases h
    · cases h

/-- The channel as the occurrence that it holds starts to act: its registers are free. -/
def State.firing (s : State) (p : Nat) : State := (s.release p).setChan p { (s.release p).chan p with occAt := (s.release p).tb + 1 }

theorem firing_evtKept (p : Nat) : EvtKept s (s.firing p) := (setChan_evtKept _).after release_evtKept

theorem firing_still {P : Nat → Prop} (p : Nat) : Still P s (s.firing p) := (setChan_still _ _).after (release_still p)

theorem firing_act (p : Nat) : ((s.firing p).chan p).act = none := by
  rw [State.firing, setChan_chan]
  exact release_act p

theorem firing_srq (p : Nat) : ((s.firing p).chan p).srq = (s.chan p).srq := by
  rw [State.firing, setChan_chan]
  exact (congrArg Chan.srq ((release_own p).own p) :)

/-- The verdict on an occurrence that channel `p` holds (R207, R208). -/
def State.verdict (s : State) (p : Nat) (x : Occ) : Option Verdict :=
  s.judge (s.occPos x) (s.mtLead p) x.e.lateLim (s.tmOn p) (s.amOn p)

variable {go : State → Nat → Nat → Occ → State}

theorem fireChan_eq (hl : s.loaded i op = some (p, x)) (hj : s.verdict p x = some v) :
    s.fireChan i op go =
      if v.cancel then (((s.lateMark x v).release p).occEnd x true).evtLoad p
      else ((go ((s.lateMark x v).firing p) p v.at16 x).fired x).evtLoad p := by
  unfold State.verdict at hj
  simp only [State.fireChan, hl, hj]
  rfl

/-- An occurrence on time acts, counts as fired, and its channel takes the next one. -/
theorem fireChan_fired (hgo : ∀ u n, EvtKept u (go u p n x)) (hl : s.loaded i op = some (p, x)) (hj : s.verdict p x = some v)
    (hlate : v.late = false) (hcancel : v.cancel = false) :
    s.fireChan i op go = ((go (s.firing p) p v.at16 x).fired x).evtLoad p ∧ EvtFires i s (s.fireChan i op go) := by
  obtain ⟨hx, rfl, -, -⟩ := of_loaded hl
  have heq : s.fireChan x.idx op go = ((go (s.firing p) p v.at16 x).fired x).evtLoad p := by
    rw [fireChan_eq hl hj, hcancel, lateMark_onTime hlate]
    rfl
  rw [heq]
  exact ⟨rfl, (((hgo _ _).after (firing_evtKept p)).fired hx).further evtLoad_onward⟩

/-- What the channel holds once its occurrence has fired and the next one is loaded. -/
theorem firedLoad_chan (p : Nat) :
    (((u.fired x).evtLoad p).chan p).act = (u.chan p).act ∧ (((u.fired x).evtLoad p).chan p).env = (u.chan p).env ∧
    (((u.fired x).evtLoad p).chan p).srq = (u.chan p).srq := by
  have h := evtLoad_chan (s := u.fired x) p
  rwa [fired_frame.chansKept.chan] at h

/-- A cancelled occurrence does no action: it counts as cancelled, and the level of its channel stands (R208). -/
theorem fireChan_cancelled (hl : s.loaded i op = some (p, x)) (hj : s.verdict p x = some v) (hlate : v.late = true)
    (hcancel : v.cancel = true) :
    EvtCancels i s (s.fireChan i op go) ∧ ((s.fireChan i op go).chan p).env = (s.chan p).env := by
  obtain ⟨hx, rfl, -, -⟩ := of_loaded hl
  obtain ⟨hmark, hchans⟩ := lateMark_cancelled (s := s) (o := x) hlate hcancel
  rw [fireChan_eq hl hj, if_pos hcancel]
  refine ⟨(cancelled_cancels (release_evtKept.after hmark) hx).further evtLoad_onward, ?_⟩
  rw [(evtLoad_chan p).2.1, (occEnd_frame true).chansKept.chan, own_env ((release_own p).own p), hchans.chan]

/-! ### The actions on a channel (R198, R210 to R212, R234) -/

/-- A pin action leaves the level it asks for, and the action that its channel had. -/
theorem pinPact_left (p k : Nat) :
    ((s.pinPact p k).chan p).env = actOn k (s.chan p).env ∧ ((s.pinPact p k).chan p).act = (s.chan p).act ∧
    ((s.pinPact p k).chan p).pipe = (s.chan p).pipe := by
  obtain ⟨σ, n, m, h⟩ := pinPact_chan (s := s) p k
  rw [h]
  exact ⟨rfl, rfl, rfl⟩

/-- The positions of occurrences, with a channel's registers free. -/
theorem firing_occPos (p : Nat) (o : Occ) : (s.firing p).occPos o = s.occPos o := by
  have hset (u : State) (y : Chan) : (u.setChan p y).occPos o = u.occPos o := by
    unfold State.setChan State.sepia
    dsimp only
    split <;> rfl
  have hrelease : (s.release p).occPos o = s.occPos o := by
    unfold State.release
    dsimp only
    split
    · rfl
    · exact hset _ _
  exact (hset _ _).trans hrelease

/-- A pulse that starts: the channel is active until the pulse's end (R210). -/
theorem pulseStart_left (hw : x.e.w2 ≠ 0) (at16 : Nat) :
    ((s.pulseStart p at16 x).chan p).env = true ∧
    ((s.pulseStart p at16 x).chan p).act = some (.pulse x.idx (at16 + 16 * x.e.w2)) := by
  rw [State.pulseStart, if_neg hw]
  obtain ⟨henv, hact, -⟩ :=
    pinPact_left (s := s.setChan p { s.chan p with act := some (.pulse x.idx (at16 + 16 * x.e.w2)) }) p 1
  rw [setChan_chan] at hact
  exact ⟨henv, hact⟩

/-- A pulse to an angle that starts: the channel is active until the angle, or until the backstop (R211). -/
theorem pulseAStart_left {d : Nat} (hd : x.stop = some d) (at16 : Nat) :
    ((s.pulseAStart p at16 x).chan p).env = true ∧
    ((s.pulseAStart p at16 x).chan p).act = some (.pulseA x.idx (at16 + 16 * x.e.w2) (s.occPos x + d)) := by
  unfold State.pulseAStart
  rw [hd]
  obtain ⟨henv, hact, -⟩ :=
    pinPact_left (s := s.setChan p { s.chan p with act := some (.pulseA x.idx (at16 + 16 * x.e.w2) (s.occPos x + d)) }) p 1
  rw [setChan_chan] at hact
  exact ⟨henv, hact⟩

/-- A pulse's end: the channel is inactive and free (R210, R211). -/
theorem pulseStop_left (p : Nat) : ((s.pulseStop p).chan p).env = false ∧ ((s.pulseStop p).chan p).act = none := by
  obtain ⟨hact, henv, -⟩ := evtLoad_chan (s := (s.release p).pinPact p 2) p
  obtain ⟨henv', hact', -⟩ := pinPact_left (s := s.release p) p 2
  exact ⟨henv.trans henv', hact.trans (hact'.trans (release_act p))⟩

theorem setChan_dead (y : Chan) : (s.setChan q y).dead p = s.dead p := by
  unfold State.setChan State.sepia
  dsimp only
  split <;> rfl

theorem firing_dead (p : Nat) : (s.firing p).dead p = s.dead p := by
  have hrelease : (s.release p).dead p = s.dead p := by
    unfold State.release
    dsimp only
    split
    · rfl
    · exact setChan_dead _
  exact (setChan_dead _).trans hrelease

theorem evCount_congr (h : u.regs = s.regs) : u.evCount p k = s.evCount p k := by
  unfold State.evCount
  rw [rd_congr h]

/-- The count of SRQs reads what was put. -/
theorem evCount_putCount_srq (s : State) (p : Nat) {n : Nat} (hn : n < 4) : (s.putCount_ p 0 n).evCount p 0 = n := by
  have hlt := rd_lt s (TILE_CH_EVCNT_COUNT (p / 24) (p % 24))
  unfold State.evCount State.putCount_
  rw [rd_wr_self]
  generalize s.rd (TILE_CH_EVCNT_COUNT (p / 24) (p % 24)) = v at hlt
  simp only [bits, putBits, TILE_CH_EVCNT_COUNT] at hlt ⊢
  omega

/-- Keys of the pages of tiles. -/
def tilePage (k : Nat) : Prop := 0x20 ≤ k / 131072 ∧ k / 131072 < 0x30

theorem tilePage_evcnt (hp : p < 384) : tilePage (TILE_CH_EVCNT_COUNT (p / 24) (p % 24)).key := by
  unfold tilePage
  rw [key_page (by simp only [TILE_CH_EVCNT_COUNT]; omega) (by simp [TILE_CH_EVCNT_COUNT])]
  simp only [TILE_CH_EVCNT_COUNT]
  omega

theorem tilePage_noLevel : NoLevel tilePage :=
  ⟨fun k hk => by unfold tilePage at hk; omega, fun k hk => by unfold tilePage at hk; omega⟩

theorem tilePage_noEvt : NoEvt tilePage := fun k hk => by unfold tilePage at hk; omega

theorem Still.evCount {a b : State} (h : Still tilePage a b) (hp : p < 384) : b.evCount p k = a.evCount p k := by
  unfold State.evCount
  rw [h.regs _ (tilePage_evcnt hp)]

/-- A channel with one more SRQ in its queue. -/
def Chan.queued (x : Chan) (time param : Nat) : Chan :=
  { x with srq := x.srq ++ [(time, param % 65536)], nwS := if x.srq = [] then x.nwS.stamp else x.nwS }

theorem srqEvent_counted (hd : s.dead p = false) (hn : s.evCount p 0 < 3) (time param : Nat) :
    s.srqEvent p time param = (s.setChan p ((s.chan p).queued time param)).chEvent p 0 := by
  unfold State.srqEvent
  dsimp only
  rw [if_pos (by rw [hd, decide_eq_true hn]; rfl)]
  rfl

/-- An SRQ is queued with its time and PARAM, and counted (R234). -/
theorem srqEvent_left (hd : s.dead p = false) (hn : s.evCount p 0 < 3) (hp : p < 384) (time param : Nat) :
    ((s.srqEvent p time param).chan p).srq = (s.chan p).srq ++ [(time, param % 65536)] ∧
    (s.srqEvent p time param).evCount p 0 = s.evCount p 0 + 1 := by
  have hcount (y : Chan) : (s.setChan p y).evCount p 0 = s.evCount p 0 := evCount_congr (setChan_regs _ _)
  have hafter (w : State) : Still tilePage w ((w.chevOf p 0).svc p) := (svc_still p).after (chevOf_still p 0)
  rw [srqEvent_counted hd hn]
  refine ⟨?_, ?_⟩
  · rw [(chEvent_chansKept _ _).chan, setChan_chan]
    rfl
  · rw [chEvent_counted ((setChan_dead _).trans hd) (hcount _ ▸ hn), (hafter _).evCount hp, hcount]
    exact evCount_putCount_srq _ _ (by omega)

/-- An SRQ that fires is queued and counted, whatever action is armed for it (R230, R234). -/
theorem srqFire_left (hd : s.dead p = false) (hn : s.evCount p 0 < 3) (hp : p < 384) (at16 : Nat) :
    ((s.srqFire p at16 x).chan p).srq = (s.chan p).srq ++ [(at16 / 16, x.e.param % 65536)] ∧
    (s.srqFire p at16 x).evCount p 0 = s.evCount p 0 + 1 := by
  have hmark : (s.pipeMark p).evCount p 0 = s.evCount p 0 := evCount_congr (setChan_regs _ _)
  obtain ⟨hsrq, hcount⟩ := srqEvent_left (s := s.pipeMark p) ((setChan_dead _).trans hd) (hmark ▸ hn) hp (at16 / 16) x.e.param
  have hqueue : ((s.pipeMark p).chan p).srq = (s.chan p).srq := by rw [State.pipeMark, setChan_chan]
  rw [hqueue] at hsrq
  rw [hmark] at hcount
  have hset (w : State) (y : Chan) (hy : y.srq = (w.chan p).srq) :
      ((w.setChan p y).chan p).srq = (w.chan p).srq ∧ (w.setChan p y).evCount p 0 = w.evCount p 0 := by
    rw [setChan_chan]
    exact ⟨hy, evCount_congr (setChan_regs _ _)⟩
  have hact (w : State) (m : Nat) : ((w.pipeAct p m false).chan p).srq = (w.chan p).srq ∧
      (w.pipeAct p m false).evCount p 0 = w.evCount p 0 := by
    obtain ⟨σ, n, h⟩ := pipeAct_chan (s := w) p m false
    rw [h]
    exact ⟨rfl, (pipeAct_stillOff tilePage_noLevel _ _).evCount hp⟩
  unfold State.srqFire
  dsimp only
  generalize (s.pipeMark p).srqEvent p (at16 / 16) x.e.param = w at hsrq hcount
  obtain ⟨hfn, hfnCount⟩ := hset w { w.chan p with srqFn := (w.chan p).srqFn || (w.chan p).dir.isSome } rfl
  split
  · generalize w.setChan p _ = r at hfn hfnCount
    obtain ⟨harm, harmCount⟩ := hset r { r.chan p with sactArm := false } rfl
    obtain ⟨hacted, hactedCount⟩ := hact (r.setChan p { r.chan p with sactArm := false }) (r.chan p).sact
    exact ⟨by rw [hacted, harm, hfn, hsrq], by rw [hactedCount, harmCount, hfnCount, hcount]⟩
  · exact ⟨hfn.trans hsrq, hfnCount.trans hcount⟩

/-! ### Dwells (R212) -/

theorem of_dwelling (h : s.dwelling i = some (p, x)) : x ∈ s.evt.slots ∧ x.idx = i := by
  unfold State.dwelling at h
  split at h
  · cases h
  · next o ho =>
    obtain ⟨q, -, hq⟩ := Option.map_eq_some_iff.1 h
    cases hq
    have hidx := List.find?_some ho
    simp only [Bool.and_eq_true, beq_iff_eq] at hidx
    exact ⟨List.mem_of_find?_eq_some ho, hidx.1.1⟩

/-- How long a dwell may last, in ticks (R212). -/
def Occ.dwellMax (x : Occ) : Nat := if x.e.param = 0 then 2 * x.e.w2 else 4000 * x.e.param

/-- The state of a dwell that starts at `f`, in 16ths of a tick. -/
def State.dwellOn (s : State) (p i f : Nat) (x : Occ) : State :=
  let s := (s.setOcc { x with started := true }).release p
  s.setChan p { s.chan p with act := some (.dwell i f (f + 16 * x.dwellMax)), occAt := s.tb + 1 }

/-- A dwell whose fixed start has just come starts there. -/
theorem dwellStart_due {f : Nat} (hl : s.loaded i 5 = some (p, x)) (hf : x.dwFix = some f) (hs : x.started = false)
    (hshort : x.short = false) (htm : s.tmOn p = true) (hdue : f ≤ 16 * (s.tb + s.mtLead p)) (hnew : 16 * s.tb < f + 16) :
    s.dwellStart i = (s.dwellOn p i f x).pinPact p 1 := by
  simp only [State.dwellStart, State.dwellOn, Occ.dwellMax, hl, hf, hs, hshort, htm, hdue, hnew, decide_true, Bool.not_true,
    Bool.not_false, Bool.or_false, Bool.and_true, Bool.false_eq_true, if_false, if_true]

theorem dwellStart_left (p i f : Nat) (x : Occ) :
    (((s.dwellOn p i f x).pinPact p 1).chan p).env = true ∧ (((s.dwellOn p i f x).pinPact p 1).chan p).pipe = none ∧
    (((s.dwellOn p i f x).pinPact p 1).chan p).act = some (.dwell i f (f + 16 * x.dwellMax)) ∧
    ((s.dwellOn p i f x).pinPact p 1).evt.slots = updOcc x.idx x.cyc (fun _ => some { x with started := true }) s.evt.slots := by
  obtain ⟨henv, hact, hpipe⟩ := pinPact_left (s := s.dwellOn p i f x) p 1
  have hkept : EvtKept (s.setOcc { x with started := true }) ((s.dwellOn p i f x).pinPact p 1) :=
    (pinPact_evtKept 1).after <| (setChan_evtKept _).after release_evtKept
  refine ⟨henv, ?_, ?_, by rw [hkept.table.evt]; rfl⟩
  · rw [hpipe, State.dwellOn, setChan_chan]
    exact release_pipe p
  · rw [hact, State.dwellOn, setChan_chan]

/-- A dwell's end, whatever ends it, leaves the channel inactive (R212, R266). -/
theorem dwellStop_env (p : Nat) (spark : Bool) : ((s.dwellStop p spark).chan p).env = false := by
  unfold State.dwellStop
  dsimp only
  split
  · exact (pinPact_left p 2).1
  · obtain ⟨σ, n, h⟩ := pipeAct_chan (s := s.release p) p 2 true
    rw [h]
    rfl

/-- The next head of a channel finds it free. -/
theorem nextHead_chan (p : Nat) : ((s.nextHead p).chan p).env = (s.chan p).env ∧ ((s.nextHead p).chan p).act = none := by
  obtain ⟨hact, henv, -⟩ := evtLoad_chan (s := s.release p) p
  exact ⟨henv.trans (own_env ((release_own p).own p)), hact.trans (release_act p)⟩

/-- A dwell ends by a spark: its occurrence counts as fired, and the channel is inactive and free. -/
theorem sparked_left (hx : x ∈ s.evt.slots) (p : Nat) :
    EvtFires x.idx s (((s.dwellStop p true).fired x).nextHead p) ∧
    ((((s.dwellStop p true).fired x).nextHead p).chan p).env = false ∧
    ((((s.dwellStop p true).fired x).nextHead p).chan p).act = none := by
  obtain ⟨henv, hact⟩ := nextHead_chan (s := (s.dwellStop p true).fired x) p
  refine ⟨((dwellStop_evtKept true).fired hx).further nextHead_onward, ?_, hact⟩
  rw [henv, fired_frame.chansKept.chan, dwellStop_env]

/-- A dwell ends without a spark: its occurrence is over and not counted, and the channel is inactive and free. -/
theorem unsparked_left (hx : x ∈ s.evt.slots) (p : Nat) :
    ((((s.dwellStop p false).occEnd x false).nextHead p).chan p).env = false ∧
    ((((s.dwellStop p false).occEnd x false).nextHead p).chan p).act = none ∧
    (((s.dwellStop p false).occEnd x false).nextHead p).rd EVT_FIRE_CNT_COUNT = s.rd EVT_FIRE_CNT_COUNT ∧
    (((s.dwellStop p false).occEnd x false).nextHead p).evt.slots.length < s.evt.slots.length := by
  obtain ⟨henv, hact⟩ := nextHead_chan (s := (s.dwellStop p false).occEnd x false) p
  have hstop : EvtKept s (s.dwellStop p false) := dwellStop_evtKept false
  have hnext := nextHead_onward (s := (s.dwellStop p false).occEnd x false) (p := p)
  refine ⟨?_, hact, ?_, Nat.lt_of_le_of_lt hnext.slots ?_⟩
  · rw [henv, (occEnd_frame false).chansKept.chan, dwellStop_env]
  · rw [hnext.fired, (occEnd_onward false).fired, hstop.fires]
  · rw [occEnd_slots, hstop.table.evt]
    exact updOcc_none_lt hx

/-- The spark of a dwell on time (R212). -/
theorem spark_onTime (hd : s.dwelling i = some (p, x)) (hj : s.verdict p x = some v) (hlate : v.late = false)
    (hcancel : v.cancel = false) : s.spark i = ((s.dwellStop p true).fired x).nextHead p := by
  unfold State.verdict at hj
  simp only [State.spark, hd, hj, hcancel, lateMark_onTime hlate, Bool.false_eq_true, if_false]

/-- The maximum dwell of a channel that acts has run (R212). -/
theorem dwellMax_run {j st stop : Nat} (hdead : s.dead p = false) (hact : (s.chan p).act = some (.dwell j st stop))
    (hstop : stop ≤ 16 * s.tb) (hd : s.dwelling j = some (q, x)) :
    s.dwellMax p = if bit x.e.w3 27 then ((s.dwellStop p true).fired x).nextHead p
      else ((s.dwellStop p false).occEnd x false).nextHead p := by
  simp only [State.dwellMax, hdead, hact, hd, Nat.not_lt.2 hstop, Bool.false_eq_true, if_false]

/-! ### The commands -/

theorem keep_evt (a b : State) : (a.keep b).evt = b.evt := rfl

theorem keep_evCount (a b : State) (p k : Nat) : (a.keep b).evCount p k = b.evCount p k := rfl

theorem EvtFires.keep (h : EvtFires i s u) : EvtFires i s (a.keep u) :=
  ⟨h.count, by rw [entry_congr (keep_mem a u)]; exact h.status, h.slots⟩

theorem EvtCancels.keep (h : EvtCancels i s u) : EvtCancels i s (a.keep u) :=
  ⟨h.fired, h.count, h.flag, by rw [entry_congr (keep_mem a u)]; exact h.status, h.slots⟩

/-- The pipeline acts on channels where its domain and theirs are up. -/
theorem evtChan_ok (h0 : State.tbd 0 a = true) (h1 : State.tbd 1 a = true) : evtChan a = true := by
  unfold State.tbd at h1
  rw [Bool.and_eq_true] at h1
  unfold evtChan
  rw [h0, h1.2]
  rfl

/-- Firing writes the pipeline's page alone. -/
theorem fired_still {P : Nat → Prop} (h : NoEvt P) (o : Occ) : Still P s (s.fired o) := by
  have hentry (w : State) (j : Nat) (f : Nat → Nat) : Still P w (w.entry3 j f) := .same rfl rfl rfl rfl
  have hover (w : State) : Still P w (w.occOver o) := .same rfl rfl rfl rfl
  have hend (w : State) : Still P w (w.occEnd o true) := by
    rw [occEnd_eq]
    exact .ite ((hentry _ _ _).after (hover w)) (hover w)
  exact (hend _).after <| (inc_still (h.not (by decide))).after (hentry _ _ _)

/-- What a command leaves whose loaded occurrence fires on time: its action's effect on the channel, and the count of the firing. -/
theorem exec_fires {r : Out} (he : r = .next (a.keep (a.fireChan i op go))) (hgo : ∀ u n, EvtKept u (go u p n x))
    (hl : a.loaded i op = some (p, x)) (hj : a.verdict p x = some v) (hlate : v.late = false) (hcancel : v.cancel = false) :
    ∃ b, r = .next b ∧ EvtFires i a b ∧ (b.chan p).env = ((go (a.firing p) p v.at16 x).chan p).env ∧
      (b.chan p).act = ((go (a.firing p) p v.at16 x).chan p).act ∧ (b.chan p).srq = ((go (a.firing p) p v.at16 x).chan p).srq ∧
      b.evCount p 0 = (go (a.firing p) p v.at16 x).evCount p 0 := by
  obtain ⟨heq, hfires⟩ := fireChan_fired hgo hl hj hlate hcancel
  obtain ⟨hact, henv, hsrq⟩ := firedLoad_chan (u := go (a.firing p) p v.at16 x) (x := x) p
  obtain ⟨-, -, -, hphys⟩ := of_loaded hl
  have hcount : Still tilePage (go (a.firing p) p v.at16 x) (((go (a.firing p) p v.at16 x).fired x).evtLoad p) :=
    (evtLoad_still tilePage_noEvt p).after (fired_still tilePage_noEvt x)
  rw [heq] at he hfires
  refine ⟨_, he, hfires.keep, ?_⟩
  rw [keep_chan, keep_evCount]
  exact ⟨henv, hact, hsrq, hcount.evCount (physOf_lt hphys).1⟩

/-- What a command leaves whose loaded occurrence is cancelled (R208). -/
theorem exec_cancels {r : Out} (he : r = .next (a.keep (a.fireChan i op go))) (hl : a.loaded i op = some (p, x))
    (hj : a.verdict p x = some v) (hlate : v.late = true) (hcancel : v.cancel = true) :
    ∃ b, r = .next b ∧ (b.chan p).env = (a.chan p).env ∧ b.rd EVT_FIRE_CNT_COUNT = a.rd EVT_FIRE_CNT_COUNT ∧
      b.rd EVT_LATE_CNT_CANCEL = satN 16 (a.rd EVT_LATE_CNT_CANCEL + 1) ∧ bit (b.rd (PG_IFLAG_FLAG 0x19)) 2 = true ∧
      bit (b.entry i).w3 28 = true ∧ b.evt.slots.length < a.evt.slots.length := by
  obtain ⟨hleft, henv⟩ := fireChan_cancelled (go := go) hl hj hlate hcancel
  have hkeep := hleft.keep (a := a)
  exact ⟨_, he, (congrArg Chan.env (keep_chan _ _ _)).trans henv, hkeep.fired, hkeep.count, hkeep.flag, hkeep.status, hkeep.slots⟩

/-- PIN_SET and PIN_CLR leave the level of their action (R198). -/
theorem exec_pins {r : Out} {act : Nat} (he : r = .next (a.keep (a.fireChan i op fun s p _ _ => s.pinPact p act)))
    (hl : a.loaded i op = some (p, x)) (hj : a.verdict p x = some v) (hlate : v.late = false) (hcancel : v.cancel = false) :
    ∃ b, r = .next b ∧ (b.chan p).env = actOn act ((a.firing p).chan p).env ∧ (b.chan p).act = none ∧
      b.rd EVT_FIRE_CNT_COUNT = satN 32 (a.rd EVT_FIRE_CNT_COUNT + 1) ∧ bit (b.entry i).w3 29 = true ∧
      b.evt.slots.length < a.evt.slots.length := by
  obtain ⟨b, hb, hfires, henv, hact, -⟩ := exec_fires he (fun _ _ => pinPact_evtKept act) hl hj hlate hcancel
  obtain ⟨hlevel, hkept, -⟩ := pinPact_left (s := a.firing p) p act
  exact ⟨b, hb, henv.trans hlevel, hact.trans (hkept.trans (firing_act p)), hfires.count, hfires.status, hfires.slots⟩

end

section

variable {s a : State} {t : Nat} (i : Entry)

theorem exec_evtPinSet_on (ha : a = s.advance t) (hok : evtChan a = true) :
    exec (.evtPinSet t i) s = .next (a.keep (a.fireChan i 1 fun s p _ _ => s.pinPact p 1)) := (exec_evtPinSet t i s).trans (act_at ha hok)

theorem exec_evtPinClr_on (ha : a = s.advance t) (hok : evtChan a = true) :
    exec (.evtPinClr t i) s = .next (a.keep (a.fireChan i 2 fun s p _ _ => s.pinPact p 2)) := (exec_evtPinClr t i s).trans (act_at ha hok)

theorem exec_evtPulseT_on (ha : a = s.advance t) (hok : evtChan a = true) :
    exec (.evtPulseT t i) s = .next (a.keep (a.fireChan i 3 State.pulseStart)) := (exec_evtPulseT t i s).trans (act_at ha hok)

theorem exec_evtPulseA_on (ha : a = s.advance t) (hok : evtChan a = true) :
    exec (.evtPulseA t i) s = .next (a.keep (a.fireChan i 4 State.pulseAStart)) := (exec_evtPulseA t i s).trans (act_at ha hok)

theorem exec_evtSrq_on (ha : a = s.advance t) (hok : evtChan a = true) :
    exec (.evtSrq t i) s = .next (a.keep (a.fireChan i 8 State.srqFire)) := (exec_evtSrq t i s).trans (act_at ha hok)

end

/-- Settles O16: a loaded occurrence either fires, its action first and its end after it, or is cancelled; pulses and dwells in progress
end on their own channels. -/
theorem channelOccurrences : Obligations.ChannelOccurrences := by
  unfold Obligations.ChannelOccurrences
  intro s a t ha h0 h1
  have hok := evtChan_ok h0 h1
  refine ⟨fun i p x v hl hj hlate hcancel => ?pinSet, fun i p x v hl hj hlate hcancel => ?pinClr,
    fun i p x v hl hj hlate hcancel => ?pinSetCancelled, fun i p x v hl hj hlate hcancel => ?pinClrCancelled,
    fun i p x v hl hj hlate hcancel => ?pulseTCancelled, fun i p x v hl hj hlate hcancel => ?pulseACancelled,
    fun i p x v hl hj hlate hcancel => ?srqCancelled, fun i p x v hl hw hj hlate hcancel => ?pulseT,
    fun p j stop hdead hact htm hdue => ?pulseTEnd, fun i p x v d hl hd hj hlate hcancel => ?pulseA,
    fun p j stop pos hdead hact hdue => ?pulseAEnd, fun i p f x hl hf hs hshort htm hdue hnew => ?dwell,
    fun i p x v hd hj hlate hcancel => ?spark, fun p j st stop q x hdead hact hstop hd hbit => ?maxSpark,
    fun p j st stop q x hdead hact hstop hd hbit => ?maxOff, fun i p x v hl hn hj hlate hcancel => ?srq⟩
  case pinSet => exact exec_pins (exec_evtPinSet_on i ha hok) hl hj hlate hcancel
  case pinClr => exact exec_pins (exec_evtPinClr_on i ha hok) hl hj hlate hcancel
  case pinSetCancelled => exact exec_cancels (exec_evtPinSet_on i ha hok) hl hj hlate hcancel
  case pinClrCancelled => exact exec_cancels (exec_evtPinClr_on i ha hok) hl hj hlate hcancel
  case pulseTCancelled => exact exec_cancels (exec_evtPulseT_on i ha hok) hl hj hlate hcancel
  case pulseACancelled => exact exec_cancels (exec_evtPulseA_on i ha hok) hl hj hlate hcancel
  case srqCancelled => exact exec_cancels (exec_evtSrq_on i ha hok) hl hj hlate hcancel
  case pulseT =>
    obtain ⟨b, hb, hfires, henv, hact, -⟩ := exec_fires (exec_evtPulseT_on i ha hok)
      (fun _ _ => pulseStart_evtKept _ _) hl hj hlate hcancel
    obtain ⟨hlevel, hpulse⟩ := pulseStart_left (s := a.firing p) (p := p) hw v.at16
    exact ⟨b, hb, henv.trans hlevel, hact.trans hpulse, hfires.count, hfires.status, hfires.slots⟩
  case pulseTEnd =>
    refine ⟨_, (exec_evtPulseTEnd t p s).trans (act_at ha h1), ?_⟩
    have hend : a.pulseEnd p = a.pulseStop p := by
      simp only [State.pulseEnd, hdead, hact, htm, hdue, and_self, Bool.false_eq_true, if_true, if_false]
    rw [keep_chan, hend]
    exact pulseStop_left p
  case pulseA =>
    obtain ⟨b, hb, hfires, henv, hact, -⟩ := exec_fires (exec_evtPulseA_on i ha hok)
      (fun _ _ => pulseAStart_evtKept _ _) hl hj hlate hcancel
    obtain ⟨hlevel, hpulse⟩ := pulseAStart_left (s := a.firing p) (p := p) hd v.at16
    rw [firing_occPos] at hpulse
    exact ⟨b, hb, henv.trans hlevel, hact.trans hpulse, hfires.count, hfires.status, hfires.slots⟩
  case pulseAEnd =>
    refine ⟨_, (exec_evtPulseAEnd t p s).trans (act_at ha h1), ?_⟩
    have hend : a.pulseAEnd p = a.pulseStop p := by
      have hcomes : (a.tmOn p && decide (stop ≤ 16 * (a.tb + a.mtLead p)) ||
          (a.posComes pos (a.mtLead p) (a.tmOn p) (a.amOn p)).isSome) = true := by simpa using hdue
      simp only [State.pulseAEnd, hdead, hact, hcomes, Bool.false_eq_true, if_true, if_false]
    rw [keep_chan, hend]
    exact pulseStop_left p
  case dwell =>
    refine ⟨_, (exec_evtDwell t i s).trans (act_at ha hok), ?_⟩
    rw [dwellStart_due hl hf hs hshort htm hdue hnew, keep_chan, keep_evt]
    exact dwellStart_left p i f x
  case spark =>
    obtain ⟨hx, hi⟩ := of_dwelling hd
    obtain ⟨hfires, henv, hact⟩ := sparked_left hx p
    refine ⟨_, (exec_evtDwellSpark t i s).trans (act_at ha hok), ?_⟩
    rw [spark_onTime hd hj hlate hcancel, keep_chan]
    have hkeep := hfires.keep (a := a)
    exact ⟨henv, hact, hkeep.count, hi ▸ hkeep.status, hkeep.slots⟩
  case maxSpark =>
    obtain ⟨hx, hi⟩ := of_dwelling hd
    obtain ⟨hfires, henv, hfree⟩ := sparked_left hx p
    refine ⟨_, (exec_evtDwellMaxEnd t p s).trans (act_at ha h1), ?_⟩
    rw [dwellMax_run hdead hact hstop hd, if_pos hbit, keep_chan]
    have hkeep := hfires.keep (a := a)
    exact ⟨henv, hfree, hkeep.count, hi ▸ hkeep.status, hkeep.slots⟩
  case maxOff =>
    obtain ⟨hx, -⟩ := of_dwelling hd
    refine ⟨_, (exec_evtDwellMaxEnd t p s).trans (act_at ha h1), ?_⟩
    rw [dwellMax_run hdead hact hstop hd, if_neg (by rw [hbit]; decide), keep_chan, keep_rd, keep_evt]
    exact unsparked_left hx p
  case srq =>
    obtain ⟨-, -, hdead, hphys⟩ := of_loaded hl
    have hp := (physOf_lt hphys).1
    obtain ⟨b, hb, hfires, -, -, hsrq, hcount⟩ := exec_fires (exec_evtSrq_on i ha hok)
      (fun _ _ => srqFire_evtKept _ _) hl hj hlate hcancel
    have hquiet : (a.firing p).evCount p 0 = a.evCount p 0 := (firing_still p).evCount hp
    obtain ⟨hqueued, hcounted⟩ := srqFire_left (s := a.firing p) (x := x) ((firing_dead p).trans hdead) (hquiet ▸ hn) hp v.at16
    exact ⟨b, hb, hsrq.trans (hqueued.trans (by rw [firing_srq])), hcount.trans (hcounted.trans (by rw [hquiet])), hfires.count,
      hfires.status, hfires.slots⟩

end Sys2Proof.Machine
end


section
/-! Proof about occurrences of shared slots: how one fires, what it sends, and what a broadcast leaves of the event table. -/

namespace Sys2Proof.Machine

open Reg

section

variable {s a u : State} {i op k n : Nat} {x : Occ} {v : Verdict}

/-! ### Links (R412, R415) -/

theorem modCasc_evtKept (f : CascS → CascS) : EvtKept s (s.modCasc f) := .same rfl rfl rfl rfl rfl rfl

theorem modLnk_evtKept (f : LinkS → LinkS) : EvtKept s (s.modLnk n f) := modCasc_evtKept _

theorem linkSent_evtKept : EvtKept s (s.inc (LINK_FRM_CNT_TX n)) := by
  refine ⟨wr_still _ fun h => ?_, wr_table _ _⟩
  unfold evtPage Field.key at h
  simp only [LINK_FRM_CNT_TX] at h
  omega

theorem txRunN_evtKept (m : Nat) : EvtKept s (s.txRunN m n) := by
  induction m generalizing s with
  | zero => exact .refl s
  | succ m ih =>
    unfold State.txRunN
    dsimp only
    split
    · exact .refl s
    · refine .ite (.refl s) ?_
      split
      · exact .refl s
      · exact ih.after <| linkSent_evtKept.after <| (modCasc_evtKept _).after (modLnk_evtKept _)

theorem txRun_evtKept : EvtKept s (s.txRun n) := by
  have hdue : EvtKept s (s.trainDue n) := by
    unfold State.trainDue
    exact .ite (.refl s) (.foldl (fun _ _ _ => (modLnk_evtKept _).after (modCasc_evtKept _)) s)
  exact (txRunN_evtKept _).after hdue

theorem txAll_evtKept : EvtKept s s.txAll := .foldl (fun _ _ _ => txRun_evtKept) s

/-- A frame of this device on its links. -/
theorem sendOwn_evtKept (typ : Nat) (pay : List Nat) : EvtKept s (s.sendOwn typ pay) := by
  have hput (w : State) (y : Nat) (f : WaitF) : EvtKept w (w.txPut y f) := txRun_evtKept.after <| (modLnk_evtKept _).after txRun_evtKept
  exact EvtKept.after (.foldl (fun w y _ => hput w y _) _) <| (modCasc_evtKept _).after txAll_evtKept

theorem linkBcast_evtKept (param : Nat) : EvtKept s (s.linkBcast param) := .ite (sendOwn_evtKept _ _) (.refl s)

/-! ### What shared occurrences send (R198) -/

theorem bndSend_evtKept (b : Bnd) : EvtKept s (s.bndSend n b) := .ite ⟨setCv_still _ _, rfl, rfl⟩ (.refl s)

/-- A boundary waits for its converter, whose domain is up (R30). -/
theorem bndSend_bnds (hd : s.domOn 2 = true) (b : Bnd) : ((s.bndSend n b).cv n).bnds = (s.cv n).bnds ++ [b] := by
  rw [State.bndSend, if_pos hd, setCv_cv]

/-- A mark that a running context can take waits for it (R332). -/
theorem cmuMark_on {param : Nat} (hk : param % 32 < 24) (hcode : bits param 5 3 ≤ 2) (hon : s.cylOn (param % 32) = true) (tick : Nat) :
    s.cmuMark param tick false =
      s.modCyl (param % 32) fun c => { c with marks := c.marks ++ [(bits param 5 3, tick, false)] } := by
  unfold State.cmuMark
  dsimp only
  rw [if_neg (by simp only [hon, not_or, Bool.not_true, Bool.false_eq_true, not_false_eq_true, and_true]; omega)]
  rfl

/-! ### A shared occurrence fires (R203, R209, R213) -/

/-- The codes whose occurrences are trains of boundaries. -/
def isTrain (op : Nat) : Bool := op == 0x10 || op == 0x11

/-- The occurrence of entry `i` in a shared slot. -/
def State.sharedOcc (s : State) (i : Nat) : Option Occ := s.evt.slots.find? fun y => y.idx == i && y.here

theorem of_sharedOcc (h : s.sharedOcc i = some x) : x ∈ s.evt.slots ∧ x.idx = i := by
  unfold State.sharedOcc at h
  have hidx := List.find?_some h
  simp only [Bool.and_eq_true, beq_iff_eq] at hidx
  exact ⟨List.mem_of_find?_eq_some h, hidx.1⟩

/-- The verdict on an occurrence in a shared slot: on its next boundary, or on itself. -/
def State.sharedVerdict (s : State) (op : Nat) (x : Occ) : Option Verdict :=
  s.judge (if isTrain op then s.bndPos x else s.occPos x) 0 x.e.lateLim true true

variable {go : State → Nat → Bool → Occ → State} {can : State → Occ → State}

/-- On time, a shared occurrence acts; a train stays until its last boundary. -/
theorem fireShared_onTime (hf : s.sharedOcc i = some x) (hop : x.e.op = op) (hj : s.sharedVerdict op x = some v)
    (hlate : v.late = false) (hcancel : v.cancel = false) :
    s.fireShared i op go can =
      if isTrain op && decide (x.bnd < x.e.lastBnd) then
        (go s (v.at16 / 16) false x).setOcc { x with bnd := x.bnd + 1, started := true }
      else (go s (v.at16 / 16) false x).fired x := by
  unfold State.sharedOcc at hf
  unfold State.sharedVerdict isTrain at hj
  unfold isTrain
  simp only [State.fireShared, hf, hop, hj, hcancel, hlate, lateMark_onTime hlate, ne_eq, not_true_eq_false, Bool.false_eq_true,
    if_false]

/-- What firing leaves of what the action has sent. -/
structure SentKept (s s' : State) : Prop where
  cv : ∀ n, s'.cv n = s.cv n
  cyl : ∀ n, s'.cyl n = s.cyl n
  rtr : s'.rtr = s.rtr
  casc : s'.casc = s.casc

/-- What a command leaves whose shared occurrence fires on time, at its last boundary if it is a train. -/
theorem exec_shared {r : Out} (he : r = .next (a.keep (u.fireShared i op go can))) (hgo : ∀ t, EvtKept u (go u t false x))
    (hf : u.sharedOcc i = some x) (hop : x.e.op = op) (hj : u.sharedVerdict op x = some v) (hlate : v.late = false)
    (hcancel : v.cancel = false) (hlast : isTrain op = true → x.e.lastBnd ≤ x.bnd) :
    ∃ b, r = .next b ∧ EvtFires i u b ∧ SentKept (go u (v.at16 / 16) false x) b := by
  obtain ⟨hx, rfl⟩ := of_sharedOcc hf
  have hstay : ¬ (isTrain op && decide (x.bnd < x.e.lastBnd)) = true := by
    rw [Bool.and_eq_true, decide_eq_true_iff]
    rintro ⟨htrain, hlt⟩
    exact absurd (hlast htrain) (Nat.not_le.2 hlt)
  rw [fireShared_onTime hf hop hj hlate hcancel, if_neg hstay] at he
  have hframe := fired_frame (s := go u (v.at16 / 16) false x) (o := x)
  exact ⟨_, he, ((hgo _).fired hx).keep, hframe.cv, hframe.cyl, hframe.rtr, hframe.casc⟩

end

/-! ### The commands -/

/-- A train before its last boundary sends the boundary and waits for the next one (R200, R209). -/
theorem exec_train {s a : State} {t : Nat} {i : Entry} {x : Occ} {v : Verdict} (ha : a = s.advance t) (hok : State.tbd 0 a = true)
    (hf : a.sharedOcc i = some x) (hop : x.e.op = 0x11) (hj : a.sharedVerdict 0x11 x = some v) (hlate : v.late = false)
    (hcancel : v.cancel = false) (hlt : x.bnd < x.e.lastBnd) :
    exec (.evtConvWin t i) s = .next (a.keep ((a.bndSend (x.e.param % 32)
      { t := v.at16 / 16, idx := x.bnd, stop := false, late := false }).setOcc { x with bnd := x.bnd + 1, started := true })) := by
  have hstop : (bit x.e.param 15 && x.bnd == x.e.lastBnd) = false := by
    rw [beq_false_of_ne (Nat.ne_of_lt hlt), Bool.and_false]
  have hgo : (isTrain 0x11 && decide (x.bnd < x.e.lastBnd)) = true := by rw [decide_eq_true hlt]; rfl
  rw [exec_evtConvWin, execEvtConvWin, act_at ha hok, fireShared_onTime hf hop hj hlate hcancel, if_pos hgo, hstop]

/-- Settles O17: a shared occurrence sends what it stands for and then counts as fired; a train only moves to its next boundary. -/
theorem sharedOccurrences : Obligations.SharedOccurrences := by
  unfold Obligations.SharedOccurrences
  intro s a u t i x v ha hok hlate hcancel
  refine ⟨?convStart, ?convWin, ?cmuMark, ?evtOut, ?linkBcast, ?train, ?trainLeft⟩
  case convStart =>
    rintro rfl hf hop hj hd hlast
    obtain ⟨b, hb, hfires, hsent⟩ := exec_shared ((exec_evtConvStart t i s).trans (act_at ha hok)) (fun _ => bndSend_evtKept _)
      hf hop hj hlate hcancel (fun _ => hlast)
    exact ⟨b, hb, by rw [hsent.cv, bndSend_bnds hd], hfires.count, hfires.status, hfires.slots⟩
  case convWin =>
    rintro rfl hf hop hj hd hlast
    obtain ⟨b, hb, hfires, hsent⟩ := exec_shared ((exec_evtConvWin t i s).trans (act_at ha hok)) (fun _ => bndSend_evtKept _)
      hf hop hj hlate hcancel (fun _ => hlast)
    exact ⟨b, hb, by rw [hsent.cv, bndSend_bnds hd], hfires.count, hfires.status, hfires.slots⟩
  case cmuMark =>
    rintro rfl hf hop hj hk hcode hon
    have hmark := cmuMark_on hk hcode hon
    obtain ⟨b, hb, hfires, hsent⟩ := exec_shared ((exec_evtCmuMark t i s).trans (act_at ha hok))
      (fun t => by rw [hmark]; exact ⟨modCyl_still _ _, rfl, rfl⟩) hf hop hj hlate hcancel (fun h => absurd h (by decide))
    exact ⟨b, hb, by rw [hsent.cyl, hmark, modCyl_cyl], hfires.count, hfires.status, hfires.slots⟩
  case evtOut =>
    rintro rfl hf hop hj
    obtain ⟨b, hb, hfires, hsent⟩ := exec_shared ((exec_evtOut t i s).trans (act_at ha hok))
      (fun _ => .same rfl rfl rfl rfl rfl rfl) hf hop hj hlate hcancel (fun h => absurd h (by decide))
    exact ⟨b, hb, congrArg Rtr.pulses hsent.rtr, hfires.count, hfires.status, hfires.slots⟩
  case linkBcast =>
    intro hu hf hop hj
    have he : exec (.evtLinkBcast t i) s = .next (a.keep (u.fireShared i 0x20 (fun s _ _ o => s.linkBcast o.e.param) fun s _ => s)) := by
      rw [hu]
      exact (exec_evtLinkBcast t i s).trans (act_at ha hok)
    obtain ⟨b, hb, hfires, hsent⟩ := exec_shared he (fun _ => linkBcast_evtKept _) hf hop hj hlate hcancel
      (fun h => absurd h (by decide))
    refine ⟨b, hb, fun hon => ?_, fun hoff => ?_, hfires.count, hfires.status, hfires.slots⟩
    · rw [hsent.casc, State.linkBcast, if_pos hon]
    · rw [hsent.casc, State.linkBcast, if_neg (by rw [hoff]; decide)]
  case train =>
    rintro rfl hf hop hj hlt
    exact exec_train ha hok hf hop hj hlate hcancel hlt
  case trainLeft =>
    rintro rfl hd hf hop hj hlt
    refine ⟨_, exec_train ha hok hf hop hj hlate hcancel hlt, ?_⟩
    have hsend : EvtKept u (u.bndSend (x.e.param % 32) { t := v.at16 / 16, idx := x.bnd, stop := false, late := false }) :=
      bndSend_evtKept _
    have hbnds := bndSend_bnds (n := x.e.param % 32) hd { t := v.at16 / 16, idx := x.bnd, stop := false, late := false }
    generalize u.bndSend _ _ = w at hsend hbnds ⊢
    refine ⟨hbnds, ?_, hsend.fires⟩
    rw [keep_evt, State.setOcc, hsend.table.evt]

end Sys2Proof.Machine
end


section
/-! Proofs about the instructions of a thread: what those that act on G registers and flags leave. -/

namespace Sys2Proof.Machine

open Reg

/-! ### Registers and flags of a thread (R244) -/

section

variable {x y z : GelS} {d i n m : Nat}

/-- The thread's record past a breakpoint it stood at. -/
def GelS.past (x : GelS) : GelS := { x with skipBk := false }

@[simp] theorem past_reg (x : GelS) : x.past.reg = x.reg := rfl

@[simp] theorem after_reg (x : GelS) (n m : Nat) : (x.after n m).reg = x.reg := rfl

@[simp] theorem setFlag_flag (x : GelS) (i : Nat) (b : Bool) : (x.setFlag i b).flag i = b := bit_putBit _ _ _

theorem setFlag_flag_ne (x : GelS) {i n : Nat} (b : Bool) (h : n ≠ i) : (x.setFlag i b).flag n = x.flag n := bit_putBit_ne h

theorem setReg_reg_ne (x : GelS) {d i : Nat} (v : Nat) (hi : i < 8) (h : i ≠ d) : (x.setReg d v).reg i = x.reg i := by
  simp [GelS.setReg, GelS.reg, hi, h]

/-- The four flags of a result. -/
theorem znc_flags (x : GelS) (r : Nat) (n c v : Bool) :
    (x.znc r n c v).flag 0 = (r == 0) ∧ (x.znc r n c v).flag 1 = n ∧ (x.znc r n c v).flag 2 = c ∧ (x.znc r n c v).flag 3 = v := by
  simp [GelS.znc, setFlag_flag_ne]

theorem iD_lt (w : Nat) : iD w < 8 := Nat.mod_lt _ (by decide)

end

/-! ### An instruction that acts on its thread alone (R243) -/

section

variable {a b : State} {g n : Nat} {F : GelS → GelS}

/-- An instruction of `n` cycles that changes its thread's record by `F`, and goes on. -/
def State.gelPlain (s : State) (g n : Nat) (F : GelS → GelS) : State := (s.modEng g F).gelNext g n

theorem Fetched.plain_eng (h : Fetched a g) (n : Nat) (F : GelS → GelS) :
    (a.keep ((a.pastBkpt g).gelPlain g n F)).eng g = (F (a.eng g).past).after n n := by
  have hrun : ((a.pastBkpt g).modEng g F).rd (GEL_GEL_STAT_STATE g) ≠ 3 := h.not_halted
  exact (gelNext_eng hrun n).trans (by rw [modEng_eng, pastBkpt_eng]; rfl)

theorem plain_pc (a : State) (g n : Nat) (F : GelS → GelS) :
    (a.keep ((a.pastBkpt g).gelPlain g n F)).pc g = (a.pc g + 1) % 2 ^ 13 := gelNext_pc _ g n

end

/-- What the state `b` shows of an arithmetic or logic instruction of `n` cycles fetched in `a`: its result `r` in G(`d`), the four
flags, the next address. -/
def AluDone (a b : State) (g n d r : Nat) (neg carry ovf : Bool) : Prop :=
  (b.eng g).reg d = r ∧ (b.eng g).flag 0 = (r == 0) ∧ (b.eng g).flag 1 = neg ∧ (b.eng g).flag 2 = carry ∧ (b.eng g).flag 3 = ovf ∧
  b.pc g = (a.pc g + 1) % 2 ^ 13 ∧ (b.eng g).cyc = (a.eng g).cyc + n

section

variable {a : State} {g k : Nat}

/-- A result of at most 32 bits goes to G(d) with its flags. -/
theorem Fetched.alu (h : Fetched a g) {n d r : Nat} {neg carry ovf : Bool} {F : GelS → GelS} (hd : d < 8) (hr : r < 2 ^ 32)
    (hF : F (a.eng g).past = ((a.eng g).past.znc r neg carry ovf).setReg d r) :
    AluDone a (a.keep ((a.pastBkpt g).gelPlain g n F)) g n d r neg carry ovf := by
  obtain ⟨hz, hn, hc, hv⟩ := znc_flags (a.eng g).past r neg carry ovf
  have heng := h.plain_eng n F
  rw [hF] at heng
  rw [AluDone, heng]
  exact ⟨by rw [after_reg, setReg_reg _ _ hd, Nat.mod_eq_of_lt hr], hz, hn, hc, hv, plain_pc a g n F, rfl⟩

/-- A row whose instruction sets Z and N by its result and clears C and V. -/
theorem Fetched.logicRow (h : Fetched a g) (hop : iOpc (a.gelWord g) = k) (n : Nat) (f : Nat → Nat → Nat) :
    let r := f ((a.eng g).reg (iA (a.gelWord g))) ((a.eng g).opB (a.gelWord g)) % 2 ^ 32
    AluDone a (a.keep (a.gelRow g k fun s w => s.gelLogic g w n f)) g n (iD (a.gelWord g)) r (bit r 31) false false := by
  rw [h.gelRow hop]
  exact h.alu (iD_lt _) (Nat.mod_lt _ (by decide)) rfl

/-- A sum with its flags: `b` added to `a` with the carry `c` (R244). -/
theorem addFlags_eq (x : GelS) (a b c : Nat) : x.addFlags a b c =
    ((a + b + c) % 2 ^ 32, x.znc ((a + b + c) % 2 ^ 32) (bit ((a + b + c) % 2 ^ 32) 31) (decide (2 ^ 32 ≤ a + b + c))
      ((bit a 31 == bit b 31) && (bit ((a + b + c) % 2 ^ 32) 31 != bit a 31))) := rfl

theorem gelAdd_eq (s : State) (g w : Nat) : s.gelAdd g w = s.gelPlain g 1 fun x =>
    (x.addFlags (x.reg (iA w)) (x.opB w) 0).2.setReg (iD w) (x.addFlags (x.reg (iA w)) (x.opB w) 0).1 := rfl

theorem gelSub_eq (s : State) (g w : Nat) : s.gelSub g w = s.gelPlain g 1 fun x =>
    (x.addFlags (x.reg (iA w)) (2 ^ 32 - 1 - x.opB w) 1).2.setReg (iD w) (x.addFlags (x.reg (iA w)) (2 ^ 32 - 1 - x.opB w) 1).1 := rfl

theorem gelCmp_eq (s : State) (g w : Nat) : s.gelCmp g w = s.gelPlain g 1 fun x =>
    (x.addFlags (x.reg (iA w)) (2 ^ 32 - 1 - x.opB w) 1).2 := rfl

/-- A sum of three terms over 32 bits goes to G(D), with its carry and its overflow (R244). -/
theorem Fetched.sum (h : Fetched a g) {x y c : Nat} {F : GelS → GelS}
    (hF : F (a.eng g).past = ((a.eng g).past.addFlags x y c).2.setReg (iD (a.gelWord g)) ((a.eng g).past.addFlags x y c).1) :
    let r := (x + y + c) % 2 ^ 32
    AluDone a (a.keep ((a.pastBkpt g).gelPlain g 1 F)) g 1 (iD (a.gelWord g)) r (bit r 31) (decide (2 ^ 32 ≤ x + y + c))
      ((bit x 31 == bit y 31) && (bit r 31 != bit x 31)) :=
  h.alu (iD_lt _) (Nat.mod_lt _ (by decide)) (hF.trans (by rw [addFlags_eq]))

theorem Fetched.add (h : Fetched a g) :
    let x := (a.eng g).reg (iA (a.gelWord g))
    let y := (a.eng g).opB (a.gelWord g)
    let r := (x + y) % 2 ^ 32
    AluDone a (a.keep ((a.pastBkpt g).gelAdd g (a.gelWord g))) g 1 (iD (a.gelWord g)) r (bit r 31) (decide (2 ^ 32 ≤ x + y))
      ((bit x 31 == bit y 31) && (bit r 31 != bit x 31)) := by
  intro x y r
  have hsum := h.sum (x := x) (y := y) (c := 0) (F := fun z =>
    (z.addFlags (z.reg (iA (a.gelWord g))) (z.opB (a.gelWord g)) 0).2.setReg (iD (a.gelWord g))
      (z.addFlags (z.reg (iA (a.gelWord g))) (z.opB (a.gelWord g)) 0).1) rfl
  rw [Nat.add_zero] at hsum
  rw [gelAdd_eq]
  exact hsum

/-- CMP sets the flags of a difference and writes no register. -/
theorem Fetched.cmp (h : Fetched a g) {x y c : Nat} {F : GelS → GelS} (hF : F (a.eng g).past = ((a.eng g).past.addFlags x y c).2) :
    let r := (x + y + c) % 2 ^ 32
    let b := a.keep ((a.pastBkpt g).gelPlain g 1 F)
    (∀ i : Fin 8, (b.eng g).reg i = (a.eng g).reg i) ∧ (b.eng g).flag 0 = (r == 0) ∧ (b.eng g).flag 1 = bit r 31 ∧
    (b.eng g).flag 2 = decide (2 ^ 32 ≤ x + y + c) ∧ (b.eng g).flag 3 = ((bit x 31 == bit y 31) && (bit r 31 != bit x 31)) ∧
    b.pc g = (a.pc g + 1) % 2 ^ 13 ∧ (b.eng g).cyc = (a.eng g).cyc + 1 := by
  intro r b
  obtain ⟨hz, hn, hc, hv⟩ := znc_flags (a.eng g).past r (bit r 31) (decide (2 ^ 32 ≤ x + y + c))
    ((bit x 31 == bit y 31) && (bit r 31 != bit x 31))
  rw [h.plain_eng 1 F, hF, addFlags_eq]
  exact ⟨fun _ => rfl, hz, hn, hc, hv, plain_pc a g 1 _, rfl⟩

/-- A row whose instruction of `n` cycles writes G(D) and leaves the flags. -/
theorem Fetched.loads (h : Fetched a g) {n v : Nat} {F : GelS → GelS} (hF : F (a.eng g).past = (a.eng g).past.setReg (iD (a.gelWord g)) v) :
    let b := a.keep ((a.pastBkpt g).gelPlain g n F)
    (b.eng g).reg (iD (a.gelWord g)) = v % 2 ^ 32 ∧ (b.eng g).cc = (a.eng g).cc ∧ b.pc g = (a.pc g + 1) % 2 ^ 13 ∧
    (b.eng g).cyc = (a.eng g).cyc + n := by
  intro b
  have heng : b.eng g = ((a.eng g).past.setReg (iD (a.gelWord g)) v).after n n := (h.plain_eng n F).trans (by rw [hF])
  rw [heng]
  exact ⟨setReg_reg _ _ (iD_lt _), rfl, plain_pc a g n F, rfl⟩

end

/-- Settles O22: each row by what its instruction does to the thread's record. -/
theorem engineArithmetic : Obligations.EngineArithmetic := by
  intro s a t g w x ha hok hrun hready hbk hbad hsound hw hx hlim
  subst hw hx
  have h : Fetched a g := ⟨hrun, hready, hbk, hbad, hsound, hlim⟩
  have hact (f : State → State) : s.act t (gelOk g) f = .next (a.keep (f a)) := act_at ha hok
  refine ⟨fun hop => ?add, fun hop => ?sub, fun hop => ?cmp, fun hop => ?and, fun hop => ?or, fun hop => ?xor, fun hop => ?shl,
    fun hop => ?shr, fun hop => ?sar, fun hop => ?mul, fun hop => ?mulq, fun hop => ?min, fun hop => ?max, fun hop => ?mov,
    fun hop => ?adda, fun hop => ?ldh⟩
  case add =>
    refine ⟨_, (exec_gelAdd t g s).trans (hact _), ?_⟩
    rw [h.gelRow hop]
    exact h.add
  case sub =>
    refine ⟨_, (exec_gelSub t g s).trans (hact _), ?_⟩
    rw [h.gelRow hop, gelSub_eq]
    exact h.sum rfl
  case cmp =>
    refine ⟨_, (exec_gelCmp t g s).trans (hact _), ?_⟩
    rw [h.gelRow hop, gelCmp_eq]
    exact h.cmp rfl
  case and => exact ⟨_, (exec_gelAnd t g s).trans (hact _), h.logicRow hop 1 _⟩
  case or => exact ⟨_, (exec_gelOr t g s).trans (hact _), h.logicRow hop 1 _⟩
  case xor => exact ⟨_, (exec_gelXor t g s).trans (hact _), h.logicRow hop 1 _⟩
  case shl => exact ⟨_, (exec_gelShl t g s).trans (hact _), h.logicRow hop 1 _⟩
  case shr => exact ⟨_, (exec_gelShr t g s).trans (hact _), h.logicRow hop 1 _⟩
  case sar => exact ⟨_, (exec_gelSar t g s).trans (hact _), h.logicRow hop 1 _⟩
  case mul => exact ⟨_, (exec_gelMul t g s).trans (hact _), h.logicRow hop 2 _⟩
  case mulq => exact ⟨_, (exec_gelMulq t g s).trans (hact _), h.logicRow hop 2 _⟩
  case min => exact ⟨_, (exec_gelMin t g s).trans (hact _), h.logicRow hop 1 _⟩
  case max => exact ⟨_, (exec_gelMax t g s).trans (hact _), h.logicRow hop 1 _⟩
  case mov =>
    refine ⟨_, (exec_gelMov t g s).trans (hact _), ?_⟩
    rw [h.gelRow hop]
    exact h.loads rfl
  case adda =>
    refine ⟨_, (exec_gelAdda t g s).trans (hact _), ?_⟩
    rw [h.gelRow hop]
    exact h.alu (iD_lt _) (Nat.lt_trans (Nat.mod_lt _ (by decide)) (by decide)) rfl
  case ldh =>
    refine ⟨_, (exec_gelLdh t g s).trans (hact _), ?_⟩
    rw [h.gelRow hop]
    exact h.loads rfl

end Sys2Proof.Machine
end


section
/-! Proof about the instructions of a thread, continued: what those that act on G registers and flags leave alone. -/

namespace Sys2Proof.Machine

open Reg

/-! ### A change of one G register and the flags (R243, R244) -/

/-- From `x` to `y` only G(`d`) and the condition flags change. -/
structure GelS.Sets (d : Nat) (x y : GelS) : Prop where
  reg : ∀ i < 8, i ≠ d → y.reg i = x.reg i
  rest : y = { x with g := y.g, cc := y.cc }

section

variable {d : Nat} {x y z : GelS}

theorem GelS.Sets.trans (h : GelS.Sets d x y) (k : GelS.Sets d y z) : GelS.Sets d x z :=
  ⟨fun i hi hne => (k.reg i hi hne).trans (h.reg i hi hne), by rw [k.rest, h.rest]⟩

theorem GelS.Sets.ite {p : Prop} [Decidable p] (h : GelS.Sets d x y) (k : GelS.Sets d x z) : GelS.Sets d x (if p then y else z) := by
  split
  · exact h
  · exact k

theorem setReg_sets (x : GelS) (d v : Nat) : GelS.Sets d x (x.setReg d v) := ⟨fun _ hi hne => setReg_reg_ne x v hi hne, rfl⟩

theorem setFlag_sets (x : GelS) (d i : Nat) (b : Bool) : GelS.Sets d x (x.setFlag i b) := ⟨fun _ _ _ => rfl, rfl⟩

theorem znc_sets (x : GelS) (d r : Nat) (n c v : Bool) : GelS.Sets d x (x.znc r n c v) := ⟨fun _ _ _ => rfl, rfl⟩

/-- A result with its flags. -/
theorem result_sets (x : GelS) (d r : Nat) (n c v : Bool) (u : Nat) : GelS.Sets d x ((x.znc r n c v).setReg d u) :=
  (znc_sets x d r n c v).trans (setReg_sets _ d u)

/-- A value with the flags of a conversion (R245). -/
theorem converted_sets (x : GelS) (d v : Nat) (f p u : Bool) :
    GelS.Sets d x ((((x.setReg d v).setFlag 5 f).setFlag 6 p).setFlag 7 u) :=
  (setReg_sets x d v).trans <| (setFlag_sets _ d 5 f).trans <| (setFlag_sets _ d 6 p).trans (setFlag_sets _ d 7 u)

end

/-! ### Instructions that change no more than their thread's registers, flags and cycles -/

/-- From `s` instruction `w` leads to `u`: in some cycles it sets G(D) and the flags, and goes on. -/
def State.SetsOnly (s : State) (g w : Nat) (u : State) : Prop :=
  ∃ n F, u = s.gelPlain g n F ∧ GelS.Sets (iD w) (s.eng g) (F (s.eng g))

section

variable {s a b : State} {g n m w : Nat}

theorem gelAdd_setsOnly : s.SetsOnly g w (s.gelAdd g w) := ⟨_, _, gelAdd_eq s g w, result_sets _ _ _ _ _ _ _⟩

theorem gelSub_setsOnly : s.SetsOnly g w (s.gelSub g w) := ⟨_, _, gelSub_eq s g w, result_sets _ _ _ _ _ _ _⟩

theorem gelCmp_setsOnly : s.SetsOnly g w (s.gelCmp g w) := ⟨_, _, gelCmp_eq s g w, znc_sets _ _ _ _ _ _⟩

theorem gelLogic_setsOnly (n : Nat) (f : Nat → Nat → Nat) : s.SetsOnly g w (s.gelLogic g w n f) := ⟨_, _, rfl, result_sets _ _ _ _ _ _ _⟩

theorem gelMov_setsOnly : s.SetsOnly g w (s.gelMov g w) := ⟨_, _, rfl, setReg_sets _ _ _⟩

theorem gelAdda_setsOnly : s.SetsOnly g w (s.gelAdda g w) := ⟨_, _, rfl, result_sets _ _ _ _ _ _ _⟩

theorem gelLdh_setsOnly : s.SetsOnly g w (s.gelLdh g w) := ⟨_, _, rfl, setReg_sets _ _ _⟩

/-- The word that LDP loads. -/
def State.ldpWord (s : State) (g w : Nat) : Nat :=
  match s.thrPhys g with
  | some p => s.rd (paramField p ((s.eng g).pIdx w))
  | none => 0

theorem gelLdp_eq (s : State) (g w : Nat) : s.gelLdp g w = s.gelPlain g 2 fun x => x.setReg (iD w) (s.ldpWord g w) := rfl

theorem gelLdp_setsOnly : s.SetsOnly g w (s.gelLdp g w) := ⟨_, _, gelLdp_eq s g w, setReg_sets _ _ _⟩

theorem gelA2t_setsOnly : s.SetsOnly g w (s.gelA2t g w) :=
  ⟨_, _, rfl, .ite (converted_sets _ _ _ _ _ _) (converted_sets _ _ _ _ _ _)⟩

theorem gelA2d_setsOnly : s.SetsOnly g w (s.gelA2d g w) :=
  ⟨_, _, rfl, .ite ((setReg_sets _ _ _).trans (setFlag_sets _ _ _ _)) (converted_sets _ _ _ _ _ _)⟩

/-! ### What such an instruction leaves of the device -/

/-- Cycles change the engines' records and the budgets' use. -/
theorem spend_frame (s : State) (g n m : Nat) :
    s.spend g n m = { s with gel := (s.spend g n m).gel, budg := { s.budg with use := (s.spend g n m).budg.use } } := by
  unfold State.spend
  dsimp only
  split
  · rfl
  · split
    · rfl
    · rfl

/-- An instruction that acts on its thread alone changes the engines' records, its address, and the budgets' use. -/
theorem plain_frame (a : State) (g n : Nat) (F : GelS → GelS) :
    let b := a.keep ((a.pastBkpt g).gelPlain g n F)
    b = { a with gel := b.gel, regs := b.regs, budg := { a.budg with use := b.budg.use } } := by
  intro b
  have hspend := spend_frame ((a.pastBkpt g).modEng g F) g n n
  have hb : b = a.keep ((((a.pastBkpt g).modEng g F).spend g n n).setPc g (((a.pastBkpt g).modEng g F).pc g + 1)) := rfl
  rw [hspend] at hb
  rw [hb]
  rfl

theorem plain_rd (a : State) (g n : Nat) (F : GelS → GelS) {f : Field} (hf : f.key ≠ (GEL_GEL_STAT_PC g).key) :
    (a.keep ((a.pastBkpt g).gelPlain g n F)).rd f = a.rd f := gelNext_rd (s := (a.pastBkpt g).modEng g F) hf

theorem modEng_eng_ne (s : State) {g h : Nat} (F : GelS → GelS) (hne : h ≠ g) : (s.modEng g F).eng h = s.eng h :=
  tget_tput_ne _ _ _ hne

theorem spend_eng_ne {h : Nat} (hne : h ≠ g) (n m : Nat) : (s.spend g n m).eng h = s.eng h := by
  by_cases hst : s.rd (GEL_GEL_STAT_STATE g) = 3
  · rw [State.spend, if_pos hst]
  · obtain ⟨b, hb⟩ := spend_eq hst n m
    rw [hb]
    exact modEng_eng_ne s (fun x => x.after n m) hne

theorem plain_eng_ne (a : State) (n : Nat) (F : GelS → GelS) {h : Nat} (hne : h ≠ g) :
    (a.keep ((a.pastBkpt g).gelPlain g n F)).eng h = a.eng h :=
  (spend_eng_ne hne n n).trans ((modEng_eng_ne _ F hne).trans (modEng_eng_ne a _ hne))

/-- What an instruction that sets G(`d`) and the flags of engine `g`'s thread leaves alone. -/
def ThreadOnly (a b : State) (g d : Nat) : Prop :=
  b = { a with gel := b.gel, regs := b.regs, budg := { a.budg with use := b.budg.use } } ∧
  (∀ f : Field, f.key = (GEL_GEL_STAT_PC g).key ∨ b.rd f = a.rd f) ∧ (∀ h, h ≠ g → b.eng h = a.eng h) ∧
  (∀ i < 8, i ≠ d → (b.eng g).reg i = (a.eng g).reg i) ∧
  b.eng g = { a.eng g with
    g := (b.eng g).g, cc := (b.eng g).cc, cyc := (b.eng g).cyc, cycNs := (b.eng g).cycNs, skipBk := (b.eng g).skipBk }

theorem Fetched.setsOnly (h : Fetched a g) {u : State} (hu : (a.pastBkpt g).SetsOnly g w u) : ThreadOnly a (a.keep u) g (iD w) := by
  obtain ⟨n, F, rfl, hsets⟩ := hu
  rw [pastBkpt_eng] at hsets
  have heng : (a.keep ((a.pastBkpt g).gelPlain g n F)).eng g = (F (a.eng g).past).after n n := h.plain_eng n F
  refine ⟨plain_frame a g n F, fun f => ?_, fun _ hne => plain_eng_ne a n F hne, fun i hi hne => ?_, ?_⟩
  · by_cases hf : f.key = (GEL_GEL_STAT_PC g).key
    · exact .inl hf
    · exact .inr (plain_rd a g n F hf)
  · rw [heng]
    exact hsets.reg i hi hne
  · rw [heng, GelS.after]
    dsimp only
    rw [show F (a.eng g).past = _ from hsets.rest]

end

/-- Settles O60: each listed instruction sets only G(D) and the flags (`SetsOnly`), so that its row is `ThreadOnly`. -/
theorem engineFrame : Obligations.EngineFrame := by
  intro s a t g w x ha hok hrun hready hbk hbad hsound hw hx hlim k c hmem hop
  subst hw hx
  have h : Fetched a g := ⟨hrun, hready, hbk, hbad, hsound, hlim⟩
  have row {c : Instr} {f : State → Nat → State} (he : exec c s = s.act t (gelOk g) fun s => s.gelRow g k f)
      (hf : (a.pastBkpt g).SetsOnly g (a.gelWord g) (f (a.pastBkpt g) (a.gelWord g))) :
      ∃ b, exec c s = .next b ∧ ThreadOnly a b g (iD (a.gelWord g)) := by
    refine ⟨_, he.trans (act_at ha hok), ?_⟩
    rw [h.gelRow hop]
    exact h.setsOnly hf
  simp only [List.mem_cons, Prod.mk.injEq, List.not_mem_nil, or_false] at hmem
  obtain ⟨rfl, rfl⟩ | ⟨rfl, rfl⟩ | ⟨rfl, rfl⟩ | ⟨rfl, rfl⟩ | ⟨rfl, rfl⟩ | ⟨rfl, rfl⟩ | ⟨rfl, rfl⟩ | ⟨rfl, rfl⟩ | ⟨rfl, rfl⟩ |
    ⟨rfl, rfl⟩ | ⟨rfl, rfl⟩ | ⟨rfl, rfl⟩ | ⟨rfl, rfl⟩ | ⟨rfl, rfl⟩ | ⟨rfl, rfl⟩ | ⟨rfl, rfl⟩ | ⟨rfl, rfl⟩ | ⟨rfl, rfl⟩ | ⟨rfl, rfl⟩ := hmem
  · exact row (exec_gelAdd t g s) gelAdd_setsOnly
  · exact row (exec_gelSub t g s) gelSub_setsOnly
  · exact row (exec_gelAnd t g s) (gelLogic_setsOnly _ _)
  · exact row (exec_gelOr t g s) (gelLogic_setsOnly _ _)
  · exact row (exec_gelXor t g s) (gelLogic_setsOnly _ _)
  · exact row (exec_gelShl t g s) (gelLogic_setsOnly _ _)
  · exact row (exec_gelShr t g s) (gelLogic_setsOnly _ _)
  · exact row (exec_gelSar t g s) (gelLogic_setsOnly _ _)
  · exact row (exec_gelMul t g s) (gelLogic_setsOnly _ _)
  · exact row (exec_gelMulq t g s) (gelLogic_setsOnly _ _)
  · exact row (exec_gelMin t g s) (gelLogic_setsOnly _ _)
  · exact row (exec_gelMax t g s) (gelLogic_setsOnly _ _)
  · exact row (exec_gelCmp t g s) gelCmp_setsOnly
  · exact row (exec_gelMov t g s) gelMov_setsOnly
  · exact row (exec_gelAdda t g s) gelAdda_setsOnly
  · exact row (exec_gelLdh t g s) gelLdh_setsOnly
  · exact row (exec_gelLdp t g s) gelLdp_setsOnly
  · exact row (exec_gelA2t t g s) gelA2t_setsOnly
  · exact row (exec_gelA2d t g s) gelA2d_setsOnly

end Sys2Proof.Machine
end


section
/-! Facts about the counts of a channel's service events: what a count reads after a write, and through the end of a thread. -/

namespace Sys2Proof.Machine

open Reg

/-! ### Groups of bits -/

section

variable {v lo w x i lo' w' : Nat}

theorem testBit_bits (v lo w i : Nat) : (bits v lo w).testBit i = (decide (i < w) && v.testBit (lo + i)) := by
  rw [bits, Nat.testBit_mod_two_pow, Nat.testBit_div_two_pow, Nat.add_comm]

/-- A group of bits put, between the bits above it and those below. -/
theorem putBits_eq (v lo w x : Nat) : putBits v lo w x = 2 ^ lo * (2 ^ w * (v / 2 ^ lo / 2 ^ w) + x % 2 ^ w) + v % 2 ^ lo := by
  have hv := Nat.div_add_mod v (2 ^ lo)
  have hsplit : 2 ^ lo * (v / 2 ^ lo) = 2 ^ lo * (2 ^ w * (v / 2 ^ lo / 2 ^ w)) + v / 2 ^ lo % 2 ^ w * 2 ^ lo := by
    rw [Nat.mul_comm (v / 2 ^ lo % 2 ^ w), ← Nat.mul_add, Nat.div_add_mod]
  unfold putBits bits
  rw [Nat.mul_add, Nat.mul_comm (2 ^ lo) (x % 2 ^ w)]
  omega

theorem testBit_putBits (v lo w x i : Nat) :
    (putBits v lo w x).testBit i = if lo ≤ i ∧ i < lo + w then x.testBit (i - lo) else v.testBit i := by
  have hv : v.testBit i = if i < lo then v.testBit i else (v / 2 ^ lo).testBit (i - lo) := by
    split
    · rfl
    · rw [Nat.testBit_div_two_pow, show i - lo + lo = i by omega]
  rw [putBits_eq, Nat.testBit_two_pow_mul_add _ (Nat.mod_lt _ (Nat.two_pow_pos lo))]
  by_cases hi : i < lo
  · rw [if_pos hi, if_neg (by omega), Nat.testBit_mod_two_pow, decide_eq_true hi, Bool.true_and]
  rw [if_neg hi, Nat.testBit_two_pow_mul_add _ (Nat.mod_lt _ (Nat.two_pow_pos w))]
  by_cases hw : i - lo < w
  · rw [if_pos hw, if_pos (by omega), Nat.testBit_mod_two_pow, decide_eq_true hw, Bool.true_and]
  · rw [if_neg hw, if_neg (by omega), hv, if_neg hi, Nat.testBit_div_two_pow, show i - lo - w + w = i - lo by omega]

theorem bits_putBits_self (v lo w x : Nat) : bits (putBits v lo w x) lo w = x % 2 ^ w := by
  refine Nat.eq_of_testBit_eq fun i => ?_
  rw [testBit_bits, testBit_putBits, Nat.testBit_mod_two_pow, Nat.add_sub_cancel_left]
  by_cases hi : i < w
  · rw [if_pos (by omega)]
  · rw [decide_eq_false hi, Bool.false_and, Bool.false_and]

theorem bits_putBits_ne (h : lo' + w' ≤ lo ∨ lo + w ≤ lo') (v x : Nat) : bits (putBits v lo w x) lo' w' = bits v lo' w' := by
  refine Nat.eq_of_testBit_eq fun i => ?_
  rw [testBit_bits, testBit_bits, testBit_putBits]
  by_cases hi : i < w'
  · rw [if_neg (by omega)]
  · rw [decide_eq_false hi, Bool.false_and, Bool.false_and]

theorem bits_mod_two_pow {n : Nat} (h : lo + w ≤ n) (v : Nat) : bits (v % 2 ^ n) lo w = bits v lo w := by
  refine Nat.eq_of_testBit_eq fun i => ?_
  rw [testBit_bits, testBit_bits, Nat.testBit_mod_two_pow]
  by_cases hi : i < w
  · rw [decide_eq_true (show lo + i < n by omega), Bool.true_and]
  · rw [decide_eq_false hi, Bool.false_and, Bool.false_and]

theorem bit_bits (h : i < w) (v lo : Nat) : bit (bits v lo w) i = bit v (lo + i) := by
  rw [bit_eq_testBit, bit_eq_testBit, testBit_bits, decide_eq_true h, Bool.true_and]

end

/-! ### Counts of events (R233) -/

section

variable {s a b u : State} {p g k j n : Nat}

theorem evCount_lt (s : State) (p k : Nat) : s.evCount p k < 4 := Nat.mod_lt _ (by decide)

/-- A count put leaves the counts of the other kinds. -/
theorem evCount_put (hj : j < 10) (hn : n < 4) :
    (s.putCount_ p k n).evCount p j = if j = k then n else s.evCount p j := by
  have hrd : (s.putCount_ p k n).rd (TILE_CH_EVCNT_COUNT (p / 24) (p % 24)) =
      putBits (s.rd (TILE_CH_EVCNT_COUNT (p / 24) (p % 24))) (2 * k) 2 n % 2 ^ 20 := rd_wr_self _ _ _
  unfold State.evCount
  rw [hrd, bits_mod_two_pow (by omega)]
  split
  · next hjk => rw [hjk, bits_putBits_self, Nat.mod_eq_of_lt (by omega)]
  · next hjk => rw [bits_putBits_ne (by omega)]

/-- An event with room in its count is counted, and no other (R233). -/
theorem evCount_chEvent (hp : p < 384) (hd : s.dead p = false) (hj : j < 10) (hn : s.evCount p k < 3) :
    (s.chEvent p k).evCount p j = if j = k then s.evCount p k + 1 else s.evCount p j := by
  have hafter (w : State) : Still tilePage w ((w.chevOf p k).svc p) := (svc_still p).after (chevOf_still p k)
  rw [chEvent_counted hd hn, (hafter _).evCount hp, evCount_put hj (by omega)]

/-- Counts of several kinds that fall by one, one after the other. -/
theorem evCount_fall {l : List Nat} (hl : l.Nodup) (hj : j < 10) (s : State) :
    (l.foldl (fun (s : State) k => s.putCount_ p k (s.evCount p k - 1)) s).evCount p j =
      if j ∈ l then s.evCount p j - 1 else s.evCount p j := by
  induction l generalizing s with
  | nil => simp
  | cons k l ih =>
    obtain ⟨hk, hl⟩ := List.nodup_cons.1 hl
    have hput := evCount_put (s := s) (p := p) (k := k) (j := j) (n := s.evCount p k - 1) hj
      (by have := evCount_lt s p k; omega)
    rw [List.foldl_cons, ih hl, hput]
    by_cases hjk : j = k
    · rw [if_neg (hjk ▸ hk), if_pos hjk, if_pos (hjk ▸ List.mem_cons_self), hjk]
    · rw [if_neg hjk]
      simp only [List.mem_cons, hjk, false_or]

end

/-! ### The end of a thread leaves the counts (R56, R235) -/

/-- Keys of the registers of channels on the pages of tiles, below the parameter words. -/
def chanRegs (k : Nat) : Prop := tilePage k ∧ k / 32 % 4096 < 0x400

section

variable {s a b u : State} {p g k j n : Nat}

theorem chanRegs_evcnt (hp : p < 384) : chanRegs (TILE_CH_EVCNT_COUNT (p / 24) (p % 24)).key := by
  refine ⟨tilePage_evcnt hp, ?_⟩
  rw [key_off (by simp only [TILE_CH_EVCNT_COUNT]; omega) (by simp [TILE_CH_EVCNT_COUNT])]
  simp only [TILE_CH_EVCNT_COUNT]
  omega

theorem not_chanRegs_of {f : Field} (h : 0x30 ≤ f.page ∨ 0x400 ≤ f.off) (ho : f.off < 4096) (hl : f.lo < 32) : ¬ chanRegs f.key := by
  unfold chanRegs tilePage
  rw [key_page ho hl, key_off ho hl]
  omega

theorem not_chanRegs_param (p w : Nat) : ¬ chanRegs (paramField p w).key :=
  not_chanRegs_of (.inr (by simp only [paramField]; omega)) (by simp only [paramField]; omega) (by simp [paramField])

theorem paramPut_regs (p : Nat) (h : HeldW) : Still chanRegs s (s.paramPut p h) := by
  unfold State.paramPut
  split
  · exact (wr_still _ (not_chanRegs_param p _)).after (sepia_still p 1)
  · next c tm _ =>
    have hlast : ¬ chanRegs (loopLast tm c).key := by
      unfold loopLast
      split
      · exact not_chanRegs_of (.inl (by simp only [CYL_A_LAST_W]; omega)) (by simp [CYL_A_LAST_W]) (by simp [CYL_A_LAST_W])
      · exact not_chanRegs_of (.inl (by simp only [CYL_Q_LAST_W]; omega)) (by simp [CYL_Q_LAST_W]) (by simp [CYL_Q_LAST_W])
    have hdrop : ¬ chanRegs (CYL_LOOP_CNT_DROP c).key :=
      not_chanRegs_of (.inl (by simp only [CYL_LOOP_CNT_DROP]; omega)) (by simp [CYL_LOOP_CNT_DROP]) (by simp [CYL_LOOP_CNT_DROP])
    have hmod : Still chanRegs s (s.modCyl c fun x => x.setTrim tm none) := .same rfl rfl rfl rfl
    exact .ite ((wr_still _ hlast).after <| (wr_still _ (not_chanRegs_param p _)).after <| (sepia_still p 1).after hmod)
      ((inc_still hdrop).after hmod)

theorem threadOver_regs (h : (s.eng g).thread = true) : Still chanRegs (s.setEng g (s.eng g).over) (s.threadOver g) := by
  have hgel {f : Field} (hp : f.page = 0x30 + g) (ho : f.off < 4096) (hl : f.lo < 32) : ¬ chanRegs f.key :=
    not_chanRegs_of (.inl (by omega)) ho hl
  have hmax : ¬ chanRegs (GEL_MAX_THR_CYC g).key := hgel rfl (by simp [GEL_MAX_THR_CYC]) (by simp [GEL_MAX_THR_CYC])
  have hst : ¬ chanRegs (GEL_GEL_STAT_STATE g).key := hgel rfl (by simp [GEL_GEL_STAT_STATE]) (by simp [GEL_GEL_STAT_STATE])
  have hflag : ¬ chanRegs (PG_IFLAG_FLAG (0x30 + g)).key := hgel rfl (by simp [PG_IFLAG_FLAG]) (by simp [PG_IFLAG_FLAG])
  have hheld (u : State) (q : Nat) : Still chanRegs u (u.applyHeld q) :=
    (Still.foldl (fun _ h _ => paramPut_regs q h) _).after (setChan_still q _)
  have hchan (u : State) (n : Nat) : Still chanRegs u (u.channelLeft n) := by
    unfold State.channelLeft
    split
    · exact (svc_still _).after (hheld u _)
    · exact .refl u
  rw [threadOver_eq h]
  refine (hchan _ _).after ?_
  unfold State.threadLeft
  dsimp only
  exact Still.after (.ite (wr_still _ hst) (.refl _)) <| Still.after (.ite (wr_still _ hmax) (.refl _)) <|
    .ite (iflag_still _ hflag) (.refl _)

/-- The end of a thread leaves the counts of events. -/
theorem threadOver_evCount (h : (s.eng g).thread = true) (hp : p < 384) : (s.threadOver g).evCount p k = s.evCount p k := by
  unfold State.evCount
  rw [(threadOver_regs h).regs _ (chanRegs_evcnt hp), setEng_rd]

end

end Sys2Proof.Machine
end


section
/-! Proof about branches, calls and ends of threads. -/

namespace Sys2Proof.Machine

open Reg

section

variable {s a b : State} {g n p w z : Nat} {x : GelS}

/-! ### Going on, and going elsewhere (R243, R244) -/

theorem past_cond (x : GelS) : x.past.cond = x.cond := rfl

theorem pastBkpt_past (s : State) (g : Nat) : (s.pastBkpt g).eng g = (s.eng g).past := pastBkpt_eng s g

theorem Fetched.past_runs (h : Fetched a g) : (a.pastBkpt g).rd (GEL_GEL_STAT_STATE g) ≠ 3 := h.not_halted

/-- A fetched thread's record after its cycles. -/
theorem Fetched.spends (h : Fetched a g) (n m : Nat) : ((a.pastBkpt g).spend g n m).eng g = (a.eng g).past.after n m := by
  rw [spend_eng h.past_runs, pastBkpt_past]

theorem Fetched.next (h : Fetched a g) (n : Nat) :
    (a.keep ((a.pastBkpt g).gelNext g n)).eng g = (a.eng g).past.after n n ∧
    (a.keep ((a.pastBkpt g).gelNext g n)).pc g = (a.pc g + 1) % 2 ^ 13 :=
  ⟨h.spends n n, gelNext_pc _ g n⟩

/-- The thread's record changes to `x`, and it goes on at `z`. -/
def State.gelTo (s : State) (g n z : Nat) (x : GelS) : State := ((s.setEng g x).spend g n n).setPc g z

theorem Fetched.to (h : Fetched a g) (n z : Nat) (x : GelS) :
    (a.keep ((a.pastBkpt g).gelTo g n z x)).eng g = x.after n n ∧ (a.keep ((a.pastBkpt g).gelTo g n z x)).pc g = z % 2 ^ 13 := by
  have hrun : ((a.pastBkpt g).setEng g x).rd (GEL_GEL_STAT_STATE g) ≠ 3 := h.not_halted
  exact ⟨(spend_eng hrun n n).trans (by rw [setEng_eng]), rd_wr_self _ _ _⟩

theorem iTarget_mod (w : Nat) : iTarget w % 2 ^ 13 = iTarget w := Nat.mod_mod _ _

theorem gelJump_on (s : State) (g w : Nat) : s.gelJump g w false = s.gelNext g 1 := rfl

theorem gelJump_taken (hw : 0x40 ≤ iTarget w) : s.gelJump g w true = (s.spend g 2 2).setPc g (iTarget w) :=
  (if_neg (by decide)).trans (if_neg (by omega))

/-- What a branch leaves that is taken. -/
theorem Fetched.jumps (h : Fetched a g) (hw : 0x40 ≤ iTarget w) :
    let b := a.keep ((a.pastBkpt g).gelJump g w true)
    b.pc g = iTarget w ∧ (b.eng g).cyc = (a.eng g).cyc + 2 ∧ (b.eng g).g = (a.eng g).g ∧ (b.eng g).cc = (a.eng g).cc := by
  intro b
  have hb : b = a.keep (((a.pastBkpt g).spend g 2 2).setPc g (iTarget w)) := congrArg a.keep (gelJump_taken hw)
  have heng : b.eng g = (a.eng g).past.after 2 2 := by
    rw [hb]
    exact h.spends 2 2
  rw [heng, hb]
  exact ⟨(rd_wr_self _ _ _).trans (iTarget_mod w), rfl, rfl, rfl⟩

/-- What a branch leaves that is not taken. -/
theorem Fetched.passes (h : Fetched a g) :
    let b := a.keep ((a.pastBkpt g).gelJump g w false)
    (b.eng g).g = (a.eng g).g ∧ (b.eng g).cc = (a.eng g).cc ∧ b.pc g = (a.pc g + 1) % 2 ^ 13 ∧ (b.eng g).cyc = (a.eng g).cyc + 1 := by
  obtain ⟨heng, hpc⟩ := h.next 1
  rw [gelJump_on]
  dsimp only
  rw [heng]
  exact ⟨rfl, rfl, hpc, rfl⟩

/-- BF is taken where a flag of the mask stands in the snapshot as bit 23 asks. -/
theorem gelBf_eq (s : State) (g w : Nat) :
    s.gelBf g w = s.gelJump g w ((Nat.land (bits w 24 10) (s.eng g).snap != 0) == bit w 23) := by
  unfold State.gelBf
  cases bit w 23 <;> cases Nat.land (bits w 24 10) (s.eng g).snap != 0 <;> rfl

/-! ### The return stack (R241) -/

theorem gelCall_eq (hs : (s.eng g).stack.length < 4) (hw : 0x40 ≤ iTarget w) :
    s.gelCall g w = s.gelTo g 2 (iTarget w) { s.eng g with stack := (s.pc g + 1) :: (s.eng g).stack } := by
  unfold State.gelCall
  dsimp only
  rw [if_neg (by omega), if_neg (by omega)]
  rfl

theorem gelRet_eq {c : Nat} {r : List Nat} (hs : (s.eng g).stack = c :: r) (hok : s.badAt (gelSeg g) 1 r.length = none) :
    s.gelRet g = s.gelTo g 2 c { s.eng g with stack := r } := by
  have hgood : ¬ (s.badAt (qsegOf (srcGel g 1)) 1 r.length).isSome = true := by
    rw [show qsegOf (srcGel g 1) = gelSeg g from rfl, hok]
    decide
  simp only [State.gelRet, hs]
  exact if_neg hgood

/-! ### BRK (R255) -/

/-- The engine's state and HALT settings stand through an instruction that goes on. -/
theorem gelNext_state (s : State) (g n : Nat) : (s.gelNext g n).rd (GEL_GEL_STAT_STATE g) = s.rd (GEL_GEL_STAT_STATE g) ∧
    (s.gelNext g n).on (GEL_GEL_CTRL_BRK_EN g) = s.on (GEL_GEL_CTRL_BRK_EN g) := by
  have hst : (GEL_GEL_STAT_STATE g).key ≠ (GEL_GEL_STAT_PC g).key := by simp only [Field.key, GEL_GEL_STAT_STATE, GEL_GEL_STAT_PC]; omega
  have hbrk : (GEL_GEL_CTRL_BRK_EN g).key ≠ (GEL_GEL_STAT_PC g).key := by simp only [Field.key, GEL_GEL_CTRL_BRK_EN, GEL_GEL_STAT_PC]; omega
  exact ⟨gelNext_rd hst, by rw [State.on, gelNext_rd hbrk, State.on]⟩

theorem gelBrk_halts (hb : s.on (GEL_GEL_CTRL_BRK_EN g) = true) (hst : s.rd (GEL_GEL_STAT_STATE g) = 2) :
    s.gelBrk g = (s.gelNext g 1).gelHalted g := by
  obtain ⟨h1, h2⟩ := gelNext_state s g 1
  exact if_pos (by rw [h1, h2, hb, hst]; rfl)

theorem gelBrk_goesOn (hb : s.on (GEL_GEL_CTRL_BRK_EN g) = false) : s.gelBrk g = s.gelNext g 1 :=
  if_neg (by rw [(gelNext_state s g 1).2, hb]; exact Bool.false_ne_true)

/-- What BRK leaves of a thread where BRK_EN is set. -/
theorem Fetched.breaks (h : Fetched a g) (hg : g < 4) (hb : a.on (GEL_GEL_CTRL_BRK_EN g) = true) :
    let b := a.keep ((a.pastBkpt g).gelBrk g)
    b.rd (GEL_GEL_STAT_STATE g) = 3 ∧ bit (b.rd (PG_IFLAG_FLAG (0x30 + g))) 1 = true ∧ (b.eng g).thread = true ∧
    b.pc g = (a.pc g + 1) % 2 ^ 13 ∧ (b.eng g).cyc = (a.eng g).cyc + 1 := by
  have hpc1 : (GEL_GEL_STAT_PC g).key ≠ (PG_IFLAG_FLAG (0x30 + g)).key := by
    simp only [Field.key, GEL_GEL_STAT_PC, PG_IFLAG_FLAG]; omega
  have hpc2 : (GEL_GEL_STAT_PC g).key ≠ (GEL_GEL_STAT_STATE g).key := by
    simp only [Field.key, GEL_GEL_STAT_PC, GEL_GEL_STAT_STATE]; omega
  obtain ⟨hst, hflag⟩ := gelHalted_marks (s := (a.pastBkpt g).gelNext g 1) hg
  obtain ⟨heng, hpc⟩ := h.next 1
  intro b
  have hb : b = a.keep (((a.pastBkpt g).gelNext g 1).gelHalted g) := congrArg a.keep (gelBrk_halts (s := a.pastBkpt g) hb h.runs)
  have hb_eng : b.eng g = (a.eng g).past.after 1 1 := by
    rw [hb]
    exact (gelHalted_eng g).trans heng
  rw [hb_eng, hb]
  refine ⟨hst, hflag, gelReady_thread h.ready, ?_, rfl⟩
  exact (gelHalted_rd (gel_page hg rfl (by simp [GEL_GEL_STAT_PC]) (by simp [GEL_GEL_STAT_PC])) hpc2 hpc1).trans hpc

/-! ### YIELD and END (R240) -/

theorem thrPhys_congr (h : b.regs = a.regs) : b.thrPhys g = a.thrPhys g := by
  unfold State.thrPhys
  rw [rd_congr h, physOf_congr (rd_congr h _) (rd_congr h _)]

/-- The channel's yield context: the next address and G0 to G3. -/
def Chan.yielding (x : Chan) (pc : Nat) (e : GelS) : Chan := { x with yield := some ((pc + 1) % 8192, [e.reg 0, e.reg 1, e.reg 2, e.reg 3]) }

theorem gelYield_eq (hp : s.thrPhys g = some p) :
    s.gelYield g = ((s.spend g 3 3).setChan p (((s.spend g 3 3).chan p).yielding (s.pc g) (s.eng g))).threadOver g := by
  have hregs : (s.spend g 3 3).regs = s.regs := spend_regs 3 3
  have hpc : (s.spend g 3 3).pc g = s.pc g := rd_congr hregs _
  simp only [State.gelYield, thrPhys_congr hregs, hp, hpc]
  rfl

/-- YIELD keeps the thread's place for its channel and ends the thread. -/
theorem Fetched.yields (h : Fetched a g) (hg : g < 4) (hp : a.thrPhys g = some p) :
    let b := a.keep ((a.pastBkpt g).gelYield g)
    (b.chan p).yield = some ((a.pc g + 1) % 8192, [(a.eng g).reg 0, (a.eng g).reg 1, (a.eng g).reg 2, (a.eng g).reg 3]) ∧
    (b.eng g).thread = false ∧ b.rd (GEL_GEL_STAT_STATE g) = 1 := by
  intro b
  let u := (a.pastBkpt g).spend g 3 3
  let y := (u.chan p).yielding (a.pc g) ((a.pastBkpt g).eng g)
  have hb : b = a.keep ((u.setChan p y).threadOver g) := congrArg a.keep (gelYield_eq (s := a.pastBkpt g) hp)
  have hreg : ((a.pastBkpt g).eng g).reg = (a.eng g).reg := by rw [pastBkpt_past, past_reg]
  have heng : (u.setChan p y).eng g = (a.eng g).past.after 3 3 :=
    (setChan_eng p y g).trans (h.spends 3 3)
  have hthr : ((u.setChan p y).eng g).thread = true := by
    rw [heng]
    exact gelReady_thread h.ready
  have hst : (u.setChan p y).rd (GEL_GEL_STAT_STATE g) = 2 := by
    rw [rd_congr (setChan_regs p y), rd_congr (spend_regs 3 3)]
    exact h.runs
  have hyield : (((u.setChan p y).threadOver g).chan p).yield = y.yield := by
    rw [own_yield (threadOver_own.own p), setChan_chan]
  rw [hb]
  refine ⟨hyield.trans ?_, threadOver_thread, ?_⟩
  · rw [← hreg]
    rfl
  · exact (threadOver_state hg hthr).trans (by rw [hst]; rfl)

/-- The kinds whose counts END lowers: those that its mask and the snapshot name, and that have a count. -/
def State.endKinds (s : State) (p clr snap : Nat) : List Nat :=
  (List.range 10).filter fun k => bit clr k && bit snap k && s.evCount p k != 0

/-- The oldest SRQ of a channel leaves its queue. -/
def State.srqTaken (s : State) (p : Nat) : State :=
  match (s.chan p).srq with
  | q :: r => s.setChan p { s.chan p with srq := r, srqLast := q, nwS := (s.chan p).nwS.stamp }
  | [] => s

/-- END's counts, one after the other. -/
def State.countsDown (s : State) (p : Nat) (l : List Nat) : State :=
  l.foldl (fun (s : State) k => s.putCount_ p k (s.evCount p k - 1)) s

/-- What END does to the channel: the counts, and the oldest SRQ with count 0. -/
def State.endCounts (s : State) (p clr snap : Nat) : State :=
  if (s.endKinds p clr snap).contains 0 then (s.countsDown p (s.endKinds p clr snap)).srqTaken p
  else s.countsDown p (s.endKinds p clr snap)

theorem threadEnd_eq {clr : Nat} (hp : s.thrPhys g = some p) : s.threadEnd g clr = (s.endCounts p clr (s.eng g).snap).threadOver g := by
  simp only [State.threadEnd, hp]
  rfl

theorem mem_endKinds {clr snap k : Nat} :
    k ∈ s.endKinds p clr snap ↔ k < 10 ∧ (bit clr k && bit snap k) = true ∧ s.evCount p k ≠ 0 := by
  simp only [State.endKinds, List.mem_filter, List.mem_range, Bool.and_eq_true, bne_iff_ne]

theorem srqTaken_regs (s : State) (p : Nat) : (s.srqTaken p).regs = s.regs := by
  unfold State.srqTaken
  split
  · exact setChan_regs _ _
  · rfl

theorem srqTaken_still (P : Nat → Prop) (s : State) (p : Nat) : Still P s (s.srqTaken p) := by
  unfold State.srqTaken
  split
  · exact setChan_still _ _
  · exact .refl s

theorem endCounts_still (s : State) (p clr snap : Nat) : Still chanKept s (s.endCounts p clr snap) := by
  have hdown : Still chanKept s (s.countsDown p (s.endKinds p clr snap)) := .foldl (fun _ k _ => putCount_still p k _) s
  exact .ite ((srqTaken_still _ _ p).after hdown) hdown

theorem endCounts_evCount {k : Nat} (hk : k < 10) (s : State) (p clr snap : Nat) : (s.endCounts p clr snap).evCount p k =
    if bit clr k && bit snap k then s.evCount p k - 1 else s.evCount p k := by
  have hdown : (s.endCounts p clr snap).evCount p k = (s.countsDown p (s.endKinds p clr snap)).evCount p k := by
    unfold State.endCounts
    split
    · exact evCount_congr (srqTaken_regs _ p)
    · rfl
  rw [hdown, State.countsDown, evCount_fall (by exact List.nodup_range.filter _) hk]
  by_cases hsel : (bit clr k && bit snap k) = true
  · by_cases h0 : s.evCount p k = 0
    · rw [if_neg fun h => (mem_endKinds.1 h).2.2 h0, if_pos hsel, h0]
    · rw [if_pos (mem_endKinds.2 ⟨hk, hsel, h0⟩), if_pos hsel]
  · rw [if_neg fun h => hsel (mem_endKinds.1 h).2.1, if_neg hsel]

/-- END lowers the counts that its mask and the snapshot name, and ends the thread. -/
theorem Fetched.ends (h : Fetched a g) (hg : g < 4) (hp : a.thrPhys g = some p) :
    let b := a.keep ((a.pastBkpt g).gelEnd g w)
    (b.eng g).thread = false ∧ b.rd (GEL_GEL_STAT_STATE g) = 1 ∧
    ∀ k < 10, b.evCount p k = if bit w k && bit (a.eng g).snap k then a.evCount p k - 1 else a.evCount p k := by
  intro b
  let u := (a.pastBkpt g).spend g 1 1
  have heng : u.eng g = (a.eng g).past.after 1 1 := h.spends 1 1
  have hregs : u.regs = a.regs := spend_regs 1 1
  have hsnap : (u.eng g).snap = (a.eng g).snap := by rw [heng]; rfl
  have hb : b = a.keep ((u.endCounts p (bits w 0 10) (u.eng g).snap).threadOver g) :=
    congrArg a.keep (threadEnd_eq ((thrPhys_congr hregs).trans hp))
  have hstill := endCounts_still u p (bits w 0 10) (a.eng g).snap
  have hthr : ((u.endCounts p (bits w 0 10) (a.eng g).snap).eng g).thread = true := by
    rw [hstill.eng g, heng]
    exact gelReady_thread h.ready
  have hst : (u.endCounts p (bits w 0 10) (a.eng g).snap).rd (GEL_GEL_STAT_STATE g) = 2 := by
    rw [hstill.regs _ (chanKept_gelStat hg rfl (by simp [GEL_GEL_STAT_STATE]) (by simp [GEL_GEL_STAT_STATE])), rd_congr hregs]
    exact h.runs
  rw [hb, hsnap]
  refine ⟨threadOver_thread, (threadOver_state hg hthr).trans (by rw [hst]; rfl), fun k hk => ?_⟩
  rw [keep_evCount, threadOver_evCount hthr (physOf_lt hp).1, endCounts_evCount hk, evCount_congr hregs, bit_bits hk, Nat.zero_add]

end

/-- Settles O26: each row by what its instruction does from the fetched state. -/
theorem engineControlFlow : Obligations.EngineControlFlow := by
  intro s a t g w x ha hok hrun hready hbk hbad hsound hw hx hlim
  subst hw hx
  have hg : g.val < 4 := g.isLt
  have h : Fetched a g := ⟨hrun, hready, hbk, hbad, hsound, hlim⟩
  have hact (f : State → State) : s.act t (gelOk g) f = .next (a.keep (f a)) := act_at ha hok
  have hpast : (a.pastBkpt g).eng g = (a.eng g).past := pastBkpt_past a g
  have hbr {c : Bool} (hc : (a.eng g).cond (bits (a.gelWord g) 30 4) = c) :
      (a.pastBkpt g).gelBr g (a.gelWord g) = (a.pastBkpt g).gelJump g (a.gelWord g) c := by
    rw [State.gelBr, hpast, past_cond, hc]
  have hbf {c : Bool} (hc : ((Nat.land (bits (a.gelWord g) 24 10) (a.eng g).snap != 0) == bit (a.gelWord g) 23) = c) :
      (a.pastBkpt g).gelBf g (a.gelWord g) = (a.pastBkpt g).gelJump g (a.gelWord g) c := by
    rw [gelBf_eq, hpast]
    exact congrArg _ hc
  refine ⟨fun hop hc hw => ?br, fun hop hc => ?brNot, fun hop hc hw => ?bf, fun hop hc => ?bfNot, fun hop hs hw => ?call,
    fun c r hop hs hgood => ?ret, fun hop hb => ?brk, fun hop hb => ?brkOff, fun p hop hp => ?yield, fun p hop hp => ?done⟩
  case br =>
    refine ⟨_, (exec_gelBr t g s).trans (hact _), ?_⟩
    rw [h.gelRow hop, hbr hc]
    exact h.jumps hw
  case brNot =>
    refine ⟨_, (exec_gelBr t g s).trans (hact _), ?_⟩
    rw [h.gelRow hop, hbr hc]
    exact h.passes
  case bf =>
    refine ⟨_, (exec_gelBf t g s).trans (hact _), ?_⟩
    rw [h.gelRow hop, hbf (beq_iff_eq.2 hc)]
    exact h.jumps hw
  case bfNot =>
    refine ⟨_, (exec_gelBf t g s).trans (hact _), ?_⟩
    rw [h.gelRow hop, hbf (beq_eq_false_iff_ne.2 hc)]
    exact h.passes
  case call =>
    refine ⟨_, (exec_gelCall t g s).trans (hact _), ?_⟩
    rw [h.gelRow hop, gelCall_eq (by rw [hpast]; exact hs) hw, hpast]
    obtain ⟨heng, hpc⟩ := h.to 2 (iTarget (a.gelWord g)) { (a.eng g).past with stack := ((a.pastBkpt g).pc g + 1) :: (a.eng g).past.stack }
    rw [heng]
    exact ⟨rfl, hpc.trans (iTarget_mod _), rfl, rfl, rfl⟩
  case ret =>
    refine ⟨_, (exec_gelRet t g s).trans (hact _), ?_⟩
    rw [h.gelRow hop, gelRet_eq (s := a.pastBkpt g) (by rw [hpast]; exact hs) hgood, hpast]
    obtain ⟨heng, hpc⟩ := h.to 2 c { (a.eng g).past with stack := r }
    rw [heng]
    exact ⟨rfl, hpc, rfl, rfl⟩
  case brk =>
    refine ⟨_, (exec_gelBrk t g s).trans (hact _), ?_⟩
    rw [h.gelRow hop]
    exact h.breaks hg hb
  case brkOff =>
    refine ⟨_, (exec_gelBrk t g s).trans (hact _), ?_⟩
    obtain ⟨heng, hpc⟩ := h.next 1
    rw [h.gelRow hop, gelBrk_goesOn (s := a.pastBkpt g) hb, heng]
    exact ⟨(gelNext_state (a.pastBkpt g) g 1).1.trans hrun, gelReady_thread hready, hpc, rfl⟩
  case yield =>
    refine ⟨_, (exec_gelYield t g s).trans (hact _), ?_⟩
    rw [h.gelRow hop]
    exact h.yields hg hp
  case done =>
    refine ⟨_, (exec_gelEnd t g s).trans (hact _), ?_⟩
    rw [h.gelRow hop]
    exact h.ends hg hp

end Sys2Proof.Machine
end


section
/-! Proof about the enable of an engine, and about the accesses of threads to memory that complete. -/

namespace Sys2Proof.Machine

open Reg

section

variable {s a u : State} {g v d : Nat} {z : GelMem} {ok : Bool}

/-! ### GEL_ENABLE (R255) -/

theorem gelEnable_refused (hen : s.on (PG_CTRL_EN (0x30 + g)) = false) (h : (s.eng g).image = false ∨ s.wheelOk g = false) :
    s.gelEnable g = s.cfgRec (srcGel g 0xF) 0 0xFFF := by
  have hno : ((s.eng g).image && s.wheelOk g) = false := by
    rcases h with h | h
    · rw [h, Bool.false_and]
    · rw [h, Bool.and_false]
  unfold State.gelEnable
  rw [hen, if_neg Bool.false_ne_true, hno, if_neg Bool.false_ne_true]

/-- The enable and the state of an engine that starts. -/
def State.gelStarted (s : State) (g : Nat) : State := (s.wr (PG_CTRL_EN (0x30 + g)) 1).wr (GEL_GEL_STAT_STATE g) 1

theorem gelEnable_starts (hen : s.on (PG_CTRL_EN (0x30 + g)) = false) (himage : (s.eng g).image = true) (hwheel : s.wheelOk g = true) :
    s.gelEnable g = if s.notHalted then s.gelStarted g else (s.gelStarted g).dhaltHold g := by
  have hen' : CLK_PWR_STAT_STATE.key ≠ (PG_CTRL_EN (0x30 + g)).key := by
    simp only [Field.key, CLK_PWR_STAT_STATE, PG_CTRL_EN]; omega
  have hst : CLK_PWR_STAT_STATE.key ≠ (GEL_GEL_STAT_STATE g).key := by
    simp only [Field.key, CLK_PWR_STAT_STATE, GEL_GEL_STAT_STATE]; omega
  have hhalt : (s.gelStarted g).notHalted = s.notHalted := by
    rw [State.notHalted, State.gelStarted, rd_wr_ne _ _ _ _ hst, rd_wr_ne _ _ _ _ hen', State.notHalted]
  unfold State.gelEnable
  rw [hen, if_neg Bool.false_ne_true, himage, hwheel, Bool.and_self, if_pos rfl, ← hhalt]
  rfl

/-- An engine that starts is IDLE, or HALTED while device debug halt lasts (R49). -/
theorem gelEnable_left (hg : g < 4) (hen : s.on (PG_CTRL_EN (0x30 + g)) = false) (himage : (s.eng g).image = true)
    (hwheel : s.wheelOk g = true) : (s.gelEnable g).rd (PG_CTRL_EN (0x30 + g)) = 1 ∧
    (s.gelEnable g).rd (GEL_GEL_STAT_STATE g) = (if s.notHalted then 1 else 3) ∧ (s.gelEnable g).eng g = s.eng g := by
  have hst : (PG_CTRL_EN (0x30 + g)).key ≠ (GEL_GEL_STAT_STATE g).key := by simp only [Field.key, PG_CTRL_EN, GEL_GEL_STAT_STATE]; omega
  have hflag : (PG_CTRL_EN (0x30 + g)).key ≠ (PG_IFLAG_FLAG (0x30 + g)).key := by simp only [Field.key, PG_CTRL_EN, PG_IFLAG_FLAG]; omega
  have hon : (s.gelStarted g).rd (PG_CTRL_EN (0x30 + g)) = 1 := by
    rw [State.gelStarted, rd_wr_ne _ _ _ _ hst, rd_wr_self]
    rfl
  rw [gelEnable_starts hen himage hwheel]
  cases s.notHalted
  · have hhold : ((s.gelStarted g).dhaltHold g).rd (PG_CTRL_EN (0x30 + g)) = (s.gelStarted g).rd (PG_CTRL_EN (0x30 + g)) :=
      gelHalted_rd (gel_page hg rfl (by simp [PG_CTRL_EN]) (by simp [PG_CTRL_EN])) hst hflag
    exact ⟨hhold.trans hon, (gelHalted_marks hg).1, gelHalted_eng g⟩
  · exact ⟨hon, rd_wr_self _ _ _, rfl⟩

/-! ### The end of an access (R248) -/

/-- The thread's record once its access `z` has ended, with `v` read. -/
def GelS.accessed (x : GelS) (z : GelMem) (ok : Bool) (v : Nat) : GelS :=
  match z.dst with
  | some d => (({ x with mem := none } : GelS).setFlag 4 (!ok)).setReg d (if ok then v else 0)
  | none => ({ x with mem := none } : GelS).setFlag 4 (!ok)

theorem gelMemEnd_eq (hover : s.overLimit g (s.stalledFor g) 0 = none) :
    s.gelMemEnd g z ok v = (s.spend g (s.stalledFor g) 0).modEng g fun x => x.accessed z ok v := by
  simp only [State.gelMemEnd, hover]
  rfl

/-- Cycles change a thread's counts at most, also where the engine is HALTED. -/
theorem spend_counts (s : State) (g n m : Nat) : ∃ i j, (s.spend g n m).eng g = (s.eng g).after i j := by
  by_cases h : s.rd (GEL_GEL_STAT_STATE g) = 3
  · rw [State.spend, if_pos h]
    exact ⟨0, 0, rfl⟩
  · exact ⟨n, m, spend_eng h n m⟩

theorem gelMemEnd_eng (hover : s.overLimit g (s.stalledFor g) 0 = none) :
    ∃ i j, (s.gelMemEnd g z ok v).eng g = ((s.eng g).after i j).accessed z ok v := by
  obtain ⟨i, j, h⟩ := spend_counts s g (s.stalledFor g) 0
  exact ⟨i, j, by rw [gelMemEnd_eq hover, modEng_eng, h]⟩

theorem spend_mem (s : State) (g n m : Nat) : (s.spend g n m).mem = s.mem := (congrArg State.mem (spend_frame s g n m) :)

theorem spend_casc (s : State) (g n m : Nat) : (s.spend g n m).casc = s.casc := (congrArg State.casc (spend_frame s g n m) :)

theorem gelMemEnd_pc (hover : s.overLimit g (s.stalledFor g) 0 = none) : (s.gelMemEnd g z ok v).pc g = s.pc g := by
  rw [gelMemEnd_eq hover]
  exact rd_congr (spend_regs (s := s) _ _) _

theorem gelMemEnd_mem (hover : s.overLimit g (s.stalledFor g) 0 = none) : (s.gelMemEnd g z ok v).mem = s.mem := by
  rw [gelMemEnd_eq hover]
  exact spend_mem s g _ 0

theorem gelMemEnd_casc (hover : s.overLimit g (s.stalledFor g) 0 = none) : (s.gelMemEnd g z ok v).casc = s.casc := by
  rw [gelMemEnd_eq hover]
  exact spend_casc s g _ 0

/-- What the end of an LDM leaves of its thread. -/
theorem gelMemEnd_load (hover : s.overLimit g (s.stalledFor g) 0 = none) (hz : z.dst = some d) (hd : d < 8) :
    ((s.gelMemEnd g z ok v).eng g).mem = none ∧ ((s.gelMemEnd g z ok v).eng g).reg d = (if ok then v else 0) % 2 ^ 32 ∧
    ((s.gelMemEnd g z ok v).eng g).flag 4 = !ok := by
  obtain ⟨i, j, h⟩ := gelMemEnd_eng (z := z) (ok := ok) (v := v) hover
  rw [h, GelS.accessed, hz]
  exact ⟨rfl, setReg_reg _ _ hd, setFlag_flag _ 4 _⟩

/-- What the end of an STM leaves of its thread. -/
theorem gelMemEnd_store (hover : s.overLimit g (s.stalledFor g) 0 = none) (hz : z.dst = none) :
    ((s.gelMemEnd g z ok v).eng g).mem = none ∧ ((s.gelMemEnd g z ok v).eng g).flag 4 = (!ok) ∧
    ((s.gelMemEnd g z ok v).eng g).g = (s.eng g).g := by
  obtain ⟨i, j, h⟩ := gelMemEnd_eng (z := z) (ok := ok) (v := v) hover
  rw [h, GelS.accessed, hz]
  exact ⟨rfl, setFlag_flag _ 4 _, rfl⟩

/-! ### GEL_MEM_COMPLETE (R248) -/

/-- The answer of the interconnect to an access of the device's own. -/
def State.gelAnswer (s : State) (g : Nat) (z : GelMem) : BusAns × State :=
  if z.dst.isNone then s.busWrite (4 + g) z.addr z.val 15 else s.busRead (4 + g) z.addr

theorem gelAnswer_load (hd : z.dst = some d) : a.gelAnswer g z = a.busRead (4 + g) z.addr := if_neg (by rw [hd]; exact Bool.false_ne_true)

theorem gelAnswer_store (hd : z.dst = none) : a.gelAnswer g z = a.busWrite (4 + g) z.addr z.val 15 := if_pos (by rw [hd]; rfl)

theorem gelMemDone_ok (hz : (a.eng g).mem = some z) (hr : isRemote z.addr = false) (h : a.gelAnswer g z = (.ok v, u)) :
    a.gelMemDone g = u.gelMemEnd g z true v := by
  unfold State.gelAnswer at h
  simp only [State.gelMemDone, hz, hr, Bool.false_eq_true, if_false, h]

theorem gelMemDone_err (hz : (a.eng g).mem = some z) (hr : isRemote z.addr = false) (h : a.gelAnswer g z = (.err, u)) :
    a.gelMemDone g = u.gelMemEnd g z false 0 := by
  unfold State.gelAnswer at h
  simp only [State.gelMemDone, hz, hr, Bool.false_eq_true, if_false, h]

/-- The state after the result `r` of a remote access is taken. -/
def State.remTaken (s : State) (r : RemEnd) : State := s.modCasc fun c => { c with remDone := c.remDone.erase r }

/-- A remote read that has ended. -/
theorem gelMemDone_remote {r : RemEnd} (hz : (a.eng g).mem = some z) (hr : isRemote z.addr = true) (hd : z.dst = some d)
    (h : (a.casc.remDone.find? fun y => y.m == 4 + g && y.addr == z.addr && y.write == false) = some r) :
    a.gelMemDone g = (a.remTaken r).gelMemEnd g z (r.status == 0) r.data := by
  have htake : a.remTake (4 + g) z.addr false = (some r, a.remTaken r) := by
    simp only [State.remTake, h]
    rfl
  simp only [State.gelMemDone, hz, hr, hd, Option.isNone_some, htake, if_true]

end

/-- Settles O28: an enable by its two forms; an access by its answer, which `gelMemEnd` gives to the thread. -/
theorem engineEnableAndMemory : Obligations.EngineEnableAndMemory := by
  intro s a t g ha hcore
  have hg : g.val < 4 := g.isLt
  have hmem (hrun : a.running (0x30 + g) = true) : exec (.gelMemComplete t g) s = .next (a.keep (a.gelMemDone g)) :=
    (exec_gelMemComplete t g s).trans (act_at ha (by rw [gelOk, hcore, hrun]; rfl))
  have henable {m : Master} (hw : a.mayWrite m (0x30 + g) 8 1 1 = true) :
      exec (.gelEnable t m g) s = .next (a.keep ((a.counted m (0x30 + g)).gelEnable g)) := by
    rw [exec_gelEnable, execGelEnable, act_at ha hcore, State.guardedMask, guardedTo_may (by omega) (by decide) hw,
      charged_eq_counted (.inr (by omega)) (by decide)]
  refine ⟨fun m hw hen himage hwheel => ?starts, fun m hw hen hno => ?refused, fun z d v u hrun hz hr hd hlt hbus heng hover => ?load,
    fun z v u hrun hz hr hd hbus heng hover => ?store, fun z u hrun hz hr hd hbus heng hover => ?storeErr,
    fun z d u hrun hz hr hd hlt hbus heng hover => ?loadErr, fun z d r hrun hz hr hd hlt hfind hover => ?remote⟩
  case starts => exact ⟨_, henable hw, gelEnable_left (s := a.counted m (0x30 + g)) hg hen himage hwheel⟩
  case refused =>
    dsimp only
    rw [henable hw, charged_eq_counted (.inr (by omega)) (by decide), gelEnable_refused (s := a.counted m (0x30 + g)) hen hno]
  case load =>
    obtain ⟨h1, h2, h3⟩ := gelMemEnd_load (ok := true) (v := v) hover hd hlt
    refine ⟨_, hmem hrun, ?_⟩
    rw [gelMemDone_ok hz hr ((gelAnswer_load hd).trans hbus)]
    exact ⟨h1, h2, h3, gelMemEnd_pc hover⟩
  case store =>
    obtain ⟨h1, h2, h3⟩ := gelMemEnd_store (ok := true) (v := v) hover hd
    refine ⟨_, hmem hrun, ?_⟩
    rw [gelMemDone_ok hz hr ((gelAnswer_store hd).trans hbus)]
    exact ⟨h1, h2, gelMemEnd_mem hover, h3.trans (by rw [heng])⟩
  case storeErr =>
    obtain ⟨h1, h2, h3⟩ := gelMemEnd_store (ok := false) (v := 0) hover hd
    refine ⟨_, hmem hrun, ?_⟩
    rw [gelMemDone_err hz hr ((gelAnswer_store hd).trans hbus)]
    exact ⟨h1, h2, gelMemEnd_mem hover, h3.trans (by rw [heng])⟩
  case loadErr =>
    obtain ⟨h1, h2, h3⟩ := gelMemEnd_load (ok := false) (v := 0) hover hd hlt
    refine ⟨_, hmem hrun, ?_⟩
    rw [gelMemDone_err hz hr ((gelAnswer_load hd).trans hbus)]
    exact ⟨h1, h2, h3⟩
  case remote =>
    have hover' : (a.remTaken r).overLimit g ((a.remTaken r).stalledFor g) 0 = none := hover
    obtain ⟨h1, h2, h3⟩ := gelMemEnd_load (ok := r.status == 0) (v := r.data) hover' hd hlt
    refine ⟨_, hmem hrun, ?_⟩
    rw [gelMemDone_remote hz hr hd hfind]
    refine ⟨h1, h2.trans ?_, h3.trans ?_, congrArg CascS.remDone (gelMemEnd_casc hover')⟩
    · by_cases h0 : r.status = 0 <;> simp [h0]
    · by_cases h0 : r.status = 0 <;> simp [h0]

end Sys2Proof.Machine
end


section
/-! The counterexample to the statement on loads, stores, conversions and reads. -/

namespace Sys2Proof.Machine

open Reg

/-! ### A conversion in the micro-tick of an acceptance (R174, R245) -/

/-- Engine 0 is about to run A2D in the micro-tick in which the record of 1,000 ticks a tooth was accepted; the record before it,
of 2,000 ticks, is still in force. -/
def freshRecord : State :=
  let s := upi 365340655616 { g := [3, 2147483653, 7, 1, 5, 6, 4096, 9] }
  let now : PRec := { t := 4990, w := 1000, tp := 1000 }
  let before : PRec := { t := 2990, w := 1000, tp := 2000 }
  { s with trk := { out := { st := 3, b23u := false, hasRec := true, g := { r := now, at_ := 5000 }, pubAt := 5000, oldRec := before } } }

/-- The instruction about to be run there is the A2D, and nothing keeps it from completing. -/
theorem freshRecord_fetched : Fetched (freshRecord.advance 5000) (0 : Engine) ∧ gelOk 0 (freshRecord.advance 5000) = true ∧
    iOpc ((freshRecord.advance 5000).gelWord (0 : Engine)) = 0x15 := by
  have h : gelOk 0 (freshRecord.advance 5000) = true ∧ iOpc ((freshRecord.advance 5000).gelWord 0) = 0x15 ∧
      (freshRecord.advance 5000).rd (GEL_GEL_STAT_STATE 0) = 2 ∧ (freshRecord.advance 5000).gelReady 0 = true ∧
      (freshRecord.advance 5000).atBkpt 0 = false ∧ (freshRecord.advance 5000).badFetch 0 = none ∧
      (freshRecord.advance 5000).fetchBad 0 = none ∧
      (freshRecord.advance 5000).overLimit 0 (opcCycles 0x15 + (freshRecord.advance 5000).stalledFor 0) (opcCycles 0x15) = none := by
    decide +kernel
  obtain ⟨hok, hop, hrun, hready, hbk, hbad, hsound, hlim⟩ := h
  exact ⟨⟨hrun, hready, hbk, hbad, hsound, hop ▸ hlim⟩, hok, hop⟩

/-- By the tracker's own record G2 gets the 2,147,483,653 ticks of its angle; by the record in force it gets twice as many,
modulo 2^32. -/
theorem freshRecord_ticks :
    let a := freshRecord.advance 5000
    let g : Engine := 0
    let w := a.gelWord g
    ofS 32 (divNear ((a.eng g).reg (iA w) * a.ang.g.r.tp) a.ang.g.r.w) = 2147483653 ∧
    (((a.pastBkpt g).gelA2d g w).eng g).reg (iD w) = 10 := by decide +kernel

/-- Refutes O23: its clauses of A2T and A2D convert by the tracker's newest record also in the micro-tick of its acceptance, where
the record before it is still in force (R174). -/
theorem not_engineDataMoves : ¬ Obligations.EngineDataMoves := by
  intro h
  obtain ⟨hf, hok, hop⟩ := freshRecord_fetched
  obtain ⟨hnew, hold⟩ := freshRecord_ticks
  obtain ⟨-, -, -, -, -, -, ha2d, -⟩ :=
    h freshRecord _ 5000 0 _ _ rfl hok hf.runs hf.ready hf.noBkpt hf.known hf.sound rfl rfl hf.within
  obtain ⟨b, hb, hreg, -⟩ := ha2d hop (by decide +kernel) (by decide +kernel)
  have hex := (exec_gelA2d 5000 0 freshRecord).trans (act_at rfl hok)
  rw [hf.gelRow hop] at hex
  rw [Host.Outcome.next.inj (hb.symm.trans hex), keep_eng, hnew, hold] at hreg
  exact absurd hreg (by decide)

end Sys2Proof.Machine
end


section
/-! Proof about matches that fire: faults and migrations stand, so an event counts after the action as before it. -/

namespace Sys2Proof.Machine

open Reg

/-! ### Steps that no fault and no migration is part of -/

/-- Faults and the migration stand, on which alone it depends whether a channel acts (R457, R460). -/
structure FaultsKept (s s' : State) : Prop where
  flt : s'.flt = s.flt
  mig : s'.maint.mig = s.maint.mig

section

variable {s a b c : State} {p k j : Nat}

theorem FaultsKept.dead (h : FaultsKept a b) (p : Nat) : b.dead p = a.dead p := by
  unfold State.dead State.pageCrimson
  rw [h.flt, h.mig]

theorem FaultsKept.refl (s : State) : FaultsKept s s := ⟨rfl, rfl⟩

theorem FaultsKept.after (k : FaultsKept b c) (h : FaultsKept a b) : FaultsKept a c := ⟨k.flt.trans h.flt, k.mig.trans h.mig⟩

theorem FaultsKept.ite {q : Prop} [Decidable q] (h : FaultsKept s a) (k : FaultsKept s b) : FaultsKept s (if q then a else b) := by
  split
  · exact h
  · exact k

theorem FaultsKept.foldl {α : Type} {l : List α} {f : State → α → State} (h : ∀ s x, FaultsKept s (f s x)) (s : State) :
    FaultsKept s (l.foldl f s) :=
  List.foldlRecOn (motive := fun r => FaultsKept s r) l f (.refl s) fun r hr x _ => (h r x).after hr

theorem wr_faults (f : Field) (v : Nat) : FaultsKept s (s.wr f v) := ⟨rfl, rfl⟩

theorem setChan_faults (p : Nat) (x : Chan) : FaultsKept s (s.setChan p x) := by
  unfold State.setChan State.sepia
  dsimp only
  split <;> exact ⟨rfl, rfl⟩

theorem chevOf_faults (p k : Nat) : FaultsKept s (s.chevOf p k) := by
  have hpulse (u : State) (n : Nat) : FaultsKept u (u.pulse n) := ⟨rfl, rfl⟩
  unfold State.chevOf
  split
  · exact .foldl (fun _ _ => .ite (hpulse _ _) (.refl _)) s
  · exact .refl s

theorem svc_faults (p : Nat) : FaultsKept s (s.svc p) := by
  unfold State.svc
  split
  · exact .refl s
  · exact .ite (.ite (.refl s) ⟨rfl, rfl⟩) ⟨rfl, rfl⟩

theorem unsafe_faults (p act : Nat) : FaultsKept s (s.unsafe_ p act) := by
  have hhold (u : State) : FaultsKept u (u.holdChan p) := by
    unfold State.holdChan
    split
    · exact ⟨rfl, rfl⟩
    · exact .refl u
  exact .ite (.refl s) ((hhold _).after (setChan_faults _ _))

theorem chEdge_faults (s0 : State) (p : Nat) (up was soft : Bool) : FaultsKept s (s.chEdge s0 p up was soft) := by
  have hlatch (u : State) : FaultsKept u (u.latchRiseOf p) := by
    unfold State.latchRiseOf
    split
    · exact .foldl (fun _ _ => .ite (wr_faults _ _) (.refl _)) u
    · exact .refl u
  have hrise (u : State) : FaultsKept u (u.softRise p) := ⟨rfl, rfl⟩
  have hfall (u : State) : FaultsKept u (u.softOff s0 p) := by
    unfold State.softOff
    split
    · exact .refl u
    · exact .ite (.refl u) ⟨rfl, rfl⟩
  exact .ite ((hlatch _).after <| (hrise _).after (chevOf_faults p 10))
    (.ite (.ite ((hfall _).after (chevOf_faults p 11)) (chevOf_faults p 11)) (.refl s))

theorem chSet_faults (p : Nat) (env car soft : Bool) : FaultsKept s (s.chSet p env car soft) := by
  have hlevels : FaultsKept s (s.chLevels p env car) := .ite ((setChan_faults _ _).after (setChan_faults _ _)) (setChan_faults _ _)
  have hfollow (u : State) : FaultsKept u (u.follow_ s) := .ite (.refl u) ⟨rfl, rfl⟩
  rw [chSet_eq]
  exact (hfollow _).after <| (chEdge_faults _ _ _ _ _).after hlevels

theorem microAct_faults (p act : Nat) : FaultsKept s (s.microAct p act) :=
  .ite ((chSet_faults _ _ _ _).after (unsafe_faults p act)) ((chSet_faults _ _ _ _).after (unsafe_faults p act))

/-! ### An event other than an SRQ (R233) -/

/-- An event whose count is full and that is no SRQ counts in OVR where FMASK selects it. -/
theorem chEvent_full (hd : s.dead p = false) (hn : ¬ s.evCount p k < 3) (hk : k ≠ 0) :
    s.chEvent p k =
      if bit (s.rd (TILE_CH_CFG_FMASK (p / 24) (p % 24))) k then s.inc (TILE_CH_EVCNT_OVR (p / 24) (p % 24)) else s := by
  rw [State.chEvent, hd, if_neg (by decide), if_neg hn, if_neg hk]

theorem chEvent_faults (hk : k ≠ 0) : FaultsKept s (s.chEvent p k) := by
  by_cases hd : s.dead p = true
  · rw [State.chEvent, if_pos hd]
    exact .refl s
  have hd : s.dead p = false := by simpa using hd
  by_cases hn : s.evCount p k < 3
  · have hput (n : Nat) : FaultsKept s (s.putCount_ p k n) := by
      unfold State.putCount_ State.sepia
      split <;> exact ⟨rfl, rfl⟩
    rw [chEvent_counted hd hn]
    exact (svc_faults p).after <| (chevOf_faults p k).after (hput _)
  · rw [chEvent_full hd hn hk]
    exact .ite ⟨rfl, rfl⟩ (.refl s)

/-- An event leaves the counts of the other kinds. -/
theorem evCount_chEvent_ne (hp : p < 384) (hk : k ≠ 0) (hj : j < 10) (hjk : j ≠ k) : (s.chEvent p k).evCount p j = s.evCount p j := by
  by_cases hd : s.dead p = true
  · rw [State.chEvent, if_pos hd]
  have hd : s.dead p = false := by simpa using hd
  by_cases hn : s.evCount p k < 3
  · rw [evCount_chEvent hp hd hj hn, if_neg hjk]
  · have hovr : (s.inc (TILE_CH_EVCNT_OVR (p / 24) (p % 24))).evCount p j = s.evCount p j := by
      have hne : (TILE_CH_EVCNT_COUNT (p / 24) (p % 24)).key ≠ (TILE_CH_EVCNT_OVR (p / 24) (p % 24)).key := by
        simp [Field.key, TILE_CH_EVCNT_OVR, TILE_CH_EVCNT_COUNT]
      unfold State.evCount State.inc State.bump
      rw [rd_wr_ne _ _ _ _ hne]
    rw [chEvent_full hd hn hk]
    split
    · exact hovr
    · rfl

/-! ### A match counts its event, and one that had passed event 5 too (R233) -/

theorem microAct_evCount (hp : p < 384) (act : Nat) : (s.microAct p act).evCount p j = s.evCount p j := by
  have hset (u : State) (env car : Bool) : Still tilePage u (u.chSet p env car false) := by
    rw [chSet_eq]
    exact (follow_still _).after <| (chEdge_stillOff tilePage_noLevel _ _ _ _).after (chLevels_still _ _ _)
  exact Still.evCount (.ite ((hset _ _ _).after (unsafe_still p act)) ((hset _ _ _).after (unsafe_still p act))) hp

/-- The state in which a match that fires with the channel `x` counts its event. -/
theorem acted_counts (hp : p < 384) (x : Chan) (act : Nat) :
    ((s.setChan p x).microAct p act).dead p = s.dead p ∧ ((s.setChan p x).microAct p act).evCount p j = s.evCount p j :=
  ⟨((microAct_faults p act).after (setChan_faults p x)).dead p, (microAct_evCount hp act).trans (evCount_congr (setChan_regs p x))⟩

theorem matchAct_evCount (hp : p < 384) (hd : s.dead p = false) (hk : k < 10) (hn : s.evCount p k < 3) (x : Chan) (act : Nat) :
    ((s.setChan p x).matchAct p act k).evCount p k = s.evCount p k + 1 := by
  obtain ⟨hdead, hcount⟩ := acted_counts (s := s) (j := k) hp x act
  rw [State.matchAct, evCount_chEvent hp (hdead.trans hd) hk (hcount ▸ hn), if_pos rfl, hcount]

theorem matchAct_evCount_ne (hp : p < 384) (hk : k ≠ 0) (hj : j < 10) (hjk : j ≠ k) (x : Chan) (act : Nat) :
    ((s.setChan p x).matchAct p act k).evCount p j = s.evCount p j :=
  (evCount_chEvent_ne hp hk hj hjk).trans (acted_counts hp x act).2

/-- An error counter of a channel leaves the counts of its events. -/
theorem chErr_evCount {f : Field} (hf : f.key ≠ (TILE_CH_EVCNT_COUNT (p / 24) (p % 24)).key) :
    (s.chErr p f).evCount p j = s.evCount p j := by
  have hflag : (PG_IFLAG_FLAG (0x20 + p / 24)).key ≠ (TILE_CH_EVCNT_COUNT (p / 24) (p % 24)).key := by
    simp only [Field.key, PG_IFLAG_FLAG, TILE_CH_EVCNT_COUNT]
    omega
  have hstill := chErr_still (s := s) (P := (· = (TILE_CH_EVCNT_COUNT (p / 24) (p % 24)).key)) hf hflag
  unfold State.evCount
  rw [hstill.regs _ rfl]

theorem chErr_passed_evCount (p j : Nat) : (s.chErr p (TILE_CH_ERR_PASSED (p / 24) (p % 24))).evCount p j = s.evCount p j :=
  chErr_evCount (by simp only [Field.key, TILE_CH_ERR_PASSED, TILE_CH_EVCNT_COUNT]; omega)

theorem passed_evCount (hp : p < 384) (hd : s.dead p = false) (hn : s.evCount p 5 < 3) :
    (s.passed p).evCount p 5 = s.evCount p 5 + 1 := by
  have hcount := chErr_passed_evCount (s := s) p 5
  have hdead : (s.chErr p (TILE_CH_ERR_PASSED (p / 24) (p % 24))).dead p = false := hd
  rw [State.passed, evCount_chEvent hp hdead (by decide) (hcount ▸ hn), if_pos rfl, hcount]

theorem passed_evCount_ne (hp : p < 384) (hj : j < 10) (hj5 : j ≠ 5) : (s.passed p).evCount p j = s.evCount p j :=
  (evCount_chEvent_ne hp (by decide) hj hj5).trans (chErr_passed_evCount p j)

/-- What a match leaves of the counts that fires with event `k`, and with event 5 where it had passed. -/
theorem fired_counts (hp : p < 384) (hd : s.dead p = false) (hk : k ≠ 0) (hk10 : k < 10) (hk5 : k ≠ 5) (x : Chan) (act : Nat) :
    let u := (s.setChan p x).matchAct p act k
    (s.evCount p k < 3 → u.evCount p k = s.evCount p k + 1 ∧ (u.passed p).evCount p k = s.evCount p k + 1) ∧
    (s.evCount p 5 < 3 → (u.passed p).evCount p 5 = s.evCount p 5 + 1) := by
  intro u
  have hdead : u.dead p = false :=
    ((chEvent_faults hk).after <| (microAct_faults p act).after (setChan_faults p x)).dead p |>.trans hd
  have h5 : u.evCount p 5 = s.evCount p 5 := matchAct_evCount_ne hp hk (by decide) (Ne.symm hk5) x act
  constructor
  · intro hn
    have hu : u.evCount p k = s.evCount p k + 1 := matchAct_evCount hp hd hk10 hn x act
    exact ⟨hu, (passed_evCount_ne hp hk10 hk5).trans hu⟩
  · intro hn
    rw [passed_evCount hp hdead (h5 ▸ hn), h5]

end

end Sys2Proof.Machine
end


section
/-! Proof about matches that fire: each by the equation of its step where its instant, angle or fixed time has come. -/

namespace Sys2Proof.Machine

open Reg

section

variable {s a : State} {p t : Nat}

/-- What a time match that fires leaves of its channel and its event (R225, R230, R233). -/
theorem mtFire_left (hp : p < 384) (hd : s.dead p = false) :
    let b := s.mtFire p
    (b.chan p).mtArm = false ∧ (b.chan p).mtPassed = false ∧ (b.chan p).maArm = (s.chan p).maArm ∧
    (s.envOn p = true → (b.chan p).car = actOn (s.chan p).mtAct (s.chan p).car ∧ (b.chan p).env = (s.chan p).env) ∧
    (s.envOn p = false → (b.chan p).env = actOn (s.chan p).mtAct (s.chan p).env ∧ (b.chan p).car = (s.chan p).car) ∧
    (s.evCount p 1 < 3 → b.evCount p 1 = s.evCount p 1 + 1) := by
  intro b
  obtain ⟨σ, n, hch⟩ := mtFire_chan s p
  obtain ⟨henv, hone⟩ := acted_actedOn ((s.chan p).mtFired (s.tb + 1)) (s.envOn p) (s.chan p).mtAct σ n
  obtain ⟨hcount, -⟩ := fired_counts (k := 1) hp hd (by decide) (by decide) (by decide) ((s.chan p).mtFired (s.tb + 1)) (s.chan p).mtAct
  have hev (hn : s.evCount p 1 < 3) : b.evCount p 1 = s.evCount p 1 + 1 := by
    obtain ⟨hquiet, hpassed⟩ := hcount hn
    simp only [b, mtFire_eq]
    split
    · exact hpassed
    · exact hquiet
  rw [show b.chan p = _ from hch]
  exact ⟨rfl, rfl, rfl, henv, hone, hev⟩

/-- What an angle or coupled match that fires leaves of its channel and its event (R226, R230, R233). -/
theorem maFire_left (hp : p < 384) (hd : s.dead p = false) :
    let b := s.maFire p
    (b.chan p).maArm = false ∧ (b.chan p).maPassed = false ∧ (b.chan p).mtArm = (s.chan p).mtArm ∧
    (s.envOn p = true → (b.chan p).car = actOn (s.chan p).maAct (s.chan p).car ∧ (b.chan p).env = (s.chan p).env) ∧
    (s.envOn p = false → (b.chan p).env = actOn (s.chan p).maAct (s.chan p).env ∧ (b.chan p).car = (s.chan p).car) ∧
    (s.evCount p 2 < 3 → b.evCount p 2 = s.evCount p 2 + 1) := by
  intro b
  obtain ⟨σ, n, hch⟩ := maFire_chan s p
  obtain ⟨henv, hone⟩ := acted_actedOn ((s.chan p).maFired (s.tb + 1)) (s.envOn p) (s.chan p).maAct σ n
  obtain ⟨hcount, -⟩ := fired_counts (k := 2) hp hd (by decide) (by decide) (by decide) ((s.chan p).maFired (s.tb + 1)) (s.chan p).maAct
  have hev (hn : s.evCount p 2 < 3) : b.evCount p 2 = s.evCount p 2 + 1 := by
    obtain ⟨hquiet, hpassed⟩ := hcount hn
    simp only [b, maFire_eq]
    split
    · exact hpassed
    · exact hquiet
  rw [show b.chan p = _ from hch]
  exact ⟨rfl, rfl, rfl, henv, hone, hev⟩

/-- A time match that had passed counts event 5. -/
theorem mtFire_late (hp : p < 384) (hd : s.dead p = false) (h : (s.chan p).mtPassed = true) (hn : s.evCount p 5 < 3) :
    (s.mtFire p).evCount p 5 = s.evCount p 5 + 1 := by
  rw [mtFire_eq, if_pos h]
  exact (fired_counts (k := 1) hp hd (by decide) (by decide) (by decide) _ _).2 hn

/-- An angle match that had passed counts event 5. -/
theorem maFire_late (hp : p < 384) (hd : s.dead p = false) (h : (s.chan p).maPassed = true) (hn : s.evCount p 5 < 3) :
    (s.maFire p).evCount p 5 = s.evCount p 5 + 1 := by
  rw [maFire_eq, if_pos h]
  exact (fired_counts (k := 2) hp hd (by decide) (by decide) (by decide) _ _).2 hn

/-- A channel that the pipeline holds nothing on has nothing of it due. -/
theorem pipeDue_idle (hpipe : (s.chan p).pipe = none) (hact : (s.chan p).act = none) : s.pipeDue p = s := by
  unfold State.pipeDue
  rw [hpipe, hact]

end

/-! ### The steps where a match is due -/

section

variable {s a : State} {t : Nat} {p : Channel}

theorem exec_timeMatchFire_due (ha : a = s.advance t) (hok : State.tbd 1 a = true) (hpipe : (a.chan p).pipe = none)
    (hact : (a.chan p).act = none) (hma : a.maDue p = false) (hmt : a.mtDue p = true) :
    exec (.timeMatchFire t p) s = .next (a.keep (a.mtFire p)) := by
  have hbefore : a.beforeTime p = a := by
    rw [State.beforeTime, pipeDue_idle hpipe hact, hma]
    rfl
  rw [exec_timeMatchFire, execTimeMatchFire, act_at ha hok, hbefore, if_pos hmt]

theorem exec_angleMatchFire_due (ha : a = s.advance t) (hok : State.tbd 1 a = true) (hpipe : (a.chan p).pipe = none)
    (hact : (a.chan p).act = none) (hma : a.maDue p = true) (hcpl : (a.chan p).maCpl = false) :
    exec (.angleMatchFire t p) s = .next (a.keep (a.maFire p)) := by
  rw [exec_angleMatchFire, execAngleMatchFire, act_at ha hok, pipeDue_idle hpipe hact]
  dsimp only
  rw [hma, hcpl]
  rfl

theorem exec_coupledMatchFire_due (ha : a = s.advance t) (hok : State.tbd 1 a = true) (hpipe : (a.chan p).pipe = none)
    (hact : (a.chan p).act = none) (hma : a.maDue p = true) (hcpl : (a.chan p).maCpl = true) :
    exec (.coupledMatchFire t p) s = .next (a.keep (a.maFire p)) := by
  rw [exec_coupledMatchFire, execCoupledMatchFire, act_at ha hok, pipeDue_idle hpipe hact]
  dsimp only
  rw [hma, hcpl]
  rfl

end

/-- Settles O19: in each clause the match is due, and its firing leaves what `mtFire_left` or `maFire_left` says. -/
theorem matchFires : Obligations.MatchFires := by
  intro s a t p ha hok hd hpipe hact
  have hp : p.val < 384 := Nat.lt_trans p.isLt (by decide)
  have hmt (harm : (a.chan p).mtArm = true) (hfrom : (a.chan p).mtFrom ≤ a.tb) (hT : (a.chan p).mtT ≤ a.tb + a.mtLead p) :
      a.mtDue p = true := by
    simp [State.mtDue, hd, harm, hpipe, hfrom, hT]
  have hangle (harm : (a.chan p).maArm = true) (hfrom : (a.chan p).maFrom ≤ a.tb) (hcpl : (a.chan p).maCpl = false)
      (hvalid : a.ang.valid = true) (hA : a.anglePassed (a.chan p).maA = true) : a.maDue p = true := by
    simp [State.maDue, hd, harm, hpipe, hfrom, hcpl, hvalid, hA]
  have hcoupled {f : Nat} (harm : (a.chan p).maArm = true) (hfrom : (a.chan p).maFrom ≤ a.tb) (hcpl : (a.chan p).maCpl = true)
      (hfix : a.fixTime (a.chan p).maA = some f) (hmay : a.mayFire (a.chan p).maA f (a.mtLead p) = true) : a.maDue p = true := by
    simp [State.maDue, hd, harm, hpipe, hfrom, hcpl, hfix, hmay]
  have hmtLeft := mtFire_left hp hd
  have hmaLeft := maFire_left hp hd
  refine ⟨fun harm hfrom hT hma _ => ?time, fun harm hfrom hT hma hpass => ?timePassed, fun harm hfrom hcpl hvalid hA _ => ?angle,
    fun harm hfrom hcpl hvalid hA hpass => ?anglePassed, fun f harm hfrom hcpl hfix hmay _ => ?coupled,
    fun f harm hfrom hcpl hfix hmay hpass => ?coupledPassed⟩
  case time => exact ⟨_, exec_timeMatchFire_due ha hok hpipe hact hma (hmt harm hfrom hT), hmtLeft⟩
  case timePassed =>
    obtain ⟨hoff, hnow, hother, henv, hone, hev⟩ := hmtLeft
    exact ⟨_, exec_timeMatchFire_due ha hok hpipe hact hma (hmt harm hfrom hT), hoff, hnow, hother, henv, hone, hev,
      mtFire_passed hp hpass, mtFire_late hp hd hpass⟩
  case angle => exact ⟨_, exec_angleMatchFire_due ha hok hpipe hact (hangle harm hfrom hcpl hvalid hA) hcpl, hmaLeft⟩
  case anglePassed =>
    obtain ⟨hoff, hnow, hother, henv, hone, hev⟩ := hmaLeft
    exact ⟨_, exec_angleMatchFire_due ha hok hpipe hact (hangle harm hfrom hcpl hvalid hA) hcpl, hoff, hnow, hother, henv, hone, hev,
      maFire_passed hp hpass, maFire_late hp hd hpass⟩
  case coupled => exact ⟨_, exec_coupledMatchFire_due ha hok hpipe hact (hcoupled harm hfrom hcpl hfix hmay) hcpl, hmaLeft⟩
  case coupledPassed =>
    obtain ⟨hoff, hnow, hother, henv, hone, hev⟩ := hmaLeft
    exact ⟨_, exec_coupledMatchFire_due ha hok hpipe hact (hcoupled harm hfrom hcpl hfix hmay) hcpl, hoff, hnow, hother, henv, hone, hev,
      maFire_passed hp hpass, maFire_late hp hd hpass⟩

end Sys2Proof.Machine
end


section
/-! The counterexample to the statement on the commands of channels. -/

namespace Sys2Proof.Machine

open Reg

/-! ### Two soft-offs of one group (R266) -/

/-- Channels 0 and 1 of group 1 have started their soft-offs SOFT_T ago and now. -/
def twoSoftOffs : State := { up with out := { soft := [(1, 0, 0), (1, 1, up.softT)] } }

/-- At the instant of the second start the first is SOFT_T ago, and the SOFT pins of the group do not fall yet. -/
theorem twoSoftOffs_run :
    let a := twoSoftOffs.advance up.softT
    State.core 1 a = true ∧ a.tbOn = true ∧ a.softRuns 1 = true ∧ (1, 0, 0) ∈ a.out.soft ∧ 0 + a.softT ≤ a.tb ∧
    (a.softEnd 1).softRuns 1 = true := by decide +kernel

/-- Refutes O18: its clause of SOFT_OFF_END lets the SOFT pins of a group fall SOFT_T after any soft-off start of the group; they fall
SOFT_T after its latest (R266). -/
theorem not_channelCommands : ¬ Obligations.ChannelCommands := by
  intro h
  obtain ⟨hok, htb, hruns, hmem, hdue, hstill⟩ := twoSoftOffs_run
  obtain ⟨-, -, -, -, -, -, -, -, hsoft⟩ := h twoSoftOffs _ up.softT rfl hok htb
  obtain ⟨b, hb, hgone, -⟩ := hsoft 1 hruns (1, 0, 0) hmem rfl hdue
  have hok1 : State.tbd 1 (twoSoftOffs.advance up.softT) = true := by decide +kernel
  have hex : exec (.softOffEnd up.softT 1) twoSoftOffs = _ := (exec_softOffEnd _ _ _).trans (act_at rfl hok1)
  rw [Host.Outcome.next.inj (hb.symm.trans hex)] at hgone
  exact absurd (hstill.symm.trans hgone) (by decide)

end Sys2Proof.Machine
end
